-- ==== Sys2Proof/Word.lean ====
section
/-! DEFINITION. Words, bytes and the plainest arithmetic over them. -/
namespace Sys2Proof

/-- One octet. -/
abbrev Byte := BitVec 8
/-- A 32-bit register word (00 R7). -/
abbrev Word := BitVec 32

end Sys2Proof
end

