-- ==== Sys2Proof/Names.lean ====
section
/-! DEFINITION. The names the commands and tables use: access codes (00 R9), the registers of the field tables, the two host
functions (17 R476), the transports of Vostan messages (16 R451), and the closed sets that operands range over. -/
namespace Sys2Proof

/-- Access codes of 00 R9. -/
inductive Acc where
  | rw | ro | wo | w1c | rc | rws
  deriving DecidableEq, Repr

/-- A PCIe physical function (17 R476): PF0 privileged, PF1 unprivileged. -/
inductive Fn where
  | pf0 | pf1
  deriving DecidableEq, Repr

/-- The registers of the part, by the names of the chapters' field tables. The spec gives block offsets for the host interface
block only (17 R494), so a register is addressed by name and instance (assumption log 5). -/
inductive RegName where
  | xzRayQuery
  | xzRayStatus
  | xzRayHogel
  | xzRayView
  | xzRayLens
  | xzRaySx
  | xzRaySy
  | xzSlotStatus
  | xzLoadCtrl
  | xzLoadSrcLo
  | xzLoadSrcHi
  | xzLoadLen
  | xzActCtrl
  | xzActTickLo
  | xzActTickHi
  | xzResult
  | dcFormat
  | dcInputStatus
  | dcEngineStatus
  | dcCtxSel
  | dcCtxStatus
  | esStatus
  | esEvents
  | esBrushOut
  | esBrushFault
  | esTiming
  | esFrameCycles
  | esBoundsRays
  | esBoundsSlice
  | esBackgroundR
  | esBackgroundG
  | esBackgroundB
  | plLayerCfg
  | plLayerStatus
  | plFrameStatus
  | plEvents
  | gzStatus
  | stCfg
  | stStatus
  | stCmd
  | stFmt
  | stSrcBaseLo
  | stSrcBaseHi
  | stDstBaseLo
  | stDstBaseHi
  | stListBaseLo
  | stListBaseHi
  | stSrcPitch
  | stDstPitch
  | stSrcSize
  | stDstSize
  | stOpSize
  | stSrcXy
  | stDstXy
  | stClipMin
  | stClipMax
  | stFg
  | stBg
  | stClipEn
  | stWaitRow
  | stTag
  | stListCtrl
  | stListHead
  | stListTail
  | stWmCfg
  | stError
  | pdCtrl
  | pdStatus
  | pdLaneLost
  | pdLaneFault
  | pdEvents
  | pdFlipTickLo
  | pdFlipTickHi
  | pdFrames
  | pdLaneCfg
  | enStatus
  | enEvents
  | enRing
  | lnLaneStatus
  | lnLaneTaps
  | lnEye
  | lnTestCtrl
  | lnTestUserLo
  | lnTestUserHi
  | lnTestErrors
  | lnPortStatus
  | lnFailedLo
  | lnFailedHi
  | rgRxMap
  | rgTxMap
  | rgFecErrors
  | rgKeep
  | rgEvents
  | tbNowLo
  | tbNowHi
  | tbNextFlipLo
  | tbNextFlipHi
  | tbStatus
  | tbOffsetA
  | tbOffsetB
  | tbEvents
  | mcStatus
  | mcPortStatus
  | mcEccStatus
  | mcErrAddrLo
  | mcErrAddrHi
  | mcEvents
  | mcPdIdle
  | cxStatus
  | cxEvents
  | ckCfg
  | ckSnoopCount
  | ckPolyLo
  | ckPolyHi
  | ckInitLo
  | ckInitHi
  | ckXoroutLo
  | ckXoroutHi
  | ckExpectLo
  | ckExpectHi
  | ckValueLo
  | ckValueHi
  | ckResultLo
  | ckResultHi
  | ckDataB
  | ckDataH
  | ckDataW
  | ckCtrl
  | ckStatus
  | dyStatus
  | dyCommitCtrl
  | dyCommitId
  | dyAcceptTickLo
  | dyAcceptTickHi
  | dyCommitResult
  | dyEvents
  | hiLinkStatus
  | hiWinBase
  | hiMbxCtrl
  | hiJqCfg
  | hiEqCfg
  | hiJqBaseLo
  | hiJqBaseHi
  | hiEqBaseLo
  | hiEqBaseHi
  | hiJqPtr
  | hiEqPtr
  | hiEqDrops
  | btStatus
  | btResetCause
  | btJournal
  | btCmd
  | fmCpStatus
  | pmStatus
  | pmRail
  | pmEvents
  | tmStatus
  | tmSite
  | tmEvents
  | clStatus
  | clItem
  | fmStatus
  | fmEvents
  | fmClear
  | fmLogSeq
  | fmWindowEndLo
  | fmWindowEndHi
  | tmLife
  | tmPoweredHours
  | rgRingId
  /- The host interface block's tables and buffers (17 R494), by 32-bit word: the instance is the word's number. -/
  | hiMsixTable
  | hiMsixPba
  | hiRequestBuf
  | hiReplyBuf
  | hiNotifyBuf
  deriving DecidableEq, Repr

/-- The source of a Vostan message (16 R451, R462): transport 0 UDP, 1 side channel, 2 mailbox; the IPv4 address, ring position or
function number; the UDP port. -/
structure VAddr where
  tr : Nat
  a : Nat
  p : Nat
  deriving DecidableEq, Repr

/-- How a host names a register: by its name and instance, with `active` for the copy that 00 R11 shows; or by an offset of BAR0
(17 R478), which reaches the blocks of 00 R18 and what lies between registers (assumption log 5). -/
inductive RegAt where
  | named (reg : RegName) (inst : Nat) (active : Bool)
  | offset (o : Nat)
  deriving DecidableEq, Repr

/-- What befalls DRAM as a step reads it (14 R408 to R411; assumption log 13). -/
inductive DramErr where
  /-- A stored bit of a burst has flipped: 0 to 511 data, 512 to 527 its check word. -/
  | flip (burst bit : Nat)
  /-- Link ECC corrects an error of a read of the burst. -/
  | link (burst : Nat)
  /-- A read of the burst fails link ECC, once or, repeated, again. -/
  | fail (burst : Nat) (again : Bool)
  deriving DecidableEq, Repr

/-- The bit is one of a burst and its check word. -/
def DramErr.wf : DramErr → Bool
  | .flip _ i => decide (i < 528)
  | .link _ => true
  | .fail _ _ => true

/-- A journal transaction that a reset or a shutdown cuts (18 R500, R501): how many of its word writes are complete, and its home words, each
with its MRAM word address and its 32 octets. -/
structure MramCut where
  written : Nat
  homes : List (Nat × List Byte)
  deriving DecidableEq, Repr

/-- A transaction of 1 to 4,096 home words. -/
def MramCut.wf (t : MramCut) : Bool :=
  decide (1 ≤ t.homes.length) && decide (t.homes.length ≤ 4096) && t.homes.all (fun h => decide (h.1 < 2 ^ 19) && decide (h.2.length = 32))

/-- Flipped bits of an MRAM word: bits 0 to 255 are data, 256 to 265 its check bits (18 R499). -/
def mramFlipWf (f : Nat × Nat) : Bool := decide (f.1 < 2 ^ 19) && decide (f.2 < 2 ^ 266)

end Sys2Proof
end

