-- ==== Sys2Proof/Syntax.lean ====
section
/-! DEFINITION. The commands of the LK-7400 block: one constructor for each row of the opcode table, in its order. The table gives
no operands: they are what the rule of the row says arrives from outside (assumption log 2). Every command's first operand is the
time since the command before it, in units of 2^-16 ns (assumption log 4). -/
namespace Sys2Proof

/-- A command. -/
inductive Instr where
  /-- POWER_ON (R578): The last board rail enters its window, the crystal oscillator starts and the power-on timing begins. -/
  | powerOn (dt : Nat) (low : Bool)
  /-- POR_RELEASE (R504): The always-on power-on reset is released; the boot ROM starts, the journal is replayed, the failed start is counted and firmware, rollback or Tadpole is chosen. -/
  | porRelease (dt reach : Nat) (strap : Bool) (mr : List (Nat × Nat)) (status : List (Option Nat))
  /-- TADPOLE_SUPPLY_RETRY (R508): Every 10 s the Tadpole code tries again to enable supplies whose PWR_GOOD did not follow. -/
  | tadpoleSupplyRetry (dt : Nat)
  /-- WARM_RESET (R579): RESET_N is low for 1 µs; MRAM writing stops, the lanes go idle and DRAM enters self-refresh. -/
  | warmReset (dt : Nat) (cut : Option MramCut)
  /-- RESET_N_RISE (R579): RESET_N rises after a warm reset, and zero of the start follows within 1 ms. -/
  | resetNRise (dt : Nat)
  /-- START_TIMEOUT (R507): START_COMPLETE has not been posted 2 s after zero, so the supervisor issues a warm reset. -/
  | startTimeout (dt : Nat) (cut : Option MramCut)
  /-- PWR_GOOD_RISE (R519): A part-sequenced rail reports good, and the power sequence moves to its next step. -/
  | pwrGoodRise (dt k : Nat) (fails : List (Nat × Nat)) (target : Nat)
  /-- SEQUENCE_FAILED (R520): A PWR_GOOD is late, a board rail is out of window or an island does not settle, so the sequence is unwound. -/
  | sequenceFailed (dt : Nat) (island : Option Nat)
  /-- DRAM_TRAINING_COMPLETE (R405): DRAM training and zero-fill finish, and the ports, the dictionary server and the ring are brought up. -/
  | dramTrainingComplete (dt : Nat) (devs : List (List Nat)) (fail : Option (Nat × Nat × Nat))
  /-- SUPPLY_FAIL (R518): A rail leaves its window, SUPPLY_FAIL_N is low or a PWR_GOOD falls, so MRAM writing stops and shutdown is ordered. -/
  | supplyFail (dt rail : Nat) (fell : Bool) (cut : Option MramCut)
  /-- SHUTDOWN_RESTART (R522): The conditions after a shutdown are met, so the supervisor turns the regulators back on and restarts the part. -/
  | shutdownRestart (dt : Nat)
  /-- THERMAL_ROUND (R529): The sites convert, the cross-check excludes a site if needed, T_MAX is formed and the thermal levels are evaluated. -/
  | thermalRound (dt : Nat) (readings : List (Int × Int × Bool)) (cut : Option MramCut)
  /-- SITE_READMITTED (R530): An excluded site has stayed within 6 °C of its estimate for 10 s and becomes valid again. -/
  | siteReadmitted (dt site : Nat)
  /-- THROTTLE_HOLD_EXPIRY (R534): The 2 s hold of THROTTLE ends. -/
  | throttleHoldExpiry (dt : Nat)
  /-- AVS_UPDATE (R525): Every 1 ms CP-B reads the slack monitors and adjusts the VDD_CORE target. -/
  | avsUpdate (dt slack : Nat)
  /-- AVS_EMERGENCY (R525): A monitor reports slack below 3 %, so hardware raises the target by 25 mV at once. -/
  | avsEmergency (dt island slack : Nat)
  /-- PMBUS_POLL (R526): Every 10 ms the part reads the telemetry of each addressed regulator. -/
  | pmbusPoll (dt : Nat) (answers : List (Nat × Option (Nat × Nat)))
  /-- PMB_ALERT (R526): PMB_ALERT_N falls and STATUS_WORD is read again. -/
  | pmbAlert (dt : Nat) (status : List (Option Nat))
  /-- REFCLK_LOST (R527): REFCLK is out of range for 10 µs. -/
  | refclkLost (dt : Nat)
  /-- PLL_UNLOCK (R527): A core PLL loses lock. -/
  | pllUnlock (dt pll : Nat)
  /-- REFERENCE_COMPARE (R537): Every 1 s the two band-gap references are compared. -/
  | referenceCompare (dt : Nat) (diff : Int)
  /-- RECAL_TRIGGER (R539): RECAL_PERIOD expires or T_MAX moves by RECAL_DELTA_T, so an instance is recalibrated. -/
  | recalTrigger (dt item idx : Nat) (free : Bool)
  /-- CAL_NOW (R539): A write to CAL_NOW recalibrates the named item, or every item. -/
  | calNow (dt item : Nat)
  /-- CAL_INSTANCE_DONE (R541): One calibration instance ends and its code, residual and quality are updated. -/
  | calInstanceDone (dt item idx residual : Nat) (codes : List Int)
  /-- ISLAND_GATE_CHANGE (R523): An island gates or ungates within 1 µs of its condition. -/
  | islandGateChange (dt : Nat)
  /-- LIFE_UPDATE (R586): Every powered hour the service-life entries are updated. -/
  | lifeUpdate (dt : Nat)
  /-- CP_MISMATCH (R496): The lock-step comparison of a control pair differs, and the pair stops. -/
  | cpMismatch (dt pair : Nat)
  /-- CP_WATCHDOG (R496): The watchdog of a control pair expires, and the pair stops. -/
  | cpWatchdog (dt pair : Nat)
  /-- CP_RESTART_DONE (R497): A stopped pair has reloaded and resumes; sessions or slot states are cleaned up, or the servos resume. -/
  | cpRestartDone (dt pair : Nat)
  /-- FW_LOAD_BEGIN (R511): FW_LOAD_CMD BEGIN opens a firmware load into the slot that is not running. -/
  | fwLoadBegin (dt : Nat)
  /-- FW_LOAD_DATA (R511): A segment of slot bytes is appended through the journal. -/
  | fwLoadData (dt : Nat) (bytes : List Byte)
  /-- FW_LOAD_END (R511): FW_LOAD_CMD END closes the load and starts its checks. -/
  | fwLoadEnd (dt : Nat)
  /-- FW_LOAD_ABORT (R515): FW_LOAD_CMD ABORT discards a firmware load. -/
  | fwLoadAbort (dt : Nat)
  /-- FW_CHECK_DONE (R511): The slot checks end and the slot becomes VALID or INVALID. -/
  | fwCheckDone (dt : Nat)
  /-- BOOT_RESTART (R510): BOOT_CMD RESTART clears the Tadpole latch and the failed starts, and restarts the part. -/
  | bootRestart (dt : Nat) (cut : Option MramCut)
  /-- BOOT_TRY_OTHER (R512): BOOT_CMD TRY_OTHER marks the other slot TRIAL for the next start. -/
  | bootTryOther (dt : Nat)
  /-- BOOT_CONFIRM (R512): BOOT_CMD CONFIRM confirms the trial slot at once. -/
  | bootConfirm (dt : Nat)
  /-- BOOT_CLEAR_SETTINGS (R515): BOOT_CMD CLEAR_SETTINGS returns the persistent settings to their defaults. -/
  | bootClearSettings (dt : Nat)
  /-- TRIAL_CONFIRM_TIMER (R512): A trial that has run 60 s after START_COMPLETE without a lock-step fault is confirmed. -/
  | trialConfirmTimer (dt : Nat)
  /-- KEY_WRITE (R513): An Installer, proof-of-play or Xezor key is written as a journal transaction. -/
  | keyWrite (dt key : Nat) (bytes : List Byte)
  /-- VOSTAN_READ (R456): A READ request is checked and answered with one result per address. -/
  | vostanRead (dt : Nat) (src : VAddr) (msg : List Byte) (mr : List (Nat × Nat))
  /-- VOSTAN_WRITE (R457): A WRITE request is checked item by item and its items are applied together, with persistence. -/
  | vostanWrite (dt : Nat) (src : VAddr) (msg : List Byte) (store : Bool)
  /-- BLOCK_READ (R458): A BLOCK_READ returns one segment of a value. -/
  | blockRead (dt : Nat) (src : VAddr) (msg : List Byte)
  /-- BLOCK_WRITE (R458): A BLOCK_WRITE segment is accepted, and the value is applied at its last segment. -/
  | blockWrite (dt : Nat) (src : VAddr) (msg : List Byte) (store : Bool)
  /-- BLOCK_TRANSFER_ABANDON (R458): A block transfer has had no segment for 10 s and is abandoned. -/
  | blockTransferAbandon (dt session : Nat)
  /-- SUBSCRIBE (R464): A SUBSCRIBE creates, replaces or cancels a subscription. -/
  | subscribe (dt : Nat) (src : VAddr) (msg : List Byte)
  /-- COMMIT (R466): A COMMIT with ACTION 1 freezes the staged set into a numbered commit record. -/
  | commit (dt : Nat) (src : VAddr) (msg : List Byte)
  /-- COMMIT_DISCARD (R466): A COMMIT with ACTION 2 returns the staged shadows to their coming active values. -/
  | commitDiscard (dt : Nat) (src : VAddr) (msg : List Byte)
  /-- PF0_COMMIT (R475): A write of DY_COMMIT_CTRL.ACTION 1 acts as a COMMIT from PF0. -/
  | pf0Commit (dt : Nat)
  /-- PF0_DISCARD (R475): A write of DY_COMMIT_CTRL.ACTION 2 acts as a DISCARD from PF0. -/
  | pf0Discard (dt : Nat)
  /-- LOGIN_CHALLENGE (R460): LOGIN step 1 allocates a session and returns the challenge. -/
  | loginChallenge (dt : Nat) (src : VAddr) (msg : List Byte)
  /-- LOGIN_PROOF (R460): LOGIN step 2 checks the proof and opens an Installer session, or fails the login. -/
  | loginProof (dt : Nat) (src : VAddr) (msg : List Byte)
  /-- LOGIN_LOGOUT (R460): LOGIN step 3 closes the session. -/
  | loginLogout (dt : Nat) (src : VAddr) (msg : List Byte)
  /-- LOGIN_CHALLENGE_TIMEOUT (R460): No correct proof arrives within 10 s of the challenge, and the half-open session closes. -/
  | loginChallengeTimeout (dt session : Nat)
  /-- SESSION_TIMEOUT (R463): A session has had no valid request for SESSION_TIMEOUT and is closed. -/
  | sessionTimeout (dt session : Nat)
  /-- LOCKOUT_EXPIRY (R462): LOCKOUT_TIME ends for a source. -/
  | lockoutExpiry (dt : Nat) (src : VAddr)
  /-- CYCLIC_NOTIFY (R464): A CYCLIC subscription's period expires and its value is sent. -/
  | cyclicNotify (dt session sub : Nat) (full : Bool)
  /-- ON_CHANGE_NOTIFY (R464): An ON_CHANGE value differs, or its gap ends, and the value is sent. -/
  | onChangeNotify (dt session sub : Nat) (full : Bool)
  /-- EVENT_BATCH_SEND (R465): An EVENTS message is sent when it is full or 1 ms after its first record. -/
  | eventBatchSend (dt session sub : Nat) (full : Bool)
  /-- RELAY_REPLY (R471): A relayed reply returns from a member and is sent to the UDP source. -/
  | relayReply (dt pos : Nat) (msg : List Byte)
  /-- RELAY_TIMEOUT (R471): A relay has had no reply for 1 s and is dropped. -/
  | relayTimeout (dt : Nat)
  /-- MAILBOX_GO (R489): HI_MBX_CTRL.GO submits the request buffer, and the reply is written with REPLY_READY and vector 64. -/
  | mailboxGo (dt : Nat) (fn : Fn) (store : Bool)
  /-- PCIE_LINK_RESET (R477): PERST_N, a hot reset or a link-down resets the host interface of both functions. -/
  | pcieLinkReset (dt : Nat)
  /-- FUNCTION_LEVEL_RESET (R477): An FLR resets the host interface state of one function. -/
  | functionLevelReset (dt : Nat) (fn : Fn)
  /-- HOST_LINK_UP (R492): The PCIe link trains up. -/
  | hostLinkUp (dt width speed : Nat)
  /-- EQ_ENABLE (R485): ENABLE of an event queue goes from 0 to 1, HEAD and TAIL are cleared, and the held records are written. -/
  | eqEnable (dt queue : Nat)
  /-- EQ_HEAD_WRITE (R485): The host writes HEAD of an event ring, freeing entries. -/
  | eqHeadWrite (dt queue value : Nat)
  /-- EQ_RECORD_WRITE (R485): A held event record is written by DMA to its host ring once there is room. -/
  | eqRecordWrite (dt queue : Nat)
  /-- MSIX_COALESCE (R486): A COAL_US interval ends with records written, and the MSI-X message is sent. -/
  | msixCoalesce (dt queue : Nat)
  /-- JQ_TAIL_WRITE (R487): A write of a job queue TAIL makes descriptors available to its engine. -/
  | jqTailWrite (dt queue value : Nat)
  /-- JQ_DISABLE (R487): ENABLE of a job queue is cleared, and the queue stops after the running job. -/
  | jqDisable (dt queue : Nat)
  /-- DMA_JOB_DONE (R488): A DMA job ends and writes back its length and result. -/
  | dmaJobDone (dt moved : Nat) (bytes : List Byte) (err : Bool) (ue : List DramErr)
  /-- IRQ_ACK (R490): A write of IRQ_ACK deasserts the named IRQ pins. -/
  | irqAck (dt mask : Nat)
  /-- WINDOW_ACCESS (R480): A host access to the BAR2 DRAM window is served, or refused and counted. -/
  | windowAccess (dt offset : Nat) (write : Bool) (len : Nat) (bytes : List Byte) (ue : List DramErr)
  /-- REGISTER_WRITE (R9): A write to a register that has no row of its own is applied under its access code, or denied for PF1. -/
  | registerWrite (dt : Nat) (fn : Fn) (at_ : RegAt) (value : Nat) (store : Bool) (ue : List DramErr)
  /-- FRAME_FLIP (R15): At a flip instant the activation, the commit records and the rate change apply, and Palette, Easel, decode, the encoder and panel drive start their next frames. -/
  | frameFlip (dt reached : Nat) (store : Bool) (cut : Option MramCut) (bad : List Nat) (ue : List DramErr)
  /-- FLIP_PRE_NOTICE (R38): 1 µs before each flip the time island sends the flip Tick to every island. -/
  | flipPreNotice (dt : Nat)
  /-- COMPARE_EVENT (R380): An armed compare event fires when its target Tick is reached. -/
  | compareEvent (dt : Nat)
  /-- PTP_MESSAGE (R389): A PTP message is stamped and taken by the boundary clock, its BMCA and its servo. -/
  | ptpMessage (dt port domain kind : Nat) (x : List Int)
  /-- PTP_SEND_TIMER (R389): A sync or announce interval expires and the messages go out on the master ports. -/
  | ptpSendTimer (dt port domain kind : Nat)
  /-- SYNC_TIMEOUT (R393): No Sync arrives for 3 intervals and the domain becomes LOST. -/
  | syncTimeout (dt domain : Nat)
  /-- ANNOUNCE_TIMEOUT (R393): announceReceiptTimeout expires and the domain becomes LOST. -/
  | announceTimeout (dt domain : Nat)
  /-- RATE_SCHEDULE (R385): RATE_CMD SCHEDULE schedules a flip rate change. -/
  | rateSchedule (dt : Nat)
  /-- RATE_CANCEL (R385): RATE_CMD CANCEL withdraws a pending rate change. -/
  | rateCancel (dt : Nat)
  /-- TIME_STEP (R395): A write of TIME_STEP steps the Tick to the active domain. -/
  | timeStep (dt : Nat)
  /-- DOMAIN_SWITCH_MESSAGE (R398): A DOMAIN_SWITCH signaling message arrives and its SWITCH_TICK is set. -/
  | domainSwitchMessage (dt domain tick : Nat)
  /-- SWITCH_TICK (R398): At SWITCH_TICK the part starts the slew to the new domain or enters holdover. -/
  | switchTick (dt : Nat)
  /-- SWITCH_NO_MESSAGE_TIMER (R398): The active domain has been lost for 100 ms without a message, so the part decides its own switch. -/
  | switchNoMessageTimer (dt : Nat)
  /-- REVERT_TIMER (R399): The preferred domain has been LOCKED for 60 s while REVERTIVE is set, so the part switches back. -/
  | revertTimer (dt : Nat)
  /-- HOLDOVER_EXPIRED (R396): HOLDOVER_LIMIT passes in holdover. -/
  | holdoverExpired (dt : Nat)
  /-- PORT_BRINGUP_START (R329): A ring port starts bring-up at code 0 after reset or a change of PORT_ENABLE to 1. -/
  | portBringupStart (dt port : Nat)
  /-- PORT_RETRAIN (R351): A write of PORT_RETRAIN starts the bring-up of a port again. -/
  | portRetrain (dt port : Nat)
  /-- LANE_CONTROL_FRAME (R328): A lane control frame is received and acted on: pairing, CHANGE countdown, tap requests, results, loop or power. -/
  | laneControlFrame (dt lane : Nat) (bytes : List Byte)
  /-- LEADER_STEP_TIMER (R331): 10 ms after the first lane paired, the leader starts the first step or the port fails training. -/
  | leaderStepTimer (dt port : Nat)
  /-- TRAIN_RETRY (R331): A port that failed training starts again after 1 s. -/
  | trainRetry (dt port : Nat)
  /-- RELOCK_DONE (R332): Both ends have relocked at the new code, and adaptation begins. -/
  | relockDone (dt port : Nat) (ok : List Nat) (bad : List (Nat × Nat))
  /-- ADAPTATION_DONE (R336): Adaptation ends by convergence or at its limit, and RX_READY is set. -/
  | adaptationDone (dt lane h w : Nat)
  /-- STEP_CHECK_DONE (R332): The 500 µs check ends; lanes pass or fail and the port steps, falls back or comes up. -/
  | stepCheckDone (dt port : Nat) (res : List (Nat × Nat × Nat × Nat × Nat)) (solo : Option Nat)
  /-- NO_PARTNER_TIMEOUT (R330): No lane of a port has detected a signal for 100 ms, so its lanes enter Brumation. -/
  | noPartnerTimeout (dt port : Nat)
  /-- LANE_FAILURE_DETECT (R339): `seen`: what the receiver sees of its line meanwhile: the code groups of an 8b/10b lane (0 invalid, 1 data, 2 comma, 3 another special one), the sync headers of a 64b/66b lane. -/
  | laneFailureDetect (dt lane cause : Nat) (seen : List Nat)
  /-- LANE_RETRAIN (R340): A ring lane ordered out of service retrains in the background. -/
  | laneRetrain (dt lane : Nat)
  /-- RETRAIN_RETRY (R340): 1 s after a failed retraining it starts again. -/
  | retrainRetry (dt lane : Nat)
  /-- EYE_UPDATE (R338): Every 10 ms the eye figures of a lane are updated. -/
  | eyeUpdate (dt lane h w errors nbits : Nat)
  /-- QUIET_CHECK_PERIOD (R345): Every 100 ms a QUIET spare spends 200 µs in L0. -/
  | quietCheckPeriod (dt lane h w : Nat)
  /-- BRUMATION_EXIT (R345): A signal or a wake restarts a lane at its last good rate. -/
  | brumationExit (dt port : Nat)
  /-- LANE_TEST (R349): LANE_CMD TEST moves a lane into TEST with its loop and pattern. -/
  | laneTest (dt lane : Nat)
  /-- LANE_RETURN (R349): LANE_CMD RETURN ends TEST, and the lane retrains or links up. -/
  | laneReturn (dt lane : Nat)
  /-- TEST_INJECT (R348): A write of INJECT inverts one transmitted bit. -/
  | testInject (dt lane : Nat)
  /-- RETURN_LANE_SYNC_LOSS (R342): `seen`: the code groups at the receiver (0 invalid, 1 data, 2 comma, 3 another special one). -/
  | returnLaneSyncLoss (dt r : Nat) (seen : List Nat)
  /-- RING_FRAME_RX (R357): A ring frame is received on `port`: its 648 or 680 words in the order of the word stream, and by stripe the skew with which it came, in words. -/
  | ringFrameRx (dt port : Nat) (words skew : List Nat)
  /-- RING_SLICE_RX (R364): A ring slice is received on `port`: header words, the payload octets that came (fewer than LENGTH for a truncated slice), trailer word; it began `back` content words before the end of the last frame received; `bad` names the scan blocks that fail the check of panel drive as it comes to them. -/
  | ringSliceRx (dt port h0 h1 h2 h3 : Nat) (payload : List Byte) (trailer back : Nat) (bad : List Nat)
  /-- RING_ENUMERATE (R23): A write of RING_ENUMERATE starts an enumeration on the head. -/
  | ringEnumerate (dt : Nat)
  /-- ENUM (R23): An ENUM message is received, and the part takes its position and passes the message on East. -/
  | enumMsg (dt port dst : Nat) (tiles : List Nat)
  /-- ENUM_DONE (R363): ENUM_DONE gives the ring size, positions, closure and downstream masks. -/
  | enumDone (dt port dst src : Nat) (tiles : List Nat) (closed : Nat)
  /-- INDEX_CHANGED (R23): INDEX_CHANGED reaches the head, which enumerates within 10 ms. -/
  | indexChanged (dt port dst src old new : Nat)
  /-- MAPS (R371): A MAPS message tells which degraded maps the partner holds. -/
  | mapsMsg (dt port tx rx : Nat)
  /-- MAP_REQ (R369): A MAP_REQ asks the transmitter to change its stripe set, or to readmit a lane. -/
  | mapReq (dt port failed : Nat) (readmit : Bool) (id : Nat)
  /-- MAP_ACK (R369): A MAP_ACK ends the repetition of a MAP_REQ. -/
  | mapAck (dt port id : Nat)
  /-- MAP_REQ_REPEAT (R367): A MAP_REQ that has no MAP_ACK is repeated every 10 µs. -/
  | mapReqRepeat (dt port : Nat)
  /-- STATUS_MSG_TIMER (R367): Every 1 ms a STATUS message is sent toward the feeder in both directions. -/
  | statusMsgTimer (dt : Nat)
  /-- SIDE_CHANNEL_FORWARD (R367): A side-channel message for another part is forwarded or queued, or dropped when the queue is full. -/
  | sideChannelForward (dt port : Nat) (bytes : List Byte)
  /-- LANE_OUT_ORDER (R369): The fault manager orders a ring lane out and the new FAILED_SET and BASE are computed. -/
  | laneOutOrder (dt lane : Nat)
  /-- MAP_CHANGE_SEND (R369): The transmitter of `port` looks at the change that waits; `left` octets of the ring slice in progress are still to send. -/
  | mapChangeSend (dt port left : Nat)
  /-- LANE_CLEAN (R370): A retrained lane has been clean for 1 s, and MAP_REQ READMIT is sent. -/
  | laneClean (dt lane errors : Nat)
  /-- DECISION_POINT (R282): At T_F minus FLIP_LEAD, panel drive stops the load and sends FLIP, BLANK or nothing. -/
  | decisionPoint (dt : Nat)
  /-- LANE_LOAD_COMPLETE (R278): The last packet of a lane's frame load leaves the serialiser. -/
  | laneLoadComplete (dt lane : Nat)
  /-- PANEL_BUFFER_FULL (R279): A lane transmit buffer is full and the Easel array stalls. -/
  | panelBufferFull (dt lane : Nat)
  /-- STATUS_POLL (R288): Every POLL_INTERVAL a STATUS_REQ goes to the next IC on a return lane. -/
  | statusPoll (dt r : Nat)
  /-- STATUS_RESPONSE (R288): A status response arrives and is checked and acted on. -/
  | statusResponse (dt r : Nat) (bytes : List Byte)
  /-- STATUS_REQ_TIMEOUT (R288): No good response arrives within STATUS_TIMEOUT, and the request counts as a miss. -/
  | statusReqTimeout (dt r : Nat)
  /-- IC_ACC_READ (R290): IC_ACC_CMD READ reads an IC register. -/
  | icAccRead (dt : Nat)
  /-- IC_ACC_WRITE (R290): IC_ACC_CMD WRITE sends CONFIG and confirms it by a read. -/
  | icAccWrite (dt : Nat)
  /-- PROBATION_EXPIRY (R292): A panel lane has been clean in PROBATION for 1 s. -/
  | probationExpiry (dt lane : Nat)
  /-- PANEL_LOCK_TIMER (R294): After 2 ms of IDLE blocks, link-up sends ASSIGN and continues its steps. -/
  | panelLockTimer (dt lane : Nat)
  /-- PANEL_LINKUP_DONE (R294): Link-up of the panel lanes completes. -/
  | panelLinkupDone (dt : Nat)
  /-- RAY_START_REACHED (R197): RAY_START after the flip, array cycle 0 of the frame begins. -/
  | rayStartReached (dt : Nat)
  /-- RAY_GROUP (R175): A group of rays takes its S array cycles of sampling, sorting and blending. -/
  | rayGroup (dt : Nat) (faults : List (Nat × Nat))
  /-- PROBE_CYCLE (R176): A probe cycle performs up to B pending depth probes. -/
  | probeCycle (dt : Nat)
  /-- SCHEDULE_BLOCK_RELOADED (R104): A reloaded schedule block is in place and the stall ends. -/
  | scheduleBlockReloaded (dt : Nat) (fetch : Bool) (block : Nat) (ue : List DramErr)
  /-- TABLE_RELOAD_DONE (R204): The record or entry has been reloaded from DRAM. -/
  | tableReloadDone (dt : Nat) (view : Bool) (index : Nat) (ue : List DramErr)
  /-- FILL_ISSUE (R190): A fill entry is issued once its conditions hold, and its tag is set. -/
  | fillIssue (dt : Nat) (bad : Bool)
  /-- FILL_COMPLETE (R190): A fill's 8 KiB are written and its tag becomes VALID. -/
  | fillComplete (dt entry : Nat) (ue : List DramErr)
  /-- LAST_RAY_OUT (R178): The last ray of the frame leaves Easel. -/
  | lastRayOut (dt : Nat)
  /-- BRUSH_FAULT (R206): A Brush detects a fault, goes OUT and the group is repeated with B − 1 Brushes. -/
  | brushFault (dt brush lost : Nat)
  /-- CUTOFF (R156): At the cutoff, decoding of the frame stops, blocks are owed to concealment and the cull planner starts. -/
  | cutoff (dt : Nat) (done : List Nat)
  /-- CULL_PLAN_DONE (R227): The planner finishes both walks of the fetch schedule. -/
  | cullPlanDone (dt : Nat) (ue : List DramErr)
  /-- INGEST_ROW_START (R221): An output row of a scaler starts once its source blocks are decoded. -/
  | ingestRowStart (dt slot : Nat) (ue : List DramErr)
  /-- INGEST_PASS_DONE (R222): An ingest pass completes. -/
  | ingestPassDone (dt slot : Nat) (ecc : Bool)
  /-- GLAZE_SYNC_DONE (R235): The new active Glaze copies have been copied into the shadows. -/
  | glazeSyncDone (dt : Nat)
  /-- GLAZE_RESTORE_DONE (R235): A Glaze table with an error is restored from DRAM. -/
  | glazeRestoreDone (dt table : Nat)
  /-- UNIT_ARRIVAL (R144): A unit addressed to the tile is complete in the decode input buffer, or is dropped when it does not fit. -/
  | unitArrival (dt : Nat)
  /-- ENGINE_DISPATCH (R151): A free engine takes the next eligible unit, handling headers, pictures and End units. -/
  | engineDispatch (dt engine : Nat) (ue : List DramErr)
  /-- SLICE_DECODE_DONE (R143): An engine finishes decoding a slice. -/
  | sliceDecodeDone (dt engine : Nat) (ue : List DramErr)
  /-- CONCEAL_DONE (R163): Concealment of the owed blocks finishes. -/
  | concealDone (dt blocks : Nat) (ue : List DramErr)
  /-- CONTEXT_ECC (R165): A context's SRAM is uncorrectable and the context returns to WAIT_HEADER. -/
  | contextEcc (dt ctx : Nat)
  /-- ENGINE_FAULT (R166): A decode engine detects a fault, stops and goes OUT. -/
  | engineFault (dt engine done : Nat)
  /-- CTX_CLEAR (R171): CTX_CLEAR clears the counters and LAST_ERROR of a context. -/
  | ctxClear (dt ctx : Nat)
  /-- DC_CTX_SEL_WRITE (R173): A write of DC_CTX_SEL loads DC_CTX_STATUS with the selected context. -/
  | dcCtxSelWrite (dt value : Nat)
  /-- PICTURE_START (R308): The encoder takes the next ready picture, or a higher class displaces it at a slice end. -/
  | pictureStart (dt : Nat)
  /-- PICTURE_CODED (R306): A picture's coding completes under its bit budget. -/
  | pictureCoded (dt : Nat) (ue : List DramErr)
  /-- FRAGMENT_SEND (R312): The next fragment of the oldest coded picture of `stream` goes to its host ring or field port; `sent` octets have left the port's egress queue since the last one. -/
  | fragmentSend (dt stream sent : Nat)
  /-- POP_RECORD_WRITE (R314): The oldest proof-of-play record leaves for POP_DEST; `index` is the entry of a host ring that it takes and `room` says that the ring has space; `sent` octets have left the field port's egress queue. -/
  | popRecordWrite (dt index : Nat) (room : Bool) (sent : Nat) (ue : List DramErr)
  /-- EN_RING_HEAD_WRITE (R312): The host writes EN_RING.HEAD after consuming entries. -/
  | enRingHeadWrite (dt stream head : Nat)
  /-- RAP_REQUEST (R304): RAP_REQUEST makes the stream's next picture a RAP picture. -/
  | rapRequest (dt stream : Nat)
  /-- ENCODER_FAULT (R319): The encoder engine detects a fault and goes OUT. -/
  | encoderFault (dt : Nat)
  /-- STENCIL_GO (R249): ST_CMD.GO latches the command registers and starts a register-mode command. -/
  | stencilGo (dt : Nat)
  /-- STENCIL_MODE_WRITE (R248): A write of MODE takes effect while Stencil is idle, or is refused. -/
  | stencilModeWrite (dt mode : Nat)
  /-- LIST_TAIL_WRITE (R250): A write of LIST_TAIL makes descriptors available in list mode. -/
  | listTailWrite (dt value : Nat) (ue : List DramErr)
  /-- LIST_RESUME_SKIP (R252): RESUME SKIP advances past a halted descriptor. -/
  | listResumeSkip (dt : Nat) (ue : List DramErr)
  /-- LIST_RESUME_RETRY (R252): RESUME RETRY reads the halted descriptor again and runs it. -/
  | listResumeRetry (dt : Nat) (ue : List DramErr)
  /-- STENCIL_COMMAND_DONE (R258): A Stencil command completes or fails, and the list advances or halts. -/
  | stencilCommandDone (dt : Nat) (ue : List DramErr)
  /-- WATERMARK_REACHED (R255): The selected progress reaches ROW or WAIT_ROW, so WATERMARK_PASSED is posted or a waiting command starts. -/
  | watermarkReached (dt : Nat)
  /-- BEHIND_BEAM_TIMEOUT (R256): A waiting command has waited two frame periods and starts anyway. -/
  | behindBeamTimeout (dt : Nat)
  /-- STENCIL_ECC (R254): The Stencil SRAM is uncorrectable, so the command fails and the prefetched descriptors are discarded. -/
  | stencilEcc (dt word rows : Nat) (ue : List DramErr)
  /-- CX_JOB_START (R425): A pipe takes the next job of its OP from the queue, or an image-manager job. -/
  | cxJobStart (dt pipe : Nat)
  /-- CX_JOB_END (R427): A compression job ends and writes back its result and context. -/
  | cxJobEnd (dt pipe : Nat) (verify : Option Nat) (ue : List DramErr)
  /-- CX_FAULT (R433): A compression pipe detects a fault and the queue is held. -/
  | cxFault (dt pipe : Nat) (made : List Nat) (ue : List DramErr)
  /-- CRC_START (R435): START loads VALUE with INIT and arms the unit in SNOOP mode. -/
  | crcStart (dt unit_ : Nat)
  /-- CRC_STOP (R438): STOP ends a snoop run at the end of the item in progress. -/
  | crcStop (dt unit_ : Nat)
  /-- CRC_COMPARE (R445): COMPARE compares RESULT with EXPECT now. -/
  | crcCompare (dt unit_ : Nat)
  /-- CRC_FEED (R436): A data write feeds 1, 2 or 4 bytes, or FEED bytes, to a unit in REGISTER mode. -/
  | crcFeed (dt unit_ : Nat) (bytes : List Byte)
  /-- CRC_VALUE_WRITE (R437): A write of VALUE restores a saved CRC register. -/
  | crcValueWrite (dt unit_ value : Nat)
  /-- SNOOP_ITEM (R438): An item passes the snoop point and is folded; the run stops at its count. -/
  | snoopItem (dt point : Nat) (overflow : Bool)
  /-- CRC_UNIT_FAULT (R442): The two copies of a unit differ and the unit goes OUT. -/
  | crcUnitFault (dt unit_ : Nat)
  /-- IMAGE_LOAD_BEGIN (R88): LOAD_CMD BEGIN starts an image load into the target slot. -/
  | imageLoadBegin (dt : Nat)
  /-- IMAGE_LOAD_DATA (R88): A LOAD_DATA segment is appended, inflated and checked against its CRC trailers. -/
  | imageLoadData (dt : Nat) (bytes : List Byte)
  /-- IMAGE_LOAD_END (R88): LOAD_CMD END closes the load and starts verification. -/
  | imageLoadEnd (dt : Nat)
  /-- IMAGE_LOAD_ABORT (R88): LOAD_CMD ABORT discards the load and empties the slot. -/
  | imageLoadAbort (dt : Nat)
  /-- IMAGE_LOAD_TIMEOUT (R91): A load has had no data for 10 s and fails. -/
  | imageLoadTimeout (dt : Nat)
  /-- DMA_LOAD_START (R89): XZ_LOAD_CTRL.CMD 1 starts an image load from a host buffer by DMA. -/
  | dmaLoadStart (dt : Nat)
  /-- DMA_LOAD_ABORT (R107): XZ_LOAD_CTRL.CMD 2 aborts a DMA load. -/
  | dmaLoadAbort (dt : Nat)
  /-- DMA_LOAD_END (R89): A DMA image load ends and sets DONE, with ERROR when it failed. -/
  | dmaLoadEnd (dt : Nat) (bytes : List Byte) (err : Bool)
  /-- VERIFICATION_DONE (R93): Verification of a loaded image ends, and the slot becomes VERIFIED or REFUSED. -/
  | verificationDone (dt slot : Nat)
  /-- ACT_REQUEST (R97): ACT_CMD REQUEST checks the slot and the target, and schedules an activation flip. -/
  | actRequest (dt : Nat)
  /-- ACT_CANCEL (R98): ACT_CMD CANCEL returns a pending slot to VERIFIED, or is too late. -/
  | actCancel (dt : Nat)
  /-- SRAM_COPY_DONE (R99): The activated tables are in SRAM, and the slot becomes ACTIVE. -/
  | sramCopyDone (dt : Nat) (ue : List DramErr)
  /-- STORE_CMD (R105): STORE_CMD starts copying the active slot into the MRAM stored area. -/
  | storeCmd (dt : Nat)
  /-- STORE_DONE (R105): The store finishes, the header is written and STORED_STATE becomes valid. -/
  | storeDone (dt : Nat) (ue : List DramErr)
  /-- RAY_QUERY (R68): A write of XZ_RAY_QUERY.INDEX starts a ray geometry query. -/
  | rayQuery (dt index : Nat)
  /-- RAY_QUERY_DONE (R68): A ray query completes, or is aborted by an activation. -/
  | rayQueryDone (dt : Nat)
  /-- MR4_READ (R415): Every 1 ms MR4 is read and the refresh interval and limit are set. -/
  | mr4Read (dt port ch rank rate : Nat)
  /-- REFRESH_DUE (R416): A refresh interval passes, and a per-bank refresh is issued or postponed. -/
  | refreshDue (dt port ch rank : Nat)
  /-- ZQ_LATCH (R406): Every 32 ms ZQ is latched on a channel. -/
  | zqLatch (dt port ch : Nat)
  /-- WCK_TRACK (R406): Every 100 ms the WCK-to-DQ oscillator tracks a channel. -/
  | wckTrack (dt port ch : Nat)
  /-- PATROL_SCRUB (R412): The patrol scrubber reads and corrects a burst. -/
  | patrolScrub (dt : Nat) (ue : List DramErr)
  /-- POWER_DOWN_ENTRY (R419): A rank has been idle for PD_IDLE CK and enters power-down. -/
  | powerDownEntry (dt port ch rank : Nat)
  /-- SRAM_SCRUB (R420): The SRAM scrubber reads and corrects the partitions once per second. -/
  | sramScrub (dt fixed : Nat) (words : List (Nat × Nat × Nat))
  /-- FAULT_REPORT (R549): The sequencer classifies a fault report and issues its lane, hold, reset, throttle or safe-state orders. -/
  | faultReport (dt : Nat)
  /-- FRAME_HOLD_END (R552): The hold of a withheld frame ends 1 µs after its decision point. -/
  | frameHoldEnd (dt : Nat)
  /-- RECOVERY_WINDOW_CLOSE (R554): A recovery window closes 500 µs after its detection. -/
  | recoveryWindowClose (dt : Nat)
  /-- SAFE_STATE_END (R558): The end conditions of a safe state, including SAFE_SETTLE, are met and the state is left. -/
  | safeStateEnd (dt : Nat)
  /-- FAULT_CLEAR (R558): A write of FAULT_CLEAR allows a MANUAL safe state to end. -/
  | faultClear (dt : Nat)
  /-- FLIP_WATCHDOG (R559): FLIP_WD_FRAMES flip instants pass without a flip, so FLIP_WD_ACTION is applied. -/
  | flipWatchdog (dt : Nat)
  /-- HEARTBEAT_MISSING (R559): The heartbeat of `island` (numbered as ISLAND_STATE) is missing for 20 µs. -/
  | heartbeatMissing (dt island : Nat)
  /-- TICK_REPLICA_COMPARE (R559): The Tick is compared with the always-on replica: `diff` is the replica less the Tick, in units of 2^-16 ns. -/
  | tickReplicaCompare (dt : Nat) (diff : Int)
  /-- ISLAND_RECOVERED (R553): A reset island reports running, and HOLD ends. -/
  | islandRecovered (dt island : Nat)
  /-- SELF_TEST_DONE (R560): The built-in self-test of a unit ends, passed or not. -/
  | selfTestDone (dt subsystem unit_ : Nat) (pass : Bool)
  /-- UNIT_RESTORE (R560): A write of UNIT_RESTORE returns a unit to service. -/
  | unitRestore (dt value : Nat)
  /-- LANE_READMIT (R561): A write of LANE_READMIT releases a withheld ring lane for readmission. -/
  | laneReadmit (dt lane : Nat)
  /-- SEQUENCER_VOTE (R550): One copy of the sequencer is outvoted and reloaded from the others. -/
  | sequencerVote (dt copy : Nat)
  /-- LOG_CLEAR (R569): LOG_CLEAR empties the log and FAULT_HISTORY and sets SEQ to 1. -/
  | logClear (dt : Nat)
  /-- REGISTER_READ (R9): A register read that has behaviour of its own: an RC field returns its value and clears it, and a read of a _LO register latches its _HI half. -/
  | registerRead (dt : Nat) (fn : Fn) (at_ : RegAt)
  /-- LANE_CONTROL_PERIOD (R327): A frame period of a lane begins; `res` are the results so far of the checks that run on its port (physical lane, sync held, bit errors, eye height and width). -/
  | laneControlPeriod (dt lane : Nat) (res : List (Nat × Nat × Nat × Nat × Nat))
  /-- PANEL_BUFFER_DRAINED (R279): A full panel lane transmit buffer gains room, and the stall of the Easel array ends. -/
  | panelBufferDrained (dt lane : Nat)
  /-- SLEW_COMPLETE (R394): A phase slew of the Tick ends, the steering frequency returns to the domain estimate and SLEWING clears. -/
  | slewComplete (dt : Nat)
  /-- REFCLK_RESTORED (R562): REFCLK comes back within range, the core clocks and lane PLLs return to it, and the 10 ms condition for leaving HOLD starts. -/
  | refclkRestored (dt : Nat)
  /-- RETURN_LANE_SYNC_REGAINED (R342): `seen`: the code groups at the receiver (0 invalid, 1 data, 2 comma, 3 another special one). -/
  | returnLaneSyncRegained (dt r : Nat) (seen : List Nat)
  /-- FIELD_PORT_RECOVERED (R550): A field lane that failed recovers on its own and its field port carries traffic again. -/
  | fieldPortRecovered (dt f : Nat)
  /-- PAIR_OUT_RESET_TIMER (R563): 1 s after CP_PAIR_OUT with PAIR_OUT_ACTION RESET, while no flips are issued, the sequencer issues a warm reset with cause FAULT_MANAGER. -/
  | pairOutResetTimer (dt : Nat) (cut : Option MramCut)
  deriving DecidableEq, Repr

end Sys2Proof
end

