-- ==== Sys2Proof/Config.lean ====
section
/-! DEFINITION. What one chip is made with, and the free values: constants without a body, so that nothing can be proved from a
particular value (assumption log 9 and 10). A free value that may differ each time takes a number from the counter `draws`. -/
namespace Sys2Proof.Config

/-- SILICON_STEP of the die (16 R473; assumption log 9). -/
opaque siliconStep : Nat
/-- PART_SERIAL of the die (16 R473; assumption log 9). -/
opaque partSerial : Nat
/-- PCI vendor ID (17 R494: "Fulorum"; assumption log 9). -/
opaque vendorId : Nat
/-- Factory Installer key (18 R513; assumption log 8, 9; assumption log 9). -/
opaque factoryKey : List Byte
/-- The octets that the factory has put into firmware slot A (18 R505; assumption log 8). -/
opaque factorySlot : List Byte
/-- The two Fulorum firmware keys fixed in the boot ROM (18 R505; assumption log 9). -/
opaque bootRomKey : Nat → List Byte
/-- Octets from the part's random source (16 R460), one list for each draw (assumption log 10). -/
opaque challenge : Nat → List Byte
/-- The order in which the built-in Stipple matrix numbers its positions (07 R236): the spec says that the matrix is one permutation of
0 to 4,095 and does not list it; a position's value is its rank by this figure (assumption log 9). -/
opaque stippleOrder : Nat → Nat
/-- The engine's choice of splits, modes, vectors and levels of a return picture (10 R303), by the settings and samples of the picture, the
units of the stream's pictures since its last RAP picture, and the place in the picture (assumption log 98). -/
opaque engineChoice : List Nat → List (List Byte) → List Nat → Nat
/-- Where in staging the encoder keeps a capture, a reference or a record (10 R318, which gives sizes alone), by stream, kind and number
(assumption log 98). -/
opaque stagingPlace : Nat → Nat → Nat → Nat
/-- Octets of a capture or a reference in staging, whose format the spec does not give, one list for each draw (assumption log 98). -/
opaque stagedOctet : Nat → Nat → Nat
/-- The scrambler of a lane where the n-th thing it sends begins: it depends on the idle blocks before, whose number is open (assumption log 57, 90). -/
opaque scramblerAt : Nat → Nat → Nat
/-- The PRBS-31 state at which a ring lane's training pattern starts (11 R327 gives none; assumption log 59). -/
opaque prbsStart : Nat → Nat
/-- A field port runs at 10.3125 Gb/s, else at 1.25 Gb/s: the rate belongs to the field port (11 R343; assumption log 59). -/
opaque fieldFast : Nat → Bool
/-- A field port is fitted (10 R316: "the field port is absent", which no rule says when; assumption log 99). -/
opaque fieldFitted : Nat → Bool
/-- The match (length and distance) that the deflate engine would write at a position of a stream, by mode, the last 32 KiB before its
block with the block behind them, and the position (15 R430 leaves the parse open; assumption log 22). -/
opaque deflateMatch : Nat → List Byte → Nat → Nat × Nat
/-- The table of code lengths that the deflate engine writes at the head of a dynamic block, by the last 32 KiB before
the block with the block behind them, and the block's start (15 R430 leaves it open; assumption log 22). -/
opaque deflateTable : List Byte → Nat → List Bool
/-- VALUE of CRC unit 7 while the image manager holds it, by Tick (15 R440 does not say what it then folds; assumption log 32). -/
opaque ckHeldValue : Nat → Nat
/-- Fulorum's test trim of an instance, by item and instance (19 R541; assumption log 87; assumption log 9). -/
opaque factoryTrim : Nat → Nat → List Int
/-- The trim codes that the initial calibration or DRAM training finds, by draw, item and instance (19 R538; assumption log 87). -/
opaque trimOf : Nat → Nat → Nat → List Int
/-- The residual that the part records with codes which it sets itself, in trim LSB, by draw, item and instance (19 R541; assumption log 87; assumption log 11). -/
opaque residualOf : Nat → Nat → Nat → Nat
/-- The warning bits of a regulator's STATUS_WORD (19 R526): which bits warn is PMBus's own table.
Answers whether the word warns (assumption log 11). -/
opaque statusWarns : Nat → Bool
/-- The texel word that the ingest scaler reads outside a context's window (07 R215, 05 R154 store none there), by position (assumption log 11). -/
opaque offWindow : Int → Int → Nat
/-- The integer that an infinity or NaN rounds to (06 R180, 07 R231: the spec states none), by bit pattern (assumption log 11). -/
opaque roundOf : Nat → Int
/-- Kind and number of the block of the image copies that a word of SRAM partition 2 or 3 lies in: the layout of the fabric is not given (14 R420; assumption log 11). -/
opaque sramBlock : Nat → Nat → Nat × Nat
/-- The order in which the runs of registers of a block stand, and the words left free before each: the spec gives the offsets of the host
interface block alone (17 R494). By the run's first register and instance (assumption log 5). -/
opaque regRank : RegName → Nat → Nat
opaque regGap : RegName → Nat → Nat
/-- organizationId and subtype of the DOMAIN_SWITCH TLV, which the spec does not give (13 R398; assumption log 40). -/
opaque switchTlv : Nat
/-- What a command's unstated value reads as, one for each draw (assumption log 10). -/
opaque freeValue : Nat → Nat

end Sys2Proof.Config
end

