-- ==== Sys2Proof/Machine/Bits.lean ====
section
/-! DEFINITION. Bit fields, byte order and small list operations that every chapter uses (00 R6: multi-byte values are
little-endian, bit streams and packet headers go most significant bit first). -/
namespace Sys2Proof.Machine

/-- Bits [hi:lo] of a number. -/
def bits (w hi lo : Nat) : Nat := (w >>> lo) % 2 ^ (hi - lo + 1)

/-- The number with bits [hi:lo] replaced by `v`. -/
def setBits (w hi lo v : Nat) : Nat :=
  let m := 2 ^ (hi - lo + 1)
  w - (bits w hi lo) * 2 ^ lo + (v % m) * 2 ^ lo

/-- Bit `i` of a number. -/
def bit (w i : Nat) : Bool := w.testBit i

/-- Set or clear bit `i`. -/
def setBit (w i : Nat) (b : Bool) : Nat := setBits w i i (if b then 1 else 0)

/-- 1 for true, 0 for false. -/
def b2n (b : Bool) : Nat := if b then 1 else 0

/-- The octet of a number's low 8 bits. -/
def byteOf (n : Nat) : Byte := BitVec.ofNat 8 n

/-- `n` octets of `v`, little-endian (00 R6). -/
def toLE : Nat → Nat → List Byte
  | 0, _ => []
  | n + 1, v => byteOf v :: toLE n (v / 256)

/-- The number that octets spell little-endian. -/
def ofLE : List Byte → Nat
  | [] => 0
  | b :: bs => b.toNat + 256 * ofLE bs

/-- The number that octets spell most significant octet first. -/
def ofBE (bs : List Byte) : Nat := bs.foldl (fun a b => a * 256 + b.toNat) 0

/-- `n` octets of `v`, most significant first. -/
def toBE (n v : Nat) : List Byte := (toLE n v).reverse

/-- `len` octets of a list from `off`; short where the list ends. -/
def slice (bs : List Byte) (off len : Nat) : List Byte := (bs.drop off).take len

/-- The little-endian number of `len` octets at `off` (a missing octet reads 0). -/
def leAt (bs : List Byte) (off len : Nat) : Nat := ofLE (slice bs off len)

/-- One octet at `off`, as a number (0 where the list ends). -/
def u8At (bs : List Byte) (off : Nat) : Nat := (bs.getD off 0).toNat

/-- The same list with element `i` replaced (unchanged where there is none). -/
def setAt {α : Type} (l : List α) (i : Nat) (a : α) : List α := l.set i a

/-- The same list with `f` applied to element `i`. -/
def updAt {α : Type} (l : List α) (i : Nat) (f : α → α) : List α := l.modify i f

/-- Add without passing the top of `w` bits (00 R10: counters saturate at all ones). -/
def satAdd (w a b : Nat) : Nat := min (a + b) (2 ^ w - 1)

/-- A `w`-bit two's complement reading. -/
def toSigned (w v : Nat) : Int := if v % 2 ^ w < 2 ^ (w - 1) then (v % 2 ^ w : Nat) else (v % 2 ^ w : Nat) - (2 ^ w : Nat)

/-- The `w`-bit two's complement word of an integer. -/
def ofSigned (w : Nat) (i : Int) : Nat := (i % (2 ^ w : Nat)).toNat

/-- An integer held within bounds. -/
def clampI (lo hi x : Int) : Int := if x < lo then lo else if hi < x then hi else x

/-- A natural number held within bounds. -/
def clampN (lo hi x : Nat) : Nat := if x < lo then lo else if hi < x then hi else x

/-- Quotient rounded up. -/
def ceilDiv (a b : Nat) : Nat := (a + b - 1) / b

/-- The bits set in a number, ascending, among the first `n`. -/
def bitsOf (n w : Nat) : List Nat := (List.range n).filter (fun i => w.testBit i)

/-- The word whose set bits are the listed ones. -/
def maskOf (l : List Nat) : Nat := l.foldl (fun a i => a ||| 2 ^ i) 0

/-- Number of bits set among the first `n`. -/
def popCount (n w : Nat) : Nat := (bitsOf n w).length

/-- Bits reversed within `n`. -/
def bitRev : Nat → Nat → Nat
  | 0, _ => 0
  | n + 1, w => (w % 2) * 2 ^ n + bitRev n (w / 2)

/-- Units of the Tick (13 R378): 1 ns is 2^16. -/
def tNs (n : Nat) : Nat := n * 65536
/-- Microseconds in units of the Tick (assumption log 4). -/
def tUs (n : Nat) : Nat := n * 65536000
/-- Milliseconds in units of the Tick (assumption log 4). -/
def tMs (n : Nat) : Nat := n * 65536000000
/-- Seconds in units of the Tick (assumption log 4). -/
def tS (n : Nat) : Nat := n * 65536000000000

/-- A Tick advanced by an amount, mod 2^64 (13 R378). -/
def tickAdd (a d : Nat) : Nat := (a + d) % 2 ^ 64

/-- The signed difference D(a, b) of 13 R379, in units of 2^−16 ns. -/
def tickD (a b : Nat) : Int := toSigned 64 ((a + 2 ^ 64 - b % 2 ^ 64) % 2 ^ 64)

/-- A time lies in the half-open window [start, end) (13 R381). -/
def inWindow (s start stop : Nat) : Bool := decide (tickD s start ≥ 0) && decide (tickD s stop < 0)

/-- The first element an option-valued test answers for. -/
def firstSome {α β : Type} (f : α → Option β) : List α → Option β
  | [] => none
  | a :: as => match f a with
    | some b => some b
    | none => firstSome f as

/-- Greatest of a list of numbers, 0 for none. -/
def maxOf (l : List Nat) : Nat := l.foldl max 0

/-- Least of a list of numbers under a bound. -/
def minOf (bound : Nat) (l : List Nat) : Nat := l.foldl min bound

/-- Floor of the base-2 logarithm; 0 for 0. -/
def log2f (n : Nat) : Nat := Nat.log2 n

/-- An association list over numbers: lookup. -/
def aGet {α : Type} (m : List (Nat × α)) (k : Nat) : Option α := firstSome (fun p => if p.1 = k then some p.2 else none) m

/-- An association list over numbers, kept in rising order of key: replace or insert. -/
def aSet {α : Type} : List (Nat × α) → Nat → α → List (Nat × α)
  | [], k, v => [(k, v)]
  | (k', v') :: m, k, v =>
    if k < k' then (k, v) :: (k', v') :: m
    else if k = k' then (k, v) :: m
    else (k', v') :: aSet m k v

/-- An association list over numbers: remove a key. -/
def aDel {α : Type} (m : List (Nat × α)) (k : Nat) : List (Nat × α) := m.filter (fun p => p.1 ≠ k)

end Sys2Proof.Machine
end

