-- ==== Sys2Proof/Machine/Crypto.lean ====
section
/-! DEFINITION. The check and key functions the chapters name: CRC of any width (15 R434), CRC-32 of 03 R72, Adler-32, SHA-256,
HMAC-SHA-256 (16 R460), ECDSA over P-256 (03 R72, 18 R505). All are computed on numbers. -/
namespace Sys2Proof.Machine

/-- One octet folded into a CRC register of width `w`, most significant bit of the (perhaps reflected) octet first (15 R434). -/
def crcByte (w poly : Nat) (refin : Bool) (r : Nat) (b : Byte) : Nat :=
  let v := if refin then bitRev 8 b.toNat else b.toNat
  (List.range 8).foldl (fun r i =>
    let top := (r.testBit (w - 1)) != (v.testBit (7 - i))
    let t := (r * 2) % 2 ^ w
    if top then t ^^^ poly else t) r

/-- Octets folded in order. -/
def crcFold (w poly : Nat) (refin : Bool) (r : Nat) (bs : List Byte) : Nat := bs.foldl (crcByte w poly refin) r

/-- The result of a CRC register: reflected on output if asked, then the final XOR (15 R434). -/
def crcOut (w : Nat) (refout : Bool) (xorout r : Nat) : Nat :=
  ((if refout then bitRev w r else r) ^^^ xorout) % 2 ^ w

/-- CRC-32 of 03 R72: polynomial 0x04C11DB7, reflected, initial value and final XOR all ones. -/
def crc32 (bs : List Byte) : Nat := crcOut 32 true 0xFFFFFFFF (crcFold 32 0x04C11DB7 true 0xFFFFFFFF bs)

/-- CRC-16 of 09 R276: polynomial 0x1021, initial value 0xFFFF. -/
def crc16 (bs : List Byte) : Nat := crcFold 16 0x1021 false 0xFFFF bs

/-- CRC-8 of ring header words (12 R356): polynomial 0x07, initial value 0. -/
def crc8 (bs : List Byte) : Nat := crcFold 8 0x07 false 0 bs

/-- Octets folded into an Adler-32. -/
def adlerFold (chk : Nat) (bs : List Byte) : Nat :=
  let p := bs.foldl (fun (p : Nat × Nat) b => let a := (p.1 + b.toNat) % 65521; (a, (p.2 + a) % 65521)) (chk % 65536, chk / 65536)
  p.2 * 65536 + p.1

/-- Adler-32 (the check of a zlib stream). -/
def adler32 (bs : List Byte) : Nat := adlerFold 1 bs

/-- The 64 round words of SHA-256, the first at the top: the first 32 bits of the fractional parts of the cube roots of the first 64
primes (Tests/Slice0.lean checks that they are). -/
def shaKWords : Nat :=
  0x428a2f9871374491b5c0fbcfe9b5dba53956c25b59f111f1923f82a4ab1c5ed5d807aa9812835b01243185be550c7dc372be5d7480deb1fe9bdc06a7c19bf174e49b69c1efbe47860fc19dc6240ca1cc2de92c6f4a7484aa5cb0a9dc76f988da983e5152a831c66db00327c8bf597fc7c6e00bf3d5a7914706ca63511429296727b70a852e1b21384d2c6dfc53380d13650a7354766a0abb81c2c92e92722c85a2bfe8a1a81a664bc24b8b70c76c51a3d192e819d6990624f40e3585106aa07019a4c1161e376c082748774c34b0bcb5391c0cb34ed8aa4a5b9cca4f682e6ff3748f82ee78a5636f84c878148cc7020890befffaa4506cebbef9a3f7c67178f2

/-- The eight words of its initial state, the first at the top: the square roots of the first eight primes likewise. -/
def shaHWords : Nat := 0x6a09e667bb67ae853c6ef372a54ff53a510e527f9b05688c1f83d9ab5be0cd19

/-- Word `i` of `n` packed words, counted from the top. -/
def packedWord (n x i : Nat) : Nat := (x >>> (32 * (n - 1 - i))) % 2 ^ 32

/-- A 32-bit word turned right by `k`: two copies side by side, shifted. -/
def turn32 (x k : Nat) : Nat := ((x + x * 2 ^ 32) >>> k) % 2 ^ 32

/-- Three turns of a word, added without carry. -/
def turns (x p q r : Nat) : Nat := turn32 x p ^^^ turn32 x q ^^^ turn32 x r

/-- Two turns and a shift of a word, added without carry. -/
def blend (x p q r : Nat) : Nat := turn32 x p ^^^ turn32 x q ^^^ (x >>> r)

/-- The working state of a block. -/
structure Sha where
  a : Nat
  b : Nat
  c : Nat
  d : Nat
  e : Nat
  f : Nat
  g : Nat
  h : Nat
  deriving DecidableEq, Repr

/-- Its words in order. -/
def Sha.words (x : Sha) : List Nat := [x.a, x.b, x.c, x.d, x.e, x.f, x.g, x.h]

/-- The state before the first block. -/
def Sha.init : Sha :=
  let w := packedWord 8 shaHWords
  ⟨w 0, w 1, w 2, w 3, w 4, w 5, w 6, w 7⟩

/-- One round with the round word and the message word added in `kw`. The choice of `f` or `g` by `e`, and the majority, are taken bit
by bit. -/
def Sha.round (x : Sha) (kw : Nat) : Sha :=
  let pick := x.g ^^^ (x.e &&& (x.f ^^^ x.g))
  let most := (x.a &&& (x.b ||| x.c)) ||| (x.b &&& x.c)
  let t := x.h + turns x.e 6 11 25 + pick + kw
  ⟨(t + turns x.a 2 13 22 + most) % 2 ^ 32, x.a, x.b, x.c, (x.d + t) % 2 ^ 32, x.e, x.f, x.g⟩

/-- The rounds that are left, from round `i`; `w` holds the next sixteen message words, and each round makes the one that follows them. -/
def Sha.rounds : Nat → Nat → List Nat → Sha → Sha
  | 0, _, _, x => x
  | n + 1, i, w, x =>
    let now := w.getD 0 0
    let made := (now + blend (w.getD 1 0) 7 18 3 + w.getD 9 0 + blend (w.getD 14 0) 17 19 10) % 2 ^ 32
    Sha.rounds n (i + 1) (w.drop 1 ++ [made]) (x.round (packedWord 64 shaKWords i + now))

/-- One 64-octet block folded into the state. -/
def Sha.block (x : Sha) (blk : List Byte) : Sha :=
  let y := Sha.rounds 64 0 ((List.range 16).map (fun i => ofBE (slice blk (4 * i) 4))) x
  let s := fun (p q : Nat) => (p + q) % 2 ^ 32
  ⟨s x.a y.a, s x.b y.b, s x.c y.c, s x.d y.d, s x.e y.e, s x.f y.f, s x.g y.g, s x.h y.h⟩

/-- Blocks folded in order; `n` is their number. -/
def Sha.blocks : Nat → Sha → List Byte → Sha
  | 0, x, _ => x
  | n + 1, x, bs => Sha.blocks n (x.block (bs.take 64)) (bs.drop 64)

/-- SHA-256, 32 octets: the message, one set bit, zeros up to 8 octets short of a block, its length in bits. -/
def sha256 (m : List Byte) : List Byte :=
  let p := m ++ [byteOf 0x80]
  let p := p ++ List.replicate ((120 - p.length % 64) % 64) 0 ++ toBE 8 (8 * m.length)
  (Sha.blocks (p.length / 64) Sha.init p).words.flatMap (toBE 4)

/-- HMAC-SHA-256. -/
def hmac (key msg : List Byte) : List Byte :=
  let k0 := if key.length > 64 then sha256 key else key
  let k := k0 ++ List.replicate (64 - k0.length) 0
  sha256 (k.map (· ^^^ 0x5c) ++ sha256 (k.map (· ^^^ 0x36) ++ msg))

/-- The field prime of P-256. -/
def p256p : Nat := 0xFFFFFFFF00000001000000000000000000000000FFFFFFFFFFFFFFFFFFFFFFFF
/-- The group order of P-256. -/
def p256n : Nat := 0xFFFFFFFF00000000FFFFFFFFFFFFFFFFBCE6FAADA7179E84F3B9CAC2FC632551
/-- The coefficient b of P-256 (a is −3). -/
def p256b : Nat := 0x5AC635D8AA3A93E7B3EBBD55769886BC651D06B0CC53B0F63BCE3C3E27D2604B
/-- The base point of P-256. -/
def p256g : Nat × Nat :=
  (0x6B17D1F2E12C4247F8BCE6E563A440F277037D812DEB33A0F4A13945D898C296,
   0x4FE342E2FE1A7F9B8EE7EB4A7C0F9E162BCE33576B315ECECBB6406837BF51F5)

/-- `b^e mod m` over the low `n` bits of `e`. -/
def powMod (m b : Nat) : Nat → Nat → Nat
  | 0, _ => 1
  | n + 1, e =>
    let h := powMod m b n (e / 2)
    let s := h * h % m
    if e % 2 = 1 then s * b % m else s

/-- Inverse modulo a prime. -/
def invMod (p a : Nat) : Nat := powMod p a 256 (p - 2)

/-- Difference modulo `p`. -/
def subMod (p a b : Nat) : Nat := (a + p - b % p) % p

/-- A point of the curve; none is the point at infinity. -/
abbrev EcPoint := Option (Nat × Nat)

/-- A point doubled. -/
def ecDouble : EcPoint → EcPoint
  | none => none
  | some (x, y) =>
    if y = 0 then none else
    let l := (3 * subMod p256p (x * x) 1) * invMod p256p (2 * y % p256p) % p256p
    let x3 := subMod p256p (l * l) (2 * x)
    some (x3, subMod p256p (l * subMod p256p x x3) y)

/-- Two points added. -/
def ecAdd : EcPoint → EcPoint → EcPoint
  | none, q => q
  | p, none => p
  | some (x1, y1), some (x2, y2) =>
    if x1 = x2 then (if y1 = y2 then ecDouble (some (x1, y1)) else none) else
    let l := subMod p256p y2 y1 * invMod p256p (subMod p256p x2 x1) % p256p
    let x3 := subMod p256p (l * l) (x1 + x2)
    some (x3, subMod p256p (l * subMod p256p x1 x3) y1)

/-- A point multiplied by the low `n` bits of a number. -/
def ecMul : Nat → Nat → EcPoint → EcPoint
  | 0, _, _ => none
  | n + 1, k, p => let h := ecDouble (ecMul n (k / 2) p); if k % 2 = 1 then ecAdd h p else h

/-- The pair lies on P-256 and is reduced. -/
def onCurve (x y : Nat) : Bool :=
  decide (x < p256p) && decide (y < p256p) && decide (y * y % p256p = (x * x * x + (p256p - 3) * x + p256b) % p256p)

/-- ECDSA P-256 verification of the hash `h` (32 octets) under the public key octets X ‖ Y, signature R ‖ S, all big-endian. -/
def ecdsaVerify (key h sig : List Byte) : Bool :=
  let qx := ofBE (slice key 0 32)
  let qy := ofBE (slice key 32 32)
  let r := ofBE (slice sig 0 32)
  let s := ofBE (slice sig 32 32)
  if !onCurve qx qy || decide (r = 0) || decide (s = 0) || decide (r ≥ p256n) || decide (s ≥ p256n) then false else
  let w := invMod p256n s
  let u1 := ofBE h * w % p256n
  let u2 := r * w % p256n
  match ecAdd (ecMul 256 u1 (some p256g)) (ecMul 256 u2 (some (qx, qy))) with
  | none => false
  | some (x, _) => decide (x % p256n = r)

end Sys2Proof.Machine
end

