-- ==== Sys2Proof/Machine/Inflate.lean ====
section
/-! DEFINITION. Inflation of DEFLATE, zlib and gzip streams (15 R427 to R432, 03 R90). The pipe goes in steps, each of which takes what it needs of
the input whole or waits for more; between steps it can be put into a job context and taken out of it (15 R428). -/
namespace Sys2Proof.Machine

/-- Where the reader stands: octets not yet opened, bits opened and not yet taken, bits taken since the stream began. -/
structure Br where
  rest : List Byte
  buf : Nat := 0
  nb : Nat := 0
  pos : Nat := 0
  deriving DecidableEq, Repr

/-- What a step of the pipe answers: the input is too short, an error of 15 R432 found there, or a value and where the reader then stands. -/
inductive Got (α : Type) where
  | need
  | err (code : Nat) (b : Br)
  | ok (v : α) (b : Br)
  deriving DecidableEq, Repr

/-- One bit; none when the input is used up. -/
def Br.bit (b : Br) : Option (Nat × Br) :=
  if b.nb > 0 then some (b.buf % 2, { b with buf := b.buf / 2, nb := b.nb - 1, pos := b.pos + 1 })
  else match b.rest with
    | [] => none
    | x :: r => some (x.toNat % 2, { rest := r, buf := x.toNat / 2, nb := 7, pos := b.pos + 1 })

/-- `n` bits, least significant first. -/
def Br.take (b : Br) : Nat → Option (Nat × Br)
  | 0 => some (0, b)
  | n + 1 => match b.bit with
    | none => none
    | some (x, b) => match b.take n with
      | none => none
      | some (y, b) => some (x + 2 * y, b)

/-- The bits up to an octet boundary skipped, and then `n` whole octets as a number. -/
def Br.octets (b : Br) (n : Nat) : Option (Nat × Br) := (b.take ((8 - b.pos % 8) % 8)).bind (fun r => r.2.take (8 * n))

/-- Then a value, if the bits were there. -/
def Got.of {α : Type} (o : Option (Nat × Br)) (f : Nat → Br → Got α) : Got α := match o with
  | none => .need
  | some (v, b) => f v b

/-- A canonical code: how many codes of each length 0 to 15, and the symbols in order. -/
structure Huff where
  counts : List Nat
  syms : List Nat
  deriving DecidableEq, Repr

/-- The canonical code of a list of lengths (RFC 1951). -/
def mkHuff (lens : List Nat) : Huff :=
  let idx := (List.range lens.length).zip lens
  { counts := (List.range 16).map (fun l => (lens.filter (· = l)).length),
    syms := (List.range 15).flatMap (fun l => (idx.filter (fun p => p.2 = l + 1)).map Prod.fst) }

/-- Codes left over: below 0 over-subscribed, above 0 incomplete. -/
def Huff.left (h : Huff) : Int := (List.range 15).foldl (fun l i => if l < 0 then l else 2 * l - (h.counts.getD (i + 1) 0 : Nat)) 1

/-- A symbol by canonical decoding; none when the input is used up, an error for no code. -/
def Huff.sym (h : Huff) : Nat → Nat → Nat → Nat → Nat → Br → Option (Option Nat × Br)
  | 0, _, _, _, _, b => some (none, b)
  | fuel + 1, len, code, first, index, b =>
    match b.bit with
    | none => none
    | some (x, b) =>
      let code := code + x
      let cnt := h.counts.getD len 0
      if code < first + cnt then some (some (h.syms.getD (index + (code - first)) 0), b)
      else h.sym fuel (len + 1) ((code) * 2) ((first + cnt) * 2) (index + cnt) b

/-- Base lengths of length codes 257 to 285, with their extra bits. -/
def lenTab : List (Nat × Nat) := [(3, 0), (4, 0), (5, 0), (6, 0), (7, 0), (8, 0), (9, 0), (10, 0), (11, 1), (13, 1), (15, 1), (17, 1),
  (19, 2), (23, 2), (27, 2), (31, 2), (35, 3), (43, 3), (51, 3), (59, 3), (67, 4), (83, 4), (99, 4), (115, 4), (131, 5), (163, 5),
  (195, 5), (227, 5), (258, 0)]

/-- Base distances of distance codes 0 to 29, with their extra bits. -/
def distTab : List (Nat × Nat) := [(1, 0), (2, 0), (3, 0), (4, 0), (5, 1), (7, 1), (9, 2), (13, 2), (17, 3), (25, 3), (33, 4), (49, 4),
  (65, 5), (97, 5), (129, 6), (193, 6), (257, 7), (385, 7), (513, 8), (769, 8), (1025, 9), (1537, 9), (2049, 10), (3073, 10),
  (4097, 11), (6145, 11), (8193, 12), (12289, 12), (16385, 13), (24577, 13)]

/-- The code-length order of a dynamic block. -/
def clOrder : List Nat := [16, 17, 18, 0, 8, 7, 9, 6, 10, 5, 11, 4, 12, 3, 13, 2, 14, 1, 15]

/-- The code lengths of a dynamic block, newest first. -/
def readLens (cl : Huff) (total : Nat) : Nat → List Nat → Br → Got (List Nat)
  | 0, acc, b => .ok acc b
  | fuel + 1, acc, b =>
    if acc.length ≥ total then .ok acc b else
    match cl.sym 15 1 0 0 0 b with
    | none => .need
    | some (none, b) => .err 0x10 b
    | some (some s, b) =>
      if s < 16 then readLens cl total fuel (s :: acc) b else
      let (eb, base, v) := if s = 16 then (2, 3, acc.head?) else if s = 17 then (3, 3, some 0) else (7, 11, some 0)
      .of (b.take eb) fun x b =>
        match v with
        | none => .err 0x12 b
        | some v => if acc.length + base + x > total then .err 0x12 b else readLens cl total fuel (List.replicate (base + x) v ++ acc) b

/-- A code set that may be used: complete, or a distance set of one code of length 1 or of none, as RFC 1951 allows (assumption log 21). -/
def huffOk (h : Huff) (isDist : Bool) : Bool :=
  h.left = 0 || (isDist && (h.syms.isEmpty || (h.syms.length = 1 && h.counts.getD 1 0 = 1)))

/-- The code lengths of a dynamic block, literal and distance, where they make codes that may be used (RFC 1951). -/
def dynamicLens (b : Br) : Got (List Nat × List Nat) :=
  .of (b.take 14) fun x b =>
  let hlit := x % 32 + 257
  let hdist := (x / 32) % 32 + 1
  let hclen := x / 1024 + 4
  .of (b.take (3 * hclen)) fun y b =>
  let cls := (List.range 19).map (fun s => match clOrder.idxOf? s with
    | some p => if p < hclen then (y >>> (3 * p)) % 8 else 0
    | none => 0)
  let cl := mkHuff cls
  if cl.left ≠ 0 then .err 0x10 b else
  match readLens cl (hlit + hdist) (hlit + hdist + 1) [] b with
  | .need => .need
  | .err e b => .err e b
  | .ok acc b =>
    let ls := acc.reverse
    if !huffOk (mkHuff (ls.take hlit)) false || !huffOk (mkHuff (ls.drop hlit)) true then .err 0x10 b
    else .ok (ls.take hlit, ls.drop hlit) b

/-- The lengths of the fixed literal and distance codes (RFC 1951). -/
def fixedLens : List Nat × List Nat :=
  (List.replicate 144 8 ++ List.replicate 112 9 ++ List.replicate 24 7 ++ List.replicate 8 8, List.replicate 32 5)

/-! ### The running check of a framing (15 R426) -/

/-- The check before the first octet. -/
def chkStart (framing : Nat) : Nat := if framing = 1 then 1 else if framing = 2 then 0xFFFFFFFF else 0

/-- Octets folded into it: Adler-32 for zlib, the CRC-32 register for gzip. -/
def chkFold (framing chk : Nat) (bs : List Byte) : Nat :=
  if framing = 1 then adlerFold chk bs else if framing = 2 then crcFold 32 0x04C11DB7 true chk bs else 0

/-- CHECK as the part shows it. -/
def chkOut (framing chk : Nat) : Nat := if framing = 2 then crcOut 32 true 0xFFFFFFFF chk else chk

/-! ### The inflate pipe -/

/-- The inflate pipe between two steps (15 R428, R429). -/
structure InfPipe where
  /-- 0 header octets; 1 to 5 the gzip fields FEXTRA length, FEXTRA, FNAME, FCOMMENT, FHCRC; 6 block header; 7 stored octets; 8 symbols; 9 trailer;
  10 done. -/
  ph : Nat := 0
  fin : Bool := false
  /-- Header octets read, octets left of FEXTRA or of a stored block. -/
  left : Nat := 0
  /-- The open match: octets left and distance. -/
  len : Nat := 0
  dist : Nat := 0
  /-- CMF of a zlib header, FLG of a gzip header; the CRC-32 register of a gzip header. -/
  flg : Nat := 0
  hcrc : Nat := 0xFFFFFFFF
  /-- Running check and count of the stream's uncompressed octets. -/
  chk : Nat
  n : Nat := 0
  /-- Code lengths in force, and the codes that they make. -/
  lens : List Nat × List Nat := ([], [])
  lit : Huff := ⟨[], []⟩
  dst : Huff := ⟨[], []⟩
  deriving DecidableEq, Repr

/-- The pipe at the start of a stream. -/
def InfPipe.start (framing : Nat) : InfPipe := { ph := if framing = 0 then 6 else 0, chk := chkStart framing }

/-- The phase of the first optional gzip field from phase `k` on that FLG asks for; 6 behind the last (assumption log 23). -/
def gzipField (flg k : Nat) : Nat :=
  if k ≤ 1 ∧ flg.testBit 2 then 1 else if k ≤ 3 ∧ flg.testBit 3 then 3 else if k ≤ 4 ∧ flg.testBit 4 then 4
  else if k ≤ 5 ∧ flg.testBit 1 then 5 else 6

/-- Header octets folded into the CRC of the gzip header. -/
def InfPipe.hdr (p : InfPipe) (bs : List Byte) : InfPipe := { p with hcrc := crcFold 32 0x04C11DB7 true p.hcrc bs }

/-- One octet of a zlib or gzip header: its fixed part, 2 octets or 10 (15 R432; assumption log 23). -/
def InfPipe.header (framing : Nat) (p : InfPipe) (v : Nat) (b : Br) : Got (InfPipe × Option Byte) :=
  let i := p.left
  let q := { p.hdr [byteOf v] with left := i + 1 }
  if framing = 1 then
    if i = 0 then .ok ({ q with flg := v }, none) b
    else if p.flg % 16 ≠ 8 ∨ p.flg / 16 > 7 ∨ (p.flg * 256 + v) % 31 ≠ 0 ∨ v.testBit 5 then .err 0x15 b
    else .ok ({ q with ph := 6 }, none) b
  else if (i = 0 ∧ v ≠ 0x1f) ∨ (i = 1 ∧ v ≠ 0x8b) ∨ (i = 2 ∧ v ≠ 8) ∨ (i = 3 ∧ v ≥ 32) then .err 0x15 b
  else
    let q := if i = 3 then { q with flg := v } else q
    .ok (if i = 9 then { q with ph := gzipField q.flg 1 } else q, none) b

/-- An optional field of a gzip header. -/
def InfPipe.field (p : InfPipe) (b : Br) : Got (InfPipe × Option Byte) :=
  if p.ph = 1 then .of (b.take 16) fun v b => .ok ({ p.hdr (toLE 2 v) with ph := if v = 0 then gzipField p.flg 3 else 2, left := v }, none) b
  else if p.ph = 5 then .of (b.take 16) fun v b =>
    if v ≠ crcOut 32 true 0xFFFFFFFF p.hcrc % 65536 then .err 0x15 b else .ok ({ p with ph := 6 }, none) b
  else .of (b.take 8) fun v b =>
    let q := p.hdr [byteOf v]
    if p.ph = 2 then .ok ({ q with left := p.left - 1, ph := if p.left ≤ 1 then gzipField p.flg 3 else 2 }, none) b
    else .ok (if v = 0 then { q with ph := gzipField p.flg (p.ph + 1) } else q, none) b

/-- A block ends. -/
def InfPipe.blockEnd (framing : Nat) (p : InfPipe) : InfPipe := { p with ph := if !p.fin then 6 else if framing = 0 then 10 else 9 }

/-- Symbols under a pair of code lengths follow. -/
def InfPipe.coded (p : InfPipe) (lens : List Nat × List Nat) : InfPipe :=
  { p with ph := 8, lens := lens, lit := mkHuff lens.1, dst := mkHuff lens.2 }

/-- A block header, with the tables of a dynamic block and the lengths of a stored one. -/
def InfPipe.block (p : InfPipe) (b : Br) : Got (InfPipe × Option Byte) :=
  .of (b.take 3) fun h b =>
  let p := { p with fin := h % 2 = 1 }
  if h / 2 = 0 then .of (b.octets 4) fun o b =>
    if o % 65536 + o / 65536 ≠ 65535 then .err 0x13 b else .ok ({ p with ph := 7, left := o % 65536 }, none) b
  else if h / 2 = 1 then .ok (p.coded fixedLens, none) b
  else if h / 2 = 2 then match dynamicLens b with
    | .need => .need
    | .err e b => .err e b
    | .ok l b => .ok (p.coded l, none) b
  else .err 0x10 b

/-- A literal/length symbol, with the distance of a match. -/
def InfPipe.symbol (framing : Nat) (p : InfPipe) (b : Br) : Got (InfPipe × Option Byte) :=
  match p.lit.sym 15 1 0 0 0 b with
  | none => .need
  | some (none, b) => .err 0x10 b
  | some (some s, b) =>
    if s < 256 then .ok (p, some (byteOf s)) b
    else if s = 256 then .ok (p.blockEnd framing, none) b
    else if s > 285 then .err 0x10 b
    else
      let (lb, le) := lenTab.getD (s - 257) (0, 0)
      .of (b.take le) fun x b =>
      match p.dst.sym 15 1 0 0 0 b with
      | none => .need
      | some (none, b) => .err 0x10 b
      | some (some d, b) =>
        if d > 29 then .err 0x10 b else
        let (db, de) := distTab.getD d (0, 0)
        .of (b.take de) fun y b => if db + y > p.n then .err 0x11 b else .ok ({ p with len := lb + x, dist := db + y }, none) b

/-- The trailer, which must agree with the data. -/
def InfPipe.trailer (framing : Nat) (p : InfPipe) (b : Br) : Got (InfPipe × Option Byte) :=
  .of (b.octets (if framing = 1 then 4 else 8)) fun t b =>
  let ok := if framing = 1 then decide (ofBE (toLE 4 t) = p.chk) else decide (t = chkOut 2 p.chk + 2 ^ 32 * (p.n % 2 ^ 32))
  if ok then .ok ({ p with ph := 10 }, none) b else .err 0x14 b

/-- One step of the pipe: the pipe after it, and the octet that it gives. `win` holds the octets before, newest first. -/
def InfPipe.step (framing : Nat) (p : InfPipe) (win : List Byte) (b : Br) : Got (InfPipe × Option Byte) :=
  if p.len > 0 then .ok ({ p with len := p.len - 1 }, some (win.getD (p.dist - 1) 0)) b
  else if p.ph = 0 then .of (b.take 8) (p.header framing)
  else if p.ph ≤ 5 then p.field b
  else if p.ph = 6 then p.block b
  else if p.ph = 7 then (if p.left = 0 then .ok (p.blockEnd framing, none) b
    else .of (b.take 8) fun v b => .ok ({ p with left := p.left - 1 }, some (byteOf v)) b)
  else if p.ph = 8 then p.symbol framing b
  else p.trailer framing b

/-- How an inflation stands: 0 goes on, 1 output limit reached, 2 input used up, 3 stream complete, from 0x10 an error of R432. -/
structure Inf where
  pipe : InfPipe
  br : Br
  /-- Octets of this job, and with those of the history before them, newest first; how many this job has given. -/
  win : List Byte := []
  n : Nat := 0
  limit : Nat
  st : Nat := 0
  deriving DecidableEq, Repr

/-- The pipe runs until the stream is complete, the output full or the input used up (15 R427, R429). -/
def Inf.run (framing : Nat) : Nat → Inf → Inf
  | 0, f => { f with st := 2 }
  | fuel + 1, f =>
    if f.pipe.ph ≥ 10 then { f with st := 3 }
    else if f.n ≥ f.limit then { f with st := 1 }
    else match f.pipe.step framing f.win f.br with
      | .need => { f with st := 2 }
      | .err e b => { f with st := e, br := b }
      | .ok (p, none) b => Inf.run framing fuel { f with pipe := p, br := b }
      | .ok (p, some x) b => Inf.run framing fuel
          { f with pipe := { p with n := p.n + 1, chk := chkFold framing p.chk [x] }, br := b, win := x :: f.win, n := f.n + 1 }

/-- The octets of this job, oldest first. -/
def Inf.out (f : Inf) : List Byte := (f.win.take f.n).reverse

/-- A pipe fed with more input: `held` bits that it kept, of which there are `nb`. A step takes a bit of input, gives an octet or ends a block. -/
def inflateOn (framing : Nat) (p : InfPipe) (hist : List Byte) (held nb pos : Nat) (inp : List Byte) (limit : Nat) : Inf :=
  Inf.run framing (520 * (8 * inp.length + nb + 1) + p.len) { pipe := p, br := ⟨inp, held, nb, pos⟩, win := hist.reverse, limit := limit }

/-- One stream of a framing (0 raw, 1 zlib, 2 gzip) inflated from its first octet to an output limit. Standing 3: the trailer has
been read and agrees. -/
def inflateOne (framing : Nat) (raw : List Byte) (limit : Nat) : Inf := inflateOn framing (.start framing) [] 0 0 0 raw limit

/-! ### The pipe in a job context (15 R428, R429; assumption log 34) -/

/-- Numbers in widths of octets, one after another. -/
def packFields (l : List (Nat × Nat)) : List Byte := l.flatMap (fun f => toLE f.1 f.2)

/-- Where the reader stands as a job ends: the bits that the context keeps, and their number. They are those of the last octet that was opened, or where
the input is used up all that no step has taken. -/
def Inf.held (f : Inf) : Nat × Nat :=
  if f.st = 2 then (f.br.buf + 2 ^ f.br.nb * ofLE f.br.rest, f.br.nb + 8 * f.br.rest.length) else (f.br.buf, f.br.nb)

/-- Bytes 64 to 4,095 of the context of an INFLATE stream (assumption log 34). -/
def Inf.pack (f : Inf) : List Byte :=
  let p := f.pipe
  let h := f.held
  let bs := packFields [(1, p.ph), (1, b2n p.fin), (2, p.left), (2, p.len), (2, p.dist), (1, p.flg), (4, p.hcrc), (4, p.chk), (8, p.n),
    (1, f.br.pos % 8), (2, h.2), (700, h.1), (2, p.lens.1.length), (2, p.lens.2.length)] ++ (p.lens.1 ++ p.lens.2).map byteOf
  bs ++ List.replicate (4032 - bs.length) 0

/-- The pipe that these bytes hold, with the bits kept, their number, and where in an octet the next one stands (assumption log 34). -/
def unpackInf (o : List Byte) : InfPipe × Nat × Nat × Nat :=
  let a := leAt o 730 2
  let lens := (((o.drop 734).take a).map (·.toNat), ((o.drop (734 + a)).take (leAt o 732 2)).map (·.toNat))
  ({ ph := u8At o 0, fin := u8At o 1 ≠ 0, left := leAt o 2 2, len := leAt o 4 2, dist := leAt o 6 2, flg := u8At o 8, hcrc := leAt o 9 4,
     chk := leAt o 13 4, n := leAt o 17 8, lens := lens, lit := mkHuff lens.1, dst := mkHuff lens.2 },
   leAt o 28 700 % 2 ^ leAt o 26 2, leAt o 26 2, u8At o 25)

/-- Members of a gzip load one after another (03 R90). Answers the output, and the standing: 2 open, 3 complete at the end of the
input, an error code, 1 for too much output (assumption log 23). -/
def inflateMembers : Nat → List Byte → List Byte → Nat → List Byte × Nat
  | 0, _, acc, _ => (acc, 2)
  | fuel + 1, raw, acc, limit =>
    let f := inflateOne 2 raw (limit - acc.length)
    let acc := acc ++ f.out
    if f.st ≠ 3 then (acc, f.st)
    else
      let rest := raw.drop ((f.br.pos + 7) / 8)
      if rest.isEmpty then (acc, 3) else inflateMembers fuel rest acc limit

/-- A load's octets so far as image octets, with the standing; 0x104 for octets after a zlib stream (03 R90, R91; assumption log 23). -/
def inflateLoad (enc : Nat) (raw : List Byte) (limit : Nat) : List Byte × Nat :=
  if enc = 0 then (raw, 2)
  else if enc = 1 then
    let f := inflateOne 1 raw limit
    let o := f.out
    if f.st = 3 ∧ (f.br.pos + 7) / 8 < raw.length then (o, 0x104) else (o, f.st)
  else inflateMembers (raw.length + 1) raw [] limit

end Sys2Proof.Machine
end

