-- ==== Sys2Proof/Machine/Deflate.lean ====
section
/-! DEFINITION. Deflation (15 R430): blocks of 65,535 input octets in STORED, FIXED and DYNAMIC modes, the stored fallback, and where
the pipe stops when the output is full or the input used up. The parse, and the codes of a dynamic block, are the engine's own (assumption log 22). -/
namespace Sys2Proof.Machine

/-- What the pipe writes whole or not at all: its bits in the order of the stream, the input octets behind it, and whether it is a match. -/
structure DfSym where
  bits : List Bool
  eat : Nat := 0
  isMatch : Bool := false
  deriving DecidableEq, Repr

/-- A number of `n` bits, least significant first (RFC 1951). -/
def lowBits (n v : Nat) : List Bool := (List.range n).map v.testBit

/-- Octets as symbols of their own. -/
def dfOctets (bs : List Byte) : List DfSym := bs.map (fun b => ⟨lowBits 8 b.toNat, 0, false⟩)

/-- Bits of a list of symbols. -/
def dfLen (l : List DfSym) : Nat := l.foldl (fun n s => n + s.bits.length) 0

/-- The canonical code of symbol `s` among code lengths, most significant bit first (RFC 1951); none without a code. -/
def huffBits (lens : List Nat) (s : Nat) : Option (List Bool) :=
  let l := lens.getD s 0
  if l = 0 then none else
  let lower := ((lens.filter (fun x => x ≠ 0 && decide (x < l))).map (fun x => 2 ^ (l - x))).sum
  let same := ((lens.take s).filter (· = l)).length
  some (lowBits l (lower + same)).reverse

/-- A token of the parse: a literal octet, or a match of a length at a distance. -/
inductive DfTok where
  | lit (b : Byte)
  | copy (len dist : Nat)
  deriving DecidableEq, Repr

/-- A match that the engine may write at `p`: the octets agree and all lie in the block. -/
def matchOk (raw : List Byte) (p stop len dist : Nat) : Bool :=
  decide (3 ≤ len) && decide (len ≤ 258) && decide (p + len ≤ stop) && decide (1 ≤ dist) && decide (dist ≤ min p 32768) &&
  (raw.drop p).take len = (raw.drop (p - dist)).take len

/-- The parse of a block's octets from `p` to `stop`: the engine's match where it is one, else a literal (assumption log 22). -/
def dfTokens (mode : Nat) (raw : List Byte) (stop : Nat) : Nat → Nat → List DfTok
  | 0, _ => []
  | fuel + 1, p =>
    if p ≥ stop then [] else
    let m := Config.deflateMatch mode (raw.take stop) p
    if matchOk raw p stop m.1 m.2 then .copy m.1 m.2 :: dfTokens mode raw stop fuel (p + m.1)
    else .lit (raw.getD p 0) :: dfTokens mode raw stop fuel (p + 1)

/-- The last row of a table whose base is at most `v`. -/
def tabRow (tab : List (Nat × Nat)) (v : Nat) : Nat := (tab.filter (fun r => decide (r.1 ≤ v))).length - 1

/-- A token under a pair of codes; none where a symbol has no code. -/
def DfTok.coded (lens : List Nat × List Nat) : DfTok → Option DfSym
  | .lit b => (huffBits lens.1 b.toNat).map (fun c => ⟨c, 1, false⟩)
  | .copy len dist =>
    let i := tabRow lenTab len
    let j := tabRow distTab dist
    match huffBits lens.1 (257 + i), huffBits lens.2 j with
    | some a, some b =>
      let le := lenTab.getD i (0, 0)
      let de := distTab.getD j (0, 0)
      some ⟨a ++ lowBits le.2 (len - le.1) ++ b ++ lowBits de.2 (dist - de.1), len, true⟩
    | _, _ => none

/-- A block body under a pair of codes, with its end-of-block symbol. -/
def dfBody (lens : List Nat × List Nat) (toks : List DfTok) : Option (List DfSym) :=
  match toks.mapM (·.coded lens), huffBits lens.1 256 with
  | some l, some e => some (l ++ [⟨e, 0, false⟩])
  | _, _ => none

/-- Octets whose bits are given, least significant first; the last is filled with zeros. -/
def packLow (bs : List Bool) : List Byte :=
  (List.range ((bs.length + 7) / 8)).map (fun i => byteOf (((List.range 8).filter (fun k => bs.getD (8 * i + k) false)).foldl (fun n k => n + 2 ^ k) 0))

/-- The code lengths that a dynamic block's table spells, where the table is a valid one read to its last bit. -/
def tableLens (table : List Bool) : Option (List Nat × List Nat) :=
  match dynamicLens { rest := packLow table } with
  | .ok l b => if b.pos = table.length then some l else none
  | .need | .err _ _ => none

/-- A stored block where the stream stands at bit `pos`: its header, the fill to an octet, LEN and NLEN, the octets. -/
def dfStoredBlock (fin : Bool) (pos : Nat) (bs : List Byte) : List DfSym :=
  let n := bs.length
  ⟨[fin, false, false] ++ List.replicate ((8 - (pos + 3) % 8) % 8) false, 0, false⟩ :: dfOctets (toLE 2 n ++ toLE 2 (65535 - n)) ++
  bs.map (fun b => ⟨lowBits 8 b.toNat, 1, false⟩)

/-- A FIXED or DYNAMIC block (modes 1 and 2) of the input octets from `p` to `stop`; none where the table gives no code that is needed. -/
def dfCodedBlock (mode : Nat) (fin : Bool) (raw : List Byte) (p stop : Nat) : Option (List DfSym) :=
  let toks := dfTokens mode raw stop (stop - p) p
  if mode = 1 then (dfBody fixedLens toks).map (⟨fin :: lowBits 2 1, 0, false⟩ :: ·)
  else
    let table := Config.deflateTable (raw.take stop) p
    match tableLens table with
    | none => none
    | some lens => (dfBody lens toks).map (⟨(fin :: lowBits 2 2) ++ table, 0, false⟩ :: ·)

/-- One block: stored where the mode says so, or where its coding would exceed the stored block of the same input (15 R430). -/
def dfBlock (mode : Nat) (fin : Bool) (raw : List Byte) (pos p stop : Nat) : List DfSym :=
  let st := dfStoredBlock fin pos ((raw.take stop).drop p)
  if mode = 0 then st else
  match dfCodedBlock mode fin raw p stop with
  | none => st
  | some l => if dfLen l > dfLen st then st else l

/-- The symbols that find room in `room` bits, and whose input lies in the first `have_` octets. -/
def dfFit : Nat → Nat → List DfSym → List DfSym
  | _, _, [] => []
  | room, have_, s :: l => if s.bits.length ≤ room ∧ s.eat ≤ have_ then s :: dfFit (room - s.bits.length) (have_ - s.eat) l else []

/-! ### The deflate pipe -/

/-- The octets that open a stream that the part writes (15 R430). -/
def cxOpening (framing : Nat) : List Byte :=
  if framing = 1 then [0x78, 0x01] else if framing = 2 then [0x1f, 0x8b, 8, 0, 0, 0, 0, 0, 0, 0xff] else []

/-- The octets that close a stream, by its running check and count. -/
def cxTrailer (framing chk n : Nat) : List Byte :=
  if framing = 1 then toBE 4 chk else if framing = 2 then toLE 4 (chkOut 2 chk) ++ toLE 4 n else []

/-- The deflate pipe between two jobs (15 R428, R430). -/
structure DfPipe where
  /-- What is coded and not yet written: the opening, the open block from its open match on, the trailer. -/
  todo : List DfSym
  /-- Input octets of `todo` that are consumed. -/
  had : Nat := 0
  /-- The last of the consumed input: up to 32 KiB, and behind them `blk` octets that wait for the rest of their block. -/
  plain : List Byte := []
  blk : Nat := 0
  /-- The final block is coded. -/
  fin : Bool := false
  /-- The 0 to 7 bits that fill no octet. -/
  pend : List Bool := []
  /-- Running check and count of the consumed input. -/
  chk : Nat
  n : Nat := 0
  deriving DecidableEq, Repr

/-- The pipe at the start of a stream. -/
def DfPipe.start (framing : Nat) : DfPipe := { todo := dfOctets (cxOpening framing), chk := chkStart framing }

/-- Input octets are consumed. -/
def DfPipe.eat (framing : Nat) (p : DfPipe) (bs : List Byte) : DfPipe :=
  let l := p.plain ++ bs
  { p with plain := l.drop (l.length - 32768 - p.blk), chk := chkFold framing p.chk bs, n := p.n + bs.length }

/-- The next block, of which `p.blk` octets are consumed and `nw` follow, is coded; behind the final one the fill and the trailer (assumption log 22). -/
def DfPipe.code (framing mode : Nat) (p : DfPipe) (nw : List Byte) (fin : Bool) : DfPipe :=
  let raw := p.plain ++ nw
  let l := dfBlock mode fin raw p.pend.length (p.plain.length - p.blk) raw.length
  let l := if !fin then l else
    l ++ ⟨List.replicate ((8 - (p.pend.length + dfLen l) % 8) % 8) false, 0, false⟩ ::
      dfOctets (cxTrailer framing (chkFold framing p.chk nw) ((p.n + nw.length) % 2 ^ 32))
  { p with todo := l, had := p.blk, blk := 0, fin := fin }

/-- What a run of the pipe answers: the pipe after it, the input octets not consumed, RESULT, and the bits written. -/
structure DfRun where
  pipe : DfPipe
  rest : List Byte
  result : Nat
  bits : List Bool
  deriving DecidableEq, Repr

/-- The pipe runs (15 R427, R430): what is coded is written as far as there is room, and stops at the last symbol that fits; a match that does not fit
counts as consumed. Then the next block is coded: one of 65,535 octets, or a shorter one that is the last; less than that waits for more (assumption log 22). -/
def dfRun (framing mode : Nat) (last : Bool) : Nat → Nat → DfPipe → List Byte → List Bool → DfRun
  | 0, _, p, rest, bs => ⟨p, rest, 2, bs⟩
  | fuel + 1, room, p, rest, bs =>
    let fit := dfFit room (if last then (p.todo.map DfSym.eat).sum else p.had + rest.length) p.todo
    let left := p.todo.drop fit.length
    let eaten := (fit.map DfSym.eat).sum
    let cut := left.head?.elim 0 (fun s => if s.isMatch then s.eat else 0)
    let k := max p.had (eaten + cut) - p.had
    let w := fit.flatMap DfSym.bits
    let bs := bs ++ w
    let all := p.pend ++ w
    let q := { p.eat framing (rest.take k) with todo := left, had := max p.had (eaten + cut) - eaten, pend := all.drop (all.length / 8 * 8) }
    let rest := rest.drop k
    let room := room - w.length
    match left with
    | s :: _ => ⟨q, rest, if s.bits.length ≤ room then 1 else 2, bs⟩
    | [] =>
      if q.fin then ⟨q, rest, 0, bs⟩
      else
        let more := decide (q.blk + rest.length > 65535)
        if !more && !last then
          let r := { q with blk := q.blk + rest.length }
          ⟨r.eat framing rest, [], 1, bs⟩
        else dfRun framing mode last fuel room (q.code framing mode (rest.take (65535 - q.blk)) (!more)) rest bs

end Sys2Proof.Machine
end

