-- ==== Sys2Proof/Machine/Clock.lean ====
section
/-! DEFINITION. How the Tick runs (13 R382, R394): the time clock's increment with the servo's frequency correction, and the course of a slew. -/
namespace Sys2Proof.Machine

/-- The greatest number whose square is at most `n`, which is below 2^120. -/
def rootFloor (n : Nat) : Nat :=
  (List.range 60).foldl (fun r i => let t := r + 2 ^ (59 - i); if t * t ≤ n then t else r) 0

/-- How long the steering frequency of a slew ramps each way, for an offset of size `d`: sqrt(d / 10 ns) ms, at most 5 ms (R394). -/
def slewRamp (d : Nat) : Nat := if d ≤ tNs 250 then rootFloor (d * 65536 * 100000000000) else tMs 5
/-- How long it holds 50 ppm. -/
def slewHold (d : Nat) : Nat := (d - tNs 250) * 20000
/-- The whole slew. -/
def slewTime (d : Nat) : Nat := 2 * slewRamp d + slewHold d

/-- Phase of a ramp of 10 ppm per ms after a time, in units of 2^−48 ns. -/
def rampPhase (t : Nat) : Nat := t * t * 32768 / 100000000000

/-- Phase that a slew of size `d` has removed after a time, in units of 2^−48 ns (R394). -/
def slewPhase (d t : Nat) : Nat :=
  let r := slewRamp d
  if t ≥ slewTime d then d * 2 ^ 32
  else if t ≤ r then rampPhase t
  else if t ≤ r + slewHold d then rampPhase r + (t - r) * 2 ^ 32 / 20000
  else d * 2 ^ 32 - rampPhase (slewTime d - t)

/-- The same with the sign of the offset. -/
def slewMoved (d : Int) (t : Nat) : Int := if d < 0 then -(slewPhase d.natAbs t) else slewPhase d.natAbs t

/-- What the time clock adds to the Tick in `dt`, in units of 2^−48 ns, without a slew: the nominal 2 ns a cycle and a correction of `freq`
ppb, held within 500 ppm (R382; assumption log 4). -/
def clockAdds (freq : Int) (dt : Nat) : Int := (dt * 2 ^ 32 : Nat) + (dt * 2 ^ 32 : Nat) * clampI (-500000) 500000 freq / 1000000000

end Sys2Proof.Machine
end

