-- ==== Sys2Proof/Machine/Ecc.lean ====
section
/-! DEFINITION. Check words of DRAM bursts (14 R408) and of SRAM words (14 R420): extended Hamming codes, what flipped bits make of a word,
and where a check word stands. -/
namespace Sys2Proof.Machine

/-! ### Extended Hamming codes -/

/-- The first `n` positions that are no power of two, from 3 on: where the data bits stand in a Hamming word (assumption log 38). -/
def hamPositions (n : Nat) : List Nat := ((List.range (2 * n + 3)).filter (fun k => decide (3 ≤ k) && 2 ^ Nat.log2 k ≠ k)).take n

/-- The position of bit `i` of a word of `n` data bits, then `p` Hamming bits, then the overall parity, which stands at 0 (assumption log 38). -/
def hamPos (n p i : Nat) : Nat := if i < n then (hamPositions n).getD i 0 else if i < n + p then 2 ^ (i - n) else 0

/-- XOR of the positions of the listed bits: the syndrome of an error, or the Hamming bits of data. -/
def hamSum (n p : Nat) (l : List Nat) : Nat := l.foldl (fun s i => s ^^^ hamPos n p i) 0

/-- What a decoder makes of a set of flipped bits: nothing to correct, one bit corrected, or uncorrectable. -/
inductive EccRead where
  | clean
  | fixed (bit : Nat)
  | bad
  deriving DecidableEq, Repr

/-- The decoder of an extended Hamming code (assumption log 38). -/
def hamRead (n p : Nat) (flipped : List Nat) : EccRead :=
  let s := hamSum n p flipped
  if flipped.length % 2 = 0 then (if s = 0 then .clean else .bad)
  else match (List.range (n + p + 1)).find? (fun i => hamPos n p i = s) with
    | some i => .fixed i
    | none => .bad

/-- The check bits of data: Hamming bits, and the overall parity on top. -/
def hamCheck (n p data : Nat) : Nat :=
  let h := hamSum n p (bitsOf n data)
  h + 2 ^ p * ((popCount n data + popCount p h) % 2)

/-! ### Check words of DRAM (R408) -/

/-- XOR of the 5-bit pieces of a number below 2^40. -/
def fold5 (x : Nat) : Nat := (List.range 8).foldl (fun r i => r ^^^ (x >>> (5 * i)) % 32) 0

/-- The fold of a burst's place: rank, bank, row and column [10:6], from the top (assumption log 38). -/
def placeFold (rank bank row col : Nat) : Nat := fold5 (((rank * 16 + bank) * 2 ^ 16 + row) * 32 + bits col 10 6)

/-- The check word of a burst (assumption log 38). -/
def checkWord (rank bank row col data : Nat) : Nat := hamCheck 512 10 data + 2048 * placeFold rank bank row col

/-- Where the check word of a burst stands: bank, row and byte in the row, of the same channel and rank. -/
def checkPlace (rdata bank row col : Nat) : Nat × Nat × Nat := (bank ^^^ 8, rdata + row / 32, 64 * (row % 32) + 2 * (bits col 10 6))

/-- What a read makes of the flipped bits of a burst and its check word: 0 to 511 are data, 512 to 527 the check word. A fold that does not match is
uncorrectable (assumption log 38). -/
def burstRead (mask : Nat) : EccRead :=
  let l := bitsOf 528 mask
  if mask = 0 then .clean else if l.any (fun i => decide (523 ≤ i)) then .bad else hamRead 512 10 l

/-! ### Check bits of SRAM (R420) -/

/-- What a read makes of the flipped bits of a 64-bit SRAM word with its 8 SECDED check bits, 64 to 71 (assumption log 38). -/
def sramRead (mask : Nat) : EccRead := hamRead 64 7 (bitsOf 72 mask)

end Sys2Proof.Machine
end

