-- ==== Sys2Proof/Machine/RegTable.lean ====
section
/-! DEFINITION. The register field tables of the chapters (00 R7 to R12), one row per field: the access code,
the reset value and where the field stands: in the register store (own), in the dictionary entry it reads as (ent, arr: entry, bit
offset), or formed from State when it is read (calc). Reserved bits have no row: they read 0 (00 R8). -/
namespace Sys2Proof.Machine

/-- Where a register field stands. `ent k o`: bits from `o` of entry `k`; `arr i o`: bits from `o` of element `inst` of array entry `i`. -/
inductive Mir where
  | own
  | ent (k : Nat) (off : Nat)
  | arr (i : Nat) (off : Nat)
  | calc
  deriving DecidableEq, Repr

/-- One field of a register: bits [hi:lo], access code (00 R9), reset value (00 R12), place. -/
structure RegField where
  reg : RegName
  hi : Nat
  lo : Nat
  acc : Acc
  rst : Nat
  mir : Mir
  deriving DecidableEq, Repr

/-- Fields of the XZ_ registers. -/
def regFieldsXZ : List RegField := [
  ⟨.xzRayQuery, 25, 0, .wo, 0, .own⟩,
  ⟨.xzRayStatus, 3, 3, .ro, 0, .own⟩,
  ⟨.xzRayStatus, 2, 2, .ro, 0, .own⟩,
  ⟨.xzRayStatus, 1, 1, .ro, 0, .own⟩,
  ⟨.xzRayStatus, 0, 0, .ro, 0, .own⟩,
  ⟨.xzRayHogel, 26, 16, .ro, 0, .own⟩,
  ⟨.xzRayHogel, 9, 0, .ro, 0, .own⟩,
  ⟨.xzRayView, 31, 24, .ro, 0, .own⟩,
  ⟨.xzRayView, 23, 16, .ro, 0, .own⟩,
  ⟨.xzRayView, 15, 8, .ro, 0, .own⟩,
  ⟨.xzRayView, 7, 0, .ro, 0, .own⟩,
  ⟨.xzRayLens, 25, 19, .ro, 0, .own⟩,
  ⟨.xzRayLens, 18, 0, .ro, 0, .own⟩,
  ⟨.xzRaySx, 31, 0, .ro, 0, .own⟩,
  ⟨.xzRaySy, 31, 0, .ro, 0, .own⟩,
  ⟨.xzSlotStatus, 13, 12, .ro, 0, .ent 0x410401 0⟩,
  ⟨.xzSlotStatus, 9, 9, .ro, 0, .calc⟩,
  ⟨.xzSlotStatus, 8, 8, .ro, 0, .calc⟩,
  ⟨.xzSlotStatus, 6, 4, .ro, 0, .ent 0x410207 0⟩,
  ⟨.xzSlotStatus, 2, 0, .ro, 0, .ent 0x410206 0⟩,
  ⟨.xzLoadCtrl, 10, 10, .w1c, 0, .own⟩,
  ⟨.xzLoadCtrl, 9, 9, .w1c, 0, .own⟩,
  ⟨.xzLoadCtrl, 8, 8, .ro, 0, .calc⟩,
  ⟨.xzLoadCtrl, 5, 4, .rw, 0, .own⟩,
  ⟨.xzLoadCtrl, 1, 0, .wo, 0, .own⟩,
  ⟨.xzLoadSrcLo, 31, 0, .rw, 0, .own⟩,
  ⟨.xzLoadSrcHi, 31, 0, .rw, 0, .own⟩,
  ⟨.xzLoadLen, 31, 0, .rw, 0, .own⟩,
  ⟨.xzActCtrl, 12, 12, .ro, 0, .calc⟩,
  ⟨.xzActCtrl, 9, 8, .wo, 0, .own⟩,
  ⟨.xzActCtrl, 4, 4, .rw, 0, .ent 0x410302 0⟩,
  ⟨.xzActCtrl, 0, 0, .rw, 0, .ent 0x410301 0⟩,
  ⟨.xzActTickLo, 31, 0, .rw, 0, .ent 0x410303 0⟩,
  ⟨.xzActTickHi, 31, 0, .rw, 0, .ent 0x410303 32⟩,
  ⟨.xzResult, 31, 8, .ro, 0, .ent 0x410209 0⟩,
  ⟨.xzResult, 7, 0, .ro, 0, .ent 0x410208 0⟩]

/-- Fields of the DC_ registers. -/
def regFieldsDC : List RegField := [
  ⟨.dcFormat, 15, 8, .ro, 3, .ent 0x300002 0⟩,
  ⟨.dcFormat, 7, 0, .ro, 0x10, .ent 0x300001 0⟩,
  ⟨.dcInputStatus, 31, 16, .rc, 0, .own⟩,
  ⟨.dcInputStatus, 10, 0, .ro, 0, .calc⟩,
  ⟨.dcEngineStatus, 11, 8, .w1c, 0, .own⟩,
  ⟨.dcEngineStatus, 7, 4, .ro, 0, .calc⟩,
  ⟨.dcEngineStatus, 3, 0, .ro, 0, .calc⟩,
  ⟨.dcCtxSel, 9, 0, .rw, 0, .own⟩,
  ⟨.dcCtxStatus, 31, 24, .ro, 0, .calc⟩,
  ⟨.dcCtxStatus, 17, 12, .ro, 0, .calc⟩,
  ⟨.dcCtxStatus, 11, 8, .ro, 0, .calc⟩,
  ⟨.dcCtxStatus, 1, 0, .ro, 0, .calc⟩]

/-- Fields of the ES_ registers. -/
def regFieldsES : List RegField := [
  ⟨.esStatus, 31, 31, .ro, 0, .calc⟩,
  ⟨.esStatus, 21, 16, .ro, 0x20, .ent 0x400005 0⟩,
  ⟨.esStatus, 15, 0, .ro, 0, .ent 0x400007 0⟩,
  ⟨.esEvents, 3, 3, .w1c, 0, .own⟩,
  ⟨.esEvents, 2, 2, .w1c, 0, .own⟩,
  ⟨.esEvents, 1, 1, .w1c, 0, .own⟩,
  ⟨.esEvents, 0, 0, .w1c, 0, .own⟩,
  ⟨.esBrushOut, 31, 0, .ro, 0, .calc⟩,
  ⟨.esBrushFault, 31, 0, .w1c, 0, .own⟩,
  ⟨.esTiming, 10, 0, .rws, 0, .ent 0x400004 0⟩,
  ⟨.esFrameCycles, 31, 0, .ro, 0, .ent 0x400008 0⟩,
  ⟨.esBoundsRays, 31, 0, .ro, 0, .ent 0x40000E 0⟩,
  ⟨.esBoundsSlice, 31, 0, .ro, 0xffffffff, .own⟩,
  ⟨.esBackgroundR, 31, 0, .rws, 0, .ent 0x400001 0⟩,
  ⟨.esBackgroundG, 31, 0, .rws, 0, .ent 0x400002 0⟩,
  ⟨.esBackgroundB, 31, 0, .rws, 0, .ent 0x400003 0⟩]

/-- Fields of the PL_ registers. -/
def regFieldsPL : List RegField := [
  ⟨.plLayerCfg, 31, 24, .rws, 0, .arr 0x4301 0⟩,
  ⟨.plLayerCfg, 23, 16, .rws, 0, .arr 0x4212 0⟩,
  ⟨.plLayerCfg, 11, 10, .rws, 0, .calc⟩,
  ⟨.plLayerCfg, 9, 8, .rws, 0, .calc⟩,
  ⟨.plLayerCfg, 3, 3, .rws, 0, .arr 0x4218 0⟩,
  ⟨.plLayerCfg, 2, 2, .rws, 0, .arr 0x4211 0⟩,
  ⟨.plLayerCfg, 1, 0, .rws, 0, .arr 0x4210 0⟩,
  ⟨.plLayerStatus, 21, 16, .ro, 0, .arr 0x421E 0⟩,
  ⟨.plLayerStatus, 15, 8, .ro, 0, .arr 0x421D 0⟩,
  ⟨.plLayerStatus, 1, 0, .ro, 0, .arr 0x421C 0⟩,
  ⟨.plFrameStatus, 31, 16, .ro, 0, .ent 0x420002 0⟩,
  ⟨.plFrameStatus, 15, 0, .ro, 0, .ent 0x420001 0⟩,
  ⟨.plEvents, 3, 3, .w1c, 0, .own⟩,
  ⟨.plEvents, 2, 2, .w1c, 0, .own⟩,
  ⟨.plEvents, 1, 1, .w1c, 0, .own⟩,
  ⟨.plEvents, 0, 0, .w1c, 0, .own⟩]

/-- Fields of the GZ_ registers. -/
def regFieldsGZ : List RegField := [
  ⟨.gzStatus, 31, 16, .rc, 0, .own⟩,
  ⟨.gzStatus, 0, 0, .ro, 0, .ent 0x430002 0⟩]

/-- Fields of the ST_ registers. -/
def regFieldsST : List RegField := [
  ⟨.stCfg, 25, 16, .rw, 0, .ent 0x450002 0⟩,
  ⟨.stCfg, 0, 0, .rw, 0, .ent 0x450001 0⟩,
  ⟨.stStatus, 6, 6, .ro, 0, .calc⟩,
  ⟨.stStatus, 5, 5, .ro, 0, .calc⟩,
  ⟨.stStatus, 4, 4, .w1c, 0, .own⟩,
  ⟨.stStatus, 3, 3, .w1c, 0, .own⟩,
  ⟨.stStatus, 2, 2, .w1c, 0, .own⟩,
  ⟨.stStatus, 1, 1, .w1c, 0, .own⟩,
  ⟨.stStatus, 0, 0, .ro, 0, .calc⟩,
  ⟨.stCmd, 31, 24, .rw, 0, .own⟩,
  ⟨.stCmd, 16, 16, .wo, 0, .own⟩,
  ⟨.stCmd, 10, 8, .rw, 0, .own⟩,
  ⟨.stCmd, 3, 0, .rw, 0, .own⟩,
  ⟨.stFmt, 15, 8, .rw, 0x10, .own⟩,
  ⟨.stFmt, 7, 0, .rw, 0x10, .own⟩,
  ⟨.stSrcBaseLo, 31, 0, .rw, 0, .own⟩,
  ⟨.stSrcBaseHi, 31, 0, .rw, 0, .own⟩,
  ⟨.stDstBaseLo, 31, 0, .rw, 0, .own⟩,
  ⟨.stDstBaseHi, 31, 0, .rw, 0, .own⟩,
  ⟨.stListBaseLo, 31, 0, .rw, 0, .own⟩,
  ⟨.stListBaseHi, 31, 0, .rw, 0, .own⟩,
  ⟨.stSrcPitch, 31, 0, .rw, 0, .own⟩,
  ⟨.stDstPitch, 31, 0, .rw, 0, .own⟩,
  ⟨.stSrcSize, 31, 16, .rw, 0, .own⟩,
  ⟨.stDstSize, 31, 16, .rw, 0, .own⟩,
  ⟨.stOpSize, 31, 16, .rw, 0, .own⟩,
  ⟨.stSrcXy, 31, 16, .rw, 0, .own⟩,
  ⟨.stDstXy, 31, 16, .rw, 0, .own⟩,
  ⟨.stClipMin, 31, 16, .rw, 0, .own⟩,
  ⟨.stClipMax, 31, 16, .rw, 0, .own⟩,
  ⟨.stSrcSize, 15, 0, .rw, 0, .own⟩,
  ⟨.stDstSize, 15, 0, .rw, 0, .own⟩,
  ⟨.stOpSize, 15, 0, .rw, 0, .own⟩,
  ⟨.stSrcXy, 15, 0, .rw, 0, .own⟩,
  ⟨.stDstXy, 15, 0, .rw, 0, .own⟩,
  ⟨.stClipMin, 15, 0, .rw, 0, .own⟩,
  ⟨.stClipMax, 15, 0, .rw, 0, .own⟩,
  ⟨.stFg, 31, 0, .rw, 0, .own⟩,
  ⟨.stBg, 31, 0, .rw, 0, .own⟩,
  ⟨.stClipEn, 7, 0, .rw, 0, .own⟩,
  ⟨.stWaitRow, 15, 0, .rw, 0, .own⟩,
  ⟨.stTag, 31, 0, .rw, 0, .own⟩,
  ⟨.stListCtrl, 19, 16, .rw, 4, .own⟩,
  ⟨.stListCtrl, 2, 2, .rw, 0, .own⟩,
  ⟨.stListCtrl, 1, 0, .wo, 0, .own⟩,
  ⟨.stListHead, 11, 0, .ro, 0, .calc⟩,
  ⟨.stListTail, 11, 0, .rw, 0, .own⟩,
  ⟨.stWmCfg, 31, 31, .rw, 0, .ent 0x450003 0⟩,
  ⟨.stWmCfg, 30, 30, .rw, 0, .ent 0x450004 0⟩,
  ⟨.stWmCfg, 19, 16, .rw, 0, .ent 0x450006 0⟩,
  ⟨.stWmCfg, 15, 0, .rw, 0, .ent 0x450005 0⟩,
  ⟨.stError, 7, 0, .ro, 0, .ent 0x450009 0⟩]

/-- Fields of the PD_ registers. -/
def regFieldsPD : List RegField := [
  ⟨.pdCtrl, 31, 16, .rws, 0, .ent 0x440002 0⟩,
  ⟨.pdCtrl, 0, 0, .rws, 0, .ent 0x440001 0⟩,
  ⟨.pdStatus, 31, 16, .ro, 0xffff, .ent 0x440007 0⟩,
  ⟨.pdStatus, 2, 0, .ro, 0, .ent 0x440006 0⟩,
  ⟨.pdLaneLost, 31, 0, .ro, 0, .calc⟩,
  ⟨.pdLaneFault, 31, 0, .w1c, 0, .own⟩,
  ⟨.pdEvents, 4, 4, .w1c, 0, .own⟩,
  ⟨.pdEvents, 3, 3, .w1c, 0, .own⟩,
  ⟨.pdEvents, 2, 2, .w1c, 0, .own⟩,
  ⟨.pdEvents, 1, 1, .w1c, 0, .own⟩,
  ⟨.pdEvents, 0, 0, .w1c, 0, .own⟩,
  ⟨.pdFlipTickLo, 31, 0, .ro, 0, .ent 0x440008 0⟩,
  ⟨.pdFlipTickHi, 31, 0, .ro, 0, .ent 0x440008 32⟩,
  ⟨.pdFrames, 31, 0, .ro, 0, .ent 0x440009 0⟩,
  ⟨.pdLaneCfg, 31, 16, .rw, 0, .arr 0x4410 0⟩,
  ⟨.pdLaneCfg, 15, 8, .rw, 0, .arr 0x4411 0⟩,
  ⟨.pdLaneCfg, 2, 0, .ro, 0, .arr 0x4412 0⟩]

/-- Fields of the EN_ registers. -/
def regFieldsEN : List RegField := [
  ⟨.enStatus, 16, 16, .ro, 0, .calc⟩,
  ⟨.enStatus, 15, 0, .ro, 0, .calc⟩,
  ⟨.enEvents, 4, 4, .w1c, 0, .own⟩,
  ⟨.enEvents, 3, 3, .w1c, 0, .own⟩,
  ⟨.enEvents, 2, 2, .w1c, 0, .own⟩,
  ⟨.enEvents, 1, 1, .w1c, 0, .own⟩,
  ⟨.enEvents, 0, 0, .w1c, 0, .own⟩,
  ⟨.enRing, 27, 16, .ro, 0, .calc⟩,
  ⟨.enRing, 11, 0, .rw, 0, .own⟩]

/-- Fields of the LN_ registers. -/
def regFieldsLN : List RegField := [
  ⟨.lnLaneStatus, 31, 28, .ro, 0, .arr 0x201A 0⟩,
  ⟨.lnLaneStatus, 19, 16, .ro, 0xf, .calc⟩,
  ⟨.lnLaneStatus, 9, 8, .ro, 0, .arr 0x2011 0⟩,
  ⟨.lnLaneStatus, 4, 4, .ro, 1, .arr 0x2018 0⟩,
  ⟨.lnLaneStatus, 3, 3, .w1c, 0, .own⟩,
  ⟨.lnLaneStatus, 2, 0, .ro, 0, .arr 0x2010 0⟩,
  ⟨.lnLaneTaps, 20, 16, .ro, 0, .arr 0x2014 16⟩,
  ⟨.lnLaneTaps, 13, 8, .ro, 0, .arr 0x2014 8⟩,
  ⟨.lnLaneTaps, 3, 0, .ro, 0, .arr 0x2014 0⟩,
  ⟨.lnEye, 31, 31, .ro, 1, .arr 0x2018 0⟩,
  ⟨.lnEye, 23, 16, .ro, 0, .arr 0x2017 0⟩,
  ⟨.lnEye, 9, 0, .ro, 0, .arr 0x2016 0⟩,
  ⟨.lnTestCtrl, 31, 31, .wo, 0, .own⟩,
  ⟨.lnTestCtrl, 25, 25, .ro, 0, .calc⟩,
  ⟨.lnTestCtrl, 24, 24, .ro, 0, .calc⟩,
  ⟨.lnTestCtrl, 23, 20, .rw, 0, .arr 0x201E 20⟩,
  ⟨.lnTestCtrl, 16, 16, .rw, 0, .arr 0x201E 16⟩,
  ⟨.lnTestCtrl, 10, 8, .rw, 0, .arr 0x201E 8⟩,
  ⟨.lnTestCtrl, 1, 0, .rw, 0, .arr 0x201E 0⟩,
  ⟨.lnTestUserLo, 31, 0, .rw, 0, .own⟩,
  ⟨.lnTestUserHi, 31, 0, .rw, 0, .own⟩,
  ⟨.lnTestErrors, 31, 0, .rc, 0, .own⟩,
  ⟨.lnPortStatus, 31, 24, .ro, 0xff, .arr 0x2004 0⟩,
  ⟨.lnPortStatus, 23, 20, .ro, 0xf, .calc⟩,
  ⟨.lnPortStatus, 16, 16, .ro, 0, .calc⟩,
  ⟨.lnPortStatus, 8, 0, .ro, 0, .arr 0x2003 0⟩,
  ⟨.lnFailedLo, 31, 0, .ro, 0, .calc⟩,
  ⟨.lnFailedHi, 31, 0, .ro, 0, .calc⟩]

/-- Fields of the RG_ registers. -/
def regFieldsRG : List RegField := [
  ⟨.rgRxMap, 20, 20, .ro, 0, .arr 0x2110 20⟩,
  ⟨.rgTxMap, 20, 20, .ro, 0, .arr 0x2111 20⟩,
  ⟨.rgRxMap, 19, 16, .ro, 0, .arr 0x2110 16⟩,
  ⟨.rgTxMap, 19, 16, .ro, 0, .arr 0x2111 16⟩,
  ⟨.rgRxMap, 15, 12, .ro, 0xf, .arr 0x2110 12⟩,
  ⟨.rgTxMap, 15, 12, .ro, 0xf, .arr 0x2111 12⟩,
  ⟨.rgRxMap, 8, 0, .ro, 0, .arr 0x2110 0⟩,
  ⟨.rgTxMap, 8, 0, .ro, 0, .arr 0x2111 0⟩,
  ⟨.rgFecErrors, 31, 16, .rc, 0, .own⟩,
  ⟨.rgFecErrors, 15, 0, .rc, 0, .own⟩,
  ⟨.rgKeep, 15, 0, .ro, 0xffff, .ent 0x210007 0⟩,
  ⟨.rgEvents, 5, 5, .w1c, 0, .own⟩,
  ⟨.rgEvents, 4, 4, .w1c, 0, .own⟩,
  ⟨.rgEvents, 3, 3, .w1c, 0, .own⟩,
  ⟨.rgEvents, 2, 2, .w1c, 0, .own⟩,
  ⟨.rgEvents, 1, 1, .w1c, 0, .own⟩,
  ⟨.rgEvents, 0, 0, .w1c, 0, .own⟩,
  ⟨.rgRingId, 24, 24, .ro, 0, .ent 0x210006 0⟩,
  ⟨.rgRingId, 23, 16, .ro, 0, .ent 0x210004 0⟩,
  ⟨.rgRingId, 15, 8, .ro, 0xff, .ent 0x210003 0⟩,
  ⟨.rgRingId, 1, 0, .ro, 0, .ent 0x210002 0⟩]

/-- Fields of the TB_ registers. -/
def regFieldsTB : List RegField := [
  ⟨.tbNowLo, 31, 0, .ro, 0, .ent 0x230005 0⟩,
  ⟨.tbNowHi, 31, 0, .ro, 0, .ent 0x230005 32⟩,
  ⟨.tbNextFlipLo, 31, 0, .ro, 0, .ent 0x230009 0⟩,
  ⟨.tbNextFlipHi, 31, 0, .ro, 0, .ent 0x230009 32⟩,
  ⟨.tbStatus, 17, 17, .ro, 0, .calc⟩,
  ⟨.tbStatus, 16, 16, .ro, 0, .calc⟩,
  ⟨.tbStatus, 14, 12, .ro, 0, .ent 0x230302 0⟩,
  ⟨.tbStatus, 10, 8, .ro, 0, .ent 0x230301 0⟩,
  ⟨.tbStatus, 5, 4, .ro, 3, .calc⟩,
  ⟨.tbStatus, 1, 0, .ro, 0, .ent 0x230001 0⟩,
  ⟨.tbOffsetA, 31, 0, .ro, 0, .calc⟩,
  ⟨.tbOffsetB, 31, 0, .ro, 0, .calc⟩,
  ⟨.tbEvents, 4, 4, .w1c, 0, .own⟩,
  ⟨.tbEvents, 3, 3, .w1c, 0, .own⟩,
  ⟨.tbEvents, 2, 2, .w1c, 0, .own⟩,
  ⟨.tbEvents, 1, 1, .w1c, 0, .own⟩,
  ⟨.tbEvents, 0, 0, .w1c, 0, .own⟩]

/-- Fields of the MC_ registers. -/
def regFieldsMC : List RegField := [
  ⟨.mcStatus, 15, 8, .ro, 0, .calc⟩,
  ⟨.mcStatus, 3, 2, .ro, 0, .ent 0x500003 0⟩,
  ⟨.mcPortStatus, 31, 24, .ro, 0, .calc⟩,
  ⟨.mcPortStatus, 18, 16, .ro, 2, .arr 0x5005 0⟩,
  ⟨.mcPortStatus, 15, 12, .ro, 0, .calc⟩,
  ⟨.mcPortStatus, 8, 8, .ro, 0, .calc⟩,
  ⟨.mcPortStatus, 0, 0, .ro, 0, .calc⟩,
  ⟨.mcEccStatus, 31, 16, .rc, 0, .own⟩,
  ⟨.mcEccStatus, 15, 0, .rc, 0, .own⟩,
  ⟨.mcErrAddrLo, 31, 0, .ro, 0, .own⟩,
  ⟨.mcErrAddrHi, 31, 0, .ro, 0, .own⟩,
  ⟨.mcEvents, 4, 4, .w1c, 0, .own⟩,
  ⟨.mcEvents, 3, 3, .w1c, 0, .own⟩,
  ⟨.mcEvents, 2, 2, .w1c, 0, .own⟩,
  ⟨.mcEvents, 1, 1, .w1c, 0, .own⟩,
  ⟨.mcEvents, 0, 0, .w1c, 0, .own⟩,
  ⟨.mcPdIdle, 16, 0, .rw, 0, .ent 0x500004 0⟩]

/-- Fields of the CX_ registers. -/
def regFieldsCX : List RegField := [
  ⟨.cxStatus, 16, 16, .ro, 0, .ent 0x510007 0⟩,
  ⟨.cxStatus, 15, 8, .ro, 0, .ent 0x510005 0⟩,
  ⟨.cxStatus, 1, 1, .ro, 0, .calc⟩,
  ⟨.cxStatus, 0, 0, .ro, 0, .calc⟩,
  ⟨.cxEvents, 2, 2, .w1c, 0, .own⟩,
  ⟨.cxEvents, 1, 1, .w1c, 0, .own⟩,
  ⟨.cxEvents, 0, 0, .w1c, 0, .own⟩]

/-- Fields of the CK_ registers. -/
def regFieldsCK : List RegField := [
  ⟨.ckCfg, 31, 24, .rw, 0, .arr 0x5210 24⟩,
  ⟨.ckCfg, 19, 16, .rw, 0, .arr 0x5210 16⟩,
  ⟨.ckCfg, 14, 14, .rw, 0, .arr 0x5210 14⟩,
  ⟨.ckCfg, 12, 12, .rw, 0, .arr 0x5210 12⟩,
  ⟨.ckCfg, 9, 9, .rw, 1, .arr 0x5210 9⟩,
  ⟨.ckCfg, 8, 8, .rw, 1, .arr 0x5210 8⟩,
  ⟨.ckCfg, 6, 0, .rw, 0x20, .arr 0x5210 0⟩,
  ⟨.ckSnoopCount, 31, 0, .rw, 0, .own⟩,
  ⟨.ckPolyLo, 31, 0, .rw, 0x4c11db7, .arr 0x5211 0⟩,
  ⟨.ckPolyHi, 31, 0, .rw, 0, .arr 0x5211 32⟩,
  ⟨.ckInitLo, 31, 0, .rw, 0xffffffff, .arr 0x5212 0⟩,
  ⟨.ckInitHi, 31, 0, .rw, 0, .arr 0x5212 32⟩,
  ⟨.ckXoroutLo, 31, 0, .rw, 0xffffffff, .arr 0x5213 0⟩,
  ⟨.ckXoroutHi, 31, 0, .rw, 0, .arr 0x5213 32⟩,
  ⟨.ckExpectLo, 31, 0, .rw, 0, .arr 0x5214 0⟩,
  ⟨.ckExpectHi, 31, 0, .rw, 0, .arr 0x5214 32⟩,
  ⟨.ckValueLo, 31, 0, .rw, 0xffffffff, .arr 0x5215 0⟩,
  ⟨.ckValueHi, 31, 0, .rw, 0, .arr 0x5215 32⟩,
  ⟨.ckResultLo, 31, 0, .ro, 0, .arr 0x5216 0⟩,
  ⟨.ckResultHi, 31, 0, .ro, 0, .arr 0x5216 32⟩,
  ⟨.ckDataB, 31, 0, .wo, 0, .own⟩,
  ⟨.ckDataH, 31, 0, .wo, 0, .own⟩,
  ⟨.ckDataW, 31, 0, .wo, 0, .own⟩,
  ⟨.ckCtrl, 2, 2, .wo, 0, .own⟩,
  ⟨.ckCtrl, 1, 1, .wo, 0, .own⟩,
  ⟨.ckCtrl, 0, 0, .wo, 0, .own⟩,
  ⟨.ckStatus, 9, 9, .ro, 0, .arr 0x5219 9⟩,
  ⟨.ckStatus, 8, 8, .ro, 0, .arr 0x5219 8⟩,
  ⟨.ckStatus, 7, 7, .w1c, 0, .arr 0x5219 7⟩,
  ⟨.ckStatus, 6, 6, .w1c, 0, .arr 0x5219 6⟩,
  ⟨.ckStatus, 5, 5, .w1c, 0, .arr 0x5219 5⟩,
  ⟨.ckStatus, 4, 4, .w1c, 0, .arr 0x5219 4⟩,
  ⟨.ckStatus, 3, 3, .w1c, 0, .arr 0x5219 3⟩,
  ⟨.ckStatus, 2, 2, .ro, 0, .arr 0x5219 2⟩,
  ⟨.ckStatus, 1, 1, .ro, 0, .arr 0x5219 1⟩,
  ⟨.ckStatus, 0, 0, .ro, 0, .arr 0x5219 0⟩]

/-- Fields of the DY_ registers. -/
def regFieldsDY : List RegField := [
  ⟨.dyStatus, 31, 24, .ro, 2, .ent 0x540004 0⟩,
  ⟨.dyStatus, 18, 16, .ro, 0, .ent 0x540006 0⟩,
  ⟨.dyStatus, 15, 0, .ro, 0, .ent 0x540005 0⟩,
  ⟨.dyCommitCtrl, 9, 9, .w1c, 0, .own⟩,
  ⟨.dyCommitCtrl, 8, 8, .w1c, 0, .own⟩,
  ⟨.dyCommitCtrl, 1, 0, .wo, 0, .own⟩,
  ⟨.dyCommitId, 31, 0, .ro, 0, .own⟩,
  ⟨.dyAcceptTickLo, 31, 0, .ro, 0, .own⟩,
  ⟨.dyAcceptTickHi, 31, 0, .ro, 0, .own⟩,
  ⟨.dyCommitResult, 31, 16, .ro, 0, .ent 0x540009 0⟩,
  ⟨.dyCommitResult, 1, 0, .ro, 0, .ent 0x540008 0⟩,
  ⟨.dyEvents, 3, 3, .w1c, 0, .own⟩,
  ⟨.dyEvents, 2, 2, .w1c, 0, .own⟩,
  ⟨.dyEvents, 1, 1, .w1c, 0, .own⟩,
  ⟨.dyEvents, 0, 0, .w1c, 0, .own⟩]

/-- Fields of the HI_ registers. -/
def regFieldsHI : List RegField := [
  ⟨.hiLinkStatus, 31, 16, .ro, 0, .calc⟩,
  ⟨.hiLinkStatus, 7, 0, .ro, 0, .ent 0x530001 0⟩,
  ⟨.hiWinBase, 7, 0, .rw, 0, .own⟩,
  ⟨.hiMbxCtrl, 4, 4, .w1c, 0, .own⟩,
  ⟨.hiMbxCtrl, 3, 3, .w1c, 0, .own⟩,
  ⟨.hiMbxCtrl, 2, 2, .w1c, 0, .own⟩,
  ⟨.hiMbxCtrl, 1, 1, .ro, 0, .calc⟩,
  ⟨.hiMbxCtrl, 0, 0, .wo, 0, .own⟩,
  ⟨.hiJqCfg, 20, 16, .rw, 4, .own⟩,
  ⟨.hiEqCfg, 20, 16, .rw, 4, .own⟩,
  ⟨.hiJqCfg, 10, 1, .rw, 0, .own⟩,
  ⟨.hiEqCfg, 10, 1, .rw, 0, .own⟩,
  ⟨.hiJqCfg, 0, 0, .rw, 0, .own⟩,
  ⟨.hiEqCfg, 0, 0, .rw, 0, .own⟩,
  ⟨.hiJqBaseLo, 31, 0, .rw, 0, .own⟩,
  ⟨.hiJqBaseHi, 31, 0, .rw, 0, .own⟩,
  ⟨.hiEqBaseLo, 31, 0, .rw, 0, .own⟩,
  ⟨.hiEqBaseHi, 31, 0, .rw, 0, .own⟩,
  ⟨.hiJqPtr, 31, 16, .rw, 0, .own⟩,
  ⟨.hiEqPtr, 31, 16, .ro, 0, .own⟩,
  ⟨.hiJqPtr, 15, 0, .ro, 0, .own⟩,
  ⟨.hiEqPtr, 15, 0, .rw, 0, .own⟩,
  ⟨.hiEqDrops, 15, 0, .rc, 0, .own⟩]

/-- Fields of the BT_ registers. -/
def regFieldsBT : List RegField := [
  ⟨.btStatus, 31, 24, .ro, 0, .ent 0x110200 0⟩,
  ⟨.btStatus, 17, 16, .ro, 0, .ent 0x110003 0⟩,
  ⟨.btStatus, 10, 8, .ro, 0, .ent 0x110102 0⟩,
  ⟨.btStatus, 6, 4, .ro, 0, .ent 0x110101 0⟩,
  ⟨.btStatus, 2, 2, .ro, 0, .ent 0x110002 0⟩,
  ⟨.btStatus, 1, 0, .ro, 0, .ent 0x110001 0⟩,
  ⟨.btResetCause, 7, 0, .ro, 0, .ent 0x110006 0⟩,
  ⟨.btJournal, 16, 16, .ro, 0, .calc⟩,
  ⟨.btJournal, 15, 0, .ro, 0, .calc⟩,
  ⟨.btCmd, 2, 0, .wo, 0, .ent 0x110005 0⟩]

/-- Fields of the FM_ registers. -/
def regFieldsFM : List RegField := [
  ⟨.fmCpStatus, 23, 16, .ro, 0, .calc⟩,
  ⟨.fmCpStatus, 15, 8, .ro, 0, .calc⟩,
  ⟨.fmCpStatus, 5, 4, .ro, 0, .ent 0x158002 0⟩,
  ⟨.fmCpStatus, 1, 0, .ro, 0, .ent 0x158001 0⟩,
  ⟨.fmStatus, 31, 16, .ro, 0, .ent 0x150011 0⟩,
  ⟨.fmStatus, 11, 8, .ro, 0, .ent 0x150012 0⟩,
  ⟨.fmStatus, 4, 4, .ro, 0, .ent 0x15000E 0⟩,
  ⟨.fmStatus, 3, 3, .ro, 0, .calc⟩,
  ⟨.fmStatus, 1, 0, .ro, 0, .ent 0x150001 0⟩,
  ⟨.fmEvents, 4, 4, .w1c, 0, .own⟩,
  ⟨.fmEvents, 3, 3, .w1c, 0, .own⟩,
  ⟨.fmEvents, 2, 2, .w1c, 0, .own⟩,
  ⟨.fmEvents, 1, 1, .w1c, 0, .own⟩,
  ⟨.fmEvents, 0, 0, .w1c, 0, .own⟩,
  ⟨.fmClear, 0, 0, .wo, 0, .ent 0x15000A 0⟩,
  ⟨.fmLogSeq, 31, 0, .ro, 0, .ent 0x700003 0⟩,
  ⟨.fmWindowEndLo, 31, 0, .ro, 0, .calc⟩,
  ⟨.fmWindowEndHi, 31, 0, .ro, 0, .calc⟩]

/-- Fields of the PM_ registers. -/
def regFieldsPM : List RegField := [
  ⟨.pmStatus, 25, 16, .ro, 0x320, .ent 0x120002 0⟩,
  ⟨.pmStatus, 15, 8, .ro, 0, .ent 0x120005 0⟩,
  ⟨.pmStatus, 3, 3, .ro, 1, .calc⟩,
  ⟨.pmStatus, 2, 2, .ro, 0, .ent 0x120001 0⟩,
  ⟨.pmStatus, 1, 0, .ro, 0, .ent 0x120007 0⟩,
  ⟨.pmRail, 31, 16, .ro, 0, .arr 0x1211 0⟩,
  ⟨.pmRail, 15, 15, .ro, 0, .calc⟩,
  ⟨.pmRail, 14, 14, .ro, 0, .calc⟩,
  ⟨.pmRail, 6, 0, .rw, 0, .arr 0x1210 0⟩,
  ⟨.pmEvents, 4, 4, .w1c, 0, .own⟩,
  ⟨.pmEvents, 3, 3, .w1c, 0, .own⟩,
  ⟨.pmEvents, 2, 2, .w1c, 0, .own⟩,
  ⟨.pmEvents, 1, 1, .w1c, 0, .own⟩,
  ⟨.pmEvents, 0, 0, .w1c, 0, .own⟩]

/-- Fields of the TM_ registers. -/
def regFieldsTM : List RegField := [
  ⟨.tmStatus, 31, 16, .ro, 0, .calc⟩,
  ⟨.tmStatus, 15, 8, .ro, 0, .ent 0x130002 0⟩,
  ⟨.tmStatus, 4, 4, .ro, 0, .ent 0x130004 0⟩,
  ⟨.tmStatus, 3, 3, .ro, 0, .calc⟩,
  ⟨.tmStatus, 1, 0, .ro, 0, .ent 0x130003 0⟩,
  ⟨.tmSite, 31, 16, .ro, 0, .calc⟩,
  ⟨.tmSite, 2, 2, .ro, 0, .calc⟩,
  ⟨.tmSite, 1, 0, .ro, 0, .arr 0x1311 0⟩,
  ⟨.tmEvents, 3, 3, .w1c, 0, .own⟩,
  ⟨.tmEvents, 2, 2, .w1c, 0, .own⟩,
  ⟨.tmEvents, 1, 1, .w1c, 0, .own⟩,
  ⟨.tmEvents, 0, 0, .w1c, 0, .own⟩,
  ⟨.tmLife, 31, 16, .ro, 0, .calc⟩,
  ⟨.tmLife, 9, 0, .ro, 0, .calc⟩,
  ⟨.tmPoweredHours, 31, 0, .ro, 0, .ent 0x130009 0⟩]

/-- Fields of the CL_ registers. -/
def regFieldsCL : List RegField := [
  ⟨.clStatus, 4, 4, .ro, 0, .ent 0x140002 0⟩,
  ⟨.clStatus, 1, 0, .ro, 0, .ent 0x140001 0⟩,
  ⟨.clItem, 15, 8, .ro, 0, .calc⟩,
  ⟨.clItem, 4, 4, .w1c, 0, .own⟩,
  ⟨.clItem, 3, 3, .ro, 0, .calc⟩,
  ⟨.clItem, 1, 0, .ro, 0, .arr 0x1410 0⟩]

/-- Every register field of the part. -/
def regFields : List RegField :=
  regFieldsXZ ++ regFieldsDC ++ regFieldsES ++ regFieldsPL ++ regFieldsGZ ++ regFieldsST ++ regFieldsPD ++ regFieldsEN ++ regFieldsLN ++ regFieldsRG ++ regFieldsTB ++ regFieldsMC ++ regFieldsCX ++ regFieldsCK ++ regFieldsDY ++ regFieldsHI ++ regFieldsBT ++ regFieldsFM ++ regFieldsPM ++ regFieldsTM ++ regFieldsCL

end Sys2Proof.Machine
end

