-- ==== Sys2Proof/Machine/DictTable.lean ====
section
/-! DEFINITION. The dictionary tables of the chapters (16 R446): one row per entry or array, taken from the spec's own tables.
A key is index × 256 + sub-index. Decode contexts share the rows of index 0x6000 (05 R171). -/
namespace Sys2Proof.Machine

/-- The value types of 16 R447. -/
inductive ETy where
  | bool | u8 | u16 | u32 | u64 | i32 | i64 | f32 | tick | bytes | string
  deriving DecidableEq, Repr

/-- The Persist column (00 R14). -/
inductive Persist where
  | no | yes | img
  deriving DecidableEq, Repr

/-- One row of a dictionary table: first key, number of elements, whether it is an array (00 R13), type, access code, default,
the ranges allowed (none listed: every value of the type), least and greatest length of an octet value, Persist. -/
structure DictRow where
  lo : Nat
  n : Nat
  isArr : Bool
  ty : ETy
  acc : Acc
  dflt : Nat
  rng : List (Nat × Nat)
  len : Nat × Nat
  persist : Persist
  deriving DecidableEq, Repr

/-- Entries of chapter 01. -/
def dictRows01 : List DictRow := [
  ⟨0x210001, 1, false, .u8, .rw, 0, [(0, 2)], (0, 0), .yes⟩,  -- RING_ROLE_CFG (R26)
  ⟨0x210002, 1, false, .u8, .ro, 0, [], (0, 0), .no⟩,  -- RING_ROLE (R26)
  ⟨0x210003, 1, false, .u8, .ro, 0xff, [], (0, 0), .no⟩,  -- RING_POSITION (R26)
  ⟨0x210004, 1, false, .u8, .ro, 0, [], (0, 0), .no⟩,  -- RING_SIZE (R26)
  ⟨0x210005, 1, false, .bool, .wo, 0, [], (0, 0), .no⟩,  -- RING_ENUMERATE (R26)
  ⟨0x210006, 1, false, .bool, .ro, 0, [], (0, 0), .no⟩,  -- RING_CLOSED (R26)
  ⟨0x410010, 1, false, .u8, .ro, 0xff, [], (0, 0), .no⟩]  -- WALL_TILE_INDEX (R26)

/-- Entries of chapter 02. -/
def dictRows02 : List DictRow := [
  ⟨0x410011, 1, false, .u8, .ro, 0, [], (0, 0), .no⟩,  -- PARALLAX (R67)
  ⟨0x410012, 1, false, .u16, .ro, 0, [], (0, 0), .no⟩,  -- HOGEL_COLUMNS (R67)
  ⟨0x410013, 1, false, .u16, .ro, 0, [], (0, 0), .no⟩,  -- HOGEL_ROWS (R67)
  ⟨0x410014, 1, false, .u16, .ro, 0, [], (0, 0), .no⟩,  -- VIEWS_X (R67)
  ⟨0x410015, 1, false, .u16, .ro, 0, [], (0, 0), .no⟩,  -- VIEWS_Y (R67)
  ⟨0x410016, 1, false, .u32, .ro, 0, [], (0, 0), .no⟩,  -- RAYS_PER_FRAME (R67)
  ⟨0x410017, 1, false, .u32, .ro, 0, [], (0, 0), .no⟩,  -- HOGEL_PITCH_X (R67)
  ⟨0x410018, 1, false, .u32, .ro, 0, [], (0, 0), .no⟩,  -- HOGEL_PITCH_Y (R67)
  ⟨0x410019, 1, false, .u8, .ro, 0, [], (0, 0), .no⟩,  -- VIEW_BANKS (R67)
  ⟨0x410101, 7, true, .f32, .ro, 0, [], (0, 0), .no⟩]  -- TILE_POSE (R67)

/-- Entries of chapter 03. -/
def dictRows03 : List DictRow := [
  ⟨0x410201, 1, false, .u8, .rw, 0, [(0, 2)], (0, 0), .no⟩,  -- LOAD_ENCODING (R106)
  ⟨0x410202, 1, false, .u32, .rw, 0, [], (0, 0), .no⟩,  -- LOAD_SIZE (R106)
  ⟨0x410203, 1, false, .u8, .wo, 0, [(1, 3)], (0, 0), .no⟩,  -- LOAD_CMD (R106)
  ⟨0x410204, 1, false, .bytes, .wo, 0, [], (0, 4294967295), .no⟩,  -- LOAD_DATA (R106)
  ⟨0x410205, 1, false, .u32, .ro, 0, [], (0, 0), .no⟩,  -- LOAD_PROGRESS (R106)
  ⟨0x410206, 1, false, .u8, .ro, 0, [], (0, 0), .no⟩,  -- SLOT0_STATE (R106)
  ⟨0x410207, 1, false, .u8, .ro, 0, [], (0, 0), .no⟩,  -- SLOT1_STATE (R106)
  ⟨0x410208, 1, false, .u8, .ro, 0, [], (0, 0), .no⟩,  -- LAST_RESULT (R106)
  ⟨0x410209, 1, false, .u32, .ro, 0, [], (0, 0), .no⟩,  -- LAST_DETAIL (R106)
  ⟨0x410301, 1, false, .u8, .rw, 0, [(0, 1)], (0, 0), .no⟩,  -- ACT_SLOT (R106)
  ⟨0x410302, 1, false, .u8, .rw, 0, [(0, 1)], (0, 0), .no⟩,  -- ACT_MODE (R106)
  ⟨0x410303, 1, false, .tick, .rw, 0, [], (0, 0), .no⟩,  -- ACT_TICK (R106)
  ⟨0x410304, 1, false, .u8, .wo, 0, [(1, 2)], (0, 0), .no⟩,  -- ACT_CMD (R106)
  ⟨0x410305, 1, false, .u8, .ro, 0xff, [], (0, 0), .no⟩,  -- ACTIVE_SLOT (R106)
  ⟨0x410306, 1, false, .u64, .ro, 0, [], (0, 0), .no⟩,  -- ACTIVE_IMAGE_ID (R106)
  ⟨0x410307, 1, false, .tick, .ro, 0, [], (0, 0), .no⟩,  -- PENDING_FLIP (R106)
  ⟨0x410401, 1, false, .u8, .ro, 0, [], (0, 0), .no⟩,  -- STORED_STATE (R106)
  ⟨0x410402, 1, false, .u64, .ro, 0, [], (0, 0), .no⟩,  -- STORED_IMAGE_ID (R106)
  ⟨0x410403, 1, false, .u8, .wo, 0, [(1, 1)], (0, 0), .no⟩,  -- STORE_CMD (R106)
  ⟨0x410404, 1, false, .u64, .rw, 0, [], (0, 0), .yes⟩]  -- TILE_SERIAL (R106)

/-- Entries of chapter 04. -/
def dictRows04 : List DictRow := [
  ⟨0x300001, 1, false, .u8, .ro, 0x10, [], (0, 0), .no⟩,  -- DEXSIA_VERSION (R141)
  ⟨0x300002, 1, false, .u8, .ro, 3, [], (0, 0), .no⟩]  -- DEXSIA_PROFILES (R141)

/-- Entries of chapter 05. -/
def dictRows05 : List DictRow := [
  ⟨0x300101, 1, false, .u64, .rw, 0, [], (0, 0), .img⟩,  -- INPUT_BUF_BASE (R170)
  ⟨0x300102, 1, false, .u32, .rw, 0x4000000, [(16777216, 1073741824)], (0, 0), .img⟩,  -- INPUT_BUF_BYTES (R170)
  ⟨0x300103, 1, false, .u32, .rws, 0x1f4, [(100, 2000)], (0, 0), .img⟩,  -- CONCEAL_RESERVE (R170)
  ⟨0x300104, 1, false, .u32, .ro, 0, [], (0, 0), .no⟩,  -- INPUT_FILL (R170)
  ⟨0x300105, 1, false, .u32, .ro, 0, [], (0, 0), .no⟩,  -- INPUT_OVERFLOWS (R170)
  ⟨0x300106, 1, false, .u16, .ro, 0, [], (0, 0), .no⟩,  -- CONTEXTS_RUNNING (R170)
  ⟨0x300201, 4, true, .u16, .ro, 0, [], (0, 0), .no⟩,  -- ENGINE_LOAD (R170)
  ⟨0x300301, 4, true, .u8, .ro, 0, [], (0, 0), .no⟩,  -- ENGINE_STATE (R170)
  ⟨0x600001, 1, false, .bool, .rws, 0, [], (0, 0), .img⟩,  -- CTX_ENABLE (R171)
  ⟨0x600002, 1, false, .u8, .ro, 0, [], (0, 0), .no⟩,  -- CTX_STATE (R171)
  ⟨0x600003, 1, false, .u64, .rw, 0, [], (0, 0), .img⟩,  -- SURF_BASE (R171)
  ⟨0x600004, 1, false, .u64, .rw, 0, [], (0, 0), .img⟩,  -- SURF_BYTES (R171)
  ⟨0x600005, 1, false, .u8, .rw, 0xb, [(4, 11)], (0, 0), .img⟩,  -- BUFFERS (R171)
  ⟨0x600006, 1, false, .u64, .rw, 0xffffffff00000000, [], (0, 0), .img⟩,  -- WINDOW (R171)
  ⟨0x600007, 1, false, .u8, .rws, 0, [(0, 2)], (0, 0), .img⟩,  -- CONCEAL_FILL (R171)
  ⟨0x600008, 1, false, .u64, .rws, 0, [], (0, 0), .img⟩,  -- FILL_COLOUR (R171)
  ⟨0x600009, 1, false, .u32, .ro, 0, [], (0, 0), .no⟩,  -- PICTURES_DECODED (R171)
  ⟨0x60000A, 1, false, .u32, .ro, 0, [], (0, 0), .no⟩,  -- PICTURES_CONCEALED (R171)
  ⟨0x60000B, 1, false, .u32, .ro, 0, [], (0, 0), .no⟩,  -- SLICES_DECODED (R171)
  ⟨0x60000C, 1, false, .u32, .ro, 0, [], (0, 0), .no⟩,  -- SLICES_LATE (R171)
  ⟨0x60000D, 1, false, .u32, .ro, 0, [], (0, 0), .no⟩,  -- STREAM_ERRORS (R171)
  ⟨0x60000E, 1, false, .u32, .ro, 0, [], (0, 0), .no⟩,  -- MISSING_REFS (R171)
  ⟨0x60000F, 1, false, .u32, .ro, 0, [], (0, 0), .no⟩,  -- LAST_PIC_ORDER (R171)
  ⟨0x600010, 1, false, .u8, .ro, 0, [], (0, 0), .no⟩,  -- LAST_FLAGS (R171)
  ⟨0x600011, 1, false, .u8, .ro, 0, [], (0, 0), .no⟩,  -- LAST_ERROR (R171)
  ⟨0x600012, 1, false, .bool, .wo, 0, [], (0, 0), .no⟩]  -- CTX_CLEAR (R171)

/-- Entries of chapter 06. -/
def dictRows06 : List DictRow := [
  ⟨0x400001, 1, false, .f32, .rws, 0, [(0, 1065353216), (2147483648, 2147483648)], (0, 0), .img⟩,  -- BACKGROUND_R (R209)
  ⟨0x400002, 1, false, .f32, .rws, 0, [(0, 1065353216), (2147483648, 2147483648)], (0, 0), .img⟩,  -- BACKGROUND_G (R209)
  ⟨0x400003, 1, false, .f32, .rws, 0, [(0, 1065353216), (2147483648, 2147483648)], (0, 0), .img⟩,  -- BACKGROUND_B (R209)
  ⟨0x400004, 1, false, .u16, .rws, 0xfa, [(50, 2000)], (0, 0), .img⟩,  -- RAY_START (R209)
  ⟨0x400005, 1, false, .u8, .ro, 0x20, [], (0, 0), .no⟩,  -- BRUSHES_IN_SERVICE (R209)
  ⟨0x400006, 1, false, .u32, .ro, 0, [], (0, 0), .no⟩,  -- PREDICTED_CYCLES (R209)
  ⟨0x400007, 1, false, .u16, .ro, 0, [], (0, 0), .no⟩,  -- SHED_SLOTS (R209)
  ⟨0x400008, 1, false, .u32, .ro, 0, [], (0, 0), .no⟩,  -- LAST_FRAME_CYCLES (R209)
  ⟨0x400009, 1, false, .u32, .ro, 0, [], (0, 0), .no⟩,  -- LAST_FRAME_END (R209)
  ⟨0x40000A, 1, false, .u32, .ro, 0, [], (0, 0), .no⟩,  -- STALL_CYCLES (R209)
  ⟨0x40000B, 1, false, .u32, .ro, 0, [], (0, 0), .no⟩,  -- FILLS_ISSUED (R209)
  ⟨0x40000C, 1, false, .u32, .ro, 0, [], (0, 0), .no⟩,  -- FILLS_CULLED (R209)
  ⟨0x40000D, 1, false, .u32, .ro, 0, [], (0, 0), .no⟩,  -- FILLS_LATE (R209)
  ⟨0x40000E, 1, false, .u32, .ro, 0, [], (0, 0), .no⟩,  -- BOUNDS_RAYS (R209)
  ⟨0x40000F, 1, false, .u32, .ro, 0, [], (0, 0), .no⟩,  -- BOUNDS_SLICES (R209)
  ⟨0x400010, 1, false, .u32, .ro, 0, [], (0, 0), .no⟩,  -- FRAME_OVERRUNS (R209)
  ⟨0x400011, 1, false, .u32, .ro, 0, [], (0, 0), .no⟩,  -- CACHE_ECC_CORRECTED (R209)
  ⟨0x400012, 1, false, .bool, .wo, 0, [], (0, 0), .no⟩,  -- COUNTER_CLEAR (R209)
  ⟨0x400101, 32, true, .u8, .ro, 0, [], (0, 0), .no⟩,  -- BRUSH_STATE (R209)
  ⟨0x400201, 16, true, .u32, .ro, 0, [], (0, 0), .no⟩]  -- SLOT_BOUNDS_RAYS (R209)

/-- Entries of chapter 07. -/
def dictRows07 : List DictRow := [
  ⟨0x420001, 1, false, .u16, .ro, 0, [], (0, 0), .no⟩,  -- LAYERS_FRESH (R238)
  ⟨0x420002, 1, false, .u16, .ro, 0, [], (0, 0), .no⟩,  -- LAYERS_HELD (R238)
  ⟨0x420003, 1, false, .u32, .ro, 0, [], (0, 0), .no⟩,  -- CULL_REMOVED (R238)
  ⟨0x420004, 1, false, .u64, .rws, 0, [], (0, 0), .img⟩,  -- BOUNDS_BASE (R238)
  ⟨0x420005, 1, false, .u64, .rws, 0, [], (0, 0), .img⟩,  -- BOUNDS_BYTES (R238)
  ⟨0x421001, 16, true, .u8, .rws, 0, [(0, 2)], (0, 0), .img⟩,  -- SOURCE (R238)
  ⟨0x421101, 16, true, .u8, .rws, 0, [(0, 1)], (0, 0), .img⟩,  -- POLICY (R238)
  ⟨0x421201, 16, true, .u8, .rws, 4, [(1, 255)], (0, 0), .img⟩,  -- HOLD_FRAMES (R238)
  ⟨0x421301, 16, true, .u64, .rws, 0, [], (0, 0), .img⟩,  -- CROP (R238)
  ⟨0x421401, 16, true, .u8, .rws, 0x22, [(34, 34), (36, 36), (66, 66), (68, 68)], (0, 0), .img⟩,  -- TAPS (R238)
  ⟨0x421501, 16, true, .u64, .rws, 0, [], (0, 0), .img⟩,  -- SRC_BASE (R238)
  ⟨0x421601, 16, true, .u32, .rws, 0, [], (0, 0), .img⟩,  -- SRC_PITCH (R238)
  ⟨0x421701, 16, true, .u32, .rws, 0, [], (0, 0), .img⟩,  -- SRC_SIZE (R238)
  ⟨0x421801, 16, true, .bool, .rws, 0, [], (0, 0), .img⟩,  -- SURF_OPAQUE (R238)
  ⟨0x421901, 16, true, .u32, .rws, 0xffffff, [(0, 16777215)], (0, 0), .img⟩,  -- TINT (R238)
  ⟨0x421A01, 16, true, .u64, .rws, 0, [], (0, 0), .img⟩,  -- SCALED_BASE (R238)
  ⟨0x421B01, 16, true, .u64, .rws, 0, [], (0, 0), .img⟩,  -- SCALED_BYTES (R238)
  ⟨0x421C01, 16, true, .u8, .ro, 0, [], (0, 0), .no⟩,  -- LAYER_STATE (R238)
  ⟨0x421D01, 16, true, .u8, .ro, 0, [], (0, 0), .no⟩,  -- HELD_COUNT (R238)
  ⟨0x421E01, 16, true, .u8, .ro, 0, [], (0, 0), .no⟩,  -- LAYER_FLAGS (R238)
  ⟨0x421F01, 16, true, .u32, .ro, 0, [], (0, 0), .no⟩,  -- STALE_FRAMES (R238)
  ⟨0x422001, 16, true, .u32, .ro, 0, [], (0, 0), .no⟩,  -- CONCEALED_FRAMES (R238)
  ⟨0x422101, 16, true, .u16, .ro, 0, [], (0, 0), .no⟩,  -- INGEST_ROW (R238)
  ⟨0x430001, 1, false, .u32, .ro, 0, [], (0, 0), .no⟩,  -- GLAZE_ECC_CORRECTED (R238)
  ⟨0x430002, 1, false, .bool, .ro, 0, [], (0, 0), .no⟩,  -- TABLE_SYNC_BUSY (R238)
  ⟨0x430101, 16, true, .u8, .rws, 0xff, [(0, 5), (255, 255)], (0, 0), .img⟩,  -- CONV_MODE (R238)
  ⟨0x430201, 16, true, .bytes, .rws, 0, [], (48, 48), .img⟩,  -- CONV_CUSTOM (R238)
  ⟨0x430301, 16, true, .bytes, .rws, 0, [], (24576, 24576), .img⟩,  -- PRE_TABLE (R238)
  ⟨0x430401, 16, true, .bytes, .rws, 0, [], (24576, 24576), .img⟩,  -- POST_TABLE (R238)
  ⟨0x430501, 16, true, .u8, .rws, 1, [(0, 2)], (0, 0), .img⟩,  -- STIPPLE_MODE (R238)
  ⟨0x430601, 1, false, .bytes, .rws, 0, [], (8192, 8192), .img⟩]  -- STIPPLE_MATRIX (R238)

/-- Entries of chapter 08. -/
def dictRows08 : List DictRow := [
  ⟨0x450001, 1, false, .u8, .rw, 0, [(0, 1)], (0, 0), .img⟩,  -- MODE (R260)
  ⟨0x450002, 1, false, .u16, .rw, 0x40, [(0, 1023)], (0, 0), .img⟩,  -- DEAD_TIME (R260)
  ⟨0x450003, 1, false, .bool, .rw, 0, [], (0, 0), .no⟩,  -- WM_ENABLE (R260)
  ⟨0x450004, 1, false, .u8, .rw, 0, [(0, 1)], (0, 0), .no⟩,  -- WM_SOURCE (R260)
  ⟨0x450005, 1, false, .u16, .rw, 0, [], (0, 0), .no⟩,  -- WM_ROW (R260)
  ⟨0x450006, 1, false, .u8, .rw, 0, [(0, 15)], (0, 0), .no⟩,  -- WM_SLOT (R260)
  ⟨0x450007, 1, false, .u32, .ro, 0, [], (0, 0), .no⟩,  -- COMMANDS_DONE (R260)
  ⟨0x450008, 1, false, .u32, .ro, 0, [], (0, 0), .no⟩,  -- COMMAND_ERRORS (R260)
  ⟨0x450009, 1, false, .u8, .ro, 0, [], (0, 0), .no⟩,  -- LAST_ERROR (R260)
  ⟨0x45000A, 1, false, .bool, .ro, 0, [], (0, 0), .no⟩]  -- BUSY (R260)

/-- Entries of chapter 09. -/
def dictRows09 : List DictRow := [
  ⟨0x440001, 1, false, .u8, .rws, 0, [(0, 1)], (0, 0), .img⟩,  -- FRAME_SOURCE (R296)
  ⟨0x440002, 1, false, .u16, .rws, 0x2710, [(2000, 15000)], (0, 0), .img⟩,  -- FLIP_LEAD (R296)
  ⟨0x440003, 1, false, .u8, .ro, 3, [(0, 3)], (0, 0), .img⟩,  -- PANEL_RATE (R296)
  ⟨0x440004, 1, false, .u16, .rw, 0xa, [(2, 1000)], (0, 0), .img⟩,  -- POLL_INTERVAL (R296)
  ⟨0x440005, 1, false, .u16, .rw, 0x1388, [(1500, 50000)], (0, 0), .img⟩,  -- STATUS_TIMEOUT (R296)
  ⟨0x440006, 1, false, .u8, .ro, 0, [], (0, 0), .no⟩,  -- PANEL_STATE (R296)
  ⟨0x440007, 1, false, .u16, .ro, 0xffff, [], (0, 0), .no⟩,  -- LOAD_ROW (R296)
  ⟨0x440008, 1, false, .tick, .ro, 0, [], (0, 0), .no⟩,  -- LAST_FLIP (R296)
  ⟨0x440009, 1, false, .u32, .ro, 0, [], (0, 0), .no⟩,  -- FRAMES_FLIPPED (R296)
  ⟨0x44000A, 1, false, .u32, .ro, 0, [], (0, 0), .no⟩,  -- FRAMES_HELD (R296)
  ⟨0x44000B, 1, false, .u32, .ro, 0, [], (0, 0), .no⟩,  -- LOADS_LATE (R296)
  ⟨0x44000C, 1, false, .u32, .ro, 0, [], (0, 0), .no⟩,  -- FLIPS_REFUSED (R296)
  ⟨0x44000D, 1, false, .u32, .ro, 0, [], (0, 0), .no⟩,  -- CT_ERRORS (R296)
  ⟨0x44000E, 1, false, .u32, .ro, 0, [], (0, 0), .no⟩,  -- BX_SLICES (R296)
  ⟨0x44000F, 1, false, .bool, .wo, 0, [], (0, 0), .no⟩,  -- COUNTER_CLEAR (R296)
  ⟨0x440010, 1, false, .bytes, .rw, 0, [], (0, 4096), .yes⟩,  -- PANEL_INIT (R296)
  ⟨0x441001, 32, true, .u16, .rw, 0, [], (0, 0), .yes⟩,  -- CABLE_DELAY (R296)
  ⟨0x441101, 32, true, .u8, .rw, 0, [], (0, 0), .img⟩,  -- CHAIN_LENGTH (R296)
  ⟨0x441201, 32, true, .u8, .ro, 0, [], (0, 0), .no⟩,  -- LANE_STATE (R296)
  ⟨0x441301, 32, true, .u32, .ro, 0, [], (0, 0), .no⟩,  -- LANE_CRC_ERRORS (R296)
  ⟨0x441401, 32, true, .u8, .ro, 0, [], (0, 0), .no⟩,  -- SILENT_ICS (R296)
  ⟨0x442001, 1, false, .u8, .rw, 0, [(0, 31)], (0, 0), .no⟩,  -- IC_ACC_LANE (R296)
  ⟨0x442002, 1, false, .u8, .rw, 0, [(0, 254)], (0, 0), .no⟩,  -- IC_ACC_IC (R296)
  ⟨0x442003, 1, false, .u8, .rw, 0, [], (0, 0), .no⟩,  -- IC_ACC_REG (R296)
  ⟨0x442004, 1, false, .u32, .rw, 0, [], (0, 0), .no⟩,  -- IC_ACC_VALUE (R296)
  ⟨0x442005, 1, false, .u8, .wo, 0, [(1, 2)], (0, 0), .no⟩,  -- IC_ACC_CMD (R296)
  ⟨0x442006, 1, false, .u8, .ro, 0, [], (0, 0), .no⟩]  -- IC_ACC_RESULT (R296)

/-- Entries of chapter 10. -/
def dictRows10 : List DictRow := [
  ⟨0x310001, 1, false, .u64, .rws, 0, [], (0, 0), .img⟩,  -- STAGING_BASE (R321)
  ⟨0x310002, 1, false, .u64, .rws, 0, [], (0, 0), .img⟩,  -- STAGING_BYTES (R321)
  ⟨0x310003, 1, false, .bool, .rws, 0, [], (0, 0), .yes⟩,  -- POP_ENABLE (R321)
  ⟨0x310004, 1, false, .u8, .rws, 0, [(0, 2)], (0, 0), .yes⟩,  -- POP_DEST (R321)
  ⟨0x310005, 1, false, .u64, .rws, 0, [], (0, 0), .yes⟩,  -- POP_ADDR (R321)
  ⟨0x310006, 1, false, .u64, .ro, 0, [], (0, 0), .no⟩,  -- POP_SEQ (R321)
  ⟨0x310007, 1, false, .u16, .ro, 0, [], (0, 0), .no⟩,  -- LIVE_LOAD (R321)
  ⟨0x310008, 1, false, .u8, .ro, 0, [], (0, 0), .no⟩,  -- ENGINE_STATE (R321)
  ⟨0x310009, 1, false, .bool, .wo, 0, [], (0, 0), .no⟩,  -- COUNTER_CLEAR (R321)
  ⟨0x311001, 16, true, .bool, .rws, 0, [], (0, 0), .img⟩,  -- STREAM_EN (R321)
  ⟨0x311101, 16, true, .u8, .rws, 0, [(0, 3)], (0, 0), .img⟩,  -- CLASS (R321)
  ⟨0x311201, 16, true, .u8, .rws, 0, [(0, 1)], (0, 0), .img⟩,  -- CAPTURE (R321)
  ⟨0x311301, 16, true, .u16, .rws, 0, [], (0, 0), .img⟩,  -- CAPTURE_ARG (R321)
  ⟨0x311401, 16, true, .u16, .rws, 1, [], (0, 0), .img⟩,  -- CAP_RATE (R321)
  ⟨0x311501, 16, true, .u8, .rws, 0, [(0, 3)], (0, 0), .img⟩,  -- ROTATION (R321)
  ⟨0x311601, 16, true, .u32, .rws, 0x4380780, [], (0, 0), .img⟩,  -- OUT_SIZE (R321)
  ⟨0x311701, 16, true, .u8, .rws, 0, [(0, 1)], (0, 0), .img⟩,  -- CHROMA (R321)
  ⟨0x311801, 16, true, .u8, .rws, 0x1e, [(0, 51)], (0, 0), .img⟩,  -- CQ_QP (R321)
  ⟨0x311901, 16, true, .u8, .rws, 0x33, [(0, 51)], (0, 0), .img⟩,  -- CAP_QP (R321)
  ⟨0x311A01, 16, true, .u16, .rws, 0x3e8, [(33, 1000)], (0, 0), .img⟩,  -- WINDOW_MS (R321)
  ⟨0x311B01, 16, true, .u32, .rws, 0, [], (0, 0), .img⟩,  -- CAP_KBIT (R321)
  ⟨0x311C01, 16, true, .u16, .rws, 0x3c, [(1, 600)], (0, 0), .img⟩,  -- RAP_INTERVAL (R321)
  ⟨0x311D01, 16, true, .u8, .rws, 0, [(0, 2)], (0, 0), .img⟩,  -- DEST (R321)
  ⟨0x311E01, 16, true, .u64, .rws, 0, [], (0, 0), .img⟩,  -- DEST_ADDR (R321)
  ⟨0x311F01, 16, true, .u16, .rws, 0x40, [(16, 16), (32, 32), (64, 64), (128, 128), (256, 256), (512, 512), (1024, 1024), (2048, 2048), (4096, 4096)], (0, 0), .img⟩,  -- HOST_RING_ENTRIES (R321)
  ⟨0x312001, 16, true, .u8, .rws, 8, [(2, 64)], (0, 0), .img⟩,  -- ARCH_DEPTH (R321)
  ⟨0x312101, 16, true, .u16, .rws, 0, [(0, 1023)], (0, 0), .img⟩,  -- STREAM_ID (R321)
  ⟨0x312201, 16, true, .bool, .wo, 0, [], (0, 0), .no⟩,  -- RAP_REQUEST (R321)
  ⟨0x312301, 16, true, .u32, .ro, 0, [], (0, 0), .no⟩,  -- PICTURES_SENT (R321)
  ⟨0x312401, 16, true, .u32, .ro, 0, [], (0, 0), .no⟩,  -- PICTURES_SKIPPED (R321)
  ⟨0x312501, 16, true, .u32, .ro, 0, [], (0, 0), .no⟩,  -- PICTURES_EXHAUSTED (R321)
  ⟨0x312601, 16, true, .u32, .ro, 0, [], (0, 0), .no⟩,  -- LAST_BITS (R321)
  ⟨0x312701, 16, true, .u32, .ro, 0, [], (0, 0), .no⟩,  -- WINDOW_CHARGE (R321)
  ⟨0x312801, 16, true, .u8, .ro, 0, [], (0, 0), .no⟩]  -- BACKLOG (R321)

/-- Entries of chapter 11. -/
def dictRows11 : List DictRow := [
  ⟨0x200001, 1, false, .u8, .rw, 5, [(0, 5)], (0, 0), .yes⟩,  -- RING_RATE_MAX (R351)
  ⟨0x200002, 1, false, .u8, .rw, 6, [(1, 8)], (0, 0), .yes⟩,  -- PORT_MIN_LANES (R351)
  ⟨0x200003, 1, false, .u16, .rw, 0x1e, [(10, 200)], (0, 0), .yes⟩,  -- EYE_MIN_HEIGHT (R351)
  ⟨0x200004, 1, false, .u8, .rw, 0x10, [(4, 40)], (0, 0), .yes⟩,  -- EYE_MIN_WIDTH (R351)
  ⟨0x200005, 1, false, .bool, .rw, 0, [], (0, 0), .yes⟩,  -- SPARE_QUIET (R351)
  ⟨0x200006, 1, false, .u8, .wo, 0, [(1, 2)], (0, 0), .no⟩,  -- PORT_RETRAIN (R351)
  ⟨0x200101, 2, true, .bool, .rw, 1, [], (0, 0), .yes⟩,  -- PORT_ENABLE (R351)
  ⟨0x200201, 2, true, .u8, .ro, 0xff, [], (0, 0), .no⟩,  -- PORT_RATE (R351)
  ⟨0x200301, 2, true, .u16, .ro, 0, [], (0, 0), .no⟩,  -- PORT_LANES (R351)
  ⟨0x200401, 2, true, .u8, .ro, 0xff, [], (0, 0), .no⟩,  -- PARTNER_CLASS (R351)
  ⟨0x201001, 56, true, .u8, .ro, 0, [], (0, 0), .no⟩,  -- LANE_STATE (R351)
  ⟨0x201101, 56, true, .u8, .ro, 0, [], (0, 0), .no⟩,  -- LANE_POWER (R351)
  ⟨0x201201, 56, true, .u32, .ro, 0, [], (0, 0), .no⟩,  -- LANE_RATE (R351)
  ⟨0x201301, 56, true, .u32, .ro, 0, [], (0, 0), .no⟩,  -- LAST_GOOD_RATE (R351)
  ⟨0x201401, 56, true, .u32, .ro, 0, [], (0, 0), .no⟩,  -- TX_TAPS (R351)
  ⟨0x201501, 56, true, .u32, .rw, 0xc2f04, [], (0, 0), .img⟩,  -- TX_TAPS_FIXED (R351)
  ⟨0x201601, 56, true, .u16, .ro, 0, [], (0, 0), .no⟩,  -- EYE_HEIGHT (R351)
  ⟨0x201701, 56, true, .u8, .ro, 0, [], (0, 0), .no⟩,  -- EYE_WIDTH (R351)
  ⟨0x201801, 56, true, .bool, .ro, 1, [], (0, 0), .no⟩,  -- EYE_STALE (R351)
  ⟨0x201901, 56, true, .u32, .ro, 0, [], (0, 0), .no⟩,  -- FAIL_COUNT (R351)
  ⟨0x201A01, 56, true, .u8, .ro, 0, [], (0, 0), .no⟩,  -- LAST_FAIL_CAUSE (R351)
  ⟨0x201B01, 56, true, .u32, .ro, 0, [], (0, 0), .no⟩,  -- TRAIN_COUNT (R351)
  ⟨0x201C01, 56, true, .u32, .ro, 0, [], (0, 0), .no⟩,  -- TRAIN_TIME (R351)
  ⟨0x201D01, 56, true, .u8, .wo, 0, [(1, 2)], (0, 0), .no⟩,  -- LANE_CMD (R351)
  ⟨0x201E01, 56, true, .u32, .rw, 0, [], (0, 0), .no⟩,  -- TEST_CFG (R351)
  ⟨0x201F01, 56, true, .u32, .ro, 0, [], (0, 0), .no⟩,  -- TEST_ERRORS (R351)
  ⟨0x202001, 56, true, .u64, .ro, 0, [], (0, 0), .no⟩]  -- TEST_BITS (R351)

/-- Entries of chapter 12. -/
def dictRows12 : List DictRow := [
  ⟨0x210007, 1, false, .u16, .ro, 0xffff, [], (0, 0), .no⟩,  -- KEEP (R376)
  ⟨0x210008, 1, false, .bytes, .ro, 0, [], (16, 16), .no⟩,  -- DOWNSTREAM_EAST (R376)
  ⟨0x210009, 1, false, .bytes, .ro, 0, [], (16, 16), .no⟩,  -- DOWNSTREAM_WEST (R376)
  ⟨0x21000A, 1, false, .bool, .wo, 0, [], (0, 0), .no⟩,  -- COUNTER_CLEAR (R376)
  ⟨0x211001, 2, true, .u32, .ro, 0xf000, [], (0, 0), .no⟩,  -- RX_MAP (R376)
  ⟨0x211101, 2, true, .u32, .ro, 0xf000, [], (0, 0), .no⟩,  -- TX_MAP (R376)
  ⟨0x211201, 2, true, .u16, .ro, 0xffff, [], (0, 0), .no⟩,  -- KEEP_IN (R376)
  ⟨0x211301, 2, true, .u16, .ro, 0xffff, [], (0, 0), .no⟩,  -- KEEP_OUT (R376)
  ⟨0x211401, 2, true, .u32, .ro, 0, [], (0, 0), .no⟩,  -- SLICES_RX (R376)
  ⟨0x211501, 2, true, .u32, .ro, 0, [], (0, 0), .no⟩,  -- SLICES_FWD (R376)
  ⟨0x211601, 2, true, .u32, .ro, 0, [], (0, 0), .no⟩,  -- SLICES_DISCARDED (R376)
  ⟨0x211701, 2, true, .u32, .ro, 0, [], (0, 0), .no⟩,  -- FWD_DROPS (R376)
  ⟨0x211801, 2, true, .u32, .ro, 0, [], (0, 0), .no⟩,  -- KEEP_DROPS (R376)
  ⟨0x211901, 2, true, .u64, .ro, 0, [], (0, 0), .no⟩,  -- FEC_CORRECTED (R376)
  ⟨0x211A01, 2, true, .u32, .ro, 0, [], (0, 0), .no⟩,  -- FEC_UNCORRECTED (R376)
  ⟨0x211B01, 2, true, .u32, .ro, 0, [], (0, 0), .no⟩,  -- MAP_SWITCHES (R376)
  ⟨0x211C01, 2, true, .u32, .ro, 0, [], (0, 0), .no⟩]  -- SC_DROPS (R376)

/-- Entries of chapter 13. -/
def dictRows13 : List DictRow := [
  ⟨0x230001, 1, false, .u8, .ro, 0, [], (0, 0), .no⟩,  -- TIME_STATE (R402)
  ⟨0x230002, 1, false, .u8, .ro, 0xff, [], (0, 0), .no⟩,  -- ACTIVE_DOMAIN (R402)
  ⟨0x230003, 1, false, .u8, .rw, 0, [(0, 1)], (0, 0), .yes⟩,  -- PREFERRED_DOMAIN (R402)
  ⟨0x230004, 1, false, .bool, .rw, 0, [], (0, 0), .yes⟩,  -- REVERTIVE (R402)
  ⟨0x230005, 1, false, .tick, .ro, 0, [], (0, 0), .no⟩,  -- NOW (R402)
  ⟨0x230006, 1, false, .u32, .rw, 0x1d4c0, [(50000, 240000)], (0, 0), .yes⟩,  -- FLIP_RATE (R402)
  ⟨0x230007, 1, false, .tick, .rw, 0, [], (0, 0), .yes⟩,  -- FLIP_EPOCH (R402)
  ⟨0x230008, 1, false, .u64, .ro, 0, [], (0, 0), .no⟩,  -- FLIP_INDEX (R402)
  ⟨0x230009, 1, false, .tick, .ro, 0, [], (0, 0), .no⟩,  -- NEXT_FLIP (R402)
  ⟨0x23000A, 1, false, .u32, .rw, 0x1d4c0, [(50000, 240000)], (0, 0), .no⟩,  -- RATE_NEXT (R402)
  ⟨0x23000B, 1, false, .tick, .rw, 0, [], (0, 0), .no⟩,  -- RATE_CHANGE_TICK (R402)
  ⟨0x23000C, 1, false, .u8, .wo, 0, [(1, 2)], (0, 0), .no⟩,  -- RATE_CMD (R402)
  ⟨0x23000D, 1, false, .tick, .ro, 0, [], (0, 0), .no⟩,  -- RATE_PENDING (R402)
  ⟨0x23000E, 1, false, .bool, .wo, 0, [], (0, 0), .no⟩,  -- TIME_STEP (R402)
  ⟨0x23000F, 1, false, .u32, .rw, 0x3e8, [(100, 100000)], (0, 0), .yes⟩,  -- JUMP_LIMIT (R402)
  ⟨0x230010, 1, false, .u32, .rw, 0x1f4, [(50, 100000)], (0, 0), .yes⟩,  -- DISAGREE_LIMIT (R402)
  ⟨0x230011, 1, false, .u32, .rw, 0xa, [(1, 3600)], (0, 0), .yes⟩,  -- HOLDOVER_LIMIT (R402)
  ⟨0x230012, 1, false, .u8, .rw, 0, [(0, 1)], (0, 0), .yes⟩,  -- FIELD_TRANSPORT (R402)
  ⟨0x230013, 1, false, .u8, .rw, 0, [(0, 1)], (0, 0), .yes⟩,  -- FIELD_DELAY_MECH (R402)
  ⟨0x230014, 1, false, .i32, .rw, 0xfffffffc, [(4294967289, 4294967295), (0, 0)], (0, 0), .yes⟩,  -- FIELD_LOG_SYNC (R402)
  ⟨0x230015, 1, false, .u64, .rw, 0, [], (0, 0), .yes⟩,  -- FLIP_EPOCH_INDEX (R402)
  ⟨0x230101, 2, true, .bool, .rw, 1, [], (0, 0), .yes⟩,  -- DOMAIN_ENABLE (R402)
  ⟨0x230201, 2, true, .u8, .rw, 0, [(0, 127)], (0, 0), .yes⟩,  -- DOMAIN_NUMBER (R402)
  ⟨0x230301, 2, true, .u8, .ro, 0, [], (0, 0), .no⟩,  -- DOMAIN_STATE (R402)
  ⟨0x230401, 2, true, .i64, .ro, 0, [], (0, 0), .no⟩,  -- DOMAIN_OFFSET (R402)
  ⟨0x230501, 2, true, .i32, .ro, 0, [], (0, 0), .no⟩,  -- DOMAIN_FREQ (R402)
  ⟨0x230601, 2, true, .u8, .ro, 0xff, [], (0, 0), .no⟩,  -- SLAVE_PORT (R402)
  ⟨0x230701, 4, true, .u16, .ro, 0, [], (0, 0), .no⟩,  -- PORT_STATE (R402)
  ⟨0x230801, 4, true, .i32, .rw, 0, [], (0, 0), .yes⟩,  -- ASYMMETRY (R402)
  ⟨0x230901, 4, true, .u32, .ro, 0, [], (0, 0), .no⟩]  -- MEAN_LINK_DELAY (R402)

/-- Entries of chapter 14. -/
def dictRows14 : List DictRow := [
  ⟨0x500001, 1, false, .u8, .rw, 6, [(1, 6)], (0, 0), .yes⟩,  -- PORTS_FITTED (R422)
  ⟨0x500002, 1, false, .u64, .ro, 0, [], (0, 0), .no⟩,  -- CAPACITY (R422)
  ⟨0x500003, 1, false, .u8, .ro, 0, [], (0, 0), .no⟩,  -- MEM_STATE (R422)
  ⟨0x500004, 1, false, .u32, .rw, 0x400, [(64, 65536)], (0, 0), .yes⟩,  -- PD_IDLE (R422)
  ⟨0x500005, 1, false, .u16, .rw, 0x18, [(1, 168)], (0, 0), .yes⟩,  -- SCRUB_PERIOD (R422)
  ⟨0x500006, 1, false, .u32, .ro, 0, [], (0, 0), .no⟩,  -- RESERVED_BW (R422)
  ⟨0x500007, 1, false, .u32, .ro, 0, [], (0, 0), .no⟩,  -- SRAM_ECC_CORRECTED (R422)
  ⟨0x500008, 1, false, .bool, .wo, 0, [], (0, 0), .no⟩,  -- COUNTER_CLEAR (R422)
  ⟨0x500101, 6, true, .u8, .ro, 0, [], (0, 0), .no⟩,  -- DEVICE_DENSITY (R422)
  ⟨0x500201, 6, true, .u32, .ro, 0, [], (0, 0), .no⟩,  -- ECC_CORRECTED (R422)
  ⟨0x500301, 6, true, .u32, .ro, 0, [], (0, 0), .no⟩,  -- ECC_UNCORRECTED (R422)
  ⟨0x500401, 6, true, .u32, .ro, 0, [], (0, 0), .no⟩,  -- LINK_ECC_CORRECTED (R422)
  ⟨0x500501, 6, true, .u8, .ro, 2, [], (0, 0), .no⟩,  -- REFRESH_RATE (R422)
  ⟨0x500601, 6, true, .u8, .ro, 0, [], (0, 0), .no⟩,  -- OWED_MAX (R422)
  ⟨0x500701, 6, true, .u32, .ro, 0, [], (0, 0), .no⟩,  -- CATCHUPS (R422)
  ⟨0x500801, 6, true, .u32, .ro, 0, [], (0, 0), .no⟩]  -- RT_MISSED_SLOTS (R422)

/-- Entries of chapter 15. -/
def dictRows15 : List DictRow := [
  ⟨0x510001, 1, false, .u32, .ro, 0, [], (0, 0), .no⟩,  -- JOBS_DONE (R444)
  ⟨0x510002, 1, false, .u32, .ro, 0, [], (0, 0), .no⟩,  -- JOBS_FAILED (R444)
  ⟨0x510003, 1, false, .u64, .ro, 0, [], (0, 0), .no⟩,  -- BYTES_IN (R444)
  ⟨0x510004, 1, false, .u64, .ro, 0, [], (0, 0), .no⟩,  -- BYTES_OUT (R444)
  ⟨0x510005, 1, false, .u8, .ro, 0, [], (0, 0), .no⟩,  -- LAST_RESULT (R444)
  ⟨0x510006, 1, false, .u32, .ro, 0, [], (0, 0), .no⟩,  -- VERIFY_FAILS (R444)
  ⟨0x510007, 1, false, .u8, .ro, 0, [], (0, 0), .no⟩,  -- ENGINE_STATE (R444)
  ⟨0x510008, 1, false, .bool, .wo, 0, [], (0, 0), .no⟩,  -- COUNTER_CLEAR (R444)
  ⟨0x520001, 1, false, .bool, .wo, 0, [], (0, 0), .no⟩,  -- COUNTER_CLEAR (R444)
  ⟨0x521001, 8, true, .u32, .rw, 0x320, [], (0, 0), .no⟩,  -- CFG (R444)
  ⟨0x521101, 8, true, .u64, .rw, 0x4c11db7, [], (0, 0), .no⟩,  -- POLY (R444)
  ⟨0x521201, 8, true, .u64, .rw, 0xffffffff, [], (0, 0), .no⟩,  -- INIT (R444)
  ⟨0x521301, 8, true, .u64, .rw, 0xffffffff, [], (0, 0), .no⟩,  -- XOROUT (R444)
  ⟨0x521401, 8, true, .u64, .rw, 0, [], (0, 0), .no⟩,  -- EXPECT (R444)
  ⟨0x521501, 8, true, .u64, .rw, 0xffffffff, [], (0, 0), .no⟩,  -- VALUE (R444)
  ⟨0x521601, 8, true, .u64, .ro, 0, [], (0, 0), .no⟩,  -- RESULT (R444)
  ⟨0x521701, 8, true, .u8, .wo, 0, [], (0, 0), .no⟩,  -- CTRL (R444)
  ⟨0x521801, 8, true, .bytes, .wo, 0, [], (1, 1024), .no⟩,  -- FEED (R444)
  ⟨0x521901, 8, true, .u16, .ro, 0, [], (0, 0), .no⟩,  -- STATUS (R444)
  ⟨0x521A01, 8, true, .u32, .ro, 0, [], (0, 0), .no⟩,  -- ITEMS (R444)
  ⟨0x521B01, 8, true, .u32, .ro, 0, [], (0, 0), .no⟩]  -- ITEMS_MISSED (R444)

/-- Entries of chapter 16. -/
def dictRows16 : List DictRow := [
  ⟨0x100001, 1, false, .string, .ro, 0, [], (0, 64), .no⟩,  -- VENDOR (R473)
  ⟨0x100002, 1, false, .string, .ro, 0, [], (0, 64), .no⟩,  -- DEVICE (R473)
  ⟨0x100003, 1, false, .string, .ro, 0, [], (0, 64), .no⟩,  -- ORDER_CODE (R473)
  ⟨0x100004, 1, false, .u16, .ro, 0, [], (0, 0), .no⟩,  -- SILICON_STEP (R473)
  ⟨0x100005, 1, false, .u64, .ro, 0, [], (0, 0), .no⟩,  -- PART_SERIAL (R473)
  ⟨0x100006, 1, false, .u32, .ro, 0, [], (0, 0), .no⟩,  -- FIRMWARE_VERSION (R473)
  ⟨0x100007, 1, false, .u16, .ro, 0x100, [], (0, 0), .no⟩,  -- DICTIONARY_VERSION (R473)
  ⟨0x100008, 1, false, .u64, .ro, 0, [], (0, 0), .no⟩,  -- UPTIME (R473)
  ⟨0x100009, 1, false, .string, .rw, 0, [], (0, 64), .yes⟩,  -- DEVICE_LABEL (R473)
  ⟨0x540001, 1, false, .u16, .rw, 0x6fb8, [(1024, 65535)], (0, 0), .yes⟩,  -- VOSTAN_UDP_PORT (R474)
  ⟨0x540002, 1, false, .u16, .rw, 0x3c, [(10, 3600)], (0, 0), .yes⟩,  -- SESSION_TIMEOUT (R474)
  ⟨0x540003, 1, false, .u16, .rw, 0x3c, [(10, 3600)], (0, 0), .yes⟩,  -- LOCKOUT_TIME (R474)
  ⟨0x540004, 1, false, .u8, .ro, 2, [], (0, 0), .no⟩,  -- SESSIONS_OPEN (R474)
  ⟨0x540005, 1, false, .u16, .ro, 0, [], (0, 0), .no⟩,  -- STAGED_ENTRIES (R474)
  ⟨0x540006, 1, false, .u8, .ro, 0, [], (0, 0), .no⟩,  -- PENDING_COMMITS (R474)
  ⟨0x540007, 1, false, .u32, .ro, 0, [], (0, 0), .no⟩,  -- LAST_COMMIT_ID (R474)
  ⟨0x540008, 1, false, .u8, .ro, 0, [], (0, 0), .no⟩,  -- LAST_COMMIT_RESULT (R474)
  ⟨0x540009, 1, false, .u16, .ro, 0, [], (0, 0), .no⟩,  -- LAST_COMMIT_REASON (R474)
  ⟨0x54000A, 1, false, .tick, .ro, 0, [], (0, 0), .no⟩,  -- LAST_COMMIT_FLIP (R474)
  ⟨0x54000B, 1, false, .u32, .ro, 0, [], (0, 0), .no⟩,  -- MAC_FAILURES (R474)
  ⟨0x54000C, 1, false, .u32, .ro, 0, [], (0, 0), .no⟩,  -- LOGIN_FAILURES (R474)
  ⟨0x54000D, 1, false, .u32, .ro, 0, [], (0, 0), .no⟩,  -- NOTIFY_DROPS (R474)
  ⟨0x54000E, 1, false, .bool, .wo, 0, [], (0, 0), .no⟩,  -- COUNTER_CLEAR (R474)
  ⟨0x540101, 16, true, .u32, .ro, 0, [], (0, 0), .no⟩]  -- SESSION_INFO (R474)

/-- Entries of chapter 17. -/
def dictRows17 : List DictRow := [
  ⟨0x530001, 1, false, .u8, .ro, 0, [], (0, 0), .no⟩,  -- HOST_LINK (R493)
  ⟨0x530002, 1, false, .u32, .ro, 0, [], (0, 0), .no⟩,  -- PF1_DENIED (R493)
  ⟨0x530003, 1, false, .u32, .ro, 0, [], (0, 0), .no⟩,  -- WINDOW_DENIED (R493)
  ⟨0x530004, 1, false, .u8, .wo, 0, [], (0, 0), .no⟩,  -- IRQ_ACK (R493)
  ⟨0x530005, 1, false, .u8, .ro, 0, [], (0, 0), .no⟩,  -- IRQ_STATE (R493)
  ⟨0x531001, 128, true, .u32, .ro, 0, [], (0, 0), .no⟩,  -- EQ_DROPS (R493)
  ⟨0x531101, 64, true, .u8, .rw, 0xff, [(0, 7), (255, 255)], (0, 0), .yes⟩]  -- IRQ_MAP (R493)

/-- Entries of chapter 18. -/
def dictRows18 : List DictRow := [
  ⟨0x110001, 1, false, .u8, .ro, 0, [], (0, 0), .no⟩,  -- BOOT_STATE (R515)
  ⟨0x110002, 1, false, .u8, .ro, 0, [], (0, 0), .no⟩,  -- RUN_SLOT (R515)
  ⟨0x110003, 1, false, .u8, .ro, 0, [], (0, 0), .no⟩,  -- FAILED_STARTS (R515)
  ⟨0x110004, 1, false, .u32, .ro, 0, [], (0, 0), .no⟩,  -- START_TIME (R515)
  ⟨0x110005, 1, false, .u8, .wo, 0, [(1, 4)], (0, 0), .no⟩,  -- BOOT_CMD (R515)
  ⟨0x110006, 1, false, .u8, .ro, 0, [], (0, 0), .no⟩,  -- RESET_CAUSE (R515)
  ⟨0x110007, 1, false, .u32, .ro, 0, [], (0, 0), .no⟩,  -- MRAM_ECC_CORRECTED (R515)
  ⟨0x110101, 2, true, .u8, .ro, 0, [], (0, 0), .no⟩,  -- FW_SLOT_STATE (R515)
  ⟨0x110200, 1, false, .u8, .ro, 0, [], (0, 0), .no⟩,  -- TADPOLE_REASON (R515)
  ⟨0x110301, 3, true, .u8, .ro, 0, [], (0, 0), .no⟩,  -- FAIL_HISTORY (R515)
  ⟨0x110401, 2, true, .u32, .ro, 0, [], (0, 0), .no⟩,  -- FW_SLOT_VERSION (R515)
  ⟨0x110501, 1, false, .u8, .wo, 0, [(1, 3)], (0, 0), .no⟩,  -- FW_LOAD_CMD (R515)
  ⟨0x110502, 1, false, .u32, .rw, 0, [(257, 1572864)], (0, 0), .no⟩,  -- FW_LOAD_SIZE (R515)
  ⟨0x110503, 1, false, .bytes, .wo, 0, [], (0, 4294967295), .no⟩,  -- FW_LOAD_DATA (R515)
  ⟨0x110504, 1, false, .u8, .ro, 0, [], (0, 0), .no⟩,  -- FW_LOAD_RESULT (R515)
  ⟨0x110505, 1, false, .u32, .rw, 0, [], (0, 0), .yes⟩,  -- FW_FLOOR (R515)
  ⟨0x158001, 2, true, .u8, .ro, 0, [], (0, 0), .no⟩,  -- CP_STATE (R515)
  ⟨0x158101, 2, true, .u32, .ro, 0, [], (0, 0), .no⟩,  -- CP_RESTARTS (R515)
  ⟨0x160001, 1, false, .bytes, .wo, 0, [], (32, 32), .yes⟩,  -- INSTALLER_KEY (R515)
  ⟨0x160002, 1, false, .u64, .ro, 0, [], (0, 0), .no⟩,  -- INSTALLER_KEY_ID (R515)
  ⟨0x160003, 1, false, .bytes, .wo, 0, [], (32, 32), .yes⟩,  -- POP_KEY (R515)
  ⟨0x160004, 1, false, .u64, .ro, 0, [], (0, 0), .no⟩,  -- POP_KEY_ID (R515)
  ⟨0x160101, 4, true, .bytes, .rw, 0, [], (64, 64), .yes⟩]  -- XEZOR_KEY (R515)

/-- Entries of chapter 19. -/
def dictRows19 : List DictRow := [
  ⟨0x120001, 1, false, .u8, .ro, 0, [], (0, 0), .no⟩,  -- OP_POINT (R543)
  ⟨0x120002, 1, false, .u16, .ro, 0x320, [], (0, 0), .no⟩,  -- CORE_TARGET (R543)
  ⟨0x120003, 1, false, .u16, .rw, 0x2a8, [(650, 850)], (0, 0), .yes⟩,  -- AVS_FLOOR (R543)
  ⟨0x120004, 1, false, .u16, .rw, 0x352, [(650, 850)], (0, 0), .yes⟩,  -- AVS_CEILING (R543)
  ⟨0x120005, 1, false, .u8, .ro, 0, [], (0, 0), .no⟩,  -- MIN_SLACK (R543)
  ⟨0x120006, 1, false, .u32, .ro, 0, [], (0, 0), .no⟩,  -- POWER_TOTAL (R543)
  ⟨0x120007, 1, false, .u8, .ro, 0, [], (0, 0), .no⟩,  -- SEQ_STATE (R543)
  ⟨0x120008, 1, false, .u16, .ro, 0, [], (0, 0), .no⟩,  -- PLL_LOCKED (R543)
  ⟨0x121001, 8, true, .u8, .rw, 0, [(0, 127)], (0, 0), .yes⟩,  -- RAIL_ADDR (R543)
  ⟨0x121101, 8, true, .u16, .ro, 0, [], (0, 0), .no⟩,  -- RAIL_VOUT (R543)
  ⟨0x121201, 8, true, .u32, .ro, 0, [], (0, 0), .no⟩,  -- RAIL_IOUT (R543)
  ⟨0x121301, 8, true, .u16, .ro, 0, [], (0, 0), .no⟩,  -- RAIL_STATUS (R543)
  ⟨0x121401, 7, true, .u8, .ro, 0, [], (0, 0), .no⟩,  -- ISLAND_STATE (R543)
  ⟨0x130001, 1, false, .i32, .ro, 0, [], (0, 0), .no⟩,  -- T_MAX (R543)
  ⟨0x130002, 1, false, .u8, .ro, 0, [], (0, 0), .no⟩,  -- HOTTEST_SITE (R543)
  ⟨0x130003, 1, false, .u8, .ro, 0, [], (0, 0), .no⟩,  -- THERMAL_LEVEL (R543)
  ⟨0x130004, 1, false, .bool, .ro, 0, [], (0, 0), .no⟩,  -- THROTTLE_LOCKED (R543)
  ⟨0x130005, 1, false, .u8, .rw, 2, [(0, 8)], (0, 0), .yes⟩,  -- THROTTLE_SHED (R543)
  ⟨0x130006, 1, false, .u16, .ro, 0, [], (0, 0), .no⟩,  -- HOLD_REMAINING (R543)
  ⟨0x130007, 1, false, .i32, .ro, 0, [], (0, 0), .no⟩,  -- FREQ_TC (R543)
  ⟨0x130008, 1, false, .u32, .ro, 0, [], (0, 0), .no⟩,  -- THROTTLE_TIME (R543)
  ⟨0x131001, 24, true, .i32, .ro, 0, [], (0, 0), .no⟩,  -- SITE_VALUE (R543)
  ⟨0x131101, 24, true, .u8, .ro, 0, [], (0, 0), .no⟩,  -- SITE_STATE (R543)
  ⟨0x131201, 24, true, .i32, .ro, 0, [], (0, 0), .no⟩,  -- SITE_ESTIMATE (R543)
  ⟨0x140001, 1, false, .u8, .ro, 0, [], (0, 0), .no⟩,  -- CAL_STATE (R543)
  ⟨0x140002, 1, false, .u8, .ro, 0, [], (0, 0), .no⟩,  -- REFERENCE (R543)
  ⟨0x140003, 1, false, .u16, .rw, 0x258, [(60, 3600)], (0, 0), .yes⟩,  -- RECAL_PERIOD (R543)
  ⟨0x140004, 1, false, .u8, .rw, 0xa, [(2, 40)], (0, 0), .yes⟩,  -- RECAL_DELTA_T (R543)
  ⟨0x140005, 1, false, .u8, .wo, 0, [(1, 8), (255, 255)], (0, 0), .no⟩,  -- CAL_NOW (R543)
  ⟨0x140006, 1, false, .i32, .ro, 0, [], (0, 0), .no⟩,  -- BG_DIFF (R543)
  ⟨0x141001, 8, true, .u8, .ro, 0, [], (0, 0), .no⟩,  -- ITEM_QUALITY (R543)
  ⟨0x141101, 8, true, .u32, .ro, 0, [], (0, 0), .no⟩,  -- ITEM_AGE (R543)
  ⟨0x141201, 8, true, .u32, .ro, 0, [], (0, 0), .no⟩]  -- ITEM_FAILS (R543)

/-- Entries of chapter 20. -/
def dictRows20 : List DictRow := [
  ⟨0x150001, 1, false, .u8, .ro, 0, [], (0, 0), .no⟩,  -- SAFE_STATE (R569)
  ⟨0x150002, 1, false, .u16, .ro, 0, [], (0, 0), .no⟩,  -- SAFE_CAUSE (R569)
  ⟨0x150003, 1, false, .u8, .rw, 0, [(0, 1)], (0, 0), .yes⟩,  -- COMPOUND_ACTION (R569)
  ⟨0x150004, 1, false, .u8, .rw, 0, [(0, 2)], (0, 0), .yes⟩,  -- HOLDOVER_ACTION (R569)
  ⟨0x150005, 1, false, .u8, .rw, 0, [(0, 1)], (0, 0), .yes⟩,  -- PAIR_OUT_ACTION (R569)
  ⟨0x150006, 1, false, .u16, .rw, 8, [(0, 0), (2, 1000)], (0, 0), .yes⟩,  -- FLIP_WD_FRAMES (R569)
  ⟨0x150007, 1, false, .u8, .rw, 0, [(0, 2)], (0, 0), .yes⟩,  -- FLIP_WD_ACTION (R569)
  ⟨0x150008, 1, false, .u16, .rw, 0x14, [(0, 10000)], (0, 0), .yes⟩,  -- SAFE_SETTLE (R569)
  ⟨0x150009, 1, false, .u8, .rw, 0, [(0, 1)], (0, 0), .yes⟩,  -- SAFE_EXIT (R569)
  ⟨0x15000A, 1, false, .bool, .wo, 0, [], (0, 0), .no⟩,  -- FAULT_CLEAR (R569)
  ⟨0x15000B, 1, false, .u8, .rw, 3, [(1, 20)], (0, 0), .yes⟩,  -- LANE_FLAP_LIMIT (R569)
  ⟨0x15000C, 1, false, .u8, .wo, 0, [(0, 17)], (0, 0), .no⟩,  -- LANE_READMIT (R569)
  ⟨0x15000D, 1, false, .u16, .wo, 0, [], (0, 0), .no⟩,  -- UNIT_RESTORE (R569)
  ⟨0x15000E, 1, false, .bool, .ro, 0, [], (0, 0), .no⟩,  -- WINDOW_OPEN (R569)
  ⟨0x15000F, 1, false, .u32, .ro, 0, [], (0, 0), .no⟩,  -- FAULTS (R569)
  ⟨0x150010, 1, false, .u32, .ro, 0, [], (0, 0), .no⟩,  -- COMPOUNDS (R569)
  ⟨0x150011, 1, false, .u16, .ro, 0, [], (0, 0), .no⟩,  -- LAST_FAULT (R569)
  ⟨0x150012, 1, false, .u8, .ro, 0, [], (0, 0), .no⟩,  -- GUARANTEE (R569)
  ⟨0x700001, 1, false, .u64, .ro, 0, [], (0, 0), .no⟩,  -- LOG_WRITTEN (R569)
  ⟨0x700002, 1, false, .u32, .ro, 0, [], (0, 0), .no⟩,  -- LOG_OLDEST (R569)
  ⟨0x700003, 1, false, .u32, .ro, 0, [], (0, 0), .no⟩,  -- LOG_NEWEST (R569)
  ⟨0x700004, 1, false, .u32, .rw, 0, [], (0, 0), .no⟩,  -- LOG_SELECT (R569)
  ⟨0x700005, 1, false, .u8, .rw, 0x40, [(1, 192)], (0, 0), .yes⟩,  -- LOG_LEVEL (R569)
  ⟨0x700006, 1, false, .bool, .wo, 0, [], (0, 0), .no⟩,  -- LOG_CLEAR (R569)
  ⟨0x700007, 1, false, .u16, .ro, 0, [], (0, 0), .yes⟩,  -- START_NUMBER (R569)
  ⟨0x701001, 64, true, .bytes, .ro, 0, [], (32, 32), .no⟩,  -- LOG_RECORD (R569)
  ⟨0x702001, 64, true, .bytes, .ro, 0, [], (32, 32), .yes⟩]  -- FAULT_HISTORY (R569)

/-- Entries of chapter 21. -/
def dictRows21 : List DictRow := [
  ⟨0x130009, 1, false, .u32, .ro, 0, [], (0, 0), .yes⟩,  -- POWERED_HOURS (R586)
  ⟨0x13000A, 1, false, .i32, .ro, 0, [], (0, 0), .yes⟩,  -- AVG_T_MAX (R586)
  ⟨0x13000B, 1, false, .u32, .ro, 0, [], (0, 0), .yes⟩,  -- HOURS_ABOVE_100 (R586)
  ⟨0x13000C, 1, false, .u32, .ro, 0, [], (0, 0), .yes⟩]  -- POWER_CYCLES (R586)

/-- Every dictionary row of the part. -/
def dictRows : List DictRow :=
  dictRows01 ++ dictRows02 ++ dictRows03 ++ dictRows04 ++ dictRows05 ++ dictRows06 ++ dictRows07 ++ dictRows08 ++ dictRows09 ++ dictRows10 ++ dictRows11 ++ dictRows12 ++ dictRows13 ++ dictRows14 ++ dictRows15 ++ dictRows16 ++ dictRows17 ++ dictRows18 ++ dictRows19 ++ dictRows20 ++ dictRows21

end Sys2Proof.Machine
end

