-- ==== Sys2Proof/Machine/Parts.lean ====
section
/-! DEFINITION. The parts of State that the control plane and the management plane own: entry values, events and their queues, the
log, the dictionary server, the host interface, boot, wall time and the fault manager. -/
namespace Sys2Proof.Machine

/-- The value of a dictionary entry (16 R447): a number (two's complement for the signed types, the bit pattern for F32) or octets. -/
inductive EVal where
  | num (n : Nat)
  | oct (b : List Byte)
  deriving DecidableEq, Repr

/-- Values of entries by key, in rising order of key; an entry not listed holds its default. -/
abbrev EMap := List (Nat × EVal)

/-- An event record (17 R482). -/
structure EvRec where
  code : Nat
  data : Nat
  tick : Nat
  deriving DecidableEq, Repr

/-- A log record (20 R565); the octets are formed when it is read. -/
structure LogRec where
  ev : EvRec
  seq : Nat
  start : Nat
  cls : Nat
  outcome : Nat
  window : Nat
  safe : Nat
  deriving DecidableEq, Repr

/-- What leaves the part. -/
inductive EmitKind where
  /-- A Vostan message to `a` (transport), `b` (address), `c` (UDP port). -/
  | vostan
  /-- IRQ pin `a` changes to asserted (`b` = 1) or not. -/
  | irq
  /-- MSI-X vector `b` of function `a`. -/
  | msix
  /-- A DMA write of octets to host bus address `a`. -/
  | hostWrite
  /-- A DMA read of `b` octets from host bus address `a`. -/
  | hostRead
  /-- Octets of packet type `b` on panel lane `a`. -/
  | panel
  /-- A side-channel message of TYPE `b` to DST `c` on port `a` (0 East, 1 West). -/
  | side
  /-- A ring slice on port `a`. -/
  | ringSlice
  /-- A lane control frame on lane `a`. -/
  | laneCtl
  /-- A lane in TEST drives pattern `b` of LN_TEST_CTRL on its line, RAW in `c`; `wire` holds its first 64-bit word. `b` = 8: one bit inverted. -/
  | pattern
  /-- The MAP_CD frames on port `a`: the new FAILED_SET `b` and BASE `c` (12 R369). -/
  | mapCd
  /-- A PTP message of kind `b` in domain `c` on PTP port `a`. -/
  | ptp
  /-- A return packet to destination `a` (0 host ring, 1 and 2 field ports), address `b`. -/
  | ret
  /-- An output pin or supply order: pin group `a`, index `b`, level or half millivolts `c`. -/
  | pin
  /-- A window read's completion: address `a`, poisoned when `b` = 1. -/
  | completion
  deriving DecidableEq, Repr

/-- One thing the part sent: its kind, its three numbers and its octets (assumption log 17). -/
structure Emit where
  kind : EmitKind
  a : Nat := 0
  b : Nat := 0
  c : Nat := 0
  bytes : List Byte := []
  /-- What stands on the line: the 66-bit blocks of a panel packet, sync header on top (09 R265); a training period of a ring lane (11 R327). -/
  wire : List Nat := []
  deriving DecidableEq, Repr

/-- An open block transfer of a session (16 R458, R459). -/
structure Xfer where
  key : Nat
  whole : Bool
  total : Nat
  data : List Byte
  /-- Octets taken so far (a stream entry has handed them on). -/
  got : Nat
  lastAt : Nat
  deriving DecidableEq, Repr

/-- A subscription (16 R464). KIND 1 CYCLIC, 2 ON_CHANGE, 3 EVENTS. -/
structure Sub where
  id : Nat
  kind : Nat
  key : Nat
  queue : Nat
  period : Nat
  dest : VAddr
  nseq : Nat
  /-- The value last sent (ON_CHANGE). -/
  last : Option EVal
  /-- When the last notification went out, as uptime. -/
  sentAt : Nat
  /-- Records gathered for the next EVENTS message, oldest first. -/
  recs : List EvRec
  deriving DecidableEq, Repr

/-- A Vostan session (16 R460 to R463). -/
structure Sess where
  num : Nat
  installer : Bool
  /-- False between the challenge and a correct proof. -/
  isOpen : Bool
  src : VAddr
  ks : List Byte
  challenge : List Byte
  cnonce : List Byte
  /-- When it was opened or challenged, as uptime. -/
  since : Nat
  /-- When its last valid request came, as uptime. -/
  lastValid : Nat
  lastSeq : Option Nat
  /-- SEQ and body of the last request answered, and its reply (16 R454). -/
  lastReq : List Byte
  lastReply : List Byte
  xfer : Option Xfer
  subs : List Sub
  /-- When NOTIFY_DROPPED was last posted (16 R465). -/
  dropPosted : Option Nat
  deriving DecidableEq, Repr

/-- An accepted commit record (16 R466). -/
structure CommitRec where
  id : Nat
  acceptTick : Nat
  vals : EMap
  deriving DecidableEq, Repr

/-- A login source with its failures in a row and, while locked out, the uptime at which LOCKOUT_TIME ends (16 R462). -/
structure LoginSrc where
  src : VAddr
  fails : Nat
  until_ : Option Nat
  deriving DecidableEq, Repr

/-- An open relay (16 R471). -/
structure Relay where
  src : VAddr
  target : Nat
  session : Nat
  seq : Nat
  since : Nat
  deriving DecidableEq, Repr

/-- The dictionary server (16). -/
structure DyState where
  /-- The server accepts messages (18 R504 step 8). -/
  serving : Bool := false
  sessions : List Sess := []
  nextSession : Nat := 3
  staged : List Nat := []
  commits : List CommitRec := []
  nextCommit : Nat := 1
  logins : List LoginSrc := []
  relays : List Relay := []
  /-- Subscriptions that members took through a relay: their EVENT messages return by the same path (16 R471). -/
  paths : List Relay := []
  /-- VOSTAN_UDP_PORT as the last enable of a field port took it (16 R474). -/
  udpPort : Nat := 28600
  deriving DecidableEq, Repr

/-- One descriptor job queue's progress (17 R487). -/
structure JobQueue where
  running : Bool := false
  deriving DecidableEq, Repr

/-- The host interface (17): buffers that no register field holds. -/
structure HiState where
  linkUp : Bool := false
  /-- Event buffers of queues 0 to 127 (17 R484), those that hold records, oldest first. -/
  buf : List (Nat × List EvRec) := []
  /-- Uptime at which QUEUE_DROPS was last posted, by queue. -/
  dropPosted : List (Nat × Nat) := []
  /-- Drops not yet reported, by queue. -/
  dropCount : List (Nat × Nat) := []
  /-- Queues with records written since their last MSI-X message. -/
  eqWritten : List Nat := []
  /-- Uptime of the last MSI-X message of a queue. -/
  msixAt : List (Nat × Nat) := []
  /-- MSI-X tables by 32-bit word: PF0 words 0 to 259, PF1 from 1,024. -/
  msix : List (Nat × Nat) := []
  /-- MSI-X pending bits: function × 65 + vector. -/
  pba : List Nat := []
  mbxReq : List (List Byte) := [[], []]
  mbxReply : List (List Byte) := [[], []]
  mbxNote : List (List Byte) := [[], []]
  j1 : JobQueue := {}
  deriving DecidableEq, Repr

/-- The wall time island (13). Domains are 0 A and 1 B. -/
structure Servo where
  /-- Consecutive Sync messages that count toward LOCKED, and toward leaving LOST (13 R391). -/
  good : Nat := 0
  /-- The offset the servo predicts for the next Sync, 2^−16 ns, signed. -/
  predicted : Int := 0
  freq : Int := 0
  /-- Clock identity of the grandmaster followed, and its clockClass. -/
  gm : Nat := 0
  gmClass : Nat := 0
  /-- Uptime at which the domain became LOCKED, or LOST. -/
  lockedAt : Nat := 0
  lostAt : Nat := 0
  /-- Uptime of the last Sync on the slave port. -/
  syncAt : Nat := 0
  /-- The domain's time at that Sync, in units of 2^−16 ns: the whole PTP time, of which the Tick keeps 2^48 ns (13 R378). -/
  era : Nat := 0
  deriving DecidableEq, Repr

/-- The Announce data a PTP port last received in a domain, as the default BMCA compares them (13 R389). -/
structure AnnRec where
  port : Nat
  domain : Nat
  priority1 : Nat
  clockClass : Nat
  accuracy : Nat
  variance : Nat
  priority2 : Nat
  gmId : Nat
  steps : Nat
  sender : Nat
  senderPort : Nat
  /-- What the part passes on unread: the flags, currentUtcOffset and timeSource. -/
  rest : Nat
  at_ : Nat
  count : Nat
  deriving DecidableEq, Repr

/-- A pending flip rate change (13 R385). -/
structure RateChange where
  fcIndex : Nat
  fcTick : Nat
  rate : Nat
  deriving DecidableEq, Repr

/-- An armed compare event (13 R380): its target and the flip it stands for. -/
structure Armed where
  target : Nat
  flip : Nat
  deriving DecidableEq, Repr

/-- What runs with the Tick (13 R382, R394). -/
structure Clock where
  /-- The Tick below its least bit, in units of 2^−48 ns. -/
  rem : Nat := 0
  /-- The frequency correction in force, ppb. -/
  freq : Int := 0
  /-- The servo's last estimate of it, and the value of site 17 then, 1/16 °C (19 R536). -/
  est : Int := 0
  estTemp : Int := 0
  /-- The slew that runs: the offset it removes, in units of 2^−16 ns, and the time since it began. -/
  slew : Option (Int × Nat) := none
  /-- Domain time minus Tick of the two domains, in units of 2^−16 ns. -/
  offA : Int := 0
  offB : Int := 0
  deriving DecidableEq, Repr

/-- The wall time part of State (13). -/
structure TbState where
  /-- The Tick has been LOCKED since reset, so flips are issued (13 R383). -/
  issuing : Bool := false
  /-- The next flip of the series, and its instant. -/
  nextIndex : Nat := 0
  servoA : Servo := {}
  servoB : Servo := {}
  announces : List AnnRec := []
  /-- SequenceIds of the PTP messages sent (13 R389). -/
  ptpSeq : Nat := 0
  steppedOnce : Bool := false
  /-- SWITCH_TICK and the new domain (13 R398). -/
  switchTick : Option (Nat × Nat) := none
  /-- The active domain has been LOST since the last switch, or the one to come follows a loss (13 R395, R398). -/
  lossSwitch : Bool := false
  /-- Uptime at which the Tick entered HOLDOVER. -/
  holdoverAt : Nat := 0
  holdoverExpired : Bool := false
  /-- Uptime of the last DOMAIN_DISAGREE. -/
  disagreeAt : Option Nat := none
  rateChange : Option RateChange := none
  /-- Compare events armed, in the order of arming, and the last one fired. -/
  armed : List Armed := []
  fired : Option Armed := none
  /-- The last flip pre-notice sent. -/
  preNotice : Option Nat := none
  /-- A switch of the domain has run since reset (10 R313). -/
  switched : Bool := false
  deriving DecidableEq, Repr

/-- The cause of a safe state in force (20 R556, R558): its kind, its event code, when it began. -/
inductive SafeKind where
  | shutdown | frameHold | island | parity | refclk | compound | holdover | flipWatchdog
  deriving DecidableEq, Repr

structure SafeCause where
  kind : SafeKind
  code : Nat
  state : Nat
  since : Nat
  /-- Island number for an island reset, else 0. -/
  arg : Nat
  deriving DecidableEq, Repr

/-- One open recovery window and the faults in it (20 R554, R555). -/
structure Window where
  num : Nat
  start : Nat
  stop : Nat
  /-- The first fault's class and unit, and the codes. -/
  cls : Nat
  unit_ : Nat
  code : Nat
  compound : Bool
  deriving DecidableEq, Repr

/-- A fault report waiting for the sequencer (20 R549). -/
structure FaultRep where
  ev : EvRec
  /-- Uptime of the detection. -/
  at_ : Nat
  /-- What the unit that failed has to it besides the data: the block of a table (R547). -/
  block : Nat := 0
  deriving DecidableEq, Repr

/-- The fault manager and the event log (20). -/
structure FmState where
  /-- Ring lanes reported failed, each with its uptime, newest first; those of 20 µs and less before the newest (R550 class 10). -/
  laneFails : List (Nat × Nat) := []
  reports : List FaultRep := []
  window : Option Window := none
  windowCount : Nat := 0
  causes : List SafeCause := []
  /-- Uptime of the last report that opens a window. -/
  settleFrom : Nat := 0
  cleared : Bool := false
  /-- Flip instants passed without a flip (20 R559). -/
  wdCount : Nat := 0
  wdDone : Bool := false
  wdReset : Bool := false
  /-- Units out: subsystem × 256 + unit, with how often since reset. -/
  unitOuts : List (Nat × Nat) := []
  /-- Units OUT now. -/
  outNow : List Nat := []
  /-- Uptime of each order that took a ring lane out, newest first, by lane. -/
  laneOrders : List (Nat × List Nat) := []
  withheld : List Nat := []
  /-- Ring lanes ordered out whose order ring transport has not yet taken. -/
  ordersOut : List Nat := []
  /-- Event code of the fault that withholds the frame of the next decision point, and the frame after it (20 R552). -/
  frameHold : Option Nat := none
  withholdNext : Option Nat := none
  /-- Uptime of CP_PAIR_OUT while a RESET waits (20 R563). -/
  pairOutAt : Option Nat := none
  refOkSince : Option Nat := none
  /-- Ring ports (0 East, 1 West) that were up when REFCLK was lost. -/
  refPorts : List Nat := []
  log : List LogRec := []
  nextSeq : Nat := 1
  /-- The SEQ saved in MRAM (20 R564). -/
  savedSeq : Nat := 1
  history : List LogRec := []
  /-- Records that wait for CP-B to copy them to FAULT_HISTORY (20 R549). -/
  histWait : List LogRec := []
  deriving DecidableEq, Repr

/-- The boot record (18 R503; assumption log 8). -/
structure BootRec where
  seq : Nat := 0
  runSlot : Nat := 0
  /-- 0 EMPTY, 1 LOADING, 2 VALID, 3 INVALID, 4 TRIAL (18 R515). The factory has filled slot A (assumption log 8). -/
  slotState : Nat × Nat := (2, 0)
  startPending : Bool := false
  failedStarts : Nat := 0
  stage : Nat := 0
  failHistory : List Nat := [0, 0, 0]
  panelRate : Option Nat := none
  tadpoleLatch : Bool := false
  tadpoleReason : Nat := 0
  /-- The trial start has reached START_COMPLETE. -/
  trialStarted : Bool := false
  /-- TRY_OTHER: RUN_SLOT points to the other slot from the next start. -/
  tryNext : Bool := false
  deriving DecidableEq, Repr

/-- A firmware load in progress (18 R511). -/
structure FwLoad where
  slot : Nat
  size : Nat
  data : List Byte
  ended : Bool
  /-- Uptime of BEGIN or of the last data. -/
  lastAt : Nat := 0
  deriving DecidableEq, Repr

/-- One control pair (18 R496). -/
structure CpPair where
  stoppedAt : Option Nat := none
  deriving DecidableEq, Repr

/-- Control, start-up and the non-volatile store (18). -/
structure BtState where
  recA : BootRec := {}
  recB : BootRec := {}
  /-- Which copies of the boot record carry a good CRC. -/
  recOk : Bool × Bool := (true, false)
  /-- Uptime of zero of the start in progress. -/
  zeroAt : Nat := 0
  /-- The last step of R504 that the start in progress has completed; 0 before zero. -/
  step : Nat := 0
  /-- The firmware slot that runs. -/
  running : Nat := 0
  /-- The supervisor has recorded a start that ended before its step 3 (21 R578). -/
  earlyStop : Bool := false
  /-- The start that was in progress ended by thermal shutdown (18 R507). -/
  heatStop : Bool := false
  startedAt : Option Nat := none
  cause : Nat := 0
  slotA : List Byte := Config.factorySlot
  slotB : List Byte := []
  fwLoad : Option FwLoad := none
  /-- The words that the journal ring holds of a transaction that was cut (18 R500). -/
  ring : List (List Byte) := []
  nextTxn : Nat := 1
  /-- MRAM writing has stopped (18 R501). -/
  mramStopped : Bool := false
  /-- MRAM words with flipped bits, by rising address (18 R499). -/
  mramErrs : List (Nat × Nat) := []
  /-- Training trims in MRAM: the devices they belong to, and the codes by instance (14 R405). -/
  trims : Option (List (List Nat) × List (Nat × List Int)) := none
  replayed : Nat := 0
  cpA : CpPair := {}
  cpB : CpPair := {}
  /-- A stop of a pair before START_COMPLETE was recorded by the supervisor (18 R507). -/
  lockstepSeen : Bool := false
  /-- A lock-step fault since START_COMPLETE (18 R512). -/
  trialFault : Bool := false
  /-- RESET_N is low. -/
  resetLow : Bool := false
  /-- Keys held in the key region (18 R513). -/
  installerKey : Option (List Byte) := none
  popKey : List Byte := List.replicate 32 0
  /-- Proof-of-play SEQ saved (10 R315). -/
  popSaved : Nat := 0
  strapTadpole : Bool := false
  deriving DecidableEq, Repr

end Sys2Proof.Machine
end

