-- ==== Sys2Proof/Machine/Dexsia.lean ====
section
/-! DEFINITION. Dexsia units (04 R109 to R122): splitting a delivery into units, emulation prevention, and the headers. Bit fields go most
significant bit first (00 R6). -/
namespace Sys2Proof.Machine

/-- Emulation prevention removed (R110): every 0x03 after two zero octets; `z` zero octets stand before. -/
def epRemove : Nat → List Byte → List Byte
  | _, [] => []
  | z, b :: r => if 2 ≤ z ∧ b = 3 then epRemove 0 r else b :: epRemove (if b = 0 then z + 1 else 0) r

/-- Cuts a list before every prefix 00 00 01 (R111): the piece in progress, reversed, and the pieces so far. -/
def cutUnits : List Byte → List Byte → List (List Byte) → List (List Byte)
  | [], cur, acc => (cur.reverse :: acc).reverse
  | b :: r, cur, acc =>
    if b = 0 ∧ r.take 2 = [0, 1] then cutUnits r [b] (cur.reverse :: acc) else cutUnits r (b :: cur) acc

/-- The units of a delivery: each from its prefix. -/
def splitUnits (bs : List Byte) : List (List Byte) := (cutUnits bs [] []).filter (fun u => u.take 3 = [0, 0, 1] && decide (4 ≤ u.length))

/-- TT of a unit. -/
def unitTT (u : List Byte) : Nat := u8At u 3
/-- The payload after emulation prevention, without the padding behind its stop octet (R111). -/
def unitPayload (u : List Byte) : List Byte := ((u.drop 4).reverse.dropWhile (fun b => b = 0)).reverse
/-- The raw payload. -/
def unitRaw (u : List Byte) : List Byte := epRemove 0 (unitPayload u)

/-- Trailing zero bits of a non-zero octet. -/
def lowZeros (b : Byte) : Nat := ((List.range 8).find? (fun i => b.toNat.testBit i)).getD 8

/-- Bits of a raw payload before its stop bit. -/
def stopBit (raw : List Byte) : Nat := match raw.getLast? with
  | some b => 8 * raw.length - 1 - lowZeros b
  | none => 0

/-- STREAM_ID (R112). -/
def unitStream (raw : List Byte) : Nat := ofBE (raw.take 2) / 64
/-- TILE_MASK. -/
def unitMask (raw : List Byte) : Nat := ofBE (slice raw 2 16)

/-- What the unit layer says of a unit (R109 to R113): nothing to do with it, UNIT_TYPE for a reserved TYPE, UNIT_TYPE for another reason,
UNIT_SIZE, or its TYPE. -/
inductive UnitKind where
  | ignored | reserved | badType | badSize
  | good (ty : Nat)
  deriving DecidableEq, Repr

/-- Bits a unit needs before its stop bit (R111). -/
def unitNeeds (ty : Nat) (raw : List Byte) : Nat :=
  match ty with
  | 1 => 8 * (22 + 2 * u8At raw 21)
  | 2 => 8 * 25
  | 3 => 8 * (32 + 2 * (u8At raw 31 / 16))
  | 4 => 8 * (31 + u8At raw 30 / 16)
  | _ => 144

/-- The unit layer's verdict. -/
def unitKind (u : List Byte) : UnitKind :=
  let tt := unitTT u
  let ty := tt % 32
  if ty ≥ 6 then (if bit tt 5 && decide (tt < 64) then .ignored else .reserved)
  else if tt ≥ 64 then .badType
  else if ty = 0 || bit tt 5 then .badType
  else
    let pay := unitPayload u
    let raw := epRemove 0 pay
    if pay.length < 19 || pay.length > 4194304 || stopBit raw < unitNeeds ty raw then .badSize else .good ty

/-- A Stream Header (R116). -/
structure StreamHdr where
  major : Nat
  minor : Nat
  profile : Nat
  maxRefs : Nat
  /-- Context overrides in order. -/
  inits : List (Nat × Nat)
  resOk : Bool
  initOk : Bool
  deriving DecidableEq, Repr

/-- The Stream Header of a raw payload (assumption log 63). -/
def streamHdr (raw : List Byte) : StreamHdr :=
  let n := u8At raw 21
  let ov := (List.range n).map (fun i => (u8At raw (22 + 2 * i), u8At raw (23 + 2 * i)))
  ⟨u8At raw 18 / 16, u8At raw 18 % 16, u8At raw 19 / 16, u8At raw 20 / 16, ov, ofBE (raw.take 2) % 64 = 0 && u8At raw 19 % 16 = 0 && u8At raw 20 % 16 = 0,
    decide (n ≤ 86) && ov.all (fun q => decide (q.1 ≤ 85) && decide (1 ≤ q.2) && decide (q.2 ≤ 254))⟩

/-- A Layer Header (R117). -/
structure LayerHdr where
  slot : Nat
  keyFirst : Nat
  keyCount : Nat
  w : Nat
  h : Nat
  /-- BIT_DEPTH as coded. -/
  bd : Nat
  c444 : Bool
  alpha : Bool
  depth : Bool
  lossless : Bool
  cOff : Int
  aOff : Int
  resOk : Bool
  deriving DecidableEq, Repr

/-- The Layer Header of a raw payload (assumption log 63). -/
def layerHdr (raw : List Byte) : LayerHdr :=
  let v := ofBE (slice raw 18 5)
  ⟨bits v 39 36, bits v 35 32, bits v 31 28 + 1, 8 * (bits v 27 18 + 1), 8 * (bits v 17 8 + 1), bits v 7 6, bit v 5, bit v 4, bit v 3, bit v 2,
    toSigned 8 (u8At raw 23), toSigned 8 (u8At raw 24), ofBE (raw.take 2) % 64 = 0 && v % 4 = 0⟩

/-- Texture bit depth of BIT_DEPTH. -/
def LayerHdr.depthBits (l : LayerHdr) : Nat := 8 + 2 * l.bd

/-- A Picture Header (R118). -/
structure PictureHdr where
  ty : Nat
  order : Nat
  tick : Nat
  qp : Nat
  dqp : Nat
  keep : List Nat
  resOk : Bool
  deriving DecidableEq, Repr

/-- The Picture Header of a raw payload (assumption log 63). -/
def pictureHdr (raw : List Byte) : PictureHdr :=
  ⟨u8At raw 18 / 64, ofBE (slice raw 19 4), ofBE (slice raw 23 6), u8At raw 29 / 2, u8At raw 30 / 2,
    (List.range (u8At raw 31 / 16)).map (fun i => ofBE (slice raw (32 + 2 * i) 2)),
    ofBE (raw.take 2) % 64 = 0 && u8At raw 18 % 64 = 0 && u8At raw 29 % 2 = 0 && u8At raw 30 % 2 = 0 && u8At raw 31 % 16 = 0⟩

/-- A slice header (R122). -/
structure SliceHdr where
  pic : Nat
  key : Nat
  ty : Nat
  opaque_ : Bool
  x : Nat
  y : Nat
  w : Nat
  h : Nat
  dlo : Nat
  dhi : Nat
  qpd : Int
  dqpd : Int
  /-- Active reference list: inter-view, and the index. -/
  refs : List (Bool × Nat)
  resOk : Bool
  deriving DecidableEq, Repr

/-- The slice header of a raw payload. -/
def sliceHdr (raw : List Byte) : SliceHdr :=
  let b := u8At raw 19
  let n := u8At raw 30 / 16
  let rs := (List.range n).map (fun i => u8At raw (31 + i))
  ⟨u8At raw 18, b / 16, bits b 3 2, bit b 1, u8At raw 20, u8At raw 21, u8At raw 22, u8At raw 23, ofBE (slice raw 24 2), ofBE (slice raw 26 2),
    toSigned 8 (u8At raw 28), toSigned 8 (u8At raw 29), rs.map (fun r => (bit r 7, r % 16)),
    ofBE (raw.take 2) % 64 = 0 && b % 2 = 0 && u8At raw 30 % 16 = 0 && rs.all (fun r => bits r 6 4 = 0)⟩

/-- Octet at which slice_data begins. -/
def sliceDataAt (raw : List Byte) : Nat := 31 + u8At raw 30 / 16

end Sys2Proof.Machine
end

