-- ==== Sys2Proof/Machine/PartsDecode.lean ====
section
/-! DEFINITION. The part of State of the decoder (05): the input buffer, contexts with their pictures, engines and readiness records. -/
namespace Sys2Proof.Machine

/-- What a Stream Header and a Layer Header put in force, with the window and surface derived at the Layer Header (05 R148, R154):
coding blocks X0 to X1 and Y0 to Y1, and SURF_BASE. -/
structure DcHdr where
  str : StreamHdr
  lay : LayerHdr
  x0 : Nat
  x1 : Nat
  y0 : Nat
  y1 : Nat
  base : Nat
  deriving DecidableEq, Repr

/-- A picture that holds a buffer (05 R146, R150). Masks are by carried key view, counted from KEY_FIRST. -/
structure DcPic where
  /-- Number in decode order within the context. -/
  id : Nat
  order : Nat
  ty : Nat
  qp : Nat
  dqp : Nat
  /-- The frame of its PRESENT_TICK, and the frame whose cutoff applies. -/
  frame : Nat
  cut : Nat
  /-- [0] CONCEALED, [1] SUBSTITUTED_REF, [2] WINDOW_CLAMP, [3] CUTOFF, [4] EARLY, [5] LATE_REF. -/
  flags : Nat
  buf : Nat
  hdr : DcHdr
  /-- Reference set; none stands for the fill picture. -/
  refs : List (Option Nat)
  /-- In decode: until the flip at which its record would be made. -/
  busy : Bool
  /-- Coding blocks of the key view that an accepted slice covers. -/
  claim : List Nat
  /-- 32 × 32 blocks of the window decoded or concealed, and owed to concealment. -/
  cov : List Nat
  owed : List Nat
  /-- Slices accepted, by key view. -/
  slices : List Nat
  /-- Key views of which a slice was received. -/
  recv : Nat
  /-- Greatest KEY accepted. -/
  kmax : Nat
  /-- Pictures that its slices predict from. -/
  uref : List Nat
  deriving DecidableEq, Repr

/-- The picture that a context's next slices belong to. -/
inductive DcCur where
  /-- None: a slice is out of order. -/
  | none
  /-- A discarded picture: its slices are discarded. -/
  | drop
  | pic (id : Nat)
  deriving DecidableEq, Repr

/-- One decode context (05 R146, R147); its state is the entry CTX_STATE. -/
structure DcCtx where
  /-- A Stream Header that waits for its Layer Header. -/
  sh : Option StreamHdr := .none
  hdr : Option DcHdr := .none
  pics : List DcPic := []
  /-- Reference set, by picture number. -/
  stored : List Nat := []
  cur : DcCur := .none
  last : Option Nat := .none
  /-- Headers were accepted and no RAP picture has followed. -/
  needRap : Bool := false
  /-- Output picture by frame. -/
  out : List (Nat × Nat) := []
  nextId : Nat := 1
  deriving DecidableEq, Repr

/-- A unit in the input buffer (05 R144): where its octets lie, in order, and for a slice what it was accepted as. -/
structure DcUnit where
  seq : Nat
  ctx : Nat
  ty : Nat
  ext : List (Nat × Nat)
  /-- Raw octets of the unit's header as the slice router reads them (04 R122). -/
  head : List Byte
  /-- The picture a slice was accepted for. -/
  pic : Option Nat := .none
  /-- The engine that holds it. -/
  eng : Option Nat := .none
  deriving DecidableEq, Repr

/-- One decode engine (05 R142, R143, R166). `busy` counts twelfths of a decode cycle in the frame period. -/
structure DcEng where
  out : Bool := false
  prev : Option Nat := .none
  busy : Nat := 0
  deriving DecidableEq, Repr

/-- A readiness record (05 R157) with what Palette needs of its picture: READY by key view of the slot, where each carried key view's
window starts, its size in tiles and its origin. -/
structure DcRec where
  ctx : Nat
  frame : Nat
  slot : Nat
  pic : Option Nat
  order : Nat
  flags : Nat
  ready : Nat
  w : Nat
  h : Nat
  c444 : Bool
  keyFirst : Nat
  bases : List Nat
  bw : Nat
  bh : Nat
  tx : Nat
  ty : Nat
  deriving DecidableEq, Repr

/-- The decoder (05). -/
structure DcState where
  /-- Units delivered by the slice router and not yet in the buffer, oldest first. -/
  arriving : List (List Byte) := []
  units : List DcUnit := []
  nextSeq : Nat := 1
  /-- Offset at which the next unit is written. -/
  wr : Nat := 0
  ctxs : List (Nat × DcCtx) := []
  engs : List DcEng := [{}, {}, {}, {}]
  recs : List DcRec := []
  /-- The flip before which the cutoff has already run. -/
  cutFor : Option Nat := .none
  /-- Warnings and errors posted in this frame: code × 1,024 + context (05 R169). -/
  posted : List Nat := []
  deriving DecidableEq, Repr

end Sys2Proof.Machine
end

