-- ==== Sys2Proof/Machine/PartsPict.lean ====
section
/-! DEFINITION. The parts of State of Palette and Glaze (07) and of Easel (06). -/
namespace Sys2Proof.Machine

/-- One key view's surface in a descriptor (06 R189): base of the block at tile (TX0, TY0), row length and height in tiles, origin. -/
structure KeySurf where
  key : Nat
  base : Nat
  bw : Nat
  bh : Nat
  tx : Nat
  ty : Nat
  deriving DecidableEq, Repr

/-- A layer descriptor (06 R189): SAMPLED or TRANSPARENT, its surfaces, whether its picture is CONCEALED, and the readiness records that
it names, as context × 2^32 + picture. -/
structure PlDesc where
  sampled : Bool := false
  keys : List KeySurf := []
  conc : Bool := false
  recs : List Nat := []
  deriving DecidableEq, Repr

/-- An ingest pass of a slot's scaler (07 R220 to R222): SCALED_BASE as it was when the pass began; `row` counts output rows done over the
key views; `lines` are the source rows in the line buffer, each with the texel words of the columns that the pass reads. -/
structure PlPass where
  frame : Nat
  base : Nat := 0
  row : Nat := 0
  lines : List (Nat × List Nat) := []
  done : Bool := false
  failed : Bool := false
  deriving DecidableEq, Repr

/-- One slot of Palette. -/
structure PlSlot where
  /-- The surface of the last FRESH frame. -/
  held : Option PlDesc := none
  /-- A run of held frames is under way; HOLD_EXPIRED was posted. -/
  run : Bool := false
  expired : Bool := false
  /-- Buffer of the scaled surface that the last latched descriptor names. -/
  buf : Nat := 0
  pass : Option PlPass := none
  /-- SCALE_LIMIT and FORMAT_MISMATCH found for a frame. -/
  limitFor : Option Nat := none
  /-- The frame that the slot takes directly from the decoder's surface (07 R214). -/
  directFor : Option Nat := none
  deriving DecidableEq, Repr

/-- Palette and Glaze (07). -/
structure PlState where
  slots : List PlSlot := List.replicate 16 {}
  /-- The frame that the planner has finished, and the removed entries: index, occluder, DCUT. -/
  planned : Option Nat := none
  mask : List (Nat × Nat × Nat) := []
  /-- The layout of the bounds grids that stand in DRAM (07 R226). -/
  gridAt : List Nat := []
  /-- Warnings and errors posted in this frame: code × 256 + slot. -/
  posted : List Nat := []
  /-- Glaze: copying the new active copies into the shadows, and the staged writes that wait (07 R235). -/
  syncing : Bool := false
  waiting : List (Nat × List Byte) := []
  /-- Table entries with an uncorrectable error until the end of the frame, and tables being restored. -/
  glazeBad : List Nat := []
  restoring : List Nat := []
  /-- Frame counter k of Stipple. -/
  stippleK : Nat := 0
  deriving DecidableEq, Repr

/-- State of a tag of the tile cache (06 R188). -/
inductive TagSt where
  | filling | valid | culled | outside | suppressed | poisoned
  deriving DecidableEq, Repr

/-- One tag: the fetch entry it comes from, and its cache frame. -/
structure EsTag where
  entry : Nat
  frame : Nat
  slot : Nat
  key : Nat
  u : Nat
  v : Nat
  phase : Nat
  st : TagSt
  dcut : Nat
  deriving DecidableEq, Repr

/-- Outcome of a lookup (06 R193); present carries the texel word, culled the DCUT. -/
inductive Look where
  | present (w : Nat)
  | outside
  | culled (d : Nat)
  | absent
  deriving DecidableEq, Repr

/-- A frame in production (06 R197). -/
structure EsFrame where
  frame : Nat
  /-- Uptime and Tick of flip F − 1. -/
  flipUp : Nat
  rayStart : Nat
  bg : List Nat
  descs : List PlDesc
  mask : List (Nat × Nat)
  started : Bool := false
  phase : Nat := 0
  /-- Rays of the phase that have been taken. -/
  pos : Nat := 0
  /-- Probes made in this phase: (hogel × 16 + slot) × 16 + key. -/
  probes : List (Nat × Look) := []
  /-- hogel × 16 + slot. -/
  probed : List Nat := []
  /-- Array cycles spent, and cycles of stalls. -/
  cycles : Nat := 0
  stall : Nat := 0
  /-- Fetch entries issued so far. -/
  issued : Nat := 0
  tags : List EsTag := []
  /-- Texel words that each cache frame holds. -/
  cache : List (Nat × List Nat) := []
  fills : Nat := 0
  culls : Nat := 0
  late : Nat := 0
  /-- Flagged rays, flagged ray slices, the first of them, flagged rays by slot. -/
  rays : Nat := 0
  slices : List Nat := []
  first : Option Nat := none
  slotRays : List Nat := List.replicate 16 0
  /-- Lens records (0) and view entries (1) that give 0x0000 for the rest of the frame. -/
  dead : List (Nat × Nat) := []
  /-- Slots shed for this frame; the set that the group which a Brush fault repeats keeps (06 R186). -/
  shed : Nat := 0
  again : Option Nat := none
  /-- An island reset has discarded the frame's work (20 R553). -/
  lost : Bool := false
  /-- Cache frames with an uncorrectable error (06 R205). -/
  badFrames : List Nat := []
  /-- When its last ray left, in ns after the flip. -/
  endNs : Option Nat := none
  deriving DecidableEq, Repr

/-- Easel (06). -/
structure EsState where
  out : List Nat := []
  /-- Brushes that the fault manager has ordered back, at the next start of a frame. -/
  restore : List Nat := []
  shed : Nat := 0
  fr : Option EsFrame := none
  /-- Records, entries (0 lens, 1 view) and scan or fetch blocks (2, 3) being reloaded. -/
  reload : List (Nat × Nat) := []
  /-- Warnings and errors posted in this frame (06 R208). -/
  posted : List Nat := []
  /-- Uptime at which the array stalled. -/
  stallAt : Option Nat := none
  deriving DecidableEq, Repr

end Sys2Proof.Machine
end

