-- ==== Sys2Proof/Machine/PartsEncoder.lean ====
section
/-! DEFINITION. The part of State of the return encoder (10). -/
namespace Sys2Proof.Machine

/-- The settings of a return stream that govern one capture and its coding (R316, R321). -/
structure EnSet where
  cls : Nat
  capture : Nat
  arg : Nat
  divider : Nat
  phase : Nat
  rot : Nat
  wo : Nat
  ho : Nat
  chroma : Nat
  cqQp : Nat
  capQp : Nat
  windowMs : Nat
  capKbit : Nat
  rapInterval : Nat
  dest : Nat
  addr : Nat
  entries : Nat
  depth : Nat
  sid : Nat
  /-- The flip rate of the capture flip, in mHz. -/
  rate : Nat
  deriving DecidableEq, Repr

/-- A captured picture through the input stage (R300): its samples, Y then Cb then Cr, row by row. -/
structure EnPic where
  stream : Nat
  order : Nat
  /-- Flip count and Tick of its capture flip. -/
  flip : Nat
  tick : Nat
  cfg : EnSet
  samples : List Nat
  /-- Octets of its capture in staging (R318). -/
  size : Nat
  /-- Coding has begun, and then whether it is a RAP picture. -/
  started : Bool := false
  rap : Bool := false
  deriving DecidableEq, Repr

/-- A coded picture whose fragments leave (R311). -/
structure EnOut where
  stream : Nat
  order : Nat
  cfg : EnSet
  flags : Nat
  bits : Nat
  bytes : List Byte
  off : Nat := 0
  deriving DecidableEq, Repr

/-- One return stream. -/
structure EnStream where
  /-- Enabled at the last flip. -/
  on : Bool := false
  /-- PIC_ORDER of its next capture instant. -/
  order : Nat := 0
  /-- The next picture is a RAP picture. -/
  rapNext : Bool := true
  /-- PIC_ORDER of the first capture under the active image, until a picture from there on has begun (R317). -/
  rapFrom : Option Nat := none
  /-- Pictures coded since the last RAP picture, PIC_ORDER of the last one coded, and its settings. -/
  sinceRap : Nat := 0
  lastSent : Option Nat := none
  lastSet : Option EnSet := none
  /-- The units of its pictures coded since the last RAP picture, newest first. -/
  chain : List (List Byte) := []
  /-- A capture was skipped or discarded since the previous picture. -/
  skipped : Bool := false
  /-- PIC_ORDER and charge of pictures, newest first. -/
  charges : List (Nat × Nat) := []
  /-- BACKLOG exceeds half of the buffers. -/
  behind : Bool := false
  /-- Next host ring entry. -/
  tail : Nat := 0
  deriving DecidableEq, Repr

/-- What a proof-of-play record says of a frame (R313). -/
structure PopFrame where
  tag : Nat := 0
  flags : Nat := 0
  fresh : Nat := 0
  held : Nat := 0
  transparent : Nat := 0
  concealed : Nat := 0
  orders : List Nat := List.replicate 16 0xFFFFFFFF
  deriving DecidableEq, Repr

/-- The return encoder. -/
structure EnState where
  streams : List EnStream := List.replicate 16 {}
  /-- Pictures that wait for the engine, oldest capture first, and the one that it codes. -/
  ready : List EnPic := []
  cur : Option EnPic := none
  outq : List EnOut := []
  /-- The record ring in staging, flip instants lost, the next SEQ, whether RESTART is still to come, the previous TAG. -/
  pop : List (List Byte) := []
  popLost : Nat := 0
  restart : Bool := true
  prevTag : List Byte := List.replicate 16 0
  /-- An IC refused a flip since the previous record. -/
  refused : Bool := false
  /-- The frame last shown. -/
  shown : PopFrame := {}
  /-- Drive values that panel drive has taken for the loading frame, of the views that a stream captures. -/
  taken : List (Nat × Nat) := []
  /-- Octets that wait in the egress queue of each field port (R312). -/
  egress : List Nat := [0, 0]
  /-- Descriptors of the frame of the next flip. -/
  descs : List PlDesc := []
  /-- Warnings and errors posted in this frame: code × 256 + stream. -/
  posted : List Nat := []
  deriving DecidableEq, Repr

end Sys2Proof.Machine
end

