-- ==== Sys2Proof/Machine/Coding.lean ====
section
/-! DEFINITION. Line codes of the serial lanes: the 64b/66b scrambler (09 R265, 11 R326), the pseudo-random patterns (11 R327, R348), and what one
period of a training lane carries. -/
namespace Sys2Proof.Machine

/-! ### 64b/66b (09 R265) -/

/-- One bit through the scrambler 1 + x^39 + x^58, and the last 58 scrambled bits, the newest in bit 0. -/
def scrambleBit (s b : Nat) : Nat × Nat := let o := (b + b2n (bit s 38) + b2n (bit s 57)) % 2; (o, (2 * s + o) % 2 ^ 58)

/-- A 64-bit payload through the scrambler, bit 63 first. -/
def scrambleWord (s w : Nat) : Nat × Nat :=
  (List.range 64).foldl (fun q i => let r := scrambleBit q.2 (b2n (bit w (63 - i))); (2 * q.1 + r.1, r.2)) (0, s)

/-- The 66-bit blocks of some payloads: the first is a control block (0b10), the others are data blocks (0b01); sync headers are not
scrambled. -/
def wireBlocks : Nat → Nat → List Nat → List Nat
  | _, _, [] => []
  | hdr, s, w :: l => let q := scrambleWord s w; (hdr * 2 ^ 64 + q.1) :: wireBlocks 1 q.2 l

/-- The 64-bit words of some octets. -/
def packetWords (b : List Byte) : List Nat := (List.range (b.length / 8)).map (fun i => ofBE (slice b (8 * i) 8))

/-- The state of the scrambler behind some payloads. -/
def scrambleAll (s : Nat) (l : List Nat) : Nat := l.foldl (fun s w => (scrambleWord s w).2) s

/-! ### Synchronisation of a receiver (11 R326): IEEE 802.3 Clause 36 for 8b/10b, Clause 49 for 64b/66b -/

/-- A receiver's synchronisation. 8b/10b: `phase` is the state of the Clause 36 machine (0 LOSS_OF_SYNC; 1, 3, 5 COMMA_DETECT; 2, 4 ACQUIRE_SYNC;
6 SYNC_ACQUIRED_1; 7, 9, 11 SYNC_ACQUIRED_2 to 4; 8, 10, 12 their A states), `good` counts good code groups, `even` is rx_even. 64b/66b: `lock` is
block_lock, `good` counts sync headers and `bad` the invalid ones of the 64. -/
structure SyncSt where
  phase : Nat := 6
  lock : Bool := true
  good : Nat := 0
  bad : Nat := 0
  even : Bool := false
  deriving DecidableEq, Repr

/-- One code group at the Clause 36 machine: 0 invalid, 1 data, 2 comma, 3 another special one. -/
def SyncSt.group (s : SyncSt) (g : Nat) : SyncSt :=
  let isBad := g = 0 || (g = 2 && s.even)
  let move := fun (p k : Nat) => { s with phase := p, good := k, even := !s.even }
  if s.phase = 0 then { s with phase := if g = 2 then 1 else 0, good := 0, even := g = 2 || !s.even }
  else if s.phase = 1 || s.phase = 3 || s.phase = 5 then move (if g = 1 then s.phase + 1 else 0) 0
  else if s.phase = 2 || s.phase = 4 then move (if isBad then 0 else if g = 2 then s.phase + 1 else s.phase) 0
  else if s.phase = 6 then move (if isBad then 7 else 6) 0
  else if isBad then move (if s.phase < 9 then 9 else if s.phase < 11 then 11 else 0) 0
  else if s.phase % 2 = 1 then move (s.phase + 1) 1
  else if s.good = 3 then move (if s.phase = 8 then 6 else s.phase - 3) 0
  else move s.phase (s.good + 1)

/-- One sync header at the Clause 49 lock machine. -/
def SyncSt.header (s : SyncSt) (h : Nat) : SyncSt :=
  let isBad := !(h = 1 || h = 2)
  let n := s.good + 1
  let b := s.bad + b2n isBad
  if isBad && (decide (16 ≤ b) || !s.lock) then { s with lock := false, good := 0, bad := 0 }
  else if n = 64 then { s with lock := s.lock || b = 0, good := 0, bad := 0 }
  else { s with good := n, bad := b }

/-- What a receiver sees of its line: code groups or sync headers. -/
def SyncSt.see (s : SyncSt) (blocks : Bool) (seen : List Nat) : SyncSt :=
  seen.foldl (fun s g => if blocks then s.header g else s.group g) s

/-- The receiver is synchronised. -/
def SyncSt.held (s : SyncSt) (blocks : Bool) : Bool := if blocks then s.lock else decide (6 ≤ s.phase)

/-! ### Pseudo-random patterns (11 R327, R348) -/

/-- One bit of the sequence x^a + x^b + 1: the bit, and the next state of `a` bits. -/
def prbsBit (a b s : Nat) : Nat × Nat := let o := (b2n (bit s (a - 1)) + b2n (bit s (b - 1))) % 2; (o, (2 * s + o) % 2 ^ a)

/-- The state `n` bits on. -/
def prbsRun (a b : Nat) : Nat → Nat → Nat
  | 0, s => s
  | n + 1, s => prbsRun a b n (prbsBit a b s).2

/-- `n` bits as a number, the first on top, and the state behind them. -/
def prbsTake (a b n s : Nat) : Nat × Nat := (List.range n).foldl (fun q _ => let r := prbsBit a b q.2; (2 * q.1 + r.1, r.2)) (0, s)

/-- `k` pieces of `n` bits each. -/
def prbsWords (a b n : Nat) : Nat → Nat → List Nat
  | 0, _ => []
  | k + 1, s => let q := prbsTake a b n s; q.1 :: prbsWords a b n k q.2

/-- Exponents of the patterns PRBS7, PRBS15, PRBS23, PRBS31 (codes 1 to 4 of LN_TEST_CTRL). -/
def prbsOf (pat : Nat) : Nat × Nat := [(7, 6), (15, 14), (23, 18), (31, 28)].getD (pat - 1) (31, 28)

/-- PRBS bits in one period of training (11 R327). -/
def trainBits (code : Nat) : Nat := if code < 2 then 225 * 8 else 254 * 64

/-- The payloads of one period of a training lane at codes 2 to 5 (11 R327). -/
def trainWords (s : Nat) (frame : List Byte) : List Nat := ofBE (0x4B :: frame.take 7) :: ofBE (frame.drop 7) :: prbsWords 31 28 64 254 s

/-- One period of a training lane (11 R327). At codes 0 and 1 its 256 characters, K28.1 and K28.5 as 256 and their octet; at codes 2 to 5
its 256 blocks of 66 bits from scrambler state `scr`. `s` is the PRBS-31 state. -/
def trainPeriod (code scr s : Nat) (frame : List Byte) : List Nat :=
  if code < 2 then
    let pat := prbsWords 31 28 8 225 s
    (0x13C :: frame.map (fun b => b.toNat)) ++ (List.range 240).map (fun i => if i % 16 = 15 then 0x1BC else pat.getD (i - i / 16) 0)
  else wireBlocks 2 scr (trainWords s frame)

end Sys2Proof.Machine
end

