-- ==== Sys2Proof/Machine/PartsLink.lean ====
section
/-! DEFINITION. The parts of State of the serial lanes (11) and of ring transport (12). Ring ports are 0 East and 1 West. -/
namespace Sys2Proof.Machine

/-- Where a ring lane stands in its bring-up (11 R329 to R333). -/
inductive LanePhase where
  | idle | pairing | relock | adapt | ready
  deriving DecidableEq, Repr

/-- One lane, beyond what its dictionary entries hold (11). -/
structure Lane where
  phase : LanePhase := .idle
  /-- Rate code, 15 not running. -/
  code : Nat := 15
  /-- Valid CAPABILITY frames in a row; the lane is paired. -/
  run : Nat := 0
  paired : Bool := false
  miswired : Bool := false
  /-- The countdown of a CHANGE: its target and count. -/
  change : Option (Nat × Nat) := none
  /-- The CHANGE goes back to a code already passed, or the lane resumes at its stored taps (11 R337). -/
  resume : Bool := false
  rxReady : Bool := false
  partnerReady : Bool := false
  /-- The partner's PASS_MASK shows this lane. -/
  partnerPass : Bool := false
  /-- Tap requests taken and not yet returned to HOLD: PRE, MAIN, POST, and the statuses shown. -/
  asked : List Nat := [0, 0, 0]
  shown : List Nat := [0, 0, 0]
  /-- Taps of the last passed check, by code, and the last good rate code. -/
  taps : List (Nat × Nat) := []
  lastGood : Option Nat := none
  /-- The receiver's equaliser, and as stored with each passed check by code (11 R337). -/
  eq : Nat := 0
  eqs : List (Nat × Nat) := []
  /-- The receiver's adaptation (11 R335, R336): requests it sends, statuses its partner shows, steps of PRE, MAIN and POST that the partner has
  made, and those at the best eye; the best height; trials in a row without a gain; its start; it ends and restores the best taps. -/
  req : List Nat := [0, 0, 0]
  partnerSt : List Nat := [0, 0, 0]
  pos : List Int := [0, 0, 0]
  bestPos : List Int := [0, 0, 0]
  /-- PRESET (2) or INITIALIZE (1) is asked; the taps that the steps are counted from: those at the start (1, the initial taps) or the preset ones (2);
  those of the best eye (11 R335). -/
  whole : Nat := 0
  base : Nat := 1
  bestBase : Nat := 1
  best : Option Nat := none
  noGain : Nat := 0
  adaptFrom : Nat := 0
  ending : Bool := false
  /-- Both ends are ready: the check of 11 R332 step 5 runs since then. -/
  checkFrom : Option Nat := none
  /-- EYE_MIN_HEIGHT and EYE_MIN_WIDTH since the lane's last bring-up or resume (11 R351). -/
  minH : Nat := 30
  minW : Nat := 16
  /-- Bits of the PRBS-31 training pattern sent (11 R327). -/
  prbsAt : Nat := 0
  /-- The transmitter's 64b/66b scrambler; none: not run since the lane last carried no block that the model holds (11 R326). -/
  scr : Option Nat := none
  /-- The receiver's synchronisation (11 R326). -/
  sync : SyncSt := {}
  /-- The lane retrains by itself, outside its port's bring-up (11 R340); the uptime at which a failed retraining restarts. -/
  solo : Bool := false
  retryAt : Option Nat := none
  startedAt : Nat := 0
  /-- Far-end loop: this end returns bits for its partner; an answer that the next LOOP frame carries; the partner has accepted. -/
  loopSlave : Bool := false
  loopAnswer : Option Bool := none
  farAccepted : Bool := false
  /-- QUIET has been asked of the partner, whose ACK is awaited. -/
  quietAsked : Bool := false
  /-- POWER frames still to send before Brumation. -/
  powerLeft : Nat := 0
  seq : Nat := 0
  /-- Uptime at which a retrained lane began to run clean (12 R370). -/
  cleanFrom : Option Nat := none
  /-- A near-end test loop compares bits: since when (uptime), and TEST_BITS then (11 R348). -/
  chk : Option (Nat × Nat) := none
  /-- The checker of a lane in TEST that reads the line is synchronised (11 R348). -/
  locked : Bool := false
  deriving DecidableEq, Repr

/-- What a lane keeps when its bring-up starts over. -/
def Lane.kept (x : Lane) : Lane :=
  { taps := x.taps, eqs := x.eqs, lastGood := x.lastGood, seq := x.seq, prbsAt := x.prbsAt, minH := x.minH, minW := x.minW }

/-- One ring port's bring-up (11 R329 to R333). -/
structure Port where
  /-- 0 off, 1 pairing, 2 stepping, 3 up, 4 waits to retry, 5 closing into Brumation, 6 no partner, 7 closed by the partner. -/
  stage : Nat := 0
  code : Nat := 0
  prevCode : Nat := 0
  /-- Physical lanes that passed the previous step, and those that passed the one before. -/
  stepLanes : Nat := 0
  prevLanes : Nat := 0
  fallback : Bool := false
  /-- The step is the exit from Brumation at the last good rate (11 R345). -/
  waking : Bool := false
  firstPaired : Option Nat := none
  partnerMask : Option Nat := none
  partnerClass : Nat := 0xFF
  retryAt : Nat := 0
  startedAt : Nat := 0
  /-- Uptime at which a lane of the port last received something (11 R330). -/
  seenAt : Nat := 0
  /-- RING_RATE_MAX, PORT_MIN_LANES and SPARE_QUIET since the port's last bring-up or resume (11 R351). -/
  rateMax : Nat := 5
  minLanes : Nat := 6
  quiet : Bool := false
  deriving DecidableEq, Repr

/-- The serial lanes (11). -/
structure LnState where
  lanes : List Lane := List.replicate 56 {}
  ports : List Port := [{}, {}]
  deriving DecidableEq, Repr

/-- A map change that waits (12 R369): the new FAILED_SET and when it was asked. -/
structure MapChange where
  failed : Nat
  askedAt : Nat
  deriving DecidableEq, Repr

/-- A MAP_REQ without its MAP_ACK (12 R367). -/
structure MapReq where
  id : Nat
  failed : Nat
  readmit : Bool
  sentAt : Nat
  deriving DecidableEq, Repr

/-- A message in a side-channel queue (12 R367): its class, 0 PTP, 1 LANE_CTRL, MAP_REQ and MAP_ACK, 2 the rest; its TYPE, its DST, the octets
still to send and all its octets. -/
structure SideItem where
  cls : Nat
  ty : Nat
  dst : Nat
  left : Nat
  bytes : List Byte
  deriving DecidableEq, Repr

/-- One ring port of ring transport (12). -/
structure RgPort where
  up : Bool := false
  code : Nat := 0
  change : Option MapChange := none
  /-- Lanes to be readmitted at the flip, with the uptime of the request (12 R370). -/
  readmit : List (Nat × Nat) := []
  reqs : List MapReq := []
  nextReq : Nat := 0
  /-- The partner's maps from its MAPS message: its transmit and receive directions. -/
  partnerMaps : Nat × Nat := (0, 0)
  /-- Receive: frame lock, frames in a row that pass or fail, per-stripe failing frames, the last FSEQ, a change by MAP_CD. -/
  lock : Bool := false
  goodRun : Nat := 0
  badRun : Nat := 0
  stripeBad : List Nat := List.replicate 8 0
  fseq : Nat := 0
  /-- Frames received since the stripe set last changed, and the KEEP of their POS 0. -/
  rxFrames : Nat := 0
  /-- Frames received since hand-over, and of the last 1,024 the codewords that could not be corrected. -/
  frames : Nat := 0
  badWords : List (Nat × Nat) := []
  /-- A slice with a bad LENGTH or KIND came: the receiver resumes at the next FIRST (12 R362). -/
  seek : Bool := false
  keepRx : Nat := 0xFFFF
  pendRx : Option (Nat × Nat × Nat) := none
  /-- Stripes of the symbols corrected within the last 1 ms, with the uptime (12 R359). -/
  fecLog : List (Nat × List Nat) := []
  /-- Transmit, as of `drainAt`: octets in the egress FIFO, the side-channel queue whose front is being sent, and the parts of an octet that both
  have sent beyond that. -/
  fifo : Nat := 0
  side : List SideItem := []
  fifoRem : Nat := 0
  sideRem : Nat := 0
  drainAt : Nat := 0
  /-- Side-channel octets gathered into a message. -/
  sideRx : List Byte := []
  deriving DecidableEq, Repr

/-- Ring transport (12). -/
structure RgState where
  ports : List RgPort := [{}, {}]
  /-- Masks of the parts at higher and lower positions; none before the first enumeration. -/
  downEast : Option Nat := none
  downWest : Option Nat := none
  enumerating : Bool := false
  enumAgain : Bool := false
  /-- A cause met while CP-A was stopped: the tile index before it (01 R23, 18 R497). -/
  enumWanted : Option Nat := none
  tileIndices : List Nat := []
  enumerated : Bool := false
  /-- Event codes posted, with port and flip number, for the limit of one per frame period (12 R375). -/
  posted : List (Nat × Nat × Nat) := []
  roleConflict : Bool := false
  deriving DecidableEq, Repr

end Sys2Proof.Machine
end

