-- ==== Sys2Proof/Machine/PartsMem.lean ====
section
/-! DEFINITION. The parts of State of the memory controller (14) and of the compression engine and CRC units (15). -/
namespace Sys2Proof.Machine

/-- Refresh and power-down of one channel and rank (14 R415 to R419). -/
structure McChan where
  port : Nat
  ch : Nat
  rank : Nat
  /-- MR4 refresh rate by the codes of REFRESH_RATE. -/
  rate : Nat := 2
  limit : Nat := 64
  /-- The owed count O. -/
  owed : Nat := 0
  catchup : Bool := false
  /-- Bank pairs refreshed in the current round. -/
  round : List Nat := []
  powerDown : Bool := false
  /-- Uptime at which ZQ was last latched, and at which the WCK-to-DQ oscillator last tracked; the uptime of the last such action. -/
  zqAt : Nat := 0
  trackAt : Nat := 0
  actAt : Option Nat := none
  /-- CK of the last refresh command; the pairs under refresh, from and until which CK (14 R416). -/
  lastRef : Nat := 0
  busy : List (Nat × Nat × Nat) := []
  /-- Uptime at which the last interval ended, and that of the last MR4 read (14 R415). -/
  dueAt : Nat := 0
  mr4At : Nat := 0
  deriving DecidableEq, Repr

/-- A burst request in a channel's queue (14 R413): its client by the codes of R410, its place, and the CK at which it came. -/
structure McReq where
  client : Nat
  write : Bool
  rank : Nat
  bank : Nat
  row : Nat
  burst : Nat
  at_ : Nat
  /-- A write of less than the burst: a read, a merge and a write in one entry (14 R409). -/
  merge : Bool := false
  deriving DecidableEq, Repr

/-- The queues of a channel (14 R413, R414). -/
structure McQ where
  port : Nat
  ch : Nat
  /-- Read and write queue, 64 entries each, oldest first; requests of clients that found one full. -/
  reads : List McReq := []
  writes : List McReq := []
  waits : List McReq := []
  /-- The channel drains its writes. -/
  drain : Bool := false
  /-- By rank and bank, the open row and whether its check buffer has changed since its check block was read (14 R409). -/
  pages : List (Nat × Nat × Bool) := []
  /-- CK up to which the channel has worked; non-real-time requests wait until `hold`. -/
  ranTo : Nat := 0
  hold : Nat := 0
  /-- Slot whose owner's run of column commands goes on. -/
  burst : Option Nat := none
  /-- By rank, the CK of the last column command and PD_IDLE then (14 R419). -/
  used : List (Nat × Nat × Nat) := []
  /-- Slots not free at their start that are not yet counted. -/
  missed : Nat := 0
  deriving DecidableEq, Repr

/-- The memory controller (14). -/
structure McState where
  /-- Ports in use: PORTS_FITTED as the start found it (14 R422). -/
  np : Nat := 6
  ranks : Nat := 1
  chans : List McChan := []
  qs : List McQ := []
  /-- CK at which slot 0 of the slot cycle began; none before the first activation (14 R414). -/
  slotFrom : Option Nat := none
  /-- The slot tables of the plan in force, by port (03 R81). -/
  tables : List (List Byte) := []
  /-- What the patrol scrubber reads next: a data burst, or behind the last of them a check block; uptime at which its pass began (14 R412). -/
  scrubAt : Nat := 0
  scrubFrom : Nat := 0
  /-- Bursts whose corrected octets wait to be written back in this step (14 R410). -/
  fixes : List Nat := []
  /-- Uptime of the last DRAM_ECC_CORRECTED of a port. -/
  eccPosted : List (Nat × Nat) := []
  selfRefresh : Bool := false
  deriving DecidableEq, Repr

/-- A compression job in a pipe (15 R425): ring index, descriptor, an error found at its start (0 none); a job of the image manager
carries its slot and encoding instead. -/
structure CxJob where
  slot : Nat
  desc : List Byte
  early : Nat
  img : Option (Nat × Nat) := none
  deriving DecidableEq, Repr

/-- What a DEFLATE stream holds beside its context (15 R430): the context in DRAM names it by its number (assumption log 34). -/
structure CxStream where
  id : Nat
  pipe : DfPipe
  deriving DecidableEq, Repr

/-- An item that passes a snoop point and is still to be folded (15 R438): point, tag and octets. -/
structure SnoopRec where
  point : Nat
  tag : Nat
  bytes : List Byte
  deriving DecidableEq, Repr

/-- The compression engine and the CRC units (15). -/
structure CxState where
  inflate : Option CxJob := none
  deflate : Option CxJob := none
  /-- Ring indices past HEAD that are done. -/
  doneSlots : List Nat := []
  streams : List CxStream := []
  nextId : Nat := 1
  /-- Jobs of the image manager that wait: slot and encoding. -/
  imgJobs : List (Nat × Nat) := []
  /-- Items that have passed a snoop point and are not yet folded, oldest first (15 R438). -/
  passed : List SnoopRec := []
  /-- CRC units that stop at the end of the item in progress (15 R438). -/
  stopping : List Nat := []
  /-- CFG, POLY, INIT, XOROUT and VALUE of unit 7 while the image manager holds it (15 R440). -/
  saved7 : List Nat := []
  deriving DecidableEq, Repr

end Sys2Proof.Machine
end

