-- ==== Sys2Proof/Machine/PartsPanel.lean ====
section
/-! DEFINITION. The part of State of panel drive (09). -/
namespace Sys2Proof.Machine

/-- What a request on a return lane is for. -/
inductive PdKind where
  /-- The polling of R288. -/
  | poll
  /-- The chain check of R289 of the last IC, and of IC 0. -/
  | last
  | first
  /-- Link-up (R294): the last IC, the IC after it, a latency register, and the PANEL_INIT records. -/
  | linkLast
  | linkNext
  | linkReg
  | linkInit
  /-- An IC access (R290). -/
  | access
  deriving DecidableEq, Repr

/-- One STATUS_REQ (R267), with the value that a CONFIG before it writes. -/
structure PdReq where
  kind : PdKind
  lane : Nat
  ic : Nat
  reg : Nat
  value : Option Nat := none
  deriving DecidableEq, Repr

/-- One return lane (R263, R288): requests that wait, the one outstanding, its SEQ and when it was sent, and the polling turn. -/
structure PdRet where
  queue : List PdReq := []
  out : Option PdReq := none
  seq : Nat := 0
  sentAt : Nat := 0
  pollAt : Nat := 0
  /-- The turn: lane of the eight, and IC. -/
  turn : Nat × Nat := (0, 0)
  deriving DecidableEq, Repr

/-- A ray that waits in the open LOAD packet: its 48-bit drive value, its flag (R281) and its hogel row. -/
structure PdRay where
  value : Nat
  flag : Bool
  row : Nat
  deriving DecidableEq, Repr

/-- One panel lane. -/
structure PdLane where
  /-- The lane takes part in the load that runs. -/
  inLoad : Bool := false
  /-- Position in the lane's entries, and rays of that RUN already taken. -/
  idx : Nat := 0
  taken : Nat := 0
  pkt : List PdRay := []
  slice : Option Nat := none
  /-- A discarded slice leaves the load incomplete (R280). -/
  bad : Bool := false
  complete : Bool := false
  /-- The transmit buffer is full (R279). -/
  full : Bool := false
  /-- Link-up: uptime of its start while it waits for block lock, whether its steps run, whether it ends in PROBATION. -/
  lockAt : Option Nat := none
  linking : Bool := false
  again : Bool := false
  /-- CHAIN_LENGTH and chain time (1/16 ns) of the last link-up; the sum being gathered. -/
  len : Nat := 0
  chain : Nat := 0
  gather : Nat := 0
  /-- Failed checks in a row of the last IC and of IC 0. -/
  missLast : Nat := 0
  missFirst : Nat := 0
  /-- Uptime at which PROBATION began; 1 s has passed clean. -/
  probFrom : Option Nat := none
  ready : Bool := false
  deriving DecidableEq, Repr

/-- Panel drive. -/
structure PdState where
  lanes : List PdLane := List.replicate 32 {}
  rets : List PdRet := List.replicate 4 {}
  /-- The frame whose load runs, and its source: cut-through or Easel. -/
  loading : Option Nat := none
  cut : Bool := false
  /-- A load of this frame began. -/
  began : Option Nat := none
  /-- The last frame whose decision point has passed, and the last for which FLIP was sent. -/
  decided : Option Nat := none
  sent : Option Nat := none
  /-- BLANK has been sent under the BLANK state that holds. -/
  blanked : Bool := false
  /-- The panel is dark: BLANK has been sent and no FLIP since. -/
  dark : Bool := false
  linked : Bool := false
  linking : Bool := false
  rate : Option Nat := none
  /-- Rays of each hogel row not yet sent (R287). -/
  rowLeft : List Nat := []
  /-- Slices with a flagged packet in the load (R281). -/
  bxSlices : List Nat := []
  /-- Misses in a row, and SILENT ICs, by lane × 256 + IC (R288). -/
  misses : List (Nat × Nat) := []
  silent : List Nat := []
  /-- The IC access that waits for its slot (R290). -/
  access : Option PdReq := none
  /-- Warnings and errors posted in this frame: code × 2^16 + lane × 256 + IC (R295). -/
  posted : List Nat := []
  deriving DecidableEq, Repr

end Sys2Proof.Machine
end

