-- ==== Sys2Proof/Machine/PartsPower.lean ====
section
/-! DEFINITION. The part of State of power, clocks, thermal management and calibration (19). Temperatures are in 1/16 °C, so that the
mean of two readings of 1/8 °C is exact. -/
namespace Sys2Proof.Machine

/-- One thermal site (19 R528 to R530). -/
structure Site where
  /-- 0 VALID, 1 CALIBRATING, 2 EXCLUDED, 3 FAILED. -/
  state : Nat := 0
  reading : Option Int := none
  lastValid : Option Int := none
  estimate : Option Int := none
  value : Int := 0
  /-- How often excluded since reset. -/
  excluded : Nat := 0
  /-- Uptime since which an excluded site's reading has stayed within 6 °C of its estimate. -/
  goodSince : Option Nat := none
  /-- Its TEMP instance recalibrates: the reading is held (19 R540). -/
  stale : Bool := false
  deriving DecidableEq, Repr

/-- One calibration instance (19 R538 to R541). -/
structure CalInst where
  item : Nat
  idx : Nat
  quality : Nat := 0
  residual : Nat := 0
  /-- The codes of its trim DAC. -/
  codes : List Int := []
  /-- Uptime and T_MAX (1/16 °C) of its last calibration. -/
  at_ : Nat := 0
  tmax : Int := 0
  running : Bool := false
  waiting : Bool := false
  deriving DecidableEq, Repr

/-- Power, clocks, thermal and calibration (19; assumption log 125). -/
structure PmState where
  /-- PWR_EN and PWR_GOOD pins, SUPPLY_FAIL_N, rails out of window (mask over rails 1 to 8 at bits 0 to 7). -/
  pwrEn : Nat := 0
  pwrGood : Nat := 0
  supplyFailN : Bool := true
  windowOut : Nat := 0
  /-- The PWR_GOOD that the power sequence waits for, and the islands whose switch is closed, by bit (19 R519, R523). -/
  seqStep : Nat := 0
  islands : Nat := 6
  /-- Uptime at which the sequence last stopped. -/
  failedAt : Nat := 0
  /-- Time for which FREQ_TC has been fitted, and the samples of the last 24 h, newest first: uptime, site 17 in 1/16 °C, frequency offset in ppb
  (19 R536). -/
  fitTime : Nat := 0
  fit : List (Nat × Int × Int) := []
  /-- The VDD_CORE target in units of 0.5 mV. -/
  target : Nat := 1600
  /-- Consecutive reads above 12 %. -/
  slackHigh : Nat := 0
  /-- Consecutive failed transactions by rail, and rails whose telemetry is STALE. -/
  railFails : List (Nat × Nat) := []
  railStale : List Nat := []
  /-- Regulators turned off by the shutdown (19 R521 step 7). -/
  turnedOff : List Nat := []
  refLost : Bool := false
  /-- Core clocks run from the crystal (20 R562). -/
  onCrystal : Bool := false
  sites : List Site := List.replicate 24 {}
  tmax : Int := 0
  /-- Whether a round has been evaluated. -/
  rounds : Nat := 0
  throttle : Bool := false
  warning : Bool := false
  /-- Uptime at which the hold of R534 ends. -/
  holdUntil : Option Nat := none
  /-- Uptime of the last change that counts THROTTLE_TIME, with the fraction of a second carried. -/
  throttleAcc : Nat := 0
  lastRound : Nat := 0
  /-- The part is shut down: 0 no, 1 by heat, 2 by supply. -/
  down : Nat := 0
  downAt : Nat := 0
  /-- Uptime since which T_MAX is at or below 100 °C. -/
  coolSince : Option Nat := none
  cal : List CalInst := []
  /-- Items whose CAL_QUALITY_LOW has been posted. -/
  qualityLow : List Nat := []
  /-- Items of a CAL_NOW in progress. -/
  calNow : List Nat := []
  /-- Time-weighted sum of T_MAX since the last life update (1/16 °C × 2^−16 ns), the time, and time above 100 °C not yet an hour. -/
  lifeSum : Int := 0
  lifeTime : Nat := 0
  lifeHot : Nat := 0
  deriving DecidableEq, Repr

end Sys2Proof.Machine
end

