-- ==== Sys2Proof/Machine/PartsStencil.lean ====
section
/-! DEFINITION. The part of State of Stencil (08). -/
namespace Sys2Proof.Machine

/-- One surface (08 R240). -/
structure Surf2 where
  fmt : Nat
  base : Nat
  pitch : Nat
  w : Nat
  h : Nat
  deriving DecidableEq, Repr

/-- A latched command or descriptor (08 R249, R251). -/
structure StCmd where
  op : Nat
  flags : Nat
  w : Nat
  h : Nat
  src : Surf2
  sx : Nat
  sy : Nat
  dst : Surf2
  dx : Nat
  dy : Nat
  fg : Nat
  bg : Nat
  galpha : Nat
  waitRow : Nat
  tag : Nat
  /-- From the list, and its reserved bits are 0. -/
  list : Bool
  clean : Bool
  /-- Enabled clipping rectangles: X0, Y0, X1, Y1. -/
  clips : List (Nat × Nat × Nat × Nat)
  deriving DecidableEq, Repr

/-- Stencil. -/
structure StState where
  /-- The command that runs or waits. -/
  cmd : Option StCmd := none
  /-- Uptime since which it waits for the beam; started by the timeout. -/
  waitFrom : Option Nat := none
  missed : Bool := false
  head : Nat := 0
  halted : Bool := false
  /-- The passes for which WATERMARK_PASSED was posted: source, slot and frame. -/
  passed : List (Nat × Nat × Nat) := []
  deriving DecidableEq, Repr

end Sys2Proof.Machine
end

