-- ==== Sys2Proof/Machine/PartsXz.lean ====
section
/-! DEFINITION. The part of State of the image manager (03): slots, loads, verification, activation, storing and ray queries. -/
namespace Sys2Proof.Machine

/-- An image load that runs (03 R87 to R91). -/
structure XzLoad where
  slot : Nat
  enc : Nat
  size : Nat
  raw : List Byte
  dma : Bool
  lastAt : Nat
  /-- END has come, and the inflate pipe has not finished (15 R425). -/
  closed : Bool := false
  /-- A load by DMA that the DMA engine has not begun, with the host address of its octets (17 R488). -/
  waits : Option Nat := none
  deriving DecidableEq, Repr

/-- One DRAM image slot (03 R85, R86): its state, and the image bytes that entered it. -/
structure XzSlot where
  st : Nat := 0
  img : List Byte := []
  deriving DecidableEq, Repr

/-- A pending activation (03 R97): the slot and the target Tick (none: the next flip, as at the start, R103), and whether a safe state
has deferred it (R101). -/
structure XzPend where
  slot : Nat
  target : Option Nat
  deferred : Bool
  deriving DecidableEq, Repr

/-- The image manager (03). -/
structure XzState where
  slots : List XzSlot := [{}, {}]
  load : Option XzLoad := none
  pend : Option XzPend := none
  /-- The stored image of the start is in verification (03 R103). -/
  boot : Bool := false
  /-- The image executing: its slot and bytes. -/
  active : Option Nat := none
  img : List Byte := []
  /-- The tables of an activation are being copied into SRAM (03 R99 steps 2 and 3). -/
  copying : Bool := false
  /-- The slot that the activation in progress replaces. -/
  prev : Option Nat := none
  /-- The flip that an activation holds (03 R99 step 4). -/
  heldFlip : Option Nat := none
  /-- The stored area of MRAM (03 R85), empty while invalid. -/
  stored : List Byte := []
  /-- A store that runs, and its slot. -/
  storing : Option Nat := none
  /-- A rebuild of the active slot has failed (14 R410): HOLD stands until an activation completes. -/
  parityLost : Bool := false
  /-- Octets that the image manager puts into DRAM in this step: address and octets; none between steps (the model's own field). -/
  fills : List (Nat × List Byte) := []
  /-- A ray query that runs (02 R68). -/
  query : Option Nat := none
  deriving DecidableEq, Repr

end Sys2Proof.Machine
end

