-- ==== Sys2Proof/Machine/State.lean ====
section
/-! DEFINITION. State of the LK-7400 block: everything the spec gives the part, as plain data, with the queue of commands that wait.
`Ctl` holds the part but for its two memories' octets; `Mem` holds DRAM; a command that touches no memory changes `Ctl` only. -/
namespace Sys2Proof.Machine

/-- DRAM octets as a canonical list (addresses rising, no entry equal to what an unlisted address reads as), and the bits in which a 64-octet
burst with its check word differs from what was written (14 R408), by burst number, rising. -/
structure Mem where
  dram : List Host.Cell := []
  errs : List (Nat × Nat) := []
  /-- What link ECC finds in the reads of the step (14 R411): 1 an error corrected, 2 a failed read that its repeat mends, 3 one that fails again. -/
  link : List (Nat × Nat) := []
  deriving DecidableEq, Repr

/-- The part without its DRAM (assumption log 10). -/
structure Ctl where
  /-- Wall time (13 R378). -/
  now : Nat := 0
  /-- Time since reset, 2^−16 ns. -/
  up : Nat := 0
  /-- The Tick's fraction, frequency and slew (13 R382). -/
  clk : Clock := {}
  /-- Draws taken from the free values (the model's own field). -/
  draws : Nat := 0
  /-- Active values of the entries. -/
  ent : EMap := []
  /-- Shadow copies of RWS entries that differ in origin from the active copy (16 R466). -/
  shadow : EMap := []
  /-- The MRAM dictionary store: entries with Persist Yes (18 R499). -/
  nv : EMap := []
  /-- Register fields of their own: register, instance, lowest bit. -/
  regs : List ((RegName × Nat × Nat) × Nat) := []
  /-- _LO writes held until their _HI write (00 R7), and _HI samples latched by a _LO read. -/
  loHeld : List ((RegName × Nat) × Nat) := []
  hiLatch : List ((RegName × Nat) × Nat) := []
  /-- IRQ pins asserted (17 R490). -/
  irq : Nat := 0
  /-- The last value a register or window read returned. -/
  readData : Nat := 0
  dy : DyState := {}
  hi : HiState := {}
  tb : TbState := {}
  fm : FmState := {}
  bt : BtState := {}
  mc : McState := {}
  cx : CxState := {}
  pm : PmState := {}
  ln : LnState := {}
  rg : RgState := {}
  xz : XzState := {}
  dc : DcState := {}
  pl : PlState := {}
  es : EsState := {}
  pd : PdState := {}
  st : StState := {}
  en : EnState := {}
  /-- What the part has sent, oldest first. -/
  out : List Emit := []
  deriving DecidableEq, Repr

/-- The block: the part, its DRAM and the commands that wait, first in, first out. -/
structure State where
  ctl : Ctl := {}
  mem : Mem := {}
  pending : List Instr := []
  deriving DecidableEq, Repr

/-- Why the block stops with a fault. No command of this block stops: the type is kept for the interface. -/
inductive Fault where
  /-- Never raised by a meaning. Safe: the machine stops where the spec goes on. -/
  | none
  deriving DecidableEq, Repr

/-- Why a command has no meaning. -/
inductive Refusal where
  /-- Raised by exec's arm of a command that has no meaning yet, named by its mnemonic. Safe: nothing can be proved of what it does. -/
  | notModelled (mnemonic : String)
  deriving DecidableEq, Repr

/-- The block right after reset: every register and entry at its reset value, no command waiting. -/
def State.reset : State := {}

end Sys2Proof.Machine
end

