-- ==== Sys2Proof/Machine/Ops.lean ====
section
/-! DEFINITION. The named operations every chapter uses: time, entries, registers, memory, events. -/
namespace Sys2Proof.Machine

/-! ### How a meaning is built -/

/-- A meaning that changes the part only: memory and the queue stand. -/
def runC (f : Ctl → Ctl) (s : State) : Host.Outcome State Fault Refusal := .next { s with ctl := f s.ctl }

/-- What the step's reads have corrected is written back, and the link is quiet again (14 R410, R411). -/
def mended (r : Mem × Ctl) : Mem × Ctl :=
  ({ r.1 with errs := r.1.errs.filter (fun e => !r.2.mc.fixes.contains e.1), link := [] }, { r.2 with mc := { r.2.mc with fixes := [] } })

/-- A meaning that changes the part and memory: the queue stands. -/
def runM (f : Mem → Ctl → Mem × Ctl) (s : State) : Host.Outcome State Fault Refusal :=
  .next { s with mem := (mended (f s.mem s.ctl)).1, ctl := (mended (f s.mem s.ctl)).2 }

/-- Time passes: the uptime advances by `dt`, and the Tick by what the time clock and a slew make of it, which also brings the domains' offsets
down (13 R382, R394; assumption log 4). -/
def Ctl.advance (dt : Nat) (c : Ctl) : Ctl :=
  let k := c.clk
  let m : Int × Int := match k.slew with
    | some (d, t) => (slewMoved d (t + dt) - slewMoved d t, slewMoved d (t + dt) / 2 ^ 32 - slewMoved d t / 2 ^ 32)
    | none => (0, 0)
  let x := (k.rem + (clockAdds k.freq dt + m.1)).toNat
  { c with now := tickAdd c.now (x / 2 ^ 32), up := c.up + dt
           clk := { k with rem := x % 2 ^ 32, slew := k.slew.map (fun s => (s.1, s.2 + dt)), offA := k.offA - m.2, offB := k.offB - m.2 } }

/-- The Tick is moved at once (13 R392, R395, 20 R553). -/
def Ctl.moveTick (c : Ctl) (delta : Int) : Ctl := { c with now := ofSigned 64 (c.now + delta) }

/-- One more draw from the free values (assumption log 10). -/
def Ctl.draw (c : Ctl) : Ctl := { c with draws := c.draws + 1 }

/-- The part sends something (assumption log 17). -/
def Ctl.emit (c : Ctl) (e : Emit) : Ctl := { c with out := c.out ++ [e] }

/-- Apply `f` when the condition holds. -/
def Ctl.when (c : Ctl) (b : Bool) (f : Ctl → Ctl) : Ctl := if b then f c else c

/-! ### Entries -/

/-- Key of an entry. -/
def ekey (idx sub : Nat) : Nat := idx * 256 + sub

/-- Decode contexts share the rows of index 0x6000 (05 R171). -/
def rowKey (k : Nat) : Nat := if 0x600000 ≤ k ∧ k < 0x640000 then 0x600000 + k % 256 else k

/-- The table row of an entry. -/
def dictRow (k : Nat) : Option DictRow :=
  let r := rowKey k
  dictRows.find? (fun d => d.lo ≤ r && r < d.lo + d.n)

/-- The array whose element count sits at this key (00 R13). -/
def countRow (k : Nat) : Option DictRow :=
  if k % 256 = 0 then dictRows.find? (fun d => d.isArr && d.lo = k + 1) else none

/-- Octets of a text. -/
def ascii (s : String) : List Byte := s.toList.map (fun ch => byteOf ch.toNat)

/-- Is the type an octet string. -/
def ETy.isOct : ETy → Bool
  | .bytes | .string => true
  | _ => false

/-- Bytes a value of the type takes (16 R447); 0 for octet strings. -/
def ETy.size : ETy → Nat
  | .bool | .u8 => 1
  | .u16 => 2
  | .u32 | .i32 | .f32 => 4
  | .u64 | .i64 | .tick => 8
  | .bytes | .string => 0

/-- The type's code on the wire (16 R447). -/
def ETy.code : ETy → Nat
  | .bool => 1 | .u8 => 2 | .u16 => 3 | .u32 => 4 | .u64 => 5 | .i32 => 6 | .i64 => 7 | .f32 => 8 | .tick => 9
  | .bytes => 10 | .string => 11

/-- Entry `i` of the default pre-blend table: 65,535 × (i / 4,095)^2.4, rounded to the nearest (07 R233). The greatest n with
n − 1/2 at most that value, by fifth powers. -/
def preDefault (i : Nat) : Nat :=
  (List.range 17).foldl (fun n k => let t := n + 2 ^ (16 - k); if (2 * t - 1) ^ 5 * 4095 ^ 12 ≤ 32 * 65535 ^ 5 * i ^ 12 then t else n) 0

/-- Entry `i` of the default post-blend table: 65,535 × (i / 4,095)², rounded to the nearest (07 R233). -/
def postDefault (i : Nat) : Nat := (2 * 65535 * i * i + 4095 * 4095) / (2 * 4095 * 4095)

/-- Entry `i` of the built-in Stipple matrix (07 R236): the rank of its position among the 4,096, so the entries are a permutation of 0 to
4,095. -/
def builtInStipple (i : Nat) : Nat :=
  ((List.range 4096).filter (fun j => decide (Config.stippleOrder j < Config.stippleOrder i) ||
    (Config.stippleOrder j = Config.stippleOrder i && decide (j < i)))).length

/-- A Glaze table of three colours by one curve of 4,096 entries. -/
def lutOf (f : Nat → Nat) : List Byte := (List.range 3).flatMap (fun _ => (List.range 4096).flatMap (fun i => toLE 2 (f i)))

/-- The default of an entry as its table gives it. Entries whose default is not one number are listed first. -/
def dfltVal (k : Nat) : EVal :=
  if k = 0x100001 then .oct (ascii "Fulorum") else
  if k = 0x100002 then .oct (ascii "LK-7400") else
  if k = 0x100003 then .oct (ascii "LK-7400-FB") else
  if k = 0x100004 then .num (Config.siliconStep % 65536) else
  if k = 0x100005 then .num (Config.partSerial % 2 ^ 64) else
  if k = 0x210008 ∨ k = 0x210009 then .oct (List.replicate 16 255) else
  if k = 0x230202 then .num 1 else
  if k = 0x531106 then .num 0 else
  if 0x312101 ≤ k ∧ k ≤ 0x312110 then .num (k - 0x312101) else
  if 0x430201 ≤ k ∧ k ≤ 0x430210 then .oct (List.replicate 48 0) else
  if 0x430301 ≤ k ∧ k ≤ 0x430310 then .oct (lutOf preDefault) else
  if 0x430401 ≤ k ∧ k ≤ 0x430410 then .oct (lutOf postDefault) else
  if k = 0x430601 then .oct ((List.range 4096).flatMap (fun i => toLE 2 (builtInStipple i))) else
  if 0x160101 ≤ k ∧ k ≤ 0x160104 then .oct (List.replicate 64 0) else
  if k = 0x160003 then .oct (List.replicate 32 0) else
  match dictRow k with
  | some d => if d.ty.isOct then .oct [] else .num d.dflt
  | none => .num 0

/-- A value as a number (0 for octets). -/
def EVal.toNum : EVal → Nat
  | .num n => n
  | .oct _ => 0

/-- A value as octets (none for a number). -/
def EVal.toOct : EVal → List Byte
  | .num _ => []
  | .oct b => b

/-- The active value of an entry (assumption log 6). -/
def Ctl.ev (c : Ctl) (k : Nat) : EVal := (aGet c.ent k).getD (dfltVal k)

/-- The active value of a number entry. -/
def Ctl.e (c : Ctl) (k : Nat) : Nat := (c.ev k).toNum

/-- Element `i` (from 0) of an array entry. -/
def Ctl.ea (c : Ctl) (idx i : Nat) : Nat := c.e (ekey idx (i + 1))

/-- CP-A runs (18 R495, R497; assumption log 85). -/
def Ctl.cpaUp (c : Ctl) : Bool := c.ea 0x1580 0 = 0

/-- CP-B runs (18 R495, R515; assumption log 85). -/
def Ctl.cpbUp (c : Ctl) : Bool := c.ea 0x1580 1 = 0

/-- Set the active value of an entry. -/
def Ctl.setEv (c : Ctl) (k : Nat) (v : EVal) : Ctl := { c with ent := aSet c.ent k v }

/-- Set the active value of a number entry. -/
def Ctl.setE (c : Ctl) (k n : Nat) : Ctl := c.setEv k (.num n)

/-- Set element `i` (from 0) of an array entry. -/
def Ctl.setEa (c : Ctl) (idx i n : Nat) : Ctl := c.setE (ekey idx (i + 1)) n

/-- Width in bits of a counter entry. -/
def entWidth (k : Nat) : Nat := match dictRow k with
  | some d => 8 * d.ty.size
  | none => 32

/-- Add to a counter entry, saturating (00 R10). -/
def Ctl.addE (c : Ctl) (k n : Nat) : Ctl := c.setE k (satAdd (entWidth k) (c.e k) n)

/-- Count one in a counter entry, saturating. -/
def Ctl.incE (c : Ctl) (k : Nat) : Ctl := c.addE k 1

/-- Count one in element `i` of a counter array. -/
def Ctl.incEa (c : Ctl) (idx i : Nat) : Ctl := c.incE (ekey idx (i + 1))

/-- The shadow copy of an RWS entry (16 R449); the active copy where none differs. -/
def Ctl.sh (c : Ctl) (k : Nat) : EVal := (aGet c.shadow k).getD (c.ev k)

/-! ### Registers -/

/-- The table row of a register field by its lowest bit. -/
def regField (r : RegName) (lo : Nat) : Option RegField := regFields.find? (fun f => f.reg = r && f.lo = lo)

/-- An own register field's value; its reset value until something sets it (assumption log 6). -/
def Ctl.reg (c : Ctl) (r : RegName) (inst lo : Nat) : Nat :=
  match firstSome (fun p => if p.1 = (r, inst, lo) then some p.2 else none) c.regs with
  | some v => v
  | none => match regField r lo with
    | some f => f.rst
    | none => 0

/-- Replace or add one register field's value. -/
def regSet : List ((RegName × Nat × Nat) × Nat) → (RegName × Nat × Nat) → Nat → List ((RegName × Nat × Nat) × Nat)
  | [], k, v => [(k, v)]
  | (k', v') :: m, k, v => if k' = k then (k, v) :: m else (k', v') :: regSet m k v

/-- Set an own register field. -/
def Ctl.setReg (c : Ctl) (r : RegName) (inst lo v : Nat) : Ctl := { c with regs := regSet c.regs (r, inst, lo) v }

/-- Set one bit of an own register field (hardware set: 00 R10). -/
def Ctl.orReg (c : Ctl) (r : RegName) (inst lo b : Nat) : Ctl := c.setReg r inst lo (c.reg r inst lo ||| 2 ^ b)

/-- Add to an own counter field of `w` bits, saturating (00 R10). -/
def Ctl.addReg (c : Ctl) (r : RegName) (inst lo w n : Nat) : Ctl := c.setReg r inst lo (satAdd w (c.reg r inst lo) n)

/-! ### Events -/

/-- The event-register bits an event sets: register and bit. -/
def eventBits : List (Nat × RegName × Nat) := [
  (0x4401, .dyEvents, 0), (0x4481, .dyEvents, 1), (0x4482, .dyEvents, 2), (0x44C1, .dyEvents, 3),
  (0x0541, .fmEvents, 0), (0x05C1, .fmEvents, 1), (0x0542, .fmEvents, 2), (0x0543, .fmEvents, 2), (0x05C2, .fmEvents, 3),
  (0x05C3, .fmEvents, 4), (0x0341, .tmEvents, 0), (0x0342, .tmEvents, 1), (0x03C2, .tmEvents, 2), (0x03C3, .tmEvents, 3),
  (0x02C1, .pmEvents, 0), (0x02C2, .pmEvents, 1), (0x0242, .pmEvents, 2), (0x0243, .pmEvents, 2), (0x0281, .pmEvents, 3),
  (0x02C3, .pmEvents, 4), (0x02C4, .pmEvents, 4), (0x4181, .cxEvents, 0), (0x41C1, .cxEvents, 2), (0x4001, .mcEvents, 0),
  (0x40C1, .mcEvents, 1), (0x4041, .mcEvents, 2), (0x40C2, .mcEvents, 3), (0x40C4, .mcEvents, 4), (0x1303, .tbEvents, 0),
  (0x1381, .tbEvents, 0), (0x1302, .tbEvents, 1), (0x13C1, .tbEvents, 2), (0x1342, .tbEvents, 3), (0x13C2, .tbEvents, 4),
  (0x1102, .rgEvents, 0), (0x1103, .rgEvents, 0), (0x1143, .rgEvents, 1), (0x1144, .rgEvents, 2), (0x1145, .rgEvents, 3),
  (0x1146, .rgEvents, 4), (0x1182, .rgEvents, 5), (0x2141, .enEvents, 0), (0x2142, .enEvents, 1), (0x2143, .enEvents, 2),
  (0x2181, .enEvents, 3), (0x2145, .enEvents, 4), (0x3441, .pdEvents, 0), (0x3442, .pdEvents, 2), (0x3481, .pdEvents, 3),
  (0x3443, .pdEvents, 4), (0x3241, .plEvents, 0), (0x3246, .plEvents, 2), (0x3245, .plEvents, 3), (0x3041, .esEvents, 0),
  (0x3042, .esEvents, 1), (0x3044, .esEvents, 2), (0x3081, .esEvents, 3)]

/-- Data items packed from bit 0 upward in order, the last cut at 48 bits (17 R483). An item is its width and value (assumption log 15). -/
def packData (items : List (Nat × Nat)) : Nat :=
  (items.foldl (fun (p : Nat × Nat) i => (p.1 + (i.2 % 2 ^ i.1) * 2 ^ p.2, p.2 + i.1)) (0, 0)).1 % 2 ^ 48

/-- The host-view block of an event's subsystem (00 R18). -/
def blockOf (code : Nat) : Nat := 8 * (code / 4096) + (code / 256) % 16

/-- The octets of an event record (17 R482). -/
def EvRec.octets (r : EvRec) : List Byte := toLE 2 r.code ++ toLE 6 r.data ++ toLE 8 r.tick

/-- The records a queue's buffer holds. -/
def Ctl.qbuf (c : Ctl) (q : Nat) : List EvRec := (aGet c.hi.buf q).getD []

/-- One record into one queue (17 R484): it leaves at once while the host ring is disabled, waits in the buffer of 256 while it is
enabled, and is discarded and counted when the buffer is full (01 R32; assumption log 16, 64; assumption log 64). -/
def Ctl.enqueue (c : Ctl) (q : Nat) (r : EvRec) : Ctl :=
  if c.reg .hiEqCfg q 0 = 0 then c
  else if (c.qbuf q).length < 256 then { c with hi := { c.hi with buf := aSet c.hi.buf q (c.qbuf q ++ [r]) } }
  else
    let c := (c.incE (ekey 0x5310 (q + 1))).addReg .hiEqDrops q 0 16 1
    { c with hi := { c.hi with dropCount := aSet c.hi.dropCount q ((aGet c.hi.dropCount q).getD 0 + 1) } }

/-- A record offered to the EVENTS subscriptions of its two queues (16 R464, 17 R484). -/
def Ctl.offer (c : Ctl) (b : Nat) (r : EvRec) : Ctl :=
  let one := fun (u : Sub) => if u.kind = 3 && (u.queue = b || u.queue = 64 + b) then { u with recs := u.recs ++ [r] } else u
  { c with dy := { c.dy with sessions := c.dy.sessions.map (fun x => { x with subs := x.subs.map one }) } }

/-- The IRQ pin of a block asserts (17 R490). -/
def Ctl.raiseIrq (c : Ctl) (b : Nat) : Ctl :=
  let p := c.e (ekey 0x5311 (b + 1))
  if p > 7 then c else
  let c := if c.irq.testBit p then c else c.emit { kind := .irq, a := p, b := 1 }
  let c := { c with irq := c.irq ||| 2 ^ p }
  c.setE 0x530005 c.irq

/-- A record into the log: a ring of 4,096 (20 R564). The next SEQ is saved at every 1,024th record and with
every record of FAULT_HISTORY, which CP-B copies there, a stopped one when it runs again (R549; assumption log 85); neither is written once MRAM
writing has stopped (18 R501). -/
def Ctl.logPut (c : Ctl) (r : EvRec) (cls outcome window : Nat) (hist : Bool) : Ctl :=
  let waits := hist && !c.bt.mramStopped && !c.cpbUp
  let hist := hist && !c.bt.mramStopped && c.cpbUp
  let l : LogRec := ⟨r, c.fm.nextSeq, c.e 0x700007, cls, outcome, window, c.e 0x150001⟩
  let lg := (c.fm.log ++ [l]).drop ((c.fm.log.length + 1) - 4096)
  let nxt := c.fm.nextSeq + 1
  let saved := if hist || (c.fm.nextSeq % 1024 = 0 && !c.bt.mramStopped) then nxt else c.fm.savedSeq
  let h := if hist then (c.fm.history ++ [l]).drop ((c.fm.history.length + 1) - 64) else c.fm.history
  { c with fm := { c.fm with log := lg, nextSeq := nxt, savedSeq := saved, history := h, histWait := if waits then c.fm.histWait ++ [l] else c.fm.histWait } }

/-- CP-B copies the records that have waited for it (20 R549, R564; assumption log 85). -/
def Ctl.histCopy (c : Ctl) : Ctl :=
  if c.fm.histWait.isEmpty || c.bt.mramStopped then c else
  let h := c.fm.history ++ c.fm.histWait
  { c with fm := { c.fm with history := h.drop (h.length - 64), histWait := [], savedSeq := c.fm.nextSeq } }

/-- The entries of the log after a record of number `seq` (20 R569). -/
def Ctl.logCount (c : Ctl) (seq : Nat) : Ctl :=
  ((c.addE 0x700001 1).setE 0x700003 seq).setE 0x700002 ((c.fm.log.head?.map LogRec.seq).getD 0)

/-- A record into the log, and the entries that show it (assumption log 84). -/
def Ctl.logAdd (c : Ctl) (r : EvRec) (cls outcome window : Nat) (hist : Bool) : Ctl :=
  (c.logPut r cls outcome window hist).logCount c.fm.nextSeq

/-- The event register takes the event's bit. -/
def Ctl.eventBit (c : Ctl) (code : Nat) : Ctl :=
  match eventBits.find? (fun p => p.1 = code) with
  | some p => c.setReg p.2.1 0 p.2.2 1
  | none => c

/-- A record goes to the subscribers, the queues of both functions, the IRQ pin and the event register (17 R481 to R484, 01 R32). -/
def Ctl.tell (c : Ctl) (code : Nat) (r : EvRec) : Ctl :=
  let b := blockOf code
  (((((c.offer b r).enqueue b r).enqueue (64 + b) r).raiseIrq b).eventBit code)

/-- A record goes to the fault sequencer or the log (20 R549, R564). A fault waits for the fault sequencer, which logs it with its class, and so
does RING_LINK_DOWN, which R550 names under class 10; COMPOUND_FAULT and FLIP_WATCHDOG are the sequencer's own (assumption log 14). -/
def Ctl.sequence (c : Ctl) (code : Nat) (r : EvRec) : Ctl :=
  let low := code % 256
  if (low ≥ 0xC0 || code = 0x1182) && code ≠ 0x05C1 && code ≠ 0x05C3 then { c with fm := { c.fm with reports := c.fm.reports ++ [{ ev := r, at_ := c.up }] } }
  else if low ≥ c.e 0x700005 || code / 256 = 5 || code = 0x3141 then
    c.logAdd r 0 0 (if code = 0x0502 then r.data / 2 ^ 32 else 0) (code = 0x0541 || decide (low ≥ 0xC0))
  else c

/-- One event is posted at the Tick. -/
def Ctl.postOne (c : Ctl) (code : Nat) (items : List (Nat × Nat)) : Ctl :=
  let r : EvRec := ⟨code, packData items, c.now⟩
  (c.tell code r).sequence code r

/-- QUEUE_DROPS (17 R492): the records that a queue has dropped and not reported, at most once per second per queue (assumption log 16). -/
def Ctl.postDrops (c : Ctl) (q : Nat) : Ctl :=
  let n := (aGet c.hi.dropCount q).getD 0
  let due := match aGet c.hi.dropPosted q with
    | some t => decide (c.up ≥ t + tS 1)
    | none => true
  if n = 0 || !due then c
  else ({ c with hi := { c.hi with dropCount := aDel c.hi.dropCount q, dropPosted := aSet c.hi.dropPosted q c.up } }).postOne 0x4342 [(8, q), (32, n)]

/-- An event is posted; QUEUE_DROPS follows where a queue of its block has dropped records (assumption log 14). -/
def Ctl.post (c : Ctl) (code : Nat) (items : List (Nat × Nat)) : Ctl :=
  let b := blockOf code
  ((c.postOne code items).postDrops b).postDrops (64 + b)

/-- A fault of one block of a table, which its data do not name (20 R547; assumption log 102). -/
def Ctl.postBlock (c : Ctl) (code : Nat) (items : List (Nat × Nat)) (block : Nat) : Ctl :=
  let n := c.fm.reports.length
  let c := c.post code items
  { c with fm := { c.fm with reports := c.fm.reports.modify n (fun r => { r with block := block }) } }

/-! ### DRAM -/

/-- What an unlisted address reads as: 0, since the start zero-fills DRAM (14 R405; assumption log 7). -/
def memDefault : Byte := 0

/-- The octet at an address (assumption log 7). -/
def Mem.get (m : Mem) (a : Nat) : Byte :=
  match m.dram.find? (fun p => p.1 = a) with
  | some p => p.2
  | none => memDefault

/-- One octet stored in the canonical list. -/
def cellSet : List Host.Cell → Nat → Byte → List Host.Cell
  | [], a, b => if b = memDefault then [] else [(a, b)]
  | (a', b') :: m, a, b =>
    if a < a' then (if b = memDefault then (a', b') :: m else (a, b) :: (a', b') :: m)
    else if a = a' then (if b = memDefault then m else (a, b) :: m)
    else (a', b') :: cellSet m a b

/-- One octet stored. -/
def Mem.set (m : Mem) (a : Nat) (b : Byte) : Mem := { m with dram := cellSet m.dram a b }

/-- Octets read from an address on. -/
def Mem.read (m : Mem) (a : Nat) : Nat → List Byte
  | 0 => []
  | n + 1 => m.get a :: m.read (a + 1) n

/-- Octets stored from an address on. -/
def Mem.write (m : Mem) (a : Nat) : List Byte → Mem
  | [] => m
  | b :: bs => (m.set a b).write (a + 1) bs

/-- The 64-octet bursts that a range touches. -/
def burstsOf (a n : Nat) : List Nat := if n = 0 then [] else (List.range ((a + n - 1) / 64 - a / 64 + 1)).map (· + a / 64)

/-- The flipped bits of a burst. -/
def Mem.errOf (m : Mem) (b : Nat) : Nat := (aGet m.errs b).getD 0

/-- A read of a burst is uncorrectable: it comes back poisoned (14 R408, R410, R411; assumption log 38). -/
def Mem.bad (m : Mem) (b : Nat) : Bool := burstRead (m.errOf b) = .bad || aGet m.link b = some 3

/-- A range holds a burst that reads poisoned (14 R410). -/
def Mem.poisoned (m : Mem) (a n : Nat) : Bool := (burstsOf a n).any m.bad

/-- The bits of a burst that differ become a given set: the entry goes where none is left. -/
def Mem.setErr (m : Mem) (b mask : Nat) : Mem :=
  { m with errs := if mask = 0 then aDel m.errs b else aSet m.errs b mask }

/-- Data bits of a burst invert for good. -/
def Mem.invert (m : Mem) (b mask : Nat) : Mem :=
  (bitsOf 512 mask).foldl (fun m i => m.set (64 * b + i / 8) (m.get (64 * b + i / 8) ^^^ byteOf (2 ^ (i % 8)))) m

/-- A bit of a burst or of its check word flips. Flips that the code takes for another codeword leave that codeword's data. -/
def Mem.flip (m : Mem) (b i : Nat) : Mem :=
  let mask := m.errOf b ^^^ 2 ^ (i % 528)
  match burstRead mask with
  | .clean => (m.invert b mask).setErr b 0
  | .fixed k => (m.invert b (mask ^^^ 2 ^ k)).setErr b (2 ^ k)
  | .bad => m.setErr b mask

/-- One thing befalls DRAM (assumption log 13). -/
def Mem.befalls (m : Mem) : DramErr → Mem
  | .flip b i => m.flip b i
  | .link b => { m with link := aSet m.link b 1 }
  | .fail b again => { m with link := aSet m.link b (if again then 3 else 2) }

/-- A number put into a rising list. -/
def insertRising (l : List Nat) (n : Nat) : List Nat :=
  if l.contains n then l else (l.filter (· < n)) ++ n :: (l.filter (· > n))

/-- The canonical form of the DRAM list. -/
def cellsWf : List Host.Cell → Bool
  | [] => true
  | [(_, b)] => decide (b ≠ memDefault)
  | (a, b) :: (a', b') :: m => decide (b ≠ memDefault) && decide (a < a') && cellsWf ((a', b') :: m)

/-- A strictly rising list. -/
def rising : List Nat → Bool
  | [] => true
  | [_] => true
  | a :: b :: l => decide (a < b) && rising (b :: l)

/-- The form of memory that every operation keeps (assumption log 7). -/
def Mem.wf (m : Mem) : Bool := cellsWf m.dram && rising (m.errs.map Prod.fst) && m.errs.all (fun e => e.2 ≠ 0)

end Sys2Proof.Machine
end

