-- ==== Sys2Proof/Machine/FaultOps.lean ====
section
/-! DEFINITION. The fault sequencer's own operations: classification (20 R550), recovery windows and compound faults (R554, R555),
safe states (R556, R558), units out of service (R560). The orders that reach other subsystems are in Faults.lean. -/
namespace Sys2Proof.Machine

/-- Items of event data by width (17 R483; assumption log 15). -/
def i8 (n : Nat) : Nat × Nat := (8, n)
/-- A 16-bit item (assumption log 15). -/
def i16 (n : Nat) : Nat × Nat := (16, n)
/-- Change the image manager's part. -/
def Ctl.setXz (c : Ctl) (f : XzState → XzState) : Ctl := { c with xz := f c.xz }

/-- A 32-bit item (assumption log 15). -/
def i32 (n : Nat) : Nat × Nat := (32, n)
/-- A 40-bit item (assumption log 15). -/
def i40 (n : Nat) : Nat × Nat := (40, n)

/-- The class of a fault report (20 R550); 0 for the manager's own reports that no class names. -/
def faultClass (code data : Nat) : Nat :=
  if code = 0x40C1 then 1
  else if code = 0x30C3 ∨ code = 0x33C1 ∨ code = 0x31C1 then 2
  else if code = 0x40C4 then (if data % 256 = 2 ∨ data % 256 = 3 then 2 else 3)
  else if code = 0x20C1 ∨ code = 0x30C2 ∨ code = 0x32C1 ∨ code = 0x35C1 then 3
  else if code = 0x30C1 then 4
  else if code = 0x20C2 then 5
  else if code = 0x21C1 ∨ code = 0x41C1 ∨ code = 0x42C1 then 6
  else if code = 0x05D1 ∨ code = 0x05D2 then 7
  else if code = 0x05D3 then 8
  else if code = 0x10C1 then (if data % 256 < 18 then 9 else if data % 256 < 50 then 12 else 24)
  else if code = 0x1182 then 10
  else if code = 0x11C1 then 11
  else if code = 0x34C1 then 12
  else if code = 0x13C1 then 13
  else if code = 0x13C2 then 14
  else if code = 0x03C2 ∨ code = 0x03C3 then 15
  else if code = 0x04C1 then 16
  else if code = 0x02C3 then 17
  else if code = 0x05C2 then 18
  else if code = 0x05C4 then 19
  else if code = 0x01C2 ∨ code = 0x44C1 then 20
  else if code = 0x02C4 then 21
  else if code = 0x02C1 ∨ code = 0x03C1 ∨ code = 0x40C2 then 22
  else if code = 0x01C1 ∨ code = 0x02C2 ∨ code = 0x40C3 then 23
  else 0

/-- Classes that open a recovery window (20 R550, column Window). -/
def opensWindow (cls : Nat) : Bool := [1, 2, 3, 4, 5, 9, 10, 11, 12, 17, 18].contains cls

/-- The outcome that a class records (20 R547, R550): 1 MASKED, 2 RECOVERED, 3 DEGRADED, 4 SAFE_STATE. -/
def classOutcome (cls code holdoverAction : Nat) : Nat :=
  if [7, 13, 19].contains cls then 1
  else if [1, 2, 3, 9, 17, 18].contains cls then 2
  else if cls = 14 then (if holdoverAction = 0 then 1 else 4)
  else if cls = 15 then (if code = 0x03C3 then 3 else 1)
  else if cls = 21 then 4
  else if cls = 22 then (if code = 0x40C2 then 1 else 4)
  else if [4, 5, 6, 8, 10, 11, 12, 16, 20, 24].contains cls then 3
  else 0

/-- The fault unit of a report: the class's unit number, from its data and the block they do not name. Ring lanes, ring links and a ring
without spare count by port, 0 East and 1 West, so a LINK_REDUCED or a RING_LINK_DOWN follows the lane of its own port (20 R547, R550; assumption log 102). -/
def faultUnit (cls code data block : Nat) : Nat :=
  if cls = 9 then data % 256
  else if cls = 10 ∨ cls = 11 then 0x100 + data % 256
  else if cls = 12 then (if code = 0x34C1 then data % 256 else data % 256 - 18)
  else if cls = 1 then data % 2 ^ 32
  else (code * 2 ^ 48 + data % 2 ^ 48) * 2 ^ 40 + block

/-- The port of a ring lane index, or of a unit that is a port. -/
def unitPort (unit_ : Nat) : Nat := if unit_ ≥ 0x100 then unit_ % 256 else if unit_ < 9 then 0 else 1

/-- A report belongs to the fault that opened the window: the same unit, or a follower on the same ring port (20 R547). `link`: another lane
of its port has failed within the 20 µs before it, so they form one fault of class 10. -/
def sameFault (w : Window) (cls unit_ : Nat) (link : Bool) : Bool :=
  (w.cls = cls && w.unit_ = unit_) ||
  ([9, 10, 11].contains w.cls && [9, 10, 11].contains cls && unitPort w.unit_ = unitPort unit_ && (unit_ ≥ 0x100 || w.unit_ ≥ 0x100 || link))

/-! ### Safe states -/

/-- The safe state in force: the highest of the causes that hold (20 R556). -/
def FmState.safe (f : FmState) : Nat := f.causes.foldl (fun m x => max m x.state) 0

/-- The cause in force: the first of the highest state. -/
def FmState.inForce (f : FmState) : Option SafeCause := f.causes.find? (fun x => x.state = f.safe)

/-- SAFE_STATE and SAFE_CAUSE show what is in force; a change is reported (20 R568). -/
def Ctl.settleSafe (c : Ctl) (was : Nat) (wasCode : Nat) : Ctl :=
  let s := c.fm.safe
  let code := (c.fm.inForce.map SafeCause.code).getD 0
  let c := (c.setE 0x150001 s).setE 0x150002 code
  let c := if s < was then c.post 0x0501 [i8 was, i16 wasCode] else c
  if s ≠ 0 ∧ s ≠ was then c.post 0x0541 [i8 s, i16 code] else c

/-- A cause of a safe state begins (01 R33, 20 R556). -/
def Ctl.enterSafe (c : Ctl) (kind : SafeKind) (code state arg : Nat) : Ctl :=
  if state = 0 then c else
  let was := c.fm.safe
  let wasCode := (c.fm.inForce.map SafeCause.code).getD 0
  let c := { c with fm := { c.fm with causes := c.fm.causes.filter (fun (x : SafeCause) => !(x.kind = kind && x.arg = arg)) ++ ([⟨kind, code, state, c.up, arg⟩] : List SafeCause), cleared := false } }
  c.settleSafe was wasCode

/-- Causes that the test names end (20 R558). -/
def Ctl.endSafe (c : Ctl) (f : SafeCause → Bool) : Ctl :=
  if !c.fm.causes.any f then c else
  let was := c.fm.safe
  let wasCode := (c.fm.inForce.map SafeCause.code).getD 0
  let c := { c with fm := { c.fm with causes := c.fm.causes.filter (fun x => !f x) } }
  c.settleSafe was wasCode

/-- A safe state is in force. -/
def Ctl.isSafe (c : Ctl) : Bool := decide (c.fm.safe ≠ 0)

/-! ### Windows -/

/-- The recovery time of a class (20 R550), in µs (assumption log 102). -/
def recoveryUs (cls : Nat) : Nat :=
  if cls = 1 then 5 else if [2, 4, 5].contains cls then 10 else if cls = 9 then 250 else if cls = 17 then 300 else if cls = 18 then 200 else 0

/-- The settle time of R558 starts again when the recovery of a fault is over (assumption log 102). -/
def Ctl.settleAgain (c : Ctl) (cls at_ : Nat) : Ctl := { c with fm := { c.fm with settleFrom := max c.fm.settleFrom (at_ + tUs (recoveryUs cls)) } }

/-- A new recovery window opens (20 R554). -/
def Ctl.newWindow (c : Ctl) (cls unit_ code at_ : Nat) : Ctl × Nat × Option Nat :=
  let n := c.fm.windowCount + 1
  let w : Window := { num := n, start := at_, stop := at_ + tUs 500, cls := cls, unit_ := unit_, code := code, compound := false }
  ((({ c with fm := { c.fm with windowCount := n, window := some w } }).setE 0x15000E 1).settleAgain cls at_, n, none)

/-- Opens or merges the recovery window for a report (20 R554, R555). Answers the state, the window's number and, for a fault second to
the window's first, the first one's code (assumption log 102). -/
def Ctl.openWindow (c : Ctl) (cls unit_ code at_ : Nat) (link : Bool) : Ctl × Nat × Option Nat :=
  if !opensWindow cls then (c, 0, none) else
  match c.fm.window with
  | none => c.newWindow cls unit_ code at_
  | some w =>
    if w.stop ≤ at_ then c.newWindow cls unit_ code at_
    else if sameFault w cls unit_ link then
      let w' := { w with cls := if cls = 9 && w.cls = 9 && w.unit_ ≠ unit_ then 10 else w.cls }
      ({ c with fm := { c.fm with window := some w' } }, w.num, none)
    else
      let w' := { w with stop := max w.stop (at_ + tUs 500), compound := true }
      (({ c with fm := { c.fm with window := some w' } }).settleAgain cls at_, w.num, some w.code)

/-! ### Units out of service -/

/-- Key of a unit: subsystem × 256 + unit, as UNIT_RESTORE names it (20 R569; assumption log 18). -/
def unitKey (subsys unit_ : Nat) : Nat := subsys * 256 + unit_

/-- A unit goes OUT or HELD: how often since reset decides whether a self-test may return it (20 R560). -/
def Ctl.unitOut (c : Ctl) (subsys unit_ : Nat) : Ctl :=
  let k := unitKey subsys unit_
  { c with fm := { c.fm with unitOuts := aSet c.fm.unitOuts k ((aGet c.fm.unitOuts k).getD 0 + 1), outNow := insertRising c.fm.outNow k } }

/-- A unit is OUT. -/
def Ctl.isOut (c : Ctl) (subsys unit_ : Nat) : Bool := c.fm.outNow.contains (unitKey subsys unit_)

/-- A unit is back in service. -/
def Ctl.unitBack (c : Ctl) (subsys unit_ : Nat) : Ctl :=
  { c with fm := { c.fm with outNow := c.fm.outNow.filter (· ≠ unitKey subsys unit_) } }

/-! ### The log as it reads -/

/-- The 32 octets of a log record (20 R565). -/
def LogRec.octets (l : LogRec) : List Byte :=
  let b := l.ev.octets ++ toLE 4 l.seq ++ toLE 2 l.start ++ toLE 1 l.cls ++ toLE 1 l.outcome ++ toLE 2 l.window ++ toLE 1 l.safe ++ [0]
  b ++ toLE 4 (crc32 b)

/-- LOG_RECORD sub-index k, 1 to 64 (20 R566). -/
def Ctl.logRecord (c : Ctl) (k : Nat) : List Byte :=
  let sel := c.e 0x700004
  let r := if sel = 0 then (c.fm.log.drop (c.fm.log.length - 64))[k - 1]? else c.fm.log.find? (fun l => l.seq = sel + k - 1)
  match r with
  | some l => l.octets
  | none => List.replicate 32 0

/-- FAULT_HISTORY sub-index k, oldest first (20 R566). -/
def Ctl.histRecord (c : Ctl) (k : Nat) : List Byte :=
  match c.fm.history[k - 1]? with
  | some l => l.octets
  | none => List.replicate 32 0

end Sys2Proof.Machine
end

