-- ==== Sys2Proof/Machine/CrcUnits.lean ====
section
/-! DEFINITION. The eight CRC units (15 R434 to R442). A unit's registers stand in its dictionary entries. -/
namespace Sys2Proof.Machine

/-- A CK_STATUS bit of a unit. -/
def Ctl.ckBit (c : Ctl) (u b : Nat) : Bool := bit (c.ea 0x5219 u) b

/-- Set or clear a CK_STATUS bit of a unit. -/
def Ctl.setCkBit (c : Ctl) (u b : Nat) (v : Bool) : Ctl := c.setEa 0x5219 u (setBit (c.ea 0x5219 u) b v)

/-- WIDTH, REFIN and REFOUT, SNOOP mode, of a unit. -/
def Ctl.ckWidth (c : Ctl) (u : Nat) : Nat := bits (c.ea 0x5210 u) 6 0
/-- REFIN. -/
def Ctl.ckRefin (c : Ctl) (u : Nat) : Bool := bit (c.ea 0x5210 u) 8
/-- REFOUT. -/
def Ctl.ckRefout (c : Ctl) (u : Nat) : Bool := bit (c.ea 0x5210 u) 9
/-- SNOOP mode. -/
def Ctl.ckSnoop (c : Ctl) (u : Nat) : Bool := bit (c.ea 0x5210 u) 12

/-- A 64-bit value of a unit: bits above WIDTH read as 0 (15 R434). -/
def Ctl.ckVal (c : Ctl) (idx u : Nat) : Nat := c.ea idx u % 2 ^ c.ckWidth u

/-- RESULT as VALUE gives it (15 R434; assumption log 32). -/
def Ctl.ckResult (c : Ctl) (u : Nat) : Nat := crcOut (c.ckWidth u) (c.ckRefout u) (c.ckVal 0x5213 u) (c.ckVal 0x5215 u)

/-- RESULT follows VALUE in REGISTER mode; in SNOOP mode it is latched when a run stops (15 R438; assumption log 32). -/
def Ctl.ckFollow (c : Ctl) (u : Nat) : Ctl := if c.ckSnoop u then c else c.setEa 0x5216 u (c.ckResult u)

/-- Octets folded into VALUE. -/
def Ctl.ckFold (c : Ctl) (u : Nat) (bs : List Byte) : Ctl :=
  c.setEa 0x5215 u (crcFold (c.ckWidth u) (c.ckVal 0x5211 u) (c.ckRefin u) (c.ckVal 0x5215 u) bs)

/-- RESULT compared with EXPECT (15 R438): MATCH or MISMATCH, CRC_MISMATCH on a difference. -/
def Ctl.ckCompare (c : Ctl) (u : Nat) : Ctl :=
  if c.ckVal 0x5216 u = c.ckVal 0x5214 u then c.setCkBit u 2 true
  else ((c.setCkBit u 2 false).setCkBit u 3 true).post 0x4241 [i8 u]

/-- A snoop run stops (15 R438; assumption log 32). -/
def Ctl.ckStopRun (c : Ctl) (u : Nat) : Ctl :=
  let c := { c with cx := { c.cx with stopping := c.cx.stopping.filter (· ≠ u) } }
  let c := ((c.setEa 0x5216 u (c.ckResult u)).setCkBit u 1 false).setCkBit u 7 true
  let c := c.post 0x4201 [i8 u]
  if bit (c.ea 0x5210 u) 14 then c.ckCompare u else c

/-- The unit takes no command: it is OUT, or the image manager holds it (15 R440, R442). -/
def Ctl.ckHeld (c : Ctl) (u : Nat) : Bool := c.ckBit u 9 || c.ckBit u 8

/-- A refused write to a unit (15 R435, R440). -/
def Ctl.ckRefuse (c : Ctl) (u : Nat) : Ctl := if c.ckBit u 9 then c else c.setCkBit u 5 true

/-- SNOOP_POINT of a unit. -/
def Ctl.ckPoint (c : Ctl) (u : Nat) : Nat := bits (c.ea 0x5210 u) 19 16

/-- An item passes a snoop point (15 R438): it is kept, until it is folded, where a unit looks at that point (assumption log 123). -/
def Ctl.snoopPass (c : Ctl) (point tag : Nat) (bs : List Byte) : Ctl :=
  if (List.range 8).any (fun u => c.ckPoint u = point && (c.ckBit u 1 || c.ckBit u 8)) then
    { c with cx := { c.cx with passed := c.cx.passed ++ [⟨point, tag, bs⟩] } }
  else c

/-- An item is passing a unit's snoop point now (assumption log 123). -/
def Ctl.ckInItem (c : Ctl) (u : Nat) : Bool :=
  c.cx.passed.any (fun r => r.point = c.ckPoint u)

/-- START (15 R435). The run begins at the next item (R438): what has passed before is no more looked at, where no other unit is armed there (assumption log 123). -/
def Ctl.ckStart (c : Ctl) (u : Nat) : Ctl :=
  if c.ckHeld u then c.ckRefuse u else
  let others := (List.range 8).any (fun v => v ≠ u && c.ckBit v 1 && c.ckPoint v = c.ckPoint u)
  let c := { c with cx := { c.cx with
    stopping := c.cx.stopping.filter (· ≠ u), passed := c.cx.passed.filter (fun r => others || r.point ≠ c.ckPoint u) } }
  let c := ((c.setEa 0x5215 u (c.ckVal 0x5212 u)).setEa 0x521A u 0).setEa 0x521B u 0
  let c := c.setCkBit u 1 (c.ckSnoop u)
  c.ckFollow u

/-- STOP (15 R438): with SNOOP_COUNT 0, at the end of the item in progress, at once when none is (assumption log 33). -/
def Ctl.ckStop (c : Ctl) (u : Nat) : Ctl :=
  if c.ckHeld u then c.ckRefuse u else
  if !c.ckBit u 1 || c.reg .ckSnoopCount u 0 ≠ 0 then c
  else if c.ckInItem u then { c with cx := { c.cx with stopping := insertRising c.cx.stopping u } }
  else c.ckStopRun u

/-- COMPARE (15 R445). -/
def Ctl.ckCompareCmd (c : Ctl) (u : Nat) : Ctl := if c.ckHeld u then c.ckRefuse u else c.ckCompare u

/-- A write of CK_CTRL, bit by bit: START, STOP, COMPARE (15 R445). -/
def Ctl.ckCtrlWrite (c : Ctl) (u v : Nat) : Ctl :=
  ((c.when (bit v 0) (·.ckStart u)).when (bit v 1) (·.ckStop u)).when (bit v 2) (·.ckCompareCmd u)

/-- Octets fed in REGISTER mode (15 R436); in SNOOP mode they are ignored and set WRONG_MODE. -/
def Ctl.ckFeed (c : Ctl) (u : Nat) (bs : List Byte) : Ctl :=
  if c.ckHeld u then c.ckRefuse u
  else if c.ckSnoop u then c.setCkBit u 6 true
  else (c.ckFold u bs).ckFollow u

/-- A write of CK_CFG or of a parameter or VALUE (entry indices 0x5210 to 0x5215), only while idle but for EXPECT (15 R435, R437). -/
def Ctl.ckWrite (c : Ctl) (idx u v : Nat) : Ctl :=
  if c.ckHeld u then c.ckRefuse u
  else if idx ≠ 0x5214 && (c.ckBit u 1 || c.ckBit u 0) then c.ckRefuse u
  else if idx = 0x5210 then
    let old := c.ea 0x5210 u
    let w := if bits v 6 0 = 0 ∨ bits v 6 0 > 64 then bits old 6 0 else bits v 6 0
    let p := if bits v 19 16 > 11 then bits old 19 16 else bits v 19 16
    let n := bits v 31 24 * 2 ^ 24 + p * 2 ^ 16 + b2n (bit v 14) * 2 ^ 14 + b2n (bit v 12) * 2 ^ 12 + bits v 9 8 * 2 ^ 8 + w
    (c.setEa 0x5210 u n).ckFollow u
  else (c.setEa idx u (v % 2 ^ c.ckWidth u)).ckFollow u

/-- A write of VALUE restores a saved register (15 R437). -/
def Ctl.ckValueWrite (c : Ctl) (u v : Nat) : Ctl := c.ckWrite 0x5215 u v

/-- An item is one the unit's SNOOP_ARG asks for (15 R438). `tag` says of a ring slice that it is local (1); of a LOAD packet its lane,
with 0x80 for BX; of a DMA transfer its direction; of a compression job 1 DEFLATE, 2 INFLATE. -/
def snoopTakes (point arg tag : Nat) : Bool :=
  if point = 0 ∨ point = 1 then !bit arg 0 || bit tag 0
  else if point = 4 then arg % 32 = tag % 32 && (!bit arg 7 || bit tag 7)
  else if point = 6 then arg % 2 = tag % 2
  else if point = 9 ∨ point = 10 then (!bit arg 0 || tag = 1) && (!bit arg 1 || tag = 2)
  else true

/-- One unit sees an item (15 R438 to R440; assumption log 123). -/
def Ctl.ckItem (c : Ctl) (point tag : Nat) (bs : List Byte) (overflow : Bool) (u : Nat) : Ctl :=
  let cfg := c.ea 0x5210 u
  if c.ckBit u 9 || c.ckPoint u ≠ point then c
  else if c.ckBit u 8 then c.incEa 0x521B u
  else if !c.ckBit u 1 || !snoopTakes point (bits cfg 31 24) tag then c
  else if overflow then
    let c := (c.incEa 0x521B u).setCkBit u 4 true
    let c := c.post 0x4242 [i8 u, i32 (c.ea 0x521B u)]
    if c.cx.stopping.contains u then c.ckStopRun u else c
  else
    let c := (c.ckFold u bs).setEa 0x521A u (satAdd 32 (c.ea 0x521A u) 1)
    if c.cx.stopping.contains u || (c.reg .ckSnoopCount u 0 ≠ 0 && c.ea 0x521A u = c.reg .ckSnoopCount u 0) then c.ckStopRun u else c

/-- Every unit armed at a point folds an item (15 R438, R439; assumption log 123). -/
def Ctl.snoopFold (c : Ctl) (r : SnoopRec) (overflow : Bool) : Ctl :=
  (List.range 8).foldl (fun c u => c.ckItem r.point r.tag r.bytes overflow u) c

/-- SNOOP_ITEM (15 R438, R439): the units take the oldest item that has passed the point and is not folded; `overflow`: their buffer
overflowed on it (assumption log 123). -/
def Ctl.snoopItem (c : Ctl) (point : Nat) (overflow : Bool) : Ctl :=
  match c.cx.passed.find? (fun r => r.point = point) with
    | none => c
    | some r => { c with cx := { c.cx with passed := c.cx.passed.erase r } }.snoopFold r overflow

/-- CRC_UNIT_FAULT (15 R442): the unit stops and goes OUT. -/
def Ctl.ckFault (c : Ctl) (u : Nat) : Ctl :=
  (((c.setCkBit u 1 false).setCkBit u 9 true).unitOut 0x42 u).post 0x42C1 [i8 u]

/-- A unit is back in service (R442). -/
def Ctl.ckBack (c : Ctl) (u : Nat) : Ctl := c.setCkBit u 9 false

/-- The entry indices of a unit's parameters and VALUE. -/
def ckSavedIdx : List Nat := [0x5210, 0x5211, 0x5212, 0x5213, 0x5215]

/-- The image manager takes unit 7, or gives it back (15 R440): its parameters and VALUE are saved and the CRC-32 parameters of 03 R72 put
in, the snoop point kept; at the end they are restored (assumption log 32). -/
def Ctl.ckOwner (c : Ctl) (held : Bool) : Ctl :=
  if held = c.ckBit 7 8 then c
  else if held then
    let old := ckSavedIdx.map (fun i => c.ea i 7)
    let c := { c with cx := { c.cx with saved7 := old } }
    let new := [old.getD 0 0 / 1024 * 1024 + 0x320, 0x04C11DB7, 0xFFFFFFFF, 0xFFFFFFFF, 0xFFFFFFFF]
    ((ckSavedIdx.zip new).foldl (fun c p => c.setEa p.1 7 p.2) c).setCkBit 7 8 true
  else
    let c := (ckSavedIdx.zip c.cx.saved7).foldl (fun c p => c.setEa p.1 7 p.2) c
    ({ c with cx := { c.cx with saved7 := [] } }).setCkBit 7 8 false

/-- CRC_START. -/
def execCrcStart (dt unit_ : Nat) (s : State) : Host.Outcome State Fault Refusal :=
  runC (fun c => (c.advance dt).when (decide (unit_ < 8)) (·.ckStart unit_)) s
/-- CRC_STOP. -/
def execCrcStop (dt unit_ : Nat) (s : State) : Host.Outcome State Fault Refusal :=
  runC (fun c => (c.advance dt).when (decide (unit_ < 8)) (·.ckStop unit_)) s
/-- CRC_COMPARE. -/
def execCrcCompare (dt unit_ : Nat) (s : State) : Host.Outcome State Fault Refusal :=
  runC (fun c => (c.advance dt).when (decide (unit_ < 8)) (·.ckCompareCmd unit_)) s
/-- CRC_FEED. -/
def execCrcFeed (dt unit_ : Nat) (bytes : List Byte) (s : State) : Host.Outcome State Fault Refusal :=
  runC (fun c => (c.advance dt).when (decide (unit_ < 8)) (·.ckFeed unit_ bytes)) s
/-- CRC_VALUE_WRITE. -/
def execCrcValueWrite (dt unit_ value : Nat) (s : State) : Host.Outcome State Fault Refusal :=
  runC (fun c => (c.advance dt).when (decide (unit_ < 8)) (·.ckValueWrite unit_ value)) s
/-- SNOOP_ITEM. -/
def execSnoopItem (dt point : Nat) (overflow : Bool) (s : State) : Host.Outcome State Fault Refusal :=
  runC (fun c => (c.advance dt).snoopItem point overflow) s
/-- CRC_UNIT_FAULT. -/
def execCrcUnitFault (dt unit_ : Nat) (s : State) : Host.Outcome State Fault Refusal :=
  runC (fun c => (c.advance dt).when (decide (unit_ < 8)) (·.ckFault unit_)) s

end Sys2Proof.Machine
end

