-- ==== Sys2Proof/Machine/Float.lean ====
section
/-! DEFINITION. IEEE 754 binary32 with round-to-nearest-even, no fused multiply-add (02 R55), on bit patterns kept as numbers. -/
namespace Sys2Proof.Machine

/-- A binary32 bit pattern. -/
abbrev F32 := Nat

/-- The NaN the arithmetic answers; the spec states no payload (assumption log 20). -/
def f32NaN : F32 := 0x7FC00000
/-- Infinity of a sign. -/
def f32Inf (neg : Bool) : F32 := if neg then 0xFF800000 else 0x7F800000

/-- Sign bit. -/
def f32Neg (x : F32) : Bool := x.testBit 31
/-- Exponent field. -/
def f32Exp (x : F32) : Nat := bits x 30 23
/-- Fraction field. -/
def f32Frac (x : F32) : Nat := bits x 22 0
/-- A NaN. -/
def f32IsNaN (x : F32) : Bool := f32Exp x = 255 && f32Frac x ≠ 0
/-- An infinity. -/
def f32IsInf (x : F32) : Bool := f32Exp x = 255 && f32Frac x = 0
/-- Finite. -/
def f32Finite (x : F32) : Bool := f32Exp x ≠ 255

/-- The significand of a finite value; the value is significand × 2^(scale). -/
def f32Man (x : F32) : Nat := if f32Exp x = 0 then f32Frac x else f32Frac x + 2 ^ 23
/-- The scale of a finite value. -/
def f32Scale (x : F32) : Int := if f32Exp x = 0 then -149 else (f32Exp x : Int) - 150

/-- Quotient by 2^k rounded to nearest, ties to even. -/
def rneShift (m k : Nat) : Nat :=
  let q := m >>> k
  let r := m % 2 ^ k
  if k = 0 then m
  else if 2 * r > 2 ^ k then q + 1
  else if 2 * r = 2 ^ k ∧ q % 2 = 1 then q + 1
  else q

/-- The binary32 nearest to (−1)^neg × m × 2^e, ties to even. -/
def f32Round (neg : Bool) (m : Nat) (e : Int) : F32 :=
  let s : Nat := if neg then 2 ^ 31 else 0
  if m = 0 then s else
  let l := Nat.log2 m
  -- exponent of the unit in the last place, not below that of the subnormals
  let u : Int := max ((l : Int) + e - 23) (-149)
  let q := if u ≥ e then rneShift m (u - e).toNat else m * 2 ^ (e - u).toNat
  -- rounding up may carry into the next power of two
  let (q, u) := if q ≥ 2 ^ 24 then (q / 2, u + 1) else (q, u)
  if q < 2 ^ 23 then s + q
  else
    let ex := u + 150
    if ex ≥ 255 then s + 0x7F800000 else s + ex.toNat * 2 ^ 23 + (q - 2 ^ 23)

/-- An integer as binary32 (02 R55: integer fields convert exactly before use; the fields' ranges allow it). -/
def f32OfInt (i : Int) : F32 := f32Round (decide (i < 0)) i.natAbs 0

/-- An integer times 2^e as binary32. -/
def f32OfScaled (i e : Int) : F32 := f32Round (decide (i < 0)) i.natAbs e

/-- Sign inverted. -/
def f32Negate (x : F32) : F32 := x ^^^ 2 ^ 31

/-- Product. -/
def f32Mul (a b : F32) : F32 :=
  let neg := f32Neg a != f32Neg b
  if f32IsNaN a || f32IsNaN b then f32NaN
  else if f32IsInf a || f32IsInf b then
    (if (f32Finite a && f32Man a = 0) || (f32Finite b && f32Man b = 0) then f32NaN else f32Inf neg)
  else f32Round neg (f32Man a * f32Man b) (f32Scale a + f32Scale b)

/-- Sum. -/
def f32Add (a b : F32) : F32 :=
  if f32IsNaN a || f32IsNaN b then f32NaN
  else if f32IsInf a then (if f32IsInf b && f32Neg a != f32Neg b then f32NaN else a)
  else if f32IsInf b then b
  else
    let e := min (f32Scale a) (f32Scale b)
    let va : Int := (f32Man a * 2 ^ (f32Scale a - e).toNat : Nat)
    let vb : Int := (f32Man b * 2 ^ (f32Scale b - e).toNat : Nat)
    let s := (if f32Neg a then -va else va) + (if f32Neg b then -vb else vb)
    if s = 0 then (if f32Neg a && f32Neg b then 2 ^ 31 else 0)
    else f32Round (decide (s < 0)) s.natAbs e

/-- Difference. -/
def f32Sub (a b : F32) : F32 := f32Add a (f32Negate b)

/-- The exact comparison of two values that are no NaN: a < b. -/
def f32Lt (a b : F32) : Bool :=
  if f32IsNaN a || f32IsNaN b then false else
  let key := fun (x : F32) => if f32Neg x then -((x - 2 ^ 31 : Nat) : Int) else (x : Int)
  decide (key a < key b)

/-- Held within bounds; a NaN stays. -/
def f32Clamp (lo hi x : F32) : F32 := if f32Lt x lo then lo else if f32Lt hi x then hi else x

/-- Floor of value × 2^k as an integer; a value that is not finite has none, and the answer is free. -/
def f32FloorScaled (k : Nat) (x : F32) : Int :=
  if !f32Finite x then Config.roundOf x else
  let e := f32Scale x + k
  let m : Int := f32Man x
  let m := if f32Neg x then -m else m
  if e ≥ 0 then m * 2 ^ e.toNat else m / (2 ^ (-e).toNat : Nat)

/-- Floor as an integer. -/
def f32Floor (x : F32) : Int := f32FloorScaled 0 x

/-- Value × 2^k rounded to the nearest integer, ties to even. -/
def f32RneScaled (k : Nat) (x : F32) : Int :=
  if !f32Finite x then Config.roundOf x else
  let e := f32Scale x + k
  let q : Nat := if e ≥ 0 then f32Man x * 2 ^ e.toNat else rneShift (f32Man x) (-e).toNat
  if f32Neg x then -(q : Int) else q

/-- Value 1 in binary32. -/
def f32One : F32 := 0x3F800000
/-- Value 0.5 in binary32. -/
def f32Half : F32 := 0x3F000000

/-- The binary32 nearest to (−1)^neg × n / d × 2^e, ties to even; `d` is not 0. -/
def f32RoundQ (neg : Bool) (n d : Nat) (e : Int) : F32 :=
  let k := 64 + Nat.log2 d
  let q := n * 2 ^ k / d
  f32Round neg (2 * q + (if n * 2 ^ k % d = 0 then 0 else 1)) (e - k - 1)

/-- A ratio of two numbers as binary32, as a decimal constant of the spec is. -/
def f32Ratio (n d : Nat) : F32 := f32RoundQ false n d 0

/-- Quotient. -/
def f32Div (a b : F32) : F32 :=
  let neg := f32Neg a != f32Neg b
  let zero := fun (x : F32) => f32Finite x && f32Man x = 0
  if f32IsNaN a || f32IsNaN b then f32NaN
  else if f32IsInf a then (if f32IsInf b then f32NaN else f32Inf neg)
  else if f32IsInf b then (if neg then 2 ^ 31 else 0)
  else if zero b then (if zero a then f32NaN else f32Inf neg)
  else f32RoundQ neg (f32Man a) (f32Man b) (f32Scale a - f32Scale b)

/-- Integer square root, rounded down, of a number below 2^(2 × `k`). -/
def isqrtW (k n : Nat) : Nat := (List.range k).foldl (fun r i => let t := r + 2 ^ (k - 1 - i); if t * t ≤ n then t else r) 0

/-- Square root, correctly rounded (07 R232); the argument is at least 0. -/
def f32Sqrt (x : F32) : F32 :=
  if f32IsNaN x || f32IsInf x || f32Man x = 0 then x else
  let odd := f32Scale x % 2 = 1
  let m := (if odd then 2 * f32Man x else f32Man x) * 2 ^ 40
  let e := (if odd then f32Scale x - 1 else f32Scale x) - 40
  let r := isqrtW 34 m
  f32Round false (2 * r + (if r * r = m then 0 else 1)) (e / 2 - 1)

/-- Absolute value. -/
def f32Abs (x : F32) : F32 := x % 2 ^ 31

end Sys2Proof.Machine
end

