-- ==== Sys2Proof/Machine/Values.lean ====
section
/-! DEFINITION. Values of entries as octets (16 R447), the ranges of the entry tables (16 R455 check 13), and the order in which an
entry's own table limits a value. -/
namespace Sys2Proof.Machine

/-- The value that octets spell for a type. -/
def valOf (ty : ETy) (bs : List Byte) : EVal := if ty.isOct then .oct bs else .num (ofLE bs)

/-- The octets of a value of a type (16 R447). -/
def EVal.octets (ty : ETy) : EVal → List Byte
  | .num n => toLE ty.size n
  | .oct b => b

/-- Continuation octets of UTF-8. -/
def utf8Tail (b : Byte) : Bool := decide (0x80 ≤ b.toNat) && decide (b.toNat < 0xC0)

/-- Octets are valid UTF-8; `fuel` bounds the number of characters. -/
def utf8Valid : Nat → List Byte → Bool
  | 0, bs => bs.isEmpty
  | _ + 1, [] => true
  | n + 1, b :: r =>
    let v := b.toNat
    if v < 0x80 then utf8Valid n r
    else if 0xC2 ≤ v ∧ v < 0xE0 then r.length ≥ 1 && (r.take 1).all utf8Tail && utf8Valid n (r.drop 1)
    else if 0xE0 ≤ v ∧ v < 0xF0 then
      let w := u8At r 0
      r.length ≥ 2 && (r.take 2).all utf8Tail && !(v = 0xE0 && decide (w < 0xA0)) && !(v = 0xED && decide (w ≥ 0xA0)) && utf8Valid n (r.drop 2)
    else if 0xF0 ≤ v ∧ v < 0xF5 then
      let w := u8At r 0
      r.length ≥ 3 && (r.take 3).all utf8Tail && !(v = 0xF0 && decide (w < 0x90)) && !(v = 0xF4 && decide (w ≥ 0x90)) && utf8Valid n (r.drop 3)
    else false

/-- What the type itself refuses with RANGE (16 R447). -/
def typeRange (ty : ETy) (v : EVal) : Bool :=
  match ty, v with
  | .bool, .num n => decide (n < 2)
  | .f32, .num n => !f32IsNaN n
  | .string, .oct b => utf8Valid (b.length + 1) b
  | _, _ => true

/-- Ranges that a table states as a relation between the parts of a value: multiples, sizes and the divider with its phase. -/
def partsRange (k n : Nat) : Bool :=
  let r := rowKey k
  let idx := k / 256
  if r = 0x300101 || idx = 0x4200 && k % 256 = 4 || k = 0x310001 then decide (n % 4096 = 0)
  else if r = 0x600003 || idx = 0x421A then decide (n % 8192 = 0)
  else if idx = 0x4215 || idx = 0x4216 then decide (n % 64 = 0)
  else if idx = 0x4217 then
    let w := bits n 15 0
    let h := bits n 31 16
    decide (1 ≤ w) && decide (w ≤ 8192) && decide (1 ≤ h) && decide (h ≤ 8192)
  else if idx = 0x3114 then decide (bits n 7 0 ≠ 0) && decide (bits n 15 8 < bits n 7 0)
  else true

/-- The value lies in the range of the entry's table (16 R455 check 13; assumption log 95). -/
def valRange (k : Nat) (d : DictRow) (v : EVal) : Bool :=
  typeRange d.ty v && (match v with
    | .num n => (d.rng.isEmpty || d.rng.any (fun p => decide (p.1 ≤ n) && decide (n ≤ p.2))) && partsRange k n
    | .oct b => decide (d.len.1 ≤ b.length) && decide (b.length ≤ d.len.2))

end Sys2Proof.Machine
end

