-- ==== Sys2Proof/Machine/Image.lean ====
section
/-! DEFINITION. Xezor images (03 R69 to R95): the container, the section formats, and verification. An image is its bytes; the
functions here read fields of it. -/
namespace Sys2Proof.Machine

/-! ### Header and directory (R70, R71) -/

/-- Every octet is zero. -/
def zeros (bs : List Byte) : Bool := bs.all (fun b => b = 0)

/-- Header fields (R70). -/
def imgSize (g : List Byte) : Nat := leAt g 8 4
/-- SECTION_COUNT. -/
def imgCount (g : List Byte) : Nat := leAt g 12 2
/-- KEY_SLOT. -/
def imgKeySlot (g : List Byte) : Nat := u8At g 14
/-- WALL_TILE_INDEX. -/
def imgTile (g : List Byte) : Nat := u8At g 15
/-- IMAGE_ID. -/
def imgId (g : List Byte) : Nat := leAt g 16 8
/-- TILE_SERIAL. -/
def imgSerial (g : List Byte) : Nat := leAt g 24 8
/-- MIN_FIRMWARE. -/
def imgMinFw (g : List Byte) : Nat := leAt g 36 4
/-- PARALLAX. -/
def imgParallax (g : List Byte) : Nat := u8At g 40
/-- VIEW_BANKS. -/
def imgBanks (g : List Byte) : Nat := u8At g 41
/-- HOGEL_COLUMNS. -/
def imgCols (g : List Byte) : Nat := leAt g 42 2
/-- HOGEL_ROWS. -/
def imgRows (g : List Byte) : Nat := leAt g 44 2
/-- VIEWS_X. -/
def imgVx (g : List Byte) : Nat := leAt g 46 2
/-- VIEWS_Y. -/
def imgVy (g : List Byte) : Nat := leAt g 48 2
/-- RAYS_PER_FRAME. -/
def imgRays (g : List Byte) : Nat := leAt g 52 4
/-- FRAME_RATE in mHz. -/
def imgRate (g : List Byte) : Nat := leAt g 64 4

/-- A directory entry (R71). -/
structure SecEnt where
  ty : Nat
  flags : Nat
  off : Nat
  len : Nat
  res : Nat
  hash : List Byte
  deriving DecidableEq, Repr

/-- Directory entry `k`. -/
def secEnt (g : List Byte) (k : Nat) : SecEnt :=
  let o := 256 + 48 * k
  ⟨leAt g o 2, leAt g (o + 2) 2, leAt g (o + 4) 4, leAt g (o + 8) 4, leAt g (o + 12) 4, slice g (o + 16) 32⟩

/-- The directory. -/
def imgSecs (g : List Byte) : List SecEnt := (List.range (imgCount g)).map (secEnt g)

/-- The directory entry of a section type. -/
def imgEnt (g : List Byte) (ty : Nat) : Option SecEnt := (imgSecs g).find? (fun e => e.ty = ty)

/-- The payload of a section type; empty where there is none. -/
def imgSec (g : List Byte) (ty : Nat) : List Byte :=
  match imgEnt g ty with
  | some e => slice g e.off e.len
  | none => []

/-- Directory bounds, order and overlaps (R71): entries start after `stop`. -/
def secsOk (size : Nat) : Nat → List SecEnt → Bool
  | _, [] => true
  | stop, e :: es =>
    decide (e.flags < 2) && e.res = 0 && decide (e.off % 64 = 0) && decide (stop ≤ e.off) && decide (e.off + e.len + 4 ≤ size) &&
      secsOk size (e.off + e.len + 4) es

/-- Step 1 of R93 (assumption log 111). -/
def imgFormatOk (g : List Byte) : Bool :=
  let n := imgCount g
  decide (256 ≤ g.length) && decide (leAt g 0 4 = 0x4D495A58) && decide (leAt g 4 2 = 1) && decide (imgSize g ≤ 11534336) &&
  decide (imgSize g = g.length) && decide (1 ≤ n) && decide (n ≤ 16) && decide (imgKeySlot g ≤ 3) && zeros (slice g 50 2) &&
  zeros (slice g 96 96) && (imgParallax g = 1 || imgParallax g = 2) && decide (1 ≤ imgBanks g) && decide (imgBanks g ≤ 128) &&
  decide (256 + 48 * n ≤ imgSize g) && secsOk (imgSize g) (256 + 48 * n) (imgSecs g)

/-- The signed region (R72). -/
def imgSigned (g : List Byte) : List Byte := g.take 192 ++ slice g 256 (48 * imgCount g)

/-- Step 3 of R93. -/
def imgSigOk (g key : List Byte) : Bool := ecdsaVerify key (sha256 (imgSigned g)) (slice g 192 64)

/-- The first section whose hash does not match (step 4). -/
def imgHashBad (g : List Byte) : Option Nat :=
  firstSome (fun e => if sha256 (slice g e.off e.len) = e.hash then none else some e.ty) (imgSecs g)

/-- CRC trailers that mismatch (step 5). -/
def imgBadTrailers (g : List Byte) : Nat :=
  ((imgSecs g).filter (fun e => crc32 (slice g e.off e.len) ≠ leAt g (e.off + e.len) 4)).length

/-! ### Schedules (R76 to R78) -/

/-- Entry `i` of a schedule section. -/
def schedEntry (p : List Byte) (i : Nat) : Nat := leAt p (64 + 256 * (i / 31) + 8 * (i % 31)) 8
/-- ENTRY_COUNT of a schedule section. -/
def schedCount (p : List Byte) : Nat := leAt p 0 4
/-- The entries of a schedule section. -/
def schedEntries (p : List Byte) : List Nat := (List.range (schedCount p)).map (schedEntry p)
/-- AUX0. -/
def schedAux0 (p : List Byte) : Nat := leAt p 8 4
/-- AUX1. -/
def schedAux1 (p : List Byte) : Nat := leAt p 12 4

/-- A block passes BLOCK_SEQ and CHECK (R76, R104). -/
def schedBlockOk (p : List Byte) (b : Nat) : Bool :=
  let blk := slice p (64 + 256 * b) 256
  decide (leAt blk 248 4 = b) && decide (leAt blk 252 4 = crc32 (blk.take 252))

/-- Header and blocks of a schedule section (R76). -/
def schedOk (p : List Byte) : Bool :=
  let n := schedCount p
  let nb := leAt p 4 4
  decide (64 ≤ p.length) && zeros (slice p 16 48) && decide (nb = ceilDiv n 31) && decide (p.length = 64 + 256 * nb) &&
  (List.range nb).all (schedBlockOk p) && (List.range (31 * nb - n)).all (fun k => schedEntry p (n + k) = 0)

/-- A fetch entry is a phase marker (R77). -/
def fetchMark (e : Nat) : Bool := bit e 63
/-- START_SLICE of a phase marker. -/
def fetchStart (e : Nat) : Nat := bits e 30 0
/-- SLOT of a fill. -/
def fetchSlot (e : Nat) : Nat := bits e 62 59
/-- KEY of a fill. -/
def fetchKey (e : Nat) : Nat := bits e 58 55
/-- TILE_U of a fill. -/
def fetchU (e : Nat) : Nat := bits e 54 43
/-- TILE_V of a fill. -/
def fetchV (e : Nat) : Nat := bits e 42 31
/-- CACHE_FRAME of a fill. -/
def fetchFrame (e : Nat) : Nat := bits e 30 19
/-- CULLABLE of a fill. -/
def fetchCullable (e : Nat) : Bool := bit e 13

/-- The fetch schedule's own format (R76, R77). -/
def fetchOk (p : List Byte) : Bool :=
  let es := schedEntries p
  schedOk p && decide (1 ≤ schedAux0 p) && decide (schedAux0 p ≤ 4096) && decide (schedAux1 p = 0) && (es.take 1).all fetchMark &&
  es.all (fun e => if fetchMark e then decide (bits e 62 31 = 0) else decide (bits e 12 0 = 0))

/-- LANE, OP and the fields of a scan entry (R78). -/
def scanLane (e : Nat) : Nat := bits e 63 59
/-- OP: 0 RUN, 1 ADDRESS, 2 SLICE, 3 END. -/
def scanOp (e : Nat) : Nat := bits e 58 56
/-- FIRST_RAY. -/
def scanFirst (e : Nat) : Nat := bits e 55 30
/-- COUNT. -/
def scanCount (e : Nat) : Nat := bits e 29 18
/-- STRIDE. -/
def scanStride (e : Nat) : Nat := bits e 17 6
/-- Rays of a RUN, in order. -/
def scanRays (e : Nat) : List Nat := (List.range (scanCount e)).map (fun k => scanFirst e + k * scanStride e)

/-- One scan entry is well formed (R78). -/
def scanEntryOk (e : Nat) : Bool :=
  match scanOp e with
  | 0 => decide (1 ≤ scanCount e) && decide (1 ≤ scanStride e) && decide (bits e 5 0 = 0)
  | 1 => decide (bits e 15 0 = 0)
  | 2 => decide (bits e 55 32 = 0)
  | 3 => decide (bits e 55 0 = 0)
  | _ => false

/-- The scan schedule's own format (R76, R78). -/
def scanOk (p : List Byte) : Bool :=
  schedOk p && decide (1 ≤ schedAux0 p) && decide (schedAux0 p ≤ 32) && (schedEntries p).all scanEntryOk

/-! ### Lane maps (R79, R80) -/

/-- A lane map: port direction (0 East receive, 1 West receive, 2 East transmit, 3 West transmit), kind, failed lane, spare, stripes. -/
structure LaneMap where
  dir : Nat
  kind : Nat
  failed : Nat
  spare : Nat
  stripe : List Nat
  deriving DecidableEq, Repr

/-- Map record `k` of a LANE_MAPS payload. -/
def laneMap (p : List Byte) (k : Nat) : LaneMap :=
  let o := 16 + 16 * k
  ⟨u8At p o, u8At p (o + 1), u8At p (o + 2), u8At p (o + 3), (List.range 8).map (fun i => u8At p (o + 4 + i))⟩

/-- The maps of an image. -/
def laneMaps (p : List Byte) : List LaneMap := (List.range (leAt p 0 2)).map (laneMap p)

/-- The NORMAL map of a port direction. -/
def normalMap (ms : List LaneMap) (dir : Nat) : Option LaneMap := ms.find? (fun m => m.dir = dir && m.kind = 0)

/-- One map keeps the rules of R80. -/
def laneMapOk (ms : List LaneMap) (m : LaneMap) : Bool :=
  match normalMap ms m.dir with
  | none => false
  | some n =>
    if m.kind = 0 then m.failed = 0xFF && (List.range 9).all (fun x => (m.spare :: m.stripe).contains x)
    else if m.kind = 1 then
      m.spare = 0xFF && n.stripe.contains m.failed && m.stripe = n.stripe.map (fun x => if x = m.failed then n.spare else x)
    else if m.kind = 2 then m.spare = 0xFF && m.failed = n.spare && m.stripe = n.stripe
    else false

/-- The LANE_MAPS payload keeps R79 and R80. -/
def laneMapsOk (p : List Byte) : Bool :=
  let n := leAt p 0 2
  let ms := laneMaps p
  decide (p.length = 16 + 16 * n) && zeros (slice p 2 14) &&
  (List.range n).all (fun k => zeros (slice p (28 + 16 * k) 4)) && ms.all (fun m => decide (m.dir < 4)) &&
  (List.range 4).all (fun d => (ms.filter (fun m => m.dir = d && m.kind = 0)).length = 1) && ms.all (laneMapOk ms) &&
  ms.all (fun m => (ms.filter (fun x => x.dir = m.dir && x.kind = m.kind && x.failed = m.failed)).length = 1)

/-- The set of degraded maps is complete: 40 maps in all (R80). -/
def laneMapsComplete (p : List Byte) : Bool := decide (leAt p 0 2 = 40)

/-! ### DRAM plan, layer plan, priorities (R81 to R83) -/

/-- TABLE_LEN. -/
def planLen (p : List Byte) : Nat := leAt p 2 2
/-- The slot table of a port. -/
def planTable (p : List Byte) (port : Nat) : List Byte := slice p (64 + planLen p * port) (planLen p)
/-- Reserved slots of a port. -/
def planReserved (p : List Byte) (port : Nat) : Nat := ((planTable p port).filter (fun b => b ≠ 0)).length

/-- The DRAM_PLAN's own format (R81). -/
def dramPlanOk (p : List Byte) : Bool :=
  let t := planLen p
  decide (leAt p 0 2 = 64) && decide (64 ≤ t) && decide (t ≤ 1024) && decide (t % 64 = 0) && decide (p.length = 64 + 6 * t) &&
  zeros (slice p 4 60) && (p.drop 64).all (fun b => decide (b.toNat ≤ 4))

/-- One slot record of LAYER_PLAN (R82). -/
structure SlotPlan where
  cls : Nat
  keys : Nat
  fmt : Nat
  dlo : Nat
  dhi : Nat
  downX : Nat
  downY : Nat
  cost : Nat
  rate : Nat
  w : Nat
  h : Nat
  deriving DecidableEq, Repr

/-- Slot record `s` of a LAYER_PLAN payload. -/
def slotPlan (p : List Byte) (s : Nat) : SlotPlan :=
  let o := 64 + 32 * s
  ⟨u8At p o, u8At p (o + 1), u8At p (o + 2), leAt p (o + 4) 2, leAt p (o + 6) 2, leAt p (o + 8) 2, leAt p (o + 10) 2, leAt p (o + 12) 4,
    leAt p (o + 16) 4, leAt p (o + 20) 2, leAt p (o + 22) 2⟩

/-- Line-buffer bytes per texel of a FORMAT code; none for another code (07 R212). -/
def fmtBpt (f : Nat) : Option Nat :=
  match f with
  | 0x01 => some 8 | 0x02 => some 6 | 0x03 => some 6 | 0x04 => some 4
  | 0x10 => some 4 | 0x11 => some 2 | 0x12 => some 1 | 0x13 => some 1
  | _ => none

/-- The LAYER_PLAN's own format (R82, 07 R212; assumption log 101). -/
def layerPlanOk (p : List Byte) : Bool :=
  let rec_ := fun s => slice p (64 + 32 * s) 32
  let ok := fun s =>
    let r := slotPlan p s
    if r.cls = 0 then zeros (rec_ s)
    else decide (r.cls ≤ 2) && (fmtBpt r.fmt).isSome && u8At p (64 + 32 * s + 3) = 0 && zeros (slice p (64 + 32 * s + 24) 8) &&
      decide (r.dlo ≤ r.dhi) && decide (1 ≤ r.downX) && decide (1 ≤ r.downY) && decide (1 ≤ r.w) && decide (1 ≤ r.h)
  decide (p.length = 576) && zeros (slice p 2 62) && (List.range 16).all ok &&
  decide (u8At p 0 = ((List.range 16).filter (fun s => (slotPlan p s).cls = 1)).length) &&
  decide (u8At p 1 = ((List.range 16).filter (fun s => (slotPlan p s).cls = 2)).length)

/-- ORDER of a PRIORITY_TABLE. -/
def prioOrder (p : List Byte) : List Nat := ((p.take 16).takeWhile (fun b => b ≠ 0xFF)).map BitVec.toNat
/-- KEEP[a]. -/
def prioKeep (p : List Byte) (a : Nat) : Nat := leAt p (16 + 2 * (a - 1)) 2

/-- The PRIORITY_TABLE's own format (R83; assumption log 101). -/
def prioOk (p : List Byte) : Bool :=
  decide (p.length = 32) && (((p.take 16).drop (prioOrder p).length).all (fun b => b = 0xFF)) && (prioOrder p).all (fun s => decide (s < 16))

/-! ### Glaze tables and entry defaults (R84, 07 R234) -/

/-- The parts of GLAZE_TABLES by the entries that they load. -/
def glazeParts (p : List Byte) : List (Nat × EVal) :=
  let pre := leAt p 0 2
  let bins := leAt p 2 2
  let conv := (List.range 16).flatMap (fun s =>
    [(ekey 0x4301 (s + 1), EVal.num (u8At p (64 + 52 * s))), (ekey 0x4302 (s + 1), EVal.oct (slice p (68 + 52 * s) 48))])
  let tab := fun (idx mask base : Nat) =>
    (List.zip (bitsOf 16 mask) (List.range 16)).map (fun q => (ekey idx (q.1 + 1), EVal.oct (slice p (base + 24576 * q.2) 24576)))
  let b0 := 64 + 832
  let b1 := b0 + 24576 * popCount 16 pre
  let b2 := b1 + 24576 * popCount 16 bins
  conv ++ tab 0x4303 pre b0 ++ tab 0x4304 bins b1 ++ (if u8At p 4 = 1 then [(0x430601, EVal.oct (slice p b2 8192))] else [])

/-- The values of a U16 matrix. -/
def u16s : List Byte → List Nat
  | a :: b :: r => (a.toNat + 256 * b.toNat) :: u16s r
  | _ => []

/-- The GLAZE_TABLES' own format (07 R234). -/
def glazeOk (p : List Byte) : Bool :=
  let n := popCount 16 (leAt p 0 2) + popCount 16 (leAt p 2 2)
  let has := u8At p 4
  decide (has ≤ 1) && zeros (slice p 5 59) && decide (p.length = 896 + 24576 * n + 8192 * has) &&
  (List.range 16).all (fun s => (decide (u8At p (64 + 52 * s) ≤ 5) || u8At p (64 + 52 * s) = 0xFF) && zeros (slice p (65 + 52 * s) 3)) &&
  (has = 0 || (let m := u16s (p.drop (896 + 24576 * n)); (List.range 4096).all (fun v => m.contains v)))

/-- An entry that GLAZE_TABLES sets, never ENTRY_DEFAULTS (R84). -/
def glazeKey (k : Nat) : Bool := (decide (0x4301 ≤ k / 256) && decide (k / 256 ≤ 0x4304)) || k / 256 = 0x4306

/-- The records of ENTRY_DEFAULTS; none where one breaks R84. -/
def entryDefaults : Nat → List Byte → Option (List (Nat × EVal))
  | 0, _ => none
  | fuel + 1, p =>
    if p.isEmpty then some [] else
    let k := ekey (leAt p 0 2) (u8At p 2)
    let n := leAt p 4 2
    let pad := (n + 3) / 4 * 4 - n
    if p.length < 8 + n + pad || !zeros (slice p 6 2) || !zeros (slice p (8 + n) pad) || glazeKey k then none else
    match dictRow k with
    | none => none
    | some d =>
      let v := valOf d.ty (slice p 8 n)
      if d.persist ≠ .img || d.ty.code ≠ u8At p 3 || !(d.ty.isOct || n = d.ty.size) || !valRange k d v then none
      else match entryDefaults fuel (p.drop (8 + n + pad)) with
        | some r => some ((k, v) :: r)
        | none => none

/-- The records of an image's ENTRY_DEFAULTS. -/
def imgDefaults (g : List Byte) : List (Nat × EVal) := let p := imgSec g 10; (entryDefaults (p.length + 1) p).getD []

/-! ### Step 6 of R93 -/

/-- The internal format of a known section holds (R75 to R84; assumption log 101, on DZ of 02 R59 too). -/
def sectionOk (g : List Byte) (ty : Nat) : Bool :=
  let p := imgSec g ty
  match ty with
  | 1 => decide (p.length = 16 * imgCols g * (if imgParallax g = 1 then imgRows g else ceilDiv (imgRows g) 2))
  | 2 => decide (p.length = 2880 + 4096 * imgBanks g) &&
      (List.range 16).all (fun s => (slotPlan (imgSec g 7) s).cls ≠ 0 || zeros (slice p (180 * s) 180))
  | 3 => fetchOk p
  | 4 => scanOk p
  | 5 => laneMapsOk p
  | 6 => dramPlanOk p
  | 7 => layerPlanOk p
  | 8 => prioOk p
  | 9 => glazeOk p
  | 10 => (entryDefaults (p.length + 1) p).isSome
  | _ => true

/-- Required types (R73). -/
def requiredTypes : List Nat := [1, 2, 3, 4, 5, 6, 7, 8]

/-- Step 6: the result and DETAIL of the first failure (assumption log 101). -/
def imgSectionsBad (g : List Byte) : Option (Nat × Nat) :=
  let es := imgSecs g
  match requiredTypes.find? (fun t => !es.any (fun e => e.ty = t)) with
  | some t => some (0x14, t)
  | none =>
    match es.find? (fun e => (es.filter (fun x => x.ty = e.ty)).length > 1 || (!(decide (1 ≤ e.ty) && decide (e.ty ≤ 10)) && e.flags = 0)) with
    | some e => some (0x10, e.ty)
    | none => firstSome (fun t => if es.any (fun e => e.ty = t) && !sectionOk g t then some (0x10, t) else none) [1, 2, 3, 4, 5, 6, 7, 8, 9, 10]

/-! ### The limits of R95 -/

/-- Limit 1: the tile is within R2. -/
def limTile (g : List Byte) : Bool :=
  let c := imgCols g
  let r := imgRows g
  let full := imgParallax g = 1
  let recs := c * (if full then r else ceilDiv r 2)
  decide (1 ≤ c) && decide (1 ≤ r) && decide (1 ≤ imgVx g) && decide (1 ≤ imgVy g) && decide (c ≤ 720) && decide (r ≤ if full then 405 else 1080) &&
  decide (c * r ≤ if full then 291600 else 583200) && decide (recs ≤ 291600) &&
  decide (imgVx g ≤ if full then 16 else 256) && decide (imgVy g ≤ if full then 16 else 1)

/-- The used slots of a layer plan. -/
def usedSlots (p : List Byte) : List SlotPlan := ((List.range 16).map (slotPlan p)).filter (fun r => r.cls ≠ 0)

/-- Limit 5. -/
def limSlots (g : List Byte) : Bool :=
  let us := usedSlots (imgSec g 7)
  let sc := us.filter (fun r => r.cls = 1)
  let fl := us.filter (fun r => r.cls = 2)
  decide (sc.length ≤ 8) && decide (fl.length ≤ 8) && sc.all (fun r => decide (1 ≤ r.keys) && decide (r.keys ≤ 16)) && fl.all (fun r => r.keys = 1)

/-- Limit 8: R57, R53 and R56. -/
def limViews (g : List Byte) : Bool :=
  let lens := imgSec g 1
  let vt := imgSec g 2
  let plan := imgSec g 7
  let nv := min (imgVx g * imgVy g) 256
  let rec_ := fun k => let fl := leAt lens (16 * k + 14) 2; decide (fl < 4096) && decide (bits fl 11 5 < imgBanks g)
  let ent := fun b v =>
    let o := 2880 + 4096 * b + 16 * v
    let key := leAt vt (o + 4) 8
    decide (u8At vt (o + 12) < imgVx g) && decide (u8At vt (o + 13) < imgVy g) && decide (leAt vt (o + 14) 2 < 2) &&
    (List.range 16).all (fun s => let n := bits key (4 * s + 3) (4 * s); let r := slotPlan plan s
      if r.cls = 1 then decide (n < r.keys) else if r.cls = 2 then n = 0 else true)
  let cell := fun b v => let o := 2880 + 4096 * b + 16 * v; leAt vt (o + 12) 2
  (List.range (lens.length / 16)).all rec_ &&
  (List.range (imgBanks g)).all (fun b => (List.range nv).all (ent b) &&
    (List.range nv).all (fun v => ((List.range nv).filter (fun x => cell b x = cell b v)).length = 1))

/-- Depth of a line buffer (07 R216). -/
def lineDepth (win bpt : Nat) : Nat := min 32 (262144 / (win * bpt))

/-- Limit 11 (07 R217). -/
def limDown (r : SlotPlan) : Bool :=
  match fmtBpt r.fmt with
  | none => false
  | some b => let d := lineDepth (ceilDiv (r.w * r.downX) 256) b
    decide (r.downX * 2 ≤ 256 * d) && decide (r.downY * 2 ≤ 256 * d)

/-- Limit 12: reserved bandwidth at most 80 % of the peak of the fitted ports, none on a port not fitted. -/
def limDram (g : List Byte) (np : Nat) : Bool :=
  let p := imgSec g 6
  let n := ((List.range 6).map (planReserved p)).foldl (· + ·) 0
  decide (n * 10 ≤ 8 * np * planLen p) && (List.range 6).all (fun q => decide (q < np) || planReserved p q = 0)

/-- Limit 13: every ray in exactly one RUN, and no other index in any (assumption log 101). -/
def limRuns (g : List Byte) : Bool :=
  let rs := ((schedEntries (imgSec g 4)).filter (fun e => scanOp e = 0)).flatMap scanRays
  decide (rs.length = imgRays g) && (List.range (imgRays g)).all (fun r => rs.contains r)

/-- Blocks of a packet of `n` rays (09 R265 to R268): START, data and trailer. -/
def packetBlocks (n : Nat) : Nat := if n = 0 then 0 else 2 + ceilDiv (48 * n) 64

/-- Blocks of a lane's frame: LOAD_BEGIN and FLIP, then its entries (09 R278, R286). Kept: rays in the open packet, blocks so far. -/
def scanStep (q : Nat × Nat) (e : Nat) : Nat × Nat :=
  match scanOp e with
  | 0 => let t := q.1 + scanCount e; (t % 256, q.2 + (t / 256) * packetBlocks 256)
  | 1 => (0, q.2 + packetBlocks q.1 + 2)
  | _ => (0, q.2 + packetBlocks q.1)

/-- Entries of one lane. -/
def laneEntries (p : List Byte) (lane : Nat) : List Nat := (schedEntries p).filter (fun e => scanLane e = lane)

/-- Blocks of a lane in one frame (assumption log 101). -/
def laneBlocks (p : List Byte) (lane : Nat) : Nat := let q := (laneEntries p lane).foldl scanStep (0, 4); q.2 + packetBlocks q.1

/-- Panel rate of a PANEL_RATE code, in units of 0.5 Mb/s (09 R264). -/
def panelHalfMbps (code : Nat) : Nat := [2500, 6250, 12500, 20625].getD code 20625

/-- PANEL_RATE that the image sets; 10.3125 Gb/s without a record (09 R286; assumption log 112). -/
def imgPanelRate (g : List Byte) : Nat := (firstSome (fun p => if p.1 = 0x440003 then some p.2.toNum else none) (imgDefaults g)).getD 3

/-- Limit 14 (09 R286; assumption log 101). -/
def limScan (g : List Byte) : Bool :=
  let p := imgSec g 4
  let n := schedAux0 p
  let es := schedEntries p
  let total := ((List.range n).map (laneBlocks p)).foldl (· + ·) 0
  es.all (fun e => scanOp e = 3 || decide (scanLane e < n)) &&
  (List.range n).all (fun l => let x := laneEntries p l
    decide ((x.filter (fun e => scanOp e = 3)).length = 1) && (x.getLast?.map scanOp = some 3)) &&
  es.all (fun e => scanOp e ≠ 1 || decide (bits e 55 48 < 0xFF)) &&
  decide (ceilDiv (total * 64 * imgRate g) 1000000000 ≤ schedAux1 p) &&
  decide (schedAux1 p * 2 * 66 * 100 ≤ n * panelHalfMbps (imgPanelRate g) * 64 * 95)

/-- Limit 15 (R83). -/
def limPrio (g : List Byte) : Bool :=
  let p := imgSec g 8
  let plan := imgSec g 7
  let used := maskOf ((List.range 16).filter (fun s => (slotPlan plan s).cls ≠ 0))
  let ord := prioOrder p
  let runs := (List.range (ord.length + 1)).map (fun n => used - maskOf (ord.take n))
  ord.all (fun s => bit used s && (ord.filter (· = s)).length = 1) && prioKeep p 8 = used &&
  (List.range 8).all (fun a => runs.contains (prioKeep p (a + 1))) &&
  (List.range 7).all (fun a => prioKeep p (a + 2) &&& prioKeep p (a + 1) = prioKeep p (a + 1))

/-- The first limit that fails, in the order of R95. -/
def imgLimitBad (g : List Byte) (rate np : Nat) : Option Nat :=
  let us := usedSlots (imgSec g 7)
  let sum := fun (f : SlotPlan → Nat) => (us.map f).foldl (· + ·) 0
  let len := fun t => (imgSec g t).length
  let checks : List (Nat × Bool) := [
    (1, limTile g),
    (2, decide (imgRays g ≤ 40000000) && decide (imgRays g = imgCols g * imgRows g * imgVx g * imgVy g)),
    (3, decide (imgRays g * imgRate g ≤ 4800000000000)),
    (4, decide (imgRate g = rate)),
    (5, limSlots g),
    (6, decide (len 1 ≤ 4665600) && decide (len 1 + len 2 ≤ 5242880)),
    (7, decide (len 3 + len 4 + len 5 ≤ 4194304)),
    (8, limViews g),
    (9, decide (sum SlotPlan.cost * (imgRays g * imgRate g) ≤ 40000000000 * 65536 * 1000)),
    (10, decide (sum SlotPlan.rate ≤ 9600)),
    (11, us.all limDown),
    (12, limDram g np),
    (13, limRuns g),
    (14, limScan g),
    (15, limPrio g),
    (16, decide (imgTile g ≤ 127))]
  firstSome (fun p => if p.2 then none else some p.1) checks

/-- Verification (R93): result code and DETAIL. -/
def imgVerify (g : List Byte) (keys : List (List Byte)) (serial fw rate np : Nat) : Nat × Nat :=
  if !imgFormatOk g then (0x10, 0) else
  let key := keys.getD (imgKeySlot g) []
  if zeros key then (0x12, 0) else
  if !imgSigOk g key then (0x11, 0) else
  match imgHashBad g with
  | some t => (0x13, t)
  | none =>
    match imgSectionsBad g with
    | some r => r
    | none =>
      if imgSerial g ≠ 0 ∧ imgSerial g ≠ serial then (0x16, 0) else
      if imgMinFw g > fw then (0x17, 0) else
      match imgLimitBad g rate np with
      | some i => (0x15, i)
      | none => let n := imgBadTrailers g; if n ≠ 0 then (1, n) else (0, 0)

end Sys2Proof.Machine
end

