-- ==== Sys2Proof/Machine/Geometry.lean ====
section
/-! DEFINITION. Ray geometry (02): lens records, view entries, placements, and the arithmetic of R48, R54 and R63 in binary32 with
rounding after every product and sum (R55). -/
namespace Sys2Proof.Machine

/-- A signed 16-bit field in units of 2^−`sh`, as binary32. -/
def fix16 (bs : List Byte) (off : Nat) (sh : Nat) : F32 := f32OfScaled (toSigned 16 (leAt bs off 2)) (-(sh : Int))

/-- The record index of a hogel (R52). -/
def lensIndex (g : List Byte) (col row : Nat) : Nat := (if imgParallax g = 1 then row else row / 2) * imgCols g + col

/-- The 16-byte lens record of an index. -/
def lensRec (g : List Byte) (k : Nat) : List Byte := slice (imgSec g 1) (16 * k) 16

/-- FLAGS of a lens record: BIN, DARK, VBANK (R53). -/
def lensBin (r : List Byte) : Nat := bits (leAt r 14 2) 3 0
/-- DARK. -/
def lensDark (r : List Byte) : Bool := bit (leAt r 14 2) 4
/-- VBANK. -/
def lensBank (r : List Byte) : Nat := bits (leAt r 14 2) 11 5

/-- The 16-byte view entry of a bank and a view (R56). -/
def viewEnt (g : List Byte) (bank v : Nat) : List Byte := slice (imgSec g 2) (2880 + 4096 * bank + 16 * v) 16

/-- DARK_VIEW. -/
def viewDark (e : List Byte) : Bool := bit (leAt e 14 2) 0
/-- Key view of a slot. -/
def viewKey (e : List Byte) (slot : Nat) : Nat := bits (leAt e 4 8) (4 * slot + 3) (4 * slot)

/-- The geometry of a ray. -/
structure RayGeo where
  col : Nat
  row : Nat
  i : Nat
  j : Nat
  rec_ : Nat
  lens : List Byte
  view : List Byte
  hx : F32
  hy : F32
  sx : F32
  sy : F32
  deriving DecidableEq, Repr

/-- The actual slope of a view entry through a lens record (R54). -/
def slopeOf (lens view : List Byte) : F32 × F32 :=
  let nx := fix16 view 0 14
  let ny := fix16 view 2 14
  let ma := fix16 lens 8 14
  let mb := fix16 lens 10 14
  let ax := f32Sub (f32Mul ma nx) (f32Mul mb ny)
  let ay := f32Add (f32Mul mb nx) (f32Mul ma ny)
  let f := f32Add f32One (f32Mul (fix16 lens 12 14) (f32Add (f32Mul nx nx) (f32Mul ny ny)))
  let two : F32 := 0x40000000
  (f32Clamp (f32Negate two) two (f32Add (f32Mul ax f) (fix16 lens 4 14)),
   f32Clamp (f32Negate two) two (f32Add (f32Mul ay f) (fix16 lens 6 14)))

/-- The actual position of a hogel on one axis (R48). -/
def hogelPos (n : Nat) (lens : List Byte) (off : Nat) : F32 := f32Add (f32Add (f32OfInt n) f32Half) (fix16 lens off 12)

/-- The geometry of ray `n` of an image (R48 to R54). -/
def rayGeo (g : List Byte) (n : Nat) : RayGeo :=
  let vv := max 1 (imgVx g * imgVy g)
  let h := n / vv
  let col := h % imgCols g
  let row := h / imgCols g
  let v := n % vv
  let k := lensIndex g col row
  let lens := lensRec g k
  let view := viewEnt g (lensBank lens) v
  let s := slopeOf lens view
  ⟨col, row, v % imgVx g, v / imgVx g, k, lens, view, hogelPos col lens 0, hogelPos row lens 2, s.1, s.2⟩

/-- The ray is dark: no layer is sampled for it (R58). -/
def RayGeo.dark (r : RayGeo) : Bool := lensDark r.lens || viewDark r.view

/-- A binary32 field of a slot's placement (R62). -/
def placeF (g : List Byte) (slot off : Nat) : F32 := leAt (imgSec g 2) (180 * slot + off) 4

/-- The zero-disparity point p (R63). -/
def zeroPoint (g : List Byte) (slot : Nat) (hx hy : F32) : F32 × F32 :=
  (f32Add (placeF g slot 0) (f32Add (f32Mul (placeF g slot 8) hx) (f32Mul (placeF g slot 12) hy)),
   f32Add (placeF g slot 4) (f32Add (f32Mul (placeF g slot 16) hx) (f32Mul (placeF g slot 20) hy)))

/-- The vector gs (R63). -/
def slopeTexels (g : List Byte) (slot : Nat) (sx sy : F32) : F32 × F32 :=
  (f32Add (f32Mul (placeF g slot 24) sx) (f32Mul (placeF g slot 28) sy),
   f32Add (f32Mul (placeF g slot 32) sx) (f32Mul (placeF g slot 36) sy))

/-- The probe texel: floor(p + 0.5) (R63). -/
def probeTexel (p : F32 × F32) : Int × Int := (f32Floor (f32Add p.1 f32Half), f32Floor (f32Add p.2 f32Half))

/-- Depth of a code in a slot (R59). -/
def depthOf (g : List Byte) (slot d : Nat) : F32 := f32Add (placeF g slot 40) (f32Mul (f32OfInt d) (placeF g slot 44))

/-- The sample position q of a flat slot (R63). -/
def flatPoint (g : List Byte) (slot : Nat) (p gs : F32 × F32) : F32 × F32 :=
  let z := placeF g slot 48
  (f32Add p.1 (f32Mul z gs.1), f32Add p.2 (f32Mul z gs.2))

/-- The sample position q of a scene slot at a key view and a depth (R63). -/
def scenePoint (g : List Byte) (slot key : Nat) (z : F32) (p gs : F32 × F32) : F32 × F32 :=
  (f32Add p.1 (f32Mul z (f32Sub gs.1 (placeF g slot (52 + 8 * key)))),
   f32Add p.2 (f32Mul z (f32Sub gs.2 (placeF g slot (56 + 8 * key)))))

end Sys2Proof.Machine
end

