-- ==== Sys2Proof/Machine/McSched.lean ====
section
/-! DEFINITION. Scheduling of the DRAM channels (14 R413, R414): the queues of burst requests, open pages, the slot cycle of the DRAM plan and
the order in which a channel serves what waits. Times are counts of the 1.2 GHz clock CK. -/
namespace Sys2Proof.Machine

/-- CK of an uptime. -/
def ckOf (t : Nat) : Nat := t * 3 / 163840

/-! ### Address map (14 R407) -/

/-- Port and port-local address of a physical address, at `np` fitted ports. -/
def dramMap (np a : Nat) : Nat × Nat :=
  let b := a % 128
  let q := a / 128
  let l := q / np
  let r := q % np
  let h := bits l 11 9
  ((r + h) % np, l * 128 + b)

/-- Device coordinates of a port-local address at a row address width. -/
structure DevAddr where
  col : Nat
  ch : Nat
  bank : Nat
  row : Nat
  rank : Nat
  deriving DecidableEq, Repr

/-- Data rows of a bank (14 R407). -/
def dataRows (rb : Nat) : Nat := 31 * 2 ^ (rb - 5)

/-- Device coordinates of a port-local address (14 R407). -/
def devMap (rb m : Nat) : DevAddr :=
  { col := bits m 16 16 * 1024 + bits m 9 0, ch := bits m 11 10, bank := bits m 15 12,
    row := (m >>> 17) % dataRows rb, rank := (m >>> 17) / dataRows rb }

/-- Row address width of a density in Gb per die: 16 banks of 2 KiB pages (14 R404). -/
def rowWidth (gb : Nat) : Nat := log2f (gb * 4096)

/-- Data capacity of one port: 31/32 of four channels of devices (14 R407). -/
def portData (ranks gb : Nat) : Nat := 4 * ranks * gb * 2 ^ 27 / 32 * 31

/-! ### What a channel sees -/

/-- A real-time client (03 R81). -/
def realTime (client : Nat) : Bool := decide (1 ≤ client) && decide (client ≤ 4)

/-- What bears on a channel from outside its queues: the CK of slot 0 and the slot table, and its ranks. -/
structure McView where
  from_ : Option Nat
  table : List Byte
  ranks : List McChan

/-- Number of the slot at a CK since slot 0, when slots run (R414). -/
def McView.slot (v : McView) (t : Nat) : Option Nat := match v.from_ with
  | some s => if t < s || v.table.isEmpty then none else some ((t - s) / 64)
  | none => none
/-- Owner of the slot at a CK; 0 for none. -/
def McView.owner (v : McView) (t : Nat) : Nat := match v.slot t with
  | some k => u8At v.table (k % v.table.length)
  | none => 0
/-- The first CK of the slot behind the one at `t`. -/
def McView.slotEnd (v : McView) (t : Nat) : Nat := (v.from_.getD 0) + 64 * ((v.slot t).getD 0 + 1)
/-- A reserved slot, or the 16 CK before one, meets the time from `t` to `u` (R419). -/
def McView.reservedIn (v : McView) (t u : Nat) : Bool := match v.from_ with
  | none => false
  | some s => (List.range v.table.length).any (fun k =>
      let cycle := 64 * v.table.length
      let stop := s + 64 * k + 64
      let j := if t < stop then 0 else (t - stop) / cycle + 1
      u8At v.table k ≠ 0 && decide (s + 64 * k + cycle * j ≤ u + 16))

/-- A bank is under refresh at a CK (R416). -/
def McView.busy (v : McView) (rank bank t : Nat) : Bool :=
  v.ranks.any (fun x => x.rank = rank && x.busy.any (fun b => b.1 = bank % 8 && decide (b.2.1 ≤ t) && decide (t < b.2.2)))
/-- A catch-up goes ahead of the channel's non-real-time requests (R414 level 4, R418). -/
def McView.owes (v : McView) : Bool := v.ranks.any McChan.catchup

/-! ### Choice of the next burst (R413, R414) -/

/-- The row of a request is open. -/
def McQ.hit (q : McQ) (r : McReq) : Bool := (aGet q.pages (16 * r.rank + r.bank)).any (fun p => p.1 = r.row)

/-- Among requests of equal standing, oldest first: the oldest when it would otherwise wait more than 512 CK, else the oldest row hit, else the
oldest. -/
def McQ.best (q : McQ) (t : Nat) (l : List McReq) : Option McReq := match l with
  | [] => none
  | r :: _ => if t + 4 > r.at_ + 512 then some r else some ((l.find? q.hit).getD r)

/-- The channel writes: from 48 writes on, or when no read is pending; until 16 remain, or a read is the oldest request. -/
def McQ.drainNext (q : McQ) : Bool :=
  if q.drain then
    !(decide (q.writes.length ≤ 16) || q.reads.any (fun r => q.writes.all (fun w => decide (r.at_ < w.at_))))
  else decide (48 ≤ q.writes.length) || (q.reads.isEmpty && !q.writes.isEmpty)

/-- Requests that may be served at a CK: they have come, and their bank is not under refresh. -/
def McQ.open_ (v : McView) (q : McQ) (t : Nat) : List McReq × List McReq :=
  let free := fun (r : McReq) => decide (r.at_ ≤ t) && !v.busy r.rank r.bank t
  (q.reads.filter free, q.writes.filter free)

/-- The next request of a client. -/
def McQ.of_ (v : McView) (q : McQ) (t k : Nat) : Option McReq :=
  q.best t (((q.open_ v t).1 ++ (q.open_ v t).2).filter (fun r => r.client = k))

/-- The real-time burst in progress goes on with this request: level 1 of R414. -/
def McQ.going (v : McView) (q : McQ) (t : Nat) : Option McReq :=
  if q.burst.isSome && q.burst = v.slot t && v.owner t ≠ 0 then q.of_ v t (v.owner t) else none

/-- The burst served at a CK below the refreshes, by levels 3, 5 and 6 of R414; a catch-up holds the non-real-time requests back (assumption log 37). -/
def McQ.pick (v : McView) (q : McQ) (t : Nat) : Option McReq :=
  let o := q.open_ v t
  let low := fun (l : List McReq) => q.best t (l.filter (fun r => !realTime r.client && !v.owes && decide (q.hold ≤ t)))
  let own := v.owner t
  match if own = 0 then none else q.of_ v t own with
  | some r => some r
  | none => match firstSome (q.of_ v t) [1, 2, 3, 4] with
    | some r => some r
    | none => if q.drainNext then firstSome low [o.2, o.1] else firstSome low [o.1, o.2]

/-- A waiting client's request enters when its queue has room. -/
def McQ.enter (q : McQ) : McQ :=
  match q.waits.find? (fun r => decide ((if r.write then q.writes else q.reads).length < 64)) with
  | none => q
  | some r =>
    let q := { q with waits := q.waits.erase r }
    if r.write then { q with writes := q.writes ++ [r] } else { q with reads := q.reads ++ [r] }

/-- Column commands that serving a request takes: its own; on opening a row the read of its check block, and the write-back of the check
buffer that it replaces, where that has changed; a merge reads first (R409; assumption log 37). -/
def McQ.columns (q : McQ) (r : McReq) : Nat :=
  1 + b2n r.merge + b2n (!q.hit r) + b2n (!q.hit r && (aGet q.pages (16 * r.rank + r.bank)).any (fun p => p.2))

/-- A burst is served: its row is open from then on (R413), and a write changes its check buffer (R409). A slot whose owner waits while the
burst of another client crosses its start was not free (R422; assumption log 37). -/
def McQ.serve (v : McView) (idle : Nat) (q : McQ) (r : McReq) : McQ :=
  let t := q.ranTo
  let stop := t + 4 * q.columns r
  let next := v.slotEnd t
  let own := v.owner next
  let missed := (v.slot t).isSome && decide (next < stop) && own ≠ 0 && own ≠ r.client && (q.reads ++ q.writes).any (fun x => x.client = own)
  let key := 16 * r.rank + r.bank
  let changed := r.write || (q.hit r && (aGet q.pages key).any (fun p => p.2))
  { q with
    drain := q.drainNext, reads := q.reads.erase r, writes := q.writes.erase r, pages := aSet q.pages key (r.row, changed), ranTo := stop
    burst := if r.client = v.owner t then v.slot t else none, used := aSet q.used r.rank (stop, idle), missed := q.missed + b2n missed }.enter

/-- Pages close: a check buffer that has changed is written back, four CK each (R409, R413). -/
def McQ.close (q : McQ) (gone : Nat → Bool) : McQ :=
  { q with pages := q.pages.filter (fun p => !gone p.1)
           ranTo := q.ranTo + 4 * (q.pages.filter (fun p => gone p.1 && p.2.2)).length }

/-! ### Refreshes among the bursts (R414 to R418) -/

/-- A refresh command to pair `k` of a rank at a CK: the pair is busy for 140 ns, and its round goes on (R415, R416). -/
def McChan.issue (x : McChan) (t k : Nat) : McChan :=
  let r := insertRising x.round k
  { x with owed := x.owed - 1, round := if r.length = 8 then [] else r, lastRef := t, catchup := x.catchup && decide (x.owed - 1 > x.limit)
           busy := (k, t, t + 168) :: x.busy.filter (fun b => decide (t < b.2.2)) }

/-- A rank takes a refresh command at a CK: 90 ns after the one before at the earliest, and not in power-down (R416, R417). -/
def McChan.ready (x : McChan) (t : Nat) : Bool := decide (x.lastRef + 108 ≤ t) && !x.powerDown && decide (0 < x.owed)

/-- The next pair not yet refreshed in the round. -/
def McChan.nextPair (x : McChan) : Nat := ((List.range 8).find? (fun k => !x.round.contains k)).getD 0

/-- The pair may be refreshed now (R416): not yet refreshed in the round, idle, with no queued request; the target of the real-time burst in
progress has its requests in the queue. -/
def McQ.idlePair (v : McView) (q : McQ) (x : McChan) (t k : Nat) : Bool :=
  !x.round.contains k && !v.busy x.rank k t && !(q.reads ++ q.writes ++ q.waits).any (fun r => r.rank = x.rank && r.bank % 8 = k)

/-- A refresh for which an idle pair stands ready: it takes no column of the channel. -/
def McQ.idleRefresh (v : McView) (q : McQ) (t : Nat) : Option (Nat × Nat) :=
  firstSome (fun (x : McChan) => if x.ready t then ((List.range 8).find? (q.idlePair v x t)).map (fun k => (x.rank, k)) else none) v.ranks

/-- A refresh that goes to the next pair, idle or not: at the limit (level 2), and in a catch-up (level 4). -/
def McView.forced (v : McView) (t : Nat) (late : McChan → Bool) : Option (Nat × Nat) :=
  (v.ranks.find? (fun x => x.ready t && late x)).map (fun x => (x.rank, x.nextPair))

/-- A refresh command goes: the pages of its banks close (R413). -/
def mcRefresh (v : McView) (q : McQ) (p : Nat × Nat) : McView × McQ :=
  ({ v with ranks := v.ranks.map (fun x => if x.rank = p.1 then x.issue q.ranTo p.2 else x) },
    q.close (fun k => k / 16 = p.1 && k % 8 = p.2))

/-- The first CK after `t` at which a refresh ends or may go, a request comes or the channel is given back. -/
def McQ.wakeAt (v : McView) (q : McQ) (t : Nat) : Option Nat :=
  let ends := v.ranks.flatMap (fun x => (x.lastRef + 108) :: x.busy.map (fun b => b.2.2))
  let l := (ends ++ q.hold :: (q.reads ++ q.writes).map McReq.at_).filter (fun x => decide (t < x))
  if l.isEmpty then none else some (minOf (l.getD 0 0) l)

/-- What the channel does at `ranTo`, by the levels of R414: a refresh, a burst, or nothing. -/
def McQ.next (v : McView) (idle : Nat) (q : McQ) : Option (McView × McQ) :=
  let t := q.ranTo
  let burst := fun (r : McReq) => (v, q.serve v idle r)
  let kept := fun (_ : Unit) => match v.forced t (fun x => x.catchup && decide (x.owed > x.limit)) with
    | some p => if (if v.owner t = 0 then none else q.of_ v t (v.owner t)).isNone then some (mcRefresh v q p) else (q.pick v t).map burst
    | none => (q.pick v t).map burst
  match q.idleRefresh v t with
  | some p => some (mcRefresh v q p)
  | none => match q.going v t with
    | some r => some (burst r)
    | none => match v.forced t (fun x => decide (x.owed ≥ x.limit)) with
      | some p => some (mcRefresh v q p)
      | none => kept ()

/-- The channel works on from `ranTo` up to a CK (assumption log 37). -/
def McQ.run (idle now : Nat) : Nat → McView × McQ → McView × McQ
  | 0, s => s
  | n + 1, (v, q) =>
    if q.ranTo ≥ now then (v, q) else
    match q.next v idle with
    | some s => if s.2.ranTo > now && s.2.ranTo ≠ q.ranTo then (v, q) else McQ.run idle now n s
    | none => match q.wakeAt v q.ranTo with
      | some t => if t ≤ now then McQ.run idle now n (v, { q with ranTo := t }) else (v, { q with ranTo := now })
      | none => (v, { q with ranTo := now })

/-- A request joins its queue (R413): a read of a burst that waits to be written is served from the write queue; a client whose request finds the
queue full waits. -/
def McQ.put (q : McQ) (r : McReq) : McQ :=
  if !r.write && (q.writes ++ q.waits).any (fun w => w.write && w.burst = r.burst) then q
  else if (if r.write then q.writes else q.reads).length < 64 then
    (if r.write then { q with writes := q.writes ++ [r] } else { q with reads := q.reads ++ [r] })
  else { q with waits := q.waits ++ [r] }

/-- Requests of a rank wait. -/
def McQ.wants (q : McQ) (rank : Nat) : Bool := (q.reads ++ q.writes ++ q.waits).any (fun r => r.rank = rank)

/-! ### The controller -/

/-- Set the memory controller's part. -/
def Ctl.setMc (c : Ctl) (f : McState → McState) : Ctl := { c with mc := f c.mc }

/-- What a channel of a port sees. -/
def Ctl.mcView (c : Ctl) (p ch : Nat) : McView :=
  ⟨c.mc.slotFrom, c.mc.tables.getD p [], c.mc.chans.filter (fun x => x.port = p && x.ch = ch)⟩

/-- Entries that a channel may take up between two commands: its requests, the commands that its ranks owe, and the ends of what runs. -/
def McQ.fuel (v : McView) (q : McQ) : Nat :=
  4 * (q.reads.length + q.writes.length + q.waits.length) + (v.ranks.map (fun x => 6 * x.owed + 24)).foldl (· + ·) 16

/-- Every channel has worked up to now (R413 to R418); slots that were not free count. A rank in power-down has been woken for a
reserved slot (R419; assumption log 37). In self-refresh nothing goes. -/
def Ctl.mcRun (c : Ctl) : Ctl :=
  if c.mc.qs.isEmpty then c else
  let now := ckOf c.up
  if c.mc.selfRefresh then c.setMc (fun s => { s with qs := s.qs.map (fun q => { q with ranTo := now }) }) else
  let woken := fun (x : McChan) => x.powerDown &&
    (c.mc.qs.any (fun q => q.port = x.port && q.ch = x.ch && (c.mcView q.port q.ch).reservedIn q.ranTo now))
  let c := c.setMc (fun s => { s with chans := s.chans.map (fun x => if woken x then { x with powerDown := false } else x) })
  let rs := c.mc.qs.map (fun q => (q.port, q.ch, McQ.run (c.e 0x500004) now (q.fuel (c.mcView q.port q.ch)) (c.mcView q.port q.ch, q)))
  let miss := fun (p : Nat) => ((rs.filter (fun r => r.1 = p)).map (fun r => r.2.2.2.missed)).foldl (· + ·) 0
  let rank := fun (x : McChan) => ((rs.find? (fun r => r.1 = x.port && r.2.1 = x.ch)).bind (fun r => r.2.2.1.ranks.find? (fun y => y.rank = x.rank))).getD x
  let c := c.setMc (fun s => { s with qs := rs.map (fun r => { r.2.2.2 with missed := 0 }), chans := s.chans.map rank })
  (List.range 6).foldl (fun c p => if miss p = 0 then c else c.setEa 0x5008 p (satAdd 32 (c.ea 0x5008 p) (miss p))) c

/-- A client reads or writes bursts: a request for each (R413), which wakes its rank from power-down (R419; assumption log 37); `part` are the
bursts written in part (R409). -/
def Ctl.ask (c : Ctl) (client : Nat) (write : Bool) (part : Nat → Bool) (bursts : List Nat) : Ctl :=
  if c.mc.qs.isEmpty || bursts.isEmpty then c else
  let c := c.mcRun
  let np := max 1 c.mc.np
  let rb := rowWidth (c.ea 0x5001 0)
  let rs := bursts.map (fun b =>
    let pm := dramMap np (64 * b)
    let d := devMap rb pm.2
    (pm.1, d.ch, ({ client := client, write := write, rank := d.rank, bank := d.bank, row := d.row, burst := b, at_ := ckOf c.up, merge := part b } : McReq)))
  c.setMc (fun s => { s with
    qs := s.qs.map (fun q => (rs.filter (fun r => r.1 = q.port && r.2.1 = q.ch)).foldl (fun q r => q.put r.2.2) q)
    chans := s.chans.map (fun x => if rs.any (fun r => r.1 = x.port && r.2.1 = x.ch && r.2.2.rank = x.rank) then { x with powerDown := false } else x) })

/-- A client's requests for whole bursts (assumption log 37). -/
def Ctl.requests (c : Ctl) (client : Nat) (write : Bool) (bursts : List Nat) : Ctl := c.ask client write (fun _ => false) bursts

/-- The slot cycle starts over under a plan's tables: slot 0 at the first CK after an activation flip (R414). -/
def Ctl.slotsStart (c : Ctl) (tables : List (List Byte)) : Ctl :=
  c.mcRun.setMc (fun s => { s with slotFrom := some (ckOf c.up + 1), tables := tables })

end Sys2Proof.Machine
end

