-- ==== Sys2Proof/Machine/Memory.lean ====
section
/-! DEFINITION. The LPDDR5X controller and the on-chip SRAM (14): address space, error handling of reads, refresh, scrubbing, and the
commands of the chapter but for the end of training, which stands with the start (Boot.lean). -/
namespace Sys2Proof.Machine

/-! ### Address space -/

/-- Fitted ports in use. -/
def Ctl.np (c : Ctl) : Nat := c.mc.np

/-- CAPACITY. -/
def Ctl.capacity (c : Ctl) : Nat := c.e 0x500002

/-- First address of the image region: the top 32 MiB (03 R85). -/
def Ctl.imgBase (c : Ctl) : Nat := c.capacity - 33554432

/-- A range lies in fitted DRAM and outside the image region (03 R85). -/
def Ctl.dramOk (c : Ctl) (a n : Nat) : Bool := decide (a + n ≤ c.imgBase)

/-- Memory is up (14 R405). -/
def Ctl.memReady (c : Ctl) : Bool := c.e 0x500003 = 2

/-! ### Channels -/

/-- Replace the channel record of a port, channel and rank. -/
def McState.upd (s : McState) (p ch rk : Nat) (f : McChan → McChan) : McState :=
  { s with chans := s.chans.map (fun x => if x.port = p && x.ch = ch && x.rank = rk then f x else x) }

/-- The channel record of a port, channel and rank. -/
def McState.chan (s : McState) (p ch rk : Nat) : Option McChan :=
  s.chans.find? (fun x => x.port = p && x.ch = ch && x.rank = rk)

/-! ### Reads and writes of clients -/

/-- What befalls DRAM in this step (14 R408 to R411; assumption log 13). -/
def Mem.found (m : Mem) (es : List DramErr) : Mem := es.foldl Mem.befalls m

/-- A burst lies whole in a range. -/
def wholeIn (a n b : Nat) : Bool := decide (a ≤ 64 * b) && decide (64 * b + 64 ≤ a + n)

/-- Octets stored; a burst written whole has its new check word (14 R409, R410; assumption log 30). -/
def Mem.store (m : Mem) (a : Nat) (bs : List Byte) : Mem :=
  let w := m.write a bs
  { w with errs := w.errs.filter (fun e => !wholeIn a bs.length e.1) }

/-- Port of a burst. -/
def Ctl.portOf (c : Ctl) (burst : Nat) : Nat := (dramMap (max 1 c.np) (64 * burst)).1

/-- One poisoned burst read by a client: counted, its address kept, DRAM_ECC_UNCORRECTED posted (14 R410; assumption log 18). -/
def Ctl.eccUnc (c : Ctl) (client scrub burst : Nat) : Ctl :=
  let c := (c.incEa 0x5003 (c.portOf burst)).addReg .mcEccStatus 0 16 16 1
  let c := (c.setReg .mcErrAddrLo 0 0 (64 * burst % 2 ^ 32)).setReg .mcErrAddrHi 0 0 (64 * burst / 2 ^ 32)
  c.post 0x40C1 [i32 burst, i8 client, i8 scrub]

/-- A corrected error of a port: counted, reported at most once per second (14 R410, R421). -/
def Ctl.eccCorrected (c : Ctl) (p : Nat) : Ctl :=
  let c := (c.incEa 0x5002 p).addReg .mcEccStatus 0 0 16 1
  let due := match aGet c.mc.eccPosted p with
    | some t => decide (c.up ≥ t + tS 1)
    | none => true
  if due then (c.setMc (fun s => { s with eccPosted := aSet s.eccPosted p c.up })).post 0x4003 [i8 p, i32 (c.ea 0x5002 p)] else c

/-- What a read of one burst finds (14 R410, R411): a link error corrected is counted, a read that fails is repeated; an uncorrectable burst is
reported, a corrected one is counted and written back (assumption log 13). -/
def Ctl.readBurst (c : Ctl) (m : Mem) (client scrub b : Nat) : Ctl :=
  let c := match aGet m.link b with
    | none => c
    | some 1 => c.incEa 0x5004 (c.portOf b)
    | some _ => c.requests client false [b]
  if m.bad b then c.eccUnc client scrub b
  else if m.errOf b = 0 then c
  else ((c.eccCorrected (c.portOf b)).setMc (fun s => { s with fixes := b :: s.fixes })).requests 0 true [b]

/-- A client reads bursts (14 R410, R413). -/
def Ctl.readBursts (c : Ctl) (m : Mem) (client : Nat) (l : List Nat) : Ctl :=
  if m.errs.isEmpty && m.link.isEmpty then c.requests client false l
  else l.foldl (fun c b => c.readBurst m client 0 b) (c.requests client false l)

/-- A client reads a range (14 R410, R413; assumption log 13). -/
def Ctl.readDram (c : Ctl) (m : Mem) (client a n : Nat) : Ctl := c.readBursts m client (burstsOf a n)

/-- A client writes bursts, `part` of them in part: such a burst is read, merged and written in one entry, and the read may find an error (14
R409; assumption log 30). -/
def Ctl.writeBursts (c : Ctl) (m : Mem) (client : Nat) (part : Nat → Bool) (l : List Nat) : Ctl :=
  let c := c.ask client true part l
  if m.errs.isEmpty && m.link.isEmpty then c else (l.filter part).foldl (fun c b => c.readBurst m client 0 b) c

/-- A client writes a range (14 R409, R413). -/
def Ctl.writeDram (c : Ctl) (m : Mem) (client a n : Nat) : Ctl := c.writeBursts m client (fun b => !wholeIn a n b) (burstsOf a n)

/-- A client stores octets at an address (14 R409). -/
def dramStore (client a : Nat) (bs : List Byte) (m : Mem) (c : Ctl) : Mem × Ctl := (m.store a bs, c.writeDram m client a bs.length)

/-- Octets of a range before its first poisoned burst. -/
def Mem.cleanPrefix (m : Mem) (a n : Nat) : Nat :=
  match (burstsOf a n).find? m.bad with
  | some b => 64 * b - a
  | none => n

/-! ### Refresh -/

/-- Refresh interval in ns, and postponement limit, of an MR4 rate code (14 R415). -/
def refreshRow (rate : Nat) : Nat × Nat :=
  if rate = 0 then (1952, 64) else if rate = 1 then (976, 64) else if rate = 2 then (488, 64)
  else if rate = 3 then (244, 32) else (122, 16)

/-- REFRESH_RATE and OWED_MAX of a port show its channels (14 R422). -/
def Ctl.mcShow (c : Ctl) (p : Nat) : Ctl :=
  let xs := c.mc.chans.filter (fun x => x.port = p)
  let c := c.setEa 0x5005 p (maxOf (xs.map McChan.rate))
  c.setEa 0x5006 p (max (c.ea 0x5006 p) (maxOf (xs.map McChan.owed)))

/-! ### The commands -/

/-- MR4_READ (14 R415, R418): the refresh-rate field of one channel and rank, which is read every 1 ms (assumption log 35). -/
def Ctl.mr4Read (c : Ctl) (p ch rk rate : Nat) : Ctl :=
  let c := c.mcRun
  match c.mc.chan p ch rk with
  | none => c
  | some x =>
    if !c.memReady || c.mc.selfRefresh || decide (c.up < x.mr4At + tMs 1) then c else
    let lim := (refreshRow rate).2
    let start := decide (rate > x.rate) && decide (rate ≥ 3) && decide (x.owed > lim)
    let c := c.setMc (fun s => s.upd p ch rk (fun y =>
        { y with rate := rate, limit := lim, catchup := start || (y.catchup && decide (y.owed > lim)), mr4At := c.up }))
    let c := c.mcShow p
    let c := if rate ≠ x.rate then c.post 0x4002 [i8 p, i8 ch, i8 rk, i8 rate] else c
    let c := if start then (c.incEa 0x5007 p).post 0x4041 [i8 p, i8 ch, i8 rk, i8 x.owed] else c
    if rate ≥ 5 ∧ x.rate < 5 then c.post 0x40C2 [i8 p, i8 ch, i8 rk] else c

/-- REFRESH_DUE (14 R415, R417): the interval of the rank's rate has passed, and it owes one command more. At half the limit it leaves power-down. The
commands go as the channel works (McSched.lean). -/
def Ctl.refreshDue (c : Ctl) (p ch rk : Nat) : Ctl :=
  let c := c.mcRun
  match c.mc.chan p ch rk with
  | some x =>
    let stop := x.dueAt + tNs (refreshRow x.rate).1
    if !c.memReady || c.mc.selfRefresh || decide (c.up < stop) then c else
    let c := c.setMc (fun s => s.upd p ch rk (fun y =>
      { y with owed := y.owed + 1, dueAt := stop, powerDown := y.powerDown && decide (y.owed + 1 < y.limit / 2) }))
    c.mcShow p
  | none => c

/-- A training action of R406 takes 1 µs of a channel (1,200 CK) in the non-real-time share and closes its pages (R413). -/
def Ctl.mcAction (c : Ctl) (p ch : Nat) (f : McChan → McChan) : Ctl :=
  let c := c.mcRun
  c.setMc (fun s => { s with
    chans := s.chans.map (fun x => if x.port = p && x.ch = ch then { f x with actAt := some c.up } else x)
    qs := s.qs.map (fun q => if q.port = p && q.ch = ch then { q.close (fun _ => true) with hold := max q.hold (ckOf c.up + 1200) } else q) })

/-- The trims of a channel are STALE for the time that its action takes (14 R406, 19 R540). -/
def Ctl.trimsStale (c : Ctl) : Bool := c.mc.chans.any (fun x => x.actAt.any (fun t => decide (c.up < t + tUs 1)))

/-- ZQ_LATCH (14 R406): due 32 ms after the last. -/
def Ctl.zqLatch (c : Ctl) (p ch : Nat) : Ctl :=
  if !c.memReady || c.mc.selfRefresh || !c.mc.chans.any (fun x => x.port = p && x.ch = ch && decide (x.zqAt + tMs 32 ≤ c.up)) then c
  else c.mcAction p ch (fun x => { x with zqAt := c.up })

/-- WCK_TRACK (14 R406): due 100 ms after the last. -/
def Ctl.wckTrack (c : Ctl) (p ch : Nat) : Ctl :=
  if !c.memReady || c.mc.selfRefresh || !c.mc.chans.any (fun x => x.port = p && x.ch = ch && decide (x.trackAt + tMs 100 ≤ c.up)) then c
  else c.mcAction p ch (fun x => { x with trackAt := c.up })

/-- POWER_DOWN_ENTRY (14 R419): no queued request, no column command for PD_IDLE CK as it stood when the idle time began, and no reserved slot
within 16 CK. The pages stay open. -/
def Ctl.powerDownEntry (c : Ctl) (p ch rk : Nat) : Ctl :=
  let c := c.mcRun
  let now := ckOf c.up
  let idle := c.mc.qs.any (fun q => q.port = p && q.ch = ch && !q.wants rk && (aGet q.used rk).any (fun u => decide (u.1 + u.2 ≤ now)) &&
    !(c.mcView p ch).reservedIn now now)
  if !c.memReady || c.mc.selfRefresh || !idle then c else c.setMc (fun s => s.upd p ch rk (fun x => { x with powerDown := true }))

/-- Data bursts of the address space, and check blocks: one for each data row of each bank, rank, channel and port (14 R408). -/
def Ctl.scrubSizes (c : Ctl) : Nat × Nat := (c.capacity / 64, c.np * 4 * c.mc.ranks * 16 * dataRows (rowWidth (c.ea 0x5001 0)))

/-- The scrubber's next read is due: its pass, of data bursts and then of check blocks, is spread over SCRUB_PERIOD (14 R412; assumption log 38). -/
def Ctl.scrubDue (c : Ctl) : Bool :=
  decide (c.mc.scrubFrom + c.mc.scrubAt * tS (3600 * c.e 0x500005) / max 1 (c.scrubSizes.1 + c.scrubSizes.2) ≤ c.up)

/-- PATROL_SCRUB (14 R412): the next burst, or check block, is read (assumption log 38). -/
def scrubStep (m : Mem) (c : Ctl) : Mem × Ctl :=
  if !c.memReady || c.mc.selfRefresh || !c.scrubDue then (m, c) else
  let k := c.mc.scrubAt
  let n := c.scrubSizes
  let c := if k < n.1 then (c.requests 0 false [k]).readBurst m 0 1 k else c
  (m, c.setMc (fun s => if k + 1 ≥ n.1 + n.2 then { s with scrubAt := 0, scrubFrom := c.up } else { s with scrubAt := k + 1 }))

/-- SRAM_SCRUB (14 R420): `fixed` single-bit errors that reads of owners have corrected since the last pass, and the words that the pass finds
with flipped bits: partition, word and bits of its 72 (assumption log 38). -/
def Ctl.sramScrub (c : Ctl) (fixed : Nat) (words : List (Nat × Nat × Nat)) : Ctl :=
  let c := c.addE 0x500007 (fixed + (words.filter (fun p => match sramRead p.2.2 with
    | .fixed _ => true
    | .clean | .bad => false)).length)
  (words.filter (fun p => sramRead p.2.2 = .bad)).foldl (fun c p => c.post 0x40C4 [i8 p.1, i32 p.2.1]) c

/-- MR4_READ. -/
def execMr4Read (dt port ch rank rate : Nat) (s : State) : Host.Outcome State Fault Refusal :=
  runC (fun c => (c.advance dt).mr4Read port ch rank rate) s
/-- REFRESH_DUE. -/
def execRefreshDue (dt port ch rank : Nat) (s : State) : Host.Outcome State Fault Refusal :=
  runC (fun c => (c.advance dt).refreshDue port ch rank) s
/-- ZQ_LATCH. -/
def execZqLatch (dt port ch : Nat) (s : State) : Host.Outcome State Fault Refusal :=
  runC (fun c => (c.advance dt).zqLatch port ch) s
/-- WCK_TRACK. -/
def execWckTrack (dt port ch : Nat) (s : State) : Host.Outcome State Fault Refusal :=
  runC (fun c => (c.advance dt).wckTrack port ch) s
/-- PATROL_SCRUB. -/
def execPatrolScrub (dt : Nat) (ue : List DramErr) (s : State) : Host.Outcome State Fault Refusal :=
  runM (fun m c => scrubStep (m.found ue) (c.advance dt)) s
/-- POWER_DOWN_ENTRY. -/
def execPowerDownEntry (dt port ch rank : Nat) (s : State) : Host.Outcome State Fault Refusal :=
  runC (fun c => (c.advance dt).powerDownEntry port ch rank) s

end Sys2Proof.Machine
end

