-- ==== Sys2Proof/Machine/BootRec.lean ====
section
/-! DEFINITION. The boot record in its two copies (18 R503). -/
namespace Sys2Proof.Machine

/-- Copy A is the one in use: valid, and of the higher sequence number. -/
def BtState.useA (b : BtState) : Bool := b.recOk.1 && (!b.recOk.2 || decide (b.recA.seq ≥ b.recB.seq))

/-- The boot record. -/
def Ctl.boot (c : Ctl) : BootRec := if c.bt.useA then c.bt.recA else if c.bt.recOk.2 then c.bt.recB else {}

/-- Change the boot part. -/
def Ctl.setBt (c : Ctl) (f : BtState → BtState) : Ctl := { c with bt := f c.bt }

/-- An update writes the other copy as a one-word transaction; none once MRAM writing has stopped (R501, R503). -/
def Ctl.setBoot (c : Ctl) (f : BootRec → BootRec) : Ctl :=
  if c.bt.mramStopped then c else
  let r := { f c.boot with seq := c.boot.seq + 1 }
  if c.bt.useA then c.setBt (fun b => { b with recB := r, recOk := (b.recOk.1, true) })
  else c.setBt (fun b => { b with recA := r, recOk := (true, b.recOk.2) })

end Sys2Proof.Machine
end

