-- ==== Sys2Proof/Machine/Mram.lean ====
section
/-! DEFINITION. The MRAM (18 R499 to R503): its words and what they hold, SECDED on reads, the journal and its replay. -/
namespace Sys2Proof.Machine

/-! ### What the words hold (R499; assumption log 82) -/

/-- The rows of the dictionary store: Persist Yes, but the keys. -/
def storeRows : List DictRow := dictRows.filter (fun d => d.persist = .yes && d.lo / 256 ≠ 0x1600 && d.lo / 256 ≠ 0x1601)

/-- Home words of one element of a row. -/
def DictRow.words (d : DictRow) : Nat := ceilDiv (max 1 (if d.ty.isOct then d.len.2 else d.ty.size)) 32

/-- The row of a key among rows whose words begin at `base`, with the first word of the key. -/
def storeSeek (k : Nat) : List DictRow → Nat → Option (DictRow × Nat)
  | [], _ => none
  | d :: l, base => if d.lo ≤ k ∧ k < d.lo + d.n then some (d, base + d.words * (k - d.lo)) else storeSeek k l (base + d.words * d.n)

/-- The home words of an entry: those of the dictionary store, or of the Xezor keys in the key region (assumption log 82). -/
def homeWords (k : Nat) : List Nat :=
  if k / 256 = 0x1601 then (List.range 2).map (fun j => 0x7C004 + 2 * (k % 256 - 1) + j)
  else match storeSeek k storeRows 0x70000 with
    | some (d, w) => (List.range d.words).map (· + w)
    | none => []

/-- The key whose value word `w` holds, its row, and which of its words `w` is. -/
def storeFind (w : Nat) : List DictRow → Nat → Option (Nat × DictRow × Nat)
  | [], _ => none
  | d :: l, base => if w < base + d.words * d.n then some (d.lo + (w - base) / d.words, d, (w - base) % d.words) else storeFind w l (base + d.words * d.n)

/-- The entry whose value word `w` of the MRAM holds. -/
def entryOf (w : Nat) : Option (Nat × DictRow × Nat) :=
  if 0x7C004 ≤ w ∧ w < 0x7C00C then (dictRow 0x160101).map (fun d => (ekey 0x1601 ((w - 0x7C004) / 2 + 1), d, (w - 0x7C004) % 2))
  else if 0x70000 ≤ w ∧ w < 0x78000 then storeFind w storeRows 0x70000
  else none

/-- A boot record as its word: 28 octets and their CRC-32 (R503; assumption log 82). -/
def BootRec.word (r : BootRec) : List Byte :=
  let flags := b2n r.startPending + 2 * b2n r.tadpoleLatch + 4 * b2n r.trialStarted + 8 * b2n r.tryNext
  let l := toLE 4 r.seq ++ [r.runSlot, r.slotState.1, r.slotState.2, flags, r.failedStarts, r.stage, r.failHistory.getD 0 0, r.failHistory.getD 1 0,
    r.failHistory.getD 2 0, r.panelRate.elim 0 (· + 1), r.tadpoleReason].map byteOf ++ List.replicate 13 0
  l ++ toLE 4 (crc32 l)

/-- The boot record that a word holds; none where its CRC fails (assumption log 82). -/
def recOf (b : List Byte) : Option BootRec :=
  if leAt b 28 4 ≠ crc32 (b.take 28) then none else
  some { seq := leAt b 0 4, runSlot := u8At b 4, slotState := (u8At b 5, u8At b 6), startPending := bit (u8At b 7) 0, tadpoleLatch := bit (u8At b 7) 1,
         trialStarted := bit (u8At b 7) 2, tryNext := bit (u8At b 7) 3, failedStarts := u8At b 8, stage := u8At b 9,
         failHistory := [u8At b 10, u8At b 11, u8At b 12], panelRate := if u8At b 13 = 0 then none else some (u8At b 13 - 1), tadpoleReason := u8At b 14 }

/-- Octets with those from `off` on replaced; zeros fill a gap. -/
def patch (l : List Byte) (off : Nat) (b : List Byte) : List Byte :=
  l.take off ++ List.replicate (off - l.length) 0 ++ b ++ l.drop (off + b.length)

/-- Octets without the zeros behind the last other octet, at least `n` of them. -/
def trimZeros (n : Nat) (l : List Byte) : List Byte := l.take (max n (l.length - (l.reverse.takeWhile (· = 0)).length))

/-- KEY_ID: the first 8 octets of the key's SHA-256 (R513). -/
def keyId (k : List Byte) : Nat := leAt (sha256 k) 0 8

/-- The log record of 32 octets (20 R565). -/
def logRecOf (b : List Byte) : LogRec :=
  ⟨⟨leAt b 0 2, leAt b 2 6, leAt b 8 8⟩, leAt b 16 4, leAt b 20 2, u8At b 22, u8At b 23, leAt b 24 2, u8At b 26⟩

/-- A home word takes its octets. A record of FAULT_HISTORY is the newest of it (20 R564). The stored area is invalid while a store is not complete, and stays so (03 R105; assumption log 82). -/
def Ctl.homeWrite (c : Ctl) (h : Nat × List Byte) : Ctl :=
  let w := h.1
  let b := h.2
  let c := c.setBt (fun s => { s with mramErrs := aDel s.mramErrs w })
  if w < 0x58000 then (if c.xz.stored.isEmpty then c else c.setXz (fun x => { x with stored := patch x.stored (32 * w) b }))
  else if w < 0x64000 then c.setBt (fun s => { s with slotA := patch s.slotA (32 * (w - 0x58000)) b })
  else if w < 0x70000 then c.setBt (fun s => { s with slotB := patch s.slotB (32 * (w - 0x64000)) b })
  else if w = 0x7C000 then c.setBt (fun s => { s with recA := (recOf b).getD s.recA, recOk := ((recOf b).isSome, s.recOk.2) })
  else if w = 0x7C001 then c.setBt (fun s => { s with recB := (recOf b).getD s.recB, recOk := (s.recOk.1, (recOf b).isSome) })
  else if w = 0x7C002 then { c.setBt (fun s => { s with installerKey := some b }) with nv := aSet c.nv 0x160002 (.num (keyId b)) }
  else if w = 0x7C003 then { c.setBt (fun s => { s with popKey := b }) with nv := aSet c.nv 0x160004 (.num (keyId b)) }
  else if w = 0x7C00C then c.setBt (fun s => { s with popSaved := leAt b 0 8 })
  else match entryOf w with
    | none => c
    | some (k, d, i) =>
      if k / 256 = 0x7020 then { c with fm := { c.fm with history := (c.fm.history ++ [logRecOf b]).drop ((c.fm.history.length + 1) - 64) } } else
      let old := (((aGet c.nv k).getD (dfltVal k)).octets d.ty)
      let v := patch old (32 * i) b
      { c with nv := aSet c.nv k (if d.ty.isOct then .oct (trimZeros d.len.1 (v.take d.len.2)) else valOf d.ty (v.take d.ty.size)) }

/-! ### SECDED on reads (R499) -/

/-- Bits of MRAM words flip (assumption log 126). -/
def Ctl.mramFlip (c : Ctl) (l : List (Nat × Nat)) : Ctl :=
  l.foldl (fun c f => c.setBt (fun s =>
    let m := ((aGet s.mramErrs f.1).getD 0) ^^^ f.2
    { s with mramErrs := if m = 0 then aDel s.mramErrs f.1 else aSet s.mramErrs f.1 m })) c

/-- A word that is read: corrected and counted, or lost (assumption log 38). -/
def mramRead (mask : Nat) : EccRead := hamRead 256 9 (bitsOf 266 mask)

/-- Words are read: the corrected ones are counted; the lost ones are answered, and what was in them stands no more (assumption log 126). -/
def Ctl.mramWords (c : Ctl) (f : Nat → Bool) : Ctl × List Nat :=
  let l := c.bt.mramErrs.filter (fun e => f e.1)
  let fixed := (l.filter (fun e => match mramRead e.2 with
    | .fixed _ => true
    | .clean | .bad => false)).length
  ((c.addE 0x110007 fixed).setBt (fun s => { s with mramErrs := s.mramErrs.filter (fun e => !f e.1) }), (l.filter (fun e => mramRead e.2 = .bad)).map Prod.fst)

/-- The octets of a word are not what was written (assumption log 38). -/
def damage (b : List Byte) (w : Nat) : List Byte := b.modify (32 * w) (fun x => x + 1)

/-- A lost word, by its address: what its region makes of it (assumption log 38; assumption log 82). -/
def Ctl.lostWord (c : Ctl) (w : Nat) : Ctl :=
  if w < 0x58000 then c.setXz (fun x => { x with stored := damage x.stored w })
  else if w < 0x64000 then c.setBt (fun s => { s with slotA := damage s.slotA (w - 0x58000) })
  else if w < 0x70000 then c.setBt (fun s => { s with slotB := damage s.slotB (w - 0x64000) })
  else if w = 0x7C000 then c.setBt (fun b => { b with recOk := (false, b.recOk.2) })
  else if w = 0x7C001 then c.setBt (fun b => { b with recOk := (b.recOk.1, false) })
  else match entryOf w with
    | some (k, _, _) => { c with
        nv := aDel c.nv k
        fm := if k / 256 = 0x7020 then { c.fm with history := c.fm.history.eraseIdx (k % 256 - 1) } else c.fm }
    | none => c

/-- Events of a lost word. -/
def lostEvents (w : Nat) : List (Nat × List (Nat × Nat)) :=
  (0x01C2, [i32 w]) :: (match entryOf w with
    | some (k, _, _) => [(0x0182, [i16 (k / 256), i8 (k % 256)])]
    | none => [])

/-- Words are read while the part runs (assumption log 126). -/
def Ctl.mramUse (c : Ctl) (f : Nat → Bool) : Ctl :=
  let r := c.mramWords f
  r.2.foldl (fun c w => (lostEvents w).foldl (fun c e => c.post e.1 e.2) (c.lostWord w)) r.1

/-! ### The journal (R500 to R502) -/

/-- Pieces of seven. -/
def sevens (fuel : Nat) (l : List (Nat × List Byte)) : List (List (Nat × List Byte)) := match fuel with
  | 0 => []
  | fuel + 1 => if l.isEmpty then [] else l.take 7 :: sevens fuel (l.drop 7)

/-- The ADDR words of a transaction, each with the data words of its group. -/
def journalBody (homes : List (Nat × List Byte)) : List (List Byte) :=
  (sevens homes.length homes).flatMap (fun g =>
    (toLE 2 2 ++ [0, 0] ++ (g.map (fun h => toLE 4 h.1)).flatten ++ List.replicate (28 - 4 * g.length) 0xFF) :: g.map Prod.snd)

/-- All word writes of a transaction in their order: HEAD, ADDR and data words, COMMIT, home words, DONE (R500). -/
def journalWords (id : Nat) (homes : List (Nat × List Byte)) : List (List Byte) :=
  let body := journalBody homes
  let crc := toLE 4 (crc32 body.flatten)
  (toLE 2 1 ++ toLE 2 homes.length ++ toLE 4 id ++ crc ++ List.replicate 20 0) :: body ++
  [toLE 2 3 ++ [0, 0] ++ toLE 4 id ++ crc ++ List.replicate 20 0] ++ homes.map Prod.snd ++ [toLE 2 4 ++ [0, 0] ++ toLE 4 id ++ List.replicate 24 0]

/-- Word writes of a transaction of `n` home words up to COMMIT (R500). -/
def txnCommit (n : Nat) : Nat := n + ceilDiv n 7 + 2
/-- All word writes of a transaction. -/
def txnWords (n : Nat) : Nat := 2 * n + ceilDiv n 7 + 3

/-- The home words that groups of ADDR and data words give, `n` of them, and the words behind the groups. -/
def readGroups (fuel n : Nat) (l : List (List Byte)) : List (Nat × List Byte) × List (List Byte) := match fuel with
  | 0 => ([], l)
  | fuel + 1 => if n = 0 then ([], l) else
    match l with
    | [] => ([], [])
    | a :: l =>
      let k := min n 7
      let r := readGroups fuel (n - k) (l.drop k)
      (((List.range k).map (fun i => leAt a (4 + 4 * i) 4)).zip (l.take k) ++ r.1, r.2)

/-- What the ring holds of a transaction: its home words where it is committed and not done (R502), else nothing. -/
def replayTxn (ring : List (List Byte)) : Option (List (Nat × List Byte)) := match ring with
  | [] => none
  | h :: l =>
    if leAt h 0 2 ≠ 1 then none else
    let n := leAt h 2 2
    let r := readGroups (n + 1) n l
    let words := l.take (n + ceilDiv n 7)
    match r.2 with
    | [] => none
    | m :: rest =>
      let done := rest.any (fun d => leAt d 0 2 = 4 && leAt d 4 4 = leAt h 4 4 && decide (rest.length = n + 1))
      if leAt m 0 2 = 3 && leAt m 4 4 = leAt h 4 4 && leAt m 8 4 = leAt h 8 4 && crc32 words.flatten = leAt h 8 4 && !done then some r.1 else none

/-- Replay of the journal (R502; assumption log 82). -/
def Ctl.replay (c : Ctl) : Ctl :=
  let d := replayTxn c.bt.ring
  ((d.getD []).foldl Ctl.homeWrite c).setBt (fun b => { b with ring := [], replayed := b2n d.isSome })

/-- MRAM writing stops (R501): `cut` is the transaction in progress (assumption log 82). -/
def Ctl.mramStop (c : Ctl) (cut : Option MramCut) : Ctl :=
  if c.bt.mramStopped then c else
  let c := c.setBt (fun b => { b with mramStopped := true })
  match cut with
  | none => c
  | some t =>
    let n := t.homes.length
    let c := (t.homes.take (t.written - txnCommit n)).foldl Ctl.homeWrite c
    c.setBt (fun b => { b with ring := if t.written ≥ txnWords n then [] else (journalWords b.nextTxn t.homes).take t.written, nextTxn := b.nextTxn + 1 })

/-! ### Transactions of the model's own writes: each is whole in its step -/

/-- The home words of a value, with what they take. -/
def homesOf (k : Nat) (v : EVal) : List (Nat × List Byte) := match dictRow k with
  | none => []
  | some d =>
    let b := v.octets d.ty
    let l := homeWords k
    (l.zip (List.range l.length)).map (fun p => (p.1, slice (b ++ List.replicate (32 * l.length - b.length) 0) (32 * p.2) 32))

/-- A dictionary transaction has been written: its journal words have passed the snoop point MRAM_WRITE (15 R438; assumption log 123; assumption log 82). -/
def Ctl.journalled (c : Ctl) (l : List (Nat × EVal)) : Ctl :=
  if c.bt.mramStopped || l.isEmpty then c else
  let homes := l.flatMap (fun p => homesOf p.1 p.2)
  let w := journalWords c.bt.nextTxn homes
  let c := c.setBt (fun b => { b with nextTxn := b.nextTxn + 1 })
  c.snoopPass 7 0 (w.take (txnCommit homes.length) ++ w.drop (txnWords homes.length - 1)).flatten

/-- An entry's value goes to its home words; none once MRAM writing has stopped (R501). -/
def Ctl.saveEv (c : Ctl) (k : Nat) (v : EVal) : Ctl :=
  if c.bt.mramStopped then c
  else { c.setBt (fun b => { b with mramErrs := b.mramErrs.filter (fun e => !(homeWords k).contains e.1) }) with nv := aSet c.nv k v }

/-- A value of its own is a transaction. -/
def Ctl.saveOne (c : Ctl) (k : Nat) (v : EVal) : Ctl := (c.journalled [(k, v)]).saveEv k v

/-- A number entry takes a value and keeps it. -/
def Ctl.keepE (c : Ctl) (k n : Nat) : Ctl := (c.setE k n).saveOne k (.num n)

end Sys2Proof.Machine
end

