-- ==== Sys2Proof/Machine/Flip.lean ====
section
/-! DEFINITION. The series of frame flips (13 R379, R383 to R386): when flip n falls, and which flip is the first at or after a Tick. -/
namespace Sys2Proof.Machine

/-- 2^16 × 10^12 (13 R383). -/
def flipK : Nat := 65536 * 1000000000000

/-- T_n of a series (13 R383). -/
def flipTick (epoch idx rate n : Nat) : Nat := (epoch + (n - idx) * flipK / rate) % 2 ^ 64

/-- T_n of the series in force, and after a pending change of the new one (13 R385). -/
def Ctl.tn (c : Ctl) (n : Nat) : Nat :=
  match c.tb.rateChange with
  | some r => if n > r.fcIndex then flipTick r.fcTick r.fcIndex r.rate n else flipTick (c.e 0x230007) (c.e 0x230015) (c.e 0x230006) n
  | none => flipTick (c.e 0x230007) (c.e 0x230015) (c.e 0x230006) n

/-- The first flip of one series at or after a Tick, from flip `n0` on. -/
def firstFlip (epoch idx rate n0 t : Nat) : Nat :=
  let d := tickD t (flipTick epoch idx rate n0)
  if d ≤ 0 then n0 else
  let m := n0 + d.toNat * rate / flipK
  if tickD (flipTick epoch idx rate m) t ≥ 0 then m else m + 1

/-- The next flip number: the one kept while flips are issued, else the first of the series from now on. -/
def Ctl.nextFlip (c : Ctl) : Nat :=
  if c.tb.issuing then c.tb.nextIndex else firstFlip (c.e 0x230007) (c.e 0x230015) (c.e 0x230006) (c.e 0x230015) c.now

/-- The first flip at or after a Tick, over a pending change of the rate. -/
def Ctl.flipAt (c : Ctl) (t : Nat) : Nat :=
  let n := firstFlip (c.e 0x230007) (c.e 0x230015) (c.e 0x230006) c.nextFlip t
  match c.tb.rateChange with
  | some r => if n > r.fcIndex then firstFlip r.fcTick r.fcIndex r.rate r.fcIndex t else n
  | none => n

/-- Instant of the next flip. -/
def Ctl.nextTick (c : Ctl) : Nat := c.tn c.nextFlip

/-- The flip period in force, in units of the Tick. -/
def Ctl.period (c : Ctl) : Nat := flipK / c.e 0x230006

/-- "The flip rate in force" of the image checks (13 R386). -/
def Ctl.rateInForce (c : Ctl) : Nat := match c.tb.rateChange with
  | some r => r.rate
  | none => c.e 0x230006

/-- The Tick has passed a target (13 R380). -/
def Ctl.due (c : Ctl) (t : Nat) : Bool := decide (tickD t c.now ≤ 0)

end Sys2Proof.Machine
end

