-- ==== Sys2Proof/Machine/RingCode.lean ====
section
/-! DEFINITION. The line code of the ring at codes 4 and 5: the RS(272,258) code over GF(2^10) (12 R359), and the frame of 16 codewords cut
into 680 words (R355). Polynomials are lists of coefficients, the lowest degree first, but for codewords, which run as they are sent. -/
namespace Sys2Proof.Machine

/-! ### GF(2^10) with x^10 + x^3 + 1 -/

/-- Times α. -/
def gfTwice (x : Nat) : Nat := if 2 * x < 1024 then 2 * x else (2 * x) ^^^ 0x409
/-- A product. -/
def gfMul (a b : Nat) : Nat := [9, 8, 7, 6, 5, 4, 3, 2, 1, 0].foldl (fun r i => gfTwice r ^^^ (if bit b i then a else 0)) 0
/-- The powers 0 to n - 1 of α, from a start. -/
def gfPowers : Nat → Nat → List Nat
  | 0, _ => []
  | n + 1, x => x :: gfPowers n (gfTwice x)
/-- α^n. -/
def gfAlpha (n : Nat) : Nat := (List.range (n % 1023)).foldl (fun x _ => gfTwice x) 1
/-- 1 / x as x^1022: 1022 is 1111111110 in binary. -/
def gfInv (x : Nat) : Nat :=
  gfMul ((List.range 8).foldl (fun r _ => gfMul (gfMul r r) x) x) ((List.range 8).foldl (fun r _ => gfMul (gfMul r r) x) x)
/-- A polynomial at a place. -/
def gfEval (p : List Nat) (x : Nat) : Nat := p.foldr (fun a r => gfMul r x ^^^ a) 0
/-- Sum of two polynomials. -/
def gfAdd (p q : List Nat) : List Nat := (List.range (max p.length q.length)).map (fun i => p.getD i 0 ^^^ q.getD i 0)
/-- A polynomial times a number. -/
def gfScale (k : Nat) (p : List Nat) : List Nat := p.map (gfMul k)

/-! ### The code (R359) -/

/-- g(x) without its leading 1: the product of (x - α^0) to (x - α^13), lowest degree first. -/
def rsGen : List Nat := ((gfPowers 14 1).foldl (fun g a => gfAdd (0 :: g) (gfScale a g)) [1]).take 14

/-- The 14 parity symbols of 258 message symbols, as they are sent. -/
def rsParity (m : List Nat) : List Nat :=
  (m.foldl (fun (r : List Nat) s => let f := s ^^^ r.getD 13 0; gfAdd (0 :: r.take 13) (gfScale f rsGen)) (List.replicate 14 0)).reverse

/-- The codeword of 258 message symbols. -/
def rsEncode (m : List Nat) : List Nat := m ++ rsParity m

/-- The 14 syndromes of a codeword as it came. -/
def rsSyndromes (cw : List Nat) : List Nat := (gfPowers 14 1).map (fun a => cw.foldl (fun r s => gfMul r a ^^^ s) 0)

/-- The search for the error locator: the locator, the one before its last change of length, its length, the steps since, and the
discrepancy then. -/
structure RsSearch where
  loc : List Nat := [1]
  old : List Nat := [1]
  len : Nat := 0
  gap : Nat := 1
  disc : Nat := 1

/-- One syndrome more. -/
def rsStep (syn : List Nat) (q : RsSearch) (n : Nat) : RsSearch :=
  let d := (List.range (q.len + 1)).foldl (fun r i => r ^^^ gfMul (q.loc.getD i 0) (if i ≤ n then syn.getD (n - i) 0 else 0)) 0
  if d = 0 then { q with gap := q.gap + 1 } else
  let next := gfAdd q.loc (List.replicate q.gap 0 ++ gfScale (gfMul d (gfInv q.disc)) q.old)
  if 2 * q.len ≤ n then ⟨next, q.loc, n + 1 - q.len, 1, d⟩ else { q with loc := next, gap := q.gap + 1 }

/-- A codeword as it came, corrected, and the places of the symbols corrected; none when more than 7 symbols are wrong (R359). -/
def rsDecode (cw : List Nat) : Option (List Nat × List Nat) :=
  let syn := rsSyndromes cw
  if syn.all (· = 0) then some (cw, []) else
  let q := (List.range 14).foldl (rsStep syn) {}
  let eva := (List.range 14).map (fun n => (List.range (n + 1)).foldl (fun r i => r ^^^ gfMul (q.loc.getD i 0) (syn.getD (n - i) 0)) 0)
  let der := (List.range q.loc.length).map (fun i => if i % 2 = 0 then q.loc.getD (i + 1) 0 else 0)
  let found := ((List.range cw.length).map (fun j => (j, gfAlpha (1023 - (cw.length - 1 - j))))).filter (fun r => gfEval q.loc r.2 = 0)
  let fixed := found.foldl (fun c r => c.set r.1 (c.getD r.1 0 ^^^ gfMul (gfInv r.2) (gfMul (gfEval eva r.2) (gfInv (gfEval der r.2))))) cw
  if decide (q.len ≤ 7) && found.length = q.len && (rsSyndromes fixed).all (· = 0) then some (fixed, found.map Prod.fst) else none

/-! ### The frame (R355) -/

/-- Words of a frame at a rate code. -/
def frameWords (code : Nat) : Nat := if code < 4 then 648 else 680
/-- Wire bits of a frame, by rate code (R353, R358). -/
def frameBits (code : Nat) : Nat := frameWords code * (if code < 2 then 80 else 66)
/-- Content words of a frame. -/
def contentWords (code : Nat) : Nat := if code < 4 then 640 else 637

/-- Words of 64 bits, or of any other width, in one string. -/
def wordsJoin (w : Nat) (l : List Nat) : Nat := l.foldl (fun r x => r * 2 ^ w + x % 2 ^ w) 0
/-- A string of n words of a width, the first on top. -/
def wordsCut (w n s : Nat) : List Nat := (List.range n).map (fun i => s / 2 ^ (w * (n - 1 - i)) % 2 ^ w)

/-- The 680 words that carry 645 message words: their bits in 16 messages of 258 symbols, each with its parity. -/
def fecFrame (msg : List Nat) : List Nat :=
  let cws := (wordsCut 2580 16 (wordsJoin 64 msg)).map (fun m => wordsJoin 10 (rsEncode (wordsCut 10 258 m)))
  wordsCut 64 680 (wordsJoin 2720 cws)

/-- What a decoder makes of 680 words: the 645 message words, the wire words of the symbols corrected (a symbol counts with the word of its
first bit; assumption log 57), and the codewords that it could not correct, whose bits stay as they came. -/
def fecOpen (words : List Nat) : List Nat × List Nat × List Nat :=
  let cws := wordsCut 2720 16 (wordsJoin 64 words)
  let each := (List.range 16).map (fun k =>
    let cw := wordsCut 10 272 (cws.getD k 0)
    match rsDecode cw with
    | some (m, at_) => (wordsJoin 10 (m.take 258), at_.map (fun j => (2720 * k + 10 * j) / 64), ([] : List Nat))
    | none => (wordsJoin 10 (cw.take 258), [], [k]))
  (wordsCut 64 645 (wordsJoin 2580 (each.map Prod.fst)), each.flatMap (fun r => r.2.1), each.flatMap (fun r => r.2.2))

/-- Content words of a codeword, from and up to: those with a message bit in it. -/
def codewordSpan (k : Nat) : Nat × Nat := ((2580 * k / 64) - 8, (2580 * k + 2579) / 64 - 7)

end Sys2Proof.Machine
end

