-- ==== Sys2Proof/Machine/SideOps.lean ====
section
/-! DEFINITION. The ports of ring transport and their side-channel queues (12 R367): what wall time, serial lanes and the control pairs send over
the ring goes through them. Ports are 0 East and 1 West. -/
namespace Sys2Proof.Machine

/-! ### Accessors -/

/-- A ring port of ring transport. -/
def Ctl.rgPort (c : Ctl) (p : Nat) : RgPort := c.rg.ports.getD p {}
/-- Change ring transport's part. -/
def Ctl.setRg (c : Ctl) (f : RgState → RgState) : Ctl := { c with rg := f c.rg }
/-- Change one port of ring transport. -/
def Ctl.setRgPort (c : Ctl) (p : Nat) (f : RgPort → RgPort) : Ctl := c.setRg (fun r => { r with ports := updAt r.ports p f })
/-- A port is up (11 R333). -/
def Ctl.portUp (c : Ctl) (p : Nat) : Bool := (c.rgPort p).up
/-- Index of TX_MAP or RX_MAP (R376). -/
def mapIdx (tx : Bool) : Nat := if tx then 0x2111 else 0x2110
/-- Stripes in force, 0 while the port is down. -/
def Ctl.stripes (c : Ctl) (p : Nat) (tx : Bool) : Nat := bits (c.ea (mapIdx tx) p) 19 16

/-! ### The side channel (R367) -/

/-- kb/s of a rate code (11 R324); 0 for no code. -/
def ringKbps (code : Nat) : Nat := [1250000, 3125000, 6250000, 12500000, 25781250, 28125000].getD code 0
/-- What leaves in a time, in parts of an octet: `perFrame` octets in each frame (R358). -/
def drained (code a perFrame elapsed : Nat) : Nat := elapsed * ringKbps code * a * perFrame
/-- Parts of an octet in `drained`. -/
def drainUnit (code : Nat) : Nat := frameBits code * 65536 * 1000000

/-- Octets of all messages in a side-channel queue. -/
def sideOctetsHeld (l : List SideItem) : Nat := (l.map (fun x => x.bytes.length)).foldl (· + ·) 0

/-- A queue that has sent n octets: what is left, and the messages whose sending has begun meanwhile. -/
def sideDrain : Nat → List SideItem → List SideItem × List SideItem
  | _, [] => ([], [])
  | n, x :: l => if n < x.left then ({ x with left := x.left - n } :: l, []) else
    let r := sideDrain (n - x.left) l
    (r.1, l.take 1 ++ r.2)

/-- A message takes its place (R367): behind the one being sent and behind its own class. -/
def sideInsert (x : SideItem) : List SideItem → List SideItem
  | [] => [x]
  | y :: l => y :: (l.filter (fun z => decide (z.cls ≤ x.cls)) ++ x :: l.filter (fun z => decide (x.cls < z.cls)))

/-- The class of a TYPE (R367). -/
def sideClass (ty : Nat) : Nat := if ty = 8 then 0 else if ty = 7 || ty = 4 || ty = 5 then 1 else 2

/-- Sending of a message begins. -/
def Ctl.sideBegin (c : Ctl) (p : Nat) (x : SideItem) : Ctl := c.emit { kind := .side, a := p, b := x.ty, c := x.dst, bytes := x.bytes }

/-- The egress FIFO and the side-channel queue of a port empty as time passes (assumption log 57). -/
def Ctl.drainPort (c : Ctl) (p : Nat) : Ctl :=
  let q := c.rgPort p
  let el := c.up - q.drainAt
  let a := c.stripes p true
  let u := drainUnit q.code
  let f := drained q.code a (8 * contentWords q.code) el + q.fifoRem
  let s := drained q.code a 10 el + q.sideRem
  let r := sideDrain (s / u) q.side
  let c := c.setRgPort p (fun q => { q with
    fifo := q.fifo - f / u, fifoRem := if q.fifo ≤ f / u then 0 else f % u
    side := r.1, sideRem := if r.1.isEmpty then 0 else s % u, drainAt := c.up })
  r.2.foldl (fun c x => c.sideBegin p x) c

/-- The position that SRC carries. -/
def Ctl.srcPos (c : Ctl) : Nat := let p := c.e 0x210003; if p < 64 then p else 0xFC

/-- The octets of a message: TYPE, LEN, DST, SRC, the body and the CRC16 of 09 R276 (assumption log 56). -/
def sideMsg (ty dst src : Nat) (body : List Byte) : List Byte :=
  let m := [byteOf ty, byteOf body.length, byteOf dst, byteOf src] ++ body
  m ++ toLE 2 (crc16 m)

/-- A message joins the queue of a port: 16 KiB, else it is discarded and counts in SC_DROPS of port `count` (R376); it leaves at once when the
queue is empty. A port that is down sends nothing (assumption log 57). -/
def Ctl.sideQueue (c : Ctl) (p count ty dst : Nat) (m : List Byte) : Ctl :=
  if !c.portUp p then c else
  let c := c.drainPort p
  let l := (c.rgPort p).side
  if sideOctetsHeld l + m.length > 16384 then c.incEa 0x211C count else
  let x : SideItem := ⟨sideClass ty, ty, dst, m.length, m⟩
  let c := c.setRgPort p (fun q => { q with side := sideInsert x q.side })
  if l.isEmpty then c.sideBegin p x else c

/-- The part sends a message of its own; one that finds the queue full counts with that queue's port (assumption log 57). CP-A makes all but those of
the lanes and of wall time (18 R495). -/
def Ctl.sideSend (c : Ctl) (p ty dst : Nat) (body : List Byte) : Ctl :=
  if c.cpaUp || ty = 7 || ty = 8 then c.sideQueue p p ty dst (sideMsg ty dst c.srcPos body) else c

end Sys2Proof.Machine
end

