-- ==== Sys2Proof/Machine/Walltime.lean ====
section
/-! DEFINITION. Wall time (13): the boundary clock, the two servos, the Tick's states, slews and steps, the switch of the domain, the
change of the flip rate, and their commands. Domains are 0 A and 1 B; PTP ports are 1 and 2 field, 3 East, 4 West. -/
namespace Sys2Proof.Machine

/-! ### Accessors -/

/-- The servo of a domain. -/
def Ctl.servo (c : Ctl) (d : Nat) : Servo := if d = 0 then c.tb.servoA else c.tb.servoB
/-- Change the servo of a domain. -/
def Ctl.setServo (c : Ctl) (d : Nat) (f : Servo → Servo) : Ctl :=
  { c with tb := if d = 0 then { c.tb with servoA := f c.tb.servoA } else { c.tb with servoB := f c.tb.servoB } }
/-- Change the wall time part. -/
def Ctl.setTb (c : Ctl) (f : TbState → TbState) : Ctl := { c with tb := f c.tb }
/-- TIME_STATE (13 R392). -/
def Ctl.timeState (c : Ctl) : Nat := c.e 0x230001
/-- ACTIVE_DOMAIN. -/
def Ctl.activeDom (c : Ctl) : Nat := c.e 0x230002
/-- DOMAIN_STATE (13 R391). -/
def Ctl.domState (c : Ctl) (d : Nat) : Nat := c.ea 0x2303 d
/-- DOMAIN_OFFSET: domain time minus Tick, signed, in units of the Tick. -/
def Ctl.domOffset (c : Ctl) (d : Nat) : Int := if d = 0 then c.clk.offA else c.clk.offB
/-- Change what runs with the Tick. -/
def Ctl.setClk (c : Ctl) (f : Clock → Clock) : Ctl := { c with clk := f c.clk }
/-- Set the offset of a domain. -/
def Ctl.setOffset (c : Ctl) (d : Nat) (v : Int) : Ctl := c.setClk (fun k => if d = 0 then { k with offA := v } else { k with offB := v })
/-- The Tick runs without a slew. -/
def Ctl.slewOff (c : Ctl) : Ctl := c.setClk (fun k => { k with slew := none })
/-- The value of thermal site 17, beside REFCLK, in 1/16 °C (19 R528, R536). -/
def Ctl.refTemp (c : Ctl) : Int := (c.pm.sites.getD 17 {}).value
/-- The Tick runs at a domain's frequency estimate. -/
def Ctl.steer (c : Ctl) (d : Nat) : Ctl := c.setClk (fun k => { k with freq := (c.servo d).freq, est := (c.servo d).freq, estTemp := c.refTemp })
/-- SLAVE_PORT. -/
def Ctl.slavePort (c : Ctl) (d : Nat) : Nat := c.ea 0x2306 d
/-- Set DOMAIN_STATE. -/
def Ctl.setDom (c : Ctl) (d st : Nat) : Ctl := c.setEa 0x2303 d st
/-- CP-B, which runs the servos, is running (18 R497; assumption log 85). -/
def Ctl.servosRun (c : Ctl) : Bool := c.ea 0x1580 1 = 0
/-- The domain is followed or could be: ACQUIRING or LOCKED. -/
def Ctl.domUp (c : Ctl) (d : Nat) : Bool := c.domState d = 2 || c.domState d = 3
/-- From the loss of the active domain until SWITCH_TICK the Tick is not corrected (13 R398); a switch back under R399 follows no loss (assumption log 42). -/
def Ctl.frozen (c : Ctl) : Bool := (c.tb.switchTick.isSome && c.tb.lossSwitch) || !(c.domUp c.activeDom)
/-- In HOLDOVER, and from a loss until SWITCH_TICK, the frequency is the last estimate corrected by FREQ_TC for the change of site 17 (13 R396,
R398, 19 R536). -/
def Ctl.compensate (c : Ctl) : Ctl :=
  if c.timeState = 3 || (c.timeState ≠ 0 && c.frozen) then
    c.setClk (fun k => { k with freq := k.est + toSigned 32 (c.e 0x130007) * (c.refTemp - k.estTemp) / 16000 })
  else c
/-- The slope of the least-squares line through samples of temperature (1/16 °C) and frequency offset (ppb), in 10^−3 ppb/°C; 0 where all temperatures
are one (assumption log 125). -/
def fitSlope (l : List (Nat × Int × Int)) : Int :=
  let n : Int := l.length
  let st := (l.map (fun x => x.2.1)).sum
  let sf := (l.map (fun x => x.2.2)).sum
  let stt := (l.map (fun x => x.2.1 * x.2.1)).sum
  let stf := (l.map (fun x => x.2.1 * x.2.2)).sum
  if n * stt - st * st = 0 then 0 else 16000 * (n * stf - st * sf) / (n * stt - st * st)
/-- While the active domain is LOCKED, FREQ_TC is fitted over the samples of the last 24 h, one a second; it is 0 before 1 h of fitting (19
R536; assumption log 125). -/
def Ctl.fitTempco (c : Ctl) (d : Nat) : Ctl :=
  if c.domState c.activeDom ≠ 3 then c else
  let take := c.pm.fit.head?.all (fun x => decide (x.1 + tS 1 ≤ c.up))
  let recent := c.pm.fit.takeWhile (fun x => decide (c.up < x.1 + tS 86400))
  let fit := if take then (c.up, c.refTemp, (c.servo c.activeDom).freq) :: recent else recent
  let c := { c with pm := { c.pm with fitTime := c.pm.fitTime + d, fit := fit } }
  if c.pm.fitTime < tS 3600 || !take then c else c.setE 0x130007 (ofSigned 32 (fitSlope fit))
/-- A port is a field port. -/
def fieldPort (p : Nat) : Bool := p = 1 || p = 2

/-! ### The Tick -/

/-- The Tick moves by an amount at once: offsets of the domains and the flips still to come follow (13 R392, R395). -/
def Ctl.stepTick (c : Ctl) (delta : Int) : Ctl :=
  let c := (c.moveTick delta).setClk (fun k => { k with offA := k.offA - delta, offB := k.offB - delta, slew := none })
  if c.tb.issuing then c.setTb (fun t => { t with nextIndex := c.flipAt c.now }) else c

/-- A slew removes the offset of the active domain; one that runs goes on, so that the frequency stays continuous (13 R394; assumption log 42). -/
def Ctl.slew (c : Ctl) : Ctl :=
  let o := c.domOffset c.activeDom
  if c.clk.slew.isSome || o = 0 then c else c.setClk (fun k => { k with slew := some (o, 0) })

/-- The Tick enters LOCKED: TIME_LOCKED; flips are issued from now on (13 R383, R392). -/
def Ctl.enterLocked (c : Ctl) : Ctl :=
  let n := c.nextFlip
  let c := (c.setE 0x230001 2).setTb (fun t => { t with issuing := true, nextIndex := n, holdoverExpired := false })
  c.post 0x1301 [i8 c.activeDom]

/-- ACQUIRING ends when the active domain is LOCKED and the Tick is within 100 ns of it (13 R392; assumption log 42). -/
def Ctl.checkLock (c : Ctl) : Ctl :=
  if c.timeState = 1 && c.domState c.activeDom = 3 && decide ((c.domOffset c.activeDom).natAbs ≤ tNs 100) then c.enterLocked else c

/-- In HOLDOVER the Tick follows a LOCKED domain by slewing (13 R396, R398): LOCKED within 100 ns of it, else ACQUIRING until then (assumption
log 42). -/
def Ctl.followLocked (c : Ctl) (d : Nat) : Ctl :=
  if c.timeState ≠ 3 || c.domState d ≠ 3 then c else
  let other := c.activeDom ≠ d
  let c := ((((c.setE 0x230002 d).setE 0x230001 1).steer d).checkLock).slew
  if other then (c.setTb (fun t => { t with switched := true })).post 0x1302 [i8 d] else c

/-- The Tick enters HOLDOVER (13 R396; assumption log 42). -/
def Ctl.enterHoldover (c : Ctl) : Ctl :=
  if c.timeState = 3 then c else
  let c := ((c.setE 0x230001 3).setTb (fun t => { t with holdoverAt := c.up, holdoverExpired := false, switchTick := none, lossSwitch := false })).slewOff
  c.post 0x1342 []

/-- 112 UI at a line rate, in units of 2^−16 ns (13 R387). -/
def ui112 (kbps : Nat) : Nat := if kbps = 0 then 0 else 112 * 65536 * 1000000 / kbps
/-- The figure of a PTP port: LANE_RATE of its field lane, or the rate of its ring port. -/
def Ctl.portUi (c : Ctl) (port : Nat) : Nat :=
  ui112 (if fieldPort port then c.ea 0x2012 (53 + port) else ringKbps (c.rgPort (port - 3)).code)

/-- The header of a PTP message of a type and length (IEEE 1588-2019; assumption log 40): a domainNumber, flags, correction in 2^−16 ns,
this part's port, a sequenceId and the logMessageInterval. -/
def Ctl.ptpHeader (c : Ctl) (port number ty len flags : Nat) (corr : Int) (seq : Nat) (log : Int) : List Byte :=
  [byteOf ty, 0x12] ++ toBE 2 len ++ [byteOf number, 0] ++ toBE 2 flags ++ toBE 8 (ofSigned 64 corr) ++ toBE 4 0 ++ toBE 8 (c.e 0x100005) ++
    toBE 2 port ++ toBE 2 seq ++ [0, byteOf (ofSigned 8 log)]
/-- A time in units of 2^−16 ns as a PTP timestamp: seconds and nanoseconds. -/
def ptpStamp (t : Nat) : List Byte := toBE 6 (t / tS 1) ++ toBE 4 (t % tS 1 / 65536)

/-- A PTP message leaves a port: a ring port carries it in the side channel, a field port by FIELD_TRANSPORT (13 R389). -/
def Ctl.ptpOut (c : Ctl) (port dst : Nat) (m : List Byte) : Ctl :=
  if fieldPort port then c.emit { kind := .ptp, a := port, b := u8At m 0, c := c.e 0x230012, bytes := m } else c.sideSend (port - 3) 8 dst m

/-- The Signaling message with the DOMAIN_SWITCH TLV: the new domain's number and SWITCH_TICK (13 R398; assumption log 40). -/
def Ctl.switchMsg (c : Ctl) (port d t : Nat) : List Byte :=
  c.ptpHeader port (c.ea 0x2302 d) 12 63 0 0 c.tb.ptpSeq 127 ++ toBE 10 (2 ^ 80 - 1) ++ toBE 2 3 ++ toBE 2 15 ++ toBE 6 (Config.switchTlv % 2 ^ 48) ++
    [byteOf (c.ea 0x2302 d)] ++ toBE 8 t

/-- The part decides a switch: SWITCH_TICK is 10 ms ahead; the deciding part tells both ring ports (13 R398). -/
def Ctl.decideSwitch (c : Ctl) (d : Nat) (tell : Bool) : Ctl :=
  let t := tickAdd c.now (tMs 10)
  let c := c.setTb (fun s => { s with switchTick := some (t, d) })
  if !tell then c else
  ((c.ptpOut 3 0xFD (c.switchMsg 3 d t)).ptpOut 4 0xFD (c.switchMsg 4 d t)).setTb (fun s => { s with ptpSeq := (s.ptpSeq + 1) % 65536 })

/-- A domain becomes LOST (13 R393, R396, R398; assumption log 42). -/
def Ctl.domLost (c : Ctl) (d cause : Nat) : Ctl :=
  let field := fieldPort (c.slavePort d)
  let c := ((c.setDom d 4).setServo d (fun s => { s with good := 0, lostAt := c.up })).post 0x13C1 [i8 d, i8 cause]
  let c := if d = c.activeDom then c.setTb (fun t => { t with lossSwitch := true }) else c
  if !(c.timeState = 1 || c.timeState = 2) || c.tb.switchTick.isSome then c else
  if d = c.activeDom then
    let c := c.slewOff
    if c.domState (1 - d) ≠ 3 then c.enterHoldover
    else if field then c.decideSwitch (1 - d) true
    else c
  else if c.frozen then c.enterHoldover
  else c

/-- A domain becomes LOCKED (assumption log 42). -/
def Ctl.domLocked (c : Ctl) (d : Nat) : Ctl :=
  let c := (c.setDom d 3).setServo d (fun s => { s with good := 0, lockedAt := c.up })
  (c.followLocked d).checkLock

/-- The difference of the domains' offsets, reported at most once per minute (13 R399; assumption log 42). -/
def Ctl.disagree (c : Ctl) : Ctl :=
  let diff := (c.domOffset 0 - c.domOffset 1).natAbs
  let recent := match c.tb.disagreeAt with
    | some t => decide (c.up < t + tS 60)
    | none => false
  if c.domUp 0 && c.domUp 1 && decide (diff > tNs (c.e 0x230010)) && !recent then
    (c.setTb (fun t => { t with disagreeAt := some c.up })).post 0x1341 [i32 (diff / 65536)]
  else c

/-! ### The boundary clock (13 R389, R390; IEEE 1588-2019 default BMCA, assumption log 40) -/

/-- A record is qualified: two Announce messages, the last within 3 announce intervals (assumption log 40). -/
def AnnRec.qualified (r : AnnRec) (up : Nat) : Bool := decide (r.count ≥ 2) && decide (r.steps < 255) && decide (up < r.at_ + tS 3)

/-- What the BMCA compares between different grandmasters (assumption log 40). -/
def AnnRec.gmKey (r : AnnRec) : List Nat := [r.priority1, r.clockClass, r.accuracy, r.variance, r.priority2, r.gmId]
/-- What it compares for one grandmaster (assumption log 40). -/
def AnnRec.pathKey (r : AnnRec) : List Nat := [r.steps, r.sender, r.senderPort, r.port]

/-- Lexicographic order. -/
def lexLt : List Nat → List Nat → Bool
  | [], [] => false
  | [], _ :: _ => true
  | _ :: _, [] => false
  | a :: as, b :: bs => decide (a < b) || (a = b && lexLt as bs)

/-- The first record is the better one (assumption log 40). -/
def annBetter (a b : AnnRec) : Bool := if a.gmId = b.gmId then lexLt a.pathKey b.pathKey else lexLt a.gmKey b.gmKey

/-- The best of a list of records. -/
def annBest : List AnnRec → Option AnnRec
  | [] => none
  | a :: as => match annBest as with
    | some b => if annBetter b a then some b else some a
    | none => some a

/-- Records of a domain that count in the BMCA (13 R390: on the standby head the field ports count only without a qualified Announce
from the West). -/
def Ctl.annOf (c : Ctl) (d : Nat) : List AnnRec :=
  let q := c.tb.announces.filter (fun r => r.domain = d && r.qualified c.up)
  if c.e 0x210002 = 3 && q.any (fun r => r.port = 4) then q.filter (fun r => !fieldPort r.port) else q

/-- A ring port toward a feeder takes part only when the feeder sends Announce (13 R389). -/
def Ctl.ptpOff (c : Ctl) (d p : Nat) : Bool :=
  decide (3 ≤ p) && c.ea 0x2004 (p - 3) = 1 && !(c.annOf d).any (fun r => r.port = p)

/-- IEEE 1588 portState of a port in a domain: 4 LISTENING, 6 MASTER, 7 PASSIVE, 9 SLAVE. -/
def Ctl.ptpState (c : Ctl) (d p : Nat) : Nat :=
  let q := c.annOf d
  if c.ptpOff d p then 4 else
  match annBest q with
  | none => 4
  | some b =>
    if b.port = p then 9 else
    match annBest (q.filter (fun r => r.port = p)) with
    | none => 6
    | some r =>
      let own := c.e 0x100005
      if r.gmId = b.gmId && (r.steps = b.steps || (r.steps = b.steps + 1 && decide (own > r.sender))) then 7 else 6

/-- The BMCA runs for a domain: port states and the slave port; a domain without one is LOST with cause 2, one whose new grandmaster's class is
above 127 with cause 4 (13 R393; assumption log 40). -/
def Ctl.bmca (c : Ctl) (d : Nat) : Ctl :=
  if c.domState d = 0 then c else
  let st := (List.range 4).map (fun i => c.ptpState d (i + 1))
  let c := (List.range 4).foldl (fun c i =>
    let w := c.ea 0x2307 i
    c.setEa 0x2307 i (setBits w (8 * d + 7) (8 * d) (st.getD i 0))) c
  match annBest (c.annOf d) with
  | some b =>
    let was := (c.servo d).gmClass
    let c := (c.setEa 0x2306 d b.port).setServo d (fun s => { s with
      gm := b.gmId, gmClass := b.clockClass, syncAt := if c.slavePort d = b.port then s.syncAt else c.up })
    if decide (b.clockClass > 127) && decide (was ≤ 127) && c.domUp d then c.domLost d 4 else c
  | none =>
    let was := c.domUp d
    let c := if was then c.domLost d 2 else c
    c.setEa 0x2306 d 0xFF

/-- An Announce message (13 R389, R393 cause 4): priority1, clockClass, accuracy, variance, priority2, grandmaster, stepsRemoved, sender's
identity and port number, and what the part passes on. The class of the domain's grandmaster rises above 127 in its own Announce, or with a
new grandmaster. -/
def Ctl.announce (c : Ctl) (port d : Nat) (x : List Int) : Ctl :=
  let n := fun i => (x.getD i 0).toNat
  let same := fun (r : AnnRec) => r.port = port && r.domain = d && r.sender = n 7 && r.senderPort = n 8
  let old := c.tb.announces.find? same
  let fresh := old.any (fun r => decide (c.up < r.at_ + tS 3))
  let rec_ : AnnRec := ⟨port, d, n 0, n 1, n 2, n 3, n 4, n 5, n 6, n 7, n 8, n 9, c.up, if fresh then (old.map AnnRec.count).getD 0 + 1 else 1⟩
  let c := c.setTb (fun t => { t with announces := t.announces.filter (fun r => !same r) ++ [rec_] })
  let was := (c.servo d).gmClass
  let mine := c.slavePort d = port && (c.servo d).gm = n 5
  let c := if mine then c.setServo d (fun s => { s with gmClass := n 1 }) else c
  let c := if mine && decide (n 1 > 127) && decide (was ≤ 127) && c.domUp d then c.domLost d 4 else c
  c.bmca d

/-- ASYMMETRY of a port, in units of 2^−16 ns (13 R388). -/
def Ctl.asymmetry (c : Ctl) (port : Nat) : Int := toSigned 32 (c.ea 0x2308 (port - 1)) * 65536 / 1000

/-- A Sync message of the slave port, with its Follow_Up (13 R387, R388, R391 to R394): its origin time with corrections, its stamp at the PCS,
the servo's prediction of the offset and its frequency estimate in ppb (assumption log 41). -/
def Ctl.sync (c : Ctl) (port d : Nat) (x : List Int) : Ctl :=
  if c.slavePort d ≠ port || !c.servosRun then c else
  let ps := fun (v : Int) => v * 65536 / 1000
  let mean := ps (c.ea 0x2309 (port - 1))
  let t1 := (x.getD 0 0) + mean + c.asymmetry port
  let off := tickD (ofSigned 64 t1) (ofSigned 64 (x.getD 1 0 - c.portUi port))
  let pred := x.getD 2 0
  let freq := x.getD 3 0
  let st := c.domState d
  let miss := (off - pred).natAbs
  let sv := c.servo d
  let jump := decide (miss > tNs (c.e 0x23000F))
  let c := c.setServo d (fun s => { s with syncAt := c.up, predicted := pred, freq := freq, era := t1.toNat })
  if st = 0 then c else
  if (st = 2 || st = 3) && jump then c.domLost d 3 else
  if st = 4 && jump then c.setServo d (fun s => { s with good := 0 }) else
  if st = 4 && decide (sv.good + 1 < 4) then c.setServo d (fun s => { s with good := sv.good + 1 }) else
  let c := (c.setOffset d off).setEa 0x2305 d (ofSigned 32 freq)
  let near := decide (miss ≤ tNs 100)
  let c :=
    if st = 1 ∨ st = 4 then (c.setDom d 2).setServo d (fun s => { s with good := b2n near })
    else if st = 2 then
      let ok := near && decide ((freq - sv.freq).natAbs < 100)
      let g := if ok then sv.good + 1 else 0
      let c := c.setServo d (fun s => { s with good := g })
      if g ≥ 16 then c.domLocked d else c
    else c.followLocked d
  let pref := c.e 0x230003
  let c :=
    if c.timeState = 0 && (d = pref || c.slavePort pref = 0xFF) then (c.setE 0x230001 1).setE 0x230002 d else c
  let c :=
    if d ≠ c.activeDom || c.frozen || !(c.timeState = 1 || c.timeState = 2) then c else
    let c := c.steer d
    if c.timeState = 1 && !c.tb.steppedOnce && !c.tb.issuing && decide (off.natAbs > tUs 1) then
      (c.stepTick off).setTb (fun t => { t with steppedOnce := true })
    else c.slew
  c.checkLock.disagree

/-- The four stamps of a delay exchange give the mean delay of the port in ps (13 R387, R389; assumption log 41). The part's own two, one
received and one sent, are corrected to the pins. -/
def Ctl.delayExchange (c : Ctl) (port : Nat) (x : List Int) : Ctl :=
  let d := ((x.getD 1 0 - x.getD 0 0) + (x.getD 3 0 - x.getD 2 0) - 2 * c.portUi port) / 2
  c.setEa 0x2309 (port - 1) (d.toNat * 1000 / 65536 % 2 ^ 32)

/-- The provisioned domain of a domainNumber. -/
def Ctl.domainOf (c : Ctl) (number : Nat) : Option Nat :=
  (List.range 2).find? (fun d => c.ea 0x2302 d = number && c.ea 0x2301 d = 1 && c.domState d ≠ 0)

/-- The time of a domain at a Tick: the Tick with DOMAIN_OFFSET, as the whole PTP time nearest the domain's last (13 R378, R393). -/
def Ctl.domTime (c : Ctl) (d : Nat) (tick : Int) : Nat :=
  let e := (c.servo d).era
  ((e : Int) + tickD (ofSigned 64 (tick + c.domOffset d)) (e % 2 ^ 64)).toNat

/-- The time of a domain now, at the pins of a port that sends (13 R387). -/
def Ctl.sendStamp (c : Ctl) (port d : Nat) : Nat := c.domTime d c.now + c.portUi port

/-- The port's state in a domain, and whether the domain's messages may leave it: not from a MASTER port while the domain is LOST, nor toward a
feeder that sends no Announce (13 R389, R393). -/
def Ctl.portSt (c : Ctl) (port d : Nat) : Nat := bits (c.ea 0x2307 (port - 1)) (8 * d + 7) (8 * d)
/-- The domain's messages may leave the port (assumption log 40). -/
def Ctl.mayAnswer (c : Ctl) (port d : Nat) : Bool := !c.ptpOff d port && !(c.portSt port d = 6 && c.domState d = 4)

/-- FIELD_DELAY_MECH is end-to-end on this port; ring ports are peer-to-peer (13 R389). -/
def Ctl.endToEnd (c : Ctl) (port : Nat) : Bool := fieldPort port && c.e 0x230013 = 0

/-- logSyncInterval of a port (13 R389). -/
def Ctl.logSync (c : Ctl) (port : Nat) : Int := if fieldPort port then toSigned 32 (c.e 0x230014) else -7

/-- A delay request is answered (13 R389): end-to-end by a MASTER port with Delay_Resp, peer-to-peer with Pdelay_Resp and its follow-up. The
request's stamp at the PCS, its sender and port, its sequenceId and its correctionField, which the answer carries on; the fraction of the
receipt is taken off, that of the sending added (assumption log 40). -/
def Ctl.delayAnswer (c : Ctl) (port d : Nat) (x : List Int) : Ctl :=
  let number := c.ea 0x2302 d
  let n := fun i => (x.getD i 0).toNat
  let asker := toBE 8 (n 1) ++ toBE 2 (n 2)
  let got := c.domTime d (x.getD 0 0 - c.portUi port)
  let less : Int := -((got % 65536 : Nat) : Int)
  if !c.mayAnswer port d then c
  else if c.endToEnd port then
    if c.portSt port d ≠ 6 then c
    else c.ptpOut port 0xFE (c.ptpHeader port number 9 54 0 (x.getD 4 0 + less) (n 3) 0 ++ ptpStamp got ++ asker)
  else
    let t := c.sendStamp port d
    let c := c.ptpOut port 0xFE (c.ptpHeader port number 3 54 0x200 less (n 3) 127 ++ ptpStamp got ++ asker)
    c.ptpOut port 0xFE (c.ptpHeader port number 10 54 0 (x.getD 4 0 + (t % 65536 : Nat)) (n 3) 127 ++ ptpStamp t ++ asker)

/-- PTP_MESSAGE: kind 0 Sync, 1 Announce, 2 a finished delay exchange, 3 a delay request, which is answered (assumption log 41). -/
def Ctl.ptpMessage (c : Ctl) (port number kind : Nat) (x : List Int) : Ctl :=
  if port = 0 ∨ port > 4 then c else
  match c.domainOf number with
  | none => c
  | some d =>
    match kind with
    | 0 => c.sync port d x
    | 1 => c.announce port d x
    | 2 => c.delayExchange port x
    | _ => c.delayAnswer port d x

/-- A two-step Sync and its Follow_Up (13 R387, R389): the stamp of the transmission at the pins. -/
def Ctl.syncOut (c : Ctl) (port d : Nat) : Ctl :=
  let n := c.ea 0x2302 d
  let t := c.sendStamp port d
  let c := c.ptpOut port 0xFE (c.ptpHeader port n 0 44 0x200 0 c.tb.ptpSeq (c.logSync port) ++ ptpStamp 0)
  c.ptpOut port 0xFE (c.ptpHeader port n 8 44 0 (t % 65536) c.tb.ptpSeq (c.logSync port) ++ ptpStamp t)

/-- An Announce of the domain's grandmaster, one step further removed (13 R389). -/
def Ctl.announceOut (c : Ctl) (port d : Nat) : Ctl := match annBest (c.annOf d) with
  | none => c
  | some b => c.ptpOut port 0xFE (c.ptpHeader port (c.ea 0x2302 d) 11 64 (b.rest / 2 ^ 24 % 65536) 0 c.tb.ptpSeq 0 ++ ptpStamp 0 ++
      toBE 2 (b.rest / 256 % 65536) ++ [0, byteOf b.priority1, byteOf b.clockClass, byteOf b.accuracy] ++ toBE 2 b.variance ++
      [byteOf b.priority2] ++ toBE 8 b.gmId ++ toBE 2 (b.steps + 1) ++ [byteOf b.rest])

/-- A delay request (13 R389): Delay_Req from an end-to-end SLAVE port, Pdelay_Req from a peer-to-peer port; ASYMMETRY is taken off its
correctionField as it leaves (R388; assumption log 40). -/
def Ctl.delayAsk (c : Ctl) (port d st : Nat) : Ctl :=
  if c.endToEnd port then
    (if st = 9 then c.ptpOut port 0xFE (c.ptpHeader port (c.ea 0x2302 d) 1 44 0 (-c.asymmetry port) c.tb.ptpSeq 127 ++ ptpStamp 0) else c)
  else c.ptpOut port 0xFE (c.ptpHeader port (c.ea 0x2302 d) 2 54 0 (-c.asymmetry port) c.tb.ptpSeq (if fieldPort port then 0 else -4) ++ ptpStamp 0 ++ toBE 10 0)

/-- PTP_SEND_TIMER: a domain's message of a kind (0 Sync with Follow_Up, 1 Announce, 2 delay request) leaves a port (13 R389, R393; assumption log 40). -/
def Ctl.ptpSend (c : Ctl) (port d kind : Nat) : Ctl :=
  let st := c.portSt port d
  let ok := if kind = 2 then c.mayAnswer port d else st = 6 && c.domState d ≠ 4
  if port = 0 ∨ port > 4 ∨ d > 1 ∨ c.domState d = 0 ∨ !ok then c else
  let c := if kind = 0 then c.syncOut port d else if kind = 1 then c.announceOut port d else c.delayAsk port d st
  c.setTb (fun t => { t with ptpSeq := (t.ptpSeq + 1) % 65536 })

/-- Sync interval of a port (13 R389). -/
def Ctl.syncInterval (c : Ctl) (port : Nat) : Nat :=
  if fieldPort port then tS 1 / 2 ^ (-(toSigned 32 (c.e 0x230014))).toNat else tS 1 / 128

/-- SYNC_TIMEOUT (13 R393 cause 1). -/
def Ctl.syncTimeout (c : Ctl) (d : Nat) : Ctl :=
  if d > 1 || !c.domUp d || c.slavePort d = 0xFF || decide (c.up < (c.servo d).syncAt + 3 * c.syncInterval (c.slavePort d)) then c
  else c.domLost d 1

/-- ANNOUNCE_TIMEOUT: records older than the timeout go, and the BMCA runs (13 R389, R393 cause 2). -/
def Ctl.announceTimeout (c : Ctl) (d : Nat) : Ctl :=
  if d > 1 then c else
  (c.setTb (fun t => { t with announces := t.announces.filter (fun r => r.domain ≠ d || decide (c.up < r.at_ + tS 3)) })).bmca d

/-- DOMAIN_SWITCH_MESSAGE (13 R398 step 2): a target out of range of D is refused (R379). -/
def Ctl.switchMessage (c : Ctl) (number tick : Nat) : Ctl :=
  match c.domainOf number with
  | none => c
  | some d =>
    if c.tb.switchTick.isSome || d = c.activeDom || !(c.timeState = 1 || c.timeState = 2) || tickD tick c.now = -(2 ^ 63 : Nat) then c
    else
      let c := c.setTb (fun t => { t with switchTick := some (tick, d), lossSwitch := !(c.domUp c.activeDom) })
      if c.frozen then c.slewOff else c

/-- SWITCH_TICK (13 R398). -/
def Ctl.switchAt (c : Ctl) : Ctl :=
  match c.tb.switchTick with
  | none => c
  | some (t, d) =>
    if !c.due t then c else
    let c := c.setTb (fun s => { s with switchTick := none, lossSwitch := false })
    if c.domState d ≠ 3 then c.enterHoldover else
    let c := ((c.setE 0x230002 d).setTb (fun s => { s with switched := true })).post 0x1302 [i8 d]
    (((c.slewOff.steer d).checkLock)).slew

/-- SWITCH_NO_MESSAGE_TIMER (13 R398 step 3). -/
def Ctl.switchAlone (c : Ctl) : Ctl :=
  let a := c.activeDom
  if a > 1 || c.domState a ≠ 4 || c.tb.switchTick.isSome || !(c.timeState = 1 || c.timeState = 2) || decide (c.up < (c.servo a).lostAt + tMs 100) then c
  else if c.domState (1 - a) = 3 then c.decideSwitch (1 - a) false else c.enterHoldover

/-- REVERT_TIMER (13 R399). -/
def Ctl.revert (c : Ctl) : Ctl :=
  let p := c.e 0x230003
  let a := c.activeDom
  let c := c.disagree
  if c.e 0x230004 = 0 || a > 1 || a = p || c.timeState ≠ 2 || c.tb.switchTick.isSome || c.domState p ≠ 3 || !fieldPort (c.slavePort a) ||
    decide (c.up < (c.servo p).lockedAt + tS 60) then c
  else (c.setTb (fun t => { t with lossSwitch := false })).decideSwitch p true

/-- HOLDOVER_EXPIRED (13 R396). -/
def Ctl.holdoverExpire (c : Ctl) : Ctl :=
  if c.timeState ≠ 3 || c.tb.holdoverExpired || decide (c.up < c.tb.holdoverAt + tS (c.e 0x230011)) then c
  else (c.setTb (fun t => { t with holdoverExpired := true })).post 0x13C2 [i32 ((c.up - c.tb.holdoverAt) / tS 1)]

/-- TIME_STEP may be written (13 R395; assumption log 42). -/
def Ctl.stepAllowed (c : Ctl) : Bool := decide (c.activeDom ≤ 1) && !c.frozen && (c.timeState = 1 || c.timeState = 2)

/-- TIME_STEP (13 R395). -/
def Ctl.timeStep (c : Ctl) : Ctl :=
  if !c.stepAllowed then c else
  let o := c.domOffset c.activeDom
  let c := (c.stepTick o).post 0x1304 [i32 (ofSigned 32 (o / 65536))]
  c.checkLock

/-- SLEW_COMPLETE (13 R394): the slew has taken its time, and the Tick has moved by all of it. -/
def Ctl.slewDone (c : Ctl) : Ctl := match c.clk.slew with
  | none => c
  | some (o, t) => if t < slewTime o.natAbs then c else c.slewOff.checkLock

/-- Domains that are provisioned listen once the servos run (13 R391). -/
def Ctl.timeStart (c : Ctl) : Ctl := (List.range 2).foldl (fun c d => if c.ea 0x2301 d = 1 && c.domState d = 0 then c.setDom d 1 else c) c

/-- DOMAIN_ENABLE is written (13 R391, R397). -/
def Ctl.domainEnable (c : Ctl) (d v : Nat) : Ctl :=
  let c := c.setEa 0x2301 d v
  if v = 1 then (if c.domState d = 0 then c.setDom d 1 else c) else
  let was := c.domUp d
  let c := ((c.setDom d 0).setEa 0x2306 d 0xFF).setTb (fun t => { t with announces := t.announces.filter (fun r => r.domain ≠ d) })
  if was && d = c.activeDom && (c.timeState = 1 || c.timeState = 2) && c.tb.switchTick.isNone then
    (if c.domState (1 - d) = 3 then c else c.enterHoldover)
  else c

/-! ### The flip series (13 R383 to R386) -/

/-- RATE_CMD SCHEDULE: 0 accepted, 2 ACCESS, 5 RANGE. -/
def Ctl.rateStatus (c : Ctl) : Nat :=
  let d := tickD (c.e 0x23000B) c.now
  if c.tb.rateChange.isSome || c.xz.active.isNone then 2
  else if d < tS 1 ∨ d ≥ (2 ^ 63 : Nat) then 5 else 0

/-- RATE_SCHEDULE (13 R385; assumption log 43). -/
def Ctl.rateSchedule (c : Ctl) : Ctl :=
  if c.rateStatus ≠ 0 then c else
  let n := c.flipAt (c.e 0x23000B)
  let t := c.tn n
  (c.setE 0x23000D t).setTb (fun s => { s with rateChange := some ⟨n, t, c.e 0x23000A⟩ })

/-- RATE_CMD CANCEL is accepted at least 100 µs before FC. -/
def Ctl.rateCancelOk (c : Ctl) : Bool := match c.tb.rateChange with
  | some r => decide (tickD r.fcTick c.now ≥ tUs 100)
  | none => false

/-- The pending change is cleared. -/
def Ctl.clearRate (c : Ctl) : Ctl := (c.setE 0x23000D 0).setTb (fun s => { s with rateChange := none })

/-- RATE_CANCEL (13 R385). -/
def Ctl.rateCancel (c : Ctl) : Ctl := if c.rateCancelOk then c.clearRate else c

/-- FLIP_RATE, FLIP_EPOCH or FLIP_EPOCH_INDEX was written directly: the series in force is the new one (13 R383, R384). -/
def Ctl.seriesWritten (c : Ctl) : Ctl :=
  if c.tb.issuing then c.setTb (fun t => { t with nextIndex := firstFlip (c.e 0x230007) (c.e 0x230015) (c.e 0x230006) (c.e 0x230015) c.now }) else c

/-- FLIP_PRE_NOTICE: 1 µs before the flip its Tick goes to the islands, each of which arms its compare (01 R38). -/
def Ctl.flipNotice (c : Ctl) : Ctl :=
  let n := c.nextFlip
  if !c.tb.issuing || c.tb.preNotice = some n || decide (tickD c.nextTick c.now > tUs 1) then c
  else c.setTb (fun t => { t with preNotice := some n, armed := t.armed ++ [⟨c.tn n, n⟩] })

/-- COMPARE_EVENT: the first armed event whose target has been reached fires (13 R380; assumption log 43). -/
def Ctl.compareFire (c : Ctl) : Ctl :=
  match c.tb.armed.find? (fun a => c.due a.target) with
  | none => c
  | some a => c.setTb (fun t => { t with armed := t.armed.erase a, fired := some a })

/-! ### The commands -/

/-- PTP_MESSAGE. -/
def execPtpMessage (dt port domain kind : Nat) (x : List Int) (s : State) : Host.Outcome State Fault Refusal :=
  runC (fun c => let c := c.advance dt; c.when c.servosRun (·.ptpMessage port domain kind x)) s
/-- PTP_SEND_TIMER. -/
def execPtpSendTimer (dt port domain kind : Nat) (s : State) : Host.Outcome State Fault Refusal :=
  runC (fun c => let c := c.advance dt; c.when c.servosRun (·.ptpSend port domain kind)) s
/-- SYNC_TIMEOUT. -/
def execSyncTimeout (dt domain : Nat) (s : State) : Host.Outcome State Fault Refusal :=
  runC (fun c => let c := c.advance dt; c.when c.servosRun (·.syncTimeout domain)) s
/-- ANNOUNCE_TIMEOUT. -/
def execAnnounceTimeout (dt domain : Nat) (s : State) : Host.Outcome State Fault Refusal :=
  runC (fun c => let c := c.advance dt; c.when c.servosRun (·.announceTimeout domain)) s
/-- RATE_SCHEDULE. -/
def execRateSchedule (dt : Nat) (s : State) : Host.Outcome State Fault Refusal := runC (fun c => (c.advance dt).rateSchedule) s
/-- RATE_CANCEL. -/
def execRateCancel (dt : Nat) (s : State) : Host.Outcome State Fault Refusal := runC (fun c => (c.advance dt).rateCancel) s
/-- TIME_STEP. -/
def execTimeStep (dt : Nat) (s : State) : Host.Outcome State Fault Refusal := runC (fun c => (c.advance dt).timeStep) s
/-- DOMAIN_SWITCH_MESSAGE. -/
def execDomainSwitchMessage (dt domain tick : Nat) (s : State) : Host.Outcome State Fault Refusal :=
  runC (fun c => let c := c.advance dt; c.when c.servosRun (·.switchMessage domain tick)) s
/-- SWITCH_TICK. -/
def execSwitchTick (dt : Nat) (s : State) : Host.Outcome State Fault Refusal := runC (fun c => let c := c.advance dt; c.when c.servosRun (·.switchAt)) s
/-- SWITCH_NO_MESSAGE_TIMER. -/
def execSwitchNoMessageTimer (dt : Nat) (s : State) : Host.Outcome State Fault Refusal := runC (fun c => let c := c.advance dt; c.when c.servosRun (·.switchAlone)) s
/-- REVERT_TIMER. -/
def execRevertTimer (dt : Nat) (s : State) : Host.Outcome State Fault Refusal := runC (fun c => let c := c.advance dt; c.when c.servosRun (·.revert)) s
/-- HOLDOVER_EXPIRED. -/
def execHoldoverExpired (dt : Nat) (s : State) : Host.Outcome State Fault Refusal := runC (fun c => (c.advance dt).holdoverExpire) s
/-- SLEW_COMPLETE. -/
def execSlewComplete (dt : Nat) (s : State) : Host.Outcome State Fault Refusal := runC (fun c => (c.advance dt).slewDone) s
/-- FLIP_PRE_NOTICE. -/
def execFlipPreNotice (dt : Nat) (s : State) : Host.Outcome State Fault Refusal := runC (fun c => (c.advance dt).flipNotice) s
/-- COMPARE_EVENT. -/
def execCompareEvent (dt : Nat) (s : State) : Host.Outcome State Fault Refusal := runC (fun c => (c.advance dt).compareFire) s

end Sys2Proof.Machine
end

