-- ==== Sys2Proof/Machine/Images.lean ====
section
/-! DEFINITION. The image manager (03 R85 to R107): slots, loads, verification, activation requests, storing, and ray queries (02 R68).
What an activation does at its flip is here too; FRAME_FLIP calls it (Flips.lean). -/
namespace Sys2Proof.Machine

/-- A slot. -/
def Ctl.slot (c : Ctl) (i : Nat) : XzSlot := c.xz.slots.getD i {}

/-- A slot's state changes; SLOT0_STATE and SLOT1_STATE show it (R86, R106). -/
def Ctl.setSlot (c : Ctl) (i : Nat) (f : XzSlot → XzSlot) : Ctl :=
  let c := c.setXz (fun x => { x with slots := updAt x.slots i f })
  c.setE (0x410206 + i) (c.slot i).st

/-- The event of a result code (R94). -/
def resultEvent (code : Nat) : Nat :=
  if code = 0x00 then 0x3101 else if code = 0x01 then 0x3141 else if code < 0x20 then 0x3181 + (code - 0x10) else 0x3189 + (code - 0x20)

/-- LAST_RESULT and LAST_DETAIL take a result (R106, R107). -/
def Ctl.xzResult (c : Ctl) (code detail : Nat) : Ctl := (c.setE 0x410208 code).setE 0x410209 detail

/-- A load or request is refused, or a load fails: the result and its event. -/
def Ctl.xzRefuse (c : Ctl) (code detail : Nat) : Ctl := (c.xzResult code detail).post (resultEvent code) []

/-- The image that executes; empty without one. -/
def Ctl.img (c : Ctl) : List Byte := c.xz.img

/-- An image is active. -/
def Ctl.hasImage (c : Ctl) : Bool := c.xz.active.isSome

/-- The slot record of the active image's layer plan. -/
def Ctl.plan (c : Ctl) (s : Nat) : SlotPlan := slotPlan (imgSec c.img 7) s

/-- A slot is used by the active image. -/
def Ctl.usedSlot (c : Ctl) (s : Nat) : Bool := c.hasImage && decide ((c.plan s).cls ≠ 0)

/-- The part's tile index; 0xFF without an image (R21, R24). -/
def Ctl.tileIndex (c : Ctl) : Nat := if c.hasImage then imgTile c.img else 0xFF

/-! ### Repair of a slot (R85) -/

/-- Byte address of a slot. -/
def Ctl.slotBase (c : Ctl) (i : Nat) : Nat := c.imgBase + i * 12582912

/-- The bursts of parity group `g` of a slot whose image has `size` bytes, the parity burst last, as burst numbers of DRAM. Bytes beyond
the image count as 0 and are not read. -/
def slotGroup (base size g : Nat) : List Nat :=
  ((List.range 16).filter (fun k => decide (1024 * g + 64 * k < size))).map (fun k => (base + 1024 * g) / 64 + k) ++ [(base + 11534336) / 64 + g]

/-- Bursts that a read of octets `off` to `off` + `n` of a slot returns, and behind them those that a rebuild of a poisoned one reads: the rest of its
group with the parity burst. -/
def slotReads (base size off n : Nat) (m : Mem) : List Nat :=
  let l := burstsOf (base + off) n
  let more := (l.filter m.bad).flatMap (fun b => slotGroup base size ((64 * b - base) / 1024))
  l ++ (more.eraseDups.filter (fun b => !l.contains b))

/-- A read of octets `off` to `off` + `n` of a slot rebuilds and rewrites every poisoned burst that it returned and whose group holds no second one. -/
def slotRepair (base size off n : Nat) (m : Mem) : Mem :=
  let bad := (burstsOf (base + off) n).filter m.bad
  let good := bad.filter (fun b => ((slotGroup base size ((64 * b - base) / 1024)).filter m.bad).length = 1)
  { m with errs := m.errs.filter (fun e => !good.contains e.1), link := m.link.filter (fun e => !good.contains e.1) }

/-- Octets up to a length, with zeros behind them (assumption log 107). -/
def padTo (n : Nat) (bs : List Byte) : List Byte := bs ++ List.replicate (n - bs.length) 0

/-- The parity burst of a group's 1,024 octets (assumption log 107). -/
def parityBurst (blk : List Byte) : List Byte :=
  (List.range 16).foldl (fun p k => List.zipWith (· ^^^ ·) p (padTo 64 (slice blk (64 * k) 64))) (List.replicate 64 0)

/-- What enters DRAM as the octets of an image from `from_` on enter a slot: their bursts, the last one padded with zeros, and the parity
bursts of their groups (assumption log 107). -/
def slotFill (base from_ : Nat) (img : List Byte) : List (Nat × List Byte) :=
  if img.length ≤ from_ then [] else
  let a := from_ / 64 * 64
  (base + a, padTo (ceilDiv img.length 64 * 64 - a) (img.drop a)) ::
    ((List.range (ceilDiv img.length 1024)).drop (from_ / 1024)).map (fun g => (base + 11534336 + 64 * g, parityBurst (slice img (1024 * g) 1024)))

/-- Octets from `from_` on of an image enter slot `i` (assumption log 107). -/
def Ctl.fillSlot (c : Ctl) (i from_ : Nat) (img : List Byte) : Ctl :=
  if c.memReady then c.setXz (fun x => { x with fills := x.fills ++ slotFill (c.slotBase i) from_ img }) else c

/-- What the image manager puts into DRAM in this step reaches it. -/
def flushFills (m : Mem) (c : Ctl) : Mem × Ctl :=
  let r := c.xz.fills.foldl (fun r w => dramStore 7 w.1 w.2 r.1 r.2) (m, c)
  (r.1, r.2.setXz (fun x => { x with fills := [] }))

/-- A step begins with nothing to put there. -/
def Ctl.noFills (c : Ctl) : Ctl := c.setXz (fun x => { x with fills := [] })

/-- A meaning by which octets may enter an image slot. -/
def runF (f : Ctl → Ctl) (s : State) : Host.Outcome State Fault Refusal := runM (fun m c => flushFills m (f c.noFills)) s

/-- The image manager reads part of a slot: bursts found poisoned are reported and rebuilt; where a group holds two, the rebuild fails
(14 R410, client 7; R85). -/
def slotReadAt (i off n : Nat) (m : Mem) (c : Ctl) : Mem × Ctl :=
  let base := c.slotBase i
  let m' := slotRepair base (c.slot i).img.length off n m
  let c := c.readBursts m 7 (slotReads base (c.slot i).img.length off n m)
  (m', if m'.poisoned (base + off) n then c.setXz (fun x => { x with parityLost := true }) else c)

/-- The image manager reads a slot. -/
def slotRead (i : Nat) (m : Mem) (c : Ctl) : Mem × Ctl := slotReadAt i 0 (c.slot i).img.length m c

/-! ### Loads (R87 to R91). The image manager runs on CP-A (18 R495): while that is stopped it does nothing (assumption log 85). -/

/-- The slot that a load goes to (R87). -/
def Ctl.loadTarget (c : Ctl) : Nat := if (c.slot 0).st = 6 then 1 else 0

/-- The load has SLOT_BUSY (R87). -/
def Ctl.loadBusy (c : Ctl) : Bool :=
  (c.slot c.loadTarget).st = 5 || c.xz.storing = some c.loadTarget || c.xz.load.isSome

/-- Unit 7 of the CRC units serves a load, a store or a verification (15 R440). -/
def Ctl.ckNeeded (c : Ctl) : Bool := c.xz.storing.isSome || c.xz.load.isSome || c.xz.slots.any (fun s => s.st = 2)

/-- The job of a pipe. -/
def Ctl.cxJob (c : Ctl) (pipe : Nat) : Option CxJob := if pipe = 0 then c.cx.inflate else c.cx.deflate

/-- Set the job of a pipe. -/
def Ctl.setCxJob (c : Ctl) (pipe : Nat) (j : Option CxJob) : Ctl :=
  { c with cx := if pipe = 0 then { c.cx with inflate := j } else { c.cx with deflate := j } }

/-- A job is counted and its pipe free (15 R444). -/
def Ctl.cxCount (c : Ctl) (pipe taken made result : Nat) : Ctl :=
  let c := ((c.setE 0x510005 result).addE 0x510003 taken).addE 0x510004 made
  (c.incE (if result < 0x10 then 0x510001 else 0x510002)).setCxJob pipe none

/-- The inflate pipe works on a load (15 R425; assumption log 124). -/
def Ctl.loadInPipe (c : Ctl) : Bool := c.cx.inflate.any (fun j => j.img.isSome)

/-- The job of a load that ends leaves the pipe, or waits no more: counted with its input, output and RESULT where the inflation itself failed (15
R432), else not (assumption log 124). -/
def Ctl.loadJobEnds (c : Ctl) (res : Option (Nat × Nat × Nat)) : Ctl :=
  let c := { c with cx := { c.cx with imgJobs := [] } }
  if !c.loadInPipe then c else
  match res with
  | some r => c.cxCount 0 r.1 r.2.1 r.2.2
  | none => c.setCxJob 0 none

/-- A load ends: a load by DMA shows DONE, with ERROR where it failed (R89); unit 7 of the CRC units is free again unless a store or a
verification needs it (15 R440). -/
def Ctl.loadEnds (c : Ctl) (failed : Bool) : Ctl :=
  match c.xz.load with
  | none => c
  | some l =>
    let c := c.setXz (fun x => { x with load := none })
    if l.dma then
      let c := c.setReg .xzLoadCtrl 0 9 1
      if failed then c.setReg .xzLoadCtrl 0 10 1 else c
    else c

/-- The octets of a load inflated, with their standing (03 R90); one octet more than an image may hold is looked for (R91). -/
def XzLoad.image (l : XzLoad) (raw : List Byte) : List Byte × Nat := inflateLoad l.enc (raw.take l.size) 11534337

/-- A load fails: the slot is REFUSED (R91). -/
def Ctl.loadFail (c : Ctl) (code detail : Nat) : Ctl :=
  match c.xz.load with
  | none => c
  | some l =>
    let err := code = 0x20 && decide (detail < 0x100)
    let c := ((c.loadJobEnds (if err then some (l.raw.length, (l.image l.raw).1.length, detail) else none)).loadEnds true).setSlot l.slot (fun _ => { st := 4 })
    (c.ckOwner c.ckNeeded).xzRefuse code detail

/-- A load begins (R87, R91; 15 R440; assumption log 100). -/
def Ctl.loadBegin (c : Ctl) (enc size : Nat) (dma : Bool) : Ctl :=
  if !c.cpaUp then c else
  if enc > 2 then c else
  if c.loadBusy then c.xzRefuse 0x22 0 else
  let t := c.loadTarget
  let c := c.setSlot t (fun _ => { st := 1 })
  let c := c.setXz (fun x => { x with load := some ⟨t, enc, size, [], dma, c.up, false, none⟩, boot := x.boot && t ≠ 0 })
  let c := (c.setE 0x410205 0).ckOwner true
  if enc ≠ 0 then { c with cx := { c.cx with imgJobs := [(t, enc)] } }
  else if decide (size > 11534336) then c.loadFail 0x21 0 else c

/-- A load's octets behind the first `had` enter the slot, inflated where the load is compressed (R85, R90, R91). -/
def Ctl.loadFill (c : Ctl) (l : XzLoad) (had : Nat) : Ctl :=
  let r := l.image l.raw
  let c := c.fillSlot l.slot (l.image (l.raw.take had)).1.length (r.1.take 11534336)
  if r.1.length > 11534336 then c.loadFail 0x21 0
  else if r.2 ≥ 0x10 then c.loadFail 0x20 r.2
  else if l.enc ≠ 0 && r.2 ≠ 3 && decide (l.raw.length ≥ l.size) then c.loadFail 0x20 0x16
  else c

/-- Octets of a load arrive (R88). A compressed load's wait for the inflate pipe (15 R425). -/
def Ctl.loadData (c : Ctl) (bs : List Byte) : Ctl :=
  if !c.cpaUp then c else
  match c.xz.load with
  | none => c
  | some l =>
    if l.closed then c else
    let l' := { l with raw := l.raw ++ bs, lastAt := c.up }
    let c := (c.setXz (fun x => { x with load := some l' })).setE 0x410205 l'.raw.length
    let c := if l.enc = 0 || c.loadInPipe then c.loadFill l' l.raw.length else c
    if l'.raw.length > l.size then c.loadFail 0x20 0x100 else c

/-- A load is whole: its slot holds the image and verification starts (R93). -/
def Ctl.loadWhole (c : Ctl) (l : XzLoad) : Ctl :=
  let g := (l.image l.raw).1
  let c := (c.loadEnds false).setSlot l.slot (fun _ => { st := 2, img := g })
  c.snoopPass 8 0 g

/-- The load is closed (R88, R91). A compressed load is whole when its job in the inflate pipe ends (15 R425). -/
def Ctl.loadClose (c : Ctl) : Ctl :=
  if !c.cpaUp then c else
  match c.xz.load with
  | none => c
  | some l =>
    if l.closed then c
    else if l.raw.length < l.size then c.loadFail 0x20 0x101
    else if l.enc = 0 then c.loadWhole l
    else c.setXz (fun x => { x with load := some { l with closed := true } })

/-- The inflate pipe takes the job of a load: what has arrived is inflated (15 R425; assumption log 124). -/
def Ctl.loadJobStart (c : Ctl) (g : Nat × Nat) : Ctl :=
  let c := { c with cx := { c.cx with imgJobs := c.cx.imgJobs.drop 1 } }.setCxJob 0 (some ⟨0, [], 0, some g⟩)
  match c.xz.load with
  | none => c
  | some l => c.loadFill l 0

/-- The job of a load ends once END has come (15 R425; assumption log 124). -/
def Ctl.loadJobDone (c : Ctl) : Ctl :=
  match c.xz.load with
  | none => c
  | some l =>
    if !l.closed then c else
    let g := (l.image l.raw).1
    let c := (c.snoopPass 9 2 l.raw).snoopPass 10 2 g
    (c.cxCount 0 l.raw.length g.length 0).loadWhole l

/-- The load is discarded: the slot is EMPTY (R88; assumption logs 100, 124; assumption log 100). -/
def Ctl.loadAbort (c : Ctl) : Ctl :=
  if !c.cpaUp then c else
  match c.xz.load with
  | none => c
  | some l =>
    let c := ((c.loadJobEnds none).loadEnds false).setSlot l.slot (fun _ => {})
    c.ckOwner c.ckNeeded

/-- LOAD_CMD BEGIN. -/
def Ctl.imageLoadBegin (c : Ctl) : Ctl := c.loadBegin (c.e 0x410201) (c.e 0x410202) false

/-- A load without data for 10 s fails (R91). -/
def Ctl.loadTimeout (c : Ctl) : Ctl := if !c.cpaUp then c else match c.xz.load with
  | some l => if !l.closed && decide (c.up ≥ l.lastAt + tS 10) then c.loadFail 0x20 0x102 else c
  | none => c

/-- The DMA engine is free and begins a load that waits for it: its octets are asked of the host (17 R488). -/
def Ctl.dmaLoadGo (c : Ctl) : Ctl :=
  match c.xz.load.bind XzLoad.waits with
  | none => c
  | some a =>
    if c.hi.j1.running then c else
    (c.setXz (fun x => { x with load := x.load.map (fun l => { l with waits := none }) })).emit
      { kind := .hostRead, a := a, b := c.xz.load.elim 0 XzLoad.size }

/-- DMA_LOAD_START (R89): the buffer's octets are asked of the host, at once or when the job that the DMA engine runs is done (17 R488;
assumption log 100). -/
def Ctl.dmaLoadStart (c : Ctl) : Ctl :=
  let was := c.xz.load
  let c := c.loadBegin (c.reg .xzLoadCtrl 0 4) (c.reg .xzLoadLen 0 0) true
  if was.isNone && c.xz.load.isSome then
    let a := c.reg .xzLoadSrcLo 0 0 + c.reg .xzLoadSrcHi 0 0 * 2 ^ 32
    (c.setXz (fun x => { x with load := x.load.map (fun l => { l with waits := some a }) })).dmaLoadGo
  else c

/-- The running load is by DMA. -/
def Ctl.dmaLoading (c : Ctl) : Bool := c.xz.load.any XzLoad.dma

/-- DMA_LOAD_END (R89, R91): the octets that the host returned, or a read error. -/
def Ctl.dmaLoadEnd (c : Ctl) (bs : List Byte) (err : Bool) : Ctl :=
  if !c.dmaLoading || c.xz.load.any (fun l => l.closed || l.waits.isSome) then c
  else if err then c.loadFail 0x20 0x103 else ((c.snoopPass 6 0 bs).loadData bs).loadClose

/-! ### Verification (R93, R94) -/

/-- The keys of the four Xezor key slots (18 R513). -/
def Ctl.xezorKeys (c : Ctl) : List (List Byte) := (List.range 4).map (fun i => (c.ev (ekey 0x1601 (i + 1))).toOct)

/-- The result of verifying a slot's image. -/
def Ctl.verifySlot (c : Ctl) (i : Nat) : Nat × Nat :=
  imgVerify (c.slot i).img c.xezorKeys (c.e 0x410404) (c.e 0x100006) c.rateInForce c.np

/-- VERIFICATION_DONE (R80, R93, R94, R103). -/
def Ctl.verificationDone (c : Ctl) (i : Nat) : Ctl :=
  if !c.cpaUp then c else
  if (c.slot i).st ≠ 2 then c else
  let r := c.verifySlot i
  let boot := c.xz.boot && i = 0
  let c := (c.setXz (fun x => { x with boot := x.boot && i ≠ 0 })).setSlot i (fun s => { s with st := if r.1 ≥ 0x10 then 4 else 3 })
  let c := c.ckOwner c.ckNeeded
  if r.1 ≥ 0x10 then c.xzRefuse r.1 r.2 else
  let c := c.xzResult r.1 r.2
  let c := if r.1 = 1 then c.post 0x3141 [] else c
  let c := c.post 0x3101 []
  let c := if laneMapsComplete (imgSec (c.slot i).img 5) then c else c.post 0x3144 []
  if boot && c.xz.pend.isNone then
    (c.setSlot i (fun s => { s with st := 5 })).setXz (fun x => { x with pend := some ⟨i, none, false⟩ })
  else c

/-! ### Activation requests (R96 to R98) -/

/-- What R96 checks again. -/
def Ctl.recheck (c : Ctl) (g : List Byte) : Nat × Nat :=
  if imgSerial g ≠ 0 ∧ imgSerial g ≠ c.e 0x410404 then (0x16, 0)
  else if imgRate g ≠ c.rateInForce then (0x15, 4)
  else if !limDram g c.np then (0x15, 12) else (0, 0)

/-- The Tick at or after which an activation is asked. -/
def Ctl.actTarget (c : Ctl) : Nat := if c.e 0x410302 = 1 then c.e 0x410303 else tickAdd c.now (tUs 100)

/-- Result of an activation request (R97, R96). -/
def Ctl.actResult (c : Ctl) : Nat × Nat :=
  let s := c.e 0x410301
  let d := tickD (c.e 0x410303) c.now
  if (c.slot s).st ≠ 3 then (0x23, 0)
  else if (List.range 2).any (fun i => (c.slot i).st = 5) then (0x22, 0)
  else if c.e 0x410302 = 1 ∧ d = -(2 ^ 63 : Nat) then (0x25, 0)
  else if c.e 0x410302 = 1 ∧ d < tUs 100 then (0x24, 0)
  else c.recheck (c.slot s).img

/-- ACT_REQUEST (R97). -/
def Ctl.actRequest (c : Ctl) : Ctl :=
  if !c.cpaUp then c else
  let r := c.actResult
  if r.1 ≠ 0 then c.xzRefuse r.1 r.2 else
  let s := c.e 0x410301
  let t := c.actTarget
  let c := c.setSlot s (fun x => { x with st := 5 })
  let c := c.setXz (fun x => { x with pend := some ⟨s, some t, false⟩ })
  (c.xzResult 0 0).post 0x3102 []

/-- FA as it is known now; before it is known, the next flip of the series (assumption log 108). -/
def Ctl.pendTick (c : Ctl) (p : XzPend) : Nat := match p.target, p.deferred with
  | some t, false => c.tn (c.flipAt t)
  | _, _ => c.nextTick

/-- PENDING_FLIP (R106): FA while an activation waits for one that is known, else 0 (assumption log 108). -/
def Ctl.pendShown (c : Ctl) : Nat := match c.xz.pend with
  | none => 0
  | some p => match p.target, p.deferred with
    | some t, false => c.tn (c.flipAt t)
    | _, _ => if c.tb.issuing && !c.isSafe then c.nextTick else 0

/-- ACT_CANCEL (R98; assumption log 100): too late too while the tables of FA are copied and the slot is still PENDING (assumption log 108). -/
def Ctl.actCancel (c : Ctl) : Ctl :=
  if !c.cpaUp then c else
  match c.xz.pend with
  | none => if c.xz.copying then c.xzRefuse 0x26 0 else c
  | some p =>
    if tickD (c.pendTick p) c.now ≤ tUs 100 then c.xzRefuse 0x26 0 else
    let c := (c.setSlot p.slot (fun x => { x with st := 3 })).setXz (fun x => { x with pend := none })
    (c.xzResult 0 0).post 0x3104 []

/-! ### Activation (R99 to R101) -/

/-- An entry whose value comes with the image (16 R450). -/
def imgKey (k : Nat) : Bool := match dictRow k with
  | some d => d.persist = .img
  | none => false

/-- Every entry with Persist Img takes the image's value or its default, both copies of a staged one (16 R450, R84, 07 R234; assumption log 112). -/
def Ctl.loadImgEntries (c : Ctl) (g : List Byte) : Ctl :=
  let vs := imgDefaults g ++ (if (imgEnt g 9).isSome then glazeParts (imgSec g 9) else [])
  let keep := fun (m : EMap) => m.filter (fun p => !imgKey p.1)
  let c := { c with ent := keep c.ent, shadow := keep c.shadow }
  vs.foldl (fun c p => c.setEv p.1 p.2) c

/-- The geometry entries of the active image (02 R67). -/
def Ctl.showGeometry (c : Ctl) (g : List Byte) : Ctl :=
  let c := ((c.setE 0x410010 (imgTile g)).setE 0x410011 (imgParallax g)).setE 0x410012 (imgCols g)
  let c := ((c.setE 0x410013 (imgRows g)).setE 0x410014 (imgVx g)).setE 0x410015 (imgVy g)
  let c := ((c.setE 0x410016 (imgRays g)).setE 0x410017 (leAt g 56 4)).setE 0x410018 (leAt g 60 4)
  let c := c.setE 0x410019 (imgBanks g)
  (List.range 7).foldl (fun c i => c.setEa 0x4101 i (leAt g (68 + 4 * i) 4)) c

/-- A ray query that an activation meets is aborted (02 R68). -/
def Ctl.queryAbort (c : Ctl) : Ctl :=
  if c.xz.query.isNone then c else
  (((c.setXz (fun x => { x with query := none })).setReg .xzRayStatus 0 3 1).setReg .xzRayStatus 0 1 1).setReg .xzRayStatus 0 0 0

/-- The activation pending for this flip is due: at FA, or at the next flip when it waits for one (R97, R101, R103). -/
def Ctl.actDue (c : Ctl) (tick : Nat) : Option XzPend := match c.xz.pend with
  | none => none
  | some p => match p.target, p.deferred with
    | some t, false => if tickD tick t ≥ 0 then some p else none
    | _, _ => some p

/-- Step 1 of R99 at flip `n`: the new image is active for all but the tables that are still copied (assumption log 100). -/
def Ctl.activate (c : Ctl) (p : XzPend) (n : Nat) : Ctl :=
  let g := (c.slot p.slot).img
  let c := c.queryAbort
  let c := c.setXz (fun x => { x with pend := none, prev := x.active, active := some p.slot, img := g, copying := true, heldFlip := some (n + 1) })
  let c := (c.setE 0x410305 p.slot).setE 0x410306 (imgId g)
  (c.loadImgEntries g).showGeometry g

/-- The activation of this flip, deferred while a safe state holds (R99, R101). -/
def Ctl.actFlip (c : Ctl) (n tick : Nat) : Ctl :=
  match c.actDue tick with
  | none => c
  | some p =>
    if c.isSafe then
      (if p.deferred then c else (c.setXz (fun x => { x with pend := some { p with deferred := true } })).post 0x3142 [])
    else c.activate p n

/-- SRAM_COPY_DONE (R99 step 3; assumption log 100). -/
def sramCopyDone (m : Mem) (c : Ctl) : Mem × Ctl :=
  match c.xz.copying, c.xz.active with
  | true, some s =>
    let r := slotRead s m (c.setXz (fun x => { x with parityLost := false }))
    let c := r.2
    if c.xz.parityLost then (r.1, c) else
    let c := match c.xz.prev with
      | some q => if q = s then c else if (c.slot q).st = 6 then c.setSlot q (fun x => { x with st := 3 }) else c
      | none => c
    let c := (c.setSlot s (fun x => { x with st := 6 })).setXz (fun x => { x with copying := false, prev := none })
    (r.1, (c.post 0x3103 []).endSafe (fun x => x.kind = .parity))
  | _, _ => (m, c)

/-! ### Storing (R105) -/

/-- The octets with one section's CRC trailer computed again. -/
def setTrailer (g : List Byte) (e : SecEnt) : List Byte :=
  g.take (e.off + e.len) ++ toLE 4 (crc32 (slice g e.off e.len)) ++ g.drop (e.off + e.len + 4)

/-- The image as it is stored: every trailer recomputed. -/
def storedForm (g : List Byte) : List Byte := (imgSecs g).foldl setTrailer g

/-- STORE_CMD (R105; assumption log 113). -/
def Ctl.storeCmd (c : Ctl) : Ctl :=
  if !c.cpaUp then c else
  match (List.range 2).find? (fun i => (c.slot i).st = 6) with
  | none => c.xzRefuse 0x22 0
  | some s =>
    if c.xz.storing.isSome then c.xzRefuse 0x22 0 else
    let c := (c.setXz (fun x => { x with storing := some s, stored := [] })).setE 0x410401 2
    (c.ckOwner true).xzResult 0 0

/-- A store that ends without a valid stored image (R105): MRAM writing has stopped. -/
def Ctl.storeFails (c : Ctl) : Ctl :=
  if c.xz.storing.isNone then c else
  let c := (c.setXz (fun x => { x with storing := none })).setE 0x410401 0
  c.ckOwner c.ckNeeded

/-- STORE_DONE (R105). -/
def storeDone (m : Mem) (c : Ctl) : Mem × Ctl :=
  match c.xz.storing with
  | none => (m, c)
  | some s =>
    if !c.cpaUp then (m, c) else
    if c.bt.mramStopped then (m, c.storeFails) else
    let r := slotRead s m c
    let c := r.2
    if r.1.poisoned (c.slotBase s) (c.slot s).img.length then (r.1, c.storeFails) else
    let g := storedForm (c.slot s).img
    let c := c.setXz (fun x => { x with storing := none, stored := g })
    let c := c.ckOwner c.ckNeeded
    (r.1, ((c.setE 0x410401 1).setE 0x410402 (imgId g)).post 0x3105 [])

/-- The stored image is copied into slot 0 and verified, or its absence is reported (R103; assumption log 100; assumption log 126). -/
def Ctl.storedLoad (c : Ctl) : Ctl :=
  let c := c.mramUse (fun w => decide (32 * w < c.xz.stored.length) && decide (w < 0x58000))
  if c.xz.stored.isEmpty then (c.setE 0x410401 0).post 0x3143 [] else
  let g := c.xz.stored
  let c := (c.setE 0x410401 1).setE 0x410402 (imgId g)
  ((c.setSlot 0 (fun _ => { st := 2, img := g })).setXz (fun x => { x with boot := true })).fillSlot 0 0 g

/-! ### Ray queries (02 R68) -/

/-- The result registers of a query read 0. -/
def Ctl.queryClear (c : Ctl) : Ctl :=
  let z := fun (c : Ctl) (p : RegName × Nat) => c.setReg p.1 0 p.2 0
  [(RegName.xzRayStatus, 3), (.xzRayStatus, 2), (.xzRayStatus, 1), (.xzRayStatus, 0), (.xzRayHogel, 16), (.xzRayHogel, 0), (.xzRayView, 24),
    (.xzRayView, 16), (.xzRayView, 8), (.xzRayView, 0), (.xzRayLens, 19), (.xzRayLens, 0), (.xzRaySx, 0), (.xzRaySy, 0)].foldl z c

/-- RAY_QUERY: ignored while one runs; an index out of range completes at once. -/
def Ctl.rayQuery (c : Ctl) (n : Nat) : Ctl :=
  if c.xz.query.isSome then c else
  let c := c.queryClear
  if n ≥ c.e 0x410016 then (c.setReg .xzRayStatus 0 2 1).setReg .xzRayStatus 0 1 1
  else (c.setXz (fun x => { x with query := some n })).setReg .xzRayStatus 0 0 1

/-- RAY_QUERY_DONE. -/
def Ctl.rayQueryDone (c : Ctl) : Ctl :=
  match c.xz.query with
  | none => c
  | some n =>
    let r := rayGeo c.img n
    let c := ((c.setXz (fun x => { x with query := none })).setReg .xzRayStatus 0 0 0).setReg .xzRayStatus 0 1 1
    let c := ((c.setReg .xzRayHogel 0 16 r.row).setReg .xzRayHogel 0 0 r.col).setReg .xzRayView 0 24 (u8At r.view 13)
    let c := ((c.setReg .xzRayView 0 16 (u8At r.view 12)).setReg .xzRayView 0 8 r.j).setReg .xzRayView 0 0 r.i
    let c := ((c.setReg .xzRayLens 0 19 (lensBank r.lens)).setReg .xzRayLens 0 0 r.rec_).setReg .xzRaySx 0 0 r.sx
    c.setReg .xzRaySy 0 0 r.sy

/-! ### The commands -/

/-- IMAGE_LOAD_BEGIN. -/
def execImageLoadBegin (dt : Nat) (s : State) : Host.Outcome State Fault Refusal := runC (fun c => (c.advance dt).imageLoadBegin) s
/-- IMAGE_LOAD_DATA. -/
def execImageLoadData (dt : Nat) (bytes : List Byte) (s : State) : Host.Outcome State Fault Refusal :=
  runF (fun c => let c := c.advance dt; if c.dmaLoading then c else c.loadData bytes) s
/-- IMAGE_LOAD_END. -/
def execImageLoadEnd (dt : Nat) (s : State) : Host.Outcome State Fault Refusal :=
  runC (fun c => let c := c.advance dt; if c.dmaLoading then c else c.loadClose) s
/-- IMAGE_LOAD_ABORT. -/
def execImageLoadAbort (dt : Nat) (s : State) : Host.Outcome State Fault Refusal :=
  runC (fun c => let c := c.advance dt; if c.dmaLoading then c else c.loadAbort) s
/-- DMA_LOAD_START. -/
def execDmaLoadStart (dt : Nat) (s : State) : Host.Outcome State Fault Refusal := runC (fun c => (c.advance dt).dmaLoadStart) s
/-- DMA_LOAD_ABORT. -/
def execDmaLoadAbort (dt : Nat) (s : State) : Host.Outcome State Fault Refusal :=
  runC (fun c => let c := c.advance dt; if c.dmaLoading then c.loadAbort else c) s
/-- DMA_LOAD_END. -/
def execDmaLoadEnd (dt : Nat) (bytes : List Byte) (err : Bool) (s : State) : Host.Outcome State Fault Refusal :=
  runF (fun c => (c.advance dt).dmaLoadEnd bytes err) s
/-- VERIFICATION_DONE. -/
def execVerificationDone (dt slot : Nat) (s : State) : Host.Outcome State Fault Refusal := runC (fun c => (c.advance dt).verificationDone slot) s
/-- ACT_REQUEST. -/
def execActRequest (dt : Nat) (s : State) : Host.Outcome State Fault Refusal := runC (fun c => (c.advance dt).actRequest) s
/-- ACT_CANCEL. -/
def execActCancel (dt : Nat) (s : State) : Host.Outcome State Fault Refusal := runC (fun c => (c.advance dt).actCancel) s
/-- SRAM_COPY_DONE. -/
def execSramCopyDone (dt : Nat) (ue : List DramErr) (s : State) : Host.Outcome State Fault Refusal :=
  runM (fun m c => sramCopyDone (m.found ue) (c.advance dt)) s
/-- STORE_CMD. -/
def execStoreCmd (dt : Nat) (s : State) : Host.Outcome State Fault Refusal := runC (fun c => (c.advance dt).storeCmd) s
/-- STORE_DONE. -/
def execStoreDone (dt : Nat) (ue : List DramErr) (s : State) : Host.Outcome State Fault Refusal :=
  runM (fun m c => storeDone (m.found ue) (c.advance dt)) s
/-- RAY_QUERY. -/
def execRayQuery (dt index : Nat) (s : State) : Host.Outcome State Fault Refusal := runC (fun c => (c.advance dt).rayQuery index) s
/-- RAY_QUERY_DONE. -/
def execRayQueryDone (dt : Nat) (s : State) : Host.Outcome State Fault Refusal := runC (fun c => (c.advance dt).rayQueryDone) s

end Sys2Proof.Machine
end

