-- ==== Sys2Proof/Machine/Compression.lean ====
section
/-! DEFINITION. The compression engine (15 R424 to R433): its job queue J0 (17 R487), jobs, contexts, results and faults. -/
namespace Sys2Proof.Machine

/-! ### Job queues in DRAM (17 R487) -/

/-- Entries of job queue `q` (assumption log 65). -/
def Ctl.jqEntries (c : Ctl) (q : Nat) : Nat := 2 ^ c.reg .hiJqCfg q 16

/-- Address of entry `i` of job queue `q`. -/
def Ctl.jqAddr (c : Ctl) (q i : Nat) : Nat := c.reg .hiJqBaseLo q 0 + c.reg .hiJqBaseHi q 0 * 2 ^ 32 + 64 * i

/-- HEAD and TAIL of job queue `q`. -/
def Ctl.jqHead (c : Ctl) (q : Nat) : Nat := c.reg .hiJqPtr q 0
/-- TAIL of job queue `q`. -/
def Ctl.jqTail (c : Ctl) (q : Nat) : Nat := c.reg .hiJqPtr q 16

/-- The entries from HEAD to TAIL, in order. -/
def Ctl.jqOpen (c : Ctl) (q : Nat) : List Nat :=
  let n := c.jqEntries q
  (List.range ((c.jqTail q + n - c.jqHead q) % n)).map (fun i => (c.jqHead q + i) % n)

/-! ### Descriptors and contexts -/

/-- A descriptor error found before the job runs: 0x30 DESCRIPTOR_BAD, 0x32 ADDRESS_PROTECTED (15 R432). -/
def Ctl.cxDescError (c : Ctl) (d : List Byte) : Nat :=
  let op := u8At d 0
  let inl := leAt d 16 4
  if (op ≠ 1 ∧ op ≠ 2) ∨ u8At d 1 > 2 ∨ u8At d 2 ≥ 8 ∨ (op = 2 ∧ u8At d 3 > 2) ∨ leAt d 20 4 = 0 ∨ leAt d 32 8 % 64 ≠ 0 then 0x30
  else if !c.dramOk (leAt d 32 8) 36864 || !c.dramOk (leAt d 24 8) (leAt d 20 4) || (inl ≠ 0 && !c.dramOk (leAt d 8 8) inl) then 0x32
  else 0

/-- A job that touches no memory: no input and more to come (15 R427). -/
def cxEmptyJob (d : List Byte) : Bool := leAt d 16 4 = 0 && !(bit (u8At d 2) 1)

/-- The number of the DEFLATE stream that the context of a descriptor names (assumption log 34). -/
def Ctl.cxStream (c : Ctl) (m : Mem) (d : List Byte) : Option CxStream :=
  let id := ofLE (m.read (leAt d 32 8 + 4) 4)
  c.cx.streams.find? (fun s => s.id = id)

/-- The context may be resumed by this job: SUSPENDED and of the same OP and FRAMING (15 R428; assumption log 34). -/
def Ctl.cxResumable (c : Ctl) (m : Mem) (d : List Byte) : Bool :=
  let h := m.read (leAt d 32 8) 3
  u8At h 0 = 2 && u8At h 1 = u8At d 0 && u8At h 2 = u8At d 1 && (u8At d 0 = 1 || (c.cxStream m d).isSome)

/-- The header of a context: STATE, OP, FRAMING and the number of its DEFLATE stream (15 R428; assumption log 34). -/
def cxHeader (st op framing id : Nat) : List Byte := [byteOf st, byteOf op, byteOf framing, 0] ++ toLE 4 id ++ List.replicate 56 0

/-- Bytes 64 to 4,095 of the context of a DEFLATE stream: check, count, pending bits, and output so far (assumption log 34). -/
def DfPipe.pack (p : DfPipe) (out : Nat) : List Byte :=
  let bs := packFields [(4, p.chk), (8, p.n), (1, p.pend.length), (1, (p.pend.zipIdx.map (fun b => b2n b.1 * 2 ^ b.2)).sum), (8, out)]
  bs ++ List.replicate (4032 - bs.length) 0

/-- A DEFLATE pipe as its context gives it: the bytes above, and the history, which are the last of the consumed input (assumption log 34). -/
def DfPipe.unpack (p : DfPipe) (o hist : List Byte) : DfPipe :=
  { p with chk := leAt o 0 4, n := leAt o 4 8, pend := (List.range (u8At o 12)).map (fun i => (u8At o 13).testBit i),
           plain := p.plain.take (p.plain.length - hist.length) ++ hist }

/-- The running check and the output so far of the stream that a descriptor goes on with (15 R426); those of an empty stream where it begins one, and zeros
where its context holds no such stream (assumption log 31). -/
def Ctl.cxSoFar (c : Ctl) (m : Mem) (d : List Byte) : Nat × Nat :=
  let ctx := leAt d 32 8
  let fr := u8At d 1
  let o := m.read (ctx + 64) 32
  if bit (u8At d 2) 0 then (chkOut fr (chkStart fr), 0)
  else if !c.dramOk ctx 36864 || !c.cxResumable m d then (0, 0)
  else if u8At d 0 = 1 then (chkOut fr (leAt o 13 4), leAt o 17 8) else (chkOut fr (leAt o 0 4), leAt o 14 8)

/-- The pipe that takes a job: 0 inflate, 1 deflate. A job of no known OP is refused by the inflate pipe (assumption log 31). -/
def cxPipeOf (d : List Byte) : Nat := if u8At d 0 = 2 then 1 else 0

/-- Another job with the same context runs, or is queued ahead (15 R428). -/
def Ctl.cxContextBusy (c : Ctl) (m : Mem) (slot : Nat) (d : List Byte) : Bool :=
  let ctx := leAt d 32 8
  let same := fun (j : CxJob) => j.img.isNone && leAt j.desc 32 8 = ctx
  c.cx.inflate.any same || c.cx.deflate.any same ||
  ((c.jqOpen 0).takeWhile (· ≠ slot)).any (fun i => !c.cx.doneSlots.contains i && leAt (m.read (c.jqAddr 0 i) 64) 32 8 = ctx)

/-- CX_JOB_START (15 R425, R427, R428): a free pipe takes a job of the image manager, else the next job of its OP. CP-A dispatches (18 R495);
while THROTTLE holds the pipes run one at a time (19 R533). -/
def cxStart (pipe : Nat) (m : Mem) (c : Ctl) : Mem × Ctl :=
  if (c.cxJob pipe).isSome || c.e 0x510007 ≠ 0 || !c.cpaUp || (c.pm.throttle && (c.cxJob (1 - pipe)).isSome) then (m, c) else
  match (if pipe = 0 then c.cx.imgJobs else []) with
  | g :: _ => flushFills m (c.noFills.loadJobStart g)
  | [] =>
    if c.reg .hiJqCfg 0 0 = 0 || !c.memReady then (m, c) else
    let running := ((c.cx.inflate.map CxJob.slot).toList ++ (c.cx.deflate.map CxJob.slot).toList)
    match (c.jqOpen 0).find? (fun i => !c.cx.doneSlots.contains i && !running.contains i && cxPipeOf (m.read (c.jqAddr 0 i) 64) = pipe) with
    | none => (m, c)
    | some i =>
      let a := c.jqAddr 0 i
      let c := c.readDram m 8 a 64
      let d := m.read a 64
      let e := c.cxDescError d
      let first := bit (u8At d 2) 0
      let e := if e ≠ 0 then e else if m.poisoned a 64 then 0x33
        else if cxEmptyJob d then 0
        else if !first && m.poisoned (leAt d 32 8) 36864 then 0x33
        else if !first && (!c.cxResumable m d || c.cxContextBusy m i d) then 0x31 else 0
      let c := if first || cxEmptyJob d || (e ≠ 0 && e ≠ 0x33 && e ≠ 0x31) then c else c.readDram m 8 (leAt d 32 8) 36864
      let job : CxJob := ⟨i, d, e, none⟩
      if e ≠ 0 || cxEmptyJob d then (m, c.setCxJob pipe (some job)) else
      let id := if first && pipe = 1 then c.cx.nextId else 0
      let c := if first && pipe = 1 then { c with cx := { c.cx with nextId := id + 1, streams := c.cx.streams ++ [⟨id, .start (u8At d 1)⟩] } } else c
      let q := dramStore 8 (leAt d 32 8) (if first then cxHeader 1 (u8At d 0) (u8At d 1) id else [1]) m c
      (q.1, q.2.setCxJob pipe (some job))

/-! ### What a job computes -/

/-- What a job answers: its output, input consumed, RESULT, and of the stream its uncompressed history, check, output so far, and the octets
that its context keeps of the pipe. -/
structure CxOut where
  out : List Byte
  taken : Nat
  result : Nat
  hist : List Byte
  check : Nat
  total : Nat
  ctx : List Byte
  deriving DecidableEq, Repr

/-- The last 32 KiB. -/
def lastWindow (l : List Byte) : List Byte := l.drop (l.length - 32768)

/-- An INFLATE job: the pipe and the history that the context gives take the job's input (15 R427, R429). -/
def cxInflate (framing : Nat) (first : Bool) (pipe hist inp : List Byte) (last : Bool) (limit : Nat) : CxOut :=
  let u := if first then (InfPipe.start framing, 0, 0, 0) else unpackInf pipe
  let h := if first then [] else hist.take u.1.n
  let f := inflateOn framing u.1 h u.2.1 u.2.2.1 u.2.2.2 inp limit
  let r := if f.st = 3 then 0 else if f.st = 1 then 2 else if f.st = 2 then (if last then 0x16 else 1) else f.st
  ⟨f.out, if f.st = 2 then inp.length else inp.length - f.br.rest.length, r, lastWindow (h ++ f.out), chkOut framing f.pipe.chk, f.pipe.n, f.pack⟩

/-- A DEFLATE job (15 R427, R430): whole octets go out, and the pipe after it. -/
def cxDeflate (framing mode : Nat) (p : DfPipe) (before : Nat) (inp : List Byte) (last : Bool) (limit : Nat) : CxOut × DfPipe :=
  let r := dfRun framing mode last (inp.length / 65535 + 4) (8 * limit - p.pend.length) p inp []
  let bs := p.pend ++ r.bits
  let out := packLow (bs.take (bs.length / 8 * 8))
  (⟨out, inp.length - r.rest.length, r.result, lastWindow r.pipe.plain, chkOut framing r.pipe.chk, before + out.length, r.pipe.pack (before + out.length)⟩,
   r.pipe)

/-! ### The end of a job -/

/-- The octets that a job writes back into its descriptor from byte 40 (15 R426). -/
def cxBack (taken made result check total : Nat) : List Byte :=
  toLE 4 taken ++ toLE 4 made ++ [byteOf result, 0, 0, 0] ++ toLE 4 check ++ toLE 8 total

/-- Counters, events and the queue at the end of a host job (15 R443, R444; 17 R487). -/
def Ctl.cxReport (c : Ctl) (pipe : Nat) (job : CxJob) (taken made result : Nat) : Ctl :=
  let c := c.cxCount pipe taken made result
  let tag := leAt job.desc 4 4
  let c := if result = 0x20 then (c.incE 0x510006).orReg .cxEvents 0 1 0 else c
  let c := if result ≥ 0x10 then c.post 0x4181 [i32 tag, i8 result]
    else if bit (u8At job.desc 2) 2 then c.post 0x4101 [i32 tag, i8 result] else c
  let n := c.jqEntries 0
  let done := job.slot :: c.cx.doneSlots
  let run := ((c.jqOpen 0).takeWhile (fun i => done.contains i)).length
  let head := (c.jqHead 0 + run) % n
  let c := c.setReg .hiJqPtr 0 0 head
  { c with cx := { c.cx with doneSlots := done.filter (fun i => (c.jqOpen 0).contains i) } }

/-- A job's descriptor is written back and the job reported. -/
def cxFinish (pipe : Nat) (job : CxJob) (taken made result check total : Nat) (m : Mem) (c : Ctl) : Mem × Ctl :=
  let q := dramStore 8 (c.jqAddr 0 job.slot + 40) (cxBack taken made result check total) m c
  (q.1, q.2.cxReport pipe job taken made result)

/-- A job ends with a code that failed it before it ran, or with ENGINE_FAULT (15 R428, R432, R433). -/
def cxFail (pipe : Nat) (job : CxJob) (code : Nat) (m : Mem) (c : Ctl) : Mem × Ctl :=
  let ctx := leAt job.desc 32 8
  let s := c.cxSoFar m job.desc
  let q := if code ≠ 0x31 && ctx % 64 = 0 && c.dramOk ctx 36864 then dramStore 8 ctx [4] m c else (m, c)
  cxFinish pipe job 0 0 code s.1 s.2 q.1 q.2

/-- A job that has run ends: its output, its context with the STATE, and its descriptor are written (15 R426 to R429). -/
def cxWrite (pipe : Nat) (job : CxJob) (id result : Nat) (r : CxOut) (m : Mem) (c : Ctl) : Mem × Ctl :=
  let d := job.desc
  let st := if result = 0 then 3 else if result < 0x10 then 2 else 4
  let q := dramStore 8 (leAt d 24 8) r.out m c
  let q := dramStore 8 (leAt d 32 8) (cxHeader st (u8At d 0) (u8At d 1) id ++ r.ctx ++ r.hist) q.1 q.2
  cxFinish pipe job r.taken r.out.length result r.check r.total q.1 q.2

/-- A job ends (15 R427 to R433), of itself or `cut` after a number of output octets with a code: the verify inflater differed, or the pipe
failed. IN_CONSUMED and OUT_PRODUCED then show that place (R432). -/
def cxEndAt (pipe : Nat) (cut : Option (Nat × Nat)) (m : Mem) (c : Ctl) : Mem × Ctl :=
  match c.cxJob pipe with
  | none => (m, c)
  | some job =>
    let d := job.desc
    if job.img.isSome then (m, c)
    else if job.early ≠ 0 then cxFail pipe job job.early m c
    else if cxEmptyJob d then
      let s := c.cxSoFar m d
      cxFinish pipe job 0 0 1 s.1 s.2 m c
    else
      let fr := u8At d 1
      let first := bit (u8At d 2) 0
      let inA := leAt d 8 8
      let inL := leAt d 16 4
      let clean := m.cleanPrefix inA inL
      let last := bit (u8At d 2) 1 && clean = inL
      let inp := m.read inA clean
      let lim := cut.elim (leAt d 20 4) (fun x => min x.1 (leAt d 20 4))
      let ctx := m.read (leAt d 32 8 + 64) 36800
      let before := leAt ctx 14 8
      let s := (c.cxStream m d).getD ⟨0, .start fr⟩
      let p := if first then DfPipe.start fr else s.pipe.unpack ctx ((ctx.drop 4032).take (min 32768 (leAt ctx 4 8)))
      let df := cxDeflate fr (u8At d 3) p (if first then 0 else before) inp last lim
      let r := if u8At d 0 = 1 then cxInflate fr first (ctx.take 4032) (ctx.drop 4032) inp last lim else df.1
      let stuck := decide (clean < inL) && r.result = 1
      let result := cut.elim (if stuck then 0x33 else r.result) Prod.snd
      let c := c.readDram m 8 inA (if stuck then clean + 1 else r.taken)
      let keep := fun (x : CxStream) => if x.id = s.id then { x with pipe := df.2 } else x
      let c := if u8At d 0 = 1 then c else { c with cx := { c.cx with
        streams := if result ≠ 0 && decide (result < 0x10) then c.cx.streams.map keep else c.cx.streams.filter (fun x => x.id ≠ s.id) } }
      let c := (c.snoopPass 9 (3 - u8At d 0) (inp.take r.taken)).snoopPass 10 (3 - u8At d 0) r.out
      cxWrite pipe job (if u8At d 0 = 1 then 0 else s.id) result r m c

/-- CX_JOB_END (15 R427 to R432): `verify` gives the octets written before the verify inflater differed from a DEFLATE job (R431). -/
def cxEnd (pipe : Nat) (verify : Option Nat) (m : Mem) (c : Ctl) : Mem × Ctl :=
  if pipe = 0 && c.loadInPipe then (m, c.loadJobDone) else
  cxEndAt pipe (if pipe = 1 then verify.map (fun n => (n, 0x20)) else none) m c

/-- CX_FAULT (15 R433): the running jobs stop with ENGINE_FAULT, having put out `made` octets, and the queue is held; a load whose job runs fails
with that detail (R432, 03 R91; assumption log 31). -/
def cxFault (pipe : Nat) (made : List Nat) (m : Mem) (c : Ctl) : Mem × Ctl :=
  let stop := fun (p : Nat) (x : Mem × Ctl) => match x.2.cxJob p with
    | none => x
    | some job => if job.early ≠ 0 || cxEmptyJob job.desc then cxFail p job 0x34 x.1 x.2 else cxEndAt p (some (made.getD p 0, 0x34)) x.1 x.2
  let c := if c.loadInPipe then c.loadFail 0x20 0x34 else c
  let r := stop 1 (stop 0 (m, c))
  (r.1, ((((r.2.setCxJob 0 none).setCxJob 1 none).setE 0x510007 1).unitOut 0x41 pipe).post 0x41C1 [i8 pipe])

/-- A pipe is back in service: the queue goes on when none is out (R433, 20 R560). -/
def Ctl.cxBack (c : Ctl) (pipe : Nat) : Ctl := if c.isOut 0x41 (1 - pipe) then c else c.setE 0x510007 0

/-- CX_JOB_START. -/
def execCxJobStart (dt pipe : Nat) (s : State) : Host.Outcome State Fault Refusal :=
  runM (fun m c => cxStart pipe m (c.advance dt)) s
/-- CX_JOB_END. -/
def execCxJobEnd (dt pipe : Nat) (verify : Option Nat) (ue : List DramErr) (s : State) : Host.Outcome State Fault Refusal :=
  runM (fun m c => cxEnd pipe verify (m.found ue) (c.advance dt)) s
/-- CX_FAULT. -/
def execCxFault (dt pipe : Nat) (made : List Nat) (ue : List DramErr) (s : State) : Host.Outcome State Fault Refusal :=
  runM (fun m c => cxFault pipe made (m.found ue) (c.advance dt)) s

end Sys2Proof.Machine
end

