-- ==== Sys2Proof/Machine/Thermal.lean ====
section
/-! DEFINITION. The thermal sites, the cross-check, levels and service life (19 R528 to R536, 21 R586). Temperatures are kept in
1/16 °C: readings are in 1/8 °C, and the mean of two of them is then exact. -/
namespace Sys2Proof.Machine

/-- A temperature in whole °C as 1/16 °C (assumption log 86). -/
def degC (n : Int) : Int := n * 16

/-- 1/16 °C in m°C, rounded down (assumption log 86). -/
def milliC (t : Int) : Int := t * 125 / 2

/-- Neighbours of a site on the grid of 6 by 4 (19 R528). -/
def siteNeighbours (s : Nat) : List Nat :=
  let x := s % 6
  let y := s / 6
  (if x > 0 then [s - 1] else []) ++ (if x < 5 then [s + 1] else []) ++ (if y > 0 then [s - 6] else []) ++ (if y < 3 then [s + 6] else [])

/-- Insertion into a rising list. -/
def insertInt : List Int → Int → List Int
  | [], x => [x]
  | y :: ys, x => if x ≤ y then x :: y :: ys else y :: insertInt ys x

/-- A list of integers in rising order. -/
def sortInt (l : List Int) : List Int := l.foldl insertInt []

/-- The median; with an even count, the mean of the two middle values (19 R529). -/
def medianInt (l : List Int) : Option Int :=
  let s := sortInt l
  let n := s.length
  if n = 0 then none
  else if n % 2 = 1 then s[n / 2]?
  else some ((s.getD (n / 2 - 1) 0 + s.getD (n / 2) 0) / 2)

/-- A site of the list (a fresh one past its end). -/
def siteAt (l : List Site) (i : Nat) : Site := l.getD i {}

/-- The estimate of a site: the median of its VALID neighbours' readings (19 R529 step 1). -/
def siteEstimate (l : List Site) (i : Nat) : Option Int :=
  medianInt ((siteNeighbours i).filterMap (fun n => if (siteAt l n).state = 0 then (siteAt l n).reading else none))

/-- How far a VALID site's reading lies from its estimate. -/
def siteDiff (x : Site) : Option Int :=
  if x.state ≠ 0 then none else
  match x.reading, x.estimate with
  | some r, some e => some (if r ≥ e then r - e else e - r)
  | _, _ => none

/-- The site that the cross-check excludes: the greatest difference above 12 °C, the lowest number of equal ones (19 R529 step 2). -/
def worstSite (l : List Site) : Option Nat :=
  ((List.range 24).foldl (fun (b : Option (Nat × Int)) i =>
    match siteDiff (siteAt l i) with
    | none => b
    | some d => if d ≤ degC 12 then b else match b with
      | none => some (i, d)
      | some p => if d > p.2 then some (i, d) else b) none).map Prod.fst

/-- The site value of one site, where it has one of its own (19 R529 step 3, R540). -/
def siteOwnValue (x : Site) : Option Int :=
  if x.state = 0 then x.reading
  else if x.state = 1 then
    match x.reading, x.estimate with
    | some r, some e => some (max r e)
    | some r, none => some r
    | none, e => e
  else match x.estimate, x.lastValid with
    | some e, _ => some (e + degC 10)
    | none, some v => some (v + degC 10)
    | none, none => none

/-- Greatest of optional values. -/
def maxOpt (l : List (Option Int)) : Option Int :=
  l.foldl (fun b v => match b, v with
    | none, v => v
    | b, none => b
    | some a, some v => some (max a v)) none

/-- T_MAX and its site (19 R529 step 4): the greatest site value, the lowest number of equal ones. -/
def hottest (l : List Site) : Nat :=
  ((List.range l.length).foldl (fun (b : Option (Nat × Int)) i =>
    match b with
    | none => some (i, (siteAt l i).value)
    | some p => if (siteAt l i).value > p.2 then some (i, (siteAt l i).value) else b) none).elim 0 Prod.fst

/-- A pair of adjacent sites that are each EXCLUDED or FAILED, first by number (19 R535). -/
def badPair (l : List Site) : Option (Nat × Nat) :=
  firstSome (fun i => if (siteAt l i).state < 2 then none else
    ((siteNeighbours i).filter (fun n => decide (n > i) && decide ((siteAt l n).state ≥ 2))).head?.map (fun n => (i, n))) (List.range 24)

/-- Set the power and thermal part. -/
def Ctl.setPm (c : Ctl) (f : PmState → PmState) : Ctl := { c with pm := f c.pm }

/-- T_MAX as an event item: 16 bits, 1/8 °C (19 R542, R544; assumption log 86). -/
def Ctl.tmaxItem (c : Ctl) : Nat × Nat := i16 (ofSigned 16 (c.pm.tmax / 2))

/-- THROTTLE is in force. -/
def Ctl.throttled (c : Ctl) : Bool := c.pm.throttle

/-- THROTTLE_LOCKED. -/
def Ctl.throttleLocked (c : Ctl) : Bool := c.e 0x130004 ≠ 0

/-- WARNING and THROTTLE as THERMAL_LEVEL shows them. -/
def Ctl.showLevel (c : Ctl) : Ctl := c.setE 0x130003 (if c.pm.throttle then 2 else if c.pm.warning then 1 else 0)

/-- The levels are left where their conditions allow (19 R531, R534, R535). -/
def Ctl.leaveLevels (c : Ctl) : Ctl :=
  let t := c.pm.tmax
  let held := match c.pm.holdUntil with
    | some u => decide (c.up < u)
    | none => false
  let c := if c.pm.throttle && decide (t ≤ degC 103) && !held && !c.throttleLocked then
      (c.setPm (fun p => { p with throttle := false, holdUntil := none })).post 0x0302 [c.tmaxItem] else c
  let c := if c.pm.warning && !c.pm.throttle && decide (t ≤ degC 95) then
      (c.setPm (fun p => { p with warning := false })).post 0x0301 [c.tmaxItem] else c
  c.showLevel

/-- The levels are entered where T_MAX asks for them (19 R531). -/
def Ctl.enterLevels (c : Ctl) : Ctl :=
  let t := c.pm.tmax
  let hot := c.e 0x130002
  let c := if !c.pm.warning && (decide (t ≥ degC 100) || c.pm.throttle) then
      (c.setPm (fun p => { p with warning := true })).post 0x0341 [c.tmaxItem, i8 hot] else c
  let c := if !c.pm.throttle && decide (t ≥ degC 108) then
      (c.setPm (fun p => { p with throttle := true })).post 0x0342 [c.tmaxItem, i8 hot] else c
  c.showLevel

/-- THROTTLE is locked when two adjacent sites are out (19 R535). -/
def Ctl.lockThrottle (c : Ctl) : Ctl :=
  if c.throttleLocked then c else
  match badPair c.pm.sites with
  | none => c
  | some (a, b) =>
    let was := c.pm.throttle
    let c := c.setPm (fun p => { p with throttle := true })
    let c := c.setE 0x130004 1
    let c := if !c.pm.warning then (c.setPm (fun p => { p with warning := true })).post 0x0341 [c.tmaxItem, i8 (c.e 0x130002)] else c
    let c := if was then c else c.post 0x0342 [c.tmaxItem, i8 (c.e 0x130002)]
    (c.post 0x03C3 [i8 a, i8 b]).showLevel

/-- The entries of the sites show them. -/
def Ctl.showSites (c : Ctl) : Ctl :=
  (List.range 24).foldl (fun c i =>
    let x := siteAt c.pm.sites i
    let c := (c.setEa 0x1310 i (ofSigned 32 (milliC x.value))).setEa 0x1311 i x.state
    c.setEa 0x1312 i (ofSigned 32 (milliC (x.estimate.getD 0)))) c

/-- Readings of a round: a failed site becomes FAILED at once, a VALID one takes its reading; a site under recalibration holds. -/
def siteTake (r : Int × Bool) (x : Site) : Site :=
  if x.state = 3 then x
  else if r.2 then { x with state := 3 }
  else if x.stale then x
  else { x with reading := some (2 * r.1), lastValid := if x.state = 0 then some (2 * r.1) else x.lastValid }

/-- One site is excluded; the third time it fails (19 R529, R530). -/
def siteExclude (x : Site) : Site :=
  { x with state := if x.excluded ≥ 2 then 3 else 2, excluded := x.excluded + 1, goodSince := none }

/-- An excluded site's reading is followed for readmission (19 R530). -/
def siteFollow (up : Nat) (x : Site) : Site :=
  if x.state ≠ 2 || x.stale then x else
  match x.reading, x.estimate with
  | some r, some e =>
    let d := if r ≥ e then r - e else e - r
    if d ≤ degC 6 then { x with goodSince := some (x.goodSince.getD up) } else { x with goodSince := none }
  | _, _ => { x with goodSince := none }

/-- Service-life sums and THROTTLE_TIME take the time since the last round (19 R543, 21 R586; assumption log 86). -/
def Ctl.lifeTick (c : Ctl) : Ctl :=
  let d := c.up - c.pm.lastRound
  let hotT := if c.pm.tmax > degC 100 then d else 0
  let acc := c.pm.throttleAcc + (if c.pm.throttle then d else 0)
  let c := c.addE 0x130008 (acc / tS 1)
  c.setPm (fun p => { p with lastRound := c.up, lifeSum := p.lifeSum + p.tmax * d, lifeTime := p.lifeTime + d, lifeHot := p.lifeHot + hotT, throttleAcc := acc % tS 1 })

/-- The conversion round but for a shutdown (19 R528 to R535): readings in 1/8 °C with the self-test's verdict of each site. -/
def Ctl.thermalRound (c : Ctl) (rd : List (Int × Bool)) : Ctl :=
  if rd.length ≠ 24 then c else
  let c := c.lifeTick
  let old := c.pm.sites
  let wasHot := c.e 0x130002
  let idx := List.range 24
  let s1 := idx.map (fun i => siteTake (rd.getD i (0, false)) (siteAt old i))
  let failed := idx.filter (fun i => (siteAt s1 i).state = 3 && (siteAt old i).state ≠ 3)
  let s2 := idx.map (fun i => { siteAt s1 i with estimate := siteEstimate s1 i })
  let worst := worstSite s2
  let s3 := match worst with
    | some i => updAt s2 i (fun x => { siteExclude x with lastValid := (siteAt old i).lastValid })
    | none => s2
  let s3 := s3.map (siteFollow c.up)
  let top := maxOpt (s3.map siteOwnValue)
  let s4 := s3.map (fun x => { x with value := (siteOwnValue x).getD ((top.getD (degC 110)) + degC 10) })
  let out := failed ++ worst.toList
  let c := c.setPm (fun p => { p with sites := s4, rounds := p.rounds + 1 })
  let hot := hottest s4
  let c := c.setPm (fun p => { p with tmax := (siteAt s4 hot).value })
  let c := ((c.setE 0x130001 (ofSigned 32 (milliC c.pm.tmax))).setE 0x130002 hot).showSites
  let c := out.foldl (fun c i => c.post 0x03C2 [i8 i, i8 (siteAt s4 i).state, i16 (ofSigned 16 (rd.getD i (0, false)).1)]) c
  let c := if c.pm.throttle && out.contains wasHot then c.setPm (fun p => { p with holdUntil := some (c.up + tS 2) }) else c
  let c := c.lockThrottle
  (c.enterLevels).leaveLevels

/-- The junction has reached the SHUTDOWN threshold (19 R531). -/
def Ctl.tooHot (c : Ctl) : Bool := decide (c.pm.tmax ≥ degC 120)

/-- Uptime since which T_MAX is at or below 100 °C (19 R522). -/
def Ctl.coolWatch (c : Ctl) : Ctl :=
  c.setPm (fun p => { p with coolSince := if p.tmax ≤ degC 100 then some (p.coolSince.getD c.up) else none })

/-- No TEMP instance holds the site any more (19 R540). -/
def Site.unhold (x : Site) : Site := { x with stale := false, state := if x.state = 1 then 0 else x.state }

/-- SITE_READMITTED (19 R530). -/
def Ctl.siteReadmit (c : Ctl) (i : Nat) : Ctl :=
  let x := siteAt c.pm.sites i
  match x.goodSince with
  | none => c
  | some t =>
    if x.state ≠ 2 ∨ c.up < t + tS 10 then c else
    let c := c.setPm (fun p => { p with sites := updAt p.sites i (fun x => { x with state := 0, goodSince := none, lastValid := x.reading }) })
    (c.setEa 0x1311 i 0).post 0x0303 [i8 i]

/-- THROTTLE_HOLD_EXPIRY (19 R534). -/
def Ctl.holdExpiry (c : Ctl) : Ctl :=
  match c.pm.holdUntil with
  | none => c
  | some u => if c.up < u then c else (c.setPm (fun p => { p with holdUntil := none })).leaveLevels

/-- SITE_READMITTED. -/
def execSiteReadmitted (dt site : Nat) (s : State) : Host.Outcome State Fault Refusal :=
  runC (fun c => (c.advance dt).siteReadmit site) s
/-- THROTTLE_HOLD_EXPIRY. -/
def execThrottleHoldExpiry (dt : Nat) (s : State) : Host.Outcome State Fault Refusal :=
  runC (fun c => (c.advance dt).holdExpiry) s

end Sys2Proof.Machine
end

