-- ==== Sys2Proof/Machine/Power.lean ====
section
/-! DEFINITION. Adaptive voltage scaling, regulator telemetry and clock faults (19 R517 to R527), and calibration (R537 to R541). The
power sequence and the shutdown are in Boot.lean. -/
namespace Sys2Proof.Machine

/-! ### AVS (19 R525) -/

/-- The VDD_CORE target, in units of 0.5 mV, held between AVS_FLOOR and AVS_CEILING and sent to the regulator. At TADPOLE it is fixed (R524). -/
def Ctl.setTarget (c : Ctl) (t : Nat) : Ctl :=
  if c.e 0x120001 = 1 then c else
  let t := clampN (2 * c.e 0x120003) (2 * c.e 0x120004) t
  let c := if t = c.pm.target then c else c.emit { kind := .pin, a := 1, b := 1, c := t }
  (c.setPm (fun p => { p with target := t })).setE 0x120002 (t / 2)

/-- AVS_LIMIT: the target sits at the ceiling while slack is short. -/
def Ctl.avsLimit (c : Ctl) : Ctl :=
  if c.pm.target = 2 * c.e 0x120004 ∧ c.e 0x120005 < 8 then c.post 0x0242 [i8 (c.e 0x120005)] else c

/-- AVS runs: the part is at NOMINAL with its supplies up (19 R524). -/
def Ctl.avsOn (c : Ctl) : Bool := decide (c.e 0x120001 = 0) && decide (c.e 0x120007 = 2)

/-- AVS_UPDATE (19 R525): one read of the monitors (assumption log 87). -/
def Ctl.avsUpdate (c : Ctl) (slack : Nat) : Ctl :=
  if !c.avsOn || !c.cpbUp then c else
  let c := c.setE 0x120005 slack
  if slack < 8 then ((c.setPm (fun p => { p with slackHigh := 0 })).setTarget (c.pm.target + 10)).avsLimit
  else if slack > 12 then
    let n := c.pm.slackHigh + 1
    if n ≥ 20 then (c.setPm (fun p => { p with slackHigh := 0 })).setTarget (c.pm.target - 5)
    else c.setPm (fun p => { p with slackHigh := n })
  else c.setPm (fun p => { p with slackHigh := 0 })

/-- AVS_EMERGENCY (19 R525): hardware raises the target by 25 mV at once. -/
def Ctl.avsEmergency (c : Ctl) (island slack : Nat) : Ctl :=
  if !c.avsOn || slack ≥ 3 then c else
  let c := (c.setE 0x120005 slack).setTarget (c.pm.target + 50)
  (c.post 0x0243 [i8 island]).avsLimit

/-! ### Telemetry (19 R526) -/

/-- The setpoint of a rail in mV (19 R517): VDD_CORE follows the AVS target; a rail that the part does not enable has none. -/
def Ctl.setpoint (c : Ctl) (r : Nat) : Nat :=
  if r = 0 then c.pm.target / 2
  else
    let en := [none, none, some 3, some 2, some 0, some 1, none, none].getD r none
    if en.all (fun k => bit c.pm.pwrEn k) then [800, 800, 500, 1050, 900, 1200, 1800, 800].getD r 0 else 0

/-- A monitor's reading is out of window: more than 6 % from the setpoint (19 R518). -/
def Ctl.outOfWindow (c : Ctl) (r vout : Nat) : Bool := decide (100 * ((vout : Int) - c.setpoint r).natAbs > 6 * c.setpoint r)

/-- A rail without an address has no telemetry but its monitor's (19 R526). -/
def Ctl.railAddr (c : Ctl) (r : Nat) : Ctl :=
  if c.ea 0x1210 r ≠ 0 then c else
  ((c.setEa 0x1212 r 0).setEa 0x1213 r 0).setPm (fun p => { p with railFails := aDel p.railFails r, railStale := p.railStale.filter (· ≠ r) })

/-- What one rail answers: the on-die monitor's mV, and READ_IOUT and STATUS_WORD where the transaction succeeded (assumption log 87). -/
def Ctl.railPoll (c : Ctl) (r : Nat) (vout : Nat) (ans : Option (Nat × Nat)) : Ctl :=
  let c := (c.setEa 0x1211 r vout).setPm (fun p => { p with windowOut := setBit p.windowOut r (c.outOfWindow r vout) })
  if c.ea 0x1210 r = 0 then c else
  match ans with
  | none =>
    let n := (aGet c.pm.railFails r).getD 0 + 1
    let c := c.setPm (fun p => { p with railFails := aSet p.railFails r n })
    if n = 3 then (c.setPm (fun p => { p with railStale := insertRising p.railStale r })).post 0x0281 [i8 (r + 1)] else c
  | some (iout, st) =>
    let c := c.setPm (fun p => { p with railFails := aSet p.railFails r 0, railStale := p.railStale.filter (· ≠ r) })
    let c := (c.setEa 0x1212 r iout).setEa 0x1213 r st
    if st ≠ 0 && Config.statusWarns st then c.post 0x0241 [i8 (r + 1), i16 st] else c

/-- POWER_TOTAL: the sum over the rails with READ_IOUT. -/
def Ctl.powerTotal (c : Ctl) : Ctl :=
  c.setE 0x120006 ((List.range 8).foldl (fun a r => if c.ea 0x1210 r = 0 then a else a + c.ea 0x1211 r * c.ea 0x1212 r / 1000) 0)

/-- PMBUS_POLL: every rail's monitor, and what each regulator answered. -/
def Ctl.pmbusPoll (c : Ctl) (ans : List (Nat × Option (Nat × Nat))) : Ctl :=
  if ans.length ≠ 8 then c else
  ((List.range 8).foldl (fun c r => c.railPoll r (ans.getD r (0, none)).1 (ans.getD r (0, none)).2) c).powerTotal

/-- PMB_ALERT: STATUS_WORD of every addressed regulator is read again. -/
def Ctl.pmbAlert (c : Ctl) (ans : List (Option Nat)) : Ctl :=
  if ans.length ≠ 8 then c else
  (List.range 8).foldl (fun c r =>
    if c.ea 0x1210 r = 0 then c else
    match ans.getD r none with
    | none => c.railPoll r (c.ea 0x1211 r) none
    | some st => c.railPoll r (c.ea 0x1211 r) (some (c.ea 0x1212 r, st))) c

/-! ### Clocks (19 R527) -/

/-- REFCLK_LOST. -/
def Ctl.refclkLost (c : Ctl) : Ctl :=
  if c.pm.refLost then c else
  let c := c.setPm (fun p => { p with refLost := true, onCrystal := true })
  let c := { c with fm := { c.fm with refOkSince := none } }
  c.post 0x02C4 []

/-- PLL_UNLOCK of core PLL 2 to 7. -/
def Ctl.pllUnlock (c : Ctl) (pll : Nat) : Ctl :=
  if pll < 2 ∨ pll > 7 then c else
  (c.setE 0x120008 (setBit (c.e 0x120008) pll false)).post 0x02C3 [i8 pll]

/-! ### Calibration -/

/-- Instances of an item (19 R538). -/
def calCount (item : Nat) : Nat := [24, 16, 8, 56, 52, 24, 24, 24].getD (item - 1) 0

/-- An item has a fallback that needs no reference (19 R538). -/
def calFallback (item : Nat) : Bool := item = 6 || item = 8

/-- Trim codes of an instance: how many, the least and the greatest (19 R538; assumption log 87). -/
def calRange (item : Nat) : Nat × Int × Int :=
  [(2, 0, 1023), (1, 0, 255), (1, 0, 63), (2, 0, 31), (1, 0, 63), (2, -64, 63), (1, 0, 255), (2, 0, 127)].getD (item - 1) (0, 0, 0)

/-- A result lies in the trim DAC's range (19 R541). -/
def calFits (item : Nat) (codes : List Int) : Bool :=
  let r := calRange item
  decide (codes.length = r.1) && codes.all (fun x => decide (r.2.1 ≤ x) && decide (x ≤ r.2.2))

/-- Every instance, at the factory trim (a free value; assumption log 87). -/
def calFactory : List CalInst :=
  (List.range 8).flatMap (fun k => (List.range (calCount (k + 1))).map (fun i => { item := k + 1, idx := i, codes := Config.factoryTrim (k + 1) i }))

/-- One instance. -/
def Ctl.calInst (c : Ctl) (item idx : Nat) : Option CalInst := c.pm.cal.find? (fun x => x.item = item && x.idx = idx)

/-- Change one instance. -/
def Ctl.updCal (c : Ctl) (item idx : Nat) (f : CalInst → CalInst) : Ctl :=
  c.setPm (fun p => { p with cal := p.cal.map (fun x => if x.item = item && x.idx = idx then f x else x) })

/-- ITEM_QUALITY: the lowest of the item's instances (19 R541), reported once when it falls below TRACED. -/
def Ctl.showQuality (c : Ctl) (item : Nat) : Ctl :=
  let l := (c.pm.cal.filter (fun x => x.item = item)).map CalInst.quality
  let q := if l.isEmpty then 0 else minOf 3 l
  let c := c.setEa 0x1410 (item - 1) q
  if q < 3 ∧ !c.pm.qualityLow.contains item ∧ c.pm.cal.any (fun x => x.item = item && decide (x.at_ ≠ 0)) then
    (c.setPm (fun p => { p with qualityLow := insertRising p.qualityLow item })).post 0x0441 [i8 item, i8 q]
  else if q = 3 then c.setPm (fun p => { p with qualityLow := p.qualityLow.filter (· ≠ item) }) else c

/-- CAL_STATE: 2 while an instance runs or waits, else 0. -/
def Ctl.showCal (c : Ctl) : Ctl :=
  if c.e 0x140001 = 1 then c else c.setE 0x140001 (if c.pm.cal.any (fun x => x.running || x.waiting) then 2 else 0)

/-- The lane of a lane instance, in the order of the lane index: TERMINATION of every lane, SWING of the transmitters, RX_OFFSET and
EYE_SCALE of the receivers (11 R323, 19 R538; assumption log 87). -/
def calLane (item idx : Nat) : Option Nat :=
  if item = 4 then some idx
  else if item = 5 then some (if idx < 50 then idx else idx + 4)
  else if item = 6 || item = 7 then some (if idx < 18 then idx else idx + 32)
  else none

/-- The lane of an instance is not TRAINING, RETRAINING or in TEST (19 R539). -/
def Ctl.calLaneFree (c : Ctl) (item idx : Nat) : Bool :=
  match calLane item idx with
  | some l => !([1, 4, 5].contains (c.ea 0x2010 l))
  | none => true

/-- An instance may start now: its lane is free, none of its item runs (so no adjacent thermal site does), and `free` says that nothing
else holds it back. -/
def Ctl.calMayStart (c : Ctl) (item idx : Nat) (free : Bool) : Bool :=
  free && c.calLaneFree item idx && !(c.pm.cal.any (fun x => x.item = item && x.running)) &&
  !(c.e 0x140002 = 1 && !calFallback item)

/-- An instance starts, or waits: its output is STALE while it runs (19 R539, R540; assumption log 87). -/
def Ctl.calBegin (c : Ctl) (item idx : Nat) (free : Bool) : Ctl :=
  if (c.e 0x140002 = 1 ∧ !calFallback item) ∨ !c.cpbUp then c else
  let go := c.calMayStart item idx free
  let c := c.updCal item idx (fun x => if x.running then x else if go then { x with running := true, waiting := false } else { x with waiting := true })
  let c := if go && item = 1 then
      (c.setPm (fun p => { p with sites := updAt p.sites idx (fun x => { x with state := if x.state = 0 then 1 else x.state, stale := true }) })).showSites
    else c
  let c := match (if go && (item = 6 || item = 7) then calLane item idx else none) with
    | some l => c.setEa 0x2018 l 1
    | none => c
  c.showCal

/-- The next instance of an item that waits, and whose lane is free, starts (assumption log 87). -/
def Ctl.calNext (c : Ctl) (item : Nat) : Ctl :=
  match c.pm.cal.find? (fun x => x.item = item && x.waiting && c.calLaneFree item x.idx) with
  | some x => c.calBegin item x.idx true
  | none => c

/-- An instance is due: its period has passed or T_MAX has moved (19 R539). -/
def Ctl.calDue (c : Ctl) (x : CalInst) : Bool :=
  let d := if c.pm.tmax ≥ x.tmax then c.pm.tmax - x.tmax else x.tmax - c.pm.tmax
  decide (c.up ≥ x.at_ + tS (c.e 0x140003)) || decide (d ≥ degC (c.e 0x140004 : Nat)) || x.waiting

/-- RECAL_TRIGGER (19 R539; assumption log 87). -/
def Ctl.recalTrigger (c : Ctl) (item idx : Nat) (free : Bool) : Ctl :=
  match c.calInst item idx with
  | none => c
  | some x => if c.calDue x && c.cpbUp then c.calBegin item idx free else c

/-- CAL_NOW (19 R539): every instance of the item is to run; the first starts at once. -/
def Ctl.calNowItem (c : Ctl) (item : Nat) : Ctl :=
  if (c.e 0x140002 = 1 ∧ !calFallback item) ∨ !c.cpbUp then c else
  let c := c.setPm (fun p => { p with calNow := insertRising p.calNow item, cal := p.cal.map (fun x => if x.item = item && !x.running then { x with waiting := true } else x) })
  c.calNext item

/-- CAL_NOW: one item, or every item (assumption log 87). -/
def Ctl.calNowCmd (c : Ctl) (item : Nat) : Ctl :=
  if item = 255 then (List.range 8).foldl (fun c k => c.calNowItem (k + 1)) c
  else if 1 ≤ item ∧ item ≤ 8 then c.calNowItem item else c

/-- CAL_INSTANCE_DONE (19 R541): the codes that the measurement asks for; one outside the trim DAC's range leaves the previous codes
(assumption log 87). -/
def Ctl.calDone (c : Ctl) (item idx residual : Nat) (codes : List Int) : Ctl :=
  let ok := calFits item codes
  match c.calInst item idx with
  | none => c
  | some x =>
    if !x.running || !c.cpbUp then c else
    let q := if !ok then 0 else if c.e 0x140002 = 1 then 1 else 3
    let c := c.updCal item idx (fun x => { x with running := false, quality := q, residual := if ok then residual else x.residual, codes := if ok then codes else x.codes, at_ := c.up, tmax := c.pm.tmax })
    let c := if item = 1 then (c.setPm (fun p => { p with sites := updAt p.sites idx Site.unhold })).showSites else c
    let c := if ok then c else ((c.incEa 0x1412 (item - 1)).setReg .clItem (item - 1) 4 1).post 0x0481 [i8 item, i8 idx]
    let c := c.showQuality item
    let c := c.calNext item
    let allDone := c.pm.calNow.contains item && !(c.pm.cal.any (fun x => x.item = item && (x.running || x.waiting)))
    let c := if allDone then (c.setPm (fun p => { p with calNow := p.calNow.filter (· ≠ item) })).post 0x0401 [i8 item] else c
    c.showCal

/-- The initial calibration (19 R519 step 7): every item but DRAM_VREF; `fails` names the results out of range, which leave the codes as they
were; the others' codes are free values (assumption log 87). After REFERENCE_DISAGREE items without a fallback keep their codes (R537). CAL_DONE is
posted for each item. -/
def Ctl.calInitial (c : Ctl) (fails : List (Nat × Nat)) : Ctl :=
  let dis := c.e 0x140002 = 1
  let done := fun (x : CalInst) => if x.item = 8 then x else if dis && !calFallback x.item then { x with quality := 2 } else
    let bad := fails.contains (x.item, x.idx)
    { x with quality := if bad then 0 else if dis then 1 else 3, codes := if bad then x.codes else Config.trimOf c.draws x.item x.idx,
             residual := if bad then x.residual else Config.residualOf c.draws x.item x.idx, at_ := c.up, tmax := c.pm.tmax }
  let fails := fails.filter (fun f => !dis || calFallback f.1)
  let c := ((c.setE 0x140001 1).setPm (fun p => { p with cal := (if p.cal.isEmpty then calFactory else p.cal).map done })).draw
  let c := fails.foldl (fun c f => ((c.incEa 0x1412 (f.1 - 1)).setReg .clItem (f.1 - 1) 4 1).post 0x0481 [i8 f.1, i8 f.2]) c
  let c := (List.range 7).foldl (fun c k => (c.showQuality (k + 1)).post 0x0401 [i8 (k + 1)]) c
  c.setE 0x140001 0

/-- REFERENCE_COMPARE (19 R537): a difference above 5,000 ppm stops traced calibration until reset. -/
def Ctl.referenceCompare (c : Ctl) (diff : Int) : Ctl :=
  let c := c.setE 0x140006 (ofSigned 32 diff)
  if diff.natAbs ≤ 5000 ∨ c.e 0x140002 = 1 then c else
  let c := c.setE 0x140002 1
  let hold := fun (x : CalInst) => if !calFallback x.item then { x with running := false, waiting := false, quality := if x.quality = 3 then 2 else x.quality } else x
  let c := c.setPm (fun p => { p with cal := p.cal.map hold, calNow := p.calNow.filter calFallback, sites := p.sites.map Site.unhold })
  let c := c.showSites
  let c := (List.range 8).foldl (fun c k => c.showQuality (k + 1)) c
  (c.post 0x04C1 [i32 (ofSigned 32 diff)]).showCal

/-- AVS_UPDATE. -/
def execAvsUpdate (dt slack : Nat) (s : State) : Host.Outcome State Fault Refusal :=
  runC (fun c => (c.advance dt).avsUpdate slack) s
/-- AVS_EMERGENCY. -/
def execAvsEmergency (dt island slack : Nat) (s : State) : Host.Outcome State Fault Refusal :=
  runC (fun c => (c.advance dt).avsEmergency island slack) s
/-- PMBUS_POLL. -/
def execPmbusPoll (dt : Nat) (answers : List (Nat × Option (Nat × Nat))) (s : State) : Host.Outcome State Fault Refusal :=
  runC (fun c => (c.advance dt).pmbusPoll answers) s
/-- PMB_ALERT. -/
def execPmbAlert (dt : Nat) (status : List (Option Nat)) (s : State) : Host.Outcome State Fault Refusal :=
  runC (fun c => (c.advance dt).pmbAlert status) s
/-- REFCLK_LOST. -/
def execRefclkLost (dt : Nat) (s : State) : Host.Outcome State Fault Refusal :=
  runC (fun c => (c.advance dt).refclkLost) s
/-- PLL_UNLOCK. -/
def execPllUnlock (dt pll : Nat) (s : State) : Host.Outcome State Fault Refusal :=
  runC (fun c => (c.advance dt).pllUnlock pll) s
/-- REFERENCE_COMPARE. -/
def execReferenceCompare (dt : Nat) (diff : Int) (s : State) : Host.Outcome State Fault Refusal :=
  runC (fun c => (c.advance dt).referenceCompare diff) s
/-- RECAL_TRIGGER. -/
def execRecalTrigger (dt item idx : Nat) (free : Bool) (s : State) : Host.Outcome State Fault Refusal :=
  runC (fun c => (c.advance dt).recalTrigger item idx free) s
/-- CAL_NOW. -/
def execCalNow (dt item : Nat) (s : State) : Host.Outcome State Fault Refusal :=
  runC (fun c => (c.advance dt).calNowCmd item) s
/-- CAL_INSTANCE_DONE. -/
def execCalInstanceDone (dt item idx residual : Nat) (codes : List Int) (s : State) : Host.Outcome State Fault Refusal :=
  runC (fun c => (c.advance dt).calDone item idx residual codes) s

end Sys2Proof.Machine
end

