-- ==== Sys2Proof/Machine/SliceDec.lean ====
section
/-! DEFINITION. Dexsia slice data (04 R126 to R139): entropy decoding, the coding and transform trees, prediction, the inverse transform and
reconstruction of one slice. Positions are in the key view's luma grid; planes hold the slice's rectangle, a sample not yet reconstructed as
−1. Component numbers: 0 Y, 1 Cb, 2 Cr, 3 A, 4 D. -/
namespace Sys2Proof.Machine

/-- What a slice is decoded with. -/
structure SliceEnv where
  /-- Key view size. -/
  w : Nat
  h : Nat
  lay : LayerHdr
  hdr : SliceHdr
  qp : Nat
  dqp : Nat
  /-- Initial VALUE of the 86 contexts. -/
  init : List Nat

/-- The prediction data of a coding block (R131, R132). -/
structure CbInfo where
  inter : Bool
  ref : Nat
  mvx : Int
  mvy : Int
  mode : Nat
  dmode : Nat

/-- The decoder's state within one slice. -/
structure DecSt where
  data : Array Byte
  /-- Bits before the stop bit. -/
  stop : Nat
  pos : Nat := 0
  range : Nat := 510
  value : Nat := 0
  p0 : Array Nat
  p1 : Array Nat
  planes : Array (Array Int)
  info : Array (Option CbInfo)
  bins : Nat := 0
  err : Bool := false
  /-- A reference lay outside the window; a reference read was poisoned (05 R155, R164). -/
  clamp : Bool := false
  ecc : List Nat := []
  /-- Bursts that reference reads took. -/
  reads : List Nat := []

/-- The slice decoder: a state that a step reads and changes. -/
abbrev Dec := StateM DecSt

/-- A sample of an entry of the active reference list, by component and position in its grid: value, taken at the window's edge, and twice the
burst that it was read from, with 1 added when that is poisoned. -/
abbrev RefFn := Nat → Nat → Int → Int → Nat × Bool × List Nat

/-! ### Entropy decoding (R138) -/

/-- One bit of the slice data; 0 past the stop bit (assumption log 53). -/
def DecSt.bitAt (s : DecSt) (i : Nat) : Nat := if i ≤ s.stop then b2n ((s.data.getD (i / 8) 0).toNat.testBit (7 - i % 8)) else 0

/-- Renormalisation: at most nine doublings bring the range to 256. -/
def renorm : Nat → DecSt → DecSt
  | 0, s => s
  | n + 1, s => if s.range < 256 then renorm n { s with range := 2 * s.range, value := 2 * s.value + s.bitAt s.pos, pos := s.pos + 1 } else s

/-- decode(p). Data that ends before the bin is a SYNTAX error (R111; assumption log 53). -/
def decodeBin (p : Nat) : Dec Nat := fun s =>
  let rOne := clampN 1 (s.range - 1) ((s.range * (p / 64)) / 512)
  let rZero := s.range - rOne
  let s := { s with bins := s.bins + 1, err := s.err || decide (s.pos > s.stop + 16) }
  if s.value < rZero * 128 then (0, renorm 9 { s with range := rZero })
  else (1, renorm 9 { s with value := s.value - rZero * 128, range := rOne })

/-- A bin with an adaptive context. -/
def ctxBin (i : Nat) : Dec Nat := do
  let s ← get
  let a := s.p0.getD i 0
  let b := s.p1.getD i 0
  let bin ← decodeBin ((a + b) / 2)
  let up := fun (p k : Nat) => ((p : Int) + ((bin * 32768 : Nat) - (p : Int)) / (2 ^ k : Nat)).toNat
  modify (fun s => { s with p0 := s.p0.setIfInBounds i (up a 4), p1 := s.p1.setIfInBounds i (up b 7) })
  pure bin

/-- A bypass bin. -/
def bypass : Dec Nat := decodeBin 16384

/-- `n` bypass bins, most significant first. -/
def bypassBits : Nat → Nat → Dec Nat
  | 0, v => pure v
  | n + 1, v => do
    let b ← bypass
    bypassBits n (2 * v + b)

/-- A run of ones up to a zero; the bin `i` of it is read by `rd i`. A run of `fuel` ones is a SYNTAX error (assumption log 54). -/
def onesRun (rd : Nat → Dec Nat) : Nat → Nat → Dec Nat
  | 0, n => do
    modify (fun s => { s with err := true })
    pure n
  | fuel + 1, n => do
    let b ← rd n
    if b = 0 then pure n else onesRun rd fuel (n + 1)

/-- Exp-Golomb of order `k`: a run of ones below `limit`, then as many bits and `k` more (assumption log 54; assumption log 119). -/
def expGolomb (rd : Nat → Dec Nat) (limit k : Nat) : Dec Nat := do
  let n ← onesRun rd limit 0
  let low ← bypassBits (n + k) 0
  pure ((2 ^ n - 1) * 2 ^ k + low)

/-- The terminate bin. -/
def terminateBin : Dec Nat := decodeBin 64

/-! ### Residual coding (R137) -/

/-- The positions of an `m` × `m` square by ascending x + y, and within one by ascending x. -/
def diagScan (m : Nat) : List (Nat × Nat) :=
  (List.range (2 * m - 1)).flatMap (fun d => (List.range m).filterMap (fun x => if x ≤ d ∧ d - x < m then some (x, d - x) else none))

/-- Class of a component for the contexts (R139). -/
def clsOf (c : Nat) : Nat := if c = 4 then 2 else if c = 1 ∨ c = 2 then 1 else 0

/-- The remainder of a level with Rice parameter `k` (assumption log 54). -/
def riceRem (k : Nat) : Dec Nat := do
  let n ← onesRun4 4 0
  if n < 4 then
    let low ← bypassBits k 0
    pure (n * 2 ^ k + low)
  else
    let v ← expGolomb (fun _ => bypass) 32 (k + 1)
    pure (4 * 2 ^ k + v)
where
  /-- At most four ones; a zero ends them. -/
  onesRun4 : Nat → Nat → Dec Nat
    | 0, n => pure n
    | fuel + 1, n => do
      let b ← bypass
      if b = 0 then pure n else onesRun4 fuel (n + 1)

/-- One level of a transform unit: its magnitude and sign, and the next Rice parameter (sign: assumption log 119). -/
def levelBins (cls g k : Nat) : Dec (Int × Nat) := do
  let gt1 ← ctxBin (74 + 2 * cls + b2n (decide (g ≠ 0)))
  let mag ← if gt1 = 0 then pure 1 else do
    let gt2 ← ctxBin (80 + 2 * cls + b2n (decide (g ≠ 0)))
    if gt2 = 0 then pure 2 else do
      let r ← riceRem k
      pure (3 + r)
  let sg ← bypass
  pure (if sg = 1 then -(mag : Int) else (mag : Int), if mag > 3 * 2 ^ k then min (k + 1) 4 else k)

/-- The levels of a transform unit of size N, row by row; a level beyond R135 is a SYNTAX error, and so is a last_scan_pos of N × N or more
(assumption log 119). -/
def residualLevels (c n B : Nat) : Dec (Array Int) := do
  let cls := clsOf c
  let m := n / 4
  let groups := (diagScan m).toArray
  let poss := (diagScan 4).toArray
  let last ← expGolomb (fun b => ctxBin (20 + 10 * cls + min b 9)) 32 0
  if last ≥ n * n then
    modify (fun s => { s with err := true })
    pure (Array.replicate (n * n) 0)
  else do
    let lastG := last / 16
    let mut lv : Array Int := Array.replicate (n * n) 0
    let mut coded : Array Bool := Array.replicate (m * m) false
    for gi in (List.range (lastG + 1)).reverse do
      let gp := groups.getD gi (0, 0)
      let near := (decide (gp.1 + 1 < m) && coded.getD (gp.2 * m + gp.1 + 1) false) || (decide (gp.2 + 1 < m) && coded.getD ((gp.2 + 1) * m + gp.1) false)
      let flag ← if gi = lastG ∨ gi = 0 then pure 1 else ctxBin (50 + 2 * cls + b2n near)
      if flag = 1 then
        coded := coded.setIfInBounds (gp.2 * m + gp.1) true
        let mut sig : List (Nat × Nat) := []
        for pi in (List.range 16).reverse do
          let si := 16 * gi + pi
          if si ≤ last then
            let q := poss.getD pi (0, 0)
            let x := 4 * gp.1 + q.1
            let y := 4 * gp.2 + q.2
            let nb := (decide (x + 1 < n) && lv.getD (y * n + x + 1) 0 ≠ 0) || (decide (y + 1 < n) && lv.getD ((y + 1) * n + x) 0 ≠ 0)
            let cat := if si = 0 then 0 else if gi = 0 then 1 else 2
            let f ← if si = last then pure 1 else ctxBin (56 + 6 * cls + 2 * cat + b2n nb)
            if f = 1 then
              sig := sig ++ [(x, y)]
              lv := lv.setIfInBounds (y * n + x) 1
        let mut k := 0
        for q in sig do
          let r ← levelBins cls gi k
          lv := lv.setIfInBounds (q.2 * n + q.1) r.1
          if r.1.natAbs > 2 ^ (B + 5) - 1 then modify (fun s => { s with err := true })
          k := r.2
    pure lv

/-! ### Scaling and transform (R134, R135) -/

/-- round(64 √2 cos(π j / 64)) for j = 0 to 32. -/
def cosTab : Array Int := #[91, 90, 90, 90, 89, 88, 87, 85, 84, 82, 80, 78, 75, 73, 70, 67, 64, 61, 57, 54, 50, 47, 43, 39, 35, 30, 26, 22, 18, 13, 9, 4, 0]

/-- T_N[k][n]. -/
def dctCoef (size k n : Nat) : Int :=
  if k = 0 then 64 else
  let j := ((2 * n + 1) * k * (32 / size)) % 128
  let j := if j > 64 then 128 - j else j
  if j > 32 then -(cosTab.getD (64 - j) 0) else cosTab.getD j 0

/-- Bound of coefficients and intermediate values. -/
def coefClip (B : Nat) (v : Int) : Int := clampI (-(2 ^ (B + 5) : Nat)) ((2 ^ (B + 5) : Nat) - 1) v

/-- A level scaled (R135). -/
def scaleLevel (B n qp : Nat) (lv : Int) : Int :=
  let sh := B + Nat.log2 n - 5
  coefClip B ((lv * 16 * ([40, 45, 51, 57, 64, 72].getD (qp % 6) 40 : Nat) * (2 ^ (qp / 6) : Nat) + (2 ^ (sh - 1) : Nat)) / (2 ^ sh : Nat))

/-- The inverse transform of scaled coefficients (R134): columns, then rows. -/
def invTransform (B n : Nat) (d : Array Int) : Array Int :=
  let col := (Array.range (n * n)).map (fun i =>
    let y := i / n
    let x := i % n
    let e := (List.range n).foldl (fun a k => a + dctCoef n k y * d.getD (k * n + x) 0) (0 : Int)
    coefClip B ((e + 64) / 128))
  (Array.range (n * n)).map (fun i =>
    let y := i / n
    let x := i % n
    let r := (List.range n).foldl (fun a k => a + dctCoef n k x * col.getD (y * n + k) 0) (0 : Int)
    (r + (2 ^ (19 - B) : Nat)) / (2 ^ (20 - B) : Nat))

/-- Bit depth of a component. -/
def SliceEnv.bd (e : SliceEnv) (c : Nat) : Nat := if c = 4 then 16 else e.lay.depthBits

/-- QP of a component (R135). -/
def SliceEnv.qpOf (e : SliceEnv) (c : Nat) : Nat :=
  let top : Int := 51 + 6 * ((e.lay.depthBits : Int) - 8)
  let y := clampI 0 top (e.qp + e.hdr.qpd)
  (if c = 4 then clampI 0 99 (e.dqp + e.hdr.dqpd)
   else if c = 0 then y else clampI 0 top (y + if c = 3 then e.lay.aOff else e.lay.cOff)).toNat

/-- The residual of a unit from its levels (R134 to R136). -/
def SliceEnv.residualOf (e : SliceEnv) (c n : Nat) (lv : Array Int) : Array Int :=
  if c = 4 && e.lay.lossless then lv else invTransform (e.bd c) n (lv.map (scaleLevel (e.bd c) n (e.qpOf c)))

/-! ### Planes -/

/-- A component is on the chroma grid of 4:2:0. -/
def SliceEnv.half (e : SliceEnv) (c : Nat) : Bool := (c = 1 || c = 2) && !e.lay.c444
/-- Width of a component's plane. -/
def SliceEnv.stride (e : SliceEnv) (c : Nat) : Nat := if e.half c then 32 * e.hdr.w else 64 * e.hdr.w
/-- Height of a component's plane. -/
def SliceEnv.rows (e : SliceEnv) (c : Nat) : Nat := if e.half c then 32 * e.hdr.h else 64 * e.hdr.h
/-- Components present, in order. -/
def SliceEnv.comps (e : SliceEnv) : List Nat := [0, 1, 2] ++ (if e.lay.alpha then [3] else []) ++ (if e.lay.depth then [4] else [])

/-- A sample by position relative to the slice; −1 outside or not reconstructed. -/
def SliceEnv.sample (e : SliceEnv) (s : DecSt) (c : Nat) (x y : Int) : Int :=
  if x < 0 ∨ y < 0 ∨ x ≥ e.stride c ∨ y ≥ e.rows c then -1 else (s.planes.getD c #[]).getD (y.toNat * e.stride c + x.toNat) (-1)

/-- A square of samples is set. -/
def SliceEnv.setSquare (e : SliceEnv) (c x y n : Nat) (v : Array Int) (s : DecSt) : DecSt :=
  let pl := (List.range (n * n)).foldl (fun (pl : Array Int) i =>
    pl.setIfInBounds ((y + i / n) * e.stride c + x + i % n) (v.getD i 0)) (s.planes.getD c #[])
  { s with planes := s.planes.setIfInBounds c pl }

/-! ### Intra prediction (R129, R130) -/

/-- The reference samples in the order of the walk: L[2N − 1] to L[0], C, T[0] to T[2N − 1]. -/
def SliceEnv.walk (e : SliceEnv) (s : DecSt) (c x y n : Nat) : List Int :=
  ((List.range (2 * n)).reverse.map (fun (i : Nat) => e.sample s c ((x : Int) - 1) ((y : Int) + (i : Int)))) ++ [e.sample s c ((x : Int) - 1) ((y : Int) - 1)] ++
    (List.range (2 * n)).map (fun (i : Nat) => e.sample s c ((x : Int) + (i : Int)) ((y : Int) - 1))

/-- Unavailable samples take the one before them. -/
def fillWalk : Int → List Int → List Int
  | _, [] => []
  | p, v :: r => let q := if v < 0 then p else v; q :: fillWalk q r

/-- The substituted walk. -/
def SliceEnv.refs (e : SliceEnv) (s : DecSt) (c x y n : Nat) : Array Int :=
  let w := e.walk s c x y n
  match w.find? (fun v => decide (0 ≤ v)) with
  | some f => (fillWalk f w).toArray
  | none => Array.replicate (4 * n + 1) ((2 ^ (e.bd c - 1) : Nat) : Int)

/-- A at each of the twelve modes. -/
def angOf (mode : Nat) : Int := [0, 0, 32, 16, 0, -16, -26, -26, -16, 0, 16, 32].getD mode 0

/-- The vertical family: T, L as functions of the index, with C at −1. -/
def angular (n : Nat) (a : Int) (t l : Int → Int) (x y : Nat) : Int :=
  let inv : Int := if a.natAbs = 26 then 315 else if a.natAbs = 16 then 512 else 256
  let ref := fun (k : Int) => if k ≥ 1 then t (k - 1) else if k = 0 then l (-1) else l (((-k) * inv + 128) / 256 - 1)
  let pos := ((y : Int) + 1) * a
  let i := pos / 32
  let f := pos % 32
  let second := if f = 0 then 0 else f * ref (i + x + 2)
  if n = 0 then 0 else ((32 - f) * ref (i + x + 1) + second + 16) / 32

/-- The predicted square. -/
def SliceEnv.intra (e : SliceEnv) (s : DecSt) (c x y n mode : Nat) : Array Int :=
  let r := e.refs s c x y n
  let corner := r.getD (2 * n) 0
  let t := fun (i : Int) => if i < 0 then corner else r.getD (2 * n + 1 + i.toNat) 0
  let l := fun (i : Int) => if i < 0 then corner else r.getD (2 * n - 1 - i.toNat) 0
  let lg := Nat.log2 n
  let dc := ((List.range n).foldl (fun (a : Int) (i : Nat) => a + t (i : Int) + l (i : Int)) (n : Int)) / (2 ^ (lg + 1) : Nat)
  (Array.range (n * n)).map (fun k =>
    let px := k % n
    let py := k / n
    if mode = 0 then
      (((n : Int) - 1 - px) * l py + ((px : Int) + 1) * t n + ((n : Int) - 1 - py) * t px + ((py : Int) + 1) * l n + n) / (2 ^ (lg + 1) : Nat)
    else if mode = 1 then dc
    else if mode < 7 then angular n (angOf mode) l t py px
    else angular n (angOf mode) t l px py)

/-! ### Inter prediction (R132, R133) -/

/-- Filter taps of a phase, from offset −1 for four taps and 0 for two. -/
def taps4 (f : Nat) : List Int := ([[0, 64, 0, 0], [-4, 54, 16, -2], [-4, 36, 36, -4], [-2, 16, 54, -4]] : List (List Int)).getD f [0, 64, 0, 0]

/-- One predicted sample at (x, y) of the key view's grid of component `c`. -/
def SliceEnv.interSample (e : SliceEnv) (rf : RefFn) (ref c : Nat) (x y mvx mvy : Int) : Int × Bool × List Nat :=
  let two := e.half c || c = 4
  let scale : Int := if e.half c then 8 else 4
  let px := scale * x + mvx
  let py := scale * y + mvy
  let ix := px / scale
  let iy := py / scale
  let fx := (px % scale).toNat
  let fy := (py % scale).toNat
  let tx : List Int := if two then [scale - fx, fx] else taps4 fx
  let ty : List Int := if two then [scale - fy, fy] else taps4 fy
  let o : Int := if two then 0 else -1
  let kw : Int := if e.half c then e.w / 2 else e.w
  let kh : Int := if e.half c then e.h / 2 else e.h
  let add := fun (acc : Int × Bool × List Nat) (wt : Int) (p : Int × Int) =>
    if wt = 0 then acc else
    let v := rf ref c (clampI 0 (kw - 1) p.1) (clampI 0 (kh - 1) p.2)
    (acc.1 + wt * v.1, acc.2.1 || v.2.1, acc.2.2 ++ v.2.2)
  let sum := (List.range ty.length).foldl (fun acc j => (List.range tx.length).foldl (fun acc i =>
    add acc (ty.getD j 0 * tx.getD i 0) (ix + o + i, iy + o + j)) acc) ((0 : Int), false, [])
  let v := if two then (if e.half c then (sum.1 + 32) / 64 else (sum.1 + 8) / 16) else (sum.1 + 2048) / 4096
  (clampI 0 ((2 ^ e.bd c : Nat) - 1) v, sum.2)

/-- A coding block predicts from a reference: every component is written as predicted. A poisoned read gives the whole block the fill
word (05 R164). -/
def SliceEnv.inter (e : SliceEnv) (rf : RefFn) (fill : Nat → Nat) (x y n ref : Nat) (mvx mvy : Int) (s : DecSt) : DecSt :=
  let r := e.comps.map (fun c =>
    let k := if e.half c then 2 else 1
    let n' := n / k
    let vs := (Array.range (n' * n')).map (fun i => e.interSample rf ref c
      ((64 * e.hdr.x + x) / k + i % n' : Nat) ((64 * e.hdr.y + y) / k + i / n' : Nat) mvx mvy)
    (c, k, n', vs))
  let took := (r.flatMap (fun q => q.2.2.2.toList.flatMap (fun v => v.2.2))).eraseDups
  let ecc := (took.filter (fun b => b % 2 = 1)).map (· / 2)
  let bad := !ecc.isEmpty
  let clamp := r.any (fun q => q.2.2.2.any (fun v => v.2.1))
  let s := { s with clamp := s.clamp || clamp, ecc := (s.ecc ++ ecc).eraseDups, reads := (s.reads ++ took.map (· / 2)).eraseDups }
  r.foldl (fun s q => e.setSquare q.1 (x / q.2.1) (y / q.2.1) q.2.2.1
    (q.2.2.2.map (fun v => if bad then (fill q.1 : Int) else v.1)) s) s

/-! ### Trees (R126 to R128) -/

/-- Coding blocks of 8 × 8 in a row of the slice. -/
def SliceEnv.cbStride (e : SliceEnv) : Nat := 8 * e.hdr.w
/-- The block that holds a sample, by position relative to the slice. -/
def SliceEnv.infoAt (e : SliceEnv) (s : DecSt) (x y : Int) : Option CbInfo :=
  if x < 0 ∨ y < 0 ∨ x ≥ 64 * e.hdr.w ∨ y ≥ 64 * e.hdr.h then none else (s.info.getD ((y / 8).toNat * e.cbStride + (x / 8).toNat) none)
/-- A block's data are set for its 8 × 8 parts. -/
def SliceEnv.setInfo (e : SliceEnv) (x y n : Nat) (i : CbInfo) (s : DecSt) : DecSt :=
  let m := n / 8
  { s with info := (List.range (m * m)).foldl (fun (a : Array (Option CbInfo)) k =>
    a.setIfInBounds ((y / 8 + k / m) * e.cbStride + x / 8 + k % m) (some i)) s.info }

/-- An intra mode against the candidates of the neighbours' modes `a` and `b` (R131); a selecting bin of 0 takes the first (assumption log 119). -/
def intraMode (ctx a b : Nat) : Dec Nat := do
  let cand := if a ≠ b then [a, b] else if a ≤ 1 then [0, 1] else [a, 0]
  let mpm ← ctxBin ctx
  if mpm = 1 then
    let i ← bypass
    pure (cand.getD i 0)
  else do
    let v ← bypassBits 4 0
    if v ≥ 10 then modify (fun s => { s with err := true })
    pure (((List.range 12).filter (fun m => !cand.contains m)).getD v 0)

/-- One component of a vector difference (R132). Its prefix has no bound; no run of ones outlasts the slice data by 64, since a bypass bin takes
one bit and those past the stop bit are 0 (sign: assumption log 119; assumption log 54). -/
def mvdPart : Dec Int := do
  let g0 ← ctxBin 10
  if g0 = 0 then pure 0 else do
    let g1 ← ctxBin 11
    let mag ← if g1 = 0 then pure 1 else do
      let s ← get
      let r ← expGolomb (fun _ => bypass) (8 * s.data.size + 64) 1
      pure (2 + r)
    let sg ← bypass
    pure (if sg = 1 then -(mag : Int) else (mag : Int))

/-- The vector predictor for a reference entry (R132). -/
def SliceEnv.mvPred (e : SliceEnv) (s : DecSt) (x y ref : Nat) : Int × Int :=
  let hit := fun (q : Option CbInfo) => match q with
    | some i => if i.inter && i.ref = ref then some (i.mvx, i.mvy) else none
    | none => none
  match hit (e.infoAt s ((x : Int) - 1) y), hit (e.infoAt s x ((y : Int) - 1)) with
  | some v, _ => v
  | none, some v => v
  | none, none => (0, 0)

/-- Truncated unary of ref_idx: at most as many ones as the first number, a zero ends them (assumption log 119). -/
def refIdx : Nat → Nat → Dec Nat
  | 0, n => pure n
  | left + 1, n => do
    let b ← ctxBin (7 + min n 2)
    if b = 0 then pure n else refIdx left (n + 1)

/-- One transform unit of one component: prediction when intra, cbf, residual, reconstruction. -/
def SliceEnv.unit (e : SliceEnv) (info : CbInfo) (c x y n : Nat) : Dec Unit := do
  let s ← get
  if !info.inter then set (e.setSquare c x y n (e.intra s c x y n (if c = 4 then info.dmode else info.mode)) s)
  let cbf ← ctxBin (15 + c)
  if cbf = 1 then
    let lv ← residualLevels c n (e.bd c)
    let r := e.residualOf c n lv
    modify (fun s =>
      let v := (Array.range (n * n)).map (fun i => clampI 0 ((2 ^ e.bd c : Nat) - 1) (e.sample s c (x + i % n : Nat) (y + i / n : Nat) + r.getD i 0))
      e.setSquare c x y n v s)

/-- transform_tree; `part` is the number of this quarter within its parent. -/
def SliceEnv.transformTree (e : SliceEnv) (info : CbInfo) : Nat → Nat → Nat → Nat → Nat → Dec Unit
  | 0, _, _, _, _ => pure ()
  | fuel + 1, x, y, lg, part => do
    let s ← get
    if s.err then pure () else do
    let sp ← if lg = 6 then pure 1 else if lg > 2 then ctxBin (12 + (5 - lg)) else pure 0
    if sp = 1 then
      let h := 2 ^ (lg - 1)
      for q in [0, 1, 2, 3] do
        e.transformTree info fuel (x + h * (q % 2)) (y + h * (q / 2)) (lg - 1) q
    else
      let n := 2 ^ lg
      for c in e.comps do
        let s ← get
        if s.err then pure ()
        else if e.half c then
          if n > 4 then e.unit info c (x / 2) (y / 2) (n / 2)
          else if part = 3 then e.unit info c ((x - 4) / 2) ((y - 4) / 2) 4
        else e.unit info c x y n

/-- coding_block. -/
def SliceEnv.codingBlock (e : SliceEnv) (rf : RefFn) (fill : Nat → Nat) (x y lg : Nat) : Dec Unit := do
  let n := 2 ^ lg
  let isP := e.hdr.ty = 1
  let skip ← if isP then ctxBin 3 else pure 0
  if skip = 1 then
    let s ← get
    let mv := e.mvPred s x y 0
    set (e.setInfo x y n ⟨true, 0, mv.1, mv.2, 1, 1⟩ (e.inter rf fill x y n 0 mv.1 mv.2 s))
  else do
    let intra ← if isP then ctxBin 4 else pure 1
    if intra = 1 then
      let s ← get
      let m := fun (q : Option CbInfo) (d : Bool) => match q with
        | some i => if i.inter then 1 else if d then i.dmode else i.mode
        | none => 1
      let l := e.infoAt s ((x : Int) - 1) y
      let t := e.infoAt s x ((y : Int) - 1)
      let mode ← intraMode 5 (m l false) (m t false)
      let dmode ← if e.lay.depth then intraMode 6 (m l true) (m t true) else pure 1
      let info : CbInfo := ⟨false, 0, 0, 0, mode, dmode⟩
      modify (e.setInfo x y n info)
      e.transformTree info 6 x y lg 0
    else do
      let nr := e.hdr.refs.length
      let ref ← if nr > 1 then refIdx (nr - 1) 0 else pure 0
      let dx ← mvdPart
      let dy ← mvdPart
      let s ← get
      let p := e.mvPred s x y ref
      let info : CbInfo := ⟨true, ref, p.1 + dx, p.2 + dy, 1, 1⟩
      if !s.err then
        set (e.setInfo x y n info (e.inter rf fill x y n ref info.mvx info.mvy s))
        e.transformTree info 6 x y lg 0

/-- coding_tree: a block partly outside the key view splits without a flag, one outside is not coded. -/
def SliceEnv.codingTree (e : SliceEnv) (rf : RefFn) (fill : Nat → Nat) : Nat → Nat → Nat → Nat → Dec Unit
  | 0, _, _, _ => pure ()
  | fuel + 1, x, y, lg => do
    let s ← get
    let n := 2 ^ lg
    let ax := 64 * e.hdr.x + x
    let ay := 64 * e.hdr.y + y
    if s.err || ax ≥ e.w || ay ≥ e.h then pure ()
    else do
      let outside := ax + n > e.w || ay + n > e.h
      let sp ← if lg > 3 then (if outside then pure 1 else ctxBin (6 - lg)) else pure 0
      if sp = 1 then
        let h := n / 2
        for q in [0, 1, 2, 3] do
          e.codingTree rf fill fuel (x + h * (q % 2)) (y + h * (q / 2)) (lg - 1)
      else e.codingBlock rf fill x y lg

/-- slice_data: the coding blocks up to `limit` in raster order, then slice_end when all are decoded. Answers the coding blocks that were
decoded without an error. -/
def SliceEnv.sliceData (e : SliceEnv) (rf : RefFn) (fill : Nat → Nat) (limit : Nat) : Dec Nat := do
  let total := e.hdr.w * e.hdr.h
  let mut done := 0
  for k in List.range (min limit total) do
    let s ← get
    if !s.err then
      e.codingTree rf fill 4 (64 * (k % e.hdr.w)) (64 * (k / e.hdr.w)) 6
      let s ← get
      if !s.err then done := k + 1
  let s ← get
  if !s.err && done = total then
    let t ← terminateBin
    if t = 0 then modify (fun s => { s with err := true })
  pure done

/-- Default VALUE of the 86 contexts (R139). -/
def ctxDefaults : List Nat :=
  [160, 144, 128, 96, 64, 176, 176, 80, 80, 80, 128, 96, 128, 112, 96, 160, 96, 96, 48, 144] ++ List.replicate 30 96 ++ List.replicate 6 128 ++
    (List.range 3).flatMap (fun _ => [160, 160, 112, 112, 112, 112]) ++ List.replicate 6 96 ++ List.replicate 6 64

/-- The contexts' initial values after the overrides of a Stream Header (R116). -/
def ctxInit (ov : List (Nat × Nat)) : List Nat := ov.foldl (fun l q => l.set q.1 q.2) ctxDefaults

/-- The state at the start of a slice. -/
def SliceEnv.start (e : SliceEnv) (data : List Byte) (stop : Nat) : DecSt :=
  let p := (e.init.map (fun v => v * 128)).toArray
  let s : DecSt := {
    data := data.toArray, stop := stop, p0 := p, p1 := p,
    planes := ((List.range 5).map (fun c => Array.replicate (e.stride c * e.rows c) (-1 : Int))).toArray,
    info := Array.replicate (64 * e.hdr.w * e.hdr.h) none }
  { s with pos := 16, value := (List.range 16).foldl (fun v i => 2 * v + s.bitAt i) 0 }

/-- A slice decoded: coding blocks done and the final state. -/
def SliceEnv.decode (e : SliceEnv) (rf : RefFn) (fill : Nat → Nat) (raw : List Byte) (limit : Nat) : Nat × DecSt :=
  let off := sliceDataAt raw
  (e.sliceData rf fill limit).run (e.start (raw.drop off) (stopBit raw - 8 * off))

/-- The texel word of a decoded position relative to the slice (05 R153). -/
def SliceEnv.texel (e : SliceEnv) (s : DecSt) (x y : Nat) : Nat :=
  let up := 2 ^ (12 - e.lay.depthBits)
  let v := fun (c : Nat) => (e.sample s c (if e.half c then x / 2 else x : Nat) (if e.half c then y / 2 else y : Nat)).toNat
  let a := if e.lay.alpha then v 3 * up else 0xFFF
  let d := if e.lay.depth then v 4 else 0
  d * 2 ^ 48 + a * 2 ^ 36 + v 2 * up * 2 ^ 24 + v 1 * up * 2 ^ 12 + v 0 * up

end Sys2Proof.Machine
end

