-- ==== Sys2Proof/Machine/Coder.lean ====
section
/-! DEFINITION. The coder of return pictures (10 R303, R306): Dexsia slice data written as 04 R126 to R139 define it. The choice of splits, modes,
vectors and levels is the engine's (Config.engineChoice); a block without a residual and every bin follow from the spec. -/
namespace Sys2Proof.Machine

/-- The coder within one slice: contexts and block data as the decoder keeps them (`d`), and the interval, `low` and `range` behind `n`
doublings. -/
structure EncSt where
  d : DecSt
  low : Nat := 0
  range : Nat := 510
  n : Nat := 0

/-- The slice coder: a state that a step reads and changes. -/
abbrev Enc := StateM EncSt

/-- What a slice is coded with: its headers, and the engine's choices by place. -/
structure EncEnv where
  e : SliceEnv
  pick : List Nat → Nat

/-! ### Bins (04 R138) -/

/-- The bin that decode(p) reads back as `bin`. -/
def encBin (p bin : Nat) : Enc Unit := modify fun s =>
  let rOne := clampN 1 (s.range - 1) ((s.range * (p / 64)) / 512)
  let rZero := s.range - rOne
  let low := if bin = 0 then s.low else s.low + rZero
  let range := if bin = 0 then rZero else rOne
  let k := ((List.range 9).find? (fun k => decide (256 ≤ range * 2 ^ k))).getD 0
  { s with low := low * 2 ^ k, range := range * 2 ^ k, n := s.n + k }

/-- A bin with an adaptive context. -/
def encCtx (i bin : Nat) : Enc Unit := do
  let s ← get
  let a := s.d.p0.getD i 0
  let b := s.d.p1.getD i 0
  encBin ((a + b) / 2) bin
  let up := fun (p k : Nat) => ((p : Int) + ((bin * 32768 : Nat) - (p : Int)) / (2 ^ k : Nat)).toNat
  modify (fun s => { s with d := { s.d with p0 := s.d.p0.setIfInBounds i (up a 4), p1 := s.d.p1.setIfInBounds i (up b 7) } })

/-- A bypass bin. -/
def encBypass (bin : Nat) : Enc Unit := encBin 16384 bin

/-- `n` bypass bins of a value, most significant first. -/
def encBits : Nat → Nat → Enc Unit
  | 0, _ => pure ()
  | n + 1, v => do
    encBypass (b2n (bit v n))
    encBits n v

/-- A run of `n` ones and its zero, bin `i` written by `wr i`. -/
def encOnes (wr : Nat → Nat → Enc Unit) (n : Nat) : Enc Unit := do
  for i in List.range n do wr i 1
  wr n 0

/-- Exp-Golomb of order `k` (assumption log 54). -/
def encGolomb (wr : Nat → Nat → Enc Unit) (k v : Nat) : Enc Unit := do
  let n := Nat.log2 (v / 2 ^ k + 1)
  encOnes wr n
  encBits (n + k) (v - (2 ^ n - 1) * 2 ^ k)

/-! ### Residual coding (04 R137) -/

/-- One level that is not 0; answers the next Rice parameter. -/
def encLevel (cls g k : Nat) (v : Int) : Enc Nat := do
  let mag := v.natAbs
  let hi := b2n (decide (g ≠ 0))
  encCtx (74 + 2 * cls + hi) (b2n (decide (1 < mag)))
  if 1 < mag then
    encCtx (80 + 2 * cls + hi) (b2n (decide (2 < mag)))
    if 2 < mag then
      let r := mag - 3
      if r < 4 * 2 ^ k then
        encOnes (fun _ => encBypass) (r / 2 ^ k)
        encBits k (r % 2 ^ k)
      else
        encBits 4 15
        encGolomb (fun _ => encBypass) (k + 1) (r - 4 * 2 ^ k)
  encBypass (b2n (decide (v < 0)))
  pure (if mag > 3 * 2 ^ k then min (k + 1) 4 else k)

/-- The residual of a unit of size `n` with levels `lv`, not all 0. -/
def encResidual (c n : Nat) (lv : Array Int) : Enc Unit := do
  let cls := clsOf c
  let m := n / 4
  let groups := (diagScan m).toArray
  let poss := (diagScan 4).toArray
  let at_ := fun (si : Nat) =>
    let g := groups.getD (si / 16) (0, 0)
    let q := poss.getD (si % 16) (0, 0)
    (4 * g.1 + q.1, 4 * g.2 + q.2)
  let level := fun (x y : Nat) => if x < n ∧ y < n then lv.getD (y * n + x) 0 else 0
  let here := fun (si : Nat) => level (at_ si).1 (at_ si).2
  let last := ((List.range (n * n)).reverse.find? (fun si => here si ≠ 0)).getD 0
  let lastG := last / 16
  let coded := fun (gi : Nat) => decide (gi ≤ lastG) && (decide (gi = lastG) || decide (gi = 0) || (List.range 16).any (fun pi => here (16 * gi + pi) ≠ 0))
  let codedAt := fun (gx gy : Nat) => (List.range (m * m)).any (fun gi => groups.getD gi (0, 0) = (gx, gy) && coded gi)
  encGolomb (fun b => encCtx (20 + 10 * cls + min b 9)) 0 last
  for gi in (List.range (lastG + 1)).reverse do
    let gp := groups.getD gi (0, 0)
    let near := codedAt (gp.1 + 1) gp.2 || codedAt gp.1 (gp.2 + 1)
    if gi ≠ lastG ∧ gi ≠ 0 then encCtx (50 + 2 * cls + b2n near) (b2n (coded gi))
    if coded gi then
      for pi in (List.range 16).reverse do
        let si := 16 * gi + pi
        if si < last then
          let q := at_ si
          let nb := decide (level (q.1 + 1) q.2 ≠ 0) || decide (level q.1 (q.2 + 1) ≠ 0)
          let cat := if si = 0 then 0 else if gi = 0 then 1 else 2
          encCtx (56 + 6 * cls + 2 * cat + b2n nb) (b2n (decide (here si ≠ 0)))
      let mut k := 0
      for pi in (List.range 16).reverse do
        if here (16 * gi + pi) ≠ 0 then
          let r ← encLevel cls gi k (here (16 * gi + pi))
          k := r

/-! ### Coding blocks (04 R126 to R132) -/

/-- An intra mode against the candidates of the neighbours' modes. -/
def encIntraMode (ctx a b mode : Nat) : Enc Unit := do
  let cand := if a ≠ b then [a, b] else if a ≤ 1 then [0, 1] else [a, 0]
  if cand.contains mode then
    encCtx ctx 1
    encBypass (cand.idxOf mode)
  else
    encCtx ctx 0
    encBits 4 (((List.range 12).filter (fun m => !cand.contains m)).idxOf mode)

/-- One component of a vector difference. -/
def encMvd (v : Int) : Enc Unit := do
  encCtx 10 (b2n (decide (v ≠ 0)))
  if v ≠ 0 then
    encCtx 11 (b2n (decide (1 < v.natAbs)))
    if 1 < v.natAbs then encGolomb (fun _ => encBypass) 1 (v.natAbs - 2)
    encBypass (b2n (decide (v < 0)))

/-- The engine's levels of a unit: within the bound of 04 R135. -/
def EncEnv.levels (v : EncEnv) (c x y n : Nat) : Array Int :=
  let top := 2 ^ (v.e.bd c + 5) - 1
  (Array.range (n * n)).map (fun i => ((v.pick [7, c, x, y, n, i] % (2 * top + 1) : Nat) : Int) - (top : Nat))

/-- One transform unit: its cbf, and its residual where it has one. -/
def EncEnv.unit (v : EncEnv) (plain : Bool) (c x y n : Nat) : Enc Unit := do
  let lv := if plain || v.pick [6, c, x, y, n] % 2 = 0 then #[] else v.levels c x y n
  let some_ := lv.any (fun q => decide (q ≠ 0))
  encCtx (15 + c) (b2n some_)
  if some_ then encResidual c n lv

/-- transform_tree. -/
def EncEnv.transformTree (v : EncEnv) (plain : Bool) : Nat → Nat → Nat → Nat → Nat → Enc Unit
  | 0, _, _, _, _ => pure ()
  | fuel + 1, x, y, lg, part => do
    let sp := if lg = 6 then 1 else if plain ∨ lg ≤ 2 then 0 else v.pick [5, x, y, lg] % 2
    if lg ≠ 6 ∧ lg > 2 then encCtx (12 + (5 - lg)) sp
    if sp = 1 then
      let h := 2 ^ (lg - 1)
      for q in [0, 1, 2, 3] do
        v.transformTree plain fuel (x + h * (q % 2)) (y + h * (q / 2)) (lg - 1) q
    else
      let n := 2 ^ lg
      for c in v.e.comps do
        if v.e.half c then
          if n > 4 then v.unit plain c (x / 2) (y / 2) (n / 2)
          else if part = 3 then v.unit plain c ((x - 4) / 2) ((y - 4) / 2) 4
        else v.unit plain c x y n

/-- coding_block; `plain`: with no residual, cb_skip in a P slice and DC with every cbf 0 in an I slice (10 R306). Vectors reach ±128 samples
horizontally and ±64 vertically (10 R303). -/
def EncEnv.codingBlock (v : EncEnv) (plain : Bool) (x y lg : Nat) : Enc Unit := do
  let n := 2 ^ lg
  let isP := v.e.hdr.ty = 1
  let skip := isP && (plain || v.pick [1, x, y, lg] % 2 = 1)
  if isP then encCtx 3 (b2n skip)
  let s ← get
  let setInfo := fun (i : CbInfo) => modify (fun s => { s with d := v.e.setInfo x y n i s.d })
  let p := v.e.mvPred s.d x y 0
  if skip then setInfo ⟨true, 0, p.1, p.2, 1, 1⟩
  else
    let intra := !isP || v.pick [2, x, y, lg] % 2 = 1
    if isP then encCtx 4 (b2n intra)
    if intra then
      let m := fun (q : Option CbInfo) => match q with
        | some i => if i.inter then 1 else i.mode
        | none => 1
      let mode := if plain then 1 else v.pick [3, x, y, lg] % 12
      encIntraMode 5 (m (v.e.infoAt s.d ((x : Int) - 1) y)) (m (v.e.infoAt s.d x ((y : Int) - 1))) mode
      setInfo ⟨false, 0, 0, 0, mode, 1⟩
    else
      let mx : Int := ((v.pick [4, 0, x, y, lg] % 1025 : Nat) : Int) - 512
      let my : Int := ((v.pick [4, 1, x, y, lg] % 513 : Nat) : Int) - 256
      encMvd (mx - p.1)
      encMvd (my - p.2)
      setInfo ⟨true, 0, mx, my, 1, 1⟩
    v.transformTree plain 6 x y lg 0

/-- coding_tree: a plain block splits only where it must (assumption log 98). -/
def EncEnv.codingTree (v : EncEnv) (plain : Bool) : Nat → Nat → Nat → Nat → Enc Unit
  | 0, _, _, _ => pure ()
  | fuel + 1, x, y, lg => do
    let n := 2 ^ lg
    let ax := 64 * v.e.hdr.x + x
    let ay := 64 * v.e.hdr.y + y
    if ax ≥ v.e.w ∨ ay ≥ v.e.h then pure ()
    else
      let outside := ax + n > v.e.w || ay + n > v.e.h
      let sp := lg > 3 && (outside || (!plain && v.pick [0, x, y, lg] % 2 = 1))
      if lg > 3 ∧ !outside then encCtx (6 - lg) (b2n sp)
      if sp then
        for q in [0, 1, 2, 3] do
          v.codingTree plain fuel (x + n / 2 * (q % 2)) (y + n / 2 * (q / 2)) (lg - 1)
      else v.codingBlock plain x y lg

/-- The coding blocks of a block row, each followed by the test of the bits spent: `spent` bits stand before the slice data. Answers whether the
picture is exhausted behind them (10 R306; assumption log 98). -/
def EncEnv.rowBlocks (v : EncEnv) (spent : Nat) (budget : Option Nat) (ex : Bool) : Enc Bool := do
  let mut out := ex
  for k in List.range v.e.hdr.w do
    v.codingTree out 4 (64 * k) 0 6
    let s ← get
    if budget.any (fun b => decide (b ≤ spent + s.n)) then out := true
  encBin 64 1
  pure out

/-- The slice data of an interval: its bits, the stop bit and the zeros up to an octet (04 R111; assumption log 98). -/
def EncSt.octets (s : EncSt) : List Byte :=
  let len := 10 + s.n
  let k := ceilDiv len 8
  toBE k ((2 * s.low + 1) * 2 ^ (8 * k - len))

/-- One block row coded: its slice data, and whether the picture is exhausted behind it. -/
def EncEnv.row (v : EncEnv) (spent : Nat) (budget : Option Nat) (ex : Bool) : List Byte × Bool :=
  let r := (v.rowBlocks spent budget ex).run { d := v.e.start [] 0 }
  (r.2.octets, r.1)

end Sys2Proof.Machine
end

