-- ==== Sys2Proof/Machine/Glaze.lean ====
section
/-! DEFINITION. Glaze and Stipple as functions (07 R230 to R236): colour conversion, the pre-blend and post-blend tables, and the dither
of the return path. -/
namespace Sys2Proof.Machine

/-- Kr and Kb of a conversion mode (R230). -/
def convK (mode : Nat) : F32 × F32 :=
  if mode ≤ 2 then (f32Ratio 2126 10000, f32Ratio 722 10000) else (f32Ratio 2627 10000, f32Ratio 593 10000)

/-- Yn of a conversion mode. -/
def convY (mode y : Nat) : F32 :=
  if mode = 1 ∨ mode = 3 then f32Div (f32Mul (f32OfInt ((y : Int) - 256)) (f32OfInt 4095)) (f32OfInt 3504) else f32OfInt y

/-- Cbn or Crn of a conversion mode. -/
def convC (mode v : Nat) : F32 :=
  let d := f32OfInt ((v : Int) - 2048)
  if mode = 1 ∨ mode = 3 then f32Div (f32Mul d (f32OfInt 4095)) (f32OfInt 3584) else d

/-- R′, G′ and B′ of a texel before the clip (R230). -/
def convRaw (mode : Nat) (custom : List Byte) (y cb cr : Nat) : F32 × F32 × F32 :=
  if mode = 0 then (f32OfInt cr, f32OfInt y, f32OfInt cb)
  else if mode = 5 then
    let row := fun (x : Nat) =>
      let m := fun k => leAt custom (12 * x + 4 * k) 4
      f32Add (f32Add (f32Add (f32Mul (m 0) (f32OfInt y)) (f32Mul (m 1) (f32OfInt cb))) (f32Mul (m 2) (f32OfInt cr))) (leAt custom (36 + 4 * x) 4)
    (row 0, row 1, row 2)
  else
    let k := convK mode
    let yn := convY mode y
    let two := f32OfInt 2
    let r := f32Add yn (f32Mul (f32Mul two (f32Sub f32One k.1)) (convC mode cr))
    let b := f32Add yn (f32Mul (f32Mul two (f32Sub f32One k.2)) (convC mode cb))
    let g := f32Div (f32Sub (f32Sub yn (f32Mul k.1 r)) (f32Mul k.2 b)) (f32Sub (f32Sub f32One k.1) k.2)
    (r, g, b)

/-- A code clipped to 0.0 to 4,095.0 (06 R181). -/
def clipCode (x : F32) : F32 := f32Clamp 0 (f32OfInt 4095) x

/-- R′, G′ and B′ of a texel (06 R181). -/
def convTexel (mode : Nat) (custom : List Byte) (y cb cr : Nat) : F32 × F32 × F32 :=
  let t := convRaw mode custom y cb cr
  (clipCode t.1, clipCode t.2.1, clipCode t.2.2)

/-- The conversion mode in force for a slot: AUTO follows its source (R230). -/
def Ctl.convMode (c : Ctl) (slot : Nat) : Nat :=
  let m := c.ea 0x4301 slot
  if m = 0xFF then (if c.ea 0x4210 slot = 2 then 0 else 1) else m

/-- Entry `i` of colour `k` of a table's octets. -/
def tabAt (t : List Byte) (k i : Nat) : Nat := leAt t (8192 * k + 2 * i) 2

/-- Interpolation of a table at a position; none where one of its two entries is bad (R231, R232, R235). -/
def tabLerp (val : Nat → F32) (bad : Nat → Bool) (x : F32) : Option F32 :=
  let i := min (f32Floor x).toNat 4094
  let f := f32Sub x (f32OfInt i)
  if bad i || bad (i + 1) then none else
  some (f32Add (val i) (f32Mul f (f32Sub (val (i + 1)) (val i))))

/-- Pre-blend: linear light of a filtered code (R231). -/
def preLookup (t : List Byte) (bad : Nat → Bool) (k : Nat) (x : F32) : F32 :=
  (tabLerp (fun i => f32Div (f32OfInt (tabAt t k i)) (f32OfInt 65535)) bad x).getD 0

/-- Post-blend: the drive value of a clamped blend result (R232). -/
def postLookup (t : List Byte) (bad : Nat → Bool) (k : Nat) (v : F32) : Nat :=
  match tabLerp (fun i => f32OfInt (tabAt t k i)) bad (f32Mul (f32Sqrt v) (f32OfInt 4095)) with
  | some r => (f32RneScaled 0 r).toNat
  | none => 0

/-- Number of a table entry in `glazeBad`: tables 0 to 15 pre-blend, 16 to 31 post-blend, three colours of 4,096 entries. -/
def glazeIdx (tab k i : Nat) : Nat := (tab * 3 + k) * 4096 + i

/-- A table entry is bad until the end of the frame (R235). -/
def Ctl.glazeIsBad (c : Ctl) (tab k i : Nat) : Bool := c.pl.glazeBad.contains (glazeIdx tab k i)

/-- Stipple of one 16-bit sample (R236): position, colour, frame counter, mode and matrix. -/
def stipple (m : List Byte) (mode k x y col v : Nat) : Nat :=
  if mode = 0 then (v * 255 + 32767) / 65535 else
  let n := if mode = 2 then 6 else 8
  let t := leAt m (2 * (64 * ((y + 41 * k) % 64) + (x + 21 * col + 23 * k) % 64)) 2
  let s := v * (2 ^ n - 1)
  let q := s / 65535
  let out := if (s % 65535) * 4096 > t * 65535 then q + 1 else q
  if mode = 2 then 4 * out else out

end Sys2Proof.Machine
end

