-- ==== Sys2Proof/Machine/PalOps.lean ====
section
/-! DEFINITION. Palette's operations (07 R211 to R229): sources and limits of a slot, the ingest scaler, bounds grids, and the cull planner. -/
namespace Sys2Proof.Machine

/-- Change Palette's part. -/
def Ctl.setPl (c : Ctl) (f : PlState → PlState) : Ctl := { c with pl := f c.pl }

/-- Palette's record of a slot. -/
def Ctl.plSlot (c : Ctl) (s : Nat) : PlSlot := c.pl.slots.getD s {}

/-- Change Palette's record of a slot. -/
def Ctl.updPl (c : Ctl) (s : Nat) (f : PlSlot → PlSlot) : Ctl := c.setPl (fun p => { p with slots := updAt p.slots s f })

/-- A warning or error of a slot, at most once per frame (R237). -/
def Ctl.plPost (c : Ctl) (code s : Nat) (more : List (Nat × Nat)) : Ctl :=
  if c.pl.posted.contains (code * 256 + s) then c
  else (c.setPl (fun p => { p with posted := (code * 256 + s) :: p.posted })).post code (i8 s :: more)

/-! ### Limits of a slot (R211 to R220) -/

/-- SOURCE of a slot. -/
def Ctl.src (c : Ctl) (s : Nat) : Nat := c.ea 0x4210 s

/-- A crop as x, y, width, height; 0 means the full source (R218). -/
def cropOf (v w h : Nat) : Nat × Nat × Nat × Nat :=
  (bits v 15 0, bits v 31 16, (if bits v 47 32 = 0 then w else bits v 47 32), (if bits v 63 48 = 0 then h else bits v 63 48))

/-- A crop clipped to its source (R219). -/
def cropClip (q : Nat × Nat × Nat × Nat) (w h : Nat) : Nat × Nat × Nat × Nat :=
  (q.1, q.2.1, min q.2.2.1 (w - q.1), min q.2.2.2 (h - q.2.1))

/-- A crop takes the whole source (R214; assumption log 96). -/
def cropFull (q : Nat × Nat × Nat × Nat) (w h : Nat) : Bool := q = (0, 0, w, h)

/-- What breaks R216 or the scale limits for a crop of win × hin: the event code, none when it holds. -/
def scaleLimit (p : SlotPlan) (taps win hin : Nat) : Option Nat :=
  let bpt := (fmtBpt p.fmt).getD 8
  let d := lineDepth win bpt
  if win * bits taps 3 0 > d * p.w || hin * bits taps 7 4 > d * p.h then some 0x3281
  else if win * 256 > p.downX * p.w || hin * 256 > p.downY * p.h || win * 16 < p.w || hin * 16 < p.h then some 0x3282
  else none

/-- Tiles across and down the plan grid of a slot. -/
def SlotPlan.tw (p : SlotPlan) : Nat := ceilDiv p.w 32
/-- Tiles down. -/
def SlotPlan.th (p : SlotPlan) : Nat := ceilDiv p.h 32

/-- Bytes of a slot's scaled surface (R220). -/
def scaledBytes (p : SlotPlan) : Nat := 2 * p.keys * p.tw * p.th * 8192

/-- The source's format fits the slot (R211, R212). -/
def sourceOk (p : SlotPlan) (source : Nat) : Bool :=
  if source = 1 then (p.cls = 1 && (p.fmt = 1 || p.fmt = 2)) || (p.cls = 2 && (p.fmt = 3 || p.fmt = 4))
  else if source = 2 then p.cls = 2 && decide (0x10 ≤ p.fmt)
  else source = 0

/-- The commit check of R218 over proposed values `e`: the event and slot of the first failure. `size` is the key view size in force of a
slot (assumption log 96). -/
def plCheck (plan : Nat → SlotPlan) (e : Nat → Nat) (size : Nat → Option (Nat × Nat)) : Option (Nat × Nat) :=
  firstSome (fun s =>
    let p := plan s
    let source := e (ekey 0x4210 (s + 1))
    if source = 0 then none else
    if !sourceOk p source then some (0x3283, s) else
    let sz := if source = 2 then some (bits (e (ekey 0x4217 (s + 1))) 15 0, bits (e (ekey 0x4217 (s + 1))) 31 16) else size s
    match sz with
    | none => none
    | some (w, h) =>
      let q := cropOf (e (ekey 0x4213 (s + 1))) w h
      match scaleLimit p (e (ekey 0x4214 (s + 1))) q.2.2.1 q.2.2.2 with
      | some code => some (code, s)
      | none => if e (ekey 0x421B (s + 1)) < scaledBytes p then some (0x3284, s) else none) (List.range 16)

/-- The crop of a slot on a source of a size, clipped. -/
def Ctl.cropAt (c : Ctl) (s w h : Nat) : Nat × Nat × Nat × Nat := cropClip (cropOf (c.ea 0x4213 s) w h) w h

/-- A DECODED slot of a key view size is taken directly (R214). -/
def Ctl.direct (c : Ctl) (s w h : Nat) : Bool :=
  c.src s = 1 && cropFull (cropOf (c.ea 0x4213 s) w h) w h && w = (c.plan s).w && h = (c.plan s).h

/-- The ingest of a frame begins for a slot whose source has a size: the run-time limits, then a pass (R219, R220). -/
def Ctl.plSized (c : Ctl) (s frame w h : Nat) : Ctl :=
  if !c.usedSlot s || c.src s = 0 then c else
  if c.direct s w h then c.updPl s (fun x => { x with directFor := some frame, pass := none }) else
  let q := c.cropAt s w h
  match scaleLimit (c.plan s) (c.ea 0x4214 s) q.2.2.1 q.2.2.2 with
  | some code =>
    ((c.updPl s (fun x => { x with limitFor := some frame, directFor := none, pass := none })).setReg .plEvents 0 1 1).plPost code s [i8 1]
  | none => c.updPl s (fun x => { x with directFor := none, pass := some { frame := frame, base := c.ea 0x421A s } })

/-! ### The scaler (R215) -/

/-- The source position of an output texel on one axis. -/
def scalePos (crop win wout u : Nat) : F32 :=
  f32Sub (f32Add (f32OfInt crop) (f32Div (f32Mul (f32Add (f32OfInt u) f32Half) (f32OfInt win)) (f32OfInt wout))) f32Half

/-- The stretch of an axis. -/
def scaleS (win wout : Nat) : F32 := let r := f32Div (f32OfInt win) (f32OfInt wout); if f32Lt r f32One then f32One else r

/-- The kernel of T taps. -/
def kernelOf (t : Nat) (x : F32) : F32 :=
  let a := f32Abs x
  let a2 := f32Mul a a
  let a3 := f32Mul a2 a
  let k := fun (n d : Nat) => f32Ratio n d
  if t = 2 then (if f32Lt a f32One then f32Sub f32One a else 0)
  else if f32Lt a f32One then f32Add (f32Sub (f32Mul (k 3 2) a3) (f32Mul (k 5 2) a2)) f32One
  else if f32Lt a (f32OfInt 2) then
    f32Add (f32Sub (f32Add (f32Mul (f32Negate f32Half) a3) (f32Mul (k 5 2) a2)) (f32Mul (f32OfInt 4) a)) (f32OfInt 2)
  else 0

/-- The source texels of an output texel's filter, ascending, before the clamp to the crop. -/
def tapIdx (t win wout crop u : Nat) : List Int :=
  let x := scalePos crop win wout u
  let s := scaleS win wout
  let reach := f32Mul (f32OfInt (t / 2 : Nat)) s
  let n := (f32Floor reach).toNat + 2
  let base := f32Floor x - n
  ((List.range (2 * n + 2)).map (fun (i : Nat) => base + (i : Int))).filter (fun i => f32Lt (f32Abs (f32Sub (f32OfInt i) x)) reach)

/-- The taps with their weights divided by their sum. -/
def tapWeights (t win wout crop u : Nat) : List (Int × F32) :=
  let x := scalePos crop win wout u
  let s := scaleS win wout
  let raw := (tapIdx t win wout crop u).map (fun i => (i, kernelOf t (f32Div (f32Sub (f32OfInt i) x) s)))
  let sum := raw.foldl (fun a p => f32Add a p.2) 0
  raw.map (fun p => (p.1, f32Div p.2 sum))

/-- A scaled texel (R215): Y, Cb, Cr and A filtered vertically, then horizontally; D nearest (assumption log 96). -/
def scaleTexel (get : Int → Int → Nat) (q : Nat × Nat × Nat × Nat) (taps wout hout u v : Nat) : Nat :=
  let cx := fun (i : Int) => clampI q.1 ((q.1 : Int) + q.2.2.1 - 1) i
  let cy := fun (i : Int) => clampI q.2.1 ((q.2.1 : Int) + q.2.2.2 - 1) i
  let wx := tapWeights (bits taps 3 0) q.2.2.1 wout q.1 u
  let wy := tapWeights (bits taps 7 4) q.2.2.2 hout q.2.1 v
  let comp := fun (lo : Nat) =>
    let r := wx.foldl (fun a p => f32Add a (f32Mul p.2 (wy.foldl (fun b r => f32Add b (f32Mul r.2 (f32OfInt (bits (get (cx p.1) (cy r.1)) (lo + 11) lo)))) 0))) 0
    (clampI 0 4095 (f32RneScaled 0 r)).toNat
  let dx := f32Floor (f32Add (scalePos q.1 q.2.2.1 wout u) f32Half)
  let dy := f32Floor (f32Add (scalePos q.2.1 q.2.2.2 hout v) f32Half)
  bits (get (cx dx) (cy dy)) 63 48 * 2 ^ 48 + comp 36 * 2 ^ 36 + comp 24 * 2 ^ 24 + comp 12 * 2 ^ 12 + comp 0

/-- The source span of output texels u0 to u1 of an axis, clamped to the crop. -/
def axisSpan (t win wout crop u0 u1 : Nat) : Int × Int :=
  let lo := ((tapIdx t win wout crop u0).head?).getD crop
  let hi := ((tapIdx t win wout crop u1).getLast?).getD crop
  (clampI crop ((crop : Int) + win - 1) lo, clampI crop ((crop : Int) + win - 1) hi)

/-! ### Surfaces in DRAM (R221) -/

/-- An 8-bit value widened to 12 bits. -/
def widen8 (v : Nat) : Nat := v * 16 + v / 16

/-- The texel word of red, green, blue and alpha of 12 bits (R221, 05 R153). -/
def rgbWord (r g b a : Nat) : Nat := a * 2 ^ 36 + r * 2 ^ 24 + b * 2 ^ 12 + g

/-- Where a pixel of a surface lies: offset in its row and bytes. -/
def pixelAt (fmt x : Nat) : Nat × Nat := if fmt = 0x10 then (4 * x, 4) else if fmt = 0x11 then (2 * x, 2) else if fmt = 0x12 then (x, 1) else (x / 8, 1)

/-- The texel word of a pixel of a surface. -/
def surfTexel (m : Mem) (fmt base pitch tint x y : Nat) : Nat :=
  let q := pixelAt fmt x
  let v := ofLE (m.read (base + pitch * y + q.1) q.2)
  let tinted := fun a => rgbWord (widen8 (bits tint 23 16)) (widen8 (bits tint 15 8)) (widen8 (bits tint 7 0)) a
  if fmt = 0x10 then rgbWord (widen8 (bits v 23 16)) (widen8 (bits v 15 8)) (widen8 (bits v 7 0)) (widen8 (bits v 31 24))
  else if fmt = 0x11 then
    let f5 := fun n => n * 128 + n * 4 + n / 8
    rgbWord (f5 (bits v 15 11)) (bits v 10 5 * 64 + bits v 10 5) (f5 (bits v 4 0)) 0xFFF
  else if fmt = 0x12 then tinted (widen8 v)
  else tinted (if bit v (7 - x % 8) then 0xFFF else 0)

/-- Address of a texel of a surface in blocks (05 R154): the block at (0, 0), row length in tiles. -/
def blockTexel (base bw x y : Nat) : Nat := base + ((y / 32) * bw + x / 32) * 8192 + 8 * (32 * (y % 32) + x % 32)

/-- Base of key view `kk` of buffer `b` of a slot's scaled surface (R220), for the pass that writes it. -/
def Ctl.scaledBase (c : Ctl) (s b kk : Nat) : Nat :=
  let p := c.plan s
  ((c.plSlot s).pass.map PlPass.base).getD (c.ea 0x421A s) + (b * p.keys + kk) * (p.tw * p.th) * 8192

/-! ### Bounds grids (R226) -/

/-- Bytes of one copy of the grids (assumption log 95). -/
def Ctl.gridBytes (c : Ctl) : Nat :=
  ((List.range 16).map (fun s => let p := c.plan s; if c.usedSlot s then p.keys * p.tw * p.th * 8 else 0)).foldl (· + ·) 0

/-- Entries of the fetch schedule. -/
def Ctl.fetchCount (c : Ctl) : Nat := schedCount (imgSec c.img 3)

/-- BOUNDS_BYTES holds the grids and the masks. -/
def Ctl.cullOn (c : Ctl) : Bool := c.hasImage && decide (2 * c.gridBytes + 8 * c.fetchCount ≤ c.e 0x420005)

/-- Address of a cell in the copy of a frame (assumption log 95). -/
def Ctl.cellAddr (c : Ctl) (frame s key u v : Nat) : Nat :=
  let before := ((List.range s).map (fun x => let p := c.plan x; if c.usedSlot x then p.keys * p.tw * p.th * 8 else 0)).foldl (· + ·) 0
  let p := c.plan s
  c.e 0x420004 + (frame % 2) * c.gridBytes + before + ((key * p.th + v) * p.tw + u) * 8

/-- Address of a mask entry in the copy of a frame. -/
def Ctl.maskAddr (c : Ctl) (frame i : Nat) : Nat := c.e 0x420004 + 2 * c.gridBytes + ((frame % 2) * c.fetchCount + i) * 4

/-- A cell merged with bounds (R226). -/
def mergeCell (w dlo dhi : Nat) (op : Bool) : Nat :=
  let set := bit w 33
  let lo := if set then min (bits w 15 0) dlo else dlo
  let hi := if set then max (bits w 31 16) dhi else dhi
  let o := op && (!set || bit w 32)
  lo + hi * 2 ^ 16 + b2n o * 2 ^ 32 + 2 ^ 33 + b2n (bit w 34) * 2 ^ 34

/-- The plan tiles on one axis whose output texels read source texels from `a` to `b`: the slot is direct, or scaled by a crop. -/
def touchTiles (dir : Bool) (t crop win wout a b : Nat) : List Nat :=
  (List.range (ceilDiv wout 32)).filter (fun k =>
    let u0 := 32 * k
    let u1 := min (32 * k + 31) (wout - 1)
    let sp : Int × Int := if dir then (u0, u1) else axisSpan t win wout crop u0 u1
    decide (sp.1 ≤ b) && decide ((a : Int) ≤ sp.2))

/-- The tiles that a rectangle of a key view (inclusive corners) touches. -/
def Ctl.rectTiles (c : Ctl) (s w h x0 y0 x1 y1 : Nat) : List (Nat × Nat) :=
  let p := c.plan s
  let d := c.direct s w h
  let q := c.cropAt s w h
  let tp := c.ea 0x4214 s
  (touchTiles d (bits tp 7 4) q.2.1 q.2.2.2 p.h y0 y1).flatMap (fun v =>
    (touchTiles d (bits tp 3 0) q.1 q.2.2.1 p.w x0 x1).map (fun u => (u, v)))

/-- Change the cells of tiles. -/
def cellsUpd (f : Nat → Nat) (addrs : List Nat) (m : Mem) : Mem := addrs.foldl (fun m a => m.store a (toLE 8 (f (ofLE (m.read a 8))))) m

/-- Palette changes cells: writes of eight octets, each a merge (14 R409). -/
def cellsWrite (f : Nat → Nat) (cells : List Nat) (m : Mem) (c : Ctl) : Mem × Ctl :=
  (cellsUpd f cells m, c.writeBursts m 5 (fun _ => true) ((cells.map (· / 64)).eraseDups))

/-- BOUNDS_MERGE (R226): a slice's bounds, clipped to the planned bounds (02 R61), go into the cells it touches. -/
def boundsMerge (frame s key w h x0 y0 x1 y1 dlo dhi : Nat) (op : Bool) (m : Mem) (c : Ctl) : Mem × Ctl :=
  if !c.usedSlot s || c.src s = 2 then (m, c) else
  let p := c.plan s
  let clip := fun d => if p.cls = 1 then clampN p.dlo p.dhi d else d
  let c := if clip dlo ≠ dlo || clip dhi ≠ dhi then c.plPost 0x3243 s [] else c
  if !c.cullOn then (m, c) else
  let cells := (c.rectTiles s w h x0 y0 x1 y1).map (fun t => c.cellAddr frame s key t.1 t.2)
  cellsWrite (fun v => mergeCell v (clip dlo) (clip dhi) op) cells m c

/-- Cells that a block owed to concealment touches are UNKNOWN (R226). -/
def boundsUnknown (frame s key w h x0 y0 x1 y1 : Nat) (m : Mem) (c : Ctl) : Mem × Ctl :=
  if !c.usedSlot s || c.src s = 2 || !c.cullOn then (m, c) else
  let cells := (c.rectTiles s w h x0 y0 x1 y1).map (fun t => c.cellAddr frame s key t.1 t.2)
  cellsWrite (fun v => v ||| 2 ^ 34) cells m c

/-- What the layout of the grids hangs on: BOUNDS_BASE, and the used slots with their tiles. -/
def Ctl.gridLayout (c : Ctl) : List Nat :=
  c.e 0x420004 :: (List.range 16).flatMap (fun s => let p := c.plan s; if c.usedSlot s then [s, p.keys, p.tw, p.th] else [])

/-- The grids of one frame's copy are cleared. -/
def gridClear (frame : Nat) (m : Mem) (c : Ctl) : Mem × Ctl :=
  dramStore 5 (c.e 0x420004 + (frame % 2) * c.gridBytes) (List.replicate c.gridBytes 0) m c

/-- The grids of a frame that may begin are cleared, those of the frame in decode too where the layout is new, and a SURFACE slot's cells of the
frame in decode are written. -/
def gridsFlip (n : Nat) (m : Mem) (c : Ctl) : Mem × Ctl :=
  let anew := c.pl.gridAt ≠ c.gridLayout
  let c := c.setPl (fun p => { p with gridAt := c.gridLayout })
  if !c.cullOn then (m, c) else
  let q := gridClear (n + 3) m c
  let q := if anew then gridClear (n + 2) q.1 q.2 else q
  (List.range 16).foldl (fun q s =>
    let p := c.plan s
    if c.usedSlot s && c.src s = 2 then
      cellsWrite (fun _ => mergeCell 0 0 0 (c.ea 0x4218 s = 1))
        ((List.range (p.tw * p.th)).map (fun k => c.cellAddr (n + 2) s 0 (k % p.tw) (k / p.tw))) q.1 q.2
    else q) q

/-! ### The cull planner (R227) -/

/-- Z of a depth code of a slot, or ZP of a flat slot. -/
def Ctl.zOf (c : Ctl) (s d : Nat) : F32 := if (c.plan s).cls = 1 then depthOf c.img s d else placeF c.img s 48

/-- The fills of the fetch schedule with their index and phase. -/
def fetchFills (g : List Byte) : List (Nat × Nat × Nat) :=
  let es := schedEntries (imgSec g 3)
  ((List.range es.length).foldl (fun (q : Nat × List (Nat × Nat × Nat)) i =>
    let e := es.getD i 0
    if fetchMark e then (q.1 + 1, q.2) else (q.1, (i, q.1 - 1, e) :: q.2)) (0, [])).2.reverse

/-- The cell of a fill's tile; none outside the grid. -/
def Ctl.fillCell (c : Ctl) (m : Mem) (frame e : Nat) : Option Nat :=
  let p := c.plan (fetchSlot e)
  if fetchU e < p.tw ∧ fetchV e < p.th ∧ fetchKey e < p.keys then
    some (ofLE (m.read (c.cellAddr frame (fetchSlot e) (fetchKey e) (fetchU e) (fetchV e)) 8))
  else none

/-- The cell is SET and not UNKNOWN. -/
def cellKnown (w : Nat) : Bool := bit w 33 && !bit w 34

/-- First walk: ZB(M, p) where every fill of slot M in phase p is known and opaque (assumption log 95). -/
def Ctl.firstWalk (c : Ctl) (m : Mem) (frame : Nat) (fills : List (Nat × Nat × Nat)) (p s : Nat) : Option F32 :=
  let cells := (fills.filter (fun f => f.2.1 = p && fetchSlot f.2.2 = s)).map (fun f => c.fillCell m frame f.2.2)
  if cells.isEmpty || !(cells.all (fun x => match x with | some w => cellKnown w && bit w 32 | none => false)) then none
  else some (c.zOf s (minOf 0xFFFF (cells.map (fun x => bits (x.getD 0) 15 0))))

/-- Second walk: the removals among the first `limit` entries: entry, occluder, DCUT. -/
def Ctl.plannerMask (c : Ctl) (m : Mem) (frame limit : Nat) : List (Nat × Nat × Nat) :=
  let fills := fetchFills c.img
  let used := (List.range 16).filter c.usedSlot
  fills.filterMap (fun f =>
    if f.1 ≥ limit || !fetchCullable f.2.2 then none else
    let l := fetchSlot f.2.2
    let dcut := match c.fillCell m frame f.2.2 with
      | some w => if cellKnown w then bits w 31 16 else (c.plan l).dhi
      | none => (c.plan l).dhi
    let zf := c.zOf l dcut
    match used.find? (fun s => s ≠ l && (match c.firstWalk m frame fills f.2.1 s with
      | some zb => f32Lt zf zb || (!f32Lt zb zf && decide (s < l))
      | none => false)) with
    | some s => some (f.1, s, dcut)
    | none => none)

/-- A mask entry's word. -/
def maskWord (o d : Nat) : Nat := 2 ^ 31 + o * 2 ^ 20 + d

/-- The planner runs for a frame up to an entry of its second walk; a poisoned grid read leaves the empty mask (14 R410, client 5; assumption log 95). -/
def planCull (frame limit : Nat) (m : Mem) (c : Ctl) : Mem × Ctl :=
  if !c.cullOn then (m, c.setPl (fun p => { p with planned := some frame, mask := [] })) else
  let base := c.e 0x420004 + (frame % 2) * c.gridBytes
  let bad := m.poisoned base c.gridBytes
  let c := c.readDram m 5 base c.gridBytes
  let mask := if bad then [] else c.plannerMask m frame limit
  let words := (List.range c.fetchCount).flatMap (fun i => match mask.find? (fun q => q.1 = i) with
    | some q => toLE 4 (maskWord q.2.1 q.2.2)
    | none => [0, 0, 0, 0])
  let q := dramStore 5 (c.maskAddr frame 0) words m c
  (q.1, q.2.setPl (fun p => { p with planned := some frame, mask := mask }))

end Sys2Proof.Machine
end

