-- ==== Sys2Proof/Machine/Decoding.lean ====
section
/-! DEFINITION. The decoder (05 R142 to R173, on the bitstream of 04): input buffer, contexts, pictures and buffers, scheduling, surfaces,
cutoff, concealment and readiness. -/
namespace Sys2Proof.Machine

/-! ### Access -/

/-- Change the decoder's part. -/
def Ctl.setDc (c : Ctl) (f : DcState → DcState) : Ctl := { c with dc := f c.dc }
/-- A context's record. -/
def Ctl.ctx (c : Ctl) (n : Nat) : DcCtx := (aGet c.dc.ctxs n).getD {}
/-- Change a context's record. -/
def Ctl.updCtx (c : Ctl) (n : Nat) (f : DcCtx → DcCtx) : Ctl := c.setDc (fun d => { d with ctxs := aSet d.ctxs n (f (c.ctx n)) })
/-- Key of an entry of a context (R171). -/
def ctxKey (n sub : Nat) : Nat := ekey (0x6000 + n) sub
/-- CTX_STATE: 0 DISABLED, 1 WAIT_HEADER, 2 WAIT_RAP, 3 RUNNING. -/
def Ctl.ctxState (c : Ctl) (n : Nat) : Nat := c.e (ctxKey n 2)
/-- A picture of a context. -/
def Ctl.pic (c : Ctl) (n id : Nat) : Option DcPic := (c.ctx n).pics.find? (fun p => p.id = id)
/-- Change a picture. -/
def Ctl.updPic (c : Ctl) (n id : Nat) (f : DcPic → DcPic) : Ctl :=
  c.updCtx n (fun x => { x with pics := x.pics.map (fun p => if p.id = id then f p else p) })

/-- An event that names a context; a warning or error at most once per frame (R169). -/
def Ctl.dcPost (c : Ctl) (code n : Nat) : Ctl :=
  if code % 256 < 0x40 || code % 256 ≥ 0xC0 then c.post code [i16 n] else
  if c.dc.posted.contains (code * 1024 + n) then c
  else (c.setDc (fun d => { d with posted := (code * 1024 + n) :: d.posted })).post code [i16 n]

/-- A stream error (R158): LAST_ERROR, STREAM_ERRORS, STREAM_ERROR. -/
def Ctl.dcErr (c : Ctl) (n code : Nat) : Ctl := ((c.setE (ctxKey n 0x11) code).incE (ctxKey n 0x0D)).dcPost 0x2081 n

/-- A readiness record holds a picture's buffer (R150). -/
def Ctl.inRec (c : Ctl) (n id : Nat) : Bool := c.dc.recs.any (fun r => r.ctx = n && r.pic = some id)

/-- A picture holds its buffer (R150): it is in decode, in the reference set or in a readiness record. -/
def Ctl.picHeld (c : Ctl) (n : Nat) (p : DcPic) : Bool := p.busy || (c.ctx n).stored.contains p.id || c.inRec n p.id

/-- Buffers that nothing holds are free (R150). What a picture in decode predicts from stays known until it leaves decode (R162;
assumption log 120). -/
def Ctl.dcFree (c : Ctl) (n : Nat) : Ctl :=
  c.updCtx n (fun x => { x with pics := x.pics.filter (fun p =>
    c.picHeld n p || x.pics.any (fun q => q.busy && q.refs.contains (some p.id))) })

/-- CONTEXTS_RUNNING counts (R170). -/
def Ctl.showRunning (c : Ctl) : Ctl := c.setE 0x300106 ((c.dc.ctxs.filter (fun p => c.ctxState p.1 = 3)).length)

/-- A context changes its state (R147); disabled or waiting for a header it has no previous picture (assumption log 117). -/
def Ctl.setCtxState (c : Ctl) (n st : Nat) : Ctl :=
  let c := c.updCtx n (fun x =>
    if st ≤ 1 then { x with stored := [], cur := .none, sh := none, needRap := false, last := none }
    else if st = 2 then { x with cur := .drop } else x)
  ((c.setE (ctxKey n 2) st).dcFree n).showRunning

/-- Bytes that the input buffer holds. -/
def DcUnit.size (u : DcUnit) : Nat := (u.ext.map (fun e => e.2)).foldl (· + ·) 0
/-- Bytes held in all. -/
def DcState.fill (d : DcState) : Nat := (d.units.map DcUnit.size).foldl (· + ·) 0
/-- INPUT_FILL shows the fill (R170). -/
def Ctl.showFill (c : Ctl) : Ctl := c.setE 0x300104 c.dc.fill

/-- Units leave the buffer. -/
def Ctl.dropUnits (c : Ctl) (f : DcUnit → Bool) : Ctl := (c.setDc (fun d => { d with units := d.units.filter (fun u => !f u) })).showFill

/-- A context's slices and output pictures are given up, and its pictures are no longer in decode. -/
def Ctl.dcFlush (c : Ctl) (n : Nat) : Ctl :=
  (c.dropUnits (fun u => u.ctx = n && u.pic.isSome)).updCtx n (fun x => { x with pics := x.pics.map (fun p => { p with busy := false }), out := [] })

/-- CTX_ENABLE becomes 1 or 0 at a flip (R147). -/
def Ctl.dcEnable (c : Ctl) (n : Nat) : Ctl :=
  let on := c.e (ctxKey n 1) = 1
  if on && c.ctxState n = 0 then c.setCtxState n 1
  else if !on && c.ctxState n ≠ 0 then
    let c := (c.dropUnits (fun u => u.ctx = n)).dcFlush n
    (c.setDc (fun d => { d with recs := d.recs.filter (fun r => r.ctx ≠ n) })).setCtxState n 0
  else c

/-! ### Windows, surfaces and reference samples (R153 to R155) -/

/-- The window of a context for a key view size: CBX0, CBX1, CBY0, CBY1. -/
def Ctl.dcWindow (c : Ctl) (n w h : Nat) : Nat × Nat × Nat × Nat :=
  let v := c.e (ctxKey n 6)
  let wc := ceilDiv w 64
  let hc := ceilDiv h 64
  (bits v 15 0 * wc / 65536, ceilDiv (bits v 47 32 * wc) 65536, bits v 31 16 * hc / 65536, ceilDiv (bits v 63 48 * hc) 65536)

/-- Blocks across the window. -/
def DcHdr.bw (h : DcHdr) : Nat := 2 * (h.x1 - h.x0)
/-- Blocks down. -/
def DcHdr.bh (h : DcHdr) : Nat := 2 * (h.y1 - h.y0)
/-- Block (0, 0) of carried key view `kk` in a buffer. -/
def DcHdr.viewBase (h : DcHdr) (buf kk : Nat) : Nat := h.base + (buf * h.lay.keyCount + kk) * (h.bw * h.bh) * 8192
/-- A 32 × 32 block of the window. -/
def DcHdr.block (h : DcHdr) (buf kk bx by_ : Nat) : Nat := h.viewBase buf kk + (by_ * h.bw + bx) * 8192
/-- Address of the texel word of a position of the key view inside the window. -/
def DcHdr.texel (h : DcHdr) (buf kk x y : Nat) : Nat := blockTexel (h.viewBase buf kk) h.bw (x - 64 * h.x0) (y - 64 * h.y0)
/-- Blocks of the window, those past the key view's edge among them (R154). -/
def DcHdr.blocks (h : DcHdr) : List Nat := List.range (h.bw * h.bh)
/-- Blocks of the window that hold part of the key view. -/
def DcHdr.needed (h : DcHdr) : List Nat :=
  h.blocks.filter (fun b => decide (64 * h.x0 + 32 * (b % h.bw) < h.lay.w) && decide (64 * h.y0 + 32 * (b / h.bw) < h.lay.h))

/-- The fill word of a context (R160). -/
def Ctl.fillWord (c : Ctl) (n : Nat) : Nat :=
  match c.e (ctxKey n 7) with
  | 0 => 0x800 * 2 ^ 24 + 0x800 * 2 ^ 12
  | 1 => 0xFFF * 2 ^ 36 + 0x800 * 2 ^ 24 + 0x800 * 2 ^ 12 + 0x800
  | _ => c.e (ctxKey n 8)

/-- A component of a texel word at a texture bit depth. -/
def wordComp (w comp depth : Nat) : Nat :=
  let sh := 2 ^ (12 - depth)
  match comp with
  | 0 => bits w 11 0 / sh
  | 1 => bits w 23 12 / sh
  | 2 => bits w 35 24 / sh
  | 3 => bits w 47 36 / sh
  | _ => bits w 63 48

/-- A reference sample of a slice (04 R132, R133; R155, R159): an inter-view entry reads its own picture, a temporal entry the picture it
names or the fill picture. -/
def Ctl.refSample (c : Ctl) (m : Mem) (n : Nat) (p : DcPic) (s : SliceHdr) : RefFn := fun i comp x y =>
  let fill := wordComp (c.fillWord n) comp p.hdr.lay.depthBits
  let e := s.refs.getD i (false, 0)
  let q : Option (DcPic × Nat) :=
    if e.1 then some (p, e.2 - p.hdr.lay.keyFirst)
    else match (p.refs.getD e.2 none).bind (c.pic n) with
      | some r => some (r, s.key - p.hdr.lay.keyFirst)
      | none => none
  match q with
  | none => (fill, false, [])
  | some (r, kk) =>
    let half : Nat := if (comp = 1 || comp = 2) && !p.hdr.lay.c444 then 2 else 1
    let wx := clampI (64 / half * r.hdr.x0 : Nat) ((64 / half * r.hdr.x1 : Nat) - 1) x
    let wy := clampI (64 / half * r.hdr.y0 : Nat) ((64 / half * r.hdr.y1 : Nat) - 1) y
    let a := r.hdr.texel r.buf kk (half * wx.toNat) (half * wy.toNat)
    (wordComp (ofLE (m.read a 8)) comp p.hdr.lay.depthBits, decide (wx ≠ x) || decide (wy ≠ y), [2 * (a / 64) + b2n (m.poisoned a 8)])

/-! ### Concealed pictures (R161, R162) -/

/-- A picture becomes CONCEALED. -/
def Ctl.markConcealed (c : Ctl) (n id : Nat) : Ctl :=
  match c.pic n id with
  | some p =>
    if bit p.flags 0 then c else ((c.updPic n id (fun p => { p with flags := setBit p.flags 0 true })).incE (ctxKey n 0x0A)).dcPost 0x2041 n
  | none => c

/-- A picture whose slices used a CONCEALED entry is CONCEALED (R162). -/
def Ctl.spread (c : Ctl) (n : Nat) : Ctl :=
  (c.ctx n).pics.foldl (fun c q =>
    if q.uref.any (fun r => (c.pic n r).any (fun p => bit p.flags 0)) then c.markConcealed n q.id else c) c

/-- A picture is decoded: it has left decode, or every block of its window is written (assumption log 61; assumption log 120). -/
def DcPic.decoded (p : DcPic) : Bool := !p.busy || p.cov.all (fun v => p.hdr.blocks.all (bit v))

/-- The held picture, decoded and not released, nearest to an output order, but picture number `id` (R159 step 1; assumption log 61). -/
def DcCtx.nearest (x : DcCtx) (order id : Nat) : Option DcPic :=
  let d := fun (p : DcPic) => toSigned 32 (p.order + 2 ^ 32 - order)
  (x.pics.filter (fun p => decide (p.id ≠ id) && x.stored.contains p.id && p.decoded)).foldl (fun (b : Option DcPic) p =>
    match b with
    | none => some p
    | some q => if (d p).natAbs < (d q).natAbs || ((d p).natAbs = (d q).natAbs && decide (d p < d q)) then some p else some q) none

/-- Octets of a fill block: the fill word inside the key view, 0 beyond. -/
def fillBlock (h : DcHdr) (fill bx by_ : Nat) : List Byte :=
  (List.range 1024).flatMap (fun i =>
    if 64 * h.x0 + 32 * bx + i % 32 < h.lay.w ∧ 64 * h.y0 + 32 * by_ + i / 32 < h.lay.h then toLE 8 fill else List.replicate 8 0)

/-- Where the texels of a picture's block lie in a picture under other headers: each position of the key view at its nearest texel of the
source's window; none beyond the key view (R155, R161; assumption log 120). -/
def colocated (h : DcHdr) (q : DcPic) (kk bx by_ : Nat) : List (Option Nat) :=
  let g := q.hdr
  (List.range 1024).map (fun i =>
    let x := 64 * h.x0 + 32 * bx + i % 32
    let y := 64 * h.y0 + 32 * by_ + i / 32
    if x < h.lay.w ∧ y < h.lay.h then
      some (g.texel q.buf kk (clampN (64 * g.x0) (min (64 * g.x1) g.lay.w - 1) x) (clampN (64 * g.y0) (min (64 * g.y1) g.lay.h - 1) y))
    else none)

/-- The octets of a concealed block from a picture under other headers, or what a poisoned burst there makes of it. -/
def colocatedRead (h : DcHdr) (q : DcPic) (kk bx by_ : Nat) (fill : List Byte) (m : Mem) (c : Ctl) : List Byte × Ctl :=
  let at_ := colocated h q kk bx by_
  let c := ((at_.filterMap id).map (· / 64)).eraseDups.foldl (fun c b => c.readDram m 3 (64 * b) 64) c
  (if at_.any (fun a => a.any (fun a => m.poisoned a 8)) then fill
   else at_.flatMap (fun a => (a.map (fun a => m.read a 8)).getD (List.replicate 8 0)), c)

/-- One block of a picture is concealed (R161, R163; a poisoned source gives the fill word as in R164; assumption log 61). -/
def concealBlock (n id kk b : Nat) (m : Mem) (c : Ctl) : Mem × Ctl :=
  match c.pic n id with
  | none => (m, c)
  | some p =>
    let h := p.hdr
    let bx := b % h.bw
    let by_ := b / h.bw
    let key := h.lay.keyFirst + kk
    let src := ((c.ctx n).nearest p.order p.id).filter (fun q =>
      decide (q.hdr.lay.keyFirst ≤ key) && decide (key < q.hdr.lay.keyFirst + q.hdr.lay.keyCount))
    let r : List Byte × Ctl := match src with
      | some q =>
        if q.hdr ≠ h then colocatedRead h q (key - q.hdr.lay.keyFirst) bx by_ (fillBlock h (c.fillWord n) bx by_) m c else
        let a := h.block q.buf kk bx by_
        (if m.poisoned a 8192 then fillBlock h (c.fillWord n) bx by_ else m.read a 8192, c.readDram m 3 a 8192)
      | none => (fillBlock h (c.fillWord n) bx by_, c)
    let c := r.2.updPic n id (fun p => { p with
      cov := updAt p.cov kk (fun v => v ||| 2 ^ b), owed := updAt p.owed kk (fun v => v - (if bit v b then 2 ^ b else 0)) })
    let a := h.block p.buf kk bx by_
    let w := dramStore 2 a r.1 m c
    (w.1, w.2.markConcealed n id)

/-- Blocks concealed in order. -/
def concealAll (l : List (Nat × Nat × Nat × Nat)) (m : Mem) (c : Ctl) : Mem × Ctl :=
  l.foldl (fun (q : Mem × Ctl) x => concealBlock x.1 x.2.1 x.2.2.1 x.2.2.2 q.1 q.2) (m, c)

/-- An engine has concealed `k` blocks (R163): 4 texels of a block's 1,024 in a cycle; `busy` counts twelfths of one (assumption log 62). -/
def Ctl.concealTime (c : Ctl) (e k : Nat) : Ctl :=
  c.setDc (fun d => { d with engs := updAt d.engs e (fun g => { g with busy := g.busy + 3072 * k }) })

/-- The engines in service share the concealment of `k` blocks (assumption log 62). -/
def Ctl.concealShared (c : Ctl) (k : Nat) : Ctl :=
  let l := (List.range 4).filter (fun e => !(c.dc.engs.getD e {}).out)
  c.setDc (fun d => { d with engs := l.foldl (fun g e => updAt g e (fun x => { x with busy := x.busy + 3072 * k / l.length })) d.engs })

/-! ### Headers (R147, R148) -/

/-- The first check of R148 that fails: its LAST_ERROR code (assumption log 61; assumption log 115). -/
def Ctl.headerBad (c : Ctl) (n : Nat) (s : StreamHdr) (l : LayerHdr) : Option Nat :=
  let p := c.plan l.slot
  let q := c.dcWindow n l.w l.h
  let blocks := l.keyCount * (2 * (q.2.1 - q.1)) * (2 * (q.2.2.2 - q.2.2.1))
  let bufs := c.e (ctxKey n 5)
  let formatOk := s.resOk && s.initOk && l.resOk && decide (l.bd ≠ 3) && (s.profile ≠ 1 || decide (l.bd ≠ 0)) && (l.depth = decide (s.profile = 1)) &&
    (!l.lossless || l.depth) && decide (64 ≤ l.w) && decide (l.w ≤ 8192) && decide (64 ≤ l.h) && decide (l.h ≤ 4320) &&
    decide (1 ≤ s.maxRefs) && decide (s.maxRefs ≤ 8) && decide (l.cOff.natAbs ≤ 24) && decide (l.aOff.natAbs ≤ 24) && decide (blocks ≤ 53248)
  if s.major ≠ 1 then some 3
  else if !(decide (1 ≤ s.profile) && decide (s.profile ≤ 8) && bit (c.e 0x300002) (s.profile - 1)) then some 4
  else if !c.hasImage || p.cls ≠ s.profile then some 5
  else if l.keyFirst + l.keyCount > p.keys then some 6
  else if !formatOk then some 8
  else if bufs < s.maxRefs + 3 then some 0x0A
  else if c.e (ctxKey n 4) < bufs * blocks * 8192 then some 9
  else if c.dc.ctxs.any (fun o => o.1 ≠ n && decide (c.ctxState o.1 ≥ 2) && o.2.hdr.any (fun h =>
      h.lay.slot = l.slot && decide (h.lay.keyFirst < l.keyFirst + l.keyCount) && decide (l.keyFirst < h.lay.keyFirst + h.lay.keyCount))) then some 7
  else none

/-- A Stream Header and its Layer Header are accepted or refused together (R115, R148; assumption log 61). -/
def Ctl.dcHeaders (c : Ctl) (n : Nat) (s : StreamHdr) (l : LayerHdr) : Ctl :=
  match c.headerBad n s l with
  | some code =>
    let c := (c.dcErr n code).dcPost 0x2082 n
    if c.ctxState n ≥ 2 then c.setCtxState n 1 else c
  | none =>
    let q := c.dcWindow n l.w l.h
    let c := c.updCtx n (fun x => { x with hdr := some ⟨s, l, q.1, q.2.1, q.2.2.1, q.2.2.2, c.e (ctxKey n 3)⟩, needRap := true, cur := .none })
    if c.ctxState n = 1 then c.setCtxState n 2 else c

/-- A unit out of the order of 04 R114: UNIT_ORDER; a RUNNING context waits for a RAP picture (R158). -/
def Ctl.dcOrder (c : Ctl) (n : Nat) : Ctl :=
  let c := (c.dcErr n 2).updCtx n (fun x => { x with needRap := false })
  if c.ctxState n = 3 then c.setCtxState n 2 else c

/-! ### Pictures (R119, R120, R149, R150, R159) -/

/-- D of 04 R120 for a flip: PRESENT_TICK against T_F[63:16], modulo 2^48 ns, signed. -/
def Ctl.presentD (c : Ctl) (pt f : Nat) : Int := toSigned 48 (pt + 2 ^ 48 - c.tn f / 65536 % 2 ^ 48)

/-- The frame of a picture among G, G + 1 and G + 2 (04 R120); none for every other frame, or while no flips are issued. -/
def Ctl.picFrame (c : Ctl) (pt : Nat) : Option Nat :=
  if !c.tb.issuing then none else
  [c.nextFlip, c.nextFlip + 1, c.nextFlip + 2].find? (fun f =>
    let d := 2 * 65536 * c.presentD pt f
    decide (-(c.period : Int) ≤ d) && decide (d < c.period))

/-- A Picture Header refused (R158): its LAST_ERROR code (assumption log 116). -/
def DcCtx.picBad (x : DcCtx) (h : DcHdr) (p : PictureHdr) : Option Nat :=
  if !p.resOk || p.ty = 3 || (p.dqp ≠ 0 && !h.lay.depth) then some 0x0B
  else if x.last.any (fun l => decide (toSigned 32 (p.order + 2 ^ 32 - l) < 1)) then some 0x0B
  else if (p.ty = 1 && !p.keep.isEmpty) || decide (p.keep.length > h.str.maxRefs) || p.keep.contains 0 || p.keep.eraseDups.length ≠ p.keep.length then some 0x0C
  else none

/-- The reference set of a picture: the held picture of each named order, or its substitute (R119, R159). Pictures of headers that differ
from those in force are no references any more (04 R115; assumption log 61). -/
def DcCtx.refSet (x : DcCtx) (h : DcHdr) (p : PictureHdr) : List (Option Nat) × Bool :=
  let x := { x with pics := x.pics.filter (fun q => q.hdr = h) }
  let one := fun (d : Nat) =>
    let want := (p.order + 2 ^ 32 - d) % 2 ^ 32
    match x.pics.find? (fun q => x.stored.contains q.id && q.order = want) with
    | some q => (some q.id, false)
    | none => ((x.nearest want x.nextId).map DcPic.id, true)
  let r := p.keep.map one
  (r.map Prod.fst, r.any Prod.snd)

/-- Slices of a context that wait or run, by picture. -/
def Ctl.picPending (c : Ctl) (n id : Nat) : Bool := c.dc.units.any (fun u => u.ctx = n && u.pic = some id)

/-- A picture of frame `f` takes a buffer and becomes the picture in decode (R119, R149, R150). -/
def Ctl.dcTakePic (c : Ctl) (n : Nat) (h : DcHdr) (p : PictureHdr) (f : Nat) : Ctl :=
  let x := c.ctx n
  let g := c.nextFlip
  let late := f = g
  let rs := if p.ty = 1 then ([], false) else x.refSet h p
  let named := (rs.1.filterMap id).eraseDups
  let held := x.pics.filter (fun q => q.busy || named.contains q.id || c.inRec n q.id)
  let bufs := c.e (ctxKey n 5)
  if held.length ≥ bufs then (c.updCtx n (fun x => { x with cur := .drop })).dcPost 0x2084 n else
  let used := x.pics.filter (fun q => q.busy && c.picPending n q.id) |>.flatMap (fun q => q.refs.filterMap id)
  let free := (List.range bufs).filter (fun b => !held.any (fun q => q.buf = b))
  let soft := free.filter (fun b => !x.pics.any (fun q => q.buf = b && used.contains q.id))
  let buf := (soft ++ free).headD 0
  let id := x.nextId
  let kv := h.lay.keyCount
  let flags := (if late then 32 else if f = g + 2 then 16 else 0) + (if rs.2 then 2 else 0)
  let np : DcPic := {
    id := id, order := p.order, ty := p.ty, qp := p.qp, dqp := p.dqp, frame := f, cut := if late then g + 1 else f, flags := flags, buf := buf,
    hdr := h, refs := rs.1, busy := true, claim := List.replicate kv 0, cov := List.replicate kv 0, owed := List.replicate kv 0,
    slices := List.replicate kv 0, recv := 0, kmax := 0, uref := [] }
  let c := c.updCtx n (fun x => { x with
    pics := x.pics ++ [np], stored := named ++ (if p.ty = 2 then [] else [id]),
    cur := .pic id, nextId := id + 1, out := if late then x.out else aSet x.out f id })
  let c := c.dcFree n
  let c := if rs.2 then ((c.incE (ctxKey n 0x0E)).dcPost 0x2042 n).markConcealed n id else c
  let c := if f = g + 2 then c.dcPost 0x2002 n else if late then c.dcPost 0x2003 n else c
  let c := if f = g + 1 && c.src h.lay.slot = 1 then c.plSized h.lay.slot f h.lay.w h.lay.h else c
  if c.ctxState n = 2 then (c.setE (ctxKey n 2) 3).showRunning.dcPost 0x2001 n else c

/-- A Picture Header (R147, R149, R158; assumption log 61; assumption log 117). -/
def Ctl.dcPicture (c : Ctl) (n : Nat) (p : PictureHdr) : Ctl :=
  let x := c.ctx n
  match x.hdr with
  | none => c
  | some h =>
    if p.ty ≠ 1 && x.needRap then (c.dcOrder n).updCtx n (fun x => { x with cur := .drop })
    else if p.ty ≠ 1 && c.ctxState n = 2 then c.updCtx n (fun x => { x with cur := .drop })
    else match x.picBad h p with
      | some code =>
        let c := (c.dcErr n code).updCtx n (fun x => { x with cur := .drop, needRap := false })
        if c.ctxState n = 3 then c.setCtxState n 2 else c
      | none =>
        let c := c.updCtx n (fun x => { x with last := some p.order, needRap := false })
        match c.picFrame p.tick with
        | none => (c.setE (ctxKey n 0x11) 0x12).updCtx n (fun x => { x with cur := .drop })
        | some f =>
          if f = c.nextFlip && p.ty = 2 then (c.setE (ctxKey n 0x11) 0x12).updCtx n (fun x => { x with cur := .drop })
          else c.dcTakePic n h p f

/-! ### Slices: acceptance (R122, R123, R133, R152) -/

/-- Mask of a rectangle of coding blocks in rows of `wc`. -/
def rectMask (wc x y w h : Nat) : Nat := maskOf ((List.range (w * h)).map (fun k => (y + k / w) * wc + x + k % w))

/-- A slice refused at its header: its LAST_ERROR code (assumption log 63; assumption log 118). -/
def DcPic.sliceBad (p : DcPic) (s : SliceHdr) : Option Nat :=
  let l := p.hdr.lay
  let wc := ceilDiv l.w 64
  let kk := s.key - l.keyFirst
  if s.pic ≠ p.order % 256 then some 0x0D
  else if s.key < l.keyFirst || s.key ≥ l.keyFirst + l.keyCount || (p.recv ≠ 0 && decide (s.key < p.kmax)) || s.w < 1 || s.w > 128 || s.h < 1 || s.h > 128 ||
      s.x + s.w > wc || s.y + s.h > ceilDiv l.h 64 || p.slices.getD kk 0 ≥ 4096 || p.claim.getD kk 0 &&& rectMask wc s.x s.y s.w s.h ≠ 0 then some 0x0E
  else if !s.resOk || s.ty > 1 || s.refs.length > 8 || (s.ty = 0) ≠ s.refs.isEmpty ||
      s.refs.any (fun r => if r.1 then decide (r.2 < l.keyFirst) || decide (s.key ≤ r.2) else decide (p.refs.length ≤ r.2)) ||
      (p.ty = 1 && s.key = l.keyFirst && s.ty ≠ 0) then some 0x0F
  else none

/-- The cutoff of a picture's frame has passed (R156). -/
def Ctl.isCut (c : Ctl) (cut : Nat) : Bool := decide (cut ≤ c.nextFlip) || (decide (cut ≤ c.nextFlip + 1) && c.dc.cutFor = some c.nextFlip)

/-- A slice whose context has handled every unit before it is accepted for its picture or discarded (R152, R158). -/
def takeSlice (u : DcUnit) (m : Mem) (c : Ctl) : Mem × Ctl :=
  let n := u.ctx
  let x := c.ctx n
  let gone := c.dropUnits (fun v => v.seq = u.seq)
  if x.sh.isSome then (m, (gone.updCtx n (fun x => { x with sh := none })).dcOrder n)
  else if c.ctxState n < 2 then (m, gone)
  else if x.needRap then (m, gone.dcOrder n)
  else match x.cur with
  | .none => (m, if c.ctxState n = 3 then gone.dcOrder n else gone)
  | .drop => (m, gone)
  | .pic id =>
    match c.pic n id with
    | none => (m, (gone.incE (ctxKey n 0x0C)).dcPost 0x2043 n)
    | some p =>
      if c.isCut p.cut then (m, (gone.incE (ctxKey n 0x0C)).dcPost 0x2043 n) else
      let s := sliceHdr u.head
      let l := p.hdr.lay
      let kk := s.key - l.keyFirst
      let carried := decide (l.keyFirst ≤ s.key) && decide (s.key < l.keyFirst + l.keyCount)
      match p.sliceBad s with
      | some code =>
        let c := gone.dcErr n code
        (m, if code ≠ 0x0D && carried then c.updPic n id (fun p => { p with recv := p.recv ||| 2 ^ kk }) else c)
      | none =>
        let c := c.updPic n id (fun p => { p with
          claim := updAt p.claim kk (fun v => v ||| rectMask (ceilDiv l.w 64) s.x s.y s.w s.h), recv := p.recv ||| 2 ^ kk,
          slices := updAt p.slices kk (· + 1), kmax := s.key,
          uref := (p.uref ++ s.refs.filterMap (fun r => if r.1 then none else p.refs.getD r.2 none)).eraseDups })
        let c := c.setDc (fun d => { d with units := d.units.map (fun v => if v.seq = u.seq then { v with pic := some id } else v) })
        if bit p.flags 5 then (m, c) else
        boundsMerge p.frame l.slot s.key l.w l.h (64 * s.x) (64 * s.y) (min (64 * (s.x + s.w)) l.w - 1) (min (64 * (s.y + s.h)) l.h - 1) s.dlo s.dhi
          s.opaque_ m c

/-- The slices of a context that no header unit precedes any more. -/
def resolveCtx (n : Nat) (m : Mem) (c : Ctl) : Mem × Ctl :=
  ((c.dc.units.filter (fun u => u.ctx = n && u.pic.isNone)).takeWhile (fun u => u.ty = 4)).foldl (fun (q : Mem × Ctl) u => takeSlice u q.1 q.2) (m, c)

/-! ### The input buffer (R144, R145) -/

/-- Free room of the ring buffer from an offset on, skipping what units hold: extents of an allocation (assumption log 62). -/
def bufAlloc (size : Nat) (held : List (Nat × Nat)) : Nat → Nat → Nat → List (Nat × Nat)
  | 0, _, _ => []
  | fuel + 1, pos, need =>
    if need = 0 then [] else
    let pos := if pos ≥ size then 0 else pos
    match held.find? (fun e => decide (e.1 ≤ pos) && decide (pos < e.1 + e.2)) with
    | some e => bufAlloc size held fuel (e.1 + e.2) need
    | none =>
      let stop := minOf size ((held.filter (fun e => decide (pos < e.1))).map Prod.fst)
      let k := min need (stop - pos)
      (pos, k) :: bufAlloc size held fuel (pos + k) (need - k)

/-- Octets of a unit stored over extents. -/
def storeExt : List (Nat × Nat) → List Byte → Mem × Ctl → Mem × Ctl
  | [], _, q => q
  | e :: r, bs, q => storeExt r (bs.drop e.2) (dramStore 11 e.1 (bs.take e.2) q.1 q.2)

/-- Octets of a unit as the buffer holds them. -/
def DcUnit.read (u : DcUnit) (m : Mem) : List Byte := u.ext.flatMap (fun e => m.read e.1 e.2)

/-- UNIT_ARRIVAL (R144, R145; 04 R109 to R113; assumption log 114; assumption log 120). -/
def unitArrival (m : Mem) (c : Ctl) : Mem × Ctl :=
  match c.dc.arriving with
  | [] => (m, c)
  | u :: rest =>
    let c := c.setDc (fun d => { d with arriving := rest })
    let u := (u.reverse.dropWhile (fun b => b = 0)).reverse
    let raw := unitRaw u
    let kind := unitKind u
    if kind = .ignored then (m, c) else
    if c.tileIndex > 127 || (decide (raw.length ≥ 18) && !bit (unitMask raw) c.tileIndex) || raw.length < 2 then (m, c) else
    let n := unitStream raw
    let size := c.e 0x300102
    if kind = .reserved then (m, c.dcErr n 1)
    else if c.dc.fill + u.length > size then
      (m, ((c.incE 0x300105).addReg .dcInputStatus 0 16 16 1).dcPost 0x2083 n)
    else if c.ctxState n = 0 then (m, c)
    else match kind with
    | .badType => (m, c.dcErr n 1)
    | .badSize => (m, c.dcErr n 0x11)
    | .ignored | .reserved => (m, c)
    | .good ty =>
      let base := c.e 0x300101
      let held := c.dc.units.flatMap (fun v => v.ext.map (fun e => (e.1 - base, e.2)))
      let ext := bufAlloc size held (2 * held.length + 4) c.dc.wr u.length
      let stop := (ext.getLast?.map (fun e => e.1 + e.2)).getD 0
      let ext := ext.map (fun e => (base + e.1, e.2))
      let nu : DcUnit := { seq := c.dc.nextSeq, ctx := n, ty := ty, ext := ext, head := if ty = 4 then raw.take (sliceDataAt raw) else [] }
      let c := ((c.setDc (fun d => { d with units := d.units ++ [nu], nextSeq := d.nextSeq + 1, wr := stop })).showFill).snoopPass 5 0 u
      let w := storeExt ext u (m, c)
      resolveCtx n w.1 w.2

/-! ### Engines (R142, R143, R151) -/

/-- An engine. -/
def Ctl.eng (c : Ctl) (e : Nat) : DcEng := c.dc.engs.getD e {}
/-- Change an engine. -/
def Ctl.updEng (c : Ctl) (e : Nat) (f : DcEng → DcEng) : Ctl := c.setDc (fun d => { d with engs := updAt d.engs e f })
/-- The slice that an engine holds. -/
def Ctl.engUnit (c : Ctl) (e : Nat) : Option DcUnit := c.dc.units.find? (fun u => u.eng = some e)

/-- A slice is eligible (R151). -/
def Ctl.eligible (c : Ctl) (u : DcUnit) (p : DcPic) : Bool :=
  let s := sliceHdr u.head
  s.refs.all (fun r =>
    if r.1 then !c.dc.units.any (fun v => v.ctx = u.ctx && v.pic = some p.id && (sliceHdr v.head).key = r.2 && decide (v.seq < u.seq))
    else match p.refs.getD r.2 none with
      | some id => !c.picPending u.ctx id
      | none => true)

/-- The rank of a unit that an engine may take: its frame and its arrival; none while it may not. A header or End unit ranks with the
frame in decode (assumption log 55). -/
def Ctl.rank (c : Ctl) (u : DcUnit) : Option (Nat × Nat) :=
  match u.pic with
  | some id =>
    match c.pic u.ctx id with
    | some p => if u.eng.isNone && c.eligible u p then some (p.frame, u.seq) else none
    | none => none
  | none => if u.ty ≠ 4 && c.dc.units.find? (fun v => v.ctx = u.ctx && v.pic.isNone) = some u then some (c.nextFlip + 1, u.seq) else none

/-- The unit that a free engine takes (assumption log 55). -/
def Ctl.nextUnit (c : Ctl) : Option DcUnit :=
  (c.dc.units.foldl (fun (b : Option (DcUnit × Nat × Nat)) u =>
    match c.rank u, b with
    | none, _ => b
    | some r, none => some (u, r)
    | some r, some q => if r.1 < q.2.1 || (r.1 = q.2.1 && decide (r.2 < q.2.2)) then some (u, r) else b) none).map Prod.fst

/-- A header or End unit is handled (04 R114, R115, R121; R147; assumption log 55). -/
def Ctl.dcControl (c : Ctl) (n ty : Nat) (raw : List Byte) : Ctl :=
  let x := c.ctx n
  match x.sh with
  | some s =>
    let c := c.updCtx n (fun x => { x with sh := none })
    if ty = 2 then c.dcHeaders n s (layerHdr raw) else c.dcOrder n
  | none =>
    if c.ctxState n = 0 then c
    else if x.needRap && ty ≠ 3 then c.dcOrder n
    else if ty = 1 then c.updCtx n (fun x => { x with sh := some (streamHdr raw) })
    else if c.ctxState n = 1 then c
    else if ty = 2 then c.dcOrder n
    else if ty = 3 then c.dcPicture n (pictureHdr raw)
    else c.setCtxState n 1

/-- A unit's octets in the input buffer are poisoned (14 R410, client 11; assumption log 63). -/
def DcUnit.bad (u : DcUnit) (m : Mem) : Bool := u.ext.any (fun e => m.poisoned e.1 e.2)

/-- ENGINE_DISPATCH (R151): a header takes 64 cycles. -/
def engineDispatch (e : Nat) (m : Mem) (c : Ctl) : Mem × Ctl :=
  if e > 3 || (c.eng e).out || (c.engUnit e).isSome then (m, c) else
  match c.nextUnit with
  | none => (m, c)
  | some u =>
    let c := u.ext.foldl (fun c x => c.readDram m 11 x.1 x.2) c
    if u.bad m then
      resolveCtx u.ctx m (c.dropUnits (fun v => v.seq = u.seq))
    else if u.ty = 4 then
      (m, c.setDc (fun d => { d with units := d.units.map (fun v => if v.seq = u.seq then { v with eng := some e } else v) }))
    else
      let c := (c.dropUnits (fun v => v.seq = u.seq)).updEng e (fun g => { g with busy := g.busy + 768 })
      resolveCtx u.ctx m (c.dcControl u.ctx u.ty (unitRaw (u.read m)))

/-- Octets of quarter `q` of a decoded coding block: its texels, 0 beyond the key view (R154). -/
def SliceEnv.blockOctets (e : SliceEnv) (s : DecSt) (cx cy q : Nat) : List Byte :=
  (List.range 1024).flatMap (fun i =>
    let x := 64 * cx + 32 * (q % 2) + i % 32
    let y := 64 * cy + 32 * (q / 2) + i / 32
    if x < e.w ∧ y < e.h then toLE 8 (e.texel s (x - 64 * e.hdr.x) (y - 64 * e.hdr.y)) else List.replicate 8 0)

/-- A decoded coding block goes to its surface when it lies in the window (R155). -/
def writeCb (n : Nat) (p : DcPic) (e : SliceEnv) (s : DecSt) (kk cx cy : Nat) (m : Mem) (c : Ctl) : Mem × Ctl :=
  let h := p.hdr
  if cx < h.x0 ∨ h.x1 ≤ cx ∨ cy < h.y0 ∨ h.y1 ≤ cy then (m, c) else
  [0, 1, 2, 3].foldl (fun (r : Mem × Ctl) q =>
    let bx := 2 * (cx - h.x0) + q % 2
    let by_ := 2 * (cy - h.y0) + q / 2
    let w := dramStore 2 (h.block p.buf kk bx by_) (e.blockOctets s cx cy q) r.1 r.2
    (w.1, w.2.updPic n p.id (fun p => { p with cov := updAt p.cov kk (fun v => v ||| 2 ^ (by_ * h.bw + bx)) }))) (m, c)

/-- Blocks of the window in the coding blocks `k` of a slice, as concealment work. -/
def sliceBlocks (n : Nat) (p : DcPic) (s : SliceHdr) (kk : Nat) (ks : List Nat) : List (Nat × Nat × Nat × Nat) :=
  let h := p.hdr
  ks.flatMap (fun k =>
    let cx := s.x + k % s.w
    let cy := s.y + k / s.w
    if cx < h.x0 ∨ h.x1 ≤ cx ∨ cy < h.y0 ∨ h.y1 ≤ cy then [] else
    ([0, 1, 2, 3].map (fun q => (n, p.id, kk, (2 * (cy - h.y0) + q / 2) * h.bw + 2 * (cx - h.x0) + q % 2))))

/-- Samples of a slice inside the key view (R143). -/
def sliceSamples (l : LayerHdr) (s : SliceHdr) : Nat := (min (64 * (s.x + s.w)) l.w - 64 * s.x) * (min (64 * (s.y + s.h)) l.h - 64 * s.y)

/-- A slice leaves its engine after at most `limit` coding blocks: what was decoded is stored (R153 to R155, R158, R164), then
`rest` says what becomes of the coding blocks that were not. Answers also whether a SYNTAX error ended it. -/
def sliceEnd (e limit : Nat) (u : DcUnit) (p : DcPic) (m : Mem) (c : Ctl) : Mem × Ctl × Nat × Bool :=
  let n := u.ctx
  let raw := unitRaw (u.read m)
  let s := sliceHdr raw
  let l := p.hdr.lay
  let kk := s.key - l.keyFirst
  let env : SliceEnv := ⟨l.w, l.h, l, s, p.qp, p.dqp, ctxInit p.hdr.str.inits⟩
  let r := env.decode (c.refSample m n p s) (fun comp => wordComp (c.fillWord n) comp l.depthBits) raw limit
  let d := r.2
  let q := (List.range r.1).foldl (fun (q : Mem × Ctl) k => writeCb n p env d kk (s.x + k % s.w) (s.y + k / s.w) q.1 q.2) (m, c)
  let c := q.2.readBursts m 3 d.reads
  let c := if d.ecc.isEmpty then c else c.markConcealed n p.id
  let h := p.hdr
  let outside := decide (s.x < h.x0) || decide (h.x1 < s.x + s.w) || decide (s.y < h.y0) || decide (h.y1 < s.y + s.h)
  let c := if outside || d.clamp then (c.updPic n p.id (fun p => { p with flags := setBit p.flags 2 true })).dcPost 0x2044 n else c
  let x := if (c.eng e).prev.any (fun v => v ≠ n) then 768 else 0
  let samples := if limit < s.w * s.h then 4096 * r.1 else sliceSamples l s
  let c := c.updEng e (fun g => { g with busy := g.busy + max (5 * samples) (6 * d.bins) + x, prev := some n })
  (q.1, c.dropUnits (fun v => v.seq = u.seq), r.1, d.err)

/-- SLICE_DECODE_DONE (R143, R158): a SYNTAX error conceals the blocks not yet written at once. -/
def sliceDone (e : Nat) (m : Mem) (c : Ctl) : Mem × Ctl :=
  match c.engUnit e with
  | none => (m, c)
  | some u =>
    match u.pic.bind (c.pic u.ctx) with
    | none => (m, c.dropUnits (fun v => v.seq = u.seq))
    | some p =>
      let s := sliceHdr u.head
      let total := s.w * s.h
      let r := sliceEnd e total u p m c
      if r.2.2.2 then
        let kk := s.key - p.hdr.lay.keyFirst
        let c := r.2.1.dcErr u.ctx 0x10
        let l := sliceBlocks u.ctx p s kk ((List.range (total - r.2.2.1)).map (· + r.2.2.1))
        let q := concealAll l r.1 c
        (q.1, (q.2.concealTime e l.length).spread u.ctx)
      else (r.1, (r.2.1.incE (ctxKey u.ctx 0x0B)).spread u.ctx)

/-! ### Cutoff, concealment, readiness (R156 to R163) -/

/-- The cutoff of frame G + 1 is due (R156). -/
def Ctl.cutDue (c : Ctl) : Bool :=
  c.tb.issuing && c.dc.cutFor ≠ some c.nextFlip && decide (tickD c.nextTick c.now ≤ tUs (c.e 0x300103))

/-- Slices of a frame that engines hold. -/
def Ctl.engSlices (c : Ctl) (f : Nat) : List (Nat × DcUnit × DcPic) :=
  (List.range 4).filterMap (fun e => match c.engUnit e with
    | some u => match u.pic.bind (c.pic u.ctx) with
      | some p => if p.cut = f then some (e, u, p) else none
      | none => none
    | none => none)

/-- The cutoff of frame `f`: engine `e` has finished `done e` coding blocks of its slice (R156; assumption log 62). -/
def dcCutoff (f : Nat) (done : List Nat) (m : Mem) (c : Ctl) : Mem × Ctl :=
  let q := (c.engSlices f).foldl (fun (q : Mem × Ctl) x =>
    let r := sliceEnd x.1 (done.getD x.1 0) x.2.1 x.2.2 q.1 q.2
    (r.1, (r.2.1.updPic x.2.1.ctx x.2.2.id (fun p => { p with flags := setBit p.flags 3 true })))) (m, c)
  let c := q.2.dropUnits (fun u => (u.pic.bind (q.2.pic u.ctx)).any (fun p => p.cut = f))
  let c := c.setDc (fun d => { d with cutFor := some c.nextFlip })
  let all := c.dc.ctxs.flatMap (fun x => (x.2.pics.filter (fun p => p.cut = f && p.busy)).map (fun p => (x.1, p)))
  all.foldl (fun (q : Mem × Ctl) x =>
    let n := x.1
    let p := x.2
    let h := p.hdr
    let owed := (List.range h.lay.keyCount).map (fun kk =>
      if bit p.recv kk then maskOf (h.blocks.filter (fun b => !bit (p.cov.getD kk 0) b)) else 0)
    let c := ((q.2.updPic n p.id (fun p => { p with owed := owed })).incE (ctxKey n 9)).spread n
    if bit p.flags 5 then (q.1, c) else
      (List.range h.lay.keyCount).foldl (fun q kk => (h.needed.filter (bit (owed.getD kk 0))).foldl (fun q b =>
        let x0 := 64 * h.x0 + 32 * (b % h.bw)
        let y0 := 64 * h.y0 + 32 * (b / h.bw)
        boundsUnknown f h.lay.slot (h.lay.keyFirst + kk) h.lay.w h.lay.h x0 y0 (min (x0 + 31) (h.lay.w - 1)) (min (y0 + 31) (h.lay.h - 1)) q.1 q.2) q) (q.1, c))
    (q.1, c)

/-- CUTOFF. -/
def cutoff (done : List Nat) (m : Mem) (c : Ctl) : Mem × Ctl := if c.cutDue then dcCutoff (c.nextFlip + 1) done m c else (m, c)

/-- Blocks that a picture owes in one block row of a key view of its slot. -/
def DcPic.owedRow (p : DcPic) (n k row : Nat) : List (Nat × Nat × Nat × Nat) :=
  let kk := k - p.hdr.lay.keyFirst
  if k < p.hdr.lay.keyFirst ∨ p.hdr.lay.keyCount ≤ kk ∨ p.hdr.bh ≤ row then [] else
  ((List.range p.hdr.bw).map (row * p.hdr.bw + ·)).filterMap (fun b => if bit (p.owed.getD kk 0) b then some (n, p.id, kk, b) else none)

/-- Blocks owed for a frame, in the order of R163: slot, context, key view, block row. -/
def Ctl.owedList (c : Ctl) (f : Nat) : List (Nat × Nat × Nat × Nat) :=
  (List.range 16).flatMap (fun s => c.dc.ctxs.flatMap (fun x =>
    let ps := x.2.pics.filter (fun p => p.cut = f && p.hdr.lay.slot = s)
    (List.range 16).flatMap (fun k => (List.range (maxOf (ps.map (fun p => p.hdr.bh)))).flatMap (fun row =>
      ps.flatMap (fun p => p.owedRow x.1 k row)))))

/-- CONCEAL_DONE (R163): the next `k` owed blocks of the frame are concealed (assumption log 62). -/
def concealDone (k : Nat) (m : Mem) (c : Ctl) : Mem × Ctl :=
  if c.dc.cutFor ≠ some c.nextFlip || c.dc.engs.all DcEng.out then (m, c) else
  let l := (c.owedList (c.nextFlip + 1)).take k
  let q := concealAll l m c
  (q.1, q.2.dc.ctxs.foldl (fun c x => c.spread x.1) (q.2.concealShared l.length))

/-- The readiness record of a context for a frame (R157; assumption log 62). -/
def Ctl.record (c : Ctl) (n f : Nat) (h : DcHdr) (p : Option DcPic) : DcRec :=
  let ready := match p with
    | some p => maskOf ((List.range p.hdr.lay.keyCount).filterMap (fun kk =>
        if bit p.recv kk && p.owed.getD kk 0 = 0 then some (p.hdr.lay.keyFirst + kk) else none))
    | none => 0
  let h := (p.map DcPic.hdr).getD h
  let _ := c
  { ctx := n, frame := f, slot := h.lay.slot, pic := p.map DcPic.id, order := (p.map DcPic.order).getD 0, flags := (p.map DcPic.flags).getD 0,
    ready := ready, w := h.lay.w, h := h.lay.h, c444 := h.lay.c444, keyFirst := h.lay.keyFirst,
    bases := (List.range h.lay.keyCount).map (fun kk => h.viewBase ((p.map DcPic.buf).getD 0) kk), bw := h.bw, bh := h.bh, tx := 2 * h.x0, ty := 2 * h.y0 }

/-- One context at flip `f` − 1: its record, and its pictures of the frame leave decode (assumption log 120). -/
def Ctl.dcHand (c : Ctl) (f n : Nat) : Ctl :=
  let x := c.ctx n
  let p := (aGet x.out f).bind (c.pic n)
  let incomplete := x.pics.any (fun p => p.cut = f && p.owed.any (fun v => v ≠ 0))
  let c := c.updCtx n (fun x => { x with
    pics := x.pics.map (fun p => if p.cut ≤ f then { p with busy := false } else p), out := x.out.filter (fun q => decide (f < q.1)) })
  let c := if incomplete then c.dcPost 0x2046 n else c
  match c.ctxState n, x.hdr with
  | 3, some h =>
    let r := c.record n f h p
    let c := c.setDc (fun d => { d with recs := d.recs ++ [r] })
    let late := x.pics.filter (fun q => q.busy && q.cut = f && bit q.flags 5)
    let c := match p, late.getLast? with
      | some p, _ => (c.setE (ctxKey n 0x0F) p.order).setE (ctxKey n 0x10) p.flags
      | none, some q => c.setE (ctxKey n 0x10) q.flags
      | none, none => c
    let all := maskOf ((List.range r.bases.length).map (· + r.keyFirst))
    if r.ready ≠ all then c.dcPost 0x2045 n else c
  | _, _ => c

/-- The decoder at flip `n` (R157, R163, R170): the cutoff if it has not run, the records of frame n + 1, ENGINE_LOAD. -/
def dcFlip (n : Nat) (m : Mem) (c : Ctl) : Mem × Ctl :=
  let q := if c.dc.cutFor = some n then (m, c) else dcCutoff (n + 1) [] m c
  let c := q.2.dc.ctxs.foldl (fun c x => c.dcHand (n + 1) x.1) q.2
  let c := (List.range 4).foldl (fun c e => c.setEa 0x3002 e (min 1000 ((c.eng e).busy * 65536 / 12 * 1000 / max 1 c.period))) c
  (q.1, c.setDc (fun d => { d with engs := d.engs.map (fun g => { g with busy := 0 }), posted := [] }))

/-- Readiness records that no descriptor names are released (07 R223 step 5). `keep` names them as context × 2^32 + picture. -/
def Ctl.releaseRecs (c : Ctl) (keep : List Nat) : Ctl :=
  let c := c.setDc (fun d => { d with recs := d.recs.filter (fun r => match r.pic with
    | some id => keep.contains (r.ctx * 2 ^ 32 + id)
    | none => false) })
  c.dc.ctxs.foldl (fun c x => c.dcFree x.1) c

/-! ### Activation and faults (R164 to R167) -/

/-- The decoder at an image activation: `old` is the part before the image's entries were loaded (R167; assumption log 120). -/
def Ctl.dcActivate (c old : Ctl) : Ctl :=
  let c := if c.e 0x300101 ≠ old.e 0x300101 || c.e 0x300102 ≠ old.e 0x300102 then (c.dropUnits (fun _ => true)).setDc (fun d => { d with wr := 0 }) else c
  (List.range 1024).foldl (fun c n =>
    let c := c.dcEnable n
    let changed := [3, 4, 5, 6].any (fun s => c.e (ctxKey n s) ≠ old.e (ctxKey n s))
    let fits := (c.ctx n).hdr.all (fun h => (c.plan h.lay.slot).cls = h.str.profile && decide (h.lay.keyFirst + h.lay.keyCount ≤ (c.plan h.lay.slot).keys))
    if c.ctxState n ≥ 1 && (changed || (decide (c.ctxState n ≥ 2) && !fits)) then c.setCtxState n 1 else c) c

/-- CONTEXT_ECC (R165; assumption log 120). -/
def Ctl.contextEcc (c : Ctl) (n : Nat) : Ctl :=
  let on := c.ctxState n ≠ 0
  let c := (c.dcPost 0x20C1 n).setE (ctxKey n 0x11) 0x13
  if on then (c.dcFlush n).setCtxState n 1 else c

/-- ENGINE_FAULT (R166): the engine goes OUT and another conceals what is left of its slice; where none is in service the blocks are left to the
cutoff (assumption log 62). -/
def engineFault (e done : Nat) (m : Mem) (c : Ctl) : Mem × Ctl :=
  if e > 3 || (c.eng e).out then (m, c) else
  let held := (c.engUnit e).bind (fun u => (u.pic.bind (c.pic u.ctx)).map (fun p => (u, p)))
  let q : Mem × Ctl := match held with
    | none => (m, c)
    | some (u, p) =>
      let s := sliceHdr u.head
      let r := sliceEnd e done u p m c
      match (List.range 4).find? (fun x => x ≠ e && !(c.eng x).out) with
      | none => (r.1, r.2.1)
      | some x =>
        let l := sliceBlocks u.ctx p s (s.key - p.hdr.lay.keyFirst) ((List.range (s.w * s.h - r.2.2.1)).map (· + r.2.2.1))
        let k := concealAll l r.1 r.2.1
        (k.1, (k.2.concealTime x l.length).spread u.ctx)
  let c := (q.2.updEng e (fun g => { g with out := true })).setEa 0x3003 e 1
  (q.1, ((c.orReg .dcEngineStatus 0 8 e).unitOut 0x20 e).post 0x20C2 [i8 e])

/-- An engine returns to service (20 R560). -/
def Ctl.engineBack (c : Ctl) (e : Nat) : Ctl := (c.updEng e (fun g => { g with out := false, prev := none })).setEa 0x3003 e 0

/-- The decode island's work in progress is discarded at its reset (20 R553). -/
def Ctl.dcAbort (c : Ctl) : Ctl := c.dropUnits (fun u => u.eng.isSome)

/-- CTX_CLEAR (R171). -/
def Ctl.ctxClear (c : Ctl) (n : Nat) : Ctl := [9, 0x0A, 0x0B, 0x0C, 0x0D, 0x0E, 0x11].foldl (fun c s => c.setE (ctxKey n s) 0) c

/-! ### The commands -/

/-- UNIT_ARRIVAL. -/
def execUnitArrival (dt : Nat) (s : State) : Host.Outcome State Fault Refusal := runM (fun m c => unitArrival m (c.advance dt)) s
/-- ENGINE_DISPATCH. -/
def execEngineDispatch (dt engine : Nat) (ue : List DramErr) (s : State) : Host.Outcome State Fault Refusal :=
  runM (fun m c => engineDispatch engine (m.found ue) (c.advance dt)) s
/-- SLICE_DECODE_DONE. -/
def execSliceDecodeDone (dt engine : Nat) (ue : List DramErr) (s : State) : Host.Outcome State Fault Refusal :=
  runM (fun m c => sliceDone engine (m.found ue) (c.advance dt)) s
/-- CUTOFF. -/
def execCutoff (dt : Nat) (done : List Nat) (s : State) : Host.Outcome State Fault Refusal := runM (fun m c => cutoff done m (c.advance dt)) s
/-- CONCEAL_DONE. -/
def execConcealDone (dt blocks : Nat) (ue : List DramErr) (s : State) : Host.Outcome State Fault Refusal :=
  runM (fun m c => concealDone blocks (m.found ue) (c.advance dt)) s
/-- CONTEXT_ECC. -/
def execContextEcc (dt ctx : Nat) (s : State) : Host.Outcome State Fault Refusal := runC (fun c => (c.advance dt).contextEcc (ctx % 1024)) s
/-- ENGINE_FAULT. -/
def execEngineFault (dt engine done : Nat) (s : State) : Host.Outcome State Fault Refusal := runM (fun m c => engineFault engine done m (c.advance dt)) s
/-- CTX_CLEAR. -/
def execCtxClear (dt ctx : Nat) (s : State) : Host.Outcome State Fault Refusal := runC (fun c => (c.advance dt).ctxClear (ctx % 1024)) s
/-- DC_CTX_SEL_WRITE. -/
def execDcCtxSelWrite (dt value : Nat) (s : State) : Host.Outcome State Fault Refusal :=
  runC (fun c => (c.advance dt).setReg .dcCtxSel 0 0 (value % 1024)) s

end Sys2Proof.Machine
end

