-- ==== Sys2Proof/Machine/RingOps.lean ====
section
/-! DEFINITION. Ring transport's own operations (12 R353 to R377, 01 R20 to R27): lane maps in force, KEEP, the side channel, roles and
enumeration. Ports are 0 East and 1 West. Serial lanes and the commands build on them. -/
namespace Sys2Proof.Machine

/-! ### Accessors -/

/-- LANE_STATE of a lane (11 R351). -/
def Ctl.laneSt (c : Ctl) (l : Nat) : Nat := c.ea 0x2010 l
/-- Set LANE_STATE; PORT_LANES shows the ring lanes that are UP (11 R351). -/
def Ctl.setLaneSt (c : Ctl) (l st : Nat) : Ctl :=
  let c := c.setEa 0x2010 l st
  if l < 18 then c.setEa 0x2003 (l / 9) (maskOf ((List.range 9).filter (fun n => c.laneSt (9 * (l / 9) + n) = 2))) else c
/-- The partner of a port is a feeder (11 R328). -/
def Ctl.facesFeeder (c : Ctl) (p : Nat) : Bool := c.ea 0x2004 p = 1
/-- The partner of a port is a part. -/
def Ctl.facesPart (c : Ctl) (p : Nat) : Bool := c.ea 0x2004 p = 0

/-! ### Lane maps (03 R79, R80, 12 R368) -/

/-- FAILED_SET in force. -/
def Ctl.failedSet (c : Ctl) (p : Nat) (tx : Bool) : Nat := bits (c.ea (mapIdx tx) p) 8 0
/-- BASE in force, 15 for none. -/
def Ctl.mapBase (c : Ctl) (p : Nat) (tx : Bool) : Nat := bits (c.ea (mapIdx tx) p) 15 12
/-- The active image's lane maps. -/
def Ctl.maps (c : Ctl) : List LaneMap := if c.hasImage then laneMaps (imgSec c.img 5) else []
/-- The direction code of a lane map (R79). -/
def mapDir (p : Nat) (tx : Bool) : Nat := if tx then p + 2 else p
/-- The NORMAL map; without an image stripe k is on lane k and lane 8 is the spare (assumption log 50). -/
def Ctl.normal (c : Ctl) (p : Nat) (tx : Bool) : LaneMap :=
  (normalMap c.maps (mapDir p tx)).getD ⟨mapDir p tx, 0, 0xFF, 8, List.range 8⟩
/-- This part's own mask of a MAPS message: bit n for an ACTIVE_LANE_LOST map of lane n, bit 15 for SPARE_LOST (R367; assumption log 50). -/
def Ctl.mapsMask (c : Ctl) (p : Nat) (tx : Bool) : Nat :=
  maskOf ((c.maps.filter (fun m => m.dir = mapDir p tx && m.kind ≠ 0)).map (fun m => if m.kind = 1 then m.failed else 15))
/-- The maps that both ends hold for a direction (assumption log 50). -/
def Ctl.bothMask (c : Ctl) (p : Nat) (tx : Bool) : Nat :=
  c.mapsMask p tx &&& (if tx then (c.rgPort p).partnerMaps.2 else (c.rgPort p).partnerMaps.1)

/-- BASE that the transmitter chooses for a FAILED_SET (R368). A port whose spare is in TEST has no spare (11 R349). -/
def Ctl.chooseBase (c : Ctl) (p want : Nat) : Nat :=
  let both := c.bothMask p true
  let spare := (c.normal p true).spare
  let failed := if c.laneSt (9 * p + spare) = 5 then want ||| 2 ^ spare else want
  let cur := c.mapBase p true
  if bit failed spare then (if bit both 15 then spare else 15)
  else if cur < 9 && bit failed cur && bit both cur then cur
  else ((List.range 9).find? (fun n => bit failed n && bit both n)).getD 15

/-- Physical lanes of the stripes that run, in rising order of stripe: the map of BASE without the lanes of FAILED_SET (R368). -/
def Ctl.stripeLanes (c : Ctl) (p : Nat) (tx : Bool) (failed base : Nat) : List Nat :=
  let m := c.normal p tx
  let st := if base < 9 && base ≠ m.spare then m.stripe.map (fun x => if x = base then m.spare else x) else m.stripe
  st.filter (fun x => !bit failed x)

/-- The lanes in force of a direction. -/
def Ctl.lanesInForce (c : Ctl) (p : Nat) (tx : Bool) : List Nat := c.stripeLanes p tx (c.failedSet p tx) (c.mapBase p tx)

/-- Layout of RG_RX_MAP and RG_TX_MAP (R377). -/
def mapWord (lock : Bool) (a base failed : Nat) : Nat := b2n lock * 2 ^ 20 + a * 65536 + base * 4096 + failed
/-- A direction's map and stripe count are set; what the egress FIFO has sent till now left at the old count. -/
def Ctl.setMap (c : Ctl) (p : Nat) (tx : Bool) (failed base : Nat) : Ctl :=
  let c := if tx then c.drainPort p else c
  let lock := if tx then c.portUp p else (c.rgPort p).lock
  let a := if c.portUp p then (c.stripeLanes p tx failed base).length else 0
  c.setEa (mapIdx tx) p (mapWord lock a base failed)

/-! ### Events at most once per frame period per port (R375) -/

/-- A warning or error of ring transport; port 2 stands for the part as a whole. Its bit of RG_EVENTS says that it occurred (R377), posted or
not. -/
def Ctl.ringWarn (c : Ctl) (code p : Nat) (items : List (Nat × Nat)) : Ctl :=
  let k := (code, p, c.nextFlip)
  if c.rg.posted.contains k then c.eventBit code else
  (c.setRg (fun r => { r with posted := (r.posted.filter (fun x => x.2.2 = k.2.2)) ++ [k] })).post code items

/-! ### KEEP (R372, R373) -/

/-- KEEP[a] of the active image; all slots without one (assumption log 52). -/
def Ctl.keepFor (c : Ctl) (a : Nat) : Nat := if c.hasImage && decide (1 ≤ a) && decide (a ≤ 8) then prioKeep (imgSec c.img 8) a else 0xFFFF

/-- KEEP_IN of a transmit direction (R372; assumption log 52). -/
def Ctl.keepIn (c : Ctl) (p : Nat) : Nat :=
  if c.portUp (1 - p) && !c.facesFeeder (1 - p) then (c.rgPort (1 - p)).keepRx else 0xFFFF

/-- The part's own KEEP (R373; assumption log 52). -/
def Ctl.ownKeep (c : Ctl) : Nat :=
  let ups := (List.range 2).filter c.portUp
  if ups.isEmpty then 0xFFFF else ups.foldl (fun a p => a ||| (c.rgPort p).keepRx) 0

/-- KEEP_IN, KEEP_OUT and the part's KEEP follow; a change of KEEP is reported. -/
def Ctl.refreshKeep (c : Ctl) : Ctl :=
  let c := (List.range 2).foldl (fun c p => (c.setEa 0x2112 p (c.keepIn p)).setEa 0x2113 p (c.keepFor (c.stripes p true) &&& c.keepIn p)) c
  let was := c.e 0x210007
  let k := c.ownKeep
  let c := c.setE 0x210007 k
  let c := if was &&& k ≠ was then c.ringWarn 0x1143 2 [i16 k] else c
  if was &&& k ≠ k then c.post 0x1104 [i16 k] else c

/-! ### The side channel (R367) -/

/-- A message is addressed to this part (R367). -/
def Ctl.sideMine (c : Ctl) (dst : Nat) : Bool := dst = 0xFE || dst = 0xFD || (decide (dst < 64) && dst = c.e 0x210003)
/-- A message goes on in its direction. -/
def Ctl.sideOn (c : Ctl) (dst : Nat) : Bool := !(dst = 0xFE || (decide (dst < 64) && dst = c.e 0x210003))
/-- A message that came on `port` goes out of the other port. -/
def Ctl.sidePass (c : Ctl) (port ty dst src : Nat) (body : List Byte) : Ctl :=
  if c.sideOn dst then c.sideQueue (1 - port) port ty dst (sideMsg ty dst src body) else c

/-- MAPS to the link partner (R367, R371): the masks of the transmit and the receive direction. -/
def Ctl.sendMaps (c : Ctl) (p : Nat) : Ctl := c.sideSend p 3 0xFE (toLE 2 (c.mapsMask p true) ++ toLE 2 (c.mapsMask p false))

/-! ### Map changes (R368, R369) -/

/-- A change of the transmit map is asked: a waiting one takes the lanes too (R369); a failure of a lane to be readmitted cancels its
readmission (R370). -/
def Ctl.askChange (c : Ctl) (p add : Nat) : Ctl :=
  c.setRgPort p (fun q => { q with
    change := some ⟨((q.change.map MapChange.failed).getD (c.failedSet p true)) ||| add, ((q.change.map MapChange.askedAt).getD c.up)⟩,
    readmit := q.readmit.filter (fun r => !bit add r.1) })

/-- A set is in force in one direction: MAP_SWITCHED (direction 0 receive, 1 transmit), and the lanes readmitted. -/
def Ctl.switchMap (c : Ctl) (p : Nat) (tx : Bool) (failed base : Nat) : Ctl :=
  let back := c.failedSet p tx &&& (511 - failed % 512)
  let c := (c.setMap p tx failed base).incEa 0x211B p
  let c := c.post 0x1102 [i8 p, i8 (b2n tx), i32 (c.ea (mapIdx tx) p)]
  (bitsOf 9 back).foldl (fun c n => c.post 0x1103 [i8 p, i8 n]) c

/-- A transmit direction that runs with fewer than 8 stripes says so (R373; assumption log 51). -/
def Ctl.linkReduced (c : Ctl) (p was : Nat) : Ctl :=
  let a := c.stripes p true
  if a < 8 && a ≠ was then c.post 0x11C1 [i8 p, i8 1, i8 a] else c

/-- The FIELD bits of POS 0 to 2 of a frame (R356): KEEP, then FIRST unknown and MAP_CD and FEC, then FAILED_SET and BASE. -/
def frameFields (keep cd code failed base : Nat) : List Nat :=
  [keep * 65536, 0x3FF * 4194304 + cd * 1048576 + b2n (decide (4 ≤ code)) * 524288, failed * 8388608 + base * 524288]

/-- A spare in QUIET that a map takes for a stripe wakes (11 R345). -/
def Ctl.wakeSpare (c : Ctl) (p : Nat) (taken : List Nat) : Ctl :=
  taken.foldl (fun c n => if c.ea 0x2011 (9 * p + n) = 1 then c.setEa 0x2011 (9 * p + n) 0 else c) c

/-- The transmitter's set changes (R369 steps 4 and 5, R373): MAP_CD 3, 2 and 1 leave in three frames, whose FIELD bits of POS 0 to 2 stand in
`wire` (FIRST of those frames: assumption log 57). A spare that rests in QUIET wakes for its stripe (11 R345). -/
def Ctl.switchTx (c : Ctl) (p failed : Nat) : Ctl :=
  let base := c.chooseBase p failed
  let was := c.stripes p true
  let c := c.emit { kind := .mapCd, a := p, b := failed, c := base,
                    wire := [3, 2, 1].flatMap (fun cd => frameFields (c.ea 0x2113 p) cd (c.rgPort p).code failed base) }
  let c := c.wakeSpare p (c.stripeLanes p true failed base)
  ((c.switchMap p true failed base).refreshKeep).linkReduced p was

/-- MAP_REQ to the link partner: the FAILED_SET asked of its transmit direction (R367, R370). -/
def Ctl.sendMapReq (c : Ctl) (p failed : Nat) (readmit : Bool) : Ctl :=
  let id := (c.rgPort p).nextReq
  let c := c.setRgPort p (fun q => { q with nextReq := (id + 1) % 256, reqs := q.reqs ++ [⟨id, failed, readmit, c.up⟩] })
  c.sideSend p 4 0xFE (toLE 2 failed ++ [byteOf (b2n readmit), byteOf id])

/-- The FAILED_SET that this part has asked of its partner: the receive set with the requests that wait. -/
def Ctl.rxWanted (c : Ctl) (p : Nat) : Nat := (c.rgPort p).reqs.foldl (fun m r => if r.readmit then m else m ||| r.failed) (c.failedSet p false)

/-! ### Roles and enumeration (01 R20 to R27, 12 R363) -/

/-- RING_ROLE (R22). Without a West neighbour the table names no role: NONE. -/
def Ctl.roleNow (c : Ctl) : Nat :=
  let cfg := c.e 0x210001
  let wp := c.facesPart 1
  if cfg = 2 then 2
  else if cfg = 1 then (if wp then 2 else 1)
  else if wp then (if c.facesFeeder 0 then 3 else 2)
  else if c.facesFeeder 1 then 1
  else 0

/-- The role follows the neighbours; a forced HEAD with a part to the West is reported once. -/
def Ctl.showRole (c : Ctl) : Ctl :=
  let bad := c.e 0x210001 = 1 && c.facesPart 1
  let c := if bad && !c.rg.roleConflict then c.post 0x1142 [] else c
  (c.setRg (fun r => { r with roleConflict := bad })).setE 0x210002 c.roleNow

/-- The mask of one direction for the tile indices of its parts (R363). -/
def maskFor (tiles : List Nat) : Nat :=
  if tiles.contains 0xFF then 2 ^ 128 - 1 else maskOf (tiles.filter (· < 128))

/-- The downstream masks (R363): by the last enumeration, every bit but the part's own before it, all bits without an image. -/
def Ctl.downMask (c : Ctl) (east : Bool) : Nat :=
  if c.tileIndex = 0xFF then 2 ^ 128 - 1 else
  match if east then c.rg.downEast else c.rg.downWest with
  | some m => m
  | none => 2 ^ 128 - 1 - 2 ^ c.tileIndex

/-- DOWNSTREAM_EAST and DOWNSTREAM_WEST show the masks. -/
def Ctl.showMasks (c : Ctl) : Ctl :=
  (c.setEv 0x210008 (.oct (toLE 16 (c.downMask true)))).setEv 0x210009 (.oct (toLE 16 (c.downMask false)))

/-- Two positions that carry the same tile index (R24). -/
def dupTiles (ts : List Nat) : List (Nat × Nat) :=
  (List.range ts.length).flatMap (fun i => ((List.range ts.length).filter (fun j =>
    decide (i < j) && ts.getD i 0 = ts.getD j 0 && decide (ts.getD i 0 < 128))).map (fun j => (i, j)))

/-- The tile indices and CLOSED of an ENUM_DONE (R23 to R25, R363). -/
def Ctl.enumDone (c : Ctl) (tiles : List Nat) (closed : Nat) : Ctl :=
  if !c.cpaUp then c else
  let pos := c.e 0x210003
  let c := ((c.setE 0x210004 tiles.length).setE 0x210006 closed).setRg (fun r => { r with
    tileIndices := tiles, enumerated := true,
    downEast := some (maskFor (tiles.drop (pos + 1))), downWest := some (maskFor (tiles.take pos)) })
  let c := c.showMasks
  if c.e 0x210002 ≠ 1 || !c.rg.enumerating then c else
  let c := (c.setRg (fun r => { r with enumerating := false })).post 0x1101 [i8 tiles.length, i8 closed]
  let c := if tiles.length > 1 && closed = 0 then c.post 0x1141 [] else c
  (dupTiles tiles).foldl (fun c q => c.post 0x1181 [i8 q.1, i8 q.2]) c

/-- The part takes its position and passes ENUM East, or, as the last part, returns ENUM_DONE West (R23, R367). -/
def Ctl.enumPass (c : Ctl) (tiles : List Nat) : Ctl :=
  if !c.cpaUp then c else
  let ts := tiles ++ [c.tileIndex]
  let c := c.setE 0x210003 (ts.length - 1)
  let body := ts.map byteOf
  if c.portUp 0 && c.facesPart 0 then c.sideSend 0 1 0xFE body
  else
    let closed := b2n (c.portUp 0 && c.facesFeeder 0)
    (c.sideSend 1 2 0xFD (body ++ [byteOf closed])).enumDone ts closed

/-- The head enumerates; a cause during a running enumeration asks for one more (R23; assumption log 56; assumption log 110). -/
def Ctl.enumerate (c : Ctl) : Ctl :=
  if c.e 0x210002 ≠ 1 then c else
  if !c.cpaUp then c.setRg (fun r => { r with enumWanted := some (r.enumWanted.getD c.tileIndex) }) else
  if c.rg.enumerating then c.setRg (fun r => { r with enumAgain := true }) else
  (c.setRg (fun r => { r with enumerating := true, enumAgain := false })).enumPass []

/-- The further enumeration that follows. -/
def Ctl.enumFollow (c : Ctl) : Ctl := if c.rg.enumAgain && !c.rg.enumerating then c.enumerate else c

/-- WALL_TILE_INDEX changed at an activation flip (R23): the head enumerates, another part tells the head. -/
def Ctl.tileChanged (c : Ctl) (was : Nat) : Ctl :=
  let c := c.showMasks
  if c.tileIndex = was then c
  else if c.e 0x210002 = 1 then c.enumerate.enumFollow
  else if !c.cpaUp then c.setRg (fun r => { r with enumWanted := some (r.enumWanted.getD was) })
  else c.sideSend (if c.portUp 1 then 1 else 0) 0x0A 0 [byteOf was, byteOf c.tileIndex]

/-- What was met while CP-A was stopped is done after its restart (01 R23, 18 R497). -/
def Ctl.enumCatchUp (c : Ctl) : Ctl :=
  match c.rg.enumWanted with
  | none => c
  | some was =>
    let c := c.setRg (fun r => { r with enumWanted := none })
    if c.e 0x210002 = 1 then c.enumerate.enumFollow else c.tileChanged was

/-- The first enumeration of the head (R23): one of its ports is up, and the other is up, disabled, in Brumation, or has failed its training and
so faces no part that could be enumerated (assumption log 56). -/
def Ctl.enumSettled (c : Ctl) : Ctl :=
  let settled := fun (p : Nat) => c.portUp p || c.ea 0x2001 p = 0 || [4, 6, 7].contains (c.ln.ports.getD p {}).stage
  if c.e 0x210002 = 1 && !c.rg.enumerated && !c.rg.enumerating && (c.portUp 0 || c.portUp 1) && settled 0 && settled 1 then c.enumerate.enumFollow
  else c

/-! ### A port comes up and goes down -/

/-- Ring transport takes a port over (11 R333): the lanes that passed carry the stripes; the rest are in FAILED_SET, and a direction
that starts with fewer than 8 stripes says so (R373; assumption log 51). -/
def Ctl.ringUp (c : Ctl) (p code mask : Nat) : Ctl :=
  let c := c.setRgPort p (fun q => { up := true, code := code, nextReq := q.nextReq, drainAt := c.up })
  let failed := 511 - mask % 512
  let c := (c.setMap p true failed 15).setMap p false failed 15
  let c := (c.showRole.refreshKeep).sendMaps p
  (c.linkReduced p 0).enumSettled

/-- A port leaves ring transport: maps NORMAL, no stripes. -/
def Ctl.ringDown (c : Ctl) (p : Nat) : Ctl :=
  if !c.portUp p then c else
  let c := c.setRgPort p (fun q => { nextReq := q.nextReq })
  let c := ((c.setEa 0x2111 p 0xF000).setEa 0x2110 p 0xF000).setEa 0x2002 p 0xFF
  c.refreshKeep

end Sys2Proof.Machine
end

