-- ==== Sys2Proof/Machine/Palette.lean ====
section
/-! DEFINITION. Palette's commands and its work at a flip (07 R220 to R228), and Glaze's copies (07 R235). -/
namespace Sys2Proof.Machine

/-! ### Ingest rows (R220 to R222) -/

/-- Key views that a DECODED slot's pictures of a frame carry: key, context, picture, carried key view (assumption log 96). -/
def Ctl.ingestKeys (c : Ctl) (s f : Nat) : List (Nat × Nat × DcPic × Nat) :=
  (List.range 16).flatMap (fun k => c.dc.ctxs.filterMap (fun x =>
    match (aGet x.2.out f).bind (c.pic x.1) with
    | some p =>
      let l := p.hdr.lay
      if l.slot = s && decide (l.keyFirst ≤ k) && decide (k < l.keyFirst + l.keyCount) then some (k, x.1, p, k - l.keyFirst) else none
    | none => none))

/-- Output rows of a pass in all. -/
def Ctl.passRows (c : Ctl) (s f : Nat) : Nat := (if c.src s = 2 then 1 else (c.ingestKeys s f).length) * (c.plan s).h

/-- One texel of a decoder surface for the scaler. -/
def decodedTexel (m : Mem) (p : DcPic) (kk : Nat) (x y : Int) : Nat :=
  let h := p.hdr
  if x < 64 * h.x0 ∨ 64 * h.x1 ≤ x ∨ y < 64 * h.y0 ∨ 64 * h.y1 ≤ y then Config.offWindow x y else ofLE (m.read (h.texel p.buf kk x.toNat y.toNat) 8)

/-- Blocks of a decoder's window that a rectangle of the key view meets. -/
def spanBlocks (h : DcHdr) (x y : Int × Int) : List Nat :=
  (List.range (h.bw * h.bh)).filter (fun b =>
    let bx : Int := (64 * h.x0 + 32 * (b % h.bw) : Nat)
    let by_ : Int := (64 * h.y0 + 32 * (b / h.bw) : Nat)
    decide (bx ≤ x.2) && decide (x.1 ≤ bx + 31) && decide (by_ ≤ y.2) && decide (y.1 ≤ by_ + 31))

/-- Source rows `lo` to `hi` in a pass's line buffer: rows that it holds stand as they were read, the others are read now (R221; assumption log 96). -/
def linesFor (old : List (Nat × List Nat)) (lo hi : Nat) (x : Int × Int) (get : Int → Int → Nat) : List (Nat × List Nat) :=
  (List.range (hi + 1 - lo)).map (fun j =>
    (lo + j, (aGet old (lo + j)).getD ((List.range (x.2 - x.1 + 1).toNat).map (fun (i : Nat) => get (x.1 + (i : Int)) ((lo + j : Nat) : Int)))))

/-- A texel of the line buffer. -/
def lineTexel (l : List (Nat × List Nat)) (x0 : Int) (x y : Int) : Nat := ((aGet l y.toNat).getD []).getD (x - x0).toNat 0

/-- The scaled row `v` of a slot into buffer address `base`: the source texels, the crop (assumption log 96). -/
def scaleRow (p : SlotPlan) (taps base v : Nat) (q : Nat × Nat × Nat × Nat) (get : Int → Int → Nat) (m : Mem) : Mem :=
  (List.range p.tw).foldl (fun m' bx =>
    m'.store (blockTexel base p.tw (32 * bx) v)
      ((List.range (min 32 (p.w - 32 * bx))).flatMap (fun i => toLE 8 (scaleTexel get q taps p.w p.h (32 * bx + i) v)))) m

/-- A row that read a poisoned burst stops its pass (14 R410, client 5). -/
def rowFails (ranges : List (Nat × Nat)) (s : Nat) (m : Mem) (c : Ctl) : Ctl :=
  (ranges.foldl (fun c r => c.readDram m 5 r.1 r.2) c).updPl s (fun x => { x with pass := x.pass.map (fun p => { p with failed := true }) })

/-- INGEST_ROW_START (R221): the next output row of a slot's pass. -/
def ingestRow (s : Nat) (m : Mem) (c : Ctl) : Mem × Ctl :=
  match (c.plSlot s).pass with
  | none => (m, c)
  | some ps =>
    let p := c.plan s
    let rows := c.passRows s ps.frame
    if ps.failed || ps.done || ps.row ≥ rows || p.h = 0 || ps.frame ≠ c.nextFlip + 1 then (m, c) else
    let taps := c.ea 0x4214 s
    let v := ps.row % p.h
    let b := 1 - (c.plSlot s).buf
    let spans := fun (q : Nat × Nat × Nat × Nat) =>
      (((axisSpan (bits taps 3 0) q.2.2.1 p.w q.1 0 (p.w - 1)), (axisSpan (bits taps 7 4) q.2.2.2 p.h q.2.1 v v)) : (Int × Int) × (Int × Int))
    let old := if v = 0 then [] else ps.lines
    let finish := fun (kk : Nat) (q : Nat × Nat × Nat × Nat) (ranges : List (Nat × Nat)) (sp : (Int × Int) × (Int × Int)) (get : Int → Int → Nat) =>
      let c := c.setEa 0x4221 s (sp.2.2.toNat % 65536)
      if ranges.any (fun r => m.poisoned r.1 r.2) then (m, rowFails ranges s m c) else
      let c := ranges.foldl (fun c r => c.readDram m 5 r.1 r.2) c
      let out := c.scaledBase s b kk
      let c := (List.range p.tw).foldl (fun c bx => c.writeDram m 5 (blockTexel out p.tw (32 * bx) v) (8 * min 32 (p.w - 32 * bx))) c
      let lines := linesFor old sp.2.1.toNat sp.2.2.toNat sp.1 get
      (scaleRow p taps (c.scaledBase s b kk) v q (lineTexel lines sp.1.1) m,
        c.updPl s (fun x => { x with pass := some { ps with row := ps.row + 1, lines := lines } }))
    if c.src s = 2 then
      let sz := c.ea 0x4217 s
      let q := c.cropAt s (bits sz 15 0) (bits sz 31 16)
      let sp := spans q
      let base := c.ea 0x4215 s
      let pitch := c.ea 0x4216 s
      let x0 := pixelAt p.fmt sp.1.1.toNat
      let x1 := pixelAt p.fmt sp.1.2.toNat
      let news := ((List.range (sp.2.2 - sp.2.1 + 1).toNat).map (fun j => sp.2.1.toNat + j)).filter (fun y => (aGet old y).isNone)
      let ranges := news.map (fun y => (base + pitch * y + x0.1, x1.1 + x1.2 - x0.1))
      finish 0 q ranges sp (fun x y => surfTexel m p.fmt base pitch (c.ea 0x4219 s) x.toNat y.toNat)
    else
      match (c.ingestKeys s ps.frame)[ps.row / p.h]? with
      | none => (m, c)
      | some (k, _, pic, kk) =>
        let h := pic.hdr
        let q := c.cropAt s h.lay.w h.lay.h
        let sp := spans q
        let bs := spanBlocks h sp.1 sp.2
        if !bs.all (bit (pic.cov.getD kk 0)) then (m, c) else
        let ranges := bs.map (fun x => (h.block pic.buf kk (x % h.bw) (x / h.bw), 8192))
        finish k q ranges sp (fun x y => decodedTexel m pic kk x y)

/-- INGEST_PASS_DONE (R222): `ecc` is an uncorrectable line-buffer error. -/
def Ctl.ingestDone (c : Ctl) (s : Nat) (ecc : Bool) : Ctl :=
  match (c.plSlot s).pass with
  | none => c
  | some ps =>
    if ps.failed || ps.done then c
    else if ecc then (c.updPl s (fun x => { x with pass := some { ps with failed := true } })).post 0x32C1 [i8 s]
    else if ps.row = c.passRows s ps.frame && decide (ps.row ≠ 0) then c.updPl s (fun x => { x with pass := some { ps with done := true } })
    else c

/-! ### Frame states (R223, R224) -/

/-- Key views that the view table assigns to a slot (02 R65). -/
def assignedKeys (g : List Byte) (s : Nat) : Nat :=
  (List.range (imgBanks g)).foldl (fun a b => (List.range (min 256 (imgVx g * imgVy g))).foldl (fun a v => a ||| 2 ^ viewKey (viewEnt g b v) s) a) 0

/-- The readiness records of a slot for a frame. -/
def Ctl.slotRecs (c : Ctl) (s f : Nat) : List DcRec := c.dc.recs.filter (fun r => r.slot = s && r.frame = f)

/-- A DECODED slot's chroma does not match its FORMAT (R212): that of a context with a record for the frame, or of one that has accepted its
headers and waits for a RAP picture (05 R148). -/
def Ctl.chromaBad (c : Ctl) (s f : Nat) : Bool :=
  let fmt := (c.plan s).fmt
  let bad := fun (c444 : Bool) => c444 ≠ decide (fmt = 1 ∨ fmt = 3)
  (c.slotRecs s f).any (fun r => bad r.c444) ||
    c.dc.ctxs.any (fun x => c.ctxState x.1 = 2 && x.2.hdr.any (fun h => h.lay.slot = s && bad h.lay.c444))

/-- Every key view that the view table assigns is READY (R223). -/
def Ctl.keysReady (c : Ctl) (s f : Nat) : Bool :=
  let rs := c.slotRecs s f
  let have_ := rs.foldl (fun a r => a ||| r.ready) 0
  let need := if (c.plan s).cls = 1 then assignedKeys c.img s else 1
  !rs.isEmpty && decide (have_ &&& need = need)

/-- The slot's content of the frame is taken directly, as its ingest found (R213, R214). -/
def Ctl.slotDirect (c : Ctl) (s f : Nat) : Bool := c.src s = 1 && (c.plSlot s).directFor = some f

/-- The slot's pass for the frame has completed. -/
def Ctl.passDone (c : Ctl) (s f : Nat) : Bool := (c.plSlot s).pass.any (fun p => p.frame = f && p.done)

/-- The slot is ready for frame `f` (R223). -/
def Ctl.slotReady (c : Ctl) (s f : Nat) : Bool :=
  if c.src s = 2 then c.passDone s f
  else c.src s = 1 && !c.chromaBad s f && c.keysReady s f && (c.slotDirect s f || c.passDone s f)

/-- The descriptor of frame `f`'s own surface. -/
def Ctl.freshDesc (c : Ctl) (s f : Nat) : PlDesc :=
  let rs := c.slotRecs s f
  let conc := rs.any (fun r => bit r.flags 0)
  let p := c.plan s
  if c.slotDirect s f && c.src s = 1 then
    { sampled := true, conc := conc,
      keys := rs.flatMap (fun r => (List.range r.bases.length).map (fun kk => ⟨r.keyFirst + kk, r.bases.getD kk 0, r.bw, r.bh, r.tx, r.ty⟩)),
      recs := rs.filterMap (fun r => r.pic.map (fun id => r.ctx * 2 ^ 32 + id)) }
  else
    { sampled := true, conc := conc,
      keys := (List.range p.keys).map (fun kk => ⟨kk, c.scaledBase s (1 - (c.plSlot s).buf) kk, p.tw, p.th, 0, 0⟩), recs := [] }

/-- LAYER_STATE, HELD_COUNT and LAYER_FLAGS of a slot. -/
def Ctl.showLayer (c : Ctl) (s st held flags : Nat) : Ctl := ((c.setEa 0x421C s st).setEa 0x421D s held).setEa 0x421E s flags

/-- Palette gives one slot its state for frame `f` (R223, R224, R225); answers its descriptor (assumption log 96). -/
def Ctl.settleSlot (c : Ctl) (s f keep : Nat) : Ctl × PlDesc :=
  let x := c.plSlot s
  if !c.usedSlot s then ((c.showLayer s 0 (c.ea 0x421D s) 0), {}) else
  let held := c.ea 0x421D s
  let limit := x.limitFor = some f
  let chroma := c.src s = 1 && c.chromaBad s f
  let late := x.pass.any (fun p => p.frame = f && !p.done) && !limit
  let base := 4 * b2n limit + 8 * b2n chroma + 32 * b2n late
  let c := if chroma then c.plPost 0x3247 s [] else c
  let c := if late then c.plPost 0x3246 s [] else c
  let ends := fun (c : Ctl) => c.updPl s (fun y => { y with run := false })
  if c.src s = 0 || !bit keep s then ((ends c).showLayer s 3 held (base + if bit keep s then 0 else 16), {})
  else if c.slotReady s f && !limit then
    let d := c.freshDesc s f
    let c := c.updPl s (fun y => { y with held := some d, run := false, expired := false, buf := if d.recs.isEmpty then 1 - y.buf else y.buf })
    let c := if d.conc then c.incEa 0x4220 s else c
    (c.showLayer s 1 0 (base + 2 * b2n d.conc), d)
  else
    let hold := c.ea 0x4211 s = 0 || limit
    match x.held with
    | some d =>
      if hold && !x.expired && decide (held < c.ea 0x4212 s) then
        let c := c.setReg .plEvents 0 0 1
        let c := if x.run then c else (c.updPl s (fun y => { y with run := true })).plPost 0x3241 s []
        let c := c.incEa 0x421F s
        let c := if d.conc then c.incEa 0x4220 s else c
        (c.showLayer s 2 (held + 1) (base + 1 + 2 * b2n d.conc), d)
      else if hold then
        let c := if x.expired then c else (c.updPl s (fun y => { y with expired := true })).plPost 0x3244 s []
        ((ends c).showLayer s 3 held base, {})
      else ((ends (c.plPost 0x3242 s [])).showLayer s 3 held base, {})
    | none => ((if hold then c else c.plPost 0x3242 s []).showLayer s 3 held base, {})

/-- Every slot gets its state; the descriptors in slot order. -/
def Ctl.settleSlots (c : Ctl) (f keep : Nat) : Ctl × List PlDesc :=
  (List.range 16).foldl (fun (q : Ctl × List PlDesc) s => let r := q.1.settleSlot s f keep; (r.1, q.2 ++ [r.2])) (c, [])

/-- A held surface whose readiness records no descriptor names is released with them (R223 step 5; assumption log 47). -/
def Ctl.dropHeld (c : Ctl) (ds : List PlDesc) : Ctl :=
  (List.range 16).foldl (fun c s =>
    if (ds.getD s {}).sampled then c else c.updPl s (fun x => { x with held := x.held.filter (fun d => d.recs.isEmpty) })) c

/-- LAYERS_FRESH and LAYERS_HELD (R238). -/
def Ctl.showFrames (c : Ctl) : Ctl :=
  let m := fun st => maskOf ((List.range 16).filter (fun s => c.ea 0x421C s = st))
  (c.setE 0x420001 (m 1)).setE 0x420002 (m 2)

/-- The cull mask handed to Easel (R227, R228): the planner's, as far as it came, without the removals of a slot or occluder that is not
FRESH or is shed; empty for a flip that an activation holds (06 R201). `reached` counts the entries of the second walk when the planner has
not finished. -/
def settleMask (f reached shed : Nat) (m : Mem) (c : Ctl) : Mem × Ctl × List (Nat × Nat) :=
  if c.xz.heldFlip = some f then (m, (c.setPl (fun p => { p with mask := [] })).setE 0x420003 0, []) else
  let q : Mem × Ctl := if c.pl.planned = some f then (m, c) else
    let q := planCull f reached m c
    (q.1, if c.cullOn then (q.2.setReg .plEvents 0 3 1).post 0x3245 [] else q.2)
  let c := q.2
  let slotOf := fun i => fetchSlot (schedEntry (imgSec c.img 3) i)
  let ok := fun s => c.ea 0x421C s = 1 && !bit shed s
  let stay := c.pl.mask.filter (fun r => ok (slotOf r.1) && ok r.2.1)
  let gone := c.pl.mask.filter (fun r => !(ok (slotOf r.1) && ok r.2.1))
  let at_ := c.maskAddr f
  let q := gone.foldl (fun q r => dramStore 5 (at_ r.1) (toLE 4 (r.2.1 * 2 ^ 20 + r.2.2)) q.1 q.2) (q.1, c)
  let c := q.2
  (q.1, (c.setPl (fun p => { p with mask := [] })).setE 0x420003 stay.length, stay.map (fun r => (r.1, r.2.2)))

/-- The ingest of frame `f` begins at flip f − 2: SURFACE slots, and DECODED slots with an early picture (R213, R219). -/
def Ctl.ingestBegin (c : Ctl) (f : Nat) : Ctl :=
  (List.range 16).foldl (fun c s =>
    if !c.usedSlot s then c
    else if c.src s = 2 then let sz := c.ea 0x4217 s; c.plSized s f (bits sz 15 0) (bits sz 31 16)
    else match (c.ingestKeys s f).head? with
      | some x => c.plSized s f x.2.2.1.hdr.lay.w x.2.2.1.hdr.lay.h
      | none => c) c

/-- An image activation forgets every held surface (R224); the frame whose ingest the old image did is settled still. -/
def Ctl.plActivate (c : Ctl) : Ctl :=
  let c := c.setPl (fun p => { p with slots := p.slots.map (fun x => { directFor := x.directFor }), planned := none, mask := [] })
  (List.range 16).foldl (fun c s => c.showLayer s (if c.usedSlot s then 3 else 0) 0 0) c

/-- At the activation's flip nothing is held for the frames after it (R224, 06 R201). -/
def Ctl.plForget (c : Ctl) (n : Nat) : Ctl :=
  if c.xz.heldFlip = some (n + 1) then c.setPl (fun p => { p with slots := p.slots.map (fun x => { x with held := none }) }) else c

/-- CULL_DISABLED, at an activation or commit while the bounds area is too small (R226; assumption log 47). -/
def Ctl.cullCheck (c : Ctl) : Ctl := if c.hasImage && !c.cullOn then c.post 0x3248 [] else c

/-- CULL_PLAN_DONE (R227): the planner has finished both walks for the frame whose cutoff has run. -/
def cullPlanDone (m : Mem) (c : Ctl) : Mem × Ctl :=
  if c.dc.cutFor ≠ some c.nextFlip || !c.tb.issuing || c.pl.planned = some (c.nextFlip + 1) then (m, c) else planCull (c.nextFlip + 1) c.fetchCount m c

/-! ### Glaze copies (R235) -/

/-- An entry that Glaze holds in two copies. -/
def glazeEntry (k : Nat) : Bool := (decide (0x4301 ≤ k / 256) && decide (k / 256 ≤ 0x4304)) || k = 0x430601

/-- A set with Glaze entries becomes active: the copies exchange roles and the copy into the shadow starts. -/
def Ctl.glazeSwap (c : Ctl) : Ctl := (c.setPl (fun p => { p with syncing := true })).setE 0x430002 1

/-- GLAZE_SYNC_DONE: the shadows hold the active values but where a value is staged or accepted (00 R15, R16); then the staged writes that
waited apply. -/
def Ctl.glazeSynced (c : Ctl) : Ctl :=
  if !c.pl.syncing then c else
  let waits := fun k => c.dy.staged.contains k || c.dy.commits.any (fun r => (aGet r.vals k).isSome)
  let c := { c with shadow := c.shadow.filter (fun p => !glazeEntry p.1 || waits p.1) }
  let w := c.pl.waiting
  let c := (c.setPl (fun p => { p with syncing := false, waiting := [] })).setE 0x430002 0
  w.foldl (fun c p =>
    let v : EVal := match dictRow p.1 with
      | some d => if d.ty.isOct then .oct p.2 else .num (ofLE p.2)
      | none => .oct p.2
    { c with shadow := aSet c.shadow p.1 v, dy := { c.dy with staged := insertRising c.dy.staged p.1 } }) c

/-- An uncorrectable error of a Glaze table's entry (R235). -/
def Ctl.glazeError (c : Ctl) (i : Nat) : Ctl :=
  let t := i / 12288
  (c.setPl (fun p => { p with glazeBad := insertRising p.glazeBad i, restoring := insertRising p.restoring t })).postBlock 0x33C1 [i8 t] i

/-- A corrected error of a Glaze store. -/
def Ctl.glazeCorrected (c : Ctl) : Ctl := (c.incE 0x430001).addReg .gzStatus 0 16 16 1

/-- GLAZE_RESTORE_DONE: the table is restored; its lookups stay 0 until the end of the frame. -/
def Ctl.glazeRestored (c : Ctl) (t : Nat) : Ctl := c.setPl (fun p => { p with restoring := p.restoring.filter (· ≠ t) })

/-- The end of a frame: lookups of restored tables read again. -/
def Ctl.glazeFlip (c : Ctl) : Ctl :=
  c.setPl (fun p => { p with glazeBad := p.glazeBad.filter (fun i => p.restoring.contains (i / 12288)), stippleK := (p.stippleK + 1) % 64 })

/-! ### The commands -/

/-- CULL_PLAN_DONE. -/
def execCullPlanDone (dt : Nat) (ue : List DramErr) (s : State) : Host.Outcome State Fault Refusal :=
  runM (fun m c => cullPlanDone (m.found ue) (c.advance dt)) s
/-- INGEST_ROW_START. -/
def execIngestRowStart (dt slot : Nat) (ue : List DramErr) (s : State) : Host.Outcome State Fault Refusal :=
  runM (fun m c => ingestRow slot (m.found ue) (c.advance dt)) s
/-- INGEST_PASS_DONE. -/
def execIngestPassDone (dt slot : Nat) (ecc : Bool) (s : State) : Host.Outcome State Fault Refusal :=
  runC (fun c => (c.advance dt).ingestDone slot ecc) s
/-- GLAZE_SYNC_DONE. -/
def execGlazeSyncDone (dt : Nat) (s : State) : Host.Outcome State Fault Refusal := runC (fun c => (c.advance dt).glazeSynced) s
/-- GLAZE_RESTORE_DONE. -/
def execGlazeRestoreDone (dt table : Nat) (s : State) : Host.Outcome State Fault Refusal := runC (fun c => (c.advance dt).glazeRestored table) s

end Sys2Proof.Machine
end

