-- ==== Sys2Proof/Machine/Lanes.lean ====
section
/-! DEFINITION. The serial lanes (11 R323 to R352): bring-up and steps of a ring port, transmit equalisation, failures and retraining, the
eye monitor, the low-power states and the test loops. Lane index: East 0 to 8, West 9 to 17, panel 18 to 49, return 50 to 53, field 54, 55.
LANE_STATE: 0 DISABLED, 1 TRAINING, 2 UP, 3 FAILED, 4 RETRAINING, 5 TEST, 6 DOWN. -/
namespace Sys2Proof.Machine

/-! ### Accessors -/

/-- A lane. -/
def Ctl.lane (c : Ctl) (l : Nat) : Lane := c.ln.lanes.getD l {}
/-- Change a lane. -/
def Ctl.setLane (c : Ctl) (l : Nat) (f : Lane → Lane) : Ctl := { c with ln := { c.ln with lanes := updAt c.ln.lanes l f } }
/-- A ring port's bring-up. -/
def Ctl.port (c : Ctl) (p : Nat) : Port := c.ln.ports.getD p {}
/-- Change a ring port's bring-up. -/
def Ctl.setPort (c : Ctl) (p : Nat) (f : Port → Port) : Ctl := { c with ln := { c.ln with ports := updAt c.ln.ports p f } }
/-- Physical lanes of a port whose lane passes a test. -/
def Ctl.lanesWith (c : Ctl) (p : Nat) (f : Lane → Bool) : List Nat := (List.range 9).filter (fun n => f (c.lane (9 * p + n)))
/-- The ring lanes can run: the ray transport island is on and the part is not in Tadpole mode (19 R523, 18 R509). -/
def Ctl.ringOn (c : Ctl) : Bool := c.ea 0x1214 3 ≠ 0 && c.e 0x110001 ≠ 2

/-- What the FIR filter of a transmitter puts out, in VMAX / 63, for the bits x[n + 1], x[n] and x[n − 1], each 1 or −1 (R335). -/
def firOut (pre main post : Nat) (next cur prev : Int) : Int := -(pre : Int) * next + (main : Int) * cur - (post : Int) * prev
/-- Taps in the layout of LN_LANE_TAPS (R352). -/
def tapWord (pre main post : Nat) : Nat := post * 65536 + main * 256 + pre
/-- The preset taps (R335). -/
def tapPreset : Nat := tapWord 0 63 0
/-- The initial taps (R335). -/
def tapInitial : Nat := tapWord 4 47 12
/-- PRE, MAIN and POST of a tap word. -/
def tapList (w : Nat) : List Nat := [bits w 3 0, bits w 13 8, bits w 20 16]
/-- Ranges and constraints of the taps (R335). -/
def tapsOk (t : List Int) : Bool :=
  let pre := t.getD 0 0
  let main := t.getD 1 0
  let post := t.getD 2 0
  decide (0 ≤ pre) && decide (pre ≤ 15) && decide (0 ≤ main) && decide (main ≤ 63) && decide (0 ≤ post) && decide (post ≤ 31) &&
    decide (pre + main + post ≤ 63) && decide (main - pre - post ≥ 12)

/-- This part leads the link of a port (R331): its East port, toward a part. -/
def Ctl.leads (c : Ctl) (p : Nat) : Bool := p = 0 && !c.facesFeeder 0
/-- The settings that a port takes at its bring-up or resume (R351). -/
def Ctl.latchPort (c : Ctl) (p : Nat) : Ctl :=
  c.setPort p (fun q => { q with rateMax := c.e 0x200001, minLanes := c.e 0x200002, quiet := c.e 0x200005 = 1 })
/-- The settings that a lane takes at its bring-up, link-up or resume (R351). -/
def Ctl.latchEye (c : Ctl) (l : Nat) : Ctl := c.setLane l (fun x => { x with minH := c.e 0x200003, minW := c.e 0x200004 })
/-- The rate codes this part permits on a port (R330). -/
def Ctl.rateMask (c : Ctl) (p : Nat) : Nat := 2 ^ ((c.port p).rateMax + 1) - 1
/-- Codes in both ends' masks. -/
def Ctl.bothRates (c : Ctl) (p : Nat) : Nat := c.rateMask p &&& (c.port p).partnerMask.getD 0
/-- The final rate of a port (R330). -/
def Ctl.finalRate (c : Ctl) (p : Nat) : Nat := maxOf (bitsOf 6 (c.bothRates p))
/-- The next code after `k` in both masks. -/
def Ctl.nextRate (c : Ctl) (p k : Nat) : Nat := ((bitsOf 6 (c.bothRates p)).find? (fun x => decide (k < x))).getD k

/-! ### One lane -/

/-- A lane starts at code 0: bring-up or retraining (R329, R340). -/
def Ctl.laneBegin (c : Ctl) (l st : Nat) (solo : Bool) : Ctl :=
  let c := (c.setLane l (fun x => { x.kept with phase := .pairing, code := 0, solo := solo, startedAt := c.up })).latchEye l
  let c := (c.setLaneSt l st).incEa 0x201B l
  (((c.setEa 0x2011 l 0).setEa 0x2012 l (ringKbps 0)).setEa 0x2014 l tapPreset).setEa 0x2018 l 1

/-- A lane enters Brumation (R345): it does not run. -/
def Ctl.laneSleep (c : Ctl) (l : Nat) : Ctl :=
  let c := c.setLane l Lane.kept
  (((c.setLaneSt l 0).setEa 0x2011 l 2).setEa 0x2012 l 0).setEa 0x2018 l 1

/-- A lane changes to a code: it relocks and sends training frames (R332 step 2), with its stored taps and equaliser when it resumes
(R337); at codes 0 and 1 the taps are the preset ones. -/
def Ctl.laneAct (c : Ctl) (l code : Nat) : Ctl :=
  let x := c.lane l
  let c := if x.resume then c.latchEye l else c
  let taps := if code < 2 then tapPreset else if x.resume then (aGet x.taps code).getD tapInitial else tapInitial
  let c := c.setLane l (fun x => { x with
    phase := .relock, code := code, change := none, rxReady := false, partnerReady := false, partnerPass := false, asked := [0, 0, 0], shown := [0, 0, 0],
    eq := if x.resume then (aGet x.eqs code).getD x.eq else x.eq, req := [0, 0, 0], whole := 0, partnerSt := [0, 0, 0], checkFrom := none,
    ending := false, scr := none, sync := {} })
  ((c.setEa 0x2012 l (ringKbps code)).setEa 0x2014 l taps).setEa 0x2018 l 1

/-- A lane resumes at a code (R337): it counts in TRAIN_COUNT, and TRAIN_TIME runs from here (R351). -/
def Ctl.laneResume (c : Ctl) (l code : Nat) : Ctl := ((c.setLane l (fun x => { x with startedAt := c.up })).incEa 0x201B l).laneAct l code

/-- A lane is marked FAILED (R339): FAIL_COUNT, LAST_FAIL_CAUSE, LN_LANE_STATUS.FAILED and LANE_FAILED. -/
def Ctl.markFailed (c : Ctl) (l cause : Nat) : Ctl :=
  let c := ((c.setLaneSt l 3).incEa 0x2019 l).setEa 0x201A l cause
  ((c.setReg .lnLaneStatus l 3 1).setLane l (fun x => { x with cleanFrom := none, solo := false })).post 0x10C1 [i8 l, i8 cause]

/-- Time since a lane's start, in µs, saturating. -/
def Ctl.trainTime (c : Ctl) (l : Nat) : Nat := min ((c.up - (c.lane l).startedAt) / tUs 1) (2 ^ 32 - 1)

/-- A lane is UP (R333, R340). -/
def Ctl.laneUp (c : Ctl) (l : Nat) : Ctl :=
  let c := (c.setLaneSt l 2).setEa 0x201C l (c.trainTime l)
  (c.setLane l (fun x => { x with phase := .idle, solo := false, resume := false, retryAt := none })).setEa 0x2018 l 0

/-- A check passed at a code: taps and last good rate are stored (R337). -/
def Ctl.lanePassed (c : Ctl) (l : Nat) : Ctl :=
  let k := (c.lane l).code
  let t := c.ea 0x2014 l
  (c.setLane l (fun x => { x with taps := aSet x.taps k t, eqs := aSet x.eqs k x.eq, lastGood := some k })).setEa 0x2013 l (ringKbps k)

/-- A retraining fails and starts again after 1 s (R340). -/
def Ctl.soloFail (c : Ctl) (l : Nat) : Ctl := c.setLane l (fun x => { x with phase := .idle, change := none, retryAt := some (c.up + tS 1) })

/-! ### A port's bring-up (R329 to R333) -/

/-- A port starts bring-up at code 0; lanes in TEST stay in it. -/
def Ctl.portStart (c : Ctl) (p : Nat) : Ctl :=
  let c := c.ringDown p
  let c := (c.setPort p (fun _ => { stage := 1, startedAt := c.up, seenAt := c.up })).latchPort p
  let c := (c.setEa 0x2002 p 0xFF).setEa 0x2004 p 0xFF
  let c := (List.range 9).foldl (fun c n => if c.laneSt (9 * p + n) = 5 then c else c.laneBegin (9 * p + n) 1 false) c
  c.showRole

/-- A port hands its passing lanes over (R333). -/
def Ctl.portUpAt (c : Ctl) (p code mask : Nat) : Ctl :=
  let c := (bitsOf 9 mask).foldl (fun c n => c.laneUp (9 * p + n)) c
  let c := (c.setPort p (fun q => { q with stage := 3, code := code, waking := false, fallback := false })).setEa 0x2002 p code
  let c := c.post 0x1001 [i8 p, i8 code, i16 mask]
  c.ringUp p code mask

/-- The step to a code starts on the listed lanes: the leader counts down (R332 step 1). -/
def Ctl.startStep (c : Ctl) (p code mask : Nat) : Ctl :=
  let c := c.setPort p (fun q => { q with stage := 2, prevCode := q.code, prevLanes := mask, stepLanes := mask })
  (bitsOf 9 mask).foldl (fun c n => c.setLane (9 * p + n) (fun x => { x with change := some (code, 15), resume := false })) c

/-- The lanes of a mask have passed a code: the next step, or hand-over at the final rate (R330, R333). -/
def Ctl.portContinue (c : Ctl) (p code mask : Nat) : Ctl :=
  if code = c.finalRate p then c.portUpAt p code mask
  else if c.leads p then (c.setPort p (fun q => { q with code := code })).startStep p (c.nextRate p code) mask
  else c.setPort p (fun q => { q with stage := 2, code := code, prevCode := code, prevLanes := mask, stepLanes := mask })

/-- A port fails training and starts again at most once every 1 s (R331). -/
def Ctl.portFails (c : Ctl) (p n : Nat) : Ctl :=
  ((c.setPort p (fun q => { q with stage := 4, retryAt := q.startedAt + tS 1 })).post 0x1081 [i8 p, i32 n]).enumSettled

/-- Lanes paired on a port. -/
def Ctl.pairedMask (c : Ctl) (p : Nat) : Nat := maskOf (c.lanesWith p (fun x => x.paired && !x.solo))

/-- All nine lanes have paired: the leader starts the first step; with code 0 alone the port is up (R330, R331). -/
def Ctl.pairedAll (c : Ctl) (p : Nat) : Ctl :=
  let m := c.pairedMask p
  if (c.port p).stage = 1 && m = 511 && (c.leads p || c.finalRate p = 0) then c.portContinue p 0 m else c

/-- LEADER_STEP_TIMER (R331): the leader starts the first step; too few lanes fail the training of either end (assumption log 59). -/
def Ctl.leaderTimer (c : Ctl) (p : Nat) : Ctl :=
  let q := c.port p
  match q.firstPaired with
  | none => c
  | some t =>
    let m := c.pairedMask p
    if q.stage ≠ 1 || c.up < t + tMs 10 then c
    else if popCount 9 m < q.minLanes then c.portFails p (popCount 9 m)
    else if c.leads p then c.portContinue p 0 m else c

/-- A lane that retrains by itself has paired: its side of the step, or UP at code 0 (R340). -/
def Ctl.soloNext (c : Ctl) (l code : Nat) : Ctl :=
  let p := l / 9
  let stop := (c.port p).code
  if code ≥ stop then
    let c := c.laneUp l
    (c.setLane l (fun x => { x with cleanFrom := some c.up })).post 0x1002 [i8 l, i8 code]
  else if c.leads p then c.setLane l (fun x => { x with change := some (c.nextRate p code, 15) })
  else c

/-! ### Lane control frames (R327, R328) -/

/-- What a frame is, when it is not ignored: 15 octets with a good CRC16, or 13 from the side channel; VERSION 1; no reserved FTYPE. -/
def frameOk (b : List Byte) : Bool :=
  (b.length = 13 || (b.length = 15 && ofBE (b.drop 13) = crc16 (b.take 13))) && u8At b 0 % 16 = 1 &&
    decide (1 ≤ u8At b 0 / 16) && decide (u8At b 0 / 16 ≤ 6)

/-- A CAPABILITY frame (R329; assumption log 59). -/
def Ctl.capability (c : Ctl) (l : Nat) (b : List Byte) : Ctl :=
  let p := l / 9
  let n := l % 9
  if (c.lane l).phase ≠ .pairing || (c.lane l).paired then c else
  let w := u8At b 1
  let feeder := bit w 7
  let place := bits w 3 0 = n && (feeder || bits w 6 6 = 1 - p)
  if !place then
    let c := if (c.lane l).miswired then c else c.post 0x1084 [i8 l, i8 (bits w 3 0), i8 (bits w 6 6)]
    c.setLane l (fun x => { x with run := 0, miswired := true })
  else
    let mask := u8At b 2 % 64
    let c := if (c.port p).partnerMask.isNone then c.setPort p (fun q => { q with partnerMask := some mask }) else c
    if (c.port p).partnerMask ≠ some mask then c.setLane l (fun x => { x with run := 0 }) else
    let run := (c.lane l).run + 1
    let c := c.setLane l (fun x => { x with run := run, miswired := false, paired := decide (run ≥ 3) })
    if run < 3 then c else
    let cls := b2n feeder
    let c := (c.setPort p (fun q => { q with partnerClass := cls, firstPaired := some (q.firstPaired.getD c.up) })).setEa 0x2004 p cls
    let c := c.showRole
    if c.laneSt l = 5 then c else if (c.lane l).solo then c.soloNext l 0 else c.pairedAll p

/-- The response to a request on tap `i` (R335): 1 UPDATED, 2 MINIMUM, 3 MAXIMUM; and the taps. -/
def tapStep (taps : List Nat) (i req : Nat) : List Nat × Nat :=
  let t : List Int := taps.map Int.ofNat
  let v := t.getD i 0
  let t' := t.set i (if req = 1 then v + 1 else v - 1)
  if tapsOk t' then (t'.map Int.toNat, 1) else (taps, if req = 1 then 3 else 2)

/-- The tap requests of a frame (R335): a request held until its answer; one that changes before HOLD is a protocol error and ignored (assumption log 59). -/
def Ctl.tapRequests (c : Ctl) (l w : Nat) : Ctl :=
  let x := c.lane l
  let whole := if bit w 1 then some tapPreset else if bit w 0 then some tapInitial else none
  match whole with
  | some t => if x.asked = [0, 0, 0] then (c.setLane l (fun x => { x with asked := [4, 4, 4], shown := [1, 1, 1] })).setEa 0x2014 l t else c
  | none =>
    (List.range 3).foldl (fun c i =>
      let req := bits w (7 - 2 * i) (6 - 2 * i)
      let was := (c.lane l).asked.getD i 0
      if was = 0 && (req = 1 || req = 2) then
        let r := tapStep (tapList (c.ea 0x2014 l)) i req
        (c.setLane l (fun x => { x with asked := x.asked.set i req, shown := x.shown.set i r.2 })).setEa 0x2014 l
          (tapWord (r.1.getD 0 0) (r.1.getD 1 0) (r.1.getD 2 0))
      else if was ≠ 0 && req = 0 then c.setLane l (fun x => { x with asked := x.asked.set i 0, shown := x.shown.set i 0 })
      else c) c

/-- A CHANGE frame on a lane that does not lead (R332 step 1). -/
def Ctl.changeFrame (c : Ctl) (l target count : Nat) : Ctl :=
  let p := l / 9
  if c.leads p && c.laneSt l ≠ 5 && !(c.lane l).loopSlave then c else
  let back := decide (target < (c.lane l).code)
  let c := c.setLane l (fun x => { x with change := some (target, count), resume := back })
  if count = 0 then
    let c := if (c.lane l).solo || c.laneSt l = 5 || (c.lane l).loopSlave then c
      else if back then c.setPort p (fun q => { q with fallback := true, code := target, stepLanes := q.prevLanes })
      else if (c.port p).stage = 1 then let m := c.pairedMask p; c.setPort p (fun q => { q with stage := 2, prevLanes := m, stepLanes := m })
      else c
    if back then c.laneResume l target else c.laneAct l target
  else c

/-- The lane may not rest now (R346). -/
def Ctl.noRest (c : Ctl) (l : Nat) : Bool := [3, 4, 5].contains (c.laneSt l)
/-- The lane is the spare of its port and up (R345). -/
def Ctl.isSpare (c : Ctl) (l : Nat) : Bool :=
  decide (l < 18) && c.portUp (l / 9) && c.laneSt l = 2 && !(c.lanesInForce (l / 9) true).contains (l % 9) && !(c.lanesInForce (l / 9) false).contains (l % 9) &&
    (c.normal (l / 9) true).spare = l % 9

/-- The lanes of a port that may not rest refuse Brumation (R346; assumption log 59). -/
def Ctl.refuseRest (c : Ctl) (p : Nat) : Ctl :=
  (List.range 9).foldl (fun c n => if c.noRest (9 * p + n) then c.post 0x1083 [i8 (9 * p + n)] else c) c

/-- A port goes into Brumation (R345): `ask` says that its partner or PORT_ENABLE asks, and then lanes that refuse stay as they are (R346; assumption log 59). -/
def Ctl.portSleep (c : Ctl) (p stage : Nat) (ask : Bool) : Ctl :=
  let c := c.ringDown p
  let c := (List.range 9).foldl (fun c n =>
    let l := 9 * p + n
    if (ask && c.noRest l) || c.laneSt l = 5 then c else c.laneSleep l) c
  ((((c.setPort p (fun q => { q with stage := stage })).setEa 0x2002 p 0xFF).setEa 0x2004 p 0xFF).showRole).enumSettled

/-- A LOOP frame (R349): an answer to this part's own request, or a request. -/
def Ctl.loopFrame (c : Ctl) (l arg : Nat) : Ctl :=
  let asking := c.laneSt l = 5 && c.ea 0x201E l % 4 = 3
  if bit arg 1 then
    (if asking then c.setLane l (fun x => { x with farAccepted := true, change := some (bits (c.ea 0x201E l) 23 20, 15) }) else c)
  else if asking && !bit arg 0 then c
  else
    let ok := bit arg 0 && (c.laneSt l = 5 || c.laneSt l = 3)
    c.setLane l (fun x => { x with loopSlave := ok, loopAnswer := some ok })

/-- The frame that a lane sends: FTYPE, TARGET and ARG as given, with the requests and statuses of the taps (R328, R335). -/
def Ctl.frameOut (c : Ctl) (l ftype target arg : Nat) : List Byte :=
  let x := c.lane l
  let p := l / 9
  let three := fun (v : List Nat) => v.getD 0 0 * 64 + v.getD 1 0 * 16 + v.getD 2 0 * 4
  let b := [byteOf (ftype * 16 + 1), byteOf (p * 64 + b2n (c.leads p) * 32 + l % 9), byteOf (c.rateMask p),
    byteOf (x.code % 16 * 16 + target), byteOf (three x.req + x.whole), byteOf (three x.shown + b2n x.rxReady * 2)] ++ toBE 2 arg ++ toBE 2 (c.ea 0x2016 l) ++ [byteOf (c.ea 0x2017 l), byteOf x.seq, 0]
  b ++ toBE 2 (crc16 b)

/-- Where the scrambler of a lane stands: it runs on from block to block (R326); its start is free (assumption log 59; assumption log 57). -/
def Ctl.scrAt (c : Ctl) (l : Nat) : Nat := (c.lane l).scr.getD (Config.scramblerAt l (c.up * 2 ^ 32 + c.out.length) % 2 ^ 58)

/-- A frame leaves a lane at the start of a training period, and the pattern follows it (R327; assumption log 59). -/
def Ctl.sendFrame (c : Ctl) (l ftype target arg : Nat) : Ctl :=
  let x := c.lane l
  let b := c.frameOut l ftype target arg
  let s := prbsRun 31 28 x.prbsAt (Config.prbsStart l % 2 ^ 31)
  (c.emit { kind := .laneCtl, a := l, bytes := b, wire := trainPeriod x.code (c.scrAt l) s b }).setLane l
    (fun x => { x with seq := (x.seq + 1) % 256, prbsAt := x.prbsAt + trainBits x.code,
                       scr := if x.code < 2 then x.scr else some (scrambleAll (c.scrAt l) (trainWords s b)) })

/-- A lane control frame in the side channel of a port that is up: LANE_CTRL (12 R367). -/
def Ctl.ctrlMsg (c : Ctl) (l ftype target arg : Nat) : Ctl :=
  (c.sideSend (l / 9) 7 0xFE (byteOf (l % 9) :: (c.frameOut l ftype target arg).take 13)).setLane l (fun x => { x with seq := (x.seq + 1) % 256 })

/-- A POWER frame (R345, R346). A request for QUIET is answered with ACK. -/
def Ctl.powerFrame (c : Ctl) (l arg : Nat) : Ctl :=
  let st := arg % 4
  if st = 1 then
    if bit arg 2 then
      (if (c.lane l).quietAsked && c.isSpare l then (c.setEa 0x2011 l 1).setLane l (fun x => { x with quietAsked := false }) else c)
    else if c.noRest l then c.post 0x1083 [i8 l]
    else if (c.port (l / 9)).quiet && c.isSpare l then ((c.ctrlMsg l 6 0 5).setEa 0x2011 l 1).setLane l (fun x => { x with quietAsked := false })
    else c
  else if st = 2 then
    if c.noRest l then c.post 0x1083 [i8 l] else (c.refuseRest (l / 9)).portSleep (l / 9) 7 true
  else if st = 0 && c.ea 0x2011 l = 1 then c.setEa 0x2011 l 0
  else c

/-- Both ends of a lane show RX_READY: its check begins (R332 step 5). -/
def Ctl.checkBegins (c : Ctl) (l : Nat) : Ctl :=
  c.setLane l (fun x => if x.phase = .ready && x.rxReady && x.partnerReady && x.checkFrom.isNone then { x with checkFrom := some c.up } else x)

/-- The tap that moves next on the way back to the best taps, and its request: PRE and POST down, MAIN, PRE and POST up. In this order no
step breaks a constraint of R335 that both ends of the way keep (assumption log 59). -/
def Lane.backStep (x : Lane) : Option (Nat × Nat) :=
  let d := fun (i : Nat) => x.bestPos.getD i 0 - x.pos.getD i 0
  match [0, 2].find? (fun i => decide (d i < 0)) with
  | some i => some (i, 2)
  | none =>
    if d 1 ≠ 0 then some (1, if 0 < d 1 then 1 else 2) else
    ([0, 2].find? (fun i => decide (0 < d i))).map (fun i => (i, 1))

/-- No request stands and the partner shows NOT_UPDATED on every tap. -/
def Lane.quietTaps (x : Lane) : Bool := x.req = [0, 0, 0] && x.whole = 0 && x.partnerSt = [0, 0, 0]

/-- The receiver has ended its adaptation and restores the best taps it has seen, step by step; then RX_READY (R336). -/
def Ctl.tapsSettle (c : Ctl) (l : Nat) : Ctl :=
  let x := c.lane l
  if x.phase ≠ .adapt || !x.ending || !x.quietTaps then c
  else if x.base ≠ x.bestBase then c.setLane l (fun x => { x with whole := x.bestBase })
  else match x.backStep with
    | none => (c.setLane l (fun x => { x with phase := .ready, rxReady := true })).checkBegins l
    | some (i, r) => c.setLane l (fun x => { x with req := x.req.set i r })

/-- The statuses that the partner shows (R335 steps 2 and 3): an answered request returns to HOLD, and an UPDATED tap has made its step; PRESET and
INITIALIZE are answered on all three taps (assumption log 59). -/
def Ctl.tapAnswers (c : Ctl) (l w : Nat) : Ctl :=
  let st := [bits w 7 6, bits w 5 4, bits w 3 2]
  let c := c.setLane l (fun x =>
    if x.whole ≠ 0 then
      (if st = [1, 1, 1] then { x with partnerSt := st, base := x.whole, pos := [0, 0, 0], whole := 0 } else { x with partnerSt := st })
    else { x with
      partnerSt := st
      pos := (List.range 3).map (fun i => x.pos.getD i 0 +
        if st.getD i 0 = 1 then (if x.req.getD i 0 = 1 then 1 else if x.req.getD i 0 = 2 then -1 else 0) else 0)
      req := (List.range 3).map (fun i => if st.getD i 0 = 0 then x.req.getD i 0 else 0) })
  c.tapsSettle l

/-- One trial of an adaptation (R336, R338): its figures; the receiver's equaliser and its next request, of one tap or, but in a resume, of all
three by PRESET or INITIALIZE, are its own choice (assumption log 59). -/
def Ctl.tapTrial (c : Ctl) (l h w : Nat) : Ctl :=
  let x := c.lane l
  let gain := x.best.all (fun b => decide (b < h))
  let pick := Config.freeValue (c.draws + 1) % (if x.resume then 6 else 8)
  let c := ((c.setEa 0x2016 l h).setEa 0x2017 l w).setLane l (fun x => { x with
    eq := Config.freeValue c.draws, best := if gain then some h else x.best, bestPos := if gain then x.pos else x.bestPos,
    bestBase := if gain then x.base else x.bestBase, noGain := if gain then 0 else x.noGain + 1,
    whole := if x.quietTaps && decide (6 ≤ pick) then pick - 5 else x.whole,
    req := if x.quietTaps && decide (pick < 6) then x.req.set (pick % 3) (1 + pick / 3) else x.req })
  c.draw.draw

/-- LANE_CONTROL_FRAME (R328 to R349). -/
def Ctl.laneFrame (c : Ctl) (l : Nat) (b : List Byte) : Ctl :=
  if l ≥ 18 then c else
  let c := c.setPort (l / 9) (fun q => { q with seenAt := c.up })
  if !frameOk b || c.laneSt l = 0 || (c.laneSt l = 5 && c.ea 0x201E l % 4 = 1) then c else
  let arg := ofBE (slice b 6 2)
  match u8At b 0 / 16 with
  | 1 => c.capability l b
  | 2 =>
    let c := (c.tapRequests l (u8At b 4)).tapAnswers l (u8At b 5)
    (c.setLane l (fun x => { x with partnerReady := x.partnerReady || bit (u8At b 5) 1 })).checkBegins l
  | 3 => c.changeFrame l (u8At b 3 % 16) (arg % 16)
  | 4 =>
    if (c.lane l).solo then c.setLane l (fun x => { x with partnerPass := bit arg (l % 9) })
    else (List.range 9).foldl (fun c n => if bit arg n then c.setLane (9 * (l / 9) + n) (fun x => { x with partnerPass := true }) else c) c
  | 5 => c.loopFrame l arg
  | _ => c.powerFrame l arg

/-- A port that closes has sent its POWER frames on every lane: Brumation (R345). -/
def Ctl.closed (c : Ctl) (p : Nat) : Ctl :=
  if (c.port p).stage = 5 && (List.range 9).all (fun n => (c.lane (9 * p + n)).powerLeft = 0) then c.portSleep p 0 true else c

/-- The lane carries a stripe of its port (12 R370): the others that are UP carry the training pattern with lane control frames. -/
def Ctl.inStripes (c : Ctl) (l : Nat) : Bool := c.portUp (l / 9) && (c.lanesInForce (l / 9) true).contains (l % 9)

/-- The transmit pins of a lane are in electrical idle (R344, R347). -/
def Ctl.pinsIdle (c : Ctl) (l : Nat) : Bool := c.ea 0x2011 l ≠ 0 || (c.laneSt l = 5 && c.ea 0x201E l % 4 = 1)

/-- The test generator drives the line of a lane (R347, R349): in FAR_END once the partner has accepted and TEST_RATE is reached. -/
def Ctl.genDrives (c : Ctl) (l : Nat) : Bool :=
  let x := c.lane l
  c.laneSt l = 5 && !x.loopSlave && (c.ea 0x201E l % 4 ≠ 3 || (x.farAccepted && x.change.isNone && x.phase = .idle))

/-- A lane's coding is 64b/66b at the rate it runs at (R323, R324). -/
def Ctl.blockCoded (c : Ctl) (l : Nat) : Bool :=
  if l < 18 then decide (2 ≤ (c.lane l).code) else if l < 50 then true else if l < 54 then false else Config.fieldFast (l - 54)

/-- The first 64 bits of a lane's test pattern (R348); a PRBS starts in a state of its own (assumption log 59). -/
def Ctl.testWord (c : Ctl) (l pat : Nat) : Nat :=
  if pat = 5 then c.reg .lnTestUserHi l 0 * 2 ^ 32 + c.reg .lnTestUserLo l 0
  else (prbsTake (prbsOf pat).1 (prbsOf pat).2 64 (Config.prbsStart (100 + l) % 2 ^ (prbsOf pat).1)).1

/-- The generator of a lane starts on its line (R347, R348): with RAW its bits drive the serialiser; else they are block payload, coded and
scrambled, a 64b/66b data block or the eight characters of an 8b/10b lane. In NEAR_SERIAL the transmit pins are in electrical idle (assumption log 59). -/
def Ctl.genStart (c : Ctl) (l : Nat) : Ctl :=
  let cfg := c.ea 0x201E l
  let pat := bits cfg 10 8
  let w := c.testWord l pat
  if pat = 0 || c.pinsIdle l then c else
  c.emit { kind := .pattern, a := l, b := pat, c := b2n (bit cfg 16),
           wire := if bit cfg 16 then [w] else if c.blockCoded l then wireBlocks 1 (c.scrAt l) [w] else (toBE 8 w).map (fun b => b.toNat) }

/-- One lane's result of the 500 µs check: physical lane, sync held, bit errors, eye height and width. -/
abbrev CheckRes := Nat × Nat × Nat × Nat × Nat

/-- This end's part of the check passes (R336). -/
def Ctl.checkOk (c : Ctl) (l : Nat) (r : CheckRes) : Bool :=
  r.2.1 = 1 && decide (r.2.2.2.1 ≥ (c.lane l).minH) && decide (r.2.2.2.2 ≥ (c.lane l).minW) &&
    decide (r.2.2.1 ≤ if (c.lane l).code < 4 then 0 else 2000)

/-- This end's receive PASS_MASK: the port's lanes in the step, or the one lane that retrains (R332 step 5). -/
def Ctl.ownPass (c : Ctl) (p : Nat) (lanes : List Nat) (res : List CheckRes) : Nat :=
  maskOf (lanes.filter (fun n => (c.lane (9 * p + n)).phase = .ready && res.any (fun r => r.1 = n && c.checkOk (9 * p + n) r)))

/-- The check of a lane has run for `us` µs. -/
def Lane.checked (x : Lane) (up us : Nat) : Bool := x.phase = .ready && x.checkFrom.any (fun t => decide (up ≥ t + tUs us))

/-- LANE_CONTROL_PERIOD (R327, R332, R345, R349; 12 R370): the next frame of a lane. A lane in the stripes sends in the side channel; `res`
are the results so far of the checks that run, which RESULT frames carry in the last 50 µs. -/
def Ctl.controlPeriod (c : Ctl) (l : Nat) (res : List CheckRes) : Ctl :=
  let p := l / 9
  let x := c.lane l
  if l ≥ 18 || [0, 6].contains (c.laneSt l) || c.pinsIdle l || (c.genDrives l && x.loopAnswer.isNone) then c
  else if x.powerLeft ≠ 0 then ((c.sendFrame l 6 0 2).setLane l (fun x => { x with powerLeft := x.powerLeft - 1 })).closed p
  else match x.loopAnswer with
  | some ok =>
    let c := if c.inStripes l then c.ctrlMsg l 5 0 (b2n ok * 3) else c.sendFrame l 5 0 (b2n ok * 3)
    c.setLane l (fun x => { x with loopAnswer := none })
  | none => match x.change with
    | some (t, k) =>
      if x.loopSlave then (if k ≤ 1 then c.changeFrame l t 0 else c)
      else if c.leads p || c.laneSt l = 5 then
        let c := c.sendFrame l 3 t k
        if k = 0 then
          let c := if x.resume then c.laneResume l t else c.laneAct l t
          if c.laneSt l = 5 then (c.setLane l (fun x => { x with phase := .idle })).genStart l else c
        else c.setLane l (fun x => { x with change := some (t, k - 1) })
      else if k ≤ 1 then c.changeFrame l t 0
      else c.sendFrame l 2 0 0
    | none =>
      if x.loopSlave then c
      else if c.laneSt l = 5 && x.paired && c.ea 0x201E l % 4 = 3 && !x.farAccepted then c.sendFrame l 5 0 1
      else if x.phase = .pairing then c.sendFrame l 1 (c.finalRate p) 0
      else if x.checked c.up 450 then c.sendFrame l 4 0 (c.ownPass p (if x.solo then [l % 9] else bitsOf 9 (c.port p).stepLanes) res)
      else if (c.port p).quiet && c.isSpare l && !x.quietAsked then
        (c.setLane l (fun x => { x with quietAsked := true })).ctrlMsg l 6 0 1
      else if c.inStripes l then c.setLane l (fun x => { x with scr := none })
      else c.sendFrame l 2 0 0

/-! ### Relock, adaptation, check (R332, R336) -/

/-- The lane belongs to what the command names: the port's own step, or one lane's retraining. -/
def Ctl.inStep (c : Ctl) (p n : Nat) : Bool := (c.lane (9 * p + n)).solo || bit (c.port p).stepLanes n

/-- A lane fails its step before the check (R332). -/
def Ctl.stepFailed (c : Ctl) (l cause : Nat) : Ctl :=
  let c := c.post 0x1041 [i8 l, i8 (c.lane l).code, i8 cause]
  if (c.lane l).solo then c.soloFail l else c.setLane l (fun x => { x with phase := .idle })

/-- RELOCK_DONE (R332 steps 2 to 4): lanes that have relocked and regained sync, and lanes that have not, with a cause of R339. -/
def Ctl.relockDone (c : Ctl) (p : Nat) (ok : List Nat) (bad : List (Nat × Nat)) : Ctl :=
  let c := ok.foldl (fun c n =>
    let l := 9 * p + n
    if n < 9 && (c.lane l).phase = .relock && c.inStep p n then
      (if (c.lane l).code < 2 then (c.setLane l (fun x => { x with phase := .ready, rxReady := true })).checkBegins l
       else c.setLane l (fun x => { x with
         phase := .adapt, pos := [0, 0, 0], bestPos := [0, 0, 0], base := 1, bestBase := 1, whole := 0, best := none, noGain := 0, adaptFrom := c.up, ending := false }))
    else c) c
  bad.foldl (fun c q => if q.1 < 9 && (c.lane (9 * p + q.1)).phase = .relock && c.inStep p q.1 then c.stepFailed (9 * p + q.1) q.2 else c) c

/-- The adaptation limit of a code, and of a resume (R324, R337). -/
def Lane.adaptLimit (x : Lane) : Nat := if x.resume then tUs 1490 else tMs ([0, 0, 2, 4, 8, 8].getD x.code 8)

/-- ADAPTATION_DONE (R336): three trials without a gain, or the limit; the figures of the best taps, which are restored before RX_READY (assumption log 59). -/
def Ctl.adaptationDone (c : Ctl) (l h w : Nat) : Ctl :=
  let x := c.lane l
  if x.phase ≠ .adapt || !(decide (x.noGain ≥ 3) || decide (c.up ≥ x.adaptFrom + x.adaptLimit)) then c else
  (((c.setEa 0x2016 l h).setEa 0x2017 l w).setLane l (fun x => { x with ending := true })).tapsSettle l

/-- The lane passes the step: ready at both ends, checked here, and in the partner's PASS_MASK (R332). -/
def Ctl.lanePass (c : Ctl) (l : Nat) (res : List CheckRes) : Bool :=
  let x := c.lane l
  x.checked c.up 500 && x.partnerPass &&
    (match res.find? (fun r => r.1 = l % 9) with
     | some r => c.checkOk l r
     | none => false)

/-- Cause that STEP_FAILED carries: sync lost, or the step itself. -/
def checkCause (l : Nat) (res : List CheckRes) : Nat := match res.find? (fun r => r.1 = l % 9) with
  | some r => if r.2.1 = 0 then 3 else 7
  | none => 7

/-- The eye figures of the check. -/
def Ctl.takeCheck (c : Ctl) (p : Nat) (res : List CheckRes) : Ctl :=
  res.foldl (fun c r => if r.1 < 9 && (c.lane (9 * p + r.1)).phase = .ready then
    (c.setEa 0x2016 (9 * p + r.1) r.2.2.2.1).setEa 0x2017 (9 * p + r.1) r.2.2.2.2 else c) c

/-- The check of one lane's retraining ends (R340). -/
def Ctl.soloCheck (c : Ctl) (l : Nat) (res : List CheckRes) : Ctl :=
  if !(c.lane l).solo || (c.lane l).phase ≠ .ready then c else
  let ok := c.lanePass l res
  let c := c.takeCheck (l / 9) (res.filter (fun r => r.1 = l % 9))
  if ok then (c.lanePassed l).soloNext l (c.lane l).code else c.stepFailed l (checkCause l res)

/-- The check of a port's step ends (R333). -/
def Ctl.portCheck (c : Ctl) (p : Nat) (res : List CheckRes) : Ctl :=
  let q := c.port p
  if q.stage ≠ 2 then c else
  let all := bitsOf 9 q.stepLanes
  let pass := all.filter (fun n => c.lanePass (9 * p + n) res)
  let mask := maskOf pass
  let code := match pass with
    | n :: _ => (c.lane (9 * p + n)).code
    | [] => maxOf (all.map (fun n => (c.lane (9 * p + n)).code % 15))
  let c := c.takeCheck p res
  let lost := all.filter (fun n => !pass.contains n)
  let c := lost.foldl (fun c n => if (c.lane (9 * p + n)).phase = .idle then c else c.stepFailed (9 * p + n) (checkCause (9 * p + n) res)) c
  let c := pass.foldl (fun c n => c.lanePassed (9 * p + n)) c
  if pass.length ≥ q.minLanes then
    let c := lost.foldl (fun c n => c.markFailed (9 * p + n) (if q.waking then 9 else 7)) c
    if q.fallback then (c.portUpAt p code mask).post 0x1042 [i8 p, i8 code]
    else if q.waking then c.portUpAt p code mask
    else c.portContinue p code mask
  else if q.waking then (lost.foldl (fun c n => c.markFailed (9 * p + n) 9) c).portFails p pass.length
  else if q.fallback then c.portFails p pass.length
  else if c.leads p then
    let back := q.prevLanes
    let c := c.setPort p (fun q => { q with fallback := true, stepLanes := back })
    (bitsOf 9 back).foldl (fun c n => c.setLane (9 * p + n) (fun x => { x with change := some (q.prevCode, 15), resume := true })) c
  else c

/-! ### Failures, retraining, eye (R338 to R340) -/

/-- What a lane's receiver sees of its line runs its synchronisation (R326; assumption log 59). -/
def Ctl.laneSees (c : Ctl) (l : Nat) (seen : List Nat) : Ctl := c.setLane l (fun x => { x with sync := x.sync.see (c.blockCoded l) seen })
/-- The receiver of a lane is synchronised. -/
def Ctl.laneSync (c : Ctl) (l : Nat) : Bool := (c.lane l).sync.held (c.blockCoded l)

/-- A ring lane's failure condition (R339, R346): UP, or refused pairing; a retraining fails and starts again. Cause 6 is the skew of a
received stripe (12 R354). -/
def Ctl.ringLaneFails (c : Ctl) (l cause : Nat) : Ctl :=
  if cause = 3 && c.laneSync l then c
  else if !([1, 2, 3, 4, 5].contains cause || (cause = 6 && (c.lanesInForce (l / 9) false).contains (l % 9)) || (cause = 8 && (c.lane l).miswired)) then c
  else if c.ea 0x2011 l ≠ 0 && (cause < 4 || cause = 6) then c
  else if c.laneSt l = 2 || (c.laneSt l = 1 && cause = 8) || (c.laneSt l = 0 && c.ea 0x2011 l = 2) then c.markFailed l cause
  else if c.laneSt l = 4 && cause ≠ 6 then c.soloFail l
  else c

/-- The lane is out of its port's stripes by an order (12 R368). -/
def Ctl.laneOut (c : Ctl) (l : Nat) : Bool :=
  bit (c.failedSet (l / 9) true) (l % 9) || bit (((c.rgPort (l / 9)).change.map MapChange.failed).getD 0) (l % 9)

/-- LANE_RETRAIN (R340). -/
def Ctl.laneRetrain (c : Ctl) (l : Nat) : Ctl :=
  if l < 18 && c.portUp (l / 9) && c.laneSt l = 3 && c.laneOut l then c.laneBegin l 4 true else c

/-- RETRAIN_RETRY (R340 step 4). -/
def Ctl.retrainRetry (c : Ctl) (l : Nat) : Ctl :=
  match (c.lane l).retryAt with
  | some t => if l < 18 && c.laneSt l = 4 && c.up ≥ t then c.laneBegin l 4 true else c
  | none => c

/-- A lane's receiver is under recalibration: RX_OFFSET or EYE_SCALE (19 R540). -/
def Ctl.laneCal (c : Ctl) (l : Nat) : Bool := c.pm.cal.any (fun x => (x.item = 6 || x.item = 7) && x.running && calLane x.item x.idx = some l)

/-- An instance of RX_OFFSET or EYE_SCALE recalibrates on a lane: its eye figures are STALE (19 R540). -/
def Ctl.eyeCal (c : Ctl) (l : Nat) : Bool :=
  c.pm.cal.any (fun x => (x.item = 6 || x.item = 7) && x.running && (if x.idx < 18 then x.idx else x.idx + 32) = l)

/-- The eye figures of a lane in L0 (R338). -/
def Ctl.eyeFigures (c : Ctl) (l h w : Nat) : Ctl :=
  let c := ((c.setEa 0x2016 l h).setEa 0x2017 l w).setEa 0x2018 l (b2n (c.eyeCal l))
  if h < (c.lane l).minH || w < (c.lane l).minW then c.post 0x1043 [i8 l, i16 h, i8 w] else c

/-- The checker of a lane in TEST counts (R348). -/
def Ctl.testCount (c : Ctl) (l errors nbits : Nat) : Ctl :=
  ((c.setEa 0x201F l (satAdd 32 (c.ea 0x201F l) errors)).setEa 0x2020 l (satAdd 64 (c.ea 0x2020 l) nbits)).addReg .lnTestErrors l 0 32 errors

/-- A lane group's checker reads the line from outside: ring, return and field lanes in LOOP 0, a ring lane in FAR_END (R347). -/
def Ctl.outerTest (c : Ctl) (l : Nat) : Bool :=
  c.laneSt l = 5 && ((c.ea 0x201E l % 4 = 0 && !(decide (18 ≤ l) && decide (l < 50))) || (c.ea 0x201E l % 4 = 3 && (c.lane l).farAccepted))

/-- EYE_UPDATE (R338, R348): the figures, a trial of an adaptation, and for a lane in TEST the bits its checker compared on the line since it
synchronised (assumption log 59). -/
def Ctl.eyeUpdate (c : Ctl) (l h w errors nbits : Nat) : Ctl :=
  let c := if c.outerTest l then (c.testCount l errors nbits).setLane l (fun x => { x with locked := x.locked || decide (0 < nbits) }) else c
  if (c.lane l).phase = .adapt then (if (c.lane l).ending then c else c.tapTrial l h w)
  else if c.ea 0x2011 l ≠ 0 || [0, 1, 4].contains (c.laneSt l) || (decide (18 ≤ l) && decide (l < 50)) then c
  else if c.laneCal l then c.setEa 0x2018 l 1
  else c.eyeFigures l h w

/-- QUIET_CHECK_PERIOD (R345). -/
def Ctl.quietCheck (c : Ctl) (l h w : Nat) : Ctl := if l < 18 && c.ea 0x2011 l = 1 then c.eyeFigures l h w else c

/-! ### Power states (R345) -/

/-- NO_PARTNER_TIMEOUT (R330). -/
def Ctl.noPartner (c : Ctl) (p : Nat) : Ctl :=
  let q := c.port p
  if [1, 2, 4].contains q.stage && decide (c.up ≥ q.seenAt + tMs 100) then
    (c.portSleep p 6 false).post 0x1003 [i8 p]
  else c

/-- BRUMATION_EXIT (R345): a signal or a wake. A port without a partner starts its bring-up; a port that its partner closed resumes at
its lanes' last good rate, without a countdown (assumption log 59). -/
def Ctl.brumationExit (c : Ctl) (p : Nat) : Ctl :=
  if c.ea 0x2001 p = 0 then c else
  if (c.port p).stage = 6 then c.portStart p else
  if (c.port p).stage ≠ 7 then c else
  let rest := (List.range 9).filter (fun n => c.laneSt (9 * p + n) = 0)
  let code := maxOf ((rest.filter (fun n => (c.lane (9 * p + n)).lastGood.isSome)).map (fun n => (c.lane (9 * p + n)).lastGood.getD 0))
  let mask := maskOf (rest.filter (fun n => (c.lane (9 * p + n)).lastGood = some code))
  let c := ((c.latchPort p).setEa 0x2004 p (c.port p).partnerClass).showRole
  let c := c.setPort p (fun q => { q with
    stage := 2, code := code, prevLanes := mask, stepLanes := mask, waking := true, fallback := false, startedAt := c.up, seenAt := c.up })
  (bitsOf 9 mask).foldl (fun c n =>
    let l := 9 * p + n
    let c := (c.laneBegin l 1 false).setLane l (fun x => { x with resume := true, paired := true })
    c.laneAct l code) c

/-- PORT_ENABLE written 0: ten POWER frames on each lane, then Brumation, which a FAILED, RETRAINING or TEST lane refuses (R346); 1: a port
that is off starts again, one that is closing once it is in Brumation (R329, R345, R346). -/
def Ctl.portEnable (c : Ctl) (p v : Nat) : Ctl :=
  if v = 1 then c
  else
  let c := c.refuseRest p
  if [1, 2, 3, 4].contains (c.port p).stage then
    let c := c.ringDown p
    let c := c.setPort p (fun q => { q with stage := 5 })
    (((List.range 9).foldl (fun c n => if [1, 2].contains (c.laneSt (9 * p + n)) then
      (c.setEa 0x2011 (9 * p + n) 0).setLane (9 * p + n) (fun x => { x with powerLeft := 10 }) else c) c).closed p).enumSettled
  else c.portSleep p 0 true

/-! ### Test loops (R347 to R349) -/

/-- The loops of a lane's group, and whether it has a generator. -/
def loopOk (l loop : Nat) : Bool := if l < 18 then true else if l < 50 then decide (loop < 3) else if l < 54 then loop = 0 else decide (loop < 3)
/-- The lane has a pattern generator. -/
def hasGen (l : Nat) : Bool := !(decide (50 ≤ l) && decide (l < 54))

/-- A lane may go to TEST from its state (R349). -/
def Ctl.mayTest (c : Ctl) (l : Nat) : Bool :=
  [0, 3].contains (c.laneSt l) || c.isSpare l || (decide (18 ≤ l) && decide (l < 50) && c.laneSt l = 4 && c.ea 0x4412 (l - 18) = 3) || (decide (50 ≤ l) && decide (l < 54) && c.laneSt l ≠ 5)

/-- Rate of a field port's lane, kb/s (R323, R343). -/
def fieldKbps (f : Nat) : Nat := if Config.fieldFast f then 10312500 else 1250000

/-- A field lane at an enable of its port: its rate and its fixed taps (R343); the lane of a port that is not fitted rests in Brumation (R345). -/
def Ctl.fieldUp (c : Ctl) (l : Nat) : Ctl :=
  if Config.fieldFitted (l - 54) then
    let c := { c with dy := { c.dy with udpPort := c.e 0x540001 } }
    (((((c.latchEye l).setLane l (fun x => { x with sync := {} })).setLaneSt l 2).setEa 0x2011 l 0).setEa 0x2012 l (fieldKbps (l - 54))).setEa 0x2014 l (c.ea 0x2015 l)
  else ((c.setLaneSt l 0).setEa 0x2011 l 2).setEa 0x2012 l 0

/-- Panel lanes that no image uses yet rest in Brumation (R345). -/
def Ctl.panelRest (c : Ctl) : Ctl :=
  (List.range 32).foldl (fun c k => if c.ea 0x4412 k = 0 && c.laneSt (18 + k) ≠ 5 then c.setEa 0x2011 (18 + k) 2 else c) c

/-- The rate a lane in TEST runs at, kb/s: TEST_RATE, PANEL_RATE, 1.25 Gb/s on return lanes, the field port's own rate. -/
def Ctl.testKbps (c : Ctl) (l : Nat) : Nat :=
  if l < 18 then ringKbps (if c.ea 0x201E l % 4 = 3 then 0 else bits (c.ea 0x201E l) 23 20)
  else if l < 50 then 500 * panelHalfMbps (c.e 0x440003) else if l < 54 then 1250000 else fieldKbps (l - 54)

/-- LANE_CMD TEST (R347, R349; assumption log 59): refused too for RAW = 1 with NEAR_PARALLEL, which R348 does not have. -/
def Ctl.laneTest (c : Ctl) (l : Nat) : Ctl :=
  let cfg := c.ea 0x201E l
  let loop := cfg % 4
  let pat := bits cfg 10 8
  if !c.mayTest l || !loopOk l loop || (pat ≠ 0 && !hasGen l) || (bit cfg 16 && loop = 2) then c.post 0x1083 [i8 l] else
  let c := c.setLane l (fun x => { x.kept with
    code := if l < 18 then bits cfg 23 20 else 15,
    phase := if loop = 3 then .pairing else .idle,
    chk := if pat ≠ 0 && (loop = 1 || loop = 2) then some (c.up, c.ea 0x2020 l) else none })
  let c := if l < 18 && loop = 3 then c.setLane l (fun x => { x with code := 0 }) else c
  let c := ((c.setLaneSt l 5).setEa 0x2011 l 0).setEa 0x2012 l (c.testKbps l)
  if loop = 3 then c else c.genStart l

/-- Bits that a near-end loop has carried since it began (R348; assumption log 59). -/
def Ctl.loopBits (c : Ctl) (l t : Nat) : Nat := (c.up - t) * c.ea 0x2012 l / (65536 * 1000000)

/-- TEST_BITS of a near-end loop as it stands: every bit behind the 64 error-free ones that synchronise the checker (R348; assumption log 59). -/
def Ctl.settleTest (c : Ctl) (l : Nat) : Ctl :=
  match (c.lane l).chk with
  | some (t, b) => c.setEa 0x2020 l (satAdd 64 b (c.loopBits l t - 64))
  | none => c

/-- CHK_LOCK (R348, R352). -/
def Ctl.chkLock (c : Ctl) (l : Nat) : Bool :=
  c.laneSt l = 5 && ((c.lane l).locked || (c.lane l).chk.any (fun q => decide (64 ≤ c.loopBits l q.1)))

/-- TEST_INJECT (R348): one bit is inverted as it is sent; in a near-end loop the checker counts it once it is synchronised, and starts over
before that. -/
def Ctl.testInject (c : Ctl) (l : Nat) : Ctl :=
  if c.laneSt l ≠ 5 || bits (c.ea 0x201E l) 10 8 = 0 then c else
  let c := if c.pinsIdle l || !c.genDrives l then c else c.emit { kind := .pattern, a := l, b := 8 }
  match (c.lane l).chk with
  | none => c
  | some (_, b) => if c.chkLock l then (c.settleTest l).testCount l 1 0 else c.setLane l (fun x => { x with chk := some (c.up, b) })

/-- The end of TEST for a lane (R349): a ring lane retrains, a return lane waits for sync, a field lane follows its port. Panel lanes link up
(Panel.lean). -/
def Ctl.testEnds (c : Ctl) (l : Nat) : Ctl :=
  let c := (c.settleTest l).setLane l Lane.kept
  if l < 18 then
    (if c.portUp (l / 9) then c.laneBegin l 4 true else if c.ea 0x2001 (l / 9) = 1 && (c.port (l / 9)).stage = 1 then c.laneBegin l 1 false else c.laneSleep l)
  else if l < 50 then c.setLaneSt l 4
  else if l < 54 then (c.setLaneSt l 6).setLane l (fun x => { x with sync := { phase := 0, lock := false } })
  else c.fieldUp l

/-! ### Return and field lanes (R342, R343) -/

/-- RETURN_LANE_SYNC_LOSS on return lane `r`: its receiver has not been synchronised for 20 µs. -/
def Ctl.returnLost (c : Ctl) (r : Nat) (seen : List Nat) : Ctl :=
  let c := c.laneSees (50 + r) seen
  if c.laneSt (50 + r) = 2 && !c.laneSync (50 + r) then (c.setLaneSt (50 + r) 6).post 0x1082 [i8 r] else c
/-- RETURN_LANE_SYNC_REGAINED. -/
def Ctl.returnBack (c : Ctl) (r : Nat) (seen : List Nat) : Ctl :=
  let c := c.laneSees (50 + r) seen
  if c.laneSt (50 + r) = 6 && c.laneSync (50 + r) then (c.setLaneSt (50 + r) 2).setEa 0x2012 (50 + r) 1250000 else c
/-- FIELD_PORT_RECOVERED on field port 0 or 1 (20 R550 class 24): the port is enabled again. -/
def Ctl.fieldBack (c : Ctl) (f : Nat) : Ctl := if c.laneSt (54 + f) = 3 then c.fieldUp (54 + f) else c

/-! ### The commands -/

/-- PORT_BRINGUP_START. -/
def execPortBringupStart (dt port : Nat) (s : State) : Host.Outcome State Fault Refusal :=
  runC (fun c => let c := c.advance dt; if c.ringOn && c.ea 0x2001 port = 1 && (c.port port).stage = 0 then c.portStart port else c) s
/-- PORT_RETRAIN (R351). -/
def Ctl.portRetrain (c : Ctl) (p : Nat) : Ctl := if c.ringOn && c.ea 0x2001 p = 1 then c.portStart p else c
/-- PORT_RETRAIN. -/
def execPortRetrain (dt port : Nat) (s : State) : Host.Outcome State Fault Refusal := runC (fun c => (c.advance dt).portRetrain port) s
/-- LANE_CONTROL_FRAME. -/
def execLaneControlFrame (dt lane : Nat) (bytes : List Byte) (s : State) : Host.Outcome State Fault Refusal :=
  runC (fun c => (c.advance dt).laneFrame lane bytes) s
/-- LANE_CONTROL_PERIOD. -/
def execLaneControlPeriod (dt lane : Nat) (res : List (Nat × Nat × Nat × Nat × Nat)) (s : State) : Host.Outcome State Fault Refusal :=
  runC (fun c => (c.advance dt).controlPeriod lane res) s
/-- LEADER_STEP_TIMER. -/
def execLeaderStepTimer (dt port : Nat) (s : State) : Host.Outcome State Fault Refusal := runC (fun c => (c.advance dt).leaderTimer port) s
/-- TRAIN_RETRY. -/
def execTrainRetry (dt port : Nat) (s : State) : Host.Outcome State Fault Refusal :=
  runC (fun c => let c := c.advance dt; if (c.port port).stage = 4 && c.up ≥ (c.port port).retryAt then c.portStart port else c) s
/-- RELOCK_DONE. -/
def execRelockDone (dt port : Nat) (ok : List Nat) (bad : List (Nat × Nat)) (s : State) : Host.Outcome State Fault Refusal :=
  runC (fun c => (c.advance dt).relockDone port ok bad) s
/-- ADAPTATION_DONE. -/
def execAdaptationDone (dt lane h w : Nat) (s : State) : Host.Outcome State Fault Refusal := runC (fun c => (c.advance dt).adaptationDone lane h w) s
/-- STEP_CHECK_DONE. -/
def execStepCheckDone (dt port : Nat) (res : List (Nat × Nat × Nat × Nat × Nat)) (solo : Option Nat) (s : State) : Host.Outcome State Fault Refusal :=
  runC (fun c => let c := c.advance dt; match solo with
    | some n => c.soloCheck (9 * port + n) res
    | none => c.portCheck port res) s
/-- NO_PARTNER_TIMEOUT. -/
def execNoPartnerTimeout (dt port : Nat) (s : State) : Host.Outcome State Fault Refusal := runC (fun c => (c.advance dt).noPartner port) s
/-- LANE_RETRAIN. -/
def execLaneRetrain (dt lane : Nat) (s : State) : Host.Outcome State Fault Refusal := runC (fun c => (c.advance dt).laneRetrain lane) s
/-- RETRAIN_RETRY. -/
def execRetrainRetry (dt lane : Nat) (s : State) : Host.Outcome State Fault Refusal := runC (fun c => (c.advance dt).retrainRetry lane) s
/-- EYE_UPDATE. -/
def execEyeUpdate (dt lane h w errors nbits : Nat) (s : State) : Host.Outcome State Fault Refusal :=
  runC (fun c => (c.advance dt).eyeUpdate lane h w errors nbits) s
/-- QUIET_CHECK_PERIOD. -/
def execQuietCheckPeriod (dt lane h w : Nat) (s : State) : Host.Outcome State Fault Refusal := runC (fun c => (c.advance dt).quietCheck lane h w) s
/-- BRUMATION_EXIT. -/
def execBrumationExit (dt port : Nat) (s : State) : Host.Outcome State Fault Refusal := runC (fun c => (c.advance dt).brumationExit port) s
/-- LANE_TEST. -/
def execLaneTest (dt lane : Nat) (s : State) : Host.Outcome State Fault Refusal := runC (fun c => (c.advance dt).laneTest lane) s
/-- TEST_INJECT. -/
def execTestInject (dt lane : Nat) (s : State) : Host.Outcome State Fault Refusal := runC (fun c => (c.advance dt).testInject lane) s
/-- RETURN_LANE_SYNC_LOSS. -/
def execReturnLaneSyncLoss (dt r : Nat) (seen : List Nat) (s : State) : Host.Outcome State Fault Refusal :=
  runC (fun c => (c.advance dt).returnLost r seen) s
/-- RETURN_LANE_SYNC_REGAINED. -/
def execReturnLaneSyncRegained (dt r : Nat) (seen : List Nat) (s : State) : Host.Outcome State Fault Refusal :=
  runC (fun c => (c.advance dt).returnBack r seen) s
/-- FIELD_PORT_RECOVERED. -/
def execFieldPortRecovered (dt f : Nat) (s : State) : Host.Outcome State Fault Refusal := runC (fun c => (c.advance dt).fieldBack f) s

end Sys2Proof.Machine
end

