-- ==== Sys2Proof/Machine/PanelOps.lean ====
section
/-! DEFINITION. Panel drive's own operations (09): lane states, packets, the load of a frame, and the end of a load. Easel hands its rays
to them; the commands of the chapter are in Panel.lean. -/
namespace Sys2Proof.Machine

/-! ### Accessors -/

/-- Change panel drive's part. -/
def Ctl.setPd (c : Ctl) (f : PdState → PdState) : Ctl := { c with pd := f c.pd }
/-- Panel lane `k`. -/
def Ctl.pdLane (c : Ctl) (k : Nat) : PdLane := c.pd.lanes.getD k {}
/-- Change panel lane `k`. -/
def Ctl.updPd (c : Ctl) (k : Nat) (f : PdLane → PdLane) : Ctl := c.setPd (fun p => { p with lanes := updAt p.lanes k f })
/-- LANE_STATE of panel lane `k` (R296): 0 UNUSED, 1 LINKING, 2 IN_SERVICE, 3 LOST, 4 PROBATION. -/
def Ctl.pdSt (c : Ctl) (k : Nat) : Nat := c.ea 0x4412 k
/-- Lanes in service. -/
def Ctl.pdService (c : Ctl) : List Nat := (List.range 32).filter (fun k => c.pdSt k = 2)
/-- PANEL_RATE codes in kb/s (R264). -/
def panelKbps (k : Nat) : Nat := [1250000, 3125000, 6250000, 10312500].getD k 10312500

/-- A lane's state, with the serial lane's own (11 R351): UNUSED is DISABLED in Brumation, LINKING is TRAINING, a LOST lane retrains. -/
def Ctl.setPdSt (c : Ctl) (k st : Nat) : Ctl :=
  let c := c.setEa 0x4412 k st
  let l := 18 + k
  if c.laneSt l = 5 then c
  else if st = 0 then ((c.setLaneSt l 0).setEa 0x2011 l 2).setEa 0x2012 l 0
  else ((c.setLaneSt l (if st = 1 then 1 else if st = 3 then 4 else 2)).setEa 0x2011 l 0).setEa 0x2012 l (panelKbps (c.e 0x440003))

/-- A warning or error of a lane or IC, at most once per frame (R295). -/
def Ctl.pdPost (c : Ctl) (code lane ic : Nat) (items : List (Nat × Nat)) : Ctl :=
  let k := code * 65536 + lane * 256 + ic
  if c.pd.posted.contains k then c else (c.setPd (fun p => { p with posted := k :: p.posted })).post code items

/-! ### The stall of Easel's array (06 R200) -/

/-- Change Easel's part. -/
def Ctl.setEs (c : Ctl) (f : EsState → EsState) : Ctl := { c with es := f c.es }

/-- Change the frame in production. -/
def Ctl.setFr (c : Ctl) (f : EsFrame → EsFrame) : Ctl := c.setEs (fun e => { e with fr := e.fr.map f })


/-- Easel cycles of a time (assumption log 106). -/
def cyclesOf (d : Nat) : Nat := d * 5 / 262144

/-- A cause of a stall holds: a full lane buffer, or a reload. -/
def Ctl.esBlocked (c : Ctl) : Bool := !c.es.reload.isEmpty || c.pd.lanes.any (fun x => x.inLoad && x.full)

/-- The array stalls, or goes on and its stall counts. -/
def Ctl.settleStall (c : Ctl) : Ctl :=
  match c.es.fr, c.es.stallAt with
  | none, _ => c.setEs (fun e => { e with stallAt := none })
  | some f, none => if f.started && c.esBlocked then c.setEs (fun e => { e with stallAt := some c.up }) else c
  | some _, some t =>
    if c.esBlocked then c
    else (c.setFr (fun f => { f with stall := f.stall + cyclesOf (c.up - t) })).setEs (fun e => { e with stallAt := none })

/-- A block, record or entry is being reloaded: the array stalls. -/
def Ctl.esReload (c : Ctl) (kind i : Nat) : Ctl := (c.setEs (fun e => { e with reload := (kind, i) :: e.reload.filter (· ≠ (kind, i)) })).settleStall

/-! ### Packets (R265 to R269) -/

/-- The block payloads of a packet: START, data, trailer. -/
def pdPacket (ptype tag ic spec : Nat) (data : List Byte) (bx : Bool) : List Byte :=
  let h := toBE 7 (ptype * 2 ^ 52 + tag * 2 ^ 48 + ic * 2 ^ 40 + spec)
  byteOf 0x78 :: h ++ data ++ toBE 8 (b2n bx * 2 ^ 32 + crc32 (h ++ data))

/-- TAG of the next flip: its flip number (13 R383) modulo 16 (R282; assumption log 90). -/
def Ctl.pdTag (c : Ctl) : Nat := c.nextFlip % 16

/-- A packet leaves on a lane, scrambled from where the lane's scrambler stands (assumption log 90). -/
def Ctl.pdSend (c : Ctl) (k ptype ic spec : Nat) (data : List Byte) (bx : Bool) : Ctl :=
  let b := pdPacket ptype c.pdTag ic spec data bx
  c.emit { kind := .panel, a := k, b := ptype, c := c.pdTag, bytes := b, wire := wireBlocks 2 (Config.scramblerAt (18 + k) (c.up * 2 ^ 32 + c.out.length) % 2 ^ 58) (packetWords b) }

/-- Data blocks of a LOAD packet (R269). -/
def loadBlocks (vals : List Nat) : List Byte :=
  let b := vals.flatMap (fun v => toBE 6 v)
  b ++ List.replicate (8 * ceilDiv b.length 8 - b.length) 0

/-! ### LOAD_ROW (R287) -/

/-- Rays of each hogel row in the scan schedule. -/
def rowCounts (g : List Byte) : List Nat :=
  let w := max 1 (imgVx g * imgVy g * imgCols g)
  let rows := ((schedEntries (imgSec g 4)).filter (fun e => scanOp e = 0)).flatMap (fun e => (scanRays e).map (fun n => n / w))
  (List.range (imgRows g)).map (fun r => rows.count r)

/-- LOAD_ROW of the rays left by row. -/
def loadRow (left : List Nat) : Nat :=
  let k := (left.takeWhile (fun n => n = 0)).length
  if k = 0 then 0xFFFF else k - 1

/-- LOAD_ROW as the load stands; a load that has stopped leaves it. -/
def Ctl.showRow (c : Ctl) : Ctl := if c.pd.loading.isSome then c.setE 0x440007 (loadRow c.pd.rowLeft) else c

/-- Rays of the rows have left. -/
def Ctl.rowsSent (c : Ctl) (rows : List Nat) : Ctl :=
  c.setPd (fun p => { p with rowLeft := rows.foldl (fun l r => updAt l r (· - 1)) p.rowLeft })

/-! ### Drive values for the return encoder (10 R298) -/

/-- A view that an enabled return stream captures. -/
def Ctl.enWants (c : Ctl) (v : Nat) : Bool :=
  (List.range 16).any (fun s => c.ea 0x3110 s = 1 && c.ea 0x3112 s = 0 &&
    bits (c.ea 0x3113 s) 15 8 * imgVx c.img + bits (c.ea 0x3113 s) 7 0 = v)

/-- Panel drive takes the value of ray `n` for the frame that loads. -/
def Ctl.enTake (c : Ctl) (n v : Nat) : Ctl :=
  if c.enWants (n % max 1 (imgVx c.img * imgVy c.img)) then { c with en := { c.en with taken := (n, v) :: c.en.taken } } else c

/-! ### From the scan schedule to packets (R278) -/

/-- The scan entries of a lane, each behind the number of its block (03 R76: 31 entries each). -/
def laneWalk (g : List Byte) (k : Nat) : List (Nat × Nat) :=
  let l := schedEntries (imgSec g 4)
  (((List.range l.length).map (· / 31)).zip l).filter (fun q => scanLane q.2 = k)

/-- The scan entries of a lane. -/
def laneEnts (g : List Byte) (k : Nat) : List Nat := (laneWalk g k).map Prod.snd

/-- A packet of the load leaves on a lane; a lane out of the load discards it at its buffer (R279). -/
def Ctl.loadSend (c : Ctl) (k ptype ic spec : Nat) (data : List Byte) (bx : Bool) : Ctl :=
  if (c.pdLane k).inLoad then c.pdSend k ptype ic spec data bx else c

/-- A lane's open LOAD packet closes and leaves; it passes the snoop point PANEL_LOAD (15 R438). -/
def Ctl.pdClose (c : Ctl) (k : Nat) : Ctl :=
  let x := c.pdLane k
  if x.pkt.isEmpty then c else
  let bx := x.pkt.any PdRay.flag
  let data := loadBlocks (x.pkt.map PdRay.value)
  let c := c.loadSend k 3 0 x.pkt.length data bx
  let c := if x.inLoad then c.snoopPass 4 (k % 32 + 128 * b2n bx) data else c
  let c := (c.rowsSent (x.pkt.map PdRay.row)).updPd k (fun y => { y with pkt := [] })
  match bx && x.inLoad, x.slice with
  | true, some s => c.setPd (fun p => { p with bxSlices := insertRising p.bxSlices s })
  | _, _ => c

/-- A lane walks on to its next RUN that has rays left, or to its END; under cut-through it waits at a SLICE entry, and it uses no entry of
a block that has failed its check and is being reloaded (03 R104). -/
def Ctl.pdSettle (ents : List (Nat × Nat)) (k : Nat) : Nat → Ctl → Ctl
  | 0, c => c
  | n + 1, c =>
    let x := c.pdLane k
    let next := fun (c : Ctl) => Ctl.pdSettle ents k n (c.updPd k (fun y => { y with idx := y.idx + 1, taken := 0 }))
    match ents[x.idx]? with
    | none => c.pdClose k
    | some (b, e) =>
      if c.es.reload.contains (2, b) then c
      else if scanOp e = 0 then (if x.taken < scanCount e then c else next c)
      else if scanOp e = 1 then next ((c.pdClose k).loadSend k 2 (bits e 55 48) (bits e 47 32 * 2 ^ 24 + bits e 31 16 * 2 ^ 8) [] false)
      else if scanOp e = 2 then
        (if c.pd.cut then c.pdClose k else next ((c.pdClose k).updPd k (fun y => { y with slice := some (bits e 31 0) })))
      else c.pdClose k

/-- The lane has taken all that its entries name (its END is next). -/
def Ctl.pdAtEnd (c : Ctl) (k : Nat) : Bool :=
  let ents := laneEnts c.img k
  match ents[(c.pdLane k).idx]? with
  | none => true
  | some e => scanOp e = 3

/-- Lane `k` walks on through the scan schedule. -/
def Ctl.walkLane (c : Ctl) (k : Nat) : Ctl := let ents := laneWalk c.img k; c.pdSettle ents k (ents.length + 1)

/-- Every lane walks on: a block is in place again (03 R104). -/
def Ctl.walkOn (c : Ctl) : Ctl := if c.pd.loading.isNone then c else ((List.range 32).foldl Ctl.walkLane c).showRow

/-- Scan blocks fail the check of panel drive as it comes to them: none is used, SCHEDULE_CHECK, and each is reloaded (03 R104; assumption log 92). -/
def Ctl.scanCheck (c : Ctl) (bad : List Nat) : Ctl :=
  bad.foldl (fun c b =>
    if decide (31 * b ≥ (schedEntries (imgSec c.img 4)).length) || c.es.reload.contains (2, b) then c
    else (c.postBlock 0x31C1 [] (2 ^ 32 + b)).esReload 2 b) c

/-- A ray of a RUN entry of lane `k`: it joins the open LOAD packet (R278; assumption log 92). -/
def Ctl.pdPush (c : Ctl) (k : Nat) (r : PdRay) : Ctl :=
  if c.pd.loading.isNone then c else
  let x := c.pdLane k
  let c := c.updPd k (fun y => { y with pkt := y.pkt ++ [r], taken := y.taken + 1 })
  let c := if x.pkt.length + 1 = 256 then c.pdClose k else c
  c.walkLane k

/-! ### Begin and end of a load (R278, R282, R283, R292) -/

/-- A lane clean through its PROBATION joins the load that starts (R292). -/
def Ctl.pdRejoin (c : Ctl) : Ctl :=
  (List.range 32).foldl (fun c k => if c.pdSt k = 4 && (c.pdLane k).ready then
    ((c.setPdSt k 2).updPd k (fun x => { x with ready := false, probFrom := none })).post 0x3402 [i8 k] else c) c

/-- LOAD_BEGIN on every lane in service; the load of frame `f` runs, and every lane's walk begins (R278; assumption log 92). -/
def Ctl.loadBegins (c : Ctl) (f : Nat) (cut : Bool) : Ctl :=
  let c := c.pdRejoin
  let c := { c with en := { c.en with taken := [] } }
  let c := c.setPd (fun p => { p with loading := some f, began := some f, cut := cut, rowLeft := rowCounts c.img, bxSlices := [] })
  let c := (List.range 32).foldl (fun c k =>
    let c := c.updPd k (fun x => { x with
      inLoad := c.pdSt k = 2, idx := 0, taken := 0, pkt := [], slice := none, bad := false, complete := false, full := false })
    (c.loadSend k 1 0xFF 0 [] false).walkLane k) c
  c.setE 0x440007 0xFFFF

/-- The load stops: packets queued or in progress are dropped (R282 step 1), and no buffer stalls Easel any more (06 R200). -/
def Ctl.loadStops (c : Ctl) : Ctl :=
  (c.setPd (fun p => { p with loading := none, lanes := p.lanes.map (fun x => { x with inLoad := false, pkt := [], full := false }) })).settleStall

/-- Lanes in service that have not completed the load, those that came into service during it with them (R282, R283). -/
def Ctl.loadMissing (c : Ctl) : List Nat := (List.range 32).filter (fun k => c.pdSt k = 2 && !(c.pdLane k).complete)

/-- The requests of a lane that wait are dropped, and the one outstanding when `cut` says so: its answer is then nobody's. An IC access that
ends so has timed out (R290). -/
def Ctl.dropRequests (c : Ctl) (k : Nat) (cut : PdKind → Bool) : Ctl :=
  let gone := fun (r : PdRet) => r.out.any (fun q => q.lane = k && cut q.kind)
  let c := if c.pd.rets.any (fun r => gone r && r.out.any (fun q => q.kind = .access)) then c.setE 0x442006 3 else c
  c.setPd (fun p => { p with rets := p.rets.map (fun r =>
    { r with queue := r.queue.filter (fun q => q.lane ≠ k), out := if gone r then none else r.out }) })

/-- A request of a link-up. -/
def PdKind.linkUp : PdKind → Bool
  | .linkLast | .linkNext | .linkReg | .linkInit => true
  | .poll | .last | .first | .access => false

/-! ### Link-up and loss of a lane (R291, R292, R294) -/

/-- A lane starts to train at PANEL_RATE with its fixed taps (R294 step 1, 11 R341; assumption log 91). -/
def Ctl.linkStart (c : Ctl) (k : Nat) (again : Bool) : Ctl :=
  let t := c.ea 0x2015 (18 + k)
  let ok := tapsOk ((tapList t).map Int.ofNat)
  let c := c.setEa 0x2014 (18 + k) (if ok then t else tapPreset)
  let c := if ok then c else c.post 0x1041 [i8 (18 + k), i8 (c.e 0x440003), i8 7]
  let c := ((c.incEa 0x201B (18 + k)).setLane (18 + k) (fun x => { x with startedAt := c.up })).setPdSt k (if again then 3 else 1)
  let c := c.dropRequests k PdKind.linkUp
  c.updPd k (fun x => { x with lockAt := some c.up, linking := false, again := again, gather := 0, missLast := 0, missFirst := 0, probFrom := none, ready := false })

/-- A lane becomes LOST: it leaves the load, its rays are discarded and it stalls nothing (R279, R287), and it retrains (R291, R292; assumption
log 91). -/
def Ctl.pdLost (c : Ctl) (k : Nat) : Ctl :=
  let x := c.pdLane k
  let c := ((c.rowsSent (x.pkt.map PdRay.row)).updPd k (fun y => { y with inLoad := false, pkt := [], full := false })).showRow
  ((c.orReg .pdLaneFault 0 0 k).linkStart k true).settleStall

/-- The fault manager orders a lane out of service (R291). -/
def Ctl.pdOrderOut (c : Ctl) (k : Nat) : Ctl := if c.pdSt k = 2 ∨ c.pdSt k = 4 then c.pdLost k else c

/-! ### The commit check of FLIP_LEAD (R285) -/

/-- Greatest chain time of the lanes in service, 1/16 ns. -/
def Ctl.chainMax (c : Ctl) : Nat := maxOf (c.pdService.map (fun k => (c.pdLane k).chain))

/-- FLIP_LEAD_SHORT: a set that gives FLIP_LEAD `lead` ns; answers the greatest chain time in ns when it fails. -/
def Ctl.leadCheck (c : Ctl) (lead : Nat) : Option Nat := if lead * 16 < c.chainMax then some (ceilDiv c.chainMax 16) else none

end Sys2Proof.Machine
end

