-- ==== Sys2Proof/Machine/EaselOps.lean ====
section
/-! DEFINITION. Easel as functions (06 R174 to R196): the order of rays and probes, array cycles, lookups in the tile cache, one sample,
the sort and the blend of one ray. -/
namespace Sys2Proof.Machine

/-! ### The order of rays and probes (R174, R176) -/

/-- One ray of the scan schedule: its phase, ray index, panel lane and ray slice. -/
structure ScanRay where
  phase : Nat
  n : Nat
  lane : Nat
  slice : Option Nat
  deriving DecidableEq, Repr

/-- START_SLICE of each phase marker of the fetch schedule. -/
def phaseStarts (g : List Byte) : List Nat := ((schedEntries (imgSec g 3)).filter fetchMark).map fetchStart

/-- The walk over the scan entries: phase reached, SLICE numbers met, the slice of each lane, rays in reverse. -/
structure ScanWalk where
  phase : Nat := 0
  seen : List Nat := []
  slices : List (Nat × Nat) := []
  rays : List ScanRay := []

/-- One scan entry of the walk: a phase begins with the first RUN after its SLICE entry. -/
def ScanWalk.step (starts : List Nat) (w : ScanWalk) (e : Nat) : ScanWalk :=
  if scanOp e = 2 then { w with seen := bits e 31 0 :: w.seen, slices := aSet w.slices (scanLane e) (bits e 31 0) }
  else if scanOp e = 0 then
    let p := (List.range starts.length).foldl (fun p _ => match starts[p + 1]? with
      | some s => if w.seen.contains s then p + 1 else p
      | none => p) w.phase
    { w with phase := p, rays := ((scanRays e).map (fun n => ⟨p, n, scanLane e, aGet w.slices (scanLane e)⟩)).reverse ++ w.rays }
  else w

/-- Every ray of a frame in scan order. -/
def frameRays (g : List Byte) : List ScanRay :=
  ((schedEntries (imgSec g 4)).foldl (ScanWalk.step (phaseStarts g)) {}).rays.reverse

/-- Rays of phase `p` (assumption log 93). -/
def phaseRays (g : List Byte) (p : Nat) : List ScanRay := (frameRays g).filter (fun r => r.phase = p)

/-- The hogel of a ray index (02 R50). -/
def hogelOf (g : List Byte) (n : Nat) : Nat := n / max 1 (imgVx g * imgVy g)

/-- Numbers without repeats, in the order of their first appearance. -/
def firsts (l : List Nat) : List Nat := (l.foldl (fun a n => if a.contains n then a else n :: a) []).reverse

/-- Slots of a class among those used and not shed, ascending (1 scene; any for `none`). -/
def liveSlots (g : List Byte) (shed : Nat) (cls : Option Nat) : List Nat :=
  (List.range 16).filter (fun s => let k := (slotPlan (imgSec g 7) s).cls; k ≠ 0 && !bit shed s && (cls = none || cls = some k))

/-- Probes of some rays: hogel × 16 + slot, in order. -/
def probesOf (g : List Byte) (shed : Nat) (rays : List ScanRay) : List Nat :=
  (firsts (rays.map (fun r => hogelOf g r.n))).flatMap (fun h => (liveSlots g shed (some 1)).map (fun s => 16 * h + s))

/-! ### Array cycles (R175, R177, R186) -/

/-- Cycles of a group: S, and 1 when every slot is shed. -/
def groupCycles (g : List Byte) (shed : Nat) : Nat := max 1 (liveSlots g shed none).length

/-- Phases of the image. -/
def phaseCount (g : List Byte) : Nat := (phaseStarts g).length

/-- C: the array cycles of a frame at B Brushes (assumption log 106). -/
def frameCycles (g : List Byte) (b shed : Nat) : Nat :=
  ((List.range (phaseCount g)).map (fun p =>
    let rays := phaseRays g p
    ceilDiv rays.length b * groupCycles g shed + ceilDiv (probesOf g shed rays).length b)).foldl (· + ·) 0

/-- Easel cycles as time × 5, in units of the Tick: 0.8 ns each. -/
def cycles5 (n : Nat) : Nat := n * 4 * 65536

/-- T_end lies within the limit: the flip period less 20 µs (R186). -/
def endOk (period rayStart cycles : Nat) : Bool := decide (5 * tUs rayStart + cycles5 (cycles + 81) + 5 * tUs 20 ≤ 5 * period)

/-- T_end in µs. -/
def endUs (rayStart cycles : Nat) : Nat := rayStart + (cycles + 81) * 4 / 5000

/-- ORDER of the image, the used slots of it. -/
def shedOrder (g : List Byte) : List Nat :=
  let live := liveSlots g 0 none
  (prioOrder (imgSec g 8)).filter live.contains

/-- The mask of the first `k` slots of ORDER. -/
def shedFirst (g : List Byte) (k : Nat) : Nat := maskOf ((shedOrder g).take k)

/-- The least number of slots of ORDER to shed so that the test holds; all of them where it never does. -/
def shedNeed (g : List Byte) (ok : Nat → Bool) : Nat :=
  let n := (shedOrder g).length
  ((List.range n).find? (fun k => ok (shedFirst g k))).getD n

/-! ### The tile cache (R188, R193) -/

/-- Fields of a texel word (05 R153). -/
def texD (w : Nat) : Nat := bits w 63 48
/-- Alpha of a texel word. -/
def texA (w : Nat) : Nat := bits w 47 36

/-- Tags that a ray of phase `q` sees: in each cache frame the last fill of a phase not later than `q`. -/
def EsFrame.visible (f : EsFrame) (q : Nat) : List EsTag :=
  let old := f.tags.filter (fun t => decide (t.phase ≤ q))
  old.filter (fun t => !old.any (fun u => u.frame = t.frame && decide (t.entry < u.entry)))

/-- The outcome of a tap or probe lookup of a slot's key view at a texel (R193; assumption log 93, 94; assumption log 94). -/
def EsFrame.look (f : EsFrame) (p : SlotPlan) (q slot key : Nat) (x y : Int) : Look :=
  if x < 0 ∨ y < 0 ∨ x ≥ p.w ∨ y ≥ p.h then .outside else
  let u := x.toNat / 32
  let v := y.toNat / 32
  match (f.visible q).reverse.find? (fun t => t.slot = slot && t.key = key && t.u = u && t.v = v) with
  | none => .absent
  | some t =>
    if f.badFrames.contains t.frame then .absent else
    match t.st with
    | .valid => .present (((aGet f.cache t.frame).getD []).getD (32 * (y.toNat % 32) + x.toNat % 32) 0)
    | .outside => .outside
    | .culled => .culled t.dcut
    | _ => .absent

/-! ### One sample (R180 to R183, R187, R194, R195) -/

/-- One sample of a ray: its slot, Z, alpha and linear colour; culled; flagged. -/
structure Sample where
  slot : Nat
  z : F32
  a : F32 := 0
  r : F32 := 0
  g : F32 := 0
  b : F32 := 0
  culled : Bool := false
  flag : Bool := false
  deriving DecidableEq, Repr

/-- Value of a tap: colour codes, alpha, depth. -/
structure Tap where
  r : F32
  g : F32
  b : F32
  a : F32
  d : F32

/-- The taps of a footprint, (0,0), (1,0), (0,1), (1,1), with each absent one taking another's value (R195); none where it finds none. -/
def substitute (l : List Look) : Option (List Look) :=
  let ok := fun (x : Look) => match x with
    | .present _ => true
    | .outside => true
    | _ => false
  let pick := fun k => match l.getD k .absent with
    | .absent => ([Nat.xor k 1, Nat.xor k 2, Nat.xor k 3].map (fun j => l.getD j .absent)).find? ok
    | x => some x
  (List.range 4).mapM pick

/-- What Glaze gives Easel for a slot and a frame: conversion, and the pre-blend table. -/
structure SlotGlaze where
  mode : Nat
  custom : List Byte
  pre : List Byte
  bad : Nat → Nat → Bool

/-- The Glaze settings of a slot. -/
def Ctl.slotGlaze (c : Ctl) (s : Nat) : SlotGlaze :=
  ⟨c.convMode s, (c.ev (ekey 0x4302 (s + 1))).toOct, (c.ev (ekey 0x4303 (s + 1))).toOct, fun k i => c.glazeIsBad s k i⟩

/-- A lookup as a tap (R181). -/
def SlotGlaze.tap (z : SlotGlaze) : Look → Tap
  | .present w =>
    let t := convTexel z.mode z.custom (bits w 11 0) (bits w 23 12) (bits w 35 24)
    ⟨t.1, t.2.1, t.2.2, f32OfInt (texA w), f32OfInt (texD w)⟩
  | _ => ⟨0, 0, 0, 0, 0⟩

/-- The bilinear filter of R182 over one component. -/
def bilinear (fu fv : Nat) (t : List F32) : F32 :=
  let w := fun (a b : Nat) => f32OfScaled ((a * b : Nat) : Int) (-16)
  f32Add (f32Add (f32Add (f32Mul (w (256 - fu) (256 - fv)) (t.getD 0 0)) (f32Mul (w fu (256 - fv)) (t.getD 1 0)))
    (f32Mul (w (256 - fu) fv) (t.getD 2 0))) (f32Mul (w fu fv) (t.getD 3 0))

/-- Z of a filtered depth code: Z0 + Df × DZ (R183). -/
def depthF (g : List Byte) (s : Nat) (d : F32) : F32 := f32Add (placeF g s 40) (f32Mul d (placeF g s 44))

/-- Alpha of a sample: Af / 4,095, at most 1. Taps that all store 0xFFF, as a layer without alpha does, give 1.0 exactly (R183; assumption
log 122). -/
def alphaOf (taps : List F32) (af : F32) : F32 :=
  let a := f32Div af (f32OfInt 4095)
  if taps.all (· = f32OfInt 4095) || f32Lt f32One a then f32One else a

/-- The greater of two depths. -/
def fMax (a b : F32) : F32 := if f32Lt a b then b else a

/-- The sample at position `q` of a slot's key view; `z` is its Z where no tap gives one, `flat` its fixed Z (assumption log 122). -/
def sampleAt (g : List Byte) (f : EsFrame) (z : SlotGlaze) (ph s key : Nat) (flat : Option F32) (zNo : F32) (q : F32 × F32) : Sample :=
  let p := slotPlan (imgSec g 7) s
  let u := f32RneScaled 8 q.1
  let v := f32RneScaled 8 q.2
  let fu := (u % 256).toNat
  let fv := (v % 256).toNat
  let taps := (List.range 4).map (fun k => f.look p ph s key (u / 256 + (k % 2 : Nat)) (v / 256 + (k / 2 : Nat)))
  let cuts := taps.filterMap (fun t => match t with
    | .culled d => some (depthOf g s d)
    | _ => none)
  match cuts with
  | k :: ks => { slot := s, z := ks.foldl fMax k, culled := true }
  | [] =>
    let lost := taps.any (fun t => t = .absent)
    match substitute taps with
    | none => { slot := s, z := zNo, flag := true }
    | some l =>
      let t := l.map z.tap
      let fl := fun (sel : Tap → F32) => bilinear fu fv (t.map sel)
      { slot := s, flag := lost, a := alphaOf (t.map Tap.a) (fl Tap.a),
        r := preLookup z.pre (z.bad 0) 0 (fl Tap.r), g := preLookup z.pre (z.bad 1) 1 (fl Tap.g), b := preLookup z.pre (z.bad 2) 2 (fl Tap.b),
        z := flat.getD (depthF g s (fl Tap.d)) }

/-- The sample of slot `s` for a ray; none where the slot is transparent for it. -/
def raySample (g : List Byte) (f : EsFrame) (z : SlotGlaze) (ph hogel s : Nat) (r : RayGeo) : Option Sample :=
  if !(f.descs.getD s {}).sampled then none else
  let p := slotPlan (imgSec g 7) s
  let pt := zeroPoint g s r.hx r.hy
  let gs := slopeTexels g s r.sx r.sy
  if p.cls = 2 then
    let zp := placeF g s 48
    some (sampleAt g f z ph s 0 (some zp) zp (flatPoint g s pt gs))
  else
    let key := viewKey r.view s
    match (aGet f.probes ((16 * hogel + s) * 16 + key)).getD .absent with
    | .outside => none
    | .absent => some { slot := s, z := placeF g s 40, flag := true }
    | .culled d => some { slot := s, z := depthOf g s d, culled := true }
    | .present w =>
      let d := clampN p.dlo p.dhi (texD w)
      let zz := depthOf g s d
      let x := sampleAt g f z ph s key none zz (scenePoint g s key zz pt gs)
      some { x with flag := x.flag || d ≠ texD w }

/-! ### Sort and blend (R184, R185, R194) -/

/-- Sample `x` sorts before sample `y`: nearer, or as near in a lower slot. -/
def sampleBefore (x y : Sample) : Bool := f32Lt y.z x.z || (!f32Lt x.z y.z && decide (x.slot < y.slot))

/-- Insert in order. -/
def insertSample (x : Sample) : List Sample → List Sample
  | [] => [x]
  | y :: l => if sampleBefore x y then x :: y :: l else y :: insertSample x l

/-- The samples nearest first. -/
def sortSamples (l : List Sample) : List Sample := l.foldl (fun a x => insertSample x a) []

/-- Slots whose sample flags the ray: flagged themselves, or culled with no opaque sample before them (R194, R196). -/
def flaggedSlots : Bool → List Sample → List Nat
  | _, [] => []
  | opq, x :: l =>
    let here := x.flag || (x.culled && !opq)
    let rest := flaggedSlots (opq || (!x.culled && x.a = f32One)) l
    if here then x.slot :: rest else rest

/-- The blend, front to back, over the background. -/
def blendRay (bg : List F32) (l : List Sample) : F32 × F32 × F32 :=
  let step := fun (q : F32 × F32 × F32 × F32) (x : Sample) =>
    let t := q.2.2.2
    (f32Add q.1 (f32Mul t (f32Mul x.a x.r)), f32Add q.2.1 (f32Mul t (f32Mul x.a x.g)), f32Add q.2.2.1 (f32Mul t (f32Mul x.a x.b)),
      f32Mul t (f32Sub f32One x.a))
  let q := l.foldl step (0, 0, 0, f32One)
  let t := q.2.2.2
  (f32Add q.1 (f32Mul t (bg.getD 0 0)), f32Add q.2.1 (f32Mul t (bg.getD 1 0)), f32Add q.2.2.1 (f32Mul t (bg.getD 2 0)))

/-- The drive value of a blend result through the post-blend table of a bin: 48 bits, R on top (R185, 09 R269). -/
def driveOf (post : List Byte) (bad : Nat → Nat → Bool) (v : F32 × F32 × F32) : Nat :=
  let one := fun k x => postLookup post (bad k) k (f32Clamp 0 f32One x)
  one 0 v.1 * 2 ^ 32 + one 1 v.2.1 * 2 ^ 16 + one 2 v.2.2

/-- A ray's drive value and the slots that flag it. -/
def Ctl.rayValue (c : Ctl) (f : EsFrame) (shed ph n : Nat) : Nat × List Nat :=
  let g := c.img
  let r := rayGeo g n
  let vv := max 1 (imgVx g * imgVy g)
  if r.dark || f.dead.contains (0, r.rec_) || f.dead.contains (1, 256 * lensBank r.lens + n % vv) then (0, []) else
  let l := sortSamples ((liveSlots g shed none).filterMap (fun s => raySample g f (c.slotGlaze s) ph (hogelOf g n) s r))
  let bin := lensBin r.lens
  (driveOf (c.ev (ekey 0x4304 (bin + 1))).toOct (fun k i => c.glazeIsBad (16 + bin) k i) (blendRay f.bg l), flaggedSlots false l)

end Sys2Proof.Machine
end

