-- ==== Sys2Proof/Machine/Easel.lean ====
section
/-! DEFINITION. Easel (06): its commands, its frame at a flip, its part in an activation and in a commit check. -/
namespace Sys2Proof.Machine

/-- A warning or error of Easel, at most once per frame (R208). -/
def Ctl.esPost (c : Ctl) (code : Nat) (items : List (Nat × Nat)) : Ctl :=
  if c.es.posted.contains code then c else (c.setEs (fun e => { e with posted := code :: e.posted })).post code items

/-- Brushes in service. -/
def Ctl.brushes (c : Ctl) : Nat := c.e 0x400005

/-! ### The frame in production -/

/-- The next phase that has rays is the current one. -/
def EsFrame.norm (g : List Byte) (f : EsFrame) : EsFrame :=
  (List.range (phaseCount g)).foldl (fun f _ =>
    if decide (f.pos ≥ (phaseRays g f.phase).length) && decide (f.phase + 1 < phaseCount g) then
      { f with phase := f.phase + 1, pos := 0, probes := [], probed := [] } else f) f

/-- Rays of the phases up to `q` that have not been taken. -/
def EsFrame.left (g : List Byte) (f : EsFrame) (q : Nat) : Nat :=
  ((List.range (q + 1)).map (fun p => if p < f.phase then 0 else if p = f.phase then (phaseRays g p).length - f.pos else (phaseRays g p).length)).foldl
    (· + ·) 0

/-- Rays of the frame that have not been taken. -/
def EsFrame.rest (g : List Byte) (f : EsFrame) : Nat := f.left g (phaseCount g)

/-- The group that comes next. -/
def EsFrame.group (g : List Byte) (b : Nat) (f : EsFrame) : List ScanRay := ((phaseRays g f.phase).drop f.pos).take b

/-- Probes of some rays that have not been made in this phase. -/
def EsFrame.pending (g : List Byte) (shed : Nat) (f : EsFrame) (rays : List ScanRay) : List Nat :=
  (probesOf g shed rays).filter (fun p => !f.probed.contains p)

/-- The set that the next group sheds (assumption log 93). -/
def EsFrame.shedNow (f : EsFrame) : Nat := f.again.getD f.shed

/-- A frame's rays go on: it has started, nothing stalls the array, and no island reset has discarded it. -/
def Ctl.esRuns (c : Ctl) (f : EsFrame) : Bool := f.started && !f.lost && c.es.stallAt.isNone && decide (c.brushes ≠ 0)

/-- RAY_START_REACHED (R197 step 2). -/
def Ctl.rayStart (c : Ctl) : Ctl :=
  match c.es.fr with
  | none => c
  | some f => if f.started || f.lost || decide (c.up < f.flipUp + tUs f.rayStart) then c else (c.setFr (fun f => { f with started := true })).settleStall

/-- One probe (R176): the outcomes for every key view that the hogel's rays of the phase assign to the slot. -/
def EsFrame.probe (g : List Byte) (rays : List ScanRay) (f : EsFrame) (p : Nat) : EsFrame :=
  let h := p / 16
  let s := p % 16
  let mine := rays.filter (fun r => hogelOf g r.n = h)
  let one := fun (f : EsFrame) (r : ScanRay) =>
    let x := rayGeo g r.n
    let key := viewKey x.view s
    let t := probeTexel (zeroPoint g s x.hx x.hy)
    { f with probes := aSet f.probes (p * 16 + key) (f.look (slotPlan (imgSec g 7) s) f.phase s key t.1 t.2) }
  let f := mine.foldl one f
  { f with probed := p :: f.probed }

/-- PROBE_CYCLE (R176). -/
def Ctl.probeCycle (c : Ctl) : Ctl :=
  match c.es.fr with
  | none => c
  | some f =>
    let g := c.img
    if !c.esRuns f || (f.pending g f.shedNow (f.group g c.brushes)).isEmpty then c else
    let rays := phaseRays g f.phase
    let todo := (f.pending g f.shedNow rays).take c.brushes
    c.setFr (fun f => let f := todo.foldl (EsFrame.probe g rays) f; { f with cycles := f.cycles + 1 })

/-! ### Errors that a group meets (R104, R204, R205, 07 R235) -/

/-- One error by kind: 0 scan block, 1 lens record, 2 view entry (bank × 256 + entry), 3 cache frame, 4 Glaze entry, 5 a corrected cache
error, 6 a corrected Glaze error, 7 a corrected error of another partition (assumption log 94). -/
def Ctl.esError (c : Ctl) (q : Nat × Nat) : Ctl :=
  let i := q.2
  match q.1 with
  | 0 => (c.postBlock 0x31C1 [] (2 ^ 32 + i)).esReload 2 i
  | 1 => ((c.setFr (fun f => { f with dead := (0, i) :: f.dead })).postBlock 0x30C3 [i32 i, i8 0] 0).esReload 0 i
  | 2 => ((c.setFr (fun f => { f with dead := (1, i) :: f.dead })).postBlock 0x30C3 [i32 (i % 256), i8 (i / 256)] 1).esReload 1 i
  | 3 => (c.setFr (fun f => { f with badFrames := insertRising f.badFrames i })).post 0x30C2 [i16 i]
  | 4 => c.glazeError i
  | 5 => (c.incE 0x400011).incE 0x500007
  | 7 => c.incE 0x500007
  | _ => c.glazeCorrected

/-! ### A group (R174, R175, R196, R197) -/

/-- Fills of the phase that are still FILLING when its first group begins. -/
def Ctl.fillsLate (c : Ctl) (f : EsFrame) : Ctl :=
  let n := (f.tags.filter (fun t => t.phase = f.phase && t.st = .filling)).length
  if f.pos ≠ 0 || n = 0 then c else
  ((c.setFr (fun f => { f with late := f.late + n })).setReg .esEvents 0 1 1).esPost 0x3042 [i32 n, i16 f.phase]

/-- A ray leaves: its value goes to panel drive, its flag counts. -/
def Ctl.rayLeaves (c : Ctl) (r : ScanRay) (v : Nat × List Nat) : Ctl :=
  let g := c.img
  let c := (c.enTake r.n v.1).pdPush r.lane ⟨v.1, !v.2.isEmpty, r.n / max 1 (imgVx g * imgVy g * imgCols g)⟩
  if v.2.isEmpty then c else
  c.setFr (fun f => { f with
    rays := f.rays + 1, slices := (match r.slice with
      | some s => insertRising f.slices s
      | none => f.slices),
    first := (match f.first with
      | some s => some s
      | none => r.slice),
    slotRays := v.2.foldl (fun l s => updAt l s (· + 1)) f.slotRays })

/-- BOUNDS_EXCEEDED, once per frame. -/
def Ctl.boundsPost (c : Ctl) : Ctl :=
  match c.es.fr with
  | some f => if f.rays = 0 then c else (c.setReg .esEvents 0 0 1).esPost 0x3041 [i32 f.rays, i32 (f.first.getD 0)]
  | none => c

/-- RAY_GROUP (R175): `faults` are the errors that the group meets. -/
def Ctl.rayGroup (faults : List (Nat × Nat)) (c : Ctl) : Ctl :=
  match c.es.fr with
  | none => c
  | some f =>
    let g := c.img
    let group := f.group g c.brushes
    if !c.esRuns f || group.isEmpty || !(f.pending g f.shedNow group).isEmpty then c else
    let c := faults.foldl Ctl.esError c
    if c.es.stallAt.isSome then c else
    let c := c.fillsLate f
    let f := c.es.fr.getD f
    let c := group.foldl (fun c r => c.rayLeaves r (c.rayValue f f.shedNow f.phase r.n)) c
    let c := c.setFr (fun x =>
      EsFrame.norm g { x with pos := x.pos + group.length, cycles := x.cycles + groupCycles g x.shedNow, again := none })
    c.boundsPost.showRow

/-- LAST_RAY_OUT (R197 step 3). -/
def Ctl.lastRay (c : Ctl) : Ctl :=
  match c.es.fr with
  | none => c
  | some f =>
    if f.rest c.img ≠ 0 || f.endNs.isSome || f.lost || !f.started then c
    else c.setFr (fun f => { f with endNs := some ((c.up - f.flipUp) / 65536) })

/-! ### Fills (R190) -/

/-- The surface of a fill's key view in the latched descriptor (assumption log 94). -/
def EsFrame.surf (f : EsFrame) (e : Nat) : Option KeySurf := (f.descs.getD (fetchSlot e) {}).keys.find? (fun k => k.key = fetchKey e)

/-- The tile of a fill lies in the slot's grid and in the descriptor's window. -/
def EsFrame.inside (g : List Byte) (f : EsFrame) (e : Nat) : Bool :=
  let p := slotPlan (imgSec g 7) (fetchSlot e)
  decide (fetchU e < p.tw) && decide (fetchV e < p.th) && (match f.surf e with
    | some k => decide (k.tx ≤ fetchU e) && decide (fetchU e < k.tx + k.bw) && decide (k.ty ≤ fetchV e) && decide (fetchV e < k.ty + k.bh)
    | none => false)

/-- Address of a fill (R189). -/
def EsFrame.fillAddr (f : EsFrame) (e : Nat) : Nat :=
  match f.surf e with
  | some k => k.base + ((fetchV e - k.ty) * k.bw + (fetchU e - k.tx)) * 8192
  | none => 0

/-- STATE and DCUT of an issued entry: the first case that applies (R190). -/
def EsFrame.fillState (g : List Byte) (f : EsFrame) (i e : Nat) : TagSt × Nat :=
  let s := fetchSlot e
  if bit f.shed s || !(f.descs.getD s {}).sampled then (.suppressed, 0)
  else match fetchCullable e, aGet f.mask i with
    | true, some d => (.culled, d)
    | _, _ => if f.inside g e then (.filling, 0) else (.outside, 0)

/-- FILL_ISSUE (R190): the next entry, once the last ray of the phase before the previous one has been taken. `bad` is a schedule block
that fails its check (assumption log 94). -/
def Ctl.fillIssue (bad : Bool) (c : Ctl) : Ctl :=
  match c.es.fr with
  | none => c
  | some f =>
    let g := c.img
    match (fetchFills g)[f.issued]? with
    | none => c
    | some (i, p, e) =>
      if f.lost || c.es.reload.any (fun r => r.1 = 3) || (decide (2 ≤ p) && decide (f.left g (p - 2) ≠ 0)) then c
      else if bad then (c.postBlock 0x31C1 [] (2 * 2 ^ 32 + i / 31)).esReload 3 (i / 31)
      else
        let st := f.fillState g i e
        let t : EsTag := ⟨i, fetchFrame e, fetchSlot e, fetchKey e, fetchU e, fetchV e, p, st.1, st.2⟩
        c.setFr (fun f => { f with
          issued := f.issued + 1, tags := f.tags ++ [t], fills := f.fills + b2n (st.1 = .filling), culls := f.culls + b2n (st.1 = .culled) })

/-- FILL_COMPLETE (R190): the 8 KiB of an entry's tile; a poisoned burst leaves the tag POISONED (14 R410, client 1; assumption log 94). -/
def fillComplete (entry : Nat) (m : Mem) (c : Ctl) : Mem × Ctl :=
  match c.es.fr with
  | none => (m, c)
  | some f =>
    match f.tags.find? (fun t => t.entry = entry && t.st = .filling) with
    | none => (m, c)
    | some t =>
      let a := f.fillAddr (schedEntry (imgSec c.img 3) entry)
      let st : TagSt := if m.poisoned a 8192 then .poisoned else .valid
      let words := (List.range 1024).map (fun k => ofLE (m.read (a + 8 * k) 8))
      let c := c.readDram m 1 a 8192
      (m, c.setFr (fun f => { f with
        tags := f.tags.map (fun x => if x.entry = entry then { x with st := st } else x), cache := aSet f.cache t.frame words }))

/-! ### Reloads (R104, R204) -/

/-- Offset in the image and length of what is reloaded: 0 lens record, 1 view entry, 2 scan block, 3 fetch block. -/
def reloadAt (g : List Byte) (kind i : Nat) : Nat × Nat :=
  let off := fun ty => ((imgEnt g ty).map SecEnt.off).getD 0
  match kind with
  | 0 => (off 1 + 16 * i, 16)
  | 1 => (off 2 + 2880 + 16 * i, 16)
  | 2 => (off 4 + 64 + 256 * i, 256)
  | _ => (off 3 + 64 + 256 * i, 256)

/-- An uncorrectable word that the scrubber found in partition 2 or 3: the image manager reads its block from the active DRAM slot
(14 R420). The fabric's layout is not given, so which block a word lies in is free; a word of the lane maps reloads that section
(assumption log 38). -/
def scrubReload (mc : Mem × Ctl) (p : Nat × Nat) : Mem × Ctl :=
  match mc.2.xz.active with
  | none => mc
  | some s =>
    if !(p.1 = 2 || p.1 = 3) || !mc.2.cpaUp then mc else
    let b := Config.sramBlock p.1 p.2
    let g := mc.2.img
    let a := if p.1 = 2 then reloadAt g (b.1 % 2) b.2
      else if b.1 % 3 = 2 then ((imgEnt g 5).map (fun e => (e.off, e.len))).getD (0, 0)
      else reloadAt g (2 + b.1 % 3) b.2
    slotReadAt s a.1 a.2 mc.1 mc.2

/-- A reload is in place, read from the active DRAM slot (assumption log 94). -/
def reloadDone (kind i : Nat) (m : Mem) (c : Ctl) : Mem × Ctl :=
  match c.xz.active with
  | none => (m, c)
  | some s =>
    if !c.es.reload.contains (kind, i) then (m, c) else
    let a := reloadAt c.img kind i
    let was := c.xz.parityLost
    let r := slotReadAt s a.1 a.2 m (c.setXz (fun x => { x with parityLost := false }))
    let c := r.2
    if c.xz.parityLost then (r.1, c) else
    let c := c.setXz (fun x => { x with parityLost := was })
    let c := (c.setEs (fun e => { e with reload := e.reload.filter (· ≠ (kind, i)) })).settleStall
    (r.1, if kind = 2 then c.walkOn else c)

/-! ### Shedding (R186) and Brush faults (R206, R207) -/

/-- The slots to shed for a whole frame: those that R186 needs, and THROTTLE_SHED more while THROTTLE holds (19 R533; assumption log 93). -/
def Ctl.shedFor (c : Ctl) : Nat :=
  let g := c.img
  let need := shedNeed g (fun m => endOk c.period (c.e 0x400004) (frameCycles g c.brushes m))
  shedFirst g (need + (if c.throttled then c.e 0x130005 else 0))

/-- SHED_SLOTS changes: SLOTS_SHED, SLOTS_RESTORED. -/
def Ctl.setShed (c : Ctl) (new : Nat) : Ctl :=
  let old := c.e 0x400007
  let c := c.setE 0x400007 new
  let c := if (bitsOf 16 new).all (fun s => bit old s) then c else (c.setReg .esEvents 0 2 1).esPost 0x3044 [i16 new]
  if (bitsOf 16 old).all (fun s => bit new s) then c else c.post 0x3002 [i16 new]

/-- PREDICTED_CYCLES. -/
def Ctl.predict (c : Ctl) : Ctl := c.setE 0x400006 (if c.hasImage then frameCycles c.img c.brushes (c.e 0x400007) else 0)

/-- Array cycles that the rest of a frame takes. -/
def EsFrame.restCycles (g : List Byte) (b shed : Nat) (f : EsFrame) : Nat :=
  ((List.range (phaseCount g)).map (fun p =>
    if p < f.phase then 0 else
    let rays := phaseRays g p
    let n := if p = f.phase then rays.length - f.pos else rays.length
    let k := if p = f.phase then (f.pending g shed rays).length else (probesOf g shed rays).length
    ceilDiv n b * groupCycles g shed + ceilDiv k b)).foldl (· + ·) 0

/-- The rest of the frame ends in time. -/
def Ctl.restOk (c : Ctl) (f : EsFrame) (shed : Nat) : Bool :=
  let n := f.restCycles c.img c.brushes shed
  if f.started then decide (5 * (c.up - f.flipUp) + cycles5 (n + 56) + 5 * tUs 20 ≤ 5 * c.period) else endOk c.period f.rayStart n

/-- BRUSH_FAULT (R206, R207): `lost` array cycles of the group in progress are spent again. -/
def Ctl.brushFault (brush lost : Nat) (c : Ctl) : Ctl :=
  if brush ≥ 32 || c.ea 0x4001 brush = 1 then c else
  let c := ((c.setEa 0x4001 brush 1).setE 0x400005 (c.brushes - 1)).orReg .esBrushFault 0 0 brush
  let c := (c.setEs (fun e => { e with out := insertRising e.out brush, restore := e.restore.filter (· ≠ brush) })).unitOut 0x30 brush
  let c := c.post 0x30C1 [i8 brush]
  let c := match c.es.fr with
    | none => c
    | some f =>
      if f.rest c.img = 0 || f.lost || c.brushes = 0 then c else
      let more := (shedOrder c.img).filter (fun s => !bit f.shed s)
      let k := ((List.range more.length).find? (fun k => c.restOk f (f.shed ||| maskOf (more.take k)))).getD more.length
      let new := f.shed ||| maskOf (more.take k)
      let c := c.setFr (fun f => { f with
        shed := new, cycles := f.cycles + (if f.started then lost else 0), again := if f.started && decide (lost ≠ 0) then some f.shedNow else f.again })
      c.setShed new
  c.predict

/-- A Brush is ordered back: it returns at the start of the next frame (R207, 20 R560). -/
def Ctl.brushBack (c : Ctl) (brush : Nat) : Ctl :=
  if c.es.out.contains brush then c.setEs (fun e => { e with restore := insertRising e.restore brush }) else c

/-! ### At a flip (R197, R199, R201) -/

/-- The frame in production ends at its flip: rays left are discarded, the counters of the last frame change (assumption log 93). -/
def Ctl.esFinish (c : Ctl) : Ctl :=
  match c.es.fr with
  | none => c
  | some f =>
    let g := c.img
    let f := match c.es.stallAt with
      | some t => { f with stall := f.stall + cyclesOf (c.up - t) }
      | none => f
    let left := f.rest g
    let c := if left = 0 then c else (c.incE 0x400010).esPost 0x3081 [i32 left]
    let c := ((c.setE 0x400008 (f.cycles + f.stall)).setE 0x400009 (f.endNs.getD ((c.up - f.flipUp) / 65536))).setE 0x40000A f.stall
    let c := ((c.setE 0x40000B f.fills).setE 0x40000C f.culls).setE 0x40000D f.late
    let c := ((c.setE 0x40000E f.rays).setE 0x40000F f.slices.length).setReg .esBoundsSlice 0 0 (f.first.getD 0xFFFFFFFF)
    let c := (List.range 16).foldl (fun c s => c.setEa 0x4002 s (f.slotRays.getD s 0)) c
    c.setEs (fun e => { e with fr := none, stallAt := none })

/-- Brushes ordered back return (R207). -/
def Ctl.brushesBack (c : Ctl) : Ctl :=
  let back := c.es.restore
  let c := back.foldl (fun c b => (((c.setEa 0x4001 b 0).setE 0x400005 (c.brushes + 1)).unitBack 0x30 b).post 0x3001 [i8 b]) c
  let c := c.setEs (fun e => { e with restore := [], out := e.out.filter (fun b => !back.contains b) })
  if back.isEmpty then c else c.predict

/-- The shed set of the frame that starts, and PREDICTED_CYCLES (assumption log 93). -/
def Ctl.shedStart (c : Ctl) : Ctl := if c.hasImage && decide (c.brushes ≠ 0) then (c.setShed c.shedFor).predict else c.predict

/-- Frame `f` starts, with its latched settings, descriptors and cull mask (R189, R197, R202). -/
def Ctl.esStart (c : Ctl) (f : Nat) (descs : List PlDesc) (mask : List (Nat × Nat)) : Ctl :=
  let fr : EsFrame := { frame := f, flipUp := c.up, rayStart := c.e 0x400004, bg := [c.e 0x400001, c.e 0x400002, c.e 0x400003],
                        descs := descs, mask := mask, shed := c.e 0x400007 }
  c.setEs (fun e => { e with fr := some (fr.norm c.img), stallAt := none })

/-- Easel makes frame `f` (R201, R203, 20 R557): an image is active, flip `f` is not held, no safe state holds, the source is Easel. -/
def Ctl.esMakes (c : Ctl) (f : Nat) : Bool := c.hasImage && c.xz.heldFlip ≠ some f && !c.isSafe && c.e 0x440001 = 0

/-- At an activation (R198, R201): EASEL_TIME_SHORT and the shed set of the new image. -/
def Ctl.esActivate (c : Ctl) : Ctl :=
  let g := c.img
  let n := frameCycles g 32 0
  let c := c.setE 0x400007 (c.e 0x400007 &&& maskOf (liveSlots g 0 none))
  let c := if endOk c.period (c.e 0x400004) n then c else c.esPost 0x3043 [i32 (endUs (c.e 0x400004) n)]
  c.shedStart

/-- The commit check of RAY_START (R198): T_end in µs at 32 Brushes when a set that gives `rs` is refused. -/
def Ctl.easelCheck (c : Ctl) (rs : Nat) : Option Nat :=
  let shed := c.e 0x400007
  if !c.hasImage || endOk c.period rs (frameCycles c.img c.brushes shed) then none else some (endUs rs (frameCycles c.img 32 shed))

/-- An island reset discards the frame in production (20 R553). -/
def Ctl.esAbort (c : Ctl) : Ctl := c.setFr (fun f => { f with lost := true })

/-! ### The commands -/

/-- RAY_START_REACHED. -/
def execRayStartReached (dt : Nat) (s : State) : Host.Outcome State Fault Refusal := runC (fun c => (c.advance dt).rayStart) s
/-- RAY_GROUP. -/
def execRayGroup (dt : Nat) (faults : List (Nat × Nat)) (s : State) : Host.Outcome State Fault Refusal :=
  runC (fun c => (c.advance dt).rayGroup faults) s
/-- PROBE_CYCLE. -/
def execProbeCycle (dt : Nat) (s : State) : Host.Outcome State Fault Refusal := runC (fun c => (c.advance dt).probeCycle) s
/-- SRAM_SCRUB. -/
def execSramScrub (dt fixed : Nat) (words : List (Nat × Nat × Nat)) (s : State) : Host.Outcome State Fault Refusal :=
  runM (fun m c => (words.filter (fun p => sramRead p.2.2 = .bad)).foldl (fun r p => scrubReload r (p.1, p.2.1))
    (m, (c.advance dt).sramScrub fixed words)) s
/-- SCHEDULE_BLOCK_RELOADED. -/
def execScheduleBlockReloaded (dt : Nat) (fetch : Bool) (block : Nat) (ue : List DramErr) (s : State) : Host.Outcome State Fault Refusal :=
  runM (fun m c => reloadDone (if fetch then 3 else 2) block (m.found ue) (c.advance dt)) s
/-- TABLE_RELOAD_DONE. -/
def execTableReloadDone (dt : Nat) (view : Bool) (index : Nat) (ue : List DramErr) (s : State) : Host.Outcome State Fault Refusal :=
  runM (fun m c => reloadDone (b2n view) index (m.found ue) (c.advance dt)) s
/-- FILL_ISSUE. -/
def execFillIssue (dt : Nat) (bad : Bool) (s : State) : Host.Outcome State Fault Refusal := runC (fun c => (c.advance dt).fillIssue bad) s
/-- FILL_COMPLETE. -/
def execFillComplete (dt entry : Nat) (ue : List DramErr) (s : State) : Host.Outcome State Fault Refusal :=
  runM (fun m c => fillComplete entry (m.found ue) (c.advance dt)) s
/-- LAST_RAY_OUT. -/
def execLastRayOut (dt : Nat) (s : State) : Host.Outcome State Fault Refusal := runC (fun c => (c.advance dt).lastRay) s
/-- BRUSH_FAULT. -/
def execBrushFault (dt brush lost : Nat) (s : State) : Host.Outcome State Fault Refusal := runC (fun c => (c.advance dt).brushFault brush lost) s

end Sys2Proof.Machine
end

