-- ==== Sys2Proof/Machine/Panel.lean ====
section
/-! DEFINITION. Panel drive's commands (09): requests on the return lanes, link-up, the decision point, cut-through slices; with the lane
failures and the return from TEST of every lane group (11 R339, R349), which reach panel drive. -/
namespace Sys2Proof.Machine

/-! ### Requests on a return lane (R263, R284, R288 to R290) -/

/-- Change return lane `r`. -/
def Ctl.updRet (c : Ctl) (r : Nat) (f : PdRet → PdRet) : Ctl := c.setPd (fun p => { p with rets := updAt p.rets r f })
/-- Return lane `r`. -/
def Ctl.pdRet (c : Ctl) (r : Nat) : PdRet := c.pd.rets.getD r {}

/-- No STATUS_REQ and no CONFIG: from 1 µs before a decision point to its flip (R284). -/
def Ctl.pdQuiet (c : Ctl) : Bool :=
  let d := tickD c.nextTick c.now
  c.tb.issuing && decide (0 < d) && decide (d ≤ (tNs (c.e 0x440002) + tUs 1 : Nat))

/-- A request waits on the return lane of its transmit lane. -/
def Ctl.pdAsk (c : Ctl) (q : PdReq) : Ctl := c.updRet (q.lane / 8) (fun r => { r with queue := r.queue ++ [q] })

/-- The lane sends for this request: a LOST lane only for its own link-up. -/
def Ctl.maySend (c : Ctl) (q : PdReq) : Bool :=
  [1, 2, 4].contains (c.pdSt q.lane) || (c.pdSt q.lane = 3 && q.kind.linkUp)

/-- CONFIG of a register (R267). -/
def Ctl.config (c : Ctl) (k ic reg v : Nat) : Ctl := c.pdSend k 8 ic (reg * 2 ^ 32 + v % 2 ^ 32) [] false

/-- A request goes out with the next SEQ: a CONFIG first where it writes. -/
def Ctl.pdRequest (c : Ctl) (q : PdReq) : Ctl :=
  let r := q.lane / 8
  let seq := ((c.pdRet r).seq + 1) % 256
  let c := c.updRet r (fun x => { x with out := some q, seq := seq, sentAt := c.up })
  if !c.maySend q then c else
  let c := match q.value with
    | some v => c.config q.lane q.ic q.reg v
    | none => c
  c.pdSend q.lane 7 q.ic (q.reg * 2 ^ 32 + seq * 2 ^ 16) [] false

/-- The PANEL_INIT records for a lane, in order (R293). -/
def Ctl.panelInit (c : Ctl) (k : Nat) : Ctl :=
  let b := (c.ev 0x440010).toOct
  (List.range (b.length / 8)).foldl (fun c i =>
    let o := 8 * i
    if u8At b o = 0xFF ∨ u8At b o = k then c.config k (u8At b (o + 1)) (u8At b (o + 2)) (leAt b (o + 4) 4) else c) c

/-- A lane has passed every step of link-up: IN_SERVICE, or PROBATION for a readmission (R292, R294). -/
def Ctl.linkPassed (c : Ctl) (k : Nat) : Ctl :=
  let x := c.pdLane k
  let c := c.setEa 0x201C (18 + k) (c.trainTime (18 + k))
  let c := c.updPd k (fun y => { y with linking := false, chain := c.ea 0x4410 k + y.gather + 13 * 16, probFrom := if x.again then some c.up else none })
  c.setPdSt k (if x.again then 4 else 2)

/-- Requests that wait on return lane `r` go out while it is free and nothing is barred (R284). -/
def Ctl.pdPump (r : Nat) : Nat → Ctl → Ctl
  | 0, c => c
  | n + 1, c =>
    let x := c.pdRet r
    if x.out.isSome || c.pdQuiet then c else
    match x.queue with
    | [] => c
    | q :: l =>
      let c := c.updRet r (fun y => { y with queue := l })
      if q.kind = .linkInit then Ctl.pdPump r n ((c.panelInit q.lane).linkPassed q.lane) else c.pdRequest q

/-- The four return lanes go on. -/
def Ctl.pdPumpAll (c : Ctl) : Ctl := (List.range 4).foldl (fun c r => c.pdPump r ((c.pdRet r).queue.length + 1)) c

/-- One return lane goes on. -/
def Ctl.pdGo (c : Ctl) (r : Nat) : Ctl := c.pdPump r ((c.pdRet r).queue.length + 1)

/-! ### Link-up of a lane (R294) -/

/-- A lane fails a step: LOST, and PANEL_LINK_FAILED (assumption log 91). -/
def Ctl.linkFails (c : Ctl) (k step : Nat) : Ctl := (c.pdPost 0x3484 k 0 [i8 k, i8 step]).pdLost k

/-- PANEL_LOCK_TIMER: 2 ms after the lane began to train, ASSIGN and the first request (R294 steps 2 and 3). -/
def Ctl.lockTimer (c : Ctl) (k : Nat) : Ctl :=
  match (c.pdLane k).lockAt with
  | none => c
  | some t =>
    if c.up < t + tMs 2 ∨ c.laneSt (18 + k) = 5 then c else
    let n := c.ea 0x4411 k
    let c := (c.updPd k (fun x => { x with lockAt := none, linking := true, len := n, gather := 0 })).pdSend k 6 0 0 [] false
    if n = 0 then c.linkFails k 3 else (c.pdAsk { kind := .linkLast, lane := k, ic := n - 1, reg := 7 }).pdGo (k / 8)

/-- The next latency register to read, or the PANEL_INIT records after the last (R294 steps 4 and 5). -/
def Ctl.linkNextReg (c : Ctl) (k ic reg : Nat) : Ctl :=
  if reg = 4 then c.pdAsk { kind := .linkReg, lane := k, ic := ic, reg := 5 }
  else if reg = 5 then c.pdAsk { kind := .linkReg, lane := k, ic := ic, reg := 8 }
  else if ic + 1 < (c.pdLane k).len then c.pdAsk { kind := .linkReg, lane := k, ic := ic + 1, reg := 4 }
  else c.pdAsk { kind := .linkInit, lane := k, ic := 0, reg := 0 }

/-! ### Answers and misses (R288, R289) -/

/-- An IC is SILENT after three misses in a row. -/
def Ctl.pdMiss (c : Ctl) (q : PdReq) : Ctl :=
  let key := q.lane * 256 + q.ic
  let n := (aGet c.pd.misses key).getD 0 + 1
  let c := c.setPd (fun p => { p with misses := aSet p.misses key n })
  if n < 3 || c.pd.silent.contains key then c else
  let c := (c.setPd (fun p => { p with silent := insertRising p.silent key })).setEa 0x4414 q.lane (c.ea 0x4414 q.lane + 1)
  (c.setReg .pdEvents 0 4 1).pdPost 0x3443 q.lane q.ic [i8 q.lane, i8 q.ic]

/-- A good response of an IC clears its misses and SILENT. -/
def Ctl.pdAnswers (c : Ctl) (q : PdReq) : Ctl :=
  let key := q.lane * 256 + q.ic
  let was := c.pd.silent.contains key
  let c := c.setPd (fun p => { p with misses := aDel p.misses key, silent := p.silent.filter (· ≠ key) })
  if was then c.setEa 0x4414 q.lane (c.ea 0x4414 q.lane - 1) else c

/-- The STATUS register of an IC (R274, R288; assumption log 91). -/
def Ctl.pdStatus (c : Ctl) (q : PdReq) (v : Nat) : Ctl :=
  let c := if bit v 1 then ((({ c with en := { c.en with refused := true } } : Ctl).incE 0x44000C).setReg .pdEvents 0 2 1).pdPost 0x3442 q.lane q.ic [i8 q.lane, i8 q.ic] else c
  let c := if bit v 4 || bit v 5 then c.pdPost 0x3444 q.lane q.ic [i8 q.lane, i8 q.ic, i32 v] else c
  c.addE (ekey 0x4413 (q.lane + 1)) (bits v 31 16)

/-- What a response means for its request. -/
def Ctl.pdResult (c : Ctl) (q : PdReq) (unknown : Bool) (v : Nat) : Ctl :=
  let c := if q.reg = 1 && !unknown then c.pdStatus q v else c
  match q.kind with
  | .poll => c
  | .last => c.updPd q.lane (fun x => { x with missLast := 0, missFirst := 0 })
  | .first => c.updPd q.lane (fun x => { x with missFirst := 0 })
  | .linkLast =>
    if (c.pdLane q.lane).len < 255 then c.pdAsk { kind := .linkNext, lane := q.lane, ic := q.ic + 1, reg := 7 }
    else c.pdAsk { kind := .linkReg, lane := q.lane, ic := 0, reg := 4 }
  | .linkNext => c.linkFails q.lane 3
  | .linkReg =>
    let last := q.ic + 1 = (c.pdLane q.lane).len
    let add := if last then q.reg = 8 else q.reg ≠ 8
    let c := c.updPd q.lane (fun x => { x with gather := x.gather + (if add then v else 0) })
    c.linkNextReg q.lane q.ic q.reg
  | .linkInit => c
  | .access => (if unknown then c else c.setE 0x442004 v).setE 0x442006 (if unknown then 4 else 2)

/-- What a missing response means for its request. -/
def Ctl.pdNoAnswer (c : Ctl) (q : PdReq) : Ctl :=
  match q.kind with
  | .poll => c.pdMiss q
  | .last =>
    let c := c.pdMiss q
    if c.pdSt q.lane = 4 then c.pdLost q.lane else
    let c := c.updPd q.lane (fun x => { x with missLast := x.missLast + 1 })
    let c := if (c.pdLane q.lane).missLast = 2 then c.pdPost 0x3482 q.lane 0 [i8 q.lane] else c
    c.pdAsk { kind := .first, lane := q.lane, ic := 0, reg := 7 }
  | .first =>
    let c := (c.pdMiss q).updPd q.lane (fun x => { x with missFirst := x.missFirst + 1 })
    if (c.pdLane q.lane).missFirst = 2 && c.pdSt q.lane = 2 then c.post 0x34C1 [i8 q.lane, i8 1] else c
  | .linkLast => c.linkFails q.lane 3
  | .linkNext => c.pdAsk { kind := .linkReg, lane := q.lane, ic := 0, reg := 4 }
  | .linkReg => c.linkFails q.lane 4
  | .linkInit => c
  | .access => (c.pdMiss q).setE 0x442006 3

/-- STATUS_RESPONSE: the 16 data bytes between K27.7 and K29.7 (R276, R288). -/
def Ctl.statusResponse (c : Ctl) (r : Nat) (b : List Byte) : Ctl :=
  let x := c.pdRet r
  match x.out with
  | none => c
  | some q =>
    if c.laneSt (50 + r) ≠ 2 || b.length ≠ 16 || u8At b 2 ≠ x.seq || leAt b 14 2 ≠ crc16 (b.take 14) ||
      decide (c.up > x.sentAt + tNs (c.e 0x440005)) then c else
    let c := (c.updRet r (fun y => { y with out := none })).pdAnswers q
    (c.pdResult q (bit (u8At b 3) 0) (leAt b 4 4)).pdGo r

/-- STATUS_REQ_TIMEOUT. -/
def Ctl.statusTimeout (c : Ctl) (r : Nat) : Ctl :=
  let x := c.pdRet r
  match x.out with
  | none => c
  | some q =>
    if c.up < x.sentAt + tNs (c.e 0x440005) then c else
    ((c.updRet r (fun y => { y with out := none })).pdNoAnswer q).pdGo r

/-- The next IC of the polling turn: lane of the eight, and IC. -/
def Ctl.pdTurn (c : Ctl) (r : Nat) : Option (Nat × Nat) :=
  let t := (c.pdRet r).turn
  ((List.range 9).map (fun d => ((t.1 + d) % 8, if d = 0 then t.2 else 0))).find? (fun q =>
    let k := 8 * r + q.1
    (c.pdSt k = 2 || c.pdSt k = 4) && decide (q.2 < (c.pdLane k).len))

/-- STATUS_POLL (R288, R290): requests that wait first, then an IC access, then the IC whose turn it is. -/
def Ctl.statusPoll (c : Ctl) (r : Nat) : Ctl :=
  let c := c.pdGo r
  let x := c.pdRet r
  if x.out.isSome || c.pdQuiet || decide (c.up < x.pollAt + tUs (c.e 0x440004)) then c else
  let c := c.updRet r (fun y => { y with pollAt := c.up })
  match c.pd.access with
  | some q => if q.lane / 8 = r then (c.setPd (fun p => { p with access := none })).pdRequest q else
    match c.pdTurn r with
    | some t => (c.updRet r (fun y => { y with turn := (t.1, t.2 + 1) })).pdRequest { kind := .poll, lane := 8 * r + t.1, ic := t.2, reg := 1 }
    | none => c
  | none => match c.pdTurn r with
    | some t => (c.updRet r (fun y => { y with turn := (t.1, t.2 + 1) })).pdRequest { kind := .poll, lane := 8 * r + t.1, ic := t.2, reg := 1 }
    | none => c

/-- A write of IC_ACC_CMD (R290): ignored while BUSY (assumption log 91). -/
def Ctl.icAccess (c : Ctl) (write : Bool) : Ctl :=
  if c.e 0x442006 = 1 then c else
  let q : PdReq := { kind := .access, lane := c.e 0x442001, ic := c.e 0x442002, reg := c.e 0x442003, value := if write then some (c.e 0x442004) else none }
  (c.setPd (fun p => { p with access := some q })).setE 0x442006 1

/-! ### Activation and link-up of the panel (R262, R294) -/

/-- A lane that the image does not use. -/
def Ctl.pdUnused (c : Ctl) (k : Nat) : Ctl :=
  ((c.dropRequests k (fun _ => true)).updPd k (fun _ => {})).setPdSt k 0

/-- The return lanes run from link-up on (11 R342). -/
def Ctl.returnsUp (c : Ctl) : Ctl :=
  (List.range 4).foldl (fun c r => if c.laneSt (50 + r) = 0 then (((c.latchEye (50 + r)).setLaneSt (50 + r) 2).setEa 0x2011 (50 + r) 0).setEa 0x2012 (50 + r) 1250000 else c) c

/-- At an activation: link-up of every lane in use when it is the first or changes PANEL_RATE; else lanes newly used link up alone. -/
def Ctl.pdActivate (c : Ctl) : Ctl :=
  let aux := schedAux0 (imgSec c.img 4)
  let rate := c.e 0x440003
  let c := (c.loadStops).setPd (fun p => { p with rowLeft := rowCounts c.img })
  let c := ((List.range 32).drop aux).foldl Ctl.pdUnused c
  if c.pd.rate = some rate then (List.range aux).foldl (fun c k => if c.pdSt k = 0 then c.linkStart k false else c) c
  else
    let c := if c.pd.rets.any (fun r => r.out.any (fun q => q.kind = .access)) then c.setE 0x442006 3 else c
    let c := c.setPd (fun p => { p with rate := some rate, linked := false, linking := true, rets := p.rets.map (fun r => { r with queue := [], out := none }) })
    (List.range (min aux 32)).foldl (fun c k => c.linkStart k false) c.returnsUp

/-- PANEL_LINKUP_DONE (R294; 18 R503): every lane has passed or failed its steps. -/
def Ctl.linkupDone (c : Ctl) : Ctl :=
  let c := c.pdPumpAll
  if !c.pd.linking || (List.range 32).any (fun k => c.pdSt k = 1) then c else
  let c := c.setPd (fun p => { p with linking := false, linked := true })
  let c := if c.boot.panelRate = c.pd.rate then c else c.setBoot (fun b => { b with panelRate := c.pd.rate })
  c.post 0x3401 [i32 (maskOf c.pdService)]

/-- PROBATION_EXPIRY (R292). -/
def Ctl.probationEnds (c : Ctl) (k : Nat) : Ctl :=
  match (c.pdLane k).probFrom with
  | some t => if c.pdSt k = 4 && decide (c.up ≥ t + tS 1) then c.updPd k (fun x => { x with ready := true }) else c
  | none => c

/-! ### The load and the decision point (R278, R279, R282, R283) -/

/-- LANE_LOAD_COMPLETE: every packet of the lane's load has left the serialiser (assumption log 92). -/
def Ctl.laneComplete (c : Ctl) (k : Nat) : Ctl :=
  let x := c.pdLane k
  if c.pd.loading.isSome && x.inLoad && !x.bad && x.pkt.isEmpty && c.pdAtEnd k then c.updPd k (fun y => { y with complete := true }) else c

/-- A lane's transmit buffer fills or drains (R279, R200; assumption log 92). -/
def Ctl.laneFull (c : Ctl) (k : Nat) (full : Bool) : Ctl :=
  if (c.pdLane k).inLoad && c.pdSt k = 2 then (c.updPd k (fun x => { x with full := full })).settleStall else c

/-- DELAY of a FLIP or BLANK on a lane (R282; assumption log 90). -/
def Ctl.flipDelay (c : Ctl) (k : Nat) : Nat := c.e 0x440002 * 16 - c.ea 0x4410 k

/-- FLIP (4) or BLANK (5) on every lane in service (assumption log 90). -/
def Ctl.sendFlip (c : Ctl) (ptype : Nat) : Ctl := c.pdService.foldl (fun c k => c.pdSend k ptype 0xFF (c.flipDelay k * 2 ^ 20) [] false) c

/-- The checks after a flip that is sent (R289; assumption log 91). -/
def Ctl.chainChecks (c : Ctl) : Ctl :=
  (List.range 32).foldl (fun c k =>
    let n := (c.pdLane k).len
    if (c.pdSt k = 2 || c.pdSt k = 4) && decide (0 < n) then c.pdAsk { kind := .last, lane := k, ic := n - 1, reg := 7 } else c) c

/-- A frame withheld for a table error: HOLD from the decision point (20 R552). -/
def Ctl.withhold (c : Ctl) : Ctl :=
  match c.fm.frameHold with
  | none => c
  | some code => (({ c with fm := { c.fm with frameHold := none } }).enterSafe .frameHold code 1 0).post 0x0542 [i16 code]

/-- DECISION_POINT of the next flip. -/
def Ctl.decisionPoint (c : Ctl) : Ctl :=
  let f := c.nextFlip
  if !c.tb.issuing || c.pd.decided = some f || decide (tickD c.nextTick c.now > (tNs (c.e 0x440002) : Nat)) then c else
  let ran := c.pd.began = some f
  let missing := c.loadMissing
  let c := c.withhold
  let c := c.loadStops.setPd (fun p => { p with decided := some f })
  let c := if c.fm.safe = 2 then c else c.setPd (fun p => { p with blanked := false })
  let open_ := c.fm.safe = 0 && c.hasImage && c.xz.heldFlip ≠ some f && c.pd.linked && !c.pdService.isEmpty && ran
  if open_ && missing.isEmpty then
    let c := (c.sendFlip 4).setPd (fun p => { p with sent := some f, dark := false })
    (((c.setE 0x440008 c.nextTick).incE 0x440009)).chainChecks
  else
    let c := if c.fm.safe = 2 && !c.pd.blanked && c.pd.linked then (c.sendFlip 5).setPd (fun p => { p with blanked := true, dark := true }) else c
    let c := (c.incE 0x44000A).setReg .pdEvents 0 1 1
    if open_ then (c.incE 0x44000B).pdPost 0x3441 0 0 [i32 (maskOf missing)] else c

/-- Panel drive at flip `n`: the counters of the frame that ends, and the load of frame n + 1 (R278, R283, 22 R591); `bad` are the scan
blocks that fail their check as the load begins. -/
def Ctl.pdFlip (bad : List Nat) (c : Ctl) (n : Nat) : Ctl :=
  let c := c.setE 0x44000E c.pd.bxSlices.length
  let c := c.loadStops.setPd (fun p => { p with posted := [], bxSlices := [] })
  let ready := !c.pdService.isEmpty || (List.range 32).any (fun k => c.pdSt k = 4 && (c.pdLane k).ready)
  let c := if c.hasImage && c.xz.heldFlip ≠ some (n + 1) && !c.isSafe && c.pd.linked && ready then (c.scanCheck bad).loadBegins (n + 1) (c.e 0x440001 = 1)
    else c.setE 0x440007 0xFFFF
  c.pdPumpAll

/-! ### Cut-through slices (R280) -/

/-- Rays that follow a SLICE entry of a lane, up to its next SLICE or END. -/
def sliceRays : List Nat → List Nat
  | [] => []
  | e :: l => if scanOp e = 2 ∨ scanOp e = 3 then [] else if scanOp e = 0 then scanRays e ++ sliceRays l else sliceRays l

/-- A slice is discarded: counted, reported, and its lane's load stays incomplete (assumption log 92). -/
def Ctl.ctError (c : Ctl) (s : Nat) (lane : Option Nat) : Ctl :=
  let c := match lane with
    | some k => c.updPd k (fun x => { x with bad := true })
    | none => c
  ((c.incE 0x44000D).setReg .pdEvents 0 3 1).pdPost 0x3481 (lane.getD 255) 0 [i32 s]

/-- Entries of a lane's walk that belong to one slice: its SLICE entry and those behind it, up to the next SLICE or END. -/
def sliceWalk : List (Nat × Nat) → List (Nat × Nat)
  | [] => []
  | q :: l => q :: l.takeWhile (fun r => scanOp r.2 ≠ 2 && scanOp r.2 ≠ 3)

/-- A ring ray slice numbered `s` with its BX and its drive values; `bad` are the scan blocks that fail their check as panel drive comes to
them (assumption log 90, 92; assumption log 92). -/
def Ctl.ctSlice (bad : List Nat) (c : Ctl) (s : Nat) (bx : Bool) (payload : List Byte) : Ctl :=
  if c.e 0x440001 = 0 then c else
  if c.pd.decided = some c.nextFlip || c.pd.loading.isNone || !c.pd.cut then c.ctError s none else
  let c := c.scanCheck bad
  let isS := fun e => scanOp e = 2 && bits e 31 0 = s
  match (List.range 32).find? (fun k => (laneEnts c.img k).any isS) with
  | none => c.ctError s none
  | some k =>
    let x := c.pdLane k
    let walk := (laneWalk c.img k).drop x.idx
    let rays := sliceRays ((walk.map Prod.snd).drop 1)
    if !((walk.head?).any (fun q => isS q.2)) || payload.length ≠ 6 * rays.length ||
      (sliceWalk walk).any (fun q => c.es.reload.contains (2, q.1)) then c.ctError s (some k) else
    let w := max 1 (imgVx c.img * imgVy c.img * imgCols c.img)
    let c := (c.updPd k (fun y => { y with idx := y.idx + 1, taken := 0, slice := some s })).walkLane k
    let c := (List.range rays.length).foldl (fun c i => (c.enTake (rays.getD i 0) (ofBE (slice payload (6 * i) 6))).pdPush k ⟨ofBE (slice payload (6 * i) 6), bx, rays.getD i 0 / w⟩) c
    c.showRow

/-! ### Lane failures and the end of TEST (11 R339, R349) -/

/-- A panel lane's transmitter reports a fault (R291; 11 R339 causes 4 and 5). -/
def Ctl.panelLaneFails (c : Ctl) (k cause : Nat) : Ctl :=
  let l := 18 + k
  let st := c.pdSt k
  if !(cause = 4 || cause = 5) || !([1, 2, 4].contains (c.laneSt l) || (c.laneSt l = 0 && c.ea 0x2011 l = 2)) then c else
  let c := c.markFailed l cause
  if st = 0 then c
  else if st = 2 then c.post 0x34C1 [i8 k, i8 0]
  else if st = 4 then c.pdLost k
  else c.linkFails k 1

/-- LANE_FAILURE_DETECT. -/
def Ctl.laneFails (c : Ctl) (l cause : Nat) (seen : List Nat) : Ctl :=
  let c := c.laneSees l seen
  if l < 18 then c.ringLaneFails l cause
  else if l < 50 then c.panelLaneFails (l - 18) cause
  else if l < 54 then c
  else if cause = 3 && c.laneSync l then c
  else if (c.laneSt l = 2 && decide (1 ≤ cause) && decide (cause ≤ 5)) || (c.laneSt l = 0 && c.ea 0x2011 l = 2 && (cause = 4 || cause = 5)) then
    c.markFailed l cause else c

/-- LANE_RETURN: TEST ends (11 R349). -/
def Ctl.laneReturn (c : Ctl) (l : Nat) : Ctl :=
  if c.laneSt l ≠ 5 then c.post 0x1083 [i8 l] else
  let c := c.testEnds l
  if 18 ≤ l ∧ l < 50 then
    (if c.hasImage && decide (l - 18 < schedAux0 (imgSec c.img 4)) then c.linkStart (l - 18) true else c.setPdSt (l - 18) 0)
  else c

/-! ### The commands -/

/-- DECISION_POINT. -/
def execDecisionPoint (dt : Nat) (s : State) : Host.Outcome State Fault Refusal := runC (fun c => (c.advance dt).decisionPoint) s
/-- LANE_LOAD_COMPLETE. -/
def execLaneLoadComplete (dt lane : Nat) (s : State) : Host.Outcome State Fault Refusal := runC (fun c => (c.advance dt).laneComplete lane) s
/-- PANEL_BUFFER_FULL. -/
def execPanelBufferFull (dt lane : Nat) (s : State) : Host.Outcome State Fault Refusal := runC (fun c => (c.advance dt).laneFull lane true) s
/-- PANEL_BUFFER_DRAINED. -/
def execPanelBufferDrained (dt lane : Nat) (s : State) : Host.Outcome State Fault Refusal := runC (fun c => (c.advance dt).laneFull lane false) s
/-- STATUS_POLL. -/
def execStatusPoll (dt r : Nat) (s : State) : Host.Outcome State Fault Refusal := runC (fun c => (c.advance dt).statusPoll r) s
/-- STATUS_RESPONSE. -/
def execStatusResponse (dt r : Nat) (bytes : List Byte) (s : State) : Host.Outcome State Fault Refusal :=
  runC (fun c => (c.advance dt).statusResponse r bytes) s
/-- STATUS_REQ_TIMEOUT. -/
def execStatusReqTimeout (dt r : Nat) (s : State) : Host.Outcome State Fault Refusal := runC (fun c => (c.advance dt).statusTimeout r) s
/-- IC_ACC_READ. -/
def execIcAccRead (dt : Nat) (s : State) : Host.Outcome State Fault Refusal := runC (fun c => (c.advance dt).icAccess false) s
/-- IC_ACC_WRITE. -/
def execIcAccWrite (dt : Nat) (s : State) : Host.Outcome State Fault Refusal := runC (fun c => (c.advance dt).icAccess true) s
/-- PROBATION_EXPIRY. -/
def execProbationExpiry (dt lane : Nat) (s : State) : Host.Outcome State Fault Refusal := runC (fun c => (c.advance dt).probationEnds lane) s
/-- PANEL_LOCK_TIMER. -/
def execPanelLockTimer (dt lane : Nat) (s : State) : Host.Outcome State Fault Refusal := runC (fun c => (c.advance dt).lockTimer lane) s
/-- PANEL_LINKUP_DONE. -/
def execPanelLinkupDone (dt : Nat) (s : State) : Host.Outcome State Fault Refusal := runC (fun c => (c.advance dt).linkupDone) s
/-- LANE_FAILURE_DETECT. -/
def execLaneFailureDetect (dt lane cause : Nat) (seen : List Nat) (s : State) : Host.Outcome State Fault Refusal :=
  runC (fun c => (c.advance dt).laneFails lane cause seen) s
/-- LANE_RETURN. -/
def execLaneReturn (dt lane : Nat) (s : State) : Host.Outcome State Fault Refusal := runC (fun c => (c.advance dt).laneReturn lane) s

end Sys2Proof.Machine
end

