-- ==== Sys2Proof/Machine/Encoder.lean ====
section
/-! DEFINITION. The return encoder (10): capture, input stage, coding under the bit budget (Coder.lean), return packets and proof of
play. -/
namespace Sys2Proof.Machine

/-! ### Accessors -/

/-- Change the encoder's part. -/
def Ctl.setEn (c : Ctl) (f : EnState → EnState) : Ctl := { c with en := f c.en }
/-- Return stream `s`. -/
def Ctl.enStream (c : Ctl) (s : Nat) : EnStream := c.en.streams.getD s {}
/-- Change return stream `s`. -/
def Ctl.updEn (c : Ctl) (s : Nat) (f : EnStream → EnStream) : Ctl := c.setEn (fun e => { e with streams := updAt e.streams s f })
/-- A warning or error, at most once per frame for each stream (R320). -/
def Ctl.enPost (c : Ctl) (code s : Nat) (items : List (Nat × Nat)) : Ctl :=
  let k := code * 256 + s
  if c.en.posted.contains k then c else (c.setEn (fun e => { e with posted := k :: e.posted })).post code items
/-- The engine is OUT (R319). -/
def Ctl.enOut (c : Ctl) : Bool := c.e 0x310008 = 1
/-- Settings of stream `s` from its entries. -/
def enSetOf (e : Nat → Nat) (rate s : Nat) : EnSet :=
  let a := fun idx => e (ekey idx (s + 1))
  ⟨a 0x3111, a 0x3112, a 0x3113, max 1 (bits (a 0x3114) 7 0), bits (a 0x3114) 15 8, a 0x3115, bits (a 0x3116) 15 0, bits (a 0x3116) 31 16,
    a 0x3117, a 0x3118, a 0x3119, a 0x311A, a 0x311B, a 0x311C, a 0x311D, a 0x311E, a 0x311F, a 0x3120, a 0x3121, rate⟩
/-- Settings of stream `s` in force. -/
def Ctl.enSet (c : Ctl) (s : Nat) : EnSet := enSetOf c.e (c.e 0x230006) s
/-- The stream is archival. -/
def EnSet.archival (x : EnSet) : Bool := x.cls = 3
/-- Archival pictures of a stream that hold a capture buffer. -/
def Ctl.backlog (c : Ctl) (s : Nat) : Nat :=
  (c.en.ready.filter (fun p => p.stream = s && p.cfg.archival)).length + (if c.en.cur.any (fun p => p.stream = s && p.cfg.archival) then 1 else 0)
/-- BACKLOG, and ARCHIVE_BEHIND each time it comes to exceed half of the buffers (R310). -/
def Ctl.showBacklog (c : Ctl) (s : Nat) : Ctl :=
  let n := c.backlog s
  let c := c.setEa 0x3128 s n
  let tooMany := decide (2 * n > c.ea 0x3120 s) && decide (n ≠ 0)
  let was := (c.enStream s).behind
  let c := c.updEn s (fun x => { x with behind := tooMany })
  if tooMany && !was then c.enPost 0x2144 s [i8 s, i8 n] else c
/-- BACKLOG of every stream. -/
def Ctl.showBacklogs (c : Ctl) : Ctl := (List.range 16).foldl Ctl.showBacklog c

/-! ### Capture (R298, R299) -/

/-- An RGB pixel of 16-bit values. -/
abbrev Rgb := Nat × Nat × Nat

/-- Capture size Wc × Hc (R298). -/
def capSize (g : List Byte) (plan : Nat → SlotPlan) (x : EnSet) : Nat × Nat :=
  if x.capture = 0 then (imgCols g, imgRows g) else let p := plan (bits x.arg 3 0); (p.w, p.h)

/-- A VIEW pixel: hogel (c, r) is pixel (c, R − 1 − r); dark rays give 0. A ray that panel drive did not take has no value. -/
def Ctl.viewPixel (c : Ctl) (x : EnSet) (px py : Nat) : Rgb :=
  let g := c.img
  let row := imgRows g - 1 - py
  let n := (row * imgCols g + px) * (imgVx g * imgVy g) + bits x.arg 15 8 * imgVx g + bits x.arg 7 0
  let v := if (rayGeo g n).dark then 0 else (aGet c.en.taken n).getD (Config.freeValue (c.draws + n) % 2 ^ 48)
  (bits v 47 32, bits v 31 16, bits v 15 0)

/-- A 12-bit colour code widened to 16 bits (R298). -/
def widen16 (x : F32) : Nat := let v := (clampI 0 4095 (f32RneScaled 0 x)).toNat; v * 16 + v / 256

/-- A texel word through the slot's conversion. -/
def Ctl.slotRgb (c : Ctl) (s w : Nat) : Rgb :=
  let t := convTexel (c.convMode s) (c.ev (ekey 0x4302 (s + 1))).toOct (bits w 11 0) (bits w 23 12) (bits w 35 24)
  (widen16 t.1, widen16 t.2.1, widen16 t.2.2)

/-- The source surface itself is captured: a SURFACE slot that is not scaled (R298; assumption log 98). -/
def Ctl.plainSurface (c : Ctl) (s : Nat) : Bool :=
  let sz := c.ea 0x4217 s
  let w := bits sz 15 0
  let h := bits sz 31 16
  c.src s = 2 && cropFull (cropOf (c.ea 0x4213 s) w h) w h && w = (c.plan s).w && h = (c.plan s).h

/-- A SLOT pixel. -/
def Ctl.slotPixel (c : Ctl) (m : Mem) (x : EnSet) (px py : Nat) : Rgb :=
  let s := bits x.arg 3 0
  let d := c.en.descs.getD s {}
  if !d.sampled then (0, 0, 0) else
  if c.plainSurface s then c.slotRgb s (surfTexel m (c.plan s).fmt (c.ea 0x4215 s) (c.ea 0x4216 s) (c.ea 0x4219 s) px py) else
  match d.keys.find? (fun k => k.key = bits x.arg 7 4) with
  | some k =>
    if k.tx * 32 ≤ px ∧ px < (k.tx + k.bw) * 32 ∧ k.ty * 32 ≤ py ∧ py < (k.ty + k.bh) * 32 then
      c.slotRgb s (ofLE (m.read (blockTexel k.base k.bw (px - 32 * k.tx) (py - 32 * k.ty)) 8))
    else c.slotRgb s (Config.offWindow px py)
  | none => c.slotRgb s (Config.offWindow px py)

/-- DRAM ranges that a SLOT capture reads. -/
def Ctl.capRanges (c : Ctl) (x : EnSet) : List (Nat × Nat) :=
  let s := bits x.arg 3 0
  let d := c.en.descs.getD s {}
  if x.capture = 0 || !d.sampled then [] else
  if c.plainSurface s then
    let p := c.plan s
    let w := pixelAt p.fmt (p.w - 1)
    (List.range p.h).map (fun y => (c.ea 0x4215 s + c.ea 0x4216 s * y, w.1 + w.2))
  else match d.keys.find? (fun k => k.key = bits x.arg 7 4) with
    | some k => [(k.base, k.bw * k.bh * 8192)]
    | none => []

/-! ### Input stage (R300, R301) -/

/-- The captured pixel that a rotated pixel takes, for a capture of wc × hc. -/
def rotSource (rot wc hc x y : Nat) : Nat × Nat :=
  if rot = 0 then (x, y) else if rot = 1 then (y, hc - 1 - x) else if rot = 2 then (wc - 1 - x, hc - 1 - y) else (wc - 1 - y, x)

/-- Size of the rotated image. -/
def rotSize (rot wc hc : Nat) : Nat × Nat := if rot % 2 = 1 then (hc, wc) else (wc, hc)

/-- One colour of a scaled pixel: vertical taps, then horizontal, as R215 filters. -/
def scale2 (get : Nat → Nat → Nat) (wr hr : Nat) (wx wy : List (Int × F32)) : Nat :=
  let cx := fun (i : Int) => (clampI 0 ((wr : Int) - 1) i).toNat
  let cy := fun (i : Int) => (clampI 0 ((hr : Int) - 1) i).toNat
  let r := wx.foldl (fun a p => f32Add a (f32Mul p.2 (wy.foldl (fun b q => f32Add b (f32Mul q.2 (f32OfInt (get (cx p.1) (cy q.1))))) 0))) 0
  (clampI 0 65535 (f32RneScaled 0 r)).toNat

/-- Luma before its offset. -/
def lumaOf (p : Rgb) : F32 :=
  f32Add (f32Add (f32Mul (f32Ratio 2126 10000) (f32OfInt p.1)) (f32Mul (f32Ratio 7152 10000) (f32OfInt p.2.1))) (f32Mul (f32Ratio 722 10000) (f32OfInt p.2.2))

/-- A narrow-range component: offset + (gain × value) / divisor, rounded and clipped. -/
def narrow (off gain : Nat) (v d : F32) : Nat :=
  (clampI 0 255 (f32RneScaled 0 (f32Add (f32OfInt off) (f32Div (f32Mul (f32OfInt gain) v) d)))).toNat

/-- Y, Cb and Cr of a pixel of 8-bit values (R301). -/
def encYuv (chroma : Nat) (p : Rgb) : Rgb :=
  if chroma = 1 then (p.2.1, p.2.2, p.1) else
  let yl := lumaOf p
  let d := fun n => f32Mul (f32Ratio n 10000) (f32OfInt 255)
  (narrow 16 219 yl (f32OfInt 255), narrow 128 224 (f32Sub (f32OfInt p.2.2) yl) (d 18556), narrow 128 224 (f32Sub (f32OfInt p.1) yl) (d 15748))

/-- Mean of four values, ties to even. -/
def mean4 (n : Nat) : Nat := let q := n / 4; let r := n % 4; if r = 3 ∨ (r = 2 ∧ q % 2 = 1) then q + 1 else q

/-- The samples of a picture: Y, then Cb, then Cr, row by row. -/
def encSamples (x : EnSet) (matrix : List Byte) (mode k wc hc : Nat) (pix : Nat → Nat → Rgb) : List Nat :=
  let rs := rotSize x.rot wc hc
  let src := fun (a b : Nat) => let q := rotSource x.rot wc hc a b; pix q.1 q.2
  let wys := (List.range x.ho).map (fun v => tapWeights 2 rs.2 x.ho 0 v)
  let wxs := (List.range x.wo).map (fun u => tapWeights 2 rs.1 x.wo 0 u)
  let at_ := fun (u v : Nat) =>
    let one := fun (col : Nat) (get : Nat → Nat → Nat) => stipple matrix mode k u v col (scale2 get rs.1 rs.2 (wxs.getD u []) (wys.getD v []))
    encYuv x.chroma (one 0 (fun a b => (src a b).1), one 1 (fun a b => (src a b).2.1), one 2 (fun a b => (src a b).2.2))
  let px := (List.range x.ho).map (fun v => (List.range x.wo).map (fun u => at_ u v))
  let full := fun (f : Rgb → Nat) => px.flatMap (fun r => r.map f)
  let get := fun (f : Rgb → Nat) (u v : Nat) => f ((px.getD v []).getD u (0, 0, 0))
  let half := fun (f : Rgb → Nat) => (List.range (x.ho / 2)).flatMap (fun v => (List.range (x.wo / 2)).map (fun u =>
    mean4 (get f (2 * u) (2 * v) + get f (2 * u + 1) (2 * v) + get f (2 * u) (2 * v + 1) + get f (2 * u + 1) (2 * v + 1))))
  if x.chroma = 1 then full (fun p => p.1) ++ full (fun p => p.2.1) ++ full (fun p => p.2.2)
  else full (fun p => p.1) ++ half (fun p => p.2.1) ++ half (fun p => p.2.2)

/-! ### Capture at a flip (R298, R299, R309, R310) -/

/-- A stream's next picture is a RAP picture. -/
def Ctl.enRap (c : Ctl) (s : Nat) : Ctl := c.updEn s (fun x => { x with rapNext := true })

/-- A capture is skipped or discarded: SKIPPED_BEFORE of the next picture. -/
def Ctl.enGap (c : Ctl) (s : Nat) : Ctl := c.updEn s (fun x => { x with skipped := true })

/-- R309: a live picture that has not started when the next capture of its stream is ready. -/
def Ctl.skipLate (c : Ctl) (s : Nat) : Ctl :=
  match c.en.ready.find? (fun p => p.stream = s && !p.started && !p.cfg.archival) with
  | none => c
  | some p =>
    let c := c.setEn (fun e => { e with ready := e.ready.filter (fun q => !(q.stream = s && q.order = p.order)) })
    ((c.incEa 0x3124 s).enGap s).enPost 0x2142 s [i8 s, i32 p.order]

/-- The place in staging of a capture (kind 0), a reference (kind 1) or a record (kind 2) of `len` octets; none where staging does not hold it
(R318; assumption log 98). -/
def Ctl.stagePlace (c : Ctl) (s kind i len : Nat) : Option Nat :=
  let base := c.e 0x310001
  let room := c.e 0x310002
  if room < len || !c.dramOk base room then none else some (base + Config.stagingPlace s kind i % (room - len + 1))

/-- The encoder puts octets into staging at their place (R318; assumption log 98). -/
def stageWrite (s kind i : Nat) (b : List Byte) (m : Mem) (c : Ctl) : Mem × Ctl :=
  match c.stagePlace s kind i b.length with
  | none => (m, c)
  | some a => dramStore 4 a b m c

/-- The encoder reads what it put there (R318); answers whether the read was poisoned (14 R410; assumption log 98). -/
def Ctl.stageRead (m : Mem) (s kind i len : Nat) (c : Ctl) : Ctl × Bool :=
  match c.stagePlace s kind i len with
  | none => (c, false)
  | some a => (c.readDram m 4 a len, m.poisoned a len)

/-- Octets of a capture (kind 0) or of a reference (kind 1) into staging: the spec gives their number, not their format. -/
def stageFree (s kind i len : Nat) (m : Mem) (c : Ctl) : Mem × Ctl :=
  stageWrite s kind i ((List.range len).map (fun j => byteOf (Config.stagedOctet c.draws j))) m c.draw

/-- The capture instant of stream `s` at flip `n`; `sent`: flip n is sent. Answers whether an archival capture was missed (assumption log 98). -/
def capture (n : Nat) (sent : Bool) (q : Mem × Ctl × Bool) (s : Nat) : Mem × Ctl × Bool :=
  let m := q.1
  let c := q.2.1
  let x := c.enSet s
  if c.ea 0x3110 s = 0 ∨ !(c.enStream s).on ∨ n % x.divider ≠ x.phase then q else
  let order := (c.enStream s).order
  let c := c.updEn s (fun y => { y with order := (order + 1) % 2 ^ 32 })
  if !sent then (m, c.enGap s, q.2.2) else
  if x.archival && decide (c.backlog s ≥ x.depth) then (m, (c.enGap s).enPost 0x2181 s [i8 s], true) else
  let rs := c.capRanges x
  let bad := rs.any (fun r => m.poisoned r.1 r.2)
  let c := rs.foldl (fun c r => c.readDram m 4 r.1 r.2) c
  let c := c.skipLate s
  if bad then (m, (c.enGap s).enRap s, q.2.2) else
  let sz := capSize c.img c.plan x
  let pix := fun a b => if x.capture = 0 then c.viewPixel x a b else c.slotPixel m x a b
  let samples := encSamples x (c.ev 0x430601).toOct (c.ea 0x4305 s) c.pl.stippleK sz.1 sz.2 pix
  let p : EnPic := ⟨s, order, n, c.tn n, x, samples, sz.1 * sz.2 * 8, false, false⟩
  let r := stageFree s 0 order p.size m c
  (r.1, (r.2.setEn (fun e => { e with ready := e.ready ++ [p] })).showBacklog s, q.2.2)

/-! ### Proof of play (R313 to R315) -/

/-- The lowest-numbered context that carries a slot. -/
def Ctl.slotContext (c : Ctl) (s : Nat) : Option Nat :=
  (c.dc.ctxs.find? (fun p => p.2.hdr.any (fun h => h.lay.slot = s))).map (fun p => p.1)

/-- What a record says of the frame of flip `n`. -/
def Ctl.popFrame (c : Ctl) (n : Nat) : PopFrame :=
  let mask := fun st => maskOf ((List.range 16).filter (fun s => c.ea 0x421C s = st))
  let conc := maskOf ((List.range 16).filter (fun s => bit (c.ea 0x421E s) 1))
  let flags := b2n (conc ≠ 0) + 2 * b2n (mask 2 ≠ 0) + 4 * b2n (c.pd.bxSlices ≠ []) + 16 * b2n (c.pd.cut && c.pd.began = some n)
  ⟨c.pdTag, flags, mask 1, mask 2, mask 3, conc,
    (List.range 16).map (fun s => match c.slotContext s with
      | some x => c.e (ctxKey x 0x0F)
      | none => 0xFFFFFFFF)⟩

/-- The 128 octets of a record, signed over the previous TAG. -/
def popRecord (key prev : List Byte) (seq tick kind lanes image gap flags : Nat) (f : PopFrame) : List Byte :=
  let b := toLE 8 seq ++ toLE 8 tick ++ [byteOf kind, byteOf f.tag] ++ toLE 2 flags ++ toLE 4 lanes ++ toLE 8 image ++
    toLE 2 f.fresh ++ toLE 2 f.held ++ toLE 2 f.transparent ++ toLE 2 f.concealed ++ f.orders.flatMap (toLE 4) ++ toLE 4 gap ++ toLE 4 0
  b ++ (hmac key (prev ++ b)).take 16

/-- RKIND of flip `n` by itself: flipped, the panel dark after BLANK, or held. -/
def Ctl.popKind (c : Ctl) (n : Nat) : Nat := if c.pd.sent = some n then 0 else if c.pd.dark then 2 else 1

/-- The record of flip `n` (R313, R314): into the staging ring, or lost while it is full (assumption log 84, 99). -/
def popMake (n : Nat) (missed : Bool) (m : Mem) (c : Ctl) : Mem × Ctl :=
  let sent := c.pd.sent = some n
  let now := c.popFrame n
  let kind := c.popKind n
  let f := if kind = 1 then c.en.shown else now
  let c := if sent then c.setEn (fun e => { e with shown := now }) else c
  if c.e 0x310003 = 0 then (m, c) else
  if c.en.pop.length ≥ 4096 then (m, c.setEn (fun e => { e with popLost := e.popLost + 1 })) else
  let gap := c.en.popLost
  let kind := if c.en.restart then 4 else if gap ≠ 0 then 3 else kind
  let seq := c.e 0x310006
  let flags := f.flags + 8 * b2n missed + 32 * b2n c.en.refused + 64 * b2n (c.activeDom = 1)
  let r := popRecord c.bt.popKey c.en.prevTag seq (c.tn n) kind (maskOf c.pdService) (if c.hasImage then imgId c.img else 0) gap flags f
  let c := c.setEn (fun e => { e with pop := e.pop ++ [r], popLost := 0, restart := false, refused := false, prevTag := r.drop 112 })
  let c := if seq % 1024 = 0 && !c.bt.mramStopped then c.setBt (fun b => { b with popSaved := seq }) else c
  let q := stageWrite 16 2 (seq % 4096) r m (c.setE 0x310006 ((seq + 1) % 2 ^ 64))
  (q.1, if gap ≠ 0 then q.2.post 0x2145 [i32 gap] else q.2)

/-- The encoder at flip `n`, before anything that the flip makes active (R298, R316): captures, then the record. -/
def enFlip (n : Nat) (m : Mem) (c : Ctl) : Mem × Ctl :=
  let c := c.setEn (fun e => { e with posted := [] })
  let q := (List.range 16).foldl (capture n (c.pd.sent = some n)) (m, c, false)
  let r := popMake n q.2.2 q.1 q.2.1
  (r.1, r.2.showBacklogs)

/-! ### The engine (R303 to R308) -/

/-- Order of the engine's choice: CLASS, capture flip, stream. -/
def EnPic.before (a b : EnPic) : Bool := lexLt [a.cfg.cls, a.flip, a.stream, a.order] [b.cfg.cls, b.flip, b.stream, b.order]

/-- The picture that the engine takes next. -/
def enBest : List EnPic → Option EnPic
  | [] => none
  | p :: l => match enBest l with
    | none => some p
    | some q => if p.before q then some p else some q

/-- A picture is one under the active image, and none of those has begun (R317). -/
def EnStream.newImage (x : EnStream) (order : Nat) : Bool := x.rapFrom.any (fun o => decide ((order + 2 ^ 32 - o) % 2 ^ 32 < 2 ^ 31))

/-- The cases of R304, and R317 (assumption log 99). -/
def Ctl.needsRap (c : Ctl) (p : EnPic) : Bool :=
  let x := c.enStream p.stream
  let same := x.lastSet.any (fun l => l.wo = p.cfg.wo && l.ho = p.cfg.ho && l.rot = p.cfg.rot && l.chroma = p.cfg.chroma &&
    l.capture = p.cfg.capture && l.arg = p.cfg.arg)
  x.rapNext || x.newImage p.order || !same || decide (x.sinceRap ≥ p.cfg.rapInterval) ||
    (match x.lastSent with
     | some o => decide ((p.order + 2 ^ 32 - o) % 2 ^ 32 ≥ 65536)
     | none => true)

/-- Emulation prevention (04 R110): 0x03 before an octet up to 3 that follows two zeros; `z` zeros stand before. -/
def epInsert : Nat → List Byte → List Byte
  | _, [] => []
  | z, b :: r =>
    if 2 ≤ z ∧ b.toNat ≤ 3 then 3 :: b :: epInsert (if b = 0 then 1 else 0) r else b :: epInsert (if b = 0 then z + 1 else 0) r

/-- A unit: its prefix and its payload (04 R109, R110). -/
def unitOf (ty : Nat) (raw : List Byte) : List Byte := [0, 0, 1, byteOf ty] ++ epInsert 0 raw

/-- The common header of a return stream: TILE_MASK all 0. -/
def enCommon (sid : Nat) : List Byte := toBE 2 (sid * 64) ++ List.replicate 16 0

/-- The Stream Header. -/
def enStreamHdr (x : EnSet) : List Byte := unitOf 1 (enCommon x.sid ++ [0x10, 0x20, 0x10, 0, 0x80])

/-- The raw payload of the Layer Header. -/
def enLayerRaw (x : EnSet) : List Byte :=
  enCommon x.sid ++ toBE 5 (15 * 2 ^ 36 + (x.wo / 8 - 1) * 2 ^ 18 + (x.ho / 8 - 1) * 2 ^ 8 + x.chroma * 2 ^ 5) ++ [0, 0, 0x80]

/-- The Layer Header. -/
def enLayerHdr (x : EnSet) : List Byte := unitOf 2 (enLayerRaw x)

/-- The Picture Header; `ref` is how far back the previous picture lies. -/
def enPicHdr (p : EnPic) (ref : Nat) : List Byte :=
  unitOf 3 (enCommon p.cfg.sid ++ [if p.rap then 0x40 else 0] ++ toBE 4 p.order ++ toBE 6 (p.tick / 65536) ++ [byteOf (2 * p.cfg.cqQp), 0] ++
    (if p.rap then [0] else 0x10 :: toBE 2 ref) ++ [0x80])

/-- The raw payload of a slice of block row `row`, up to its slice data. -/
def enSliceHead (p : EnPic) (row qpd : Nat) : List Byte :=
  enCommon p.cfg.sid ++ [byteOf p.order, if p.rap then 2 else 6, 0, byteOf row, byteOf (ceilDiv p.cfg.wo 64), 1, 0, 0, 0, 0, byteOf qpd, 0] ++
    (if p.rap then [0] else [0x10, 0])

/-- The settings and samples of a picture, as the engine's choice depends on them. -/
def EnPic.key (p : EnPic) : List Nat := [b2n p.rap, p.cfg.cqQp, p.cfg.capQp, p.cfg.chroma, p.cfg.wo, p.cfg.ho] ++ p.samples

/-- How a block row is coded: the headers as a decoder reads them, and the engine's choices. -/
def EnPic.env (p : EnPic) (chain : List (List Byte)) (row : Nat) (head : List Byte) : EncEnv :=
  ⟨⟨p.cfg.wo, p.cfg.ho, layerHdr (enLayerRaw p.cfg), sliceHdr head, p.cfg.cqQp, 0, ctxDefaults⟩, fun site => Config.engineChoice p.key chain (row :: site)⟩

/-- Block rows under a budget (R306): the units so far, and the row at which the spent bits reached the budget (assumption log 98). -/
def enRows (chain : List (List Byte)) (p : EnPic) (budget : Option Nat) : List Nat → List Byte × Option Nat → List Byte × Option Nat
  | [], q => q
  | row :: l, q =>
    let ex := q.2.isSome
    let head := enSliceHead p row (if ex then ofSigned 8 ((p.cfg.capQp : Int) - p.cfg.cqQp) else 0)
    let r := (p.env chain row head).row (8 * (q.1.length + (unitOf 4 head).length)) budget ex
    enRows chain p budget l (q.1 ++ unitOf 4 (head ++ r.1), if ex then q.2 else if r.2 then some row else none)

/-- Pictures of the rate window (R305; assumption log 99). -/
def EnSet.window (x : EnSet) : Nat :=
  let d := 1000000 * x.divider
  max 1 ((2 * x.windowMs * x.rate + d) / (2 * d))

/-- Bp of the next picture (R305); none without a cap. -/
def EnSet.budget (x : EnSet) (charges : List (Nat × Nat)) : Option Nat :=
  if x.capKbit = 0 then none else
  let cap := x.capKbit * 1000
  some (min (cap - ((charges.take (x.window - 1)).map (fun q => q.2)).foldl (· + ·) 0) (4 * cap / x.window))

/-- WINDOW_CHARGE. -/
def Ctl.showCharge (c : Ctl) (s : Nat) (x : EnSet) : Ctl :=
  c.setEa 0x3127 s (((((c.enStream s).charges.take x.window).map (fun q => q.2)).foldl (· + ·) 0) % 2 ^ 32)

/-! ### Return packets (R311, R312) -/

/-- Payload octets of a packet. -/
def EnSet.payload (x : EnSet) : Nat := if x.dest = 0 then 4080 else 1440

/-- The 16-octet header of a packet. -/
def returnHeader (kind stream flags order off total : Nat) : List Byte :=
  [1, byteOf kind, byteOf stream, byteOf flags] ++ toLE 4 order ++ toLE 4 off ++ toLE 4 total

/-- The host ring of a stream has room: TAIL + 1 is not HEAD. -/
def Ctl.enRoom (c : Ctl) (s entries : Nat) : Bool :=
  ((c.enStream s).tail + 1) % max 1 entries ≠ c.reg .enRing s 0

/-- Octets of a return datagram in an egress queue: UDP and IPv4 headers and the packet (assumption log 99). -/
def datagram (n : Nat) : Nat := 28 + n

/-- The egress queue of field port `f` has room for a datagram (R312; assumption log 99). -/
def Ctl.egressRoom (c : Ctl) (f n : Nat) : Bool := decide (c.en.egress.getD f 0 + datagram n ≤ 262144)

/-- `sent` octets have left the egress queue of the field port of destination `d`. -/
def Ctl.egressSent (c : Ctl) (d sent : Nat) : Ctl := c.setEn (fun e => { e with egress := if d = 0 then e.egress else updAt e.egress (d - 1) (· - sent) })

/-- A return packet leaves: into its host ring entry, or as one datagram from UDP port 28601 through the field port's queue (R312). -/
def Ctl.sendReturn (c : Ctl) (d addr : Nat) (pkt : List Byte) : Ctl :=
  if d = 0 then c.emit { kind := .ret, a := 0, b := addr, bytes := pkt }
  else (c.setEn (fun e => { e with egress := updAt e.egress (d - 1) (· + datagram pkt.length) })).emit { kind := .ret, a := d, b := addr, c := 28601, bytes := pkt }

/-- One fragment of the oldest coded picture of a stream. -/
def Ctl.enFragment (c : Ctl) (s : Nat) : Ctl :=
  match c.en.outq.find? (fun o => o.stream = s) with
  | none => c
  | some o =>
    let drop := fun (l : List EnOut) => l.filter (fun q => !(q.stream = s && q.order = o.order))
    let pay := (o.bytes.drop o.off).take o.cfg.payload
    let open_ := if o.cfg.dest = 0 then c.enRoom s o.cfg.entries else c.egressRoom (o.cfg.dest - 1) (16 + pay.length)
    if !open_ then
      if o.cfg.archival then c else
      let c := c.setEn (fun e => { e with outq := drop e.outq })
      let c := c.updEn s (fun x => { x with skipped := true, charges := x.charges.filter (fun q => q.1 ≠ o.order) })
      ((c.enRap s).showCharge s o.cfg).enPost 0x2143 s [i8 s]
    else
      let last := decide (o.off + pay.length ≥ o.bytes.length)
      let fl := o.flags + b2n (o.off = 0) + 2 * b2n last
      let addr := if o.cfg.dest = 0 then o.cfg.addr + 4096 * (c.enStream s).tail else o.cfg.addr
      let c := c.sendReturn o.cfg.dest addr (returnHeader 1 s fl o.order o.off o.bytes.length ++ pay)
      let c := if o.cfg.dest = 0 then c.updEn s (fun x => { x with tail := (x.tail + 1) % max 1 o.cfg.entries }) else c
      if !last then
        c.setEn (fun e => { e with outq := e.outq.map (fun q => if q.stream = s && q.order = o.order then { q with off := q.off + pay.length } else q) })
      else
        let c := c.setEn (fun e => { e with outq := drop e.outq })
        let c := (c.incEa 0x3123 s).setEa 0x3126 s (o.bits % 2 ^ 32)
        if o.cfg.dest = 0 then c.post 0x2101 [i8 s, i32 o.order] else c

/-- Every fragment of a live stream leaves or is discarded; at most `k`. -/
def Ctl.enFlushN (s : Nat) : Nat → Ctl → Ctl
  | 0, c => c
  | k + 1, c => if c.en.outq.any (fun o => o.stream = s && !o.cfg.archival) then Ctl.enFlushN s k (c.enFragment s) else c

/-- The fragments of a live stream's coded pictures leave or are discarded (assumption log 99). -/
def Ctl.enFlush (c : Ctl) (s : Nat) : Ctl := Ctl.enFlushN s ((c.en.outq.map (fun o => o.bytes.length + 1)).foldl (· + ·) 0) c

/-- Fragments of a host stream leave while its ring has room; at most `k` (assumption log 99). -/
def Ctl.enDrain (s : Nat) : Nat → Ctl → Ctl
  | 0, c => c
  | k + 1, c => match c.en.outq.find? (fun o => o.stream = s) with
    | some o => if o.cfg.dest = 0 && c.enRoom s o.cfg.entries then Ctl.enDrain s k (c.enFragment s) else c
    | none => c

/-- A write of EN_RING.HEAD (R312). -/
def Ctl.enHeadWrite (c : Ctl) (s head : Nat) : Ctl :=
  (c.setReg .enRing s 0 (head % 4096)).enDrain s 4096

/-- POP_RECORD_WRITE (R314): the oldest record is read from the ring in staging and leaves to POP_DEST, for HOST to entry `index`; one that is
poisoned there is lost (assumption log 98). -/
def Ctl.popWrite (m : Mem) (index : Nat) (room : Bool) (c : Ctl) : Ctl :=
  match c.en.pop with
  | [] => c
  | r :: l =>
    let d := c.e 0x310004
    if !(if d = 0 then room else c.egressRoom (d - 1) 144) then c else
    let addr := if d = 0 then c.e 0x310005 + 4096 * index else c.e 0x310005
    let q := c.stageRead m 16 2 (leAt r 0 8 % 4096) 128
    let c := q.1.setEn (fun e => { e with pop := l })
    if q.2 then c.setEn (fun e => { e with popLost := e.popLost + 1 }) else
    c.sendReturn d addr (returnHeader 2 0xFF 3 (leAt r 0 4) 0 128 ++ r)

/-! ### The engine takes and codes pictures (R303 to R308) -/

/-- PICTURE_START (R308): the engine takes a picture while it is free; a lower CLASS number displaces one. Live fragments do not
wait, so those of the stream's previous picture have left or been discarded before it starts (R304, R312; assumption log 99). -/
def Ctl.pictureStart (c : Ctl) : Ctl :=
  if c.enOut then c else
  match enBest c.en.ready with
  | none => c
  | some p =>
    if c.en.cur.any (fun q => decide (q.cfg.cls ≤ p.cfg.cls)) then c else
    let back := c.en.cur.toList
    let rest := c.en.ready.filter (fun q => !(q.stream = p.stream && q.order = p.order))
    if p.started then c.setEn (fun e => { e with ready := rest ++ back, cur := some p }) else
    let c := if p.cfg.archival then c else c.enFlush p.stream
    let rap := c.needsRap p
    let c := c.setEn (fun e => { e with ready := rest ++ back, cur := some { p with started := true, rap := rap } })
    c.updEn p.stream (fun x => { x with
      rapNext := false, rapFrom := if x.newImage p.order then none else x.rapFrom, lastSet := some p.cfg, sinceRap := if rap then 0 else x.sinceRap + 1 })

/-- The engine reads a picture's capture and, where it is not a RAP picture, its reference (R318); answers whether one was poisoned (assumption log 98). -/
def Ctl.picRead (m : Mem) (p : EnPic) (c : Ctl) : Ctl × Bool :=
  let a := c.stageRead m p.stream 0 p.order p.size
  if p.rap then a else
  let b := a.1.stageRead m p.stream 1 ((c.enStream p.stream).lastSent.getD 0 % 3) (p.cfg.wo * p.cfg.ho * 4)
  (b.1, a.2 || b.2)

/-- PICTURE_CODED (R303, R306; assumption log 98, 99): a poisoned read discards the picture, and the next is a RAP picture (14 R410; assumption log 99). -/
def pictureCoded (m : Mem) (c : Ctl) : Mem × Ctl :=
  if c.enOut then (m, c) else
  match c.en.cur with
  | none => (m, c)
  | some p =>
    let s := p.stream
    let rd := c.picRead m p
    let c := rd.1
    if rd.2 then (m, (((c.setEn (fun e => { e with cur := none })).enGap s).enRap s).showBacklog s) else
    let x := c.enStream s
    let ref := (p.order + 2 ^ 32 - x.lastSent.getD 0) % 2 ^ 32
    let heads := (if p.rap then enStreamHdr p.cfg ++ enLayerHdr p.cfg else []) ++ enPicHdr p ref
    let budget := p.cfg.budget x.charges
    let chain := if p.rap then [] else x.chain
    let q := enRows chain p budget (List.range (ceilDiv p.cfg.ho 64)) (heads, none)
    let nbits := 8 * q.1.length
    let charge := match budget with
      | some b => min nbits b
      | none => nbits
    let flags := 4 * b2n p.rap + 8 * b2n q.2.isSome + 16 * b2n x.skipped
    let o : EnOut := { stream := s, order := p.order, cfg := p.cfg, flags := flags, bits := nbits, bytes := q.1 }
    let c := c.setEn (fun e => { e with cur := none, outq := e.outq ++ [o] })
    let c := c.updEn s (fun y => { y with
      lastSent := some p.order, skipped := false, chain := q.1 :: chain, charges := ((p.order, charge) :: y.charges).take 512 })
    let c := (c.showCharge s p.cfg).showBacklog s
    let c := match q.2 with
      | some row => (c.incEa 0x3125 s).enPost 0x2141 s [i8 s, i8 row]
      | none => c
    stageFree s 1 (p.order % 3) (p.cfg.wo * p.cfg.ho * 4) m c

/-! ### Commits and activation (R302, R307, R316 to R318) -/

/-- Scale range of R302: 8 down, 4 up. -/
def scaleOk (win wout : Nat) : Bool := decide (win ≤ 8 * wout) && decide (wout ≤ 4 * win)

/-- The first reason that a stream's settings fail for an image, by the order of R316: the event code. -/
def enStreamBad (g : List Byte) (plan : Nat → SlotPlan) (x : EnSet) : Option Nat :=
  let p := plan (bits x.arg 3 0)
  let bad := if x.capture = 0 then decide (bits x.arg 7 0 ≥ imgVx g) || decide (bits x.arg 15 8 ≥ imgVy g) else p.cls = 0 || decide (bits x.arg 7 4 ≥ p.keys)
  let rs := rotSize x.rot (capSize g plan x).1 (capSize g plan x).2
  let sizeBad := !(x.wo % 8 = 0 && x.ho % 8 = 0 && decide (64 ≤ x.wo) && decide (x.wo ≤ 4096) && decide (64 ≤ x.ho) && decide (x.ho ≤ 4096) &&
    decide (x.wo * x.ho ≤ 8294400) && scaleOk rs.1 x.wo && scaleOk rs.2 x.ho)
  if bad then some 0x2182 else if sizeBad then some 0x2183 else none

/-- DEST_ADDR and the ring of a stream (R316). -/
def destBad (x : EnSet) : Bool :=
  if x.dest = 0 then x.addr % 4096 ≠ 0 || !((List.range 9).any (fun k => x.entries = 2 ^ (k + 4)))
  else !Config.fieldFitted (x.dest - 1)

/-- The live load as a fraction: numerator and denominator (R307). -/
def liveLoad (l : List EnSet) : Nat × Nat :=
  (l.filter (fun x => decide (x.cls < 3))).foldl (fun q x =>
    let n := (15 * x.wo * x.ho + 8 * 4096) * x.rate
    let d := 8000 * x.divider
    (q.1 * d + n * q.2, q.2 * d)) (0, 1)

/-- Staging bytes of R318. -/
def stagingNeed (g : List Byte) (plan : Nat → SlotPlan) (l : List EnSet) : Nat :=
  (l.map (fun x => let z := capSize g plan x; (if x.archival then x.depth else 2) * z.1 * z.2 * 8 + 3 * x.wo * x.ho * 4)).foldl (· + ·) 524288

/-- The commit check of R316 over the entries as the set leaves them, at the rate of the frame that begins (13 R385): event code and data items
(assumption log 99). -/
def Ctl.enCheck (c : Ctl) (e : Nat → Nat) : Option (Nat × List (Nat × Nat)) :=
  let plan := fun s => if c.hasImage then c.plan s else slotPlan [] s
  let ss := (List.range 16).filter (fun s => e (ekey 0x3110 (s + 1)) = 1)
  let cfg := fun s => enSetOf e (c.e 0x230006) s
  let one := fun s => match enStreamBad c.img plan (cfg s) with
    | some code => some (code, [i8 s])
    | none => if destBad (cfg s) then some (0x2184, [i8 s]) else none
  match firstSome one ss with
  | some r => some r
  | none =>
    let ld := liveLoad (ss.map cfg)
    if ld.1 > 950000000 * ld.2 then some (0x2185, [i32 (ld.1 / (ld.2 * 1000000))]) else
    let need := stagingNeed c.img plan (ss.map cfg)
    if (ss ≠ [] || e 0x310003 = 1) && decide (e 0x310002 < need) then some (0x2186, [i32 need]) else none

/-- LIVE_LOAD, and streams that start or stop: a stream starts with PIC_ORDER 0 and a RAP picture (R304). -/
def Ctl.showStreams (c : Ctl) : Ctl :=
  let ld := liveLoad (((List.range 16).filter (fun s => c.ea 0x3110 s = 1)).map c.enSet)
  let c := c.setE 0x310007 (ld.1 * 1000 / (ld.2 * 950000000) % 65536)
  (List.range 16).foldl (fun c s =>
    let en := c.ea 0x3110 s = 1
    if en && !(c.enStream s).on then c.updEn s (fun x => { on := true, tail := x.tail })
    else if !en && (c.enStream s).on then
      (c.setEn (fun e => { e with ready := e.ready.filter (fun p => p.stream ≠ s || p.started) })).updEn s (fun x => { x with on := false })
    else c) c

/-- An activation (R317): RAP pictures, and streams that the new image does not allow. -/
def Ctl.enActivate (c : Ctl) : Ctl :=
  (List.range 16).foldl (fun c s =>
    let c := c.updEn s (fun x => { x with rapFrom := some x.order })
    if c.ea 0x3110 s = 0 then c else
    match enStreamBad c.img c.plan (c.enSet s) with
    | some code => (c.setEa 0x3110 s 0).enPost code s [i8 s]
    | none => c) c

/-! ### Faults (R319) and small commands -/

/-- RAP_REQUEST. -/
def Ctl.rapRequest (c : Ctl) (s : Nat) : Ctl := c.enRap s

/-- Pictures in progress are discarded. -/
def Ctl.enAbort (c : Ctl) : Ctl :=
  let gone := (c.en.cur.toList ++ c.en.ready.filter EnPic.started).map EnPic.stream
  let c := gone.foldl (fun c s => (c.enGap s).enRap s) c
  (c.setEn (fun e => { e with cur := none, ready := e.ready.filter (fun p => !p.started) })).showBacklogs

/-- ENCODER_FAULT: the engine enters OUT. -/
def Ctl.encoderFault (c : Ctl) : Ctl :=
  if c.enOut then c else ((c.enAbort.setE 0x310008 1).unitOut 0x21 0).post 0x21C1 []

/-- The engine leaves OUT: every stream restarts with a RAP picture. -/
def Ctl.encoderBack (c : Ctl) : Ctl := (List.range 16).foldl Ctl.enRap (c.setE 0x310008 0)

/-- COUNTER_CLEAR of the encoder (R321). -/
def Ctl.enCountersClear (c : Ctl) : Ctl :=
  [0x3123, 0x3124, 0x3125].foldl (fun c i => (List.range 16).foldl (fun c s => c.setEa i s 0) c) c

/-! ### The commands -/

/-- PICTURE_START. -/
def execPictureStart (dt : Nat) (s : State) : Host.Outcome State Fault Refusal := runC (fun c => (c.advance dt).pictureStart) s
/-- PICTURE_CODED. -/
def execPictureCoded (dt : Nat) (ue : List DramErr) (s : State) : Host.Outcome State Fault Refusal :=
  runM (fun m c => pictureCoded (m.found ue) (c.advance dt)) s
/-- FRAGMENT_SEND: `sent` octets have left the egress queue of the stream's field port since the last one. -/
def execFragmentSend (dt stream sent : Nat) (s : State) : Host.Outcome State Fault Refusal :=
  runC (fun c => ((c.advance dt).egressSent (((c.en.outq.find? (fun o => o.stream = stream)).map (fun o => o.cfg.dest)).getD 0) sent).enFragment stream) s
/-- POP_RECORD_WRITE: `room` in the host's ring, `sent` octets that have left the field port's egress queue. -/
def execPopRecordWrite (dt index : Nat) (room : Bool) (sent : Nat) (ue : List DramErr) (s : State) : Host.Outcome State Fault Refusal :=
  runM (fun m c => (m.found ue, Ctl.popWrite (m.found ue) index room ((c.advance dt).egressSent (c.e 0x310004) sent))) s
/-- EN_RING_HEAD_WRITE. -/
def execEnRingHeadWrite (dt stream head : Nat) (s : State) : Host.Outcome State Fault Refusal :=
  runC (fun c => (c.advance dt).enHeadWrite (stream % 16) head) s
/-- RAP_REQUEST. -/
def execRapRequest (dt stream : Nat) (s : State) : Host.Outcome State Fault Refusal := runC (fun c => (c.advance dt).rapRequest stream) s
/-- ENCODER_FAULT. -/
def execEncoderFault (dt : Nat) (s : State) : Host.Outcome State Fault Refusal := runC (fun c => (c.advance dt).encoderFault) s

end Sys2Proof.Machine
end

