-- ==== Sys2Proof/Machine/Ring.lean ====
section
/-! DEFINITION. The ring's commands (12, 01 R20 to R27): frames, enumeration, lane maps and the side channel. Ring slices are in
Slices.lean, since they reach decode and panel drive. -/
namespace Sys2Proof.Machine

/-! ### Of a frame received (R353 to R359, R369) -/

/-- A header word that passes at its position (R356, R357). -/
def hdrOk (w pos stripe : Nat) : Bool :=
  bits w 63 56 = 0xD5 && bits w 55 52 = stripe && bits w 51 49 = pos && crc8 (toBE 7 (w / 256)) = w % 256

/-- Stripes that run in the receive direction, ascending (R353). -/
def Ctl.stripeIds (c : Ctl) (p : Nat) : List Nat :=
  let base := c.mapBase p false
  let m := c.normal p false
  let st := if base < 9 && base ≠ m.spare then m.stripe.map (fun x => if x = base then m.spare else x) else m.stripe
  (List.range 8).filter (fun i => !bit (c.failedSet p false) (st.getD i 0))

/-- Physical lane of a stripe in the receive direction. -/
def Ctl.stripeLane (c : Ctl) (p i : Nat) : Nat :=
  let base := c.mapBase p false
  let m := c.normal p false
  let x := m.stripe.getD i 0
  if base < 9 && base ≠ m.spare && x = base then m.spare else x

/-- A port that ring transport gives up: RING_LINK_DOWN, and it brings up again (R368; assumption log 56). -/
def Ctl.linkDown (c : Ctl) (p : Nat) : Ctl := (c.ringWarn 0x1182 p [i8 p]).portStart p

/-- A direction with fewer stripes than PORT_MIN_LANES takes the port down (R368; assumption log 51). -/
def Ctl.checkStripes (c : Ctl) (p : Nat) : Ctl :=
  if c.portUp p && (c.stripes p true < (c.port p).minLanes || c.stripes p false < (c.port p).minLanes) then c.linkDown p else c

/-- A stripe is reported to the serial lanes as TRANSPORT (R354, R357, R359). -/
def Ctl.transport (c : Ctl) (p stripe : Nat) : Ctl :=
  let l := 9 * p + c.stripeLane p stripe
  if c.laneSt l = 2 then c.markFailed l 6 else c

/-- The receive direction takes a new set (R369): lanes newly outside the stripes begin their clean time (R370). -/
def Ctl.applyRx (c : Ctl) (p failed base : Nat) : Ctl :=
  let new := failed &&& (511 - c.failedSet p false)
  let c := c.setRgPort p (fun q => { q with pendRx := none, rxFrames := 0, stripeBad := List.replicate 8 0 })
  let c := (bitsOf 9 new).foldl (fun c n => c.setLane (9 * p + n) (fun x => { x with cleanFrom := some c.up })) c
  (c.wakeSpare p (c.stripeLanes p false failed base)).switchMap p false failed base |>.checkStripes p

/-- Frame lock (R357; assumption log 56). -/
def Ctl.frameLock (c : Ctl) (p good : Nat) : Ctl :=
  let q := c.rgPort p
  let c := if q.lock then
      let bad := if good < 4 then q.badRun + 1 else 0
      if bad ≥ 4 then (c.setRgPort p (fun q => { q with lock := false, badRun := 0, goodRun := 0 })).ringWarn 0x1182 p [i8 p]
      else c.setRgPort p (fun q => { q with badRun := bad })
    else
      let run := if good = 8 then q.goodRun + 1 else 0
      c.setRgPort p (fun q => { q with goodRun := run, lock := decide (run ≥ 4), badRun := 0 })
  c.setMap p false (c.failedSet p false) (c.mapBase p false)

/-- The count w of the port word stream at the frame that comes next (R353). -/
def Ctl.rxWord (c : Ctl) (p : Nat) : Nat := (c.rgPort p).rxFrames * frameWords (c.rgPort p).code

/-- Stripes whose skew against the earliest exceeds 16 words are reported (R354). -/
def Ctl.skewed (c : Ctl) (p : Nat) (ids skew : List Nat) : Ctl :=
  let least := (ids.map (fun i => skew.getD i 0)).foldl min (skew.getD (ids.getD 0 0) 0)
  (ids.filter (fun i => decide (skew.getD i 0 > least + 16))).foldl (fun c i => c.transport p i) c

/-- Stripes whose header words all fail, frame after frame, while at least half of the others pass (R357). `ok` lists the results by
position. -/
def Ctl.stripeFails (c : Ctl) (p : Nat) (ids : List Nat) (ok : List Bool) : Ctl :=
  let a := ids.length
  if a = 0 then c else
  let w0 := c.rxWord p % a
  let words := fun (i : Nat) => (List.range 8).filter (fun k => ids.getD ((w0 + k) % a) 0 = i)
  let fails := ids.filter (fun i => (words i).all (fun k => !ok.getD k false))
  let few := fun (i : Nat) => decide (2 * ((ids.filter (fun j => j ≠ i && !fails.contains j)).length) ≥ a - 1)
  let c := c.setRgPort p (fun q => { q with stripeBad := (List.range 8).map (fun i => if fails.contains i && few i then q.stripeBad.getD i 0 + 1 else 0) })
  (ids.filter (fun i => (c.rgPort p).stripeBad.getD i 0 ≥ 4)).foldl (fun c i =>
    (c.setRgPort p (fun q => { q with stripeBad := q.stripeBad.set i 0 })).transport p i) c

/-- FEC results of a frame (R359): the stripes of the symbols corrected, and the codewords that were not. A stripe with more than 1,024 symbols
within 1 ms is reported. -/
def Ctl.fecResults (c : Ctl) (p : Nat) (stripes unc : List Nat) : Ctl :=
  let sum := stripes.length
  let c := (c.setEa 0x2119 p (satAdd 64 (c.ea 0x2119 p) sum)).addReg .rgFecErrors p 0 16 sum
  let c := c.setRgPort p (fun q => { q with
    fecLog := (q.fecLog ++ [(c.up, stripes)]).filter (fun r => decide (c.up < r.1 + tMs 1) && !r.2.isEmpty)
    badWords := (q.badWords ++ unc.map (fun k => (q.frames, k))).filter (fun r => decide (q.frames < r.1 + 1024)) })
  let of := fun (c : Ctl) (i : Nat) => ((c.rgPort p).fecLog.map (fun r => (r.2.filter (· = i)).length)).foldl (· + ·) 0
  let c := ((List.range 8).filter (fun i => of c i > 1024)).foldl (fun c i =>
    (c.setRgPort p (fun q => { q with fecLog := q.fecLog.map (fun r => (r.1, r.2.filter (· ≠ i))) })).transport p i) c
  let n := unc.length
  if n = 0 then c else
  ((c.setEa 0x211A p (satAdd 32 (c.ea 0x211A p) n)).addReg .rgFecErrors p 16 16 n).ringWarn 0x1146 p [i8 p, i32 n]

/-- The eight header words of a frame as it came, with its FEC results at codes 4 and 5 (R355, R359). -/
def Ctl.frameHead (c : Ctl) (p : Nat) (ids words : List Nat) : Ctl × List Nat :=
  if (c.rgPort p).code < 4 then (c, words.take 8) else
  let r := fecOpen words
  let w0 := c.rxWord p
  (c.fecResults p (r.2.1.map (fun w => ids.getD ((w0 + w) % ids.length) 0)) r.2.2, r.1.take 8)

/-- FAILED_SET, BASE and MAP_CD of a frame (R356, R369): a change falls due MAP_CD frames on; without one the set is the one in force. -/
def Ctl.frameMap (c : Ctl) (p fseq w1 w2 : Nat) : Ctl :=
  let failed := bits w2 31 23
  let base := bits w2 22 19
  let cd := bits w1 21 20
  if cd ≠ 0 then c.setRgPort p (fun q => { q with pendRx := some ((fseq + cd) % 65536, failed, base) })
  else if (c.rgPort p).pendRx.isNone && (failed ≠ c.failedSet p false || base ≠ c.mapBase p false) then c.applyRx p failed base
  else c

/-- A change that falls due at the next frame is taken. -/
def Ctl.frameDue (c : Ctl) (p : Nat) : Ctl := match (c.rgPort p).pendRx with
  | some (t, failed, base) =>
    let d := (t + 65536 - (c.rgPort p).fseq - 1) % 65536
    if d = 0 || d ≥ 32768 then c.applyRx p failed base else c
  | none => c

/-! ### Side-channel messages (R367) -/

/-- ENUM from the West neighbour (01 R23; assumption log 56). -/
def Ctl.enumMsg (c : Ctl) (port dst : Nat) (tiles : List Nat) : Ctl := if c.portUp port && c.sideMine dst then c.enumPass tiles else c

/-- ENUM_DONE: tile indices and CLOSED; it goes on West (R367; assumption log 56). -/
def Ctl.enumDoneMsg (c : Ctl) (port dst src : Nat) (tiles : List Nat) (closed : Nat) : Ctl :=
  if !c.portUp port then c else
  let c := c.sidePass port 2 dst src (tiles.map byteOf ++ [byteOf closed])
  if c.sideMine dst then (c.enumDone tiles closed).enumFollow else c

/-- INDEX_CHANGED at the head (01 R23). -/
def Ctl.indexMsg (c : Ctl) (port dst src old new : Nat) : Ctl :=
  if !c.portUp port then c else
  let c := c.sidePass port 0x0A dst src [byteOf old, byteOf new]
  if c.sideMine dst then c.enumerate.enumFollow else c

/-- MAPS of the partner: its transmit and its receive masks (R367, R371). -/
def Ctl.mapsMsg (c : Ctl) (p tx rx : Nat) : Ctl :=
  if !c.portUp p || !c.cpaUp then c else
  let c := c.setRgPort p (fun q => { q with partnerMaps := (tx, rx) })
  if c.chooseBase p (c.failedSet p true) ≠ c.mapBase p true then c.askChange p 0 else c

/-- MAP_REQ (R368 to R370): the partner's FAILED_SET for this transmit direction; with READMIT the lanes it no longer names go back (assumption log 56). -/
def Ctl.mapReqMsg (c : Ctl) (p failed : Nat) (readmit : Bool) (id : Nat) : Ctl :=
  if !c.portUp p || !c.cpaUp then c else
  let c := c.sideSend p 5 0xFE [byteOf id]
  if readmit then
    let back := c.failedSet p true &&& (511 - failed % 512)
    c.setRgPort p (fun q => { q with readmit := q.readmit ++ ((bitsOf 9 back).filter (fun n => !(q.readmit.any (fun r => r.1 = n)))).map (fun n => (n, c.up)) })
  else c.askChange p (failed % 512)

/-- MAP_ACK (R367). -/
def Ctl.mapAckMsg (c : Ctl) (p id : Nat) : Ctl :=
  if c.portUp p && c.cpaUp then c.setRgPort p (fun q => { q with reqs := q.reqs.filter (fun r => r.id ≠ id) }) else c

/-- MAP_REQ_REPEAT (R367): every request without its answer for 10 µs. -/
def Ctl.mapReqRepeat (c : Ctl) (p : Nat) : Ctl :=
  if !c.portUp p || !c.cpaUp then c else
  ((c.rgPort p).reqs.filter (fun r => decide (c.up ≥ r.sentAt + tUs 10))).foldl (fun c r =>
    let c := c.setRgPort p (fun q => { q with reqs := q.reqs.map (fun x => if x.id = r.id then { x with sentAt := c.up } else x) })
    c.sideSend p 4 0xFE (toLE 2 r.failed ++ [byteOf (b2n r.readmit), byteOf r.id])) c

/-- The body of STATUS: position, tile index, and for each port up, a and FAILED_SET of its transmit direction and the KEEP received. -/
def Ctl.statusBody (c : Ctl) : List Byte :=
  [byteOf (c.e 0x210003), byteOf c.tileIndex] ++ (List.range 2).flatMap (fun p =>
    [byteOf (b2n (c.portUp p)), byteOf (c.stripes p true)] ++ toLE 2 (c.failedSet p true) ++ toLE 2 (c.rgPort p).keepRx)

/-- STATUS_MSG_TIMER (R367): toward the feeder in both directions. -/
def Ctl.statusMsg (c : Ctl) : Ctl := (c.sideSend 0 6 0xFF c.statusBody).sideSend 1 6 0xFF c.statusBody

/-- SIDE_CHANNEL_FORWARD (R367): a message for another part goes on; octets as received. -/
def Ctl.sideForward (c : Ctl) (port : Nat) (m : List Byte) : Ctl :=
  let dst := u8At m 2
  if c.portUp port && c.cpaUp && decide (m.length ≥ 6) && m.length = 6 + u8At m 1 && ofLE (m.drop (m.length - 2)) = crc16 (m.take (m.length - 2)) && c.sideOn dst then
    c.sideQueue (1 - port) port (u8At m 0) dst m
  else c

/-- A whole message, as the side channel carried it on a port (R367): one with a bad CRC16 is discarded; one for another part goes on; this part
takes one that is addressed to it. PTP and VOSTAN messages for this part come as commands of their own (assumption log 57). -/
def Ctl.sideTake (c : Ctl) (p : Nat) (m : List Byte) : Ctl :=
  if !c.portUp p || ofLE (m.drop (m.length - 2)) ≠ crc16 (m.take (m.length - 2)) then c else
  let c := c.sideForward p m
  if !c.sideMine (u8At m 2) then c else
  let body := (m.drop 4).take (u8At m 1)
  let tiles := body.map (fun b => b.toNat)
  match u8At m 0 with
  | 1 => c.enumPass tiles
  | 2 => (c.enumDone tiles.dropLast (tiles.getLast?.getD 0)).enumFollow
  | 3 => c.mapsMsg p (leAt body 0 2) (leAt body 2 2)
  | 4 => c.mapReqMsg p (leAt body 0 2) (decide (u8At body 2 ≠ 0)) (u8At body 3)
  | 5 => c.mapAckMsg p (u8At body 0)
  | 7 => c.laneFrame (9 * p + u8At body 0 % 9) (body.drop 1)
  | 10 => c.enumerate.enumFollow
  | _ => c

/-- Side-channel octets of a header word 3 to 7 (R356): octets gather from SOM on until the message is whole; one with LEN above 240 is given
up. -/
def Ctl.sideOctets (c : Ctl) (p w : Nat) : Ctl :=
  let had := (c.rgPort p).sideRx
  if !c.portUp p || (!bit w 15 && had.isEmpty) then c else
  let bs := ([byteOf (bits w 31 24), byteOf (bits w 23 16)]).take (bits w 14 13)
  let m := (if bit w 15 then [] else had) ++ bs
  let keep := fun (l : List Byte) => c.setRgPort p (fun q => { q with sideRx := l })
  if m.length < 2 then keep m
  else if u8At m 1 > 240 then keep []
  else if m.length < 6 + u8At m 1 then keep m
  else (keep []).sideTake p (m.take (6 + u8At m 1))

/-! ### A frame (R353 to R359) -/

/-- What a frame's header words say once the port has frame lock (R356). `ok` lists by position the words that pass. -/
def Ctl.frameFieldsTake (c : Ctl) (p fseq : Nat) (hdr : List Nat) (ok : List Bool) : Ctl :=
  let c := if ok.getD 0 false then (c.setRgPort p (fun q => { q with keepRx := bits (hdr.getD 0 0) 31 16 })).refreshKeep else c
  let c := if ok.getD 1 false && bits (hdr.getD 1 0) 31 22 ≠ 0x3FF then c.setRgPort p (fun q => { q with seek := false }) else c
  let c := [3, 4, 5, 6, 7].foldl (fun c k => if ok.getD k false then c.sideOctets p (hdr.getD k 0) else c) c
  if c.portUp p && ok.getD 1 false && ok.getD 2 false then c.frameMap p fseq (hdr.getD 1 0) (hdr.getD 2 0) else c

/-- RING_FRAME_RX: the words of a frame as the stripes carried them, and the skew of each stripe in words (assumption log 57). -/
def Ctl.ringFrame (c : Ctl) (p : Nat) (words skew : List Nat) : Ctl :=
  if !c.portUp p || words.length ≠ frameWords (c.rgPort p).code then c else
  let ids := c.stripeIds p
  let a := ids.length
  let (c, hdr) := (c.skewed p ids skew).frameHead p ids words
  let w0 := if a = 0 then 0 else c.rxWord p % a
  let ok := (List.range 8).map (fun k => decide (a ≠ 0) && hdrOk (hdr.getD k 0) k (ids.getD ((w0 + k) % a) 0))
  let fseq := match (List.range 8).find? (fun k => ok.getD k false) with
    | some k => bits (hdr.getD k 0) 47 32
    | none => ((c.rgPort p).fseq + 1) % 65536
  let c := c.stripeFails p ids ok
  let c := c.setRgPort p (fun q => { q with fseq := fseq, rxFrames := q.rxFrames + 1, frames := q.frames + 1 })
  let c := c.frameLock p (ok.filter id).length
  (if (c.rgPort p).lock then c.frameFieldsTake p fseq hdr ok else c).frameDue p

/-! ### Lane sparing (R368 to R371) -/

/-- LANE_OUT_ORDER: the fault manager's order is taken (R368, R369 step 1). -/
def Ctl.laneOutOrder (c : Ctl) (l : Nat) : Ctl :=
  if !c.fm.ordersOut.contains l then c else
  let p := l / 9
  let c := { c with fm := { c.fm with ordersOut := c.fm.ordersOut.filter (· ≠ l) } }
  if !c.portUp p then c else
  let c := c.setLane l (fun x => { x with cleanFrom := none })
  (c.askChange p (2 ^ (l % 9))).sendMapReq p (c.rxWanted p ||| 2 ^ (l % 9)) false

/-- MAP_CHANGE_SEND (R369): `left` octets of a ring slice in progress are still to send. The change waits for the slice's end, or for 180 µs after
the order or request; then the slice ends there, TRUNCATED. A change without effect ends; one that leaves too few stripes takes the port down. -/
def Ctl.mapChangeSend (c : Ctl) (p left : Nat) : Ctl :=
  match (c.rgPort p).change with
  | none => c
  | some ch =>
    if !c.portUp p || (decide (left ≠ 0) && decide (c.up < ch.askedAt + tUs 180)) then c else
    let c := c.setRgPort p (fun q => { q with change := none })
    let c := if left = 0 then c else
      (c.setRgPort p (fun q => { q with fifo := q.fifo - left })).emit { kind := .ringSlice, a := p, b := 1, c := left }
    if ch.failed = c.failedSet p true && c.chooseBase p ch.failed = c.mapBase p true then c
    else (c.switchTx p ch.failed).checkStripes p

/-- LANE_CLEAN (R370, 20 R561): clean for 1 s with the checker's errors within the limit; a withheld lane is not readmitted. -/
def Ctl.laneClean (c : Ctl) (l errors : Nat) : Ctl :=
  let p := l / 9
  match (c.lane l).cleanFrom with
  | none => c
  | some t =>
    if !c.portUp p || c.laneSt l ≠ 2 || !bit (c.failedSet p false) (l % 9) || c.up < t + tS 1 || c.fm.withheld.contains l then c
    else if errors > (if (c.rgPort p).code < 4 then 0 else 4000000) then c.setLane l (fun x => { x with cleanFrom := some c.up })
    else (c.setLane l (fun x => { x with cleanFrom := none })).sendMapReq p (c.failedSet p false &&& (511 - 2 ^ (l % 9))) true

/-- Readmissions due at a flip, merged with a change that waits (R370); a lane that the fault manager withholds waits (20 R561). -/
def Ctl.readmitAt (c : Ctl) (p : Nat) : Ctl :=
  let q := c.rgPort p
  let due := q.readmit.filter (fun r => decide (c.up ≥ r.2 + tUs 100) && c.laneSt (9 * p + r.1) = 2 && !c.fm.withheld.contains (9 * p + r.1))
  if !q.up || due.isEmpty then c else
  let from_ := (q.change.map MapChange.failed).getD (c.failedSet p true)
  let failed := from_ &&& (511 - maskOf (due.map Prod.fst))
  let c := c.setRgPort p (fun q => { q with change := none, readmit := q.readmit.filter (fun r => !due.contains r) })
  (c.switchTx p failed).checkStripes p

/-- Ring transport at every flip. -/
def Ctl.ringFlip (c : Ctl) : Ctl :=
  let c := (List.range 2).foldl (fun c p => if c.portUp p then c.drainPort p else c) c
  (c.readmitAt 0).readmitAt 1

/-- The map of a direction under a new image: the same failed lane's map, or none where the image lacks it (03 R100, R371). The count of words
received starts over when the stripe set changes (R353). -/
def Ctl.remap (c : Ctl) (p : Nat) (tx : Bool) (was : List Nat) : Ctl :=
  let b := c.mapBase p tx
  let held := if b = (c.normal p tx).spare then bit (c.mapsMask p tx) 15 else bit (c.mapsMask p tx) b
  let c := c.setMap p tx (c.failedSet p tx) (if b < 9 && held then b else 15)
  if tx || c.lanesInForce p tx = was then c else c.setRgPort p (fun q => { q with rxFrames := 0, stripeBad := List.replicate 8 0 })

/-- A port at an image activation (R371, 03 R100): its maps, MAPS to the partner, the base that its maps still support, and what fewer stripes
mean (03 R80, R368, R373). `wasRx` are the lanes that carried the receive stripes. -/
def Ctl.portActivate (c : Ctl) (p : Nat) (wasRx : List Nat) : Ctl :=
  if !c.portUp p then c else
  let was := c.stripes p true
  let c := ((((c.remap p true []).remap p false wasRx).sendMaps p).refreshKeep).linkReduced p was
  let c := if c.chooseBase p (c.failedSet p true) ≠ c.mapBase p true then c.askChange p 0 else c
  c.checkStripes p

/-- Ring transport at an image activation (R371, 03 R100, 01 R23): the tile index and the receive lanes of both ports before it. -/
def Ctl.ringActivate (c : Ctl) (wasTile : Nat) (wasRx : List (List Nat)) : Ctl :=
  (((c.portActivate 0 (wasRx.getD 0 [])).portActivate 1 (wasRx.getD 1 [])).refreshKeep).tileChanged wasTile

/-! ### The commands -/

/-- RING_FRAME_RX. -/
def execRingFrameRx (dt port : Nat) (words skew : List Nat) (s : State) : Host.Outcome State Fault Refusal :=
  runC (fun c => (c.advance dt).ringFrame port words skew) s
/-- RING_ENUMERATE: on the head only (01 R23). -/
def execRingEnumerate (dt : Nat) (s : State) : Host.Outcome State Fault Refusal := runC (fun c => (c.advance dt).enumerate.enumFollow) s
/-- ENUM. -/
def execEnum (dt port dst : Nat) (tiles : List Nat) (s : State) : Host.Outcome State Fault Refusal :=
  runC (fun c => (c.advance dt).enumMsg port dst tiles) s
/-- ENUM_DONE. -/
def execEnumDone (dt port dst src : Nat) (tiles : List Nat) (closed : Nat) (s : State) : Host.Outcome State Fault Refusal :=
  runC (fun c => (c.advance dt).enumDoneMsg port dst src tiles closed) s
/-- INDEX_CHANGED. -/
def execIndexChanged (dt port dst src old new : Nat) (s : State) : Host.Outcome State Fault Refusal :=
  runC (fun c => (c.advance dt).indexMsg port dst src old new) s
/-- MAPS. -/
def execMaps (dt port tx rx : Nat) (s : State) : Host.Outcome State Fault Refusal := runC (fun c => (c.advance dt).mapsMsg port tx rx) s
/-- MAP_REQ. -/
def execMapReq (dt port failed : Nat) (readmit : Bool) (id : Nat) (s : State) : Host.Outcome State Fault Refusal :=
  runC (fun c => (c.advance dt).mapReqMsg port failed readmit id) s
/-- MAP_ACK. -/
def execMapAck (dt port id : Nat) (s : State) : Host.Outcome State Fault Refusal := runC (fun c => (c.advance dt).mapAckMsg port id) s
/-- MAP_REQ_REPEAT. -/
def execMapReqRepeat (dt port : Nat) (s : State) : Host.Outcome State Fault Refusal := runC (fun c => (c.advance dt).mapReqRepeat port) s
/-- STATUS_MSG_TIMER. -/
def execStatusMsgTimer (dt : Nat) (s : State) : Host.Outcome State Fault Refusal := runC (fun c => (c.advance dt).statusMsg) s
/-- SIDE_CHANNEL_FORWARD. -/
def execSideChannelForward (dt port : Nat) (bytes : List Byte) (s : State) : Host.Outcome State Fault Refusal :=
  runC (fun c => (c.advance dt).sideForward port bytes) s
/-- LANE_OUT_ORDER. -/
def execLaneOutOrder (dt lane : Nat) (s : State) : Host.Outcome State Fault Refusal := runC (fun c => (c.advance dt).laneOutOrder lane) s
/-- MAP_CHANGE_SEND. -/
def execMapChangeSend (dt port left : Nat) (s : State) : Host.Outcome State Fault Refusal :=
  runC (fun c => (c.advance dt).mapChangeSend port left) s
/-- LANE_CLEAN. -/
def execLaneClean (dt lane errors : Nat) (s : State) : Host.Outcome State Fault Refusal := runC (fun c => (c.advance dt).laneClean lane errors) s

end Sys2Proof.Machine
end

