-- ==== Sys2Proof/Machine/Slices.lean ====
section
/-! DEFINITION. Ring slices (12 R360 to R365): checks, local delivery to decode and panel drive, and forwarding. -/
namespace Sys2Proof.Machine

/-- A ring slice as it arrives: its four header words, its payload octets and its trailer word. -/
structure RingSlice where
  h0 : Nat
  h1 : Nat
  h2 : Nat
  h3 : Nat
  payload : List Byte
  trailer : Nat
  deriving DecidableEq, Repr

/-- KIND (R360). -/
def RingSlice.kind (x : RingSlice) : Nat := bits x.h0 63 60
/-- SLOT. -/
def RingSlice.slot (x : RingSlice) : Nat := bits x.h0 59 56
/-- LENGTH. -/
def RingSlice.length (x : RingSlice) : Nat := bits x.h0 31 0
/-- Tile mask. -/
def RingSlice.mask (x : RingSlice) : Nat := x.h1 * 2 ^ 64 + x.h2
/-- The octets that the trailer's CRC covers, each word from bits [63:56] down. -/
def RingSlice.covered (x : RingSlice) : List Byte :=
  toBE 8 x.h0 ++ toBE 8 x.h1 ++ toBE 8 x.h2 ++ toBE 8 x.h3 ++ x.payload ++ List.replicate (8 * ceilDiv x.payload.length 8 - x.payload.length) 0
/-- The slice as it goes on, bit for bit; a truncated one ends at the word at which it ended here (R362). -/
def RingSlice.octets (x : RingSlice) : List Byte := if x.payload.length < x.length then x.covered else x.covered ++ toBE 8 x.trailer
/-- Content words from its first to its last. -/
def RingSlice.words (x : RingSlice) : Nat := x.octets.length / 8
/-- Case 4 of R362. -/
def RingSlice.badLength (x : RingSlice) : Bool := x.length = 0 || decide (x.length > 4194308) || x.kind = 0

/-- The reason of R362, 0 for an intact slice; `fec` says that a word of it is marked bad (assumption log 58). -/
def RingSlice.reason (x : RingSlice) (fec : Bool) : Nat :=
  if x.badLength then 4 else if fec then 3 else if x.payload.length < x.length then 2
  else if bits x.trailer 31 0 ≠ crc32 x.covered then 1 else 0

/-- A word of the slice is marked bad (R359): the slice began `back` content words before the end of the last frame received. -/
def Ctl.sliceBad (c : Ctl) (port back : Nat) (x : RingSlice) : Bool :=
  let q := c.rgPort port
  let n := contentWords q.code
  q.badWords.any (fun r =>
    let s := codewordSpan r.2
    decide (r.1 * n + s.1 + back < q.frames * n + x.words) && decide (q.frames * n < r.1 * n + s.2 + back))

/-- The egress rate of a port is at least the ingress rate of the other (R365). -/
def Ctl.fastEnough (c : Ctl) (out inp : Nat) : Bool :=
  let ko := (c.rgPort out).code
  let ki := (c.rgPort inp).code
  decide (ringKbps ko * c.stripes out true * contentWords ko * frameBits ki ≥ ringKbps ki * c.stripes inp false * contentWords ki * frameBits ko)

/-- The slice is forwarded out of the opposite port, or dropped with its count (R364, R365). One admitted with an empty FIFO and a fast egress
passes through as it comes and holds no place; any other takes LENGTH + 40 octets, a truncated one those it has (assumption log 57). -/
def Ctl.sliceForward (c : Ctl) (port : Nat) (x : RingSlice) : Ctl :=
  let out := 1 - port
  if x.badLength || !c.portUp out || x.mask &&& c.downMask (out = 0) = 0 then c else
  let c := c.drainPort out
  let fifo := (c.rgPort out).fifo
  let keep := x.kind ≠ 1 || bit (c.ea 0x2113 out) x.slot
  let through := fifo = 0 && c.fastEnough out port
  let room := decide (fifo + x.length + 40 ≤ 65536) || through
  if keep && room then
    (((c.snoopPass (2 + out) 0 x.covered).setRgPort out (fun q => { q with fifo := if through then 0 else q.fifo + min (x.length + 40) x.octets.length })).incEa 0x2115 out).emit
      { kind := .ringSlice, a := out, bytes := x.octets }
  else if room then c.incEa 0x2118 out
  else if keep then (c.incEa 0x2117 out).ringWarn 0x1144 out [i8 out, i32 x.length]
  else c

/-- The units of a DEXSIA slice reach the decode input; one whose own mask lacks this tile counts in SLICES_DISCARDED and posts MASK_MISMATCH
(R361; assumption log 58). -/
def Ctl.sliceUnits (c : Ctl) (port : Nat) (x : RingSlice) : Ctl :=
  (splitUnits (x.payload.take x.length)).foldl (fun c u =>
    let raw := unitRaw u
    let c := if decide (raw.length ≥ 18) && !bit (unitMask raw) c.tileIndex then (c.incEa 0x2116 port).ringWarn 0x1147 port [i16 (unitStream raw)] else c
    c.setDc (fun d => { d with arriving := d.arriving ++ [u] })) c

/-- RING_SLICE_RX (R362, R364; what passes the snoop points: 15 R438). No slice is found while the receiver looks for the next FIRST after one with a bad LENGTH. -/
def Ctl.ringSlice (c : Ctl) (port : Nat) (x : RingSlice) (back : Nat) (bad : List Nat) : Ctl :=
  if !c.portUp port || (c.rgPort port).seek then c else
  let reason := x.reason (c.sliceBad port back x)
  let mine := decide (c.tileIndex < 128) && bit x.mask c.tileIndex && (x.kind ≤ 2)
  let c := c.snoopPass port (b2n mine) x.covered
  let c := c.setRgPort port (fun q => { q with seek := x.badLength })
  let c := c.sliceForward port x
  let c := if reason = 0 then c.incEa 0x2114 port else c
  if !mine then c
  else if reason ≠ 0 then (c.incEa 0x2116 port).ringWarn 0x1145 port [i8 port, i8 reason]
  else if x.kind = 1 then c.sliceUnits port x
  else Ctl.ctSlice bad c (bits x.h3 31 0) (bit x.h0 55) (x.payload.take x.length)

/-- RING_SLICE_RX. -/
def execRingSliceRx (dt port h0 h1 h2 h3 : Nat) (payload : List Byte) (trailer back : Nat) (bad : List Nat) (s : State) :
    Host.Outcome State Fault Refusal :=
  runC (fun c => (c.advance dt).ringSlice port ⟨h0, h1, h2, h3, payload, trailer⟩ back bad) s

end Sys2Proof.Machine
end

