-- ==== Sys2Proof/Machine/Stencil.lean ====
section
/-! DEFINITION. Stencil (08): pixels and colour words, the checks of a command, drawing row by row, register and list mode, the watermark. -/
namespace Sys2Proof.Machine

/-! ### Pixels (R240 to R242) -/

/-- Bytes of one row. -/
def surfRowBytes (f w : Nat) : Nat := if f = 0x10 then 4 * w else if f = 0x11 then 2 * w else if f = 0x12 then w else ceilDiv w 8

/-- Bytes from BASE to the last byte of the last row. -/
def Surf2.bytes (s : Surf2) : Nat := s.pitch * (s.h - 1) + surfRowBytes s.fmt s.w

/-- Address and length of the bytes that hold a pixel. -/
def Surf2.at_ (s : Surf2) (x y : Nat) : Nat × Nat :=
  let r := s.base + y * s.pitch
  if s.fmt = 0x10 then (r + 4 * x, 4) else if s.fmt = 0x11 then (r + 2 * x, 2) else if s.fmt = 0x12 then (r + x, 1) else (r + x / 8, 1)

/-- A pixel as stored: its bits alone. -/
def Surf2.get (m : Mem) (s : Surf2) (x y : Nat) : Nat :=
  let a := s.at_ x y
  let v := ofLE (m.read a.1 a.2)
  if s.fmt = 0x13 then bits v (7 - x % 8) (7 - x % 8) else v

/-- A field of 8 bits narrowed to `n` levels less one. -/
def narrow8 (v n : Nat) : Nat := (v * n + 127) / 255

/-- A colour word as a pixel of a format (R242). -/
def toPixel (f c : Nat) : Nat :=
  if f = 0x10 then c
  else if f = 0x11 then narrow8 (bits c 23 16) 31 * 2048 + narrow8 (bits c 15 8) 63 * 32 + narrow8 (bits c 7 0) 31
  else if f = 0x12 then bits c 31 24
  else b2n (decide (0x80 ≤ bits c 31 24))

/-- A source pixel widened to a colour word (R242). -/
def toColour (f fg v : Nat) : Nat :=
  let rgb := fg % 2 ^ 24
  if f = 0x10 then v
  else if f = 0x11 then
    let r := bits v 15 11
    let g := bits v 10 5
    let b := bits v 4 0
    0xFF000000 + (r * 8 + r / 4) * 65536 + (g * 4 + g / 16) * 256 + (b * 8 + b / 4)
  else if f = 0x12 then v * 2 ^ 24 + rgb
  else (if v = 1 then 0xFF000000 else 0) + rgb

/-- BLEND_COPY of one pixel (R244): source and destination colour words. -/
def blendWord (ga s d : Nat) : Nat :=
  let a := (bits s 31 24 * ga + 127) / 255
  let co := fun (hi lo : Nat) => (bits s hi lo * a + bits d hi lo * (255 - a) + 127) / 255
  let ao := a + (bits d 31 24 * (255 - a) + 127) / 255
  ao * 2 ^ 24 + co 23 16 * 65536 + co 15 8 * 256 + co 7 0

/-- A destination pixel as a colour word for BLEND_COPY: A8 has D = 0. -/
def dstColour (f v : Nat) : Nat := toColour f 0 v

/-! ### The checks (R253) -/

/-- The operation has a source. -/
def opSource (op : Nat) : Bool := op = 2 || op = 3 || op = 4

/-- A format code of R240. -/
def fmtOk (f : Nat) : Bool := decide (0x10 ≤ f) && decide (f ≤ 0x13)

/-- A size of 1 to 8,192. -/
def sizeOk (n : Nat) : Bool := decide (1 ≤ n) && decide (n ≤ 8192)

/-- BASE and PITCH meet R241. -/
def Surf2.pitchOk (s : Surf2) : Bool := decide (s.base % 64 = 0) && decide (s.pitch % 64 = 0) && decide (surfRowBytes s.fmt s.w ≤ s.pitch)

/-- The same surface (R246). -/
def sameSurf (a b : Surf2) : Bool := a.base = b.base && a.pitch = b.pitch && a.fmt = b.fmt

/-- The code of the first check that fails; 0 when all hold (assumption log 97). -/
def Ctl.stCheck (c : Ctl) (q : StCmd) : Nat :=
  let src := opSource q.op
  if q.list && !q.clean then 0x0B else
  if q.op > 4 then 0x01 else
  if q.op = 0 then 0 else
  if !fmtOk q.dst.fmt || (src && !fmtOk q.src.fmt) then 0x02 else
  if (q.op = 2 && q.src.fmt ≠ q.dst.fmt) || (q.op = 3 && q.dst.fmt = 0x13) || (q.op = 4 && q.src.fmt ≠ 0x13) then 0x03 else
  if !(sizeOk q.w && sizeOk q.h && sizeOk q.dst.w && sizeOk q.dst.h) || (src && !(sizeOk q.src.w && sizeOk q.src.h)) then 0x05 else
  if !q.dst.pitchOk || (src && !q.src.pitchOk) then 0x04 else
  if !c.dramOk q.dst.base q.dst.bytes || (src && !c.dramOk q.src.base q.src.bytes) then 0x09 else
  if src && (decide (q.sx + q.w > q.src.w) || decide (q.sy + q.h > q.src.h)) then 0x06 else
  if src && !sameSurf q.src q.dst && decide (q.src.base < q.dst.base + q.dst.bytes) && decide (q.dst.base < q.src.base + q.src.bytes) then 0x07 else
  0

/-! ### Drawing (R243 to R246, R254, R257) -/

/-- A destination pixel is written: inside its surface and inside the clip region (R245). -/
def StCmd.inside (q : StCmd) (x y : Nat) : Bool :=
  decide (x < q.dst.w) && decide (y < q.dst.h) &&
  (q.clips.isEmpty || q.clips.any (fun r => decide (r.1 ≤ x) && decide (x < r.2.2.1) && decide (r.2.1 ≤ y) && decide (y < r.2.2.2)))

/-- Columns of row `j` of the operation that are written, in the order of the bursts (R246). -/
def StCmd.cols (q : StCmd) (j : Nat) : List Nat :=
  let l := (List.range q.w).filter (fun i => q.inside (q.dx + i) (q.dy + j))
  if sameSurf q.src q.dst && opSource q.op && decide (q.sx < q.dx) then l.reverse else l

/-- Rows in the order in which they are done. -/
def StCmd.rows (q : StCmd) : List Nat :=
  if sameSurf q.src q.dst && opSource q.op && decide (q.sy < q.dy) then (List.range q.h).reverse else List.range q.h

/-- The value of a destination pixel; none where it stays. -/
def StCmd.pixel (m : Mem) (q : StCmd) (i j : Nat) : Option Nat :=
  let s := fun (_ : Unit) => q.src.get m (q.sx + i) (q.sy + j)
  match q.op with
  | 1 => some (toPixel q.dst.fmt q.fg)
  | 2 => some (s ())
  | 3 => some (toPixel q.dst.fmt (blendWord q.galpha (toColour q.src.fmt q.fg (s ())) (dstColour q.dst.fmt (q.dst.get m (q.dx + i) (q.dy + j)))))
  | 4 => if s () = 1 then some (toPixel q.dst.fmt q.fg) else if bit q.flags 0 then none else some (toPixel q.dst.fmt q.bg)
  | _ => none

/-- The bytes that a row reads of its source row, and then of its destination row: what BLEND_COPY reads, or the A1 bytes written in part. -/
def StCmd.spans (q : StCmd) (j : Nat) : List (List (Nat × Nat)) :=
  let xs := q.cols j
  let src := if opSource q.op then xs.map (fun i => q.src.at_ (q.sx + i) (q.sy + j)) else []
  let part := fun (i : Nat) => ((List.range 8).filter (fun k => xs.any (fun t => q.dx + t = (q.dx + i) / 8 * 8 + k))).length < 8
  let dst := if q.op = 3 then xs.map (fun i => q.dst.at_ (q.dx + i) (q.dy + j))
    else if q.dst.fmt = 0x13 then (xs.filter (fun i => part i || (q.op = 4 && bit q.flags 0))).map (fun i => q.dst.at_ (q.dx + i) (q.dy + j)) else []
  [src, dst]

/-- All of them, in order. -/
def StCmd.reads (q : StCmd) (j : Nat) : List (Nat × Nat) := (q.spans j).flatten

/-- Bytes stored in runs: what follows on the run in hand joins it, else the run goes out as one write. -/
def storeRuns (m : Mem) (cur : Nat × List Byte) : List (Nat × List Byte) → Mem
  | [] => m.store cur.1 cur.2
  | q :: l => if cur.1 + cur.2.length = q.1 then storeRuns m (cur.1, cur.2 ++ q.2) l else storeRuns (m.store cur.1 cur.2) q l

/-- What a row writes: addresses, rising, with their octets. -/
def StCmd.cells (q : StCmd) (j : Nat) (m : Mem) : List (Nat × List Byte) :=
  let px := (List.range q.w).filterMap (fun i => if q.inside (q.dx + i) (q.dy + j) then (q.pixel m i j).map (fun v => (q.dx + i, v)) else none)
  if q.dst.fmt = 0x13 then
    let bytes := (px.map (fun p => (q.dst.at_ p.1 (q.dy + j)).1)).eraseDups
    bytes.map (fun a =>
      (a, [byteOf ((px.filter (fun p => (q.dst.at_ p.1 (q.dy + j)).1 = a)).foldl (fun b p => setBits b (7 - p.1 % 8) (7 - p.1 % 8) p.2) (m.get a).toNat)]))
  else px.map (fun p => let a := q.dst.at_ p.1 (q.dy + j); (a.1, toLE a.2 p.2))

/-- One row drawn. -/
def StCmd.draw (q : StCmd) (j : Nat) (m : Mem) : Mem := storeRuns m (0, []) (q.cells j m)

/-- The octets of a row in the order in which its bursts of one 512-byte block each are written (R246, R257). -/
def StCmd.issued (q : StCmd) (j : Nat) (m : Mem) : List Byte :=
  let l := q.cells j m
  let blocks := (l.map (fun p => p.1 / 512)).eraseDups
  let back := sameSurf q.src q.dst && opSource q.op && decide (q.sx < q.dx)
  (if back then blocks.reverse else blocks).flatMap (fun b => (l.filter (fun p => p.1 / 512 = b)).flatMap Prod.snd)

/-- Bursts of byte ranges, each once. -/
def burstsIn (l : List (Nat × Nat)) : List Nat := (l.flatMap (fun r => burstsOf r.1 r.2)).eraseDups

/-- The reads of a row up to one that fails: all before it, and of its own span what lies in the burst in progress, the part of the span in one
block of 512 bytes (R254, R257). None where nothing fails. -/
def StCmd.readsCut (q : StCmd) (j : Nat) (m : Mem) : Option (List (Nat × Nat)) :=
  let go := fun (before : List (Nat × Nat)) (rs : List (Nat × Nat)) =>
    (rs.find? (fun r => m.poisoned r.1 r.2)).map (fun r =>
      before ++ rs.takeWhile (fun x => x.1 / 512 ≠ r.1 / 512) ++ rs.filter (fun x => x.1 / 512 = r.1 / 512))
  match q.spans j with
  | [src, dst] => match go [] src with
    | some l => some l
    | none => go src dst
  | _ => none

/-- The writes of a row: bursts of which it leaves octets as they are, are merged (14 R409). -/
def StCmd.writes (q : StCmd) (j : Nat) (m : Mem) (c : Ctl) : Ctl :=
  let l := (q.cols j).map (fun i => q.dst.at_ (q.dx + i) (q.dy + j))
  let octets := if q.dst.fmt = 0x13 then (l.map Prod.fst).eraseDups else l.flatMap (fun r => (List.range r.2).map (· + r.1))
  c.writeBursts m 6 (fun b => decide ((octets.filter (fun a => a / 64 = b)).length < 64)) (burstsIn l)

/-- Rows drawn up to `limit`, or up to a read that fails, with their requests (14 R410, R413); answers whether one failed, and the octets
written in their order. NOP draws nothing. -/
def StCmd.rowsRun (q : StCmd) (limit : Nat) (m : Mem) (c : Ctl) : Mem × Ctl × Bool × List Byte :=
  (if q.op = 0 then [] else q.rows.take limit).foldl (fun (p : Mem × Ctl × Bool × List Byte) j =>
    if p.2.2.1 then p else
    match q.readsCut j p.1 with
    | some l => (p.1, p.2.1.readBursts p.1 6 (burstsIn l), true, p.2.2.2)
    | none => (q.draw j p.1, q.writes j p.1 (p.2.1.readBursts p.1 6 (burstsIn (q.reads j))), false, p.2.2.2 ++ q.issued j p.1)) (m, c, false, [])

/-- A command has run: its writes have passed the snoop point STENCIL_DST as one item (15 R438; assumption log 123). -/
def StCmd.run (q : StCmd) (limit : Nat) (m : Mem) (c : Ctl) : Mem × Ctl × Bool :=
  let r := q.rowsRun limit m c
  (r.1, if r.2.2.2.isEmpty then r.2.1 else r.2.1.snoopPass 11 0 r.2.2.2, r.2.2.1)

/-! ### Commands in order (R248 to R252) -/

/-- Change Stencil's part. -/
def Ctl.setSt (c : Ctl) (f : StState → StState) : Ctl := { c with st := f c.st }
/-- List mode. -/
def Ctl.stList (c : Ctl) : Bool := c.e 0x450001 = 1
/-- LIST_TAIL. -/
def Ctl.stTail (c : Ctl) : Nat := c.reg .stListTail 0 0
/-- LIST_ENTRIES (assumption log 65). -/
def Ctl.stEntries (c : Ctl) : Nat := 2 ^ clampN 4 12 (c.reg .stListCtrl 0 16)

/-- A register pair as a 64-bit value. -/
def Ctl.reg64 (c : Ctl) (lo hi : RegName) : Nat := c.reg lo 0 0 + c.reg hi 0 0 * 2 ^ 32

/-- The command that the registers hold (R249). -/
def Ctl.stRegs (c : Ctl) : StCmd :=
  let r := fun (n : RegName) (lo : Nat) => c.reg n 0 lo
  { op := r .stCmd 0, flags := r .stCmd 8, galpha := r .stCmd 24, w := r .stOpSize 0, h := r .stOpSize 16,
    src := ⟨r .stFmt 0, c.reg64 .stSrcBaseLo .stSrcBaseHi, r .stSrcPitch 0, r .stSrcSize 0, r .stSrcSize 16⟩,
    dst := ⟨r .stFmt 8, c.reg64 .stDstBaseLo .stDstBaseHi, r .stDstPitch 0, r .stDstSize 0, r .stDstSize 16⟩,
    sx := r .stSrcXy 0, sy := r .stSrcXy 16, dx := r .stDstXy 0, dy := r .stDstXy 16, fg := r .stFg 0, bg := r .stBg 0,
    waitRow := r .stWaitRow 0, tag := r .stTag 0, list := false, clean := true,
    clips := (bitsOf 8 (r .stClipEn 0)).map (fun n => (c.reg .stClipMin n 0, c.reg .stClipMin n 16, c.reg .stClipMax n 0, c.reg .stClipMax n 16)) }

/-- A descriptor's 64 octets (R251). -/
def descriptor (b : List Byte) : StCmd :=
  let n := fun o k => leAt b o k
  { op := n 0 1 % 16, flags := n 1 1 % 8, galpha := n 56 1, w := n 4 2, h := n 6 2,
    src := ⟨n 2 1, n 8 8, n 16 4, n 40 2, n 42 2⟩, dst := ⟨n 3 1, n 24 8, n 32 4, n 44 2, n 46 2⟩,
    sx := n 20 2, sy := n 22 2, dx := n 36 2, dy := n 38 2, fg := n 48 4, bg := n 52 4, waitRow := n 58 2, tag := n 60 4,
    list := true, clean := n 0 1 < 16 && n 1 1 < 8 && n 57 1 = 0, clips := [] }

/-- The selected progress of R255, with the pass it belongs to: source, slot and frame. None where no pass has come to a row. -/
def Ctl.stProgress (c : Ctl) : Option ((Nat × Nat × Nat) × Nat) :=
  if c.e 0x450004 = 0 then
    (if c.e 0x440007 = 0xFFFF then none else c.pd.began.map (fun f => ((0, 0, f), c.e 0x440007)))
  else match (c.plSlot (c.e 0x450006)).pass with
    | some p => if p.row = 0 then none else some ((1, c.e 0x450006, p.frame), c.ea 0x4221 (c.e 0x450006))
    | none => none

/-- The progress has reached a row. -/
def Ctl.stReached (c : Ctl) (row : Nat) : Bool := c.stProgress.any (fun p => decide (row ≤ p.2))

/-- A command fails (R249, R252): counted and reported; a list halts on it. -/
def Ctl.stFails (c : Ctl) (q : StCmd) (code : Nat) : Ctl :=
  let c := (c.setSt (fun s => { s with cmd := none, waitFrom := none, missed := false })).setE 0x450009 code
  let c := ((c.setE 0x45000A 0).incE 0x450008).post 0x3581 [i32 q.tag, i8 code]
  if q.list then (c.setSt (fun s => { s with halted := true })).post 0x3582 [i16 c.st.head]
  else c.setReg .stStatus 0 1 1

/-- A command is the next one: it fails its checks, waits for the beam, or runs (R253, R256; assumption log 97). -/
def Ctl.stStart (c : Ctl) (q : StCmd) : Ctl :=
  match c.stCheck q with
  | 0 =>
    let wait := bit q.flags 1 && !c.stReached q.waitRow
    (c.setSt (fun s => { s with cmd := some q, waitFrom := if wait then some c.up else none, missed := false })).setE 0x45000A 1
  | code => c.stFails q code

/-- The descriptor at LIST_HEAD is read and becomes the next command, while there is one and nothing runs (R250; assumption log 97). -/
def Ctl.stNext (m : Mem) (c : Ctl) : Ctl :=
  if !c.stList || c.st.cmd.isSome || c.st.halted || c.st.head = c.stTail then c else
  let a := c.reg64 .stListBaseLo .stListBaseHi + 64 * c.st.head
  let free : StCmd := { descriptor [] with tag := Config.freeValue c.draws % 2 ^ 32 }
  if !c.dramOk a 64 then c.draw.stFails free 0x09
  else if m.poisoned a 64 then ((c.readDram m 6 a 64).draw).stFails free 0x0A
  else (c.readDram m 6 a 64).stStart (descriptor (m.read a 64))

/-- LIST_HEAD advances; LIST_EMPTY where it meets LIST_TAIL (R250). -/
def Ctl.stAdvance (c : Ctl) : Ctl :=
  let h := (c.st.head + 1) % c.stEntries
  let c := c.setSt (fun s => { s with head := h })
  if h = c.stTail && c.reg .stListCtrl 0 2 = 1 then c.post 0x3502 [i16 h] else c

/-- A command completes (R249, R258): result, COMMAND_DONE with NOTIFY, and the list goes on. -/
def Ctl.stDone (m : Mem) (q : StCmd) (c : Ctl) : Ctl :=
  let c := (c.setE 0x450009 (if c.st.missed then 0x0C else 0)).setE 0x45000A 0
  let c := (c.setSt (fun s => { s with cmd := none, waitFrom := none, missed := false })).incE 0x450007
  let c := if bit q.flags 2 then c.post 0x3501 [i32 q.tag] else c
  if q.list then Ctl.stNext m c.stAdvance else c.setReg .stStatus 0 1 1

/-- STENCIL_GO (R249). -/
def Ctl.stGo (c : Ctl) : Ctl :=
  if c.stList then c.setReg .stStatus 0 4 1
  else if c.st.cmd.isSome then c.setReg .stStatus 0 2 1
  else c.stStart c.stRegs

/-- STENCIL_MODE_WRITE (R248). -/
def Ctl.stMode (c : Ctl) (v : Nat) : Ctl :=
  if c.e 0x450001 = v % 2 then c else
  let idle := c.st.cmd.isNone && (!c.stList || c.st.head = c.stTail)
  if idle then c.setE 0x450001 (v % 2) else c.setReg .stStatus 0 3 1

/-- LIST_TAIL_WRITE (R248, R250). -/
def Ctl.stTailWrite (m : Mem) (v : Nat) (c : Ctl) : Ctl :=
  if !c.stList then c.setReg .stStatus 0 4 1 else Ctl.stNext m (c.setReg .stListTail 0 0 (v % 4096))

/-- LIST_RESUME_SKIP and LIST_RESUME_RETRY (R252). -/
def Ctl.stResume (m : Mem) (skip : Bool) (c : Ctl) : Ctl :=
  if !c.st.halted then c else
  let c := c.setSt (fun s => { s with halted := false })
  Ctl.stNext m (if skip then c.stAdvance else c)

/-- STENCIL_COMMAND_DONE: the command that runs has drawn; an uncorrectable read has stopped it (R254; assumption log 97). -/
def stCommandDone (m : Mem) (c : Ctl) : Mem × Ctl :=
  match c.st.cmd, c.st.waitFrom with
  | some q, none =>
    let r := q.run q.h m c
    if r.2.2 then (r.1, r.2.1.stFails q 0x0A) else (r.1, Ctl.stDone r.1 q r.2.1)
  | _, _ => (m, c)

/-- STENCIL_ECC (R254): `rows` rows of the running command had been drawn (assumption log 97). -/
def stSramError (word rows : Nat) (m : Mem) (c : Ctl) : Mem × Ctl :=
  match c.st.cmd with
  | some q =>
    let r := if c.st.waitFrom.isNone then q.run rows m c else (m, c, false)
    (r.1, (r.2.1.stFails q 0x0A).post 0x35C1 [i32 word])
  | none => (m, c.post 0x35C1 [i32 word])

/-! ### The watermark line (R255, R256) -/

/-- WATERMARK_REACHED: WATERMARK_PASSED once per pass, and a waiting command starts. -/
def Ctl.stWatermark (c : Ctl) : Ctl :=
  let c := match c.stProgress with
    | none => c
    | some p =>
      let row := c.e 0x450005
      if c.e 0x450003 = 1 && decide (row ≤ p.2) && !c.st.passed.contains p.1 then
        (c.setSt (fun s => { s with passed := s.passed.filter (fun (x : Nat × Nat × Nat) => decide (p.1.2.2 ≤ x.2.2 + 2)) ++ [p.1] })).post 0x3503 [i8 p.1.1, i16 row]
      else c
  match c.st.cmd, c.st.waitFrom with
  | some q, some _ => if c.stReached q.waitRow then c.setSt (fun s => { s with waitFrom := none }) else c
  | _, _ => c

/-- BEHIND_BEAM_TIMEOUT: two frame periods have passed. -/
def Ctl.stTimeout (c : Ctl) : Ctl :=
  match c.st.cmd, c.st.waitFrom with
  | some q, some t =>
    if c.up < t + 2 * c.period then c else (c.setSt (fun s => { s with waitFrom := none, missed := true })).post 0x3541 [i32 q.tag]
  | _, _ => c

/-! ### The commands -/

/-- STENCIL_GO. -/
def execStencilGo (dt : Nat) (s : State) : Host.Outcome State Fault Refusal := runC (fun c => (c.advance dt).stGo) s
/-- STENCIL_MODE_WRITE. -/
def execStencilModeWrite (dt mode : Nat) (s : State) : Host.Outcome State Fault Refusal := runC (fun c => (c.advance dt).stMode mode) s
/-- LIST_TAIL_WRITE. -/
def execListTailWrite (dt value : Nat) (ue : List DramErr) (s : State) : Host.Outcome State Fault Refusal :=
  runM (fun m c => (m.found ue, Ctl.stTailWrite (m.found ue) value (c.advance dt))) s
/-- LIST_RESUME_SKIP. -/
def execListResumeSkip (dt : Nat) (ue : List DramErr) (s : State) : Host.Outcome State Fault Refusal :=
  runM (fun m c => (m.found ue, Ctl.stResume (m.found ue) true (c.advance dt))) s
/-- LIST_RESUME_RETRY. -/
def execListResumeRetry (dt : Nat) (ue : List DramErr) (s : State) : Host.Outcome State Fault Refusal :=
  runM (fun m c => (m.found ue, Ctl.stResume (m.found ue) false (c.advance dt))) s
/-- STENCIL_COMMAND_DONE. -/
def execStencilCommandDone (dt : Nat) (ue : List DramErr) (s : State) : Host.Outcome State Fault Refusal :=
  runM (fun m c => stCommandDone (m.found ue) (c.advance dt)) s
/-- WATERMARK_REACHED. -/
def execWatermarkReached (dt : Nat) (s : State) : Host.Outcome State Fault Refusal := runC (fun c => (c.advance dt).stWatermark) s
/-- BEHIND_BEAM_TIMEOUT. -/
def execBehindBeamTimeout (dt : Nat) (s : State) : Host.Outcome State Fault Refusal := runC (fun c => (c.advance dt).stTimeout) s
/-- STENCIL_ECC. -/
def execStencilEcc (dt word rows : Nat) (ue : List DramErr) (s : State) : Host.Outcome State Fault Refusal :=
  runM (fun m c => stSramError word rows (m.found ue) (c.advance dt)) s

end Sys2Proof.Machine
end

