-- ==== Sys2Proof/Machine/Faults.lean ====
section
/-! DEFINITION. The fault sequencer's commands (20): a report's classification and orders, the ends of safe states, watchdogs, units and
lanes that return, the log. -/
namespace Sys2Proof.Machine

/-- Change the fault manager's part. -/
def Ctl.setFm (c : Ctl) (f : FmState → FmState) : Ctl := { c with fm := f c.fm }

/-! ### Reports (R549, R550) -/

/-- Another ring lane of the port has failed within the 20 µs before: class 10 (R550; assumption log 102). -/
def Ctl.linkFault (c : Ctl) (unit_ at_ : Nat) : Bool :=
  c.fm.laneFails.any (fun p => unitPort p.1 = unitPort unit_ && p.1 ≠ unit_ && decide (at_ < p.2 + tUs 20))

/-- A ring lane is reported failed. -/
def Ctl.laneFailed (c : Ctl) (unit_ at_ : Nat) : Ctl :=
  c.setFm (fun f => { f with laneFails := (unit_, at_) :: f.laneFails.filter (fun p => decide (at_ < p.2 + tUs 20)) })

/-- The order of R552: the frame of the next flip is withheld, after its decision point the frame after it (assumption log 103). -/
def Ctl.withholdOrder (c : Ctl) (code : Nat) : Ctl :=
  if c.pd.decided = some c.nextFlip then c.setFm (fun f => { f with withholdNext := some (f.withholdNext.getD code) })
  else c.setFm (fun f => { f with frameHold := some (f.frameHold.getD code) })

/-- A ring lane is ordered out (R551), and withheld from readmission at LANE_FLAP_LIMIT orders within 1 h (R561; assumption log 103). -/
def Ctl.laneOrder (c : Ctl) (l : Nat) : Ctl :=
  let ts := c.up :: ((aGet c.fm.laneOrders l).getD []).filter (fun t => decide (c.up < t + tS 3600))
  let c := c.setFm (fun f => { f with ordersOut := insertRising f.ordersOut l, laneOrders := aSet f.laneOrders l ts })
  if ts.length ≥ c.e 0x15000B && !c.fm.withheld.contains l then
    (c.setFm (fun f => { f with withheld := insertRising f.withheld l })).post 0x0543 [i8 l]
  else c

/-- An island's logic is reset; its work on the frame in progress is discarded (R553). The time island has its Tick reloaded instead (assumption log 19). -/
def Ctl.islandReset (c : Ctl) (island code : Nat) : Ctl :=
  if island = 3 then c else
  let c := c.enterSafe .island code 1 island
  let c := if island = 5 then c.setMc (fun m => { m with selfRefresh := true }) else c
  let c := if island = 4 then c.loadStops else c
  let c := if [4, 5, 7].contains island then c.esAbort else c
  if [5, 6].contains island then c.dcAbort.enAbort else c

/-- The orders of a class (R550 to R553, R562, R563). -/
def Ctl.faultOrders (c : Ctl) (cls : Nat) (r : FaultRep) : Ctl :=
  let code := r.ev.code
  let unit8 := r.ev.data % 256
  if code = 0x30C3 || code = 0x33C1 then c.withholdOrder code
  else if code = 0x10C1 && (cls = 9 || cls = 10) then c.laneOrder unit8
  else if cls = 12 then c.pdOrderOut (if code = 0x34C1 then unit8 else unit8 - 18)
  else if cls = 8 then (if c.e 0x150005 = 1 then c.setFm (fun f => { f with pairOutAt := some r.at_ }) else c)
  else if cls = 14 then c.enterSafe .holdover code (c.e 0x150004) 0
  else if cls = 17 || cls = 18 then c.islandReset unit8 code
  else if cls = 21 then
    (c.setFm (fun f => { f with refPorts := (List.range 2).filter c.portUp })).enterSafe .refclk code 1 0
  else if cls = 1 && c.xz.parityLost then c.enterSafe .parity code 1 0
  else c

/-- One report: counted, classified, logged with its class, outcome and window, its orders issued, FAULT_HANDLED posted (assumption log 102). -/
def Ctl.handleReport (c : Ctl) (r : FaultRep) : Ctl :=
  let code := r.ev.code
  let c := (c.incE 0x15000F).setE 0x150011 code
  let cls0 := faultClass code r.ev.data
  let unit_ := faultUnit cls0 code r.ev.data r.block
  let link := cls0 = 9 && c.linkFault unit_ r.at_
  let cls := if link then 10 else cls0
  let c := if cls0 = 9 then c.laneFailed unit_ r.at_ else c
  let compound := c.fm.window.any (fun w => w.compound && decide (r.at_ < w.stop))
  let q := c.openWindow cls0 unit_ code r.at_ link
  let c := q.1
  let outcome := if q.2.2.isSome then 5 else classOutcome cls code (c.e 0x150004)
  let c := c.logAdd r.ev cls outcome q.2.1 true
  let fresh := q.2.2.isSome && !compound
  let c := match q.2.2, fresh with
    | some first, true => ((c.incE 0x150010).post 0x05C1 [i16 first, i16 code]).enterSafe .compound 0x05C1 (c.e 0x150003 + 1) q.2.1
    | _, _ => c
  let c := c.faultOrders cls r
  c.post 0x0502 [i16 code, i8 cls, i8 outcome, i16 q.2.1]

/-- FAULT_REPORT: the oldest report that waits (assumption log 14). -/
def Ctl.faultReport (c : Ctl) : Ctl :=
  match c.fm.reports with
  | [] => c
  | r :: l => (c.setFm (fun f => { f with reports := l })).handleReport r

/-! ### The ends of safe states (R552 to R558) -/

/-- FRAME_HOLD_END: 1 µs after the decision point. -/
def Ctl.frameHoldEnds (c : Ctl) : Ctl := let up := c.up; c.endSafe (fun x => x.kind = .frameHold && decide (up ≥ x.since + tUs 1))

/-- RECOVERY_WINDOW_CLOSE. -/
def Ctl.windowCloses (c : Ctl) : Ctl :=
  match c.fm.window with
  | some w => if w.stop ≤ c.up then (c.setFm (fun f => { f with window := none })).setE 0x15000E 0 else c
  | none => c

/-- The last three causes of R558 may end, but for FAULT_CLEAR: SAFE_SETTLE has passed since the recoveries were over and since the
cause began, and a domain is LOCKED for holdover (assumption log 103). -/
def Ctl.settled (c : Ctl) (x : SafeCause) : Bool :=
  let s := tMs (c.e 0x150008)
  [SafeKind.compound, .holdover, .flipWatchdog].contains x.kind && decide (c.up ≥ c.fm.settleFrom + s) && decide (c.up ≥ x.since + s) &&
    c.fm.ordersOut.isEmpty && !(c.fm.causes.any (fun y => y.kind = .island)) &&
    (x.kind ≠ .holdover || c.domState 0 = 3 || c.domState 1 = 3)

/-- A safe state waits for FAULT_CLEAR. -/
def Ctl.manualWait (c : Ctl) : Bool := c.e 0x150009 = 1 && !c.fm.cleared && c.fm.causes.any c.settled

/-- REFCLK_LOST ends: in range for 10 ms and every ring port that was up is up again. -/
def Ctl.refSettled (c : Ctl) : Bool :=
  !c.pm.refLost && c.fm.refOkSince.any (fun t => decide (c.up ≥ t + tMs 10)) && c.fm.refPorts.all c.portUp

/-- SAFE_STATE_END. -/
def Ctl.safeEnds (c : Ctl) : Ctl :=
  let may := c.e 0x150009 = 0 || c.fm.cleared
  let c' := c.endSafe (fun x => (may && c.settled x) || (x.kind = .refclk && c.refSettled))
  if c.fm.causes.any (fun x => x.kind = .flipWatchdog) && !(c'.fm.causes.any (fun x => x.kind = .flipWatchdog)) then
    c'.setFm (fun f => { f with wdCount := 0, wdDone := false })
  else c'

/-- FAULT_CLEAR: allows a MANUAL safe state to end; a cause that still holds goes on (assumption log 103). -/
def Ctl.faultClear (c : Ctl) : Ctl := (c.setFm (fun f => { f with cleared := true })).safeEnds

/-! ### Watchdogs (R559) -/

/-- The flip watchdog counts flip instant `n` at its passing: in a row, without a flip, with an image, outside every safe state and
outside flip FA + 1. -/
def Ctl.watchFlip (c : Ctl) (n : Nat) : Ctl :=
  if c.pd.sent = some n then c.setFm (fun f => { f with wdCount := 0, wdDone := false })
  else if c.hasImage && !c.isSafe && c.xz.heldFlip ≠ some n then c.setFm (fun f => { f with wdCount := f.wdCount + 1 })
  else c

/-- FLIP_WATCHDOG: FLIP_WD_FRAMES instants have passed; the reset of action 2 comes at the next flip instant (assumption log 104). -/
def Ctl.flipWatchdog (c : Ctl) : Ctl :=
  let limit := c.e 0x150006
  if limit = 0 || c.fm.wdDone || decide (c.fm.wdCount < limit) then c else
  let c := (c.setFm (fun f => { f with wdDone := true })).post 0x05C3 [i32 c.fm.wdCount]
  if c.e 0x150007 = 1 then c.enterSafe .flipWatchdog 0x05C3 2 0
  else if c.e 0x150007 = 2 then c.setFm (fun f => { f with wdReset := true })
  else c

/-- HEARTBEAT_MISSING of an island for 20 µs: the islands that send one (assumption log 104). -/
def Ctl.heartbeatMissing (c : Ctl) (island : Nat) : Ctl := if [2, 4, 5, 6, 7].contains island then c.post 0x05C2 [i8 island] else c

/-- TICK_REPLICA_COMPARE: `d` is the replica less the Tick; above 10 ns the Tick is loaded from the replica (assumption log 104). -/
def Ctl.replicaCompare (c : Ctl) (d : Int) : Ctl :=
  if d.natAbs ≤ tNs 10 then c else (c.post 0x05C2 [i8 3]).stepTick d

/-- ISLAND_RECOVERED: the island reports running; its PLL is locked (assumption log 19). Memory leaves self-refresh with nothing owed (14 R419). -/
def Ctl.islandRuns (c : Ctl) (island : Nat) : Ctl :=
  let c := c.setE 0x120008 (setBit (c.e 0x120008) island true)
  let c := if island = 5 then c.setMc (fun m => { m with selfRefresh := false, chans := m.chans.map (fun x => { x with owed := 0, catchup := false, dueAt := c.up, mr4At := c.up }) }) else c
  c.endSafe (fun x => x.kind = .island && x.arg = island)

/-- SEQUENCER_VOTE: a copy is outvoted and reloaded (assumption log 104). -/
def Ctl.sequencerVote (c : Ctl) (copy : Nat) : Ctl := c.post 0x05C4 [i8 copy]

/-! ### Units and lanes that return (R560, R561) -/

/-- The sequencer restores a unit: a Brush at the start of the next frame, every other at once. -/
def Ctl.restoreUnit (c : Ctl) (sub unit_ : Nat) : Ctl :=
  if !c.isOut sub unit_ then c else
  let c := if sub = 0x30 then c.brushBack unit_
    else if sub = 0x20 then (c.engineBack unit_).unitBack sub unit_
    else if sub = 0x21 then c.encoderBack.unitBack sub unit_
    else if sub = 0x41 then (c.unitBack sub unit_).cxBack unit_
    else if sub = 0x42 then (c.ckBack unit_).unitBack sub unit_
    else c
  c.post 0x0503 [i8 sub, i8 unit_]

/-- SELF_TEST_DONE: only a unit out for the first time since reset returns by its test; one that fails it stays out, as one out a second time
does (assumption log 102). -/
def Ctl.selfTestDone (c : Ctl) (sub unit_ : Nat) (pass : Bool) : Ctl :=
  if !pass then (if c.isOut sub unit_ then c.setFm (fun f => { f with unitOuts := aSet f.unitOuts (unitKey sub unit_) (max 2 ((aGet f.unitOuts (unitKey sub unit_)).getD 0)) }) else c)
  else if c.isOut sub unit_ && aGet c.fm.unitOuts (unitKey sub unit_) = some 1 then c.restoreUnit sub unit_ else c

/-- UNIT_RESTORE. -/
def Ctl.unitRestore (c : Ctl) (value : Nat) : Ctl := c.restoreUnit (bits value 15 8) (bits value 7 0)

/-- LANE_READMIT of a ring lane. -/
def Ctl.laneReadmit (c : Ctl) (l : Nat) : Ctl :=
  if c.fm.withheld.contains l then c.setFm (fun f => { f with withheld := f.withheld.filter (· ≠ l), laneOrders := aDel f.laneOrders l }) else c

/-! ### REFCLK, the log and GUARANTEE (R546, R562, R569) -/

/-- REFCLK_RESTORED: the core clocks return to it; 10 ms start. -/
def Ctl.refclkRestored (c : Ctl) : Ctl :=
  if !c.pm.refLost then c else
  (c.setPm (fun p => { p with refLost := false, onCrystal := false })).setFm (fun f => { f with refOkSince := some c.up })

/-- LOG_CLEAR. -/
def Ctl.logClear (c : Ctl) : Ctl :=
  let c := c.setFm (fun f => { f with log := [], history := [], histWait := [], nextSeq := 1, savedSeq := 1 })
  ((c.setE 0x700001 0).setE 0x700002 0).setE 0x700003 0

/-- GUARANTEE as it stands (R546). -/
def Ctl.guarantee (c : Ctl) : Nat :=
  let supplies := c.pm.windowOut = 0 && decide (c.pm.tmax ≤ degC 110)
  let maps := c.hasImage && laneMapsComplete (imgSec c.img 5)
  let spare := (List.range 2).all (fun p => !c.portUp p || [true, false].all (fun tx =>
    let n := (c.normal p tx).spare
    c.laneSt (9 * p + n) = 2 && !bit (c.failedSet p tx) n))
  let domains := c.ea 0x2301 0 = 1 && c.ea 0x2301 1 = 1 && c.ea 0x2302 0 ≠ c.ea 0x2302 1
  b2n supplies + 2 * b2n maps + 4 * b2n spare + 8 * b2n domains

/-! ### The commands -/

/-- FAULT_REPORT. -/
def execFaultReport (dt : Nat) (s : State) : Host.Outcome State Fault Refusal := runC (fun c => (c.advance dt).faultReport) s
/-- FRAME_HOLD_END. -/
def execFrameHoldEnd (dt : Nat) (s : State) : Host.Outcome State Fault Refusal := runC (fun c => (c.advance dt).frameHoldEnds) s
/-- RECOVERY_WINDOW_CLOSE. -/
def execRecoveryWindowClose (dt : Nat) (s : State) : Host.Outcome State Fault Refusal := runC (fun c => (c.advance dt).windowCloses) s
/-- SAFE_STATE_END. -/
def execSafeStateEnd (dt : Nat) (s : State) : Host.Outcome State Fault Refusal := runC (fun c => (c.advance dt).safeEnds) s
/-- FAULT_CLEAR. -/
def execFaultClear (dt : Nat) (s : State) : Host.Outcome State Fault Refusal := runC (fun c => (c.advance dt).faultClear) s
/-- FLIP_WATCHDOG. -/
def execFlipWatchdog (dt : Nat) (s : State) : Host.Outcome State Fault Refusal := runC (fun c => (c.advance dt).flipWatchdog) s
/-- HEARTBEAT_MISSING. -/
def execHeartbeatMissing (dt island : Nat) (s : State) : Host.Outcome State Fault Refusal := runC (fun c => (c.advance dt).heartbeatMissing island) s
/-- TICK_REPLICA_COMPARE. -/
def execTickReplicaCompare (dt : Nat) (diff : Int) (s : State) : Host.Outcome State Fault Refusal := runC (fun c => (c.advance dt).replicaCompare diff) s
/-- ISLAND_RECOVERED. -/
def execIslandRecovered (dt island : Nat) (s : State) : Host.Outcome State Fault Refusal := runC (fun c => (c.advance dt).islandRuns island) s
/-- SELF_TEST_DONE. -/
def execSelfTestDone (dt subsystem unit_ : Nat) (pass : Bool) (s : State) : Host.Outcome State Fault Refusal :=
  runC (fun c => (c.advance dt).selfTestDone subsystem unit_ pass) s
/-- UNIT_RESTORE. -/
def execUnitRestore (dt value : Nat) (s : State) : Host.Outcome State Fault Refusal := runC (fun c => (c.advance dt).unitRestore value) s
/-- LANE_READMIT. -/
def execLaneReadmit (dt lane : Nat) (s : State) : Host.Outcome State Fault Refusal := runC (fun c => (c.advance dt).laneReadmit lane) s
/-- SEQUENCER_VOTE. -/
def execSequencerVote (dt copy : Nat) (s : State) : Host.Outcome State Fault Refusal := runC (fun c => (c.advance dt).sequencerVote copy) s
/-- LOG_CLEAR. -/
def execLogClear (dt : Nat) (s : State) : Host.Outcome State Fault Refusal := runC (fun c => (c.advance dt).logClear) s
/-- REFCLK_RESTORED. -/
def execRefclkRestored (dt : Nat) (s : State) : Host.Outcome State Fault Refusal := runC (fun c => (c.advance dt).refclkRestored) s

end Sys2Proof.Machine
end

