-- ==== Sys2Proof/Machine/Boot.lean ====
section
/-! DEFINITION. Start-up and the non-volatile store (18), the power sequence and the shutdown (19 R517 to R523), power-on and warm reset
(21 R578, R579). Steps 1 to 5 of R504 are one command, POR_RELEASE: the table has no row between them; its operand `reach` is the last of
them that the start completes. -/
namespace Sys2Proof.Machine

/-! ### Resets -/

/-- What is left of the part after any reset: the MRAM, the event log where its partition keeps power, FAULT_HISTORY, the supply pins and
the service-life sums; everything else is at its reset value (00 R12, R14). IRQ pins release (assumption log 84; assumption log 109). -/
def Ctl.fresh (c : Ctl) (cause : Nat) (keepLog : Bool) : Ctl :=
  let pins : List Emit := (bitsOf 8 c.irq).map (fun p => { kind := .irq, a := p, b := 0 })
  let f : FmState := { log := if keepLog then c.fm.log else [], nextSeq := if keepLog then c.fm.nextSeq else c.fm.savedSeq + 1024,
                       savedSeq := if keepLog then c.fm.savedSeq else c.fm.savedSeq + 1024, history := c.fm.history,
                       histWait := if keepLog then c.fm.histWait else [] }
  let b : BtState := { c.bt with zeroAt := 0, step := 0, startedAt := none, cause := cause, fwLoad := none, cpA := {}, cpB := {}, trialFault := false }
  let p : PmState := { cal := c.pm.cal.map (fun x => { item := x.item, idx := x.idx, codes := x.codes }), pwrEn := c.pm.pwrEn, pwrGood := c.pm.pwrGood, supplyFailN := c.pm.supplyFailN, windowOut := c.pm.windowOut,
                       lifeSum := c.pm.lifeSum, lifeTime := c.pm.lifeTime, lifeHot := c.pm.lifeHot }
  let n : Ctl := { draws := c.draws, nv := c.nv, out := c.out ++ pins, fm := f, bt := b, pm := p, xz := { stored := c.xz.stored } }
  let n := n.setE 0x110006 cause
  if f.log.isEmpty then n else
  ((n.setE 0x700001 (c.e 0x700001)).setE 0x700002 (c.e 0x700002)).setE 0x700003 (c.e 0x700003)

/-- A warm reset (21 R579): MRAM writing stops, the lanes go to electrical idle, DRAM enters self-refresh; the log is kept (assumption log 85; assumption log 105). -/
def Ctl.warmReset (c : Ctl) (cause : Nat) (cut : Option MramCut) : Ctl :=
  if c.pm.down ≠ 0 then c else
  let c := (c.dy.sessions.filter (fun x => decide (x.num ≥ 3))).foldl (fun c x => c.post 0x4403 [i8 x.num, i8 2]) c
  let ready := c.memReady
  (((c.mramStop cut).emit { kind := .pin, a := 5, c := 1 }).fresh cause true).setMc (fun m => { m with selfRefresh := ready })

/-- WARM_RESET: RESET_N has been low for 1 µs with every board rail in window (assumption log 105). -/
def Ctl.resetPin (c : Ctl) (cut : Option MramCut) : Ctl :=
  if c.pm.down ≠ 0 || c.bt.resetLow || c.pm.windowOut &&& 195 ≠ 0 then c
  else (c.warmReset 1 cut).setBt (fun b => { b with resetLow := true })

/-- RESET_N_RISE. -/
def Ctl.resetRise (c : Ctl) : Ctl := c.setBt (fun b => { b with resetLow := false })

/-- POWER_ON (21 R578): the part has had no power, but MRAM. `low` says that RESET_N is driven low. -/
def Ctl.powerOn (c : Ctl) (low : Bool) : Ctl :=
  let c := c.fresh 0 false
  { c with pm := {}, bt := { c.bt with resetLow := low, lockstepSeen := false } }

/-! ### The boot record shown (18 R515) -/

/-- State of a firmware slot. -/
def Ctl.fwSt (c : Ctl) (k : Nat) : Nat := if k = 0 then c.boot.slotState.1 else c.boot.slotState.2
/-- A record with one slot's state changed. -/
def BootRec.setSlot (r : BootRec) (k st : Nat) : BootRec :=
  { r with slotState := if k = 0 then (st, r.slotState.2) else (r.slotState.1, st) }
/-- Octets of a firmware slot. -/
def Ctl.fwSlot (c : Ctl) (k : Nat) : List Byte := if k = 0 then c.bt.slotA else c.bt.slotB
/-- Set the octets of a firmware slot. -/
def Ctl.setFwSlot (c : Ctl) (k : Nat) (b : List Byte) : Ctl := c.setBt (fun s => if k = 0 then { s with slotA := b } else { s with slotB := b })

/-- The entries of R515 show the boot record and the slots. -/
def Ctl.showBoot (c : Ctl) : Ctl :=
  let r := c.boot
  let c := ((c.setE 0x110002 r.runSlot).setE 0x110003 r.failedStarts).setE 0x110200 r.tadpoleReason
  let c := (List.range 3).foldl (fun c i => c.setEa 0x1103 i (r.failHistory.getD i 0)) c
  (List.range 2).foldl (fun c k =>
    (c.setEa 0x1101 k (c.fwSt k)).setEa 0x1104 k (if [2, 4].contains (c.fwSt k) then leAt (c.fwSlot k) 4 4 else 0)) c

/-- The boot record changes and is shown (assumption log 82). -/
def Ctl.writeBoot (c : Ctl) (f : BootRec → BootRec) : Ctl := (c.setBoot f).showBoot

/-! ### Firmware slots (18 R505, R511) -/

/-- What R505 finds in a slot: 0 where it passes, else the code of R511 (assumption log 81). -/
def fwCheck (b : List Byte) (floor : Nat) : Nat :=
  let size := leAt b 8 4
  let whole := decide (256 ≤ b.length) && decide (leAt b 0 4 = 0x57464C46) && decide (1 ≤ size) && decide (size ≤ 1572608) && zeros (slice b 12 4) &&
    zeros (slice b 56 136) && decide (256 + size ≤ b.length)
  if !whole then 0x10
  else if leAt b 4 4 < floor then 0x17
  else if !((List.range 2).any (fun k => ecdsaVerify (Config.bootRomKey k) (sha256 (b.take 192)) (slice b 192 64))) then 0x11
  else if sha256 (slice b 256 size) ≠ slice b 16 32 then 0x13
  else 0

/-- A slot may run: it passes R505, whatever its state (R506; assumption log 81). -/
def Ctl.fwPasses (c : Ctl) (k : Nat) : Bool := fwCheck (c.fwSlot k) (c.e 0x110505) = 0

/-- A load ends with a result: VALID and FW_LOADED, or INVALID and FW_REFUSED (R511). -/
def Ctl.fwEnds (c : Ctl) (l : FwLoad) (code : Nat) : Ctl :=
  let c := (c.setBt (fun b => { b with fwLoad := none })).setE 0x110504 code
  let c := c.writeBoot (fun r => r.setSlot l.slot (if code = 0 then 2 else 3))
  if code = 0 then c.post 0x0103 [i8 l.slot, i32 (leAt l.data 4 4)] else c.post 0x0181 [i8 code]

/-- FW_LOAD_BEGIN: into the slot that is not running; a load that runs refuses it and goes on (assumption log 81). -/
def Ctl.fwBegin (c : Ctl) : Ctl :=
  if !c.cpaUp then c else
  if c.bt.fwLoad.isSome then (c.setE 0x110504 0x22).post 0x0181 [i8 0x22] else
  let k := 1 - c.bt.running
  let l : FwLoad := ⟨k, c.e 0x110502, [], false, c.up⟩
  let c := (c.setBt (fun b => { b with fwLoad := some l })).writeBoot (fun r => r.setSlot k 1)
  if l.size > 1572864 then c.fwEnds l 0x21 else c

/-- FW_LOAD_DATA: the octets go into the slot through the journal (R511), as many as the slot holds (assumption log 81). -/
def Ctl.fwData (c : Ctl) (bs : List Byte) : Ctl :=
  if !c.cpaUp then c else
  match c.bt.fwLoad with
  | none => c
  | some l =>
    if l.ended then c else
    let l' := { l with data := l.data ++ bs, lastAt := c.up }
    let c := c.setBt (fun b => { b with fwLoad := some l' })
    let c := if c.bt.mramStopped then c else c.setFwSlot l.slot ((patch (c.fwSlot l.slot) l.data.length bs).take 1572864)
    if l'.data.length > l.size then c.fwEnds l' 0x20 else c

/-- A firmware load without data for 10 s fails (R511 with 03 R91; assumption log 81). -/
def Ctl.fwTimeout (c : Ctl) : Ctl :=
  if !c.cpaUp then c else
  match c.bt.fwLoad with
  | some l => if !l.ended && decide (c.up ≥ l.lastAt + tS 10) then c.fwEnds l 0x20 else c
  | none => c

/-- FW_LOAD_END. -/
def Ctl.fwEnd (c : Ctl) : Ctl :=
  if !c.cpaUp then c else
  match c.bt.fwLoad with
  | none => c
  | some l => if l.ended then c else if l.data.length < l.size then c.fwEnds l 0x20
    else c.setBt (fun b => { b with fwLoad := some { l with ended := true } })

/-- FW_LOAD_ABORT: the slot is EMPTY (assumption log 81). -/
def Ctl.fwAbort (c : Ctl) : Ctl :=
  if !c.cpaUp then c else
  match c.bt.fwLoad with
  | none => c
  | some l => ((c.setBt (fun b => { b with fwLoad := none })).setFwSlot l.slot []).writeBoot (fun r => r.setSlot l.slot 0)

/-- FW_CHECK_DONE. -/
def Ctl.fwChecked (c : Ctl) : Ctl :=
  if !c.cpaUp then c else
  match c.bt.fwLoad with
  | none => c
  | some l => if l.ended then c.fwEnds l (fwCheck l.data (c.e 0x110505)) else c

/-- FW_FLOOR has been written: a slot below it becomes INVALID (R515). -/
def Ctl.floorWritten (c : Ctl) : Ctl :=
  let low := fun k => [2, 4].contains (c.fwSt k) && decide (leAt (c.fwSlot k) 4 4 < c.e 0x110505)
  if low 0 || low 1 then
    c.writeBoot (fun r => (if low 0 then r.setSlot 0 3 else r) |> fun r => if low 1 then r.setSlot 1 3 else r)
  else c

/-! ### BOOT_CMD and trials (18 R510, R512) -/

/-- BOOT_CMD RESTART: the latch and the count clear in one transaction, and the part starts again (assumption log 74). -/
def Ctl.bootRestart (c : Ctl) (cut : Option MramCut) : Ctl :=
  (c.writeBoot (fun r => { r with tadpoleLatch := false, failedStarts := 0 })).warmReset 2 cut

/-- The slot that TRY_OTHER tries. -/
def Ctl.otherSlot (c : Ctl) : Nat := 1 - c.bt.running

/-- BOOT_CMD TRY_OTHER: without a VALID other slot, RANGE and no effect. RUN_SLOT points to the other slot from the next start (R512). -/
def Ctl.tryOther (c : Ctl) : Ctl :=
  let k := c.otherSlot
  if c.fwSt k ≠ 2 then c else c.writeBoot (fun r => { r.setSlot k 4 with tryNext := true })

/-- A trial is confirmed: the running slot becomes VALID. -/
def Ctl.confirm (c : Ctl) : Ctl :=
  let k := c.bt.running
  if c.fwSt k ≠ 4 then c else (c.writeBoot (fun r => { r.setSlot k 2 with trialStarted := false })).post 0x0104 [i8 k]

/-- TRIAL_CONFIRM_TIMER: 60 s after START_COMPLETE without a lock-step fault. -/
def Ctl.trialTimer (c : Ctl) : Ctl :=
  match c.bt.startedAt with
  | some t => if c.up ≥ t + tS 60 && !c.bt.trialFault then c.confirm else c
  | none => c

/-! ### Keys (18 R513) -/

/-- A value may be written as key `n`: 0 Installer, 1 proof of play, 2 to 5 Xezor slots. -/
def keyOk (n : Nat) (b : List Byte) : Bool :=
  if n < 2 then b.length = 32 else b.length = 64 && (zeros b || onCurve (ofBE (b.take 32)) (ofBE (b.drop 32)))

/-- KEY_WRITE. A key that may not be written leaves everything as it was (RANGE). -/
def Ctl.keyWrite (c : Ctl) (n : Nat) (b : List Byte) : Ctl :=
  if n > 5 || !keyOk n b || c.bt.mramStopped then c else
  let c := if n = 0 then (c.setBt (fun s => { s with installerKey := some b })).keepE 0x160002 (keyId b)
    else if n = 1 then (c.setBt (fun s => { s with popKey := b })).keepE 0x160004 (keyId b)
    else (c.setEv (ekey 0x1601 (n - 1)) (.oct b)).saveEv (ekey 0x1601 (n - 1)) (.oct b)
  c.post 0x0601 [i8 n]

/-! ### Islands (19 R523) -/

/-- ISLAND_STATE of an island: 0 OFF, 1 GATED, 2 ON (assumption log 87). -/
def Ctl.islandState (c : Ctl) (i : Nat) : Nat :=
  if !bit c.pm.islands i then 0
  else if i = 5 then (if c.memReady then 2 else 1)
  else if i = 6 then (if c.e 0x300106 ≠ 0 || c.hasImage || c.en.cur.isSome || !c.en.ready.isEmpty then 2 else 1)
  else if i = 7 then (if c.hasImage && !(c.es.fr.any (fun f => f.endNs.isSome)) then 2 else 1)
  else 2

/-- ISLAND_STATE shows the islands: also what ISLAND_GATE_CHANGE does. -/
def Ctl.showIslands (c : Ctl) : Ctl := (List.range 7).foldl (fun c i => c.setEa 0x1214 i (c.islandState (i + 1))) c

/-! ### The power sequence (19 R519, R520; 18 R508) -/

/-- The part is in Tadpole mode (assumption log 83). -/
def Ctl.tadpole (c : Ctl) : Bool := c.e 0x110001 = 2

/-- The rail that PWR_EN[k] enables (19 R517). -/
def enRail (k : Nat) : Nat := [5, 6, 4, 3].getD k 0

/-- A PWR_EN pin takes a level. -/
def Ctl.pwrPin (c : Ctl) (k : Nat) (v : Bool) : Ctl :=
  if bit c.pm.pwrEn k = v then c
  else (c.setPm (fun p => { p with pwrEn := setBit p.pwrEn k v })).emit { kind := .pin, a := 0, b := k, c := b2n v }

/-- The PWR_EN pins that are asserted are deasserted in reverse order. -/
def Ctl.pwrOff (c : Ctl) : Ctl := ([3, 2, 1, 0].foldl (fun c k => c.pwrPin k false) c).setPm (fun p => { p with pwrGood := 0 })

/-- The sequence stops: SEQUENCE_FAILED with the step and the rail or island. -/
def Ctl.seqFail (c : Ctl) (step what : Nat) : Ctl :=
  let c := (c.setPm (fun p => { p with seqStep := 8, failedAt := c.up })).pwrOff
  (if c.tadpole then c else c.setE 0x120007 3).post 0x02C2 [i8 step, i8 what]

/-- Step 1 of R519: the board rails, STATUS_WORD of the addressed rails; then PWR_EN[0]. -/
def Ctl.seqStart (c : Ctl) (status : List (Option Nat)) : Ctl :=
  let c := (c.setE 0x120007 1).pmbAlert status
  match [1, 2, 7, 8].find? (fun r => bit c.pm.windowOut (r - 1)) with
  | some r => c.seqFail 1 r
  | none => (c.setPm (fun p => { p with seqStep := 0 })).pwrPin 0 true

/-- Tadpole mode enables the supplies of the field and panel lanes (18 R508). -/
def Ctl.tadpoleSupply (c : Ctl) : Ctl := (c.setPm (fun p => { p with seqStep := 0 })).pwrPin 0 true

/-- TADPOLE_SUPPLY_RETRY: every 10 s (18 R508; assumption log 83). -/
def Ctl.supplyRetry (c : Ctl) : Ctl := if c.tadpole && c.pm.seqStep = 8 && decide (c.up ≥ c.pm.failedAt + tS 10) then c.tadpoleSupply else c


/-- Tadpole mode's panel lanes: at the recorded rate one BLANK to every IC, DELAY 16,000 (18 R508; assumption log 83). -/
def Ctl.tadpolePanel (c : Ctl) : Ctl :=
  let c := c.setE 0x440003 (c.boot.panelRate.getD 3)
  (List.range 32).foldl (fun c k => c.pdSend k 5 0xFF (16000 * 2 ^ 20) [] false) c

/-- Steps 6 to 9 of R519: the islands, the initial calibration, the first AVS target; the DRAM reset is released (assumption log 80). -/
def Ctl.seqDone (c : Ctl) (fails : List (Nat × Nat)) (target : Nat) : Ctl :=
  let c := (c.setPm (fun p => { p with islands := 0xFE, seqStep := 4 })).setE 0x120008 0x00FC
  let c := ((c.calInitial fails).setTarget target).setE 0x120007 2
  let c := (c.post 0x0201 [i16 (c.e 0x120002)]).writeBoot (fun r => { r with stage := 6 })
  (((c.setBt (fun b => { b with step := 6 })).setE 0x500003 1).emit { kind := .pin, a := 4, c := 1 }).showIslands

/-- PWR_GOOD_RISE of PWR_GOOD[k]; after the last one, `fails` names the results of the initial calibration out of range, and `target` is
what AVS sets first (units of 0.5 mV; assumption log 80). -/
def Ctl.pwrGoodRise (c : Ctl) (k : Nat) (fails : List (Nat × Nat)) (target : Nat) : Ctl :=
  if c.pm.seqStep ≠ k || !bit c.pm.pwrEn k || c.pm.down ≠ 0 then c else
  let next := fun (c : Ctl) => (c.setPm (fun p => { p with pwrGood := setBit p.pwrGood k true, seqStep := k + 1 }))
  if c.tadpole then
    (if k = 0 then (next c).pwrPin 1 true
     else if k = 1 then
       let c := ((((next c).fieldUp 54).fieldUp 55).panelRest).tadpolePanel
       { c with dy := { c.dy with serving := true } }
     else c)
  else if c.e 0x120007 ≠ 1 then c
  else if k < 3 then (next c).pwrPin (k + 1) true
  else if k = 3 then (next c).seqDone fails target
  else c

/-- SEQUENCE_FAILED: the PWR_GOOD that the sequence waits for is late, or an island's switch does not settle. -/
def Ctl.sequenceFailed (c : Ctl) (island : Option Nat) : Ctl :=
  let k := c.pm.seqStep
  if c.pm.down ≠ 0 || !(c.tadpole && decide (k < 2) || c.e 0x120007 = 1 && decide (k < 4)) then c else
  match island with
  | some i => if k = 3 && !c.tadpole then c.seqFail 6 i else c
  | none => c.seqFail (k + 2) (enRail k)

/-! ### The start (18 R502 to R508) -/

/-- The dictionary store is loaded: both copies of a staged entry (18 R504 step 5; assumption log 84). -/
def Ctl.loadStore (c : Ctl) : Ctl := c.nv.foldl (fun c p => c.setEv p.1 p.2) c

/-- Reason of a failed start by the last step completed (R507). -/
def stageReason (stage : Nat) : Nat := if stage ≤ 3 then 1 else if stage ≤ 7 then stage - 2 else 5

/-- Tadpole mode is entered (R508; assumption log 83). -/
def Ctl.enterTadpole (c : Ctl) (reason : Nat) : Ctl :=
  let c := c.writeBoot (fun r => { r with startPending := false, tadpoleLatch := true, tadpoleReason := reason })
  let c := (c.setE 0x110001 2).setE 0x120001 1
  let c := ((c.setPm (fun p => { p with target := 1300, islands := p.islands ||| 16 })).setE 0x120002 650).emit { kind := .pin, a := 1, b := 1, c := 1300 }
  let c := (c.setBt (fun b => { b with running := c.boot.runSlot })).showIslands
  let c := ((c.setE 0x120008 (c.e 0x120008 ||| 16)).pwrPin 3 false).pwrPin 2 false
  let c := c.setPm (fun p => { p with pwrGood := p.pwrGood % 4 })
  (c.post 0x01C1 [i8 reason]).tadpoleSupply

/-- Firmware runs (R504 step 5): START_NUMBER, the events found before, and the power sequence. -/
def Ctl.firmwareRuns (c : Ctl) (evs : List (Nat × List (Nat × Nat))) (status : List (Option Nat)) : Ctl :=
  let c := c.keepE 0x700007 (satAdd 16 (c.e 0x700007) 1)
  let c := if c.bt.cause = 0 then c.keepE 0x13000C (satAdd 32 (c.e 0x13000C) 1) else c
  let c := c.setE 0x310006 ((c.bt.popSaved + 1024) % 2 ^ 64)
  let c := c.histCopy.post 0x0102 [i32 c.bt.replayed]
  (evs.foldl (fun c e => c.post e.1 e.2) c).seqStart status

/-- A firmware slot runs (R504 steps 3 to 5; assumption log 81). -/
def Ctl.runSlot (c : Ctl) (k reach : Nat) (evs : List (Nat × List (Nat × Nat))) (status : List (Option Nat)) : Ctl :=
  let stage := min reach 5
  let c := c.writeBoot (fun r => { r with runSlot := k, startPending := true, stage := stage })
  let c := (c.setBt (fun b => { b with running := k, step := stage })).setE 0x100006 (leAt (c.fwSlot k) 4 4)
  if reach < 5 then c else c.firmwareRuns evs status

/-- Step 3 (R504): the failed start is counted (R507), a trial that has run is rolled back, a slot that TRY_OTHER marked takes its turn (R512), and
the choice is made (R506; assumption log 81). -/
def Ctl.chooseStart (c : Ctl) (reach : Nat) (evs : List (Nat × List (Nat × Nat))) (status : List (Option Nat)) : Ctl :=
  let r := c.boot
  let failed := (r.startPending || c.bt.earlyStop) && !c.bt.heatStop
  let reason := if c.bt.lockstepSeen then 6 else if c.bt.earlyStop then 1 else stageReason r.stage
  let n := if failed then min 3 (r.failedStarts + 1) else r.failedStarts
  let trial := c.fwSt r.runSlot = 4 && (r.startPending || r.trialStarted)
  let run := if trial || r.tryNext then 1 - r.runSlot else r.runSlot
  let evs := evs ++ (if failed then [(0x0141, [i8 reason, i8 n])] else []) ++ (if trial then [(0x0142, [i8 r.runSlot, i8 run])] else [])
  let c := c.writeBoot (fun b =>
    let b := { b with failedStarts := n, failHistory := if failed then (reason :: b.failHistory).take 3 else b.failHistory,
                      startPending := false, trialStarted := false, tryNext := false, runSlot := run, stage := 3 }
    let b := if trial then b.setSlot r.runSlot (if r.startPending then 3 else 2) else b
    { b with slotState := (if b.slotState.1 = 1 then 3 else b.slotState.1, if b.slotState.2 = 1 then 3 else b.slotState.2) })
  let c := c.setBt (fun b => { b with lockstepSeen := false, earlyStop := false, heatStop := false, step := 3 })
  if c.bt.strapTadpole then c.enterTadpole 0x11
  else if c.boot.tadpoleLatch then c.enterTadpole c.boot.tadpoleReason
  else if n ≥ 3 then c.enterTadpole (c.boot.failHistory.getD 0 0)
  else if c.fwPasses run then c.runSlot run reach evs status
  else if c.fwPasses (1 - run) then c.runSlot (1 - run) reach (evs ++ [(0x0142, [i8 run, i8 (1 - run)])]) status
  else c.enterTadpole 0x10

/-- POR_RELEASE: zero of R504. `strap`: BOOT_TADPOLE_N is low. `mr`: bits of MRAM words that have flipped; the start reads every word but those of
the stored image (R499). `status`: STATUS_WORD of the addressed rails (assumption log 80). -/
def Ctl.porRelease (c : Ctl) (reach : Nat) (strap : Bool) (mr : List (Nat × Nat)) (status : List (Option Nat)) : Ctl :=
  if c.bt.step ≠ 0 || c.bt.resetLow || c.pm.down ≠ 0 then c else
  let c := c.setBt (fun b => { b with zeroAt := c.up, mramStopped := false, strapTadpole := strap, step := max 1 (min reach 2) })
  let c := ((if reach ≥ 2 then c.setE 0x120008 4 else c).showIslands).mramFlip mr
  if reach < 3 then c.setBt (fun b => { b with earlyStop := true }) else
  let r := c.replay.mramWords (fun w => decide (0x58000 ≤ w))
  let c := r.2.foldl Ctl.lostWord r.1
  (c.loadStore.showBoot).chooseStart reach (r.2.flatMap lostEvents) status

/-- START_TIMEOUT (R507). -/
def Ctl.startTimeout (c : Ctl) (cut : Option MramCut) : Ctl :=
  if c.bt.step = 0 || c.bt.startedAt.isSome || c.tadpole || decide (c.up < c.bt.zeroAt + tS 2) then c else c.warmReset 3 cut

/-! ### Memory, and the end of the start (14 R404, R405; 18 R504 steps 7 and 8) -/

/-- A fixed mailbox session (17 R489): 1 Installer on PF0, 2 Operator on PF1. -/
def fixedSess (n : Nat) : Sess :=
  { num := n, installer := n = 1, isOpen := true, src := ⟨2, n - 1, 0⟩, ks := [], challenge := [], cnonce := [], since := 0, lastValid := 0,
    lastSeq := none, lastReq := [], lastReply := [], xfer := none, subs := [], dropPosted := none }

/-- The start is complete (assumption log 80). -/
def Ctl.startComplete (c : Ctl) : Ctl :=
  let us := min ((c.up - c.bt.zeroAt) / tUs 1) (2 ^ 32 - 1)
  let trial := c.fwSt c.bt.running = 4
  let c := { c with dy := { c.dy with serving := true, sessions := [fixedSess 1, fixedSess 2] } }
  let c := (((c.fieldUp 54).fieldUp 55).panelRest).timeStart
  let c := (List.range 2).foldl (fun c p =>
    if !c.ringOn || (c.port p).stage ≠ 0 then c else if c.ea 0x2001 p = 1 then c.portStart p else c.portEnable p 0) c
  let c := (c.setBt (fun b => { b with step := 8, startedAt := some c.up })).writeBoot
    (fun r => { r with startPending := false, failedStarts := 0, trialStarted := trial })
  let c := ((c.setE 0x110001 1).setE 0x110004 us).showRole
  (c.post 0x0101 [i32 us]).storedLoad

/-- Training has set the trims of the fitted channels: the instances of DRAM_VREF, measured, or set by the fallback (19 R538, R539). The trims that MRAM
holds for the same devices are taken again (14 R405; assumption logs 36, 80; assumption log 36). -/
def Ctl.calTrained (c : Ctl) (np : Nat) (devs : List (List Nat)) : Ctl :=
  let q := if c.e 0x140002 = 1 then 1 else 3
  let held := (c.bt.trims.filter (fun t => t.1 = devs)).elim [] Prod.snd
  (c.setPm (fun p => { p with cal := p.cal.filterMap (fun x =>
    if x.item ≠ 8 then some x else if x.idx < 4 * np then
      some { x with quality := q, codes := (aGet held x.idx).getD (Config.trimOf c.draws 8 x.idx), residual := Config.residualOf c.draws 8 x.idx,
                    at_ := c.up, tmax := c.pm.tmax } else none) })).draw.showQuality 8

/-- Devices of a port as MR8 shows them (14 R404): a density in Gb per die for every x16 channel and rank. A fitted port must carry the same
devices in the same rank count as port 0, one or two ranks and at most 8 GiB; a port beyond those fitted must carry none (assumption log 36). -/
def portDevicesOk (np : Nat) (devs : List (List Nat)) (p : Nat) : Bool :=
  let d := devs.getD p []
  let g := (devs.getD 0 []).getD 0 0
  if p ≥ np then d.isEmpty else
  d = devs.getD 0 [] && (d.length = 4 || d.length = 8) && d.all (· = g) && decide (0 < g) && decide (d.length * g ≤ 64)

/-- The trims that training has set pass into MRAM, with the devices that they belong to (14 R405, 18 R501; assumption log 36). -/
def Ctl.storeTrims (c : Ctl) (devs : List (List Nat)) : Ctl :=
  if c.bt.mramStopped then c
  else c.setBt (fun b => { b with trims := some (devs, (c.pm.cal.filter (fun x => x.item = 8)).map (fun x => (x.idx, x.codes))) })

/-- The channels of the fitted ports as training leaves them. -/
def McState.trained (s : McState) (np ranks up idle : Nat) : McState :=
  { s with
    np := np, ranks := ranks, selfRefresh := false, scrubAt := 0, scrubFrom := up
    chans := (List.range np).flatMap (fun p => (List.range 4).flatMap (fun ch => (List.range ranks).map (fun rk =>
      ({ port := p, ch := ch, rank := rk, zqAt := up, trackAt := up, dueAt := up, mr4At := up } : McChan))))
    qs := (List.range np).flatMap (fun p => (List.range 4).map (fun ch =>
      ({ port := p, ch := ch, ranTo := ckOf up, used := (List.range ranks).map (fun rk => (rk, ckOf up, idle)) } : McQ))) }

/-- DRAM_TRAINING_COMPLETE: the devices that MR8 shows by port, or the port, channel and action that failed (assumption logs 36, 80; assumption log 36, 80; assumption log 80). -/
def trainingDone (devs : List (List Nat)) (fail : Option (Nat × Nat × Nat)) (m : Mem) (c : Ctl) : Mem × Ctl :=
  if c.e 0x500003 ≠ 1 then (m, c) else
  let c := (List.range 6).foldl (fun c p => c.setEa 0x5001 p ((devs.getD p []).getD 0 0)) c
  match fail with
  | some (p, ch, act) => (m, (c.setE 0x500003 3).post 0x40C3 [i8 p, i8 ch, i8 act])
  | none =>
    let np := c.e 0x500001
    let g := (devs.getD 0 []).getD 0 0
    let ranks := (devs.getD 0 []).length / 4
    match (List.range 6).find? (fun p => !portDevicesOk np devs p) with
    | some p => (m, (c.setE 0x500003 3).post 0x4081 [i8 p])
    | none =>
      let cap := np * portData ranks g
      let c := (c.setMc (fun s => s.trained np ranks c.up (c.e 0x500004))).calTrained np devs
      let c := (c.storeTrims devs).setE 0x500002 cap
      let c := (List.range np).foldl (fun c p => c.mcShow p) (c.setE 0x500003 2)
      let c := c.post 0x4001 [i32 np, i32 (cap / 2 ^ 20)]
      let c := (c.setBt (fun b => { b with step := 7 })).writeBoot (fun r => { r with stage := 7 })
      flushFills {} c.noFills.startComplete.showIslands

/-! ### Shutdown and restart (19 R518, R521, R522) -/

/-- Entries of the always-on island that a shutdown leaves: the reference and the lock of THROTTLE stand until a reset, and the sites keep converting
(19 R522, R535, R537; assumption log 85). -/
def alwaysOn : List Nat := [0x130001, 0x130002, 0x130003, 0x130004, 0x130006, 0x130008, 0x140002, 0x140006]

/-- No instance recalibrates any more: the previous codes stay in force (19 R540). -/
def Ctl.calStops (c : Ctl) : Ctl :=
  (c.setPm (fun p => { p with calNow := [], sites := p.sites.map Site.unhold,
                              cal := p.cal.map (fun x => { x with running := false, waiting := false }) })).showSites

/-- The shutdown sequence: kind 1 by heat, 2 by supply. The always-on island goes on; every other island loses its state. A start that heat ends is
not counted (18 R507). -/
def Ctl.shutdown (c : Ctl) (kind code : Nat) : Ctl :=
  let c := ((c.enterSafe .shutdown code 3 0).emit { kind := .pin, a := 5, c := 1 }).emit { kind := .pin, a := 4, c := 0 }
  let c := (c.pwrOff.calStops).setBt (fun b => { b with heatStop := b.heatStop || (kind = 1 && b.startedAt.isNone) })
  let off := [0, 1].filter (fun r => c.ea 0x1210 r ≠ 0)
  let c := off.foldl (fun c r => c.emit { kind := .pin, a := 2, b := r + 1, c := 0 }) c
  let n := c.fresh c.bt.cause false
  let n := { n with up := c.up, pm := { c.pm with turnedOff := off, down := kind, downAt := c.up, islands := 2, coolSince := none, seqStep := 8 } }
  let n := n.setFm (fun f => { f with nextSeq := c.fm.nextSeq, causes := c.fm.causes.filter (fun x => x.kind = .shutdown) })
  let n := (alwaysOn.foldl (fun n k => n.setE k (c.e k)) n).showSites
  ((n.setE 0x150001 3).setE 0x150002 code).showIslands

/-- A shutdown's own fault: posted, and handled at once by the sequencer (assumption log 85). -/
def Ctl.shutdownFault (c : Ctl) (code : Nat) (items : List (Nat × Nat)) : Ctl :=
  let c := c.post code items
  match c.fm.reports.getLast? with
  | some r => (c.setFm (fun f => { f with reports := f.reports.dropLast })).handleReport r
  | none => c

/-- A warm reset runs (21 R579). -/
def Ctl.inWarmReset (c : Ctl) : Bool := c.bt.step = 0 && [1, 2, 3, 6].contains c.bt.cause

/-- SUPPLY_FAIL (R518): `rail` 0 is SUPPLY_FAIL_N low; `fell`: the PWR_GOOD of a rail that the part enables falls; else a rail is out of window, which
is a supply failure while the power sequence is complete or a warm reset runs (21 R579; assumption logs 85, 105; assumption log 85, 105; assumption log 105). -/
def Ctl.supplyFail (c : Ctl) (rail : Nat) (fell : Bool) (cut : Option MramCut) : Ctl :=
  if c.pm.down ≠ 0 then c else
  let pin := (List.range 4).find? (fun k => enRail k = rail && bit c.pm.pwrGood k)
  if rail ≠ 0 && fell && pin.isNone then c else
  let c := c.setPm (fun p =>
    if rail = 0 then { p with supplyFailN := false }
    else if fell then { p with pwrGood := setBit p.pwrGood (pin.getD 0) false }
    else { p with windowOut := p.windowOut ||| 2 ^ (rail - 1) })
  if !(rail = 0 || fell || c.e 0x120007 = 2 || c.inWarmReset) then c
  else ((c.mramStop cut).shutdownFault 0x02C1 [i8 rail]).shutdown 2 0x02C1

/-- THERMAL_ROUND: readings of the 24 sites against BG0 and BG1, with the self-test's verdict; after REFERENCE_DISAGREE a reading is the higher
of the two (19 R537). At the SHUTDOWN threshold the part shuts down (19 R531). -/
def Ctl.thermalCmd (c : Ctl) (both : List (Int × Int × Bool)) (cut : Option MramCut) : Ctl :=
  let rd := both.map (fun x => (if c.e 0x140002 = 1 then max x.1 x.2.1 else x.1, x.2.2))
  let passed := c.up - c.pm.lastRound
  let c := ((c.thermalRound rd).coolWatch.fitTempco passed).compensate
  if !c.tooHot || c.pm.down ≠ 0 || rd.length ≠ 24 then c
  else ((c.mramStop cut).shutdownFault 0x03C1 [c.tmaxItem, i8 (c.e 0x130002)]).shutdown 1 0x03C1

/-- SHUTDOWN_RESTART: the conditions of R522; after a supply failure, its pins and rails have been good for 100 ms (assumption log 85). -/
def Ctl.shutdownRestart (c : Ctl) : Ctl :=
  let heat := c.pm.down = 1 && decide (c.up ≥ c.pm.downAt + tS 10) && c.pm.coolSince.any (fun t => decide (c.up ≥ t + tS 1))
  if !heat && c.pm.down ≠ 2 then c else
  let cause := if heat then 4 else 5
  let off := c.pm.turnedOff
  let c := off.foldl (fun c r => c.emit { kind := .pin, a := 2, b := r + 1, c := 1 }) c
  let c := c.setPm (fun p => { p with windowOut := if heat then p.windowOut else 0, supplyFailN := if heat then p.supplyFailN else true })
  c.fresh cause false

/-- LIFE_UPDATE (21 R586): one powered hour. -/
def Ctl.lifeUpdate (c : Ctl) : Ctl :=
  let c := c.lifeTick
  let p := c.pm
  if p.lifeTime < tS 3600 then c else
  let h := c.e 0x130009
  let avg := p.lifeSum * 1000 / (16 * (p.lifeTime : Int))
  let old := toSigned 32 (c.e 0x13000A)
  let c := c.keepE 0x130009 (satAdd 32 h 1)
  let c := c.keepE 0x13000A (ofSigned 32 ((old * h + avg) / (h + 1 : Nat)))
  let c := c.keepE 0x13000B (satAdd 32 (c.e 0x13000B) (p.lifeHot / tS 3600))
  c.setPm (fun p => { p with lifeSum := 0, lifeTime := 0, lifeHot := p.lifeHot % tS 3600 })

/-! ### Control pairs (18 R496, R498; 20 R563) -/

/-- A control pair. -/
def Ctl.pair (c : Ctl) (p : Nat) : CpPair := if p = 0 then c.bt.cpA else c.bt.cpB
/-- Change a pair. -/
def Ctl.setPair (c : Ctl) (p : Nat) (x : CpPair) : Ctl := c.setBt (fun b => if p = 0 then { b with cpA := x } else { b with cpB := x })

/-- Calibration outputs hold while CP-B is out (20 R563). -/
def Ctl.calHolds (c : Ctl) : Ctl :=
  let c := c.calStops.setPm (fun p => { p with cal := p.cal.map (fun x => { x with quality := if x.quality = 3 then 2 else x.quality }) })
  ((List.range 8).foldl (fun c k => c.showQuality (k + 1)) c).showCal

/-- A running pair stops (R496): the second time within 60 s it stays out (R498; assumption log 85). Without CP-B the Tick runs on the last
frequency estimate without phase correction (R497). -/
def Ctl.cpStops (c : Ctl) (p code : Nat) : Ctl :=
  if p > 1 || c.ea 0x1580 p ≠ 0 || c.bt.step = 0 then c else
  let c := c.post code [i8 p]
  let again := (c.pair p).stoppedAt.any (fun t => decide (c.up < t + tS 60))
  let early := c.bt.startedAt.isNone && !c.tadpole
  let c := c.when (decide (p = 1)) (·.slewOff)
  let c := (c.setPair p { stoppedAt := some c.up }).setBt (fun b => { b with lockstepSeen := b.lockstepSeen || early, trialFault := true })
  if again then
    let c := (c.setEa 0x1580 p 2).post 0x05D3 [i8 p]
    if p = 1 then c.calHolds else c
  else c.setEa 0x1580 p 1

/-- PAIR_OUT_RESET_TIMER: 1 s after CP_PAIR_OUT, while no flips are issued. -/
def Ctl.pairOutTimer (c : Ctl) (cut : Option MramCut) : Ctl :=
  if c.fm.pairOutAt.any (fun t => decide (c.up ≥ t + tS 1)) && !c.tb.issuing then c.warmReset 6 cut else c

/-! ### The commands -/

/-- POWER_ON. -/
def execPowerOn (dt : Nat) (low : Bool) (s : State) : Host.Outcome State Fault Refusal :=
  runM (fun _ c => ({}, (c.advance dt).powerOn low)) s
/-- POR_RELEASE. -/
def execPorRelease (dt reach : Nat) (strap : Bool) (mr : List (Nat × Nat)) (status : List (Option Nat)) (s : State) :
    Host.Outcome State Fault Refusal := runC (fun c => (c.advance dt).porRelease reach strap mr status) s
/-- TADPOLE_SUPPLY_RETRY. -/
def execTadpoleSupplyRetry (dt : Nat) (s : State) : Host.Outcome State Fault Refusal := runC (fun c => (c.advance dt).supplyRetry) s
/-- WARM_RESET. -/
def execWarmReset (dt : Nat) (cut : Option MramCut) (s : State) : Host.Outcome State Fault Refusal :=
  runC (fun c => (c.advance dt).resetPin cut) s
/-- RESET_N_RISE. -/
def execResetNRise (dt : Nat) (s : State) : Host.Outcome State Fault Refusal := runC (fun c => (c.advance dt).resetRise) s
/-- START_TIMEOUT. -/
def execStartTimeout (dt : Nat) (cut : Option MramCut) (s : State) : Host.Outcome State Fault Refusal :=
  runC (fun c => (c.advance dt).startTimeout cut) s
/-- PWR_GOOD_RISE. -/
def execPwrGoodRise (dt k : Nat) (fails : List (Nat × Nat)) (target : Nat) (s : State) : Host.Outcome State Fault Refusal :=
  runC (fun c => (c.advance dt).pwrGoodRise k fails target) s
/-- SEQUENCE_FAILED. -/
def execSequenceFailed (dt : Nat) (island : Option Nat) (s : State) : Host.Outcome State Fault Refusal :=
  runC (fun c => (c.advance dt).sequenceFailed island) s
/-- DRAM_TRAINING_COMPLETE. -/
def execDramTrainingComplete (dt : Nat) (devs : List (List Nat)) (fail : Option (Nat × Nat × Nat)) (s : State) : Host.Outcome State Fault Refusal :=
  runM (fun m c => trainingDone devs fail m (c.advance dt)) s
/-- SUPPLY_FAIL. -/
def execSupplyFail (dt rail : Nat) (fell : Bool) (cut : Option MramCut) (s : State) : Host.Outcome State Fault Refusal :=
  runC (fun c => (c.advance dt).supplyFail rail fell cut) s
/-- IMAGE_LOAD_TIMEOUT: of an image load, and of a firmware load (18 R511). -/
def execImageLoadTimeout (dt : Nat) (s : State) : Host.Outcome State Fault Refusal := runC (fun c => (c.advance dt).loadTimeout.fwTimeout) s
/-- SHUTDOWN_RESTART. -/
def execShutdownRestart (dt : Nat) (s : State) : Host.Outcome State Fault Refusal := runC (fun c => (c.advance dt).shutdownRestart) s
/-- THERMAL_ROUND. -/
def execThermalRound (dt : Nat) (readings : List (Int × Int × Bool)) (cut : Option MramCut) (s : State) :
    Host.Outcome State Fault Refusal := runC (fun c => (c.advance dt).thermalCmd readings cut) s
/-- ISLAND_GATE_CHANGE. -/
def execIslandGateChange (dt : Nat) (s : State) : Host.Outcome State Fault Refusal := runC (fun c => (c.advance dt).showIslands) s
/-- LIFE_UPDATE. -/
def execLifeUpdate (dt : Nat) (s : State) : Host.Outcome State Fault Refusal := runC (fun c => (c.advance dt).lifeUpdate) s
/-- CP_MISMATCH. -/
def execCpMismatch (dt pair : Nat) (s : State) : Host.Outcome State Fault Refusal := runC (fun c => (c.advance dt).cpStops pair 0x05D1) s
/-- CP_WATCHDOG. -/
def execCpWatchdog (dt pair : Nat) (s : State) : Host.Outcome State Fault Refusal := runC (fun c => (c.advance dt).cpStops pair 0x05D2) s
/-- FW_LOAD_BEGIN. -/
def execFwLoadBegin (dt : Nat) (s : State) : Host.Outcome State Fault Refusal := runC (fun c => (c.advance dt).fwBegin) s
/-- FW_LOAD_DATA. -/
def execFwLoadData (dt : Nat) (bytes : List Byte) (s : State) : Host.Outcome State Fault Refusal := runC (fun c => (c.advance dt).fwData bytes) s
/-- FW_LOAD_END. -/
def execFwLoadEnd (dt : Nat) (s : State) : Host.Outcome State Fault Refusal := runC (fun c => (c.advance dt).fwEnd) s
/-- FW_LOAD_ABORT. -/
def execFwLoadAbort (dt : Nat) (s : State) : Host.Outcome State Fault Refusal := runC (fun c => (c.advance dt).fwAbort) s
/-- FW_CHECK_DONE. -/
def execFwCheckDone (dt : Nat) (s : State) : Host.Outcome State Fault Refusal := runC (fun c => (c.advance dt).fwChecked) s
/-- BOOT_RESTART. -/
def execBootRestart (dt : Nat) (cut : Option MramCut) (s : State) : Host.Outcome State Fault Refusal :=
  runC (fun c => (c.advance dt).bootRestart cut) s
/-- BOOT_TRY_OTHER. -/
def execBootTryOther (dt : Nat) (s : State) : Host.Outcome State Fault Refusal := runC (fun c => (c.advance dt).tryOther) s
/-- BOOT_CONFIRM. -/
def execBootConfirm (dt : Nat) (s : State) : Host.Outcome State Fault Refusal := runC (fun c => (c.advance dt).confirm) s
/-- TRIAL_CONFIRM_TIMER. -/
def execTrialConfirmTimer (dt : Nat) (s : State) : Host.Outcome State Fault Refusal := runC (fun c => (c.advance dt).trialTimer) s
/-- KEY_WRITE. -/
def execKeyWrite (dt key : Nat) (bytes : List Byte) (s : State) : Host.Outcome State Fault Refusal := runC (fun c => (c.advance dt).keyWrite key bytes) s
/-- PAIR_OUT_RESET_TIMER. -/
def execPairOutResetTimer (dt : Nat) (cut : Option MramCut) (s : State) : Host.Outcome State Fault Refusal :=
  runC (fun c => (c.advance dt).pairOutTimer cut) s

end Sys2Proof.Machine
end

