-- ==== Sys2Proof/Machine/HostRings.lean ====
section
/-! DEFINITION. The host's side of the event queues: MSI-X tables and messages, host rings (17 R485, R486). -/
namespace Sys2Proof.Machine

/-- Change the host interface's part. -/
def Ctl.setHi (c : Ctl) (f : HiState → HiState) : Ctl := { c with hi := f c.hi }

/-! ### MSI-X (R476, R486) -/

/-- Key of a word of a function's MSI-X table. -/
def msixKey (fn word : Nat) : Nat := fn * 1024 + word

/-- A word of a function's MSI-X table: 4 words for each of 65 vectors (address, address, data, control). After a reset every vector is
masked (PRESUMED: the PCIe specification; assumption log 60). -/
def Ctl.msixWord (c : Ctl) (fn word : Nat) : Nat := if word ≥ 260 then 0 else (aGet c.hi.msix (msixKey fn word)).getD (if word % 4 = 3 then 1 else 0)

/-- The vector is masked (assumption log 60). -/
def Ctl.msixMasked (c : Ctl) (fn v : Nat) : Bool := bit (c.msixWord fn (4 * v + 3)) 0

/-- Number of a pending bit. -/
def pbaBit (fn v : Nat) : Nat := fn * 65 + v

/-- A vector's message goes out; a masked vector sets its pending bit (R486; assumption log 60). -/
def Ctl.msixSend (c : Ctl) (fn v : Nat) : Ctl :=
  if c.msixMasked fn v then c.setHi (fun h => { h with pba := insertRising h.pba (pbaBit fn v) })
  else c.emit { kind := .msix, a := fn, b := v,
                bytes := toLE 4 (c.msixWord fn (4 * v)) ++ toLE 4 (c.msixWord fn (4 * v + 1)) ++ toLE 4 (c.msixWord fn (4 * v + 2)) }

/-- A write of a word of the table. Clearing the mask of a pending vector sends its message. Of the control word only the mask bit is kept,
and of the address bits 31 to 2 (assumption log 60). -/
def Ctl.msixWrite (c : Ctl) (fn word v : Nat) : Ctl :=
  if word ≥ 260 then c else
  let v := if word % 4 = 3 then v % 2 else if word % 4 = 0 then v / 4 * 4 else v
  let c := c.setHi (fun h => { h with msix := aSet h.msix (msixKey fn word) v })
  let vec := word / 4
  if word % 4 = 3 && v = 0 && c.hi.pba.contains (pbaBit fn vec) then
    (c.setHi (fun h => { h with pba := h.pba.filter (· ≠ pbaBit fn vec) })).msixSend fn vec
  else c

/-- A word of the pending bits. -/
def Ctl.pbaWord (c : Ctl) (fn word : Nat) : Nat :=
  maskOf ((List.range 32).filter (fun i => decide (32 * word + i < 65) && c.hi.pba.contains (pbaBit fn (32 * word + i))))

/-! ### Host rings (R484 to R486). Queues 0 to 63 belong to PF0 and 64 to 127 to PF1 -/

/-- Entries of a queue's host ring (assumption log 65). -/
def Ctl.eqEntries (c : Ctl) (q : Nat) : Nat := 2 ^ c.reg .hiEqCfg q 16
/-- HEAD of a host ring. -/
def Ctl.eqHead (c : Ctl) (q : Nat) : Nat := c.reg .hiEqPtr q 0
/-- TAIL of a host ring. -/
def Ctl.eqTail (c : Ctl) (q : Nat) : Nat := c.reg .hiEqPtr q 16
/-- Address of entry `i` of a host ring. -/
def Ctl.eqAddr (c : Ctl) (q i : Nat) : Nat := c.reg .hiEqBaseLo q 0 + c.reg .hiEqBaseHi q 0 * 2 ^ 32 + 16 * i

/-- The ring has room for a record; HEAD counts modulo the entry count (assumption log 65). -/
def Ctl.eqRoom (c : Ctl) (q : Nat) : Bool := (c.eqTail q + 1) % c.eqEntries q ≠ c.eqHead q % c.eqEntries q

/-- One held record is written at TAIL by DMA, when the ring is enabled, the link is up and there is room. -/
def Ctl.eqWrite (c : Ctl) (q : Nat) : Ctl :=
  match c.qbuf q with
  | [] => c
  | r :: rest =>
    if c.reg .hiEqCfg q 0 = 0 || !c.hi.linkUp || !c.eqRoom q then c else
    let c := c.emit { kind := .hostWrite, a := c.eqAddr q (c.eqTail q), bytes := r.octets }
    (c.setReg .hiEqPtr q 16 ((c.eqTail q + 1) % c.eqEntries q)).setHi
      (fun h => { h with buf := if rest.isEmpty then aDel h.buf q else aSet h.buf q rest, eqWritten := insertRising h.eqWritten q })

/-- The message of records written: at once while COAL_US is 0, else at the end of its interval. -/
def Ctl.eqNotify (c : Ctl) (q : Nat) : Ctl :=
  if c.reg .hiEqCfg q 1 ≠ 0 || !c.hi.eqWritten.contains q then c
  else (c.setHi (fun h => { h with eqWritten := h.eqWritten.filter (· ≠ q), msixAt := aSet h.msixAt q c.up })).msixSend (q / 64) (q % 64)

/-- EQ_RECORD_WRITE. -/
def Ctl.eqRecord (c : Ctl) (q : Nat) : Ctl := (c.eqWrite q).eqNotify q

/-- Every held record that fits is written, then the message. -/
def Ctl.eqDrain (c : Ctl) (q : Nat) : Ctl := ((c.qbuf q).foldl (fun (c : Ctl) _ => c.eqWrite q) c).eqNotify q

/-- EQ_ENABLE: ENABLE goes from 0 to 1 (assumption log 64). -/
def Ctl.eqEnable (c : Ctl) (q : Nat) : Ctl :=
  if c.reg .hiEqCfg q 0 = 1 then c else
  (((c.setReg .hiEqCfg q 0 1).setReg .hiEqPtr q 0 0).setReg .hiEqPtr q 16 0).eqDrain q

/-- EQ_HEAD_WRITE. -/
def Ctl.eqHeadWrite (c : Ctl) (q v : Nat) : Ctl := c.setReg .hiEqPtr q 0 (v % 65536)

/-- MSIX_COALESCE: an interval of COAL_US ends (assumption log 65). -/
def Ctl.eqCoalesce (c : Ctl) (q : Nat) : Ctl :=
  let due := match aGet c.hi.msixAt q with
    | some t => decide (c.up ≥ t + tUs (c.reg .hiEqCfg q 1))
    | none => true
  if c.reg .hiEqCfg q 1 = 0 || !due || !c.hi.eqWritten.contains q || c.eqHead q % c.eqEntries q = c.eqTail q then c
  else (c.setHi (fun h => { h with eqWritten := h.eqWritten.filter (· ≠ q), msixAt := aSet h.msixAt q c.up })).msixSend (q / 64) (q % 64)

/-- Configuration of a host ring (R485, R494): ENTRIES_LOG2 takes a write while ENABLE is 0, held to 4 to 16; COAL_US is held to 1,000;
then ENABLE. -/
def Ctl.eqCfgWrite (c : Ctl) (q v : Nat) : Ctl :=
  let c := if c.reg .hiEqCfg q 0 = 0 then c.setReg .hiEqCfg q 16 (clampN 4 16 (bits v 20 16)) else c
  let c := c.setReg .hiEqCfg q 1 (min 1000 (bits v 10 1))
  if bit v 0 then c.eqEnable q else c.setReg .hiEqCfg q 0 0

/-- HI_EQ_BASE takes a write while ENABLE is 0; it is a multiple of 4,096 (assumption log 65). -/
def Ctl.eqBaseWrite (c : Ctl) (q lo hi : Nat) : Ctl :=
  if c.reg .hiEqCfg q 0 ≠ 0 then c else (c.setReg .hiEqBaseLo q 0 (lo % 2 ^ 32 / 4096 * 4096)).setReg .hiEqBaseHi q 0 (hi % 2 ^ 32)

end Sys2Proof.Machine
end

