-- ==== Sys2Proof/Machine/VosOps.lean ====
section
/-! DEFINITION. The dictionary behind the server (16): what an entry reads as, what checks 8 to 15 of R455 say of an item, and what a
value does when it is accepted or becomes active. -/
namespace Sys2Proof.Machine

def Ctl.setDy (c : Ctl) (f : DyState → DyState) : Ctl := { c with dy := f c.dy }

/-! ### What an entry reads as -/

/-- Number of open sessions, with the two fixed ones (R474). -/
def Ctl.sessionsOpen (c : Ctl) : Nat := 2 + (c.dy.sessions.filter (fun x => x.isOpen && decide (x.num ≥ 3))).length

/-- SESSION_INFO: the open sessions by number (R474). -/
def Ctl.sessionInfo (c : Ctl) (k : Nat) : Nat :=
  match (c.dy.sessions.filter Sess.isOpen)[k]? with
  | some x => x.num % 65536 + b2n x.installer * 65536 + x.src.tr * 131072
  | none => 0

/-- PANEL_STATE (09 R296). -/
def Ctl.panelState (c : Ctl) : Nat :=
  if !c.pd.linked then (if c.pd.linking then 1 else 0) else if c.fm.safe = 2 then 4 else if c.fm.safe = 1 then 3 else 2

/-- RESERVED_BW of the active plan in MB/s (03 R81, 14 R422). -/
def Ctl.reservedBw (c : Ctl) : Nat :=
  let p := imgSec c.img 6
  if !c.hasImage || planLen p = 0 then 0 else ((List.range 6).map (planReserved p)).foldl (· + ·) 0 * 76800 / planLen p

/-- ITEM_AGE: seconds since the oldest instance of an item was calibrated (19 R543). -/
def Ctl.itemAge (c : Ctl) (item : Nat) : Nat :=
  let l := (c.pm.cal.filter (fun x => x.item = item)).map CalInst.at_
  if l.isEmpty then 0 else (c.up - minOf c.up l) / tS 1

/-- Number entries that are formed when they are read (assumption log 45). -/
def Ctl.calcEnt (c : Ctl) (k : Nat) : Option Nat :=
  let idx := k / 256
  let i := k % 256 - 1
  if k = 0x100008 then some ((c.up - c.bt.zeroAt) / 65536)
  else if k = 0x230005 then some c.now
  else if k = 0x230401 then some (ofSigned 64 c.clk.offA)
  else if k = 0x230402 then some (ofSigned 64 c.clk.offB)
  else if k = 0x230008 then some (if c.tb.issuing then c.nextFlip else 0)
  else if k = 0x230009 then some (if c.tb.issuing then c.nextTick else 0)
  else if k = 0x440006 then some c.panelState
  else if k = 0x410307 then some c.pendShown
  else if k = 0x150012 then some c.guarantee
  else if k = 0x540004 then some c.sessionsOpen
  else if k = 0x540005 then some c.dy.staged.length
  else if k = 0x540006 then some c.dy.commits.length
  else if idx = 0x5401 then some (c.sessionInfo i)
  else if k = 0x160002 then some (keyId (c.bt.installerKey.getD Config.factoryKey))
  else if k = 0x130006 then some (c.pm.holdUntil.elim 0 (fun u => min 65535 ((u - c.up) / tMs 1)))
  else if idx = 0x1411 then some (c.itemAge (i + 1))
  else if k = 0x500006 then some c.reservedBw
  else if k = 0x521508 && c.ckBit 7 8 then some (Config.ckHeldValue c.now % 2 ^ 32)
  else if k = 0x521608 && c.ckBit 7 8 && !c.ckSnoop 7 then some (crcOut 32 true 0xFFFFFFFF (Config.ckHeldValue c.now % 2 ^ 32))
  else if decide (0x5211 ≤ idx) && decide (idx ≤ 0x5216) then some (c.ckVal idx i)
  else if idx = 0x2020 then some ((c.settleTest i).ea 0x2020 i)
  else none

/-- The active value of an entry, or an array's element count (00 R13). -/
def Ctl.entVal (c : Ctl) (k : Nat) : EVal :=
  match countRow k with
  | some d => .num d.n
  | none =>
    if k / 256 = 0x7010 then .oct (c.logRecord (k % 256))
    else if k / 256 = 0x7020 then .oct (c.histRecord (k % 256))
    else match c.calcEnt k with
      | some n => .num n
      | none => c.ev k

/-- Type and access code of an address; none where there is no entry (R446). -/
def rowOf (k : Nat) : Option (ETy × Acc) :=
  match dictRow k with
  | some d => some (d.ty, d.acc)
  | none => (countRow k).map (fun _ => (.u8, .ro))

/-- What a read returns (R449): the shadow of a staged entry unless ACTIVE is asked. -/
def Ctl.entRead (c : Ctl) (k : Nat) (active : Bool) : EVal :=
  match rowOf k with
  | some (_, .rws) => if active then c.entVal k else c.sh k
  | _ => c.entVal k

/-- A value's octets. -/
def Ctl.entOctets (c : Ctl) (k : Nat) (active : Bool) : List Byte :=
  match rowOf k with
  | some (ty, _) => (c.entRead k active).octets ty
  | none => []

/-! ### Checks 8 to 11 (R455) -/

/-- Entries from 0x3000 to 0x4FFF whose write requires the Installer level all the same (03 R92, R104; 10 R321). -/
def installerEnt (k : Nat) (acc : Acc) : Bool :=
  [0x410203, 0x410204, 0x410304, 0x410403, 0x410404].contains k ||
  (decide (0x310000 ≤ k) && decide (k < 0x320000) && acc ≠ .wo)

/-- A write of the entry requires the Installer level (R448; assumption log 121). -/
def needsInstaller (k : Nat) (acc : Acc) : Bool := acc = .ro || !(decide (0x300000 ≤ k) && decide (k < 0x500000)) || installerEnt k acc

/-- The part serves the entry in Tadpole mode (18 R509; assumption log 83). -/
def tadpoleServes (k : Nat) (write : Bool) : Bool :=
  let i := k / 256
  i = 0x1000 || (decide (0x1100 ≤ i) && decide (i ≤ 0x1105)) || i = 0x1580 || i = 0x1581 || i = 0x1600 || i = 0x1601 || i = 0x2200 || i = 0x5400 ||
  (!write && (i = 0x1200 || i = 0x1300 || (decide (0x7000 ≤ i) && decide (i ≤ 0x70FF))))

/-- A load over Vostan is running (03 R88). -/
def Ctl.vosLoading (c : Ctl) : Bool := c.xz.load.isSome && !c.dmaLoading

/-- Rules that refuse a write whatever its value (check 11): 13 R384, 01 R23, 03 R88. -/
def Ctl.denied (c : Ctl) (k : Nat) : Bool :=
  if k = 0x230006 ∨ k = 0x230007 ∨ k = 0x230015 then c.hasImage || c.tb.rateChange.isSome
  else if k = 0x210005 then c.e 0x210002 ≠ 1
  else if k = 0x410204 then !c.vosLoading
  else false

/-- Checks 8 to 11 for one address: 0 or the status. -/
def Ctl.itemAccess (c : Ctl) (inst : Bool) (k : Nat) (write : Bool) : Nat :=
  if k ≥ 0x800000 then 2 else
  match rowOf k with
  | none => 1
  | some (_, acc) =>
    if c.tadpole && !tadpoleServes k write then 0x0F
    else if write then
      (if needsInstaller k acc && !inst then 3 else if acc = .ro || c.denied k then 2 else 0)
    else if acc = .wo then 2 else 0

/-! ### Checks 12 to 14 (R455) -/

/-- One item of a WRITE: its key, type code and octets. -/
structure WItem where
  key : Nat
  ty : Nat
  val : List Byte
  deriving DecidableEq, Repr

/-- The value an item carries. -/
def WItem.value (w : WItem) : EVal := match rowOf w.key with
  | some (ty, _) => valOf ty w.val
  | none => .oct w.val

/-- The part as the items would leave its unstaged entries (check 14 sees the whole WRITE). -/
def Ctl.withItems (c : Ctl) (l : List WItem) : Ctl :=
  l.foldl (fun c w => match rowOf w.key with
    | some (_, .rw) => c.setEv w.key w.value
    | _ => c) c

/-- Rules of the owning chapters that depend on the value (check 14); `a` is the part as the whole WRITE would leave it. LOAD_CMD and a load by DMA:
assumption log 72. -/
def Ctl.valueRule (c a : Ctl) (k : Nat) (v : EVal) : Nat :=
  let n := v.toNum
  if k = 0x110505 then (if n ≤ c.e 0x100006 then 0 else 5)
  else if k = 0x110005 then (if n = 2 && c.fwSt c.otherSlot ≠ 2 then 5 else 0)
  else if k = 0x160001 then (if keyOk 0 v.toOct then 0 else 5)
  else if k = 0x160003 then (if keyOk 1 v.toOct then 0 else 5)
  else if k / 256 = 0x1601 then (if keyOk (k % 256 + 1) v.toOct then 0 else 5)
  else if k / 256 = 0x2302 then (if a.ea 0x2302 0 = a.ea 0x2302 1 then 2 else 0)
  else if k = 0x120003 ∨ k = 0x120004 then (if a.e 0x120003 ≤ a.e 0x120004 then 0 else 5)
  else if k = 0x23000C then (if n = 1 then a.rateStatus else if c.rateCancelOk then 0 else 2)
  else if k = 0x23000E then (if n = 0 || c.stepAllowed then 0 else 2)
  else if k = 0x410203 then (if n = 1 || c.vosLoading then 0 else 2)
  else if k = 0x410204 then (match c.xz.load with
    | some l => if l.raw.length + v.toOct.length ≤ l.size then 0 else 5
    | none => 2)
  else if k = 0x110503 then (match c.bt.fwLoad with
    | some l => if l.ended || decide (l.data.length + v.toOct.length ≤ l.size) then 0 else 5
    | none => 0)
  else if decide (0x600000 ≤ k) && decide (k < 0x640000) && k % 256 = 6 then
    (if bits n 15 0 < bits n 47 32 ∧ bits n 31 16 < bits n 63 48 then 0 else 5)
  else 0

/-- A WRITE command to IC_ACC_CMD requires the Installer level; a READ does not (09 R290; assumption log 121). -/
def WItem.icWrite (w : WItem) : Bool := w.key = 0x442005 && w.value.toNum = 2

/-- Checks 8 to 15 of one item of a WRITE; `block`: it came by a block transfer. -/
def Ctl.itemCheck (c a : Ctl) (inst block : Bool) (w : WItem) : Nat :=
  let st := c.itemAccess inst w.key true
  if st ≠ 0 then st else if w.icWrite && !inst then 3 else
  match dictRow w.key with
  | none => 1
  | some d =>
    if w.ty ≠ d.ty.code then 4
    else if !d.ty.isOct && w.val.length ≠ d.ty.size then 6
    else if !valRange w.key d w.value then 5
    else
      let r := c.valueRule a w.key w.value
      if r ≠ 0 then r else if !block && decide (w.val.length > 64) then 0x0A else 0

/-! ### What a value does -/

/-- Clear every element of an array entry. -/
def Ctl.clearArr (c : Ctl) (idx : Nat) : Ctl :=
  match dictRow (ekey idx 1) with
  | some d => (List.range d.n).foldl (fun c i => c.setEa idx i 0) c
  | none => c

/-- A write of IRQ_ACK deasserts the named pins (17 R490). -/
def Ctl.irqAck (c : Ctl) (mask : Nat) : Ctl :=
  let off := (List.range 8).filter (fun p => bit mask p && c.irq.testBit p)
  let c := off.foldl (fun c p => c.emit { kind := .irq, a := p, b := 0 }) c
  let c := { c with irq := off.foldl (fun v p => v - 2 ^ p) c.irq }
  c.setE 0x530005 c.irq

/-- An entry returns to its default: the value, its stored copy and its shadow. -/
def Ctl.toDefault (c : Ctl) (k : Nat) : Ctl :=
  let c := { c with ent := aDel c.ent k, shadow := aDel c.shadow k }
  if c.bt.mramStopped then c else { c with nv := aDel c.nv k }

/-- The keys that CLEAR_SETTINGS returns to their defaults (18 R515): every RW or RWS entry with Persist Yes but keys and TILE_SERIAL. -/
def settingKeys : List Nat :=
  (dictRows.filter (fun d => d.persist = .yes && (d.acc = .rw || d.acc = .rws) && d.lo ≠ 0x410404 && !(d.lo / 256 = 0x1600 || d.lo / 256 = 0x1601))).flatMap
    (fun d => (List.range d.n).map (· + d.lo))

/-- Entries whose write has an effect beyond the value; `c` holds the value already, but for command entries and those that their own
operation sets. -/
def Ctl.written (c : Ctl) (k : Nat) (v : EVal) : Ctl :=
  let n := v.toNum
  let idx := k / 256
  let i := k % 256 - 1
  if k = 0x210001 then c.showRole
  else if k = 0x210005 then (if n = 1 then c.enumerate.enumFollow else c)
  else if k = 0x21000A then (if n = 1 then [0x2114, 0x2115, 0x2116, 0x2117, 0x2118, 0x2119, 0x211A, 0x211B, 0x211C].foldl Ctl.clearArr c else c)
  else if idx = 0x1210 then (c.railAddr i).powerTotal
  else if k = 0x410203 then (if n = 1 then c.imageLoadBegin else if n = 2 then c.loadClose else c.loadAbort)
  else if k = 0x410204 then c.loadData v.toOct
  else if k = 0x410304 then (if n = 1 then c.actRequest else c.actCancel)
  else if k = 0x410403 then c.storeCmd
  else if decide (0x6000 ≤ idx) && decide (idx < 0x6400) then
    (if k % 256 = 1 then c.dcEnable (idx - 0x6000) else if k % 256 = 0x12 && n = 1 then c.ctxClear (idx - 0x6000) else c)
  else if k = 0x400012 then (if n = 1 then (c.setE 0x400010 0).setE 0x400011 0 else c)
  else if k = 0x450001 then c.stMode n
  else if k = 0x44000F then
    (if n = 1 then [0x440009, 0x44000A, 0x44000B, 0x44000C, 0x44000D].foldl (fun c e => c.setE e 0) (c.clearArr 0x4413) else c)
  else if k = 0x442005 then c.icAccess (n = 2)
  else if k = 0x310009 then (if n = 1 then c.enCountersClear else c)
  else if idx = 0x3122 then (if n = 1 then c.rapRequest i else c)
  else if k = 0x200006 then c.portRetrain (n - 1)
  else if idx = 0x2001 then c.portEnable i n
  else if idx = 0x201D then (if n = 1 then c.laneTest i else c.laneReturn i)
  else if k = 0x23000C then (if n = 1 then c.rateSchedule else c.rateCancel)
  else if k = 0x23000E then (if n = 1 then c.timeStep else c)
  else if idx = 0x2301 then c.domainEnable i n
  else if k = 0x230006 ∨ k = 0x230007 ∨ k = 0x230015 then c.seriesWritten
  else if k = 0x120003 ∨ k = 0x120004 then c.setTarget c.pm.target
  else if k = 0x500008 then (if n = 1 then [0x5002, 0x5003, 0x5004, 0x5006, 0x5007, 0x5008].foldl Ctl.clearArr (c.mcRun.setE 0x500007 0) else c)
  else if k = 0x510008 then (if n = 1 then [0x510001, 0x510002, 0x510003, 0x510004, 0x510006].foldl (fun c e => c.setE e 0) c else c)
  else if k = 0x520001 then (if n = 1 then c.clearArr 0x521B else c)
  else if decide (0x5210 ≤ idx) && decide (idx ≤ 0x5215) then c.ckWrite idx i n
  else if idx = 0x5217 then c.ckCtrlWrite i n
  else if idx = 0x5218 then c.ckFeed i v.toOct
  else if k = 0x54000E then (if n = 1 then [0x54000B, 0x54000C, 0x54000D].foldl (fun c e => c.setE e 0) c else c)
  else if k = 0x530004 then c.irqAck n
  else if k = 0x110005 then
    (if n = 1 then c.bootRestart none else if n = 2 then c.tryOther else if n = 3 then c.confirm else c)
  else if k = 0x110501 then (if n = 1 then c.fwBegin else if n = 2 then c.fwEnd else c.fwAbort)
  else if k = 0x110503 then c.fwData v.toOct
  else if k = 0x110505 then c.floorWritten
  else if k = 0x160001 then c.keyWrite 0 v.toOct
  else if k = 0x160003 then c.keyWrite 1 v.toOct
  else if idx = 0x1601 then c.keyWrite (i + 2) v.toOct
  else if k = 0x140005 then c.calNowCmd n
  else if k = 0x150009 then c.safeEnds
  else if k = 0x15000A then (if n = 1 then c.faultClear else c)
  else if k = 0x15000C then c.laneReadmit n
  else if k = 0x15000D then c.unitRestore n
  else if k = 0x700006 then (if n = 1 then c.logClear else c)
  else c

/-- Entries that their own operation sets. -/
def setsItself (k : Nat) : Bool :=
  let idx := k / 256
  k = 0x450001 || idx = 0x2301 || (decide (0x5210 ≤ idx) && decide (idx ≤ 0x5215)) || idx = 0x1601

/-- BOOT_CMD CLEAR_SETTINGS (18 R515): the settings take their defaults, and those that change take effect (assumption log 75). -/
def Ctl.clearSettings (c : Ctl) : Ctl :=
  let changed := settingKeys.filter (fun k => c.ev k ≠ dfltVal k)
  changed.foldl (fun c k => c.written k (c.ev k)) (settingKeys.foldl Ctl.toDefault (c.journalled (changed.map (fun k => (k, dfltVal k)))))

/-- A value of an entry that is not staged is accepted: it is stored where its Persist says so, and takes effect (R450, R457). The idle time of
a DRAM rank up to now is judged by the PD_IDLE that stood (14 R419). -/
def Ctl.accept (c : Ctl) (k : Nat) (v : EVal) : Ctl :=
  match dictRow k with
  | none => c
  | some d =>
    let c := if k = 0x500004 then c.mcRun else c
    let c := if d.acc = .wo || setsItself k then c else c.setEv k v
    let c := if d.persist = .yes && d.acc = .rw && k / 256 ≠ 0x1601 then c.saveEv k v else c
    let c := c.written k v
    if k = 0x110005 && v.toNum = 4 then c.clearSettings else c

/-- A staged write: the shadow takes the value and the entry joins the staged set (R466). While Glaze copies its tables, a write of
theirs waits (07 R235). -/
def Ctl.stage (c : Ctl) (k : Nat) (v : EVal) : Ctl :=
  if glazeEntry k && c.pl.syncing then
    (match dictRow k with
    | some d => c.setPl (fun p => { p with waiting := p.waiting ++ [(k, v.octets d.ty)] })
    | none => c)
  else { c with shadow := aSet c.shadow k v, dy := { c.dy with staged := insertRising c.dy.staged k } }

/-- Unstaged values stand before the first effect of a WRITE. -/
def Ctl.withPlain (c : Ctl) (l : List WItem) : Ctl :=
  l.foldl (fun c w => match rowOf w.key with
    | some (_, .rw) => if setsItself w.key then c else c.setEv w.key w.value
    | _ => c) c

/-- The items of a WRITE take effect together (R457): values first, in one transaction of the journal (18 R502), then what they do. -/
def Ctl.applyItems (c : Ctl) (l : List WItem) : Ctl :=
  l.foldl (fun c w => match rowOf w.key with
    | some (_, .rws) => c.stage w.key w.value
    | _ => c.accept w.key w.value) ((c.withPlain l).journalled
      ((l.filter (fun w => (dictRow w.key).any (fun d => d.persist = .yes && d.acc = .rw && w.key / 256 ≠ 0x1601))).map (fun w => (w.key, w.value))))

/-- A WRITE (R457): every item is checked, then all apply. Answers the status and the failing item (255 for none). `store`: the MRAM
store works (R450). -/
def Ctl.writeItems (c : Ctl) (inst block store : Bool) (l : List WItem) : Ctl × Nat × Nat :=
  let a := c.withItems l
  match (List.range l.length).find? (fun i => (l[i]?).any (fun w => c.itemCheck a inst block w ≠ 0)) with
  | some i => (c, (l[i]?).elim 0 (fun w => c.itemCheck a inst block w), i)
  | none =>
    let kept := (List.range l.length).find? (fun i => (l[i]?).any (fun w => (dictRow w.key).any (fun d => d.persist = .yes && d.acc ≠ .rws)))
    match kept with
    | some i =>
      if store && !c.bt.mramStopped then (c.applyItems l, 0, 255)
      else (c.post 0x44C1 [i16 (((l[i]?).elim 0 WItem.key) / 256), i8 (((l[i]?).elim 0 WItem.key) % 256)], 0x10, i)
    | none => (c.applyItems l, 0, 255)

/-! ### The staged set and the commits (R466 to R469; 00 R15 to R17) -/

/-- The value of an entry once every accepted record has applied. -/
def Ctl.future (c : Ctl) (k : Nat) : EVal := (firstSome (fun (r : CommitRec) => aGet r.vals k) c.dy.commits.reverse).getD (c.ev k)

/-- A record that is accepted: COMMIT_ID, ACCEPT_TICK and APPLY_FLIP; none when 4 are pending (R467). -/
def Ctl.commit (c : Ctl) : Ctl × Option (Nat × Nat × Nat) :=
  if c.dy.commits.length ≥ 4 then (c, none) else
  let r : CommitRec := ⟨c.dy.nextCommit, c.now, c.dy.staged.map (fun k => (k, c.sh k))⟩
  let flip := if c.tb.issuing then c.tn (c.flipAt (tickAdd c.now (tUs 100))) else 0
  let c := c.setDy (fun d => { d with staged := [], commits := d.commits ++ [r], nextCommit := (d.nextCommit + 1) % 2 ^ 32 })
  let c := ((c.setReg .dyCommitId 0 0 r.id).setReg .dyAcceptTickLo 0 0 (r.acceptTick % 2 ^ 32)).setReg .dyAcceptTickHi 0 0 (r.acceptTick / 2 ^ 32)
  (c, some (r.id, r.acceptTick, flip))

/-- DISCARD: every staged shadow goes back to the value that the accepted records will leave. -/
def Ctl.discard (c : Ctl) : Ctl :=
  let c' := c.dy.staged.foldl (fun (m : Ctl) k => { m with shadow := aSet m.shadow k (c.future k) }) c
  c'.setDy (fun d => { d with staged := [] })

/-- Key view size in force of a DECODED slot (07 R218). -/
def Ctl.viewSize (c : Ctl) (s : Nat) : Option (Nat × Nat) :=
  firstSome (fun x => x.2.hdr.bind (fun h => if decide (c.ctxState x.1 ≥ 2) && h.lay.slot = s then some (h.lay.w, h.lay.h) else none)) c.dc.ctxs

/-- The check of a set (00 R17): subsystem by subsystem; the event that the failing check posts, and its data. `chk` is the part with the
rate that governs the frame that begins at the flip (13 R385; assumption log 75). -/
def Ctl.setCheck (chk : Ctl) (vals : EMap) : Option (Nat × List (Nat × Nat)) :=
  let e := fun k => match aGet vals k with
    | some v => v.toNum
    | none => chk.e k
  match chk.enCheck e with
  | some r => some r
  | none =>
    match (if (aGet vals 0x400004).isSome then chk.easelCheck (e 0x400004) else none) with
    | some us => some (0x3043, [i32 us])
    | none =>
      match plCheck (fun s => if chk.hasImage then chk.plan s else slotPlan [] s) e chk.viewSize with
      | some r => some (r.1, [i8 r.2, i8 0])
      | none => if (aGet vals 0x440002).isSome then (chk.leadCheck (e 0x440002)).map (fun need => (0x3483, [i32 need])) else none

/-- Values of a record become active (R466, R468): both copies, but where a later write stands in the shadow. Those with Persist Yes are
stored (R450); `store`: the MRAM store works. -/
def Ctl.applyVals (c : Ctl) (store : Bool) (vals : EMap) : Ctl :=
  let c := if store then c.journalled (vals.filter (fun p => (dictRow p.1).any (fun d => d.persist = .yes))) else c
  let c := vals.foldl (fun c p =>
    let newer := c.dy.staged.contains p.1 || c.dy.commits.any (fun r => (aGet r.vals p.1).isSome)
    let c := c.setEv p.1 p.2
    let c := if newer then { c with shadow := aSet c.shadow p.1 (c.sh p.1) } else { c with shadow := aDel c.shadow p.1 }
    if !(dictRow p.1).any (fun d => d.persist = .yes) then c
    else if store then c.saveEv p.1 p.2 else c.post 0x44C1 [i16 (p.1 / 256), i8 (p.1 % 256)]) c
  let c := vals.foldl (fun c p => c.written p.1 p.2) c
  if vals.any (fun p => glazeEntry p.1) then c.glazeSwap else c

/-- Values of a rejected record return to the staged set, behind a value staged since (R468; assumption log 75). -/
def Ctl.restage (c : Ctl) (vals : EMap) : Ctl :=
  vals.foldl (fun c p => if c.dy.staged.contains p.1 then c
    else { c with shadow := aSet c.shadow p.1 p.2, dy := { c.dy with staged := insertRising c.dy.staged p.1 } }) c

/-- The event of a set's rejection, posted as its subsystem posts it: each slot or stream, and Easel, at most once per frame (06 R208, 07
R237, 10 R320). -/
def Ctl.rejectPost (c : Ctl) (code : Nat) (data : List (Nat × Nat)) : Ctl :=
  let s := ((data.head?).map Prod.snd).getD 0
  if code / 256 = 0x30 then c.esPost code data
  else if code / 256 = 0x32 then c.plPost code s (data.drop 1)
  else if code / 256 = 0x21 then c.enPost code s data
  else c.post code data

/-- One record at a flip whose Tick is `tick`. `rate` is the rate of the frame that begins there (assumption log 75). -/
def Ctl.runRecord (store : Bool) (tick rate : Nat) (c : Ctl) (r : CommitRec) : Ctl :=
  let c := c.setDy (fun d => { d with commits := d.commits.filter (fun x => x.id ≠ r.id) })
  let c := (c.setE 0x540007 r.id).setE 0x54000A tick
  match (if r.vals.isEmpty then none else (c.setE 0x230006 rate).setCheck r.vals) with
  | some (code, data) =>
    let c := (c.restage r.vals).rejectPost code data
    (((c.setE 0x540008 2).setE 0x540009 code)).post 0x4481 [i32 r.id, i16 code]
  | none => ((((c.applyVals store r.vals).setE 0x540008 1).setE 0x540009 0).post 0x4401 [i32 r.id]).cullCheck

/-- Records due at a flip, in COMMIT_ID order; a safe state defers every one (01 R31), and so does a stopped CP-A (01 R28). -/
def Ctl.runCommits (c : Ctl) (store : Bool) (tick rate : Nat) : Ctl :=
  if c.isSafe || c.ea 0x1580 0 ≠ 0 then c else
  (c.dy.commits.filter (fun r => decide (tickD tick (tickAdd r.acceptTick (tUs 100)) ≥ 0))).foldl (Ctl.runRecord store tick rate) c

/-- At an activation, staged Img values that no record holds are discarded (R469); the shadow of one that a record holds keeps that value. -/
def Ctl.dropImgStaged (c : Ctl) : Ctl :=
  let c := c.setDy (fun d => { d with staged := d.staged.filter (fun k => !imgKey k) })
  let c := { c with shadow := c.shadow.filter (fun p => !imgKey p.1) }
  c.dy.commits.foldl (fun c r => r.vals.foldl (fun c p => if imgKey p.1 then { c with shadow := aSet c.shadow p.1 p.2 } else c) c) c

end Sys2Proof.Machine
end

