-- ==== Sys2Proof/Machine/Vostan.lean ====
section
/-! DEFINITION. Vostan messages: the checks of R455, the requests, sessions, subscriptions and relays (16), and what a restart of a
control pair leaves (18 R497). The server takes one message at a time and executes it whole (R454). -/
namespace Sys2Proof.Machine

/-! ### Messages (R451, R452) -/

/-- Greatest message of a transport (R451). -/
def vosMax (tr : Nat) : Nat := if tr = 0 then 1440 else if tr = 1 then 240 else 4096

/-- The row of the command table that a message belongs to: its MTYPE from 2 to 6, 9 for a COMMIT with ACTION 2, 10 plus the STEP of a
LOGIN, and 1 (READ) for every other (assumption log 70). -/
def vosRow (m : List Byte) : Nat :=
  let t := u8At m 1
  if t = 6 then (if u8At m 16 = 2 then 9 else 6)
  else if t = 7 then (if u8At m 16 = 2 then 12 else if u8At m 16 = 3 then 13 else 11)
  else if 2 ≤ t ∧ t ≤ 5 then t else 1

/-- A message: header, body and the MAC under `ks` (none when empty). -/
def vosMsg (mtype flags status sess seq target : Nat) (body ks : List Byte) : List Byte :=
  let fl := flags + (if ks.isEmpty then 0 else 2)
  let h := [1, byteOf mtype, byteOf fl, byteOf status] ++ toLE 2 sess ++ toLE 2 body.length ++ toLE 4 seq ++ [byteOf target, 0, 0, 0] ++ body
  if ks.isEmpty then h else h ++ (hmac ks h).take 16

/-- The body of a message. -/
def vosBody (m : List Byte) : List Byte := slice m 16 (leAt m 6 2)

/-- Session number of a message. -/
def vosSess (m : List Byte) : Nat := leAt m 4 2

/-- Octets with zeros up to a multiple of 4. -/
def pad4 (b : List Byte) : List Byte := b ++ List.replicate ((4 - b.length % 4) % 4) 0

/-- A reply is sent to where the request came from, a datagram from the part's Vostan port (R451, R474; assumption log 71); a mailbox holds
it in its reply buffer (17 R489). -/
def Ctl.vosSend (c : Ctl) (dest : VAddr) (m : List Byte) : Ctl :=
  if dest.tr = 0 then c.emit { kind := .vostan, a := c.dy.udpPort, b := dest.a, c := dest.p, bytes := m }
  else if dest.tr = 1 then c.sideSend dest.p 9 dest.a m
  else { c with hi := { c.hi with mbxReply := setAt c.hi.mbxReply dest.a m } }

/-- Size of a value of the type that a code names; none for octet types and unknown codes (R447). -/
def tySize (code : Nat) : Option Nat := [some 1, some 1, some 2, some 4, some 8, some 4, some 8, some 4, some 8].getD (code - 1) none

/-- Items of a WRITE body (R457); none where its layout is not valid. The number of items left bounds the reading. -/
def wItems : Nat → List Byte → Option (List WItem)
  | 0, b => if b.isEmpty then some [] else none
  | n + 1, b =>
    let len := leAt b 4 2
    let full := 8 + len + (4 - len % 4) % 4
    let bad := decide (b.length < full) || decide (b.length < 8) || leAt b 6 2 ≠ 0 || !zeros (slice b (8 + len) (full - 8 - len)) ||
      (u8At b 3 ≠ 0 && (tySize (u8At b 3)).any (fun k => k ≠ len))
    if bad then none else (wItems n (b.drop full)).map (fun l => ⟨leAt b 0 2 * 256 + u8At b 2, u8At b 3, slice b 8 len⟩ :: l)

/-- Check 3 of a body (R455 to R458, R460, R464, R467; assumption log 71). -/
def vosLayout (t : Nat) (b : List Byte) : Bool :=
  let n := u8At b 0
  if t = 1 then decide (1 ≤ n) && decide (n ≤ 32) && zeros (slice b 1 3) && decide (b.length = 4 + 4 * n) &&
    (List.range n).all (fun i => decide (u8At b (7 + 4 * i) ≤ 1))
  else if t = 2 then decide (1 ≤ n) && decide (n ≤ 16) && decide (4 ≤ b.length) && zeros (slice b 1 3) && (wItems n (b.drop 4)).isSome
  else if t = 3 then decide (b.length = 16) && decide (u8At b 3 < 4) && leAt b 14 2 = 0
  else if t = 4 then decide (16 ≤ b.length) && decide (b.length = 16 + leAt b 12 2) && decide (u8At b 3 < 4) && leAt b 14 2 = 0
  else if t = 5 then decide (b.length = 8)
  else if t = 6 then decide (b.length = 4) && (n = 1 || n = 2) && zeros (slice b 1 3)
  else decide (u8At b 1 ≤ 1) && leAt b 2 2 = 0 && ((n = 1 && b.length = 20) || (n = 2 && b.length = 36) || (n = 3 && b.length = 4))

/-- Check 3 of a whole message: LENGTH, reserved fields and body layout (assumption log 71). -/
def vosFormat (m : List Byte) : Bool :=
  let mac := if bit (u8At m 2) 1 then 16 else 0
  decide (m.length = 16 + leAt m 6 2 + mac) && decide (u8At m 2 < 4) && u8At m 3 = 0 && zeros (slice m 13 3) && vosLayout (u8At m 1) (vosBody m)

/-! ### Sessions (R460 to R463) -/

/-- A session by its number. -/
def Ctl.sess (c : Ctl) (n : Nat) : Option Sess := c.dy.sessions.find? (fun x => x.num = n)

/-- Change a session. -/
def Ctl.updSess (c : Ctl) (n : Nat) (f : Sess → Sess) : Ctl :=
  c.setDy (fun d => { d with sessions := d.sessions.map (fun x => if x.num = n then f x else x) })

/-- An abandoned transfer of a stream entry ends its operation (R459; 03 R91, 18 R511). -/
def Ctl.xferLost (c : Ctl) (x : Xfer) : Ctl :=
  if x.key = 0x410204 && c.vosLoading then c.loadFail 0x20 0x102
  else if x.key = 0x110503 then (match c.bt.fwLoad with
    | some l => if l.ended then c else c.fwEnds l 0x20
    | none => c)
  else c

/-- A session closes, or a fixed one is reset (R463): its transfer is abandoned and its subscriptions end (assumption log 74). -/
def Ctl.closeSess (c : Ctl) (n cause : Nat) : Ctl :=
  match c.sess n with
  | none => c
  | some s =>
    let c := match s.xfer with
      | some x => c.xferLost x
      | none => c
    if n < 3 then c.updSess n (fun _ => fixedSess n)
    else (c.setDy (fun d => { d with sessions := d.sessions.filter (fun x => x.num ≠ n) })).post 0x4403 [i8 n, i8 cause]

/-- Two addresses belong to one transport; each function's mailbox is its own (R462). -/
def sameTr (a b : VAddr) : Bool := a.tr = b.tr && (a.tr ≠ 2 || a.a = b.a)

/-- A login source as R462 counts it: an IPv4 address, a position or a function. -/
def loginSrc (a : VAddr) : VAddr := { a with p := 0 }

/-- The login source item of an event (17 R483). -/
def srcItem (a : VAddr) : Nat × Nat := i40 (a.tr + a.a % 2 ^ 32 * 256)

/-- The record of a login source. -/
def Ctl.login (c : Ctl) (a : VAddr) : LoginSrc := (c.dy.logins.find? (fun x => x.src = loginSrc a)).getD ⟨loginSrc a, 0, none⟩

/-- Set the record of a login source. -/
def Ctl.setLogin (c : Ctl) (l : LoginSrc) : Ctl :=
  c.setDy (fun d => { d with logins := d.logins.filter (fun x => x.src ≠ l.src) ++ (if l.fails = 0 && l.until_.isNone then [] else [l]) })

/-- A failed step 2 (R460, R462): five in a row lock the source out (assumption log 74). -/
def Ctl.loginFails (c : Ctl) (a : VAddr) : Ctl :=
  let c := (c.incE 0x54000C).post 0x4441 [srcItem a]
  let l := c.login a
  if l.fails + 1 < 5 then c.setLogin { l with fails := l.fails + 1 }
  else (c.setLogin ⟨loginSrc a, 0, some (c.up + tS (c.e 0x540003))⟩).post 0x4482 [srcItem a]

/-- The source is locked out. -/
def Ctl.lockedOut (c : Ctl) (a : VAddr) : Bool := (c.login a).until_.any (fun t => decide (c.up < t))

/-- A free session number from NEXT on, 3 to 65,535 in a ring (assumption log 74). -/
def Ctl.freeNum (c : Ctl) : Nat :=
  ((List.range 17).map (fun i => 3 + (c.dy.nextSession - 3 + i) % 65533)).find? (fun n => (c.sess n).isNone) |>.getD 3

/-- The 32 octets of a challenge from the part's random source (R460). -/
def challengeOf (draw : Nat) : List Byte := (List.range 32).map (fun i => (Config.challenge draw).getD i 0)

/-- What a PROOF must be (R460). -/
def proofOf (s : Sess) : List Byte := hmac s.ks (s.challenge ++ s.cnonce ++ toLE 2 s.num ++ toLE 8 (Config.partSerial % 2 ^ 64))

/-- Step 1 of LOGIN: the part, the status, the session of the reply and what follows the first 4 octets. `ks` of a half-open session holds
K: a new key applies to logins that start after it (18 R513; assumption log 71). -/
def Ctl.loginOne (c : Ctl) (src : VAddr) (m : List Byte) : Ctl × Nat × Nat × List Byte :=
  let b := vosBody m
  if c.lockedOut src then (c, 0x0E, vosSess m, [])
  else if (c.dy.sessions.filter (fun x => decide (x.num ≥ 3))).length ≥ 14 then (c, 0x0D, vosSess m, [])
  else
    let inst := u8At b 1 = 1
    let n := c.freeNum
    let ch := if inst then challengeOf c.draws else List.replicate 32 0
    let s : Sess := { num := n, installer := inst, isOpen := !inst, src := src, ks := if inst then c.bt.installerKey.getD Config.factoryKey else [],
                      challenge := ch, cnonce := slice b 4 16, since := c.up, lastValid := c.up, lastSeq := none, lastReq := [], lastReply := [],
                      xfer := none, subs := [], dropPosted := none }
    let c := (if inst then c.draw else c).setDy (fun d => { d with sessions := d.sessions ++ [s], nextSession := n + 1 })
    (if inst then c else c.post 0x4402 [i8 n, i8 0, i8 src.tr], 0, n, ch)

/-- Step 2 of LOGIN in a half-open session: the part, and the status (assumption log 71). -/
def Ctl.loginTwo (c : Ctl) (src : VAddr) (s : Sess) (m : List Byte) : Ctl × Nat :=
  if c.up ≥ s.since + tS 10 || slice (vosBody m) 4 32 ≠ proofOf s then ((c.closeSess s.num 3).loginFails src, 2)
  else
    let c := c.updSess s.num (fun s => { s with isOpen := true, ks := hmac s.ks (2 :: (s.challenge ++ s.cnonce)), lastValid := c.up, lastSeq := some (leAt m 8 4) })
    let c := c.setLogin { c.login src with fails := 0 }
    (c.post 0x4402 [i8 s.num, i8 1, i8 src.tr], 0)

/-! ### READ and BLOCK_READ (R456, R458) -/

/-- An entry is about to be read: those of the memory controller show its work up to now (14 R422); a Persist Yes entry's home words are read, and
those lost put it at its default (18 R499; assumption log 126). -/
def Ctl.fetchEntry (c : Ctl) (k : Nat) : Ctl :=
  let c := if k / 65536 = 0x50 then c.mcRun else c
  if c.bt.mramErrs.isEmpty then c else
  let had := (aGet c.nv k).isSome
  let c := c.mramUse (fun w => (homeWords k).contains w)
  if had && (aGet c.nv k).isNone then (c.toDefault k).written k (dfltVal k) else c

/-- One result of a READ. -/
def Ctl.readOne (c : Ctl) (b : List Byte) : List Byte :=
  let k := leAt b 0 2 * 256 + u8At b 2
  let ty := (rowOf k).elim 0 (fun r => r.1.code)
  let v := c.entOctets k (bit (u8At b 3) 0)
  let st := c.itemAccess true k false
  let st := if st = 0 && decide (v.length > 64) then 0x0A else st
  if st ≠ 0 then [byteOf st, byteOf ty, 0, 0] else [0, byteOf ty] ++ toLE 2 v.length ++ pad4 v

/-- As many results as fit in `room` octets. -/
def fitting : Nat → List (List Byte) → List (List Byte)
  | _, [] => []
  | room, r :: l => if r.length ≤ room then r :: fitting (room - r.length) l else []

/-- The body of a READ reply. -/
def Ctl.readReply (c : Ctl) (room : Nat) (b : List Byte) : List Byte :=
  let l := fitting (room - 4) ((List.range (u8At b 0)).map (fun i => c.readOne (slice b (4 + 4 * i) 4)))
  [byteOf l.length, 0, 0, 0] ++ l.flatten

/-- Octets of one element of an array, where they are fixed (R447). -/
def elemSize (d : DictRow) : Option Nat := if !d.ty.isOct then some d.ty.size else if d.len.1 = d.len.2 && d.len.1 ≠ 0 then some d.len.1 else none

/-- A whole array as one ARRAY value: status and octets. -/
def Ctl.wholeValue (c : Ctl) (idx : Nat) (active : Bool) : Nat × List Byte :=
  let st := c.itemAccess true (ekey idx 1) false
  match countRow (ekey idx 0), st with
  | none, _ => (if idx ≥ 0x8000 then 2 else 1, [])
  | some d, 0 => (match elemSize d with
    | some _ => (0, [byteOf d.n, byteOf d.ty.code, 0, 0] ++ (List.range d.n).flatMap (fun i => c.entOctets (ekey idx (i + 1)) active))
    | none => (4, []))
  | some _, st => (st, [])

/-- The block header of a reply. -/
def blockHead (b : List Byte) (total len : Nat) : List Byte := b.take 8 ++ toLE 4 total ++ toLE 2 len ++ [0, 0]

/-- A BLOCK_READ: status and body of the reply. -/
def Ctl.blockRead (c : Ctl) (room : Nat) (b : List Byte) : Nat × List Byte :=
  let idx := leAt b 0 2
  let active := bit (u8At b 3) 1
  let off := leAt b 4 4
  let k := ekey idx (u8At b 2)
  let r := if bit (u8At b 3) 0 then c.wholeValue idx active else
    (let st := c.itemAccess true k false; (st, if st = 0 then c.entOctets k active else []))
  if r.1 ≠ 0 then (r.1, blockHead b 0 0)
  else if off > r.2.length then (5, blockHead b r.2.length 0)
  else
    let seg := slice r.2 off (min (leAt b 12 2) (room - 16))
    (0, blockHead b r.2.length seg.length ++ seg)

/-! ### BLOCK_WRITE (R458, R459) -/

/-- A stream entry. -/
def isStream (k : Nat) : Bool := k = 0x410204 || k / 256 = 0x5218 || k = 0x110503

/-- TOTAL not declared. -/
def noTotal : Nat := 0xFFFFFFFF

/-- What the first segment of a transfer is refused with: 0 when it opens (assumption log 72). -/
def firstSeg (k : Nat) (whole : Bool) (total : Nat) (seg : List Byte) : Nat :=
  if total = noTotal then (if !whole && isStream k then 0 else 5)
  else if whole then (match (countRow k) with
    | none => 1
    | some d => match elemSize d with
      | none => 4
      | some z => if u8At seg 1 ≠ d.ty.code then 4 else if u8At seg 0 ≠ d.n then 5 else if total > 4 + d.n * z then 5 else 0)
  else match dictRow k with
    | none => 1
    | some d => if total > (if d.ty.isOct then d.len.2 else d.ty.size) then 5 else 0

/-- The items of a complete value: one, or an array's elements. -/
def xferItems (k : Nat) (whole : Bool) (v : List Byte) : List WItem :=
  if whole then (match countRow k with
    | some d =>
      let z := (elemSize d).getD 0
      (List.range d.n).map (fun i => ⟨k + 1 + i, d.ty.code, slice v (4 + z * i) z⟩)
    | none => [])
  else [⟨k, (dictRow k).elim 10 (fun d => d.ty.code), v⟩]

/-- A segment that its stream entry refuses ends the operation too (R459; assumption log 72). -/
def Ctl.streamRefused (c : Ctl) (k st : Nat) : Ctl :=
  if st ≠ 5 then c else if k = 0x410204 then c.loadFail 0x20 0x100
  else if k = 0x110503 then (match c.bt.fwLoad with
    | some l => c.fwEnds l 0x20
    | none => c)
  else c

/-- The entry itself defines the end of its stream (R459): LOAD and FW END and ABORT end an open transfer to LOAD_DATA or to the firmware. -/
def Ctl.streamEnds (c : Ctl) (l : List WItem) : Ctl :=
  let ends := fun (k : Nat) => (k = 0x410204 && l.any (fun w => w.key = 0x410203 && (leAt w.val 0 1 = 2 || leAt w.val 0 1 = 3))) ||
    (k = 0x110503 && l.any (fun w => w.key = 0x110501 && (leAt w.val 0 1 = 2 || leAt w.val 0 1 = 3)))
  c.setDy (fun d => { d with sessions := d.sessions.map (fun s => if s.xfer.any (fun x => ends x.key) then { s with xfer := none } else s) })

/-- One accepted segment (R458, R459): the transfer as it stood, with it; the part and the status (assumption log 72). -/
def Ctl.segment (c : Ctl) (s : Sess) (store : Bool) (x : Xfer) (seg : List Byte) : Ctl × Nat :=
  let ended := fun (c : Ctl) => c.updSess s.num (fun s => { s with xfer := none })
  let x := { x with got := x.got + seg.length, lastAt := c.up }
  let full := x.total ≠ noTotal && x.got = x.total
  if !x.whole && isStream x.key then
    let r := c.writeItems s.installer true store [⟨x.key, 10, seg⟩]
    if r.2.1 ≠ 0 then (ended (r.1.streamRefused x.key r.2.1), r.2.1)
    else (r.1.updSess s.num (fun s => { s with xfer := if full then none else some x }), 0)
  else
    let x := { x with data := x.data ++ seg }
    if !full then (c.updSess s.num (fun s => { s with xfer := some x }), 0)
    else
      let items := xferItems x.key x.whole x.data
      let size := (countRow x.key).elim 0 (fun d => 4 + d.n * (elemSize d).getD 0)
      if x.whole && (x.data.length ≠ size || leAt x.data 2 2 ≠ 0) then (ended c, 5)
      else let r := c.writeItems s.installer true store items; (ended r.1, r.2.1)

/-- A BLOCK_WRITE: the part, the status (assumption log 72). -/
def Ctl.blockWrite (c : Ctl) (s : Sess) (store : Bool) (b : List Byte) : Ctl × Nat :=
  let whole := bit (u8At b 3) 0
  let k := ekey (leAt b 0 2) (if whole then 0 else u8At b 2)
  let seg := b.drop 16
  let off := leAt b 4 4
  match s.xfer with
  | some x =>
    if x.key ≠ k || x.whole ≠ whole then
      let st := c.itemAccess s.installer (if whole then k + 1 else k) true
      (c, if st ≠ 0 then st else 0x0C)
    else if off ≠ x.got || (x.total ≠ noTotal && decide (x.got + seg.length > x.total)) then (c, 0x0B)
    else c.segment s store x seg
  | none =>
    let total := leAt b 8 4
    let st := c.itemAccess s.installer (if whole then k + 1 else k) true
    let st := if st ≠ 0 then st else if off ≠ 0 then 0x0B else firstSeg k whole total seg
    if st ≠ 0 then (c, st) else if total ≠ noTotal && decide (seg.length > total) then (c, 0x0B)
    else c.segment s store ⟨k, whole, total, [], 0, c.up⟩ seg

/-- BLOCK_TRANSFER_ABANDON: no segment for 10 s. -/
def Ctl.xferTimeout (c : Ctl) (n : Nat) : Ctl :=
  match (c.sess n).bind Sess.xfer with
  | some x => if c.up ≥ x.lastAt + tS 10 then (c.xferLost x).updSess n (fun s => { s with xfer := none }) else c
  | none => c

/-! ### SUBSCRIBE (R464) -/

/-- Octets for the content of an EVENT message of a session: after header, the first 8 octets and a MAC. -/
def eventRoom (s : Sess) : Nat := vosMax s.src.tr - 24 - (if s.ks.isEmpty then 0 else 16)

/-- What a SUBSCRIBE is refused with (assumption log 73). -/
def Ctl.subStatus (c : Ctl) (s : Sess) (b : List Byte) : Nat :=
  let kind := u8At b 1
  let k := ekey (leAt b 2 2) (u8At b 4)
  let per := leAt b 6 2
  let long := (dictRow k).elim 1 (fun d => if d.ty.isOct then d.len.2 else d.ty.size)
  let total : Nat := (c.dy.sessions.map (fun x => x.subs.length)).foldl (· + ·) 0
  let st := if kind = 1 ∨ kind = 2 then c.itemAccess s.installer k false else 0
  if st ≠ 0 then st
  else if u8At b 0 > 15 ∨ kind > 3 then 5
  else if kind = 3 ∧ u8At b 5 ≥ 128 then 5
  else if kind = 1 ∧ (per < 10 ∨ per > 60000) then 5
  else if kind = 2 ∧ per > 60000 then 5
  else if kind = 2 ∧ long > 64 then 0x0A
  else if kind = 1 ∧ long + 12 > eventRoom s then 0x0A
  else if kind ≠ 0 && !(s.subs.any (fun u => u.id = u8At b 0)) && decide (total ≥ 64) then 0x0D
  else 0

/-- SUBSCRIBE: create, replace or cancel (assumption log 73). -/
def Ctl.subscribe (c : Ctl) (s : Sess) (src : VAddr) (b : List Byte) : Ctl × Nat :=
  let st := c.subStatus s b
  if st ≠ 0 then (c, st) else
  let u : Sub := { id := u8At b 0, kind := u8At b 1, key := ekey (leAt b 2 2) (u8At b 4), queue := u8At b 5, period := leAt b 6 2, dest := src,
                   nseq := 0, last := none, sentAt := c.up, recs := [] }
  (c.updSess s.num (fun s => { s with subs := s.subs.filter (fun x => x.id ≠ u.id) ++ (if u.kind = 0 then [] else [u]) }), 0)

/-! ### A request that has passed checks 1 to 7 -/

/-- The part serves a request in a session (none when sessionless): the part, STATUS and body of the reply. -/
def Ctl.serve (c : Ctl) (store : Bool) (src : VAddr) (s : Option Sess) (room : Nat) (m : List Byte) : Ctl × Nat × List Byte :=
  let b := vosBody m
  let t := u8At m 1
  if t = 1 then
    let c := (List.range (u8At b 0)).foldl (fun c i => c.fetchEntry (leAt b (4 + 4 * i) 2 * 256 + u8At b (6 + 4 * i))) c
    (c, 0, c.readReply room b)
  else if t = 3 then
    let c := c.fetchEntry (ekey (leAt b 0 2) (u8At b 2))
    let r := c.blockRead room b
    (c, r.1, r.2)
  else match s with
  | none => (c, 9, [])
  | some s =>
    if t = 2 then
      let l := (wItems (u8At b 0) (b.drop 4)).getD []
      let r := c.writeItems s.installer false store l
      let c := match l[r.2.2]? with
        | some w => if isStream w.key then r.1.streamRefused w.key r.2.1 else r.1
        | none => r.1
      let c := if r.2.1 = 0 then c.streamEnds l else c
      (c, r.2.1, [byteOf r.2.2, 0, 0, 0])
    else if t = 4 then let r := c.blockWrite s store b; (r.1, r.2, b.take 16)
    else if t = 5 then let r := c.subscribe s src b; (r.1, r.2, [])
    else if u8At b 0 = 2 then (c.discard, 0, [])
    else match c.commit with
      | (c, some r) => (c, 0, toLE 4 r.1 ++ toLE 8 r.2.1 ++ toLE 8 r.2.2)
      | (c, none) => (c, 0x0D, [])

/-- A reply to a message. -/
def vosReply (m : List Byte) (sess status : Nat) (body ks : List Byte) : List Byte :=
  vosMsg (u8At m 1) 1 status sess (leAt m 8 4) (u8At m 12) body ks

/-- SEQ and body of a request, as R454 compares them. -/
def vosSame (m : List Byte) : List Byte := slice m 8 4 ++ vosBody m

/-- The reply to a request of a session is sent and kept (R454; assumption log 71). -/
def Ctl.answer (c : Ctl) (src : VAddr) (m : List Byte) (n : Nat) (reply : List Byte) : Ctl :=
  (c.updSess n (fun s => { s with lastReq := vosSame m, lastReply := reply })).vosSend src reply

/-- A message in a session that is open, or in none, after check 4; a write of BOOT_CMD RESTART is answered over UDP only, since its reset
ends the other transports. (R454, R455 checks 5 to 15, R461). The repeat of a step 2 is one
that carries no MAC (R460; assumption log 71). -/
def Ctl.vosIn (c : Ctl) (store : Bool) (src : VAddr) (s : Option Sess) (own : Bool) (m : List Byte) : Ctl :=
  let ks := s.elim [] Sess.ks
  let n := s.elim 0 Sess.num
  let mac := bit (u8At m 2) 1
  let len := 16 + leAt m 6 2
  let again := s.any (fun s => !s.lastReply.isEmpty && s.lastReq = vosSame m)
  let stepTwo := u8At m 1 = 7 && u8At m 16 = 2 && !mac
  if again && stepTwo then c.vosSend src (s.elim [] Sess.lastReply)
  else if !ks.isEmpty && !(mac && slice m len 16 = (hmac ks (m.take len)).take 16) then c.incE 0x54000B
  else if ks.isEmpty && mac then c.vosSend src (vosReply m n 6 [] [])
  else if again then c.vosSend src (s.elim [] Sess.lastReply)
  else if s.any (fun s => s.installer && s.lastSeq.any (fun q => decide (toSigned 32 (leAt m 8 4 + 2 ^ 32 - q) ≤ 0))) then c.incE 0x54000B
  else
    let c := c.updSess n (fun s => { s with lastSeq := if s.installer then some (leAt m 8 4) else s.lastSeq, lastValid := c.up })
    if !own then c.answer src m n (vosReply m n 0x11 [] ks)
    else if u8At m 1 = 7 then
      let head := (vosBody m).take 4
      if u8At m 16 = 1 then let r := c.loginOne src m; r.1.answer src m n (vosReply m r.2.2.1 r.2.1 (head ++ r.2.2.2) ks)
      else if u8At m 16 = 2 then c.answer src m n (vosReply m n 9 head ks)
      else if n = 0 then c.vosSend src (vosReply m 0 9 head [])
      else if n < 3 then c.answer src m n (vosReply m n 2 head ks)
      else (c.closeSess n 0).vosSend src (vosReply m n 0 head ks)
    else
      let r := c.serve store src (c.sess n) (vosMax src.tr - 16 - (if ks.isEmpty then 0 else 16)) m
      let reply := vosReply m n r.2.1 r.2.2 ks
      if r.1.dy.serving then r.1.answer src m n reply else if src.tr = 0 then r.1.vosSend src reply else r.1

/-! ### Relaying (R470, R471) -/

/-- The part relays for its ring: head or standby head. -/
def Ctl.relays (c : Ctl) : Bool := c.e 0x210002 = 1 || c.e 0x210002 = 3

/-- The ring port on which a position is reached: East for a greater one, the other port where that one is not up. -/
def Ctl.portTo (c : Ctl) (pos : Nat) : Option Nat :=
  let p := if pos > c.e 0x210003 then 0 else 1
  if c.portUp p then some p else if c.portUp (1 - p) then some (1 - p) else none

/-- A message for another position of the ring (R471; assumption log 71). -/
def Ctl.relay (c : Ctl) (src : VAddr) (m : List Byte) : Ctl :=
  let pos := u8At m 12
  let open_ := c.dy.relays.filter (fun r => decide (c.up < r.since + tS 1))
  let c := c.setDy (fun d => { d with relays := open_ })
  match (if m.length ≤ 240 && pos < c.e 0x210004 then c.portTo pos else none) with
  | none => c.vosSend src (vosReply m (vosSess m) 0x11 [] [])
  | some p =>
    if open_.length ≥ 64 then c.vosSend src (vosReply m (vosSess m) 0x0D [] [])
    else (c.setDy (fun d => { d with relays := d.relays ++ [⟨src, pos, vosSess m, leAt m 8 4, c.up⟩] })).sideSend p 9 pos m

/-- RELAY_REPLY: a message of TYPE 0x09 from position `pos` that is a reply or an EVENT goes to the UDP source (R471). -/
def Ctl.relayReply (c : Ctl) (pos : Nat) (m : List Byte) : Ctl :=
  let login := u8At m 1 = 7
  let isIt := fun (r : Relay) => r.target = pos && r.seq = leAt m 8 4 && (login || r.session = vosSess m) && decide (c.up < r.since + tS 1)
  let path := fun (r : Relay) => r.target = pos && r.session = vosSess m
  if m.length < 16 ∨ m.length > 240 then c
  else if u8At m 1 = 8 then (match c.dy.paths.find? path with
    | some r => c.vosSend r.src m
    | none => c)
  else if !bit (u8At m 2) 0 then c
  else match c.dy.relays.find? isIt with
    | some r =>
      let keep := u8At m 1 = 5 && u8At m 3 = 0
      (c.setDy (fun d => { d with relays := d.relays.filter (fun x => x ≠ r),
                                  paths := if keep then d.paths.filter (fun x => !path x) ++ [r] else d.paths })).vosSend r.src m
    | none => c

/-- RELAY_TIMEOUT: relays without a reply for 1 s are dropped. -/
def Ctl.relayTimeout (c : Ctl) : Ctl := c.setDy (fun d => { d with relays := d.relays.filter (fun r => decide (c.up < r.since + tS 1)) })

/-! ### Arrival (R451, R453, R455 checks 1 to 4) -/

/-- Check 4: the session a message names is open on its transport, or is 0 where R453 allows it; a mailbox has its own fixed session only
(17 R489); a LOGIN step 2 may name a half-open session. -/
def Ctl.sessOk (c : Ctl) (src : VAddr) (m : List Byte) : Bool :=
  let n := vosSess m
  let t := u8At m 1
  if n = 0 then t = 1 || t = 3 || t = 7
  else (c.sess n).any (fun s => sameTr s.src src && (src.tr ≠ 2 || n = src.a + 1) && (s.isOpen || (t = 7 && u8At m 16 = 2)))

/-- The key of the session that a message names, where that is an open one on its transport: what the part sends in an Installer session carries
a MAC (R461). -/
def Ctl.keyFor (c : Ctl) (src : VAddr) (n : Nat) : List Byte := match c.sess n with
  | some s => if s.isOpen && sameTr s.src src && (src.tr ≠ 2 || n = src.a + 1) then s.ks else []
  | none => []

/-- A Vostan message arrives (R454, R455). -/
def Ctl.vostan (c : Ctl) (store : Bool) (src : VAddr) (m : List Byte) : Ctl :=
  let n := vosSess m
  let t := u8At m 1
  let own := u8At m 12 = 0xFE || (decide (u8At m 12 < 64) && u8At m 12 = c.e 0x210003)
  let ks := if own then c.keyFor src n else []
  if !c.dy.serving || c.ea 0x1580 0 ≠ 0 || (c.tadpole && src.tr ≠ 0) then c
  else if m.length < 16 || decide (m.length > vosMax src.tr) || bit (u8At m 2) 0 || t = 8 then c
  else if u8At m 0 ≠ 1 then c.vosSend src (vosReply m n 7 [] ks)
  else if t = 0 || decide (t > 7) then c.vosSend src (vosReply m n 8 [] ks)
  else if !vosFormat m then c.vosSend src (vosReply m n 6 [] ks)
  else if !own && src.tr = 0 && c.relays then c.relay src m
  else if !c.sessOk src m then c.vosSend src (vosReply m n 9 [] [])
  else match c.sess n with
    | none => c.vosIn store src none own m
    | some s =>
      if s.isOpen then c.vosIn store src (some s) own m
      else if bit (u8At m 2) 1 then c.vosSend src (vosReply m n 6 [] [])
      else if !own then c.vosSend src (vosReply m n 0x11 [] [])
      else
        let r := c.loginTwo src s m
        let ks := if r.2 = 0 then ((r.1.sess n).elim [] Sess.ks) else []
        r.1.answer src m n (vosReply m n r.2 ((vosBody m).take 4) ks)

/-! ### Timers of sessions (R460, R462, R463) -/

/-- LOGIN_CHALLENGE_TIMEOUT: 10 s after the challenge without a correct proof (assumption log 74). -/
def Ctl.challengeTimeout (c : Ctl) (n : Nat) : Ctl :=
  match c.sess n with
  | some s => if s.isOpen || decide (c.up < s.since + tS 10) then c
    else ((c.closeSess n 3).incE 0x54000C).post 0x4441 [srcItem s.src]
  | none => c

/-- SESSION_TIMEOUT. -/
def Ctl.sessionTimeout (c : Ctl) (n : Nat) : Ctl :=
  match c.sess n with
  | some s => if n < 3 || !s.isOpen || decide (c.up < s.lastValid + tS (c.e 0x540002)) then c else c.closeSess n 1
  | none => c

/-- LOCKOUT_EXPIRY. -/
def Ctl.lockoutEnds (c : Ctl) (a : VAddr) : Ctl :=
  if (c.login a).until_.any (fun t => decide (t ≤ c.up)) then c.setLogin { c.login a with until_ := none } else c

/-! ### Notifications (R464, R465) -/

/-- A subscription of a session. -/
def Ctl.sub (c : Ctl) (n id : Nat) : Option (Sess × Sub) := (c.sess n).bind (fun s => (s.subs.find? (fun u => u.id = id)).map (fun u => (s, u)))

/-- Change a subscription. -/
def Ctl.updSub (c : Ctl) (n id : Nat) (f : Sub → Sub) : Ctl :=
  c.updSess n (fun s => { s with subs := s.subs.map (fun u => if u.id = id then f u else u) })

/-- The notification buffer takes an EVENT message; NOTIFY_READY is set and vector 64 sent (17 R489). -/
def Ctl.mbxNote (c : Ctl) (fn : Nat) (m : List Byte) : Ctl :=
  (({ c with hi := { c.hi with mbxNote := setAt c.hi.mbxNote fn m } }).setReg .hiMbxCtrl fn 3 1).msixSend fn 64

/-- An EVENT message goes out, or is dropped and counted when the egress queue is full or the notification buffer is not free. `count` is
what NSEQ advances by; it wraps at 2^32 (assumption log 73). -/
def Ctl.notify (c : Ctl) (full : Bool) (s : Sess) (u : Sub) (records count : Nat) (content : List Byte) : Ctl :=
  let seq := (u.nseq + count) % 2 ^ 32
  let c := c.updSub s.num u.id (fun u => { u with nseq := seq })
  let body := [byteOf u.id, byteOf u.kind, byteOf records, 0] ++ toLE 4 seq ++ content
  let m := vosMsg 8 0 0 s.num 0 0xFE body s.ks
  let full := full || (u.dest.tr = 2 && c.reg .hiMbxCtrl u.dest.a 3 = 1) ||
    (u.dest.tr = 1 && decide (sideOctetsHeld ((c.drainPort u.dest.p).rgPort u.dest.p).side + m.length + 6 > 16384))
  if full then
    let c := c.incE 0x54000D
    if s.dropPosted.any (fun t => decide (c.up < t + tS 1)) then c
    else (c.updSess s.num (fun s => { s with dropPosted := some c.up })).post 0x4442 [i8 s.num, i8 u.id]
  else if u.dest.tr = 2 then c.mbxNote u.dest.a m
  else c.vosSend u.dest m

/-- The content of kinds 1 and 2: TYPE, LEN, SAMPLE_TICK and the value; a staged entry reports its active copy. -/
def Ctl.sample (c : Ctl) (k : Nat) : List Byte :=
  let v := c.entOctets k true
  [byteOf ((rowOf k).elim 0 (fun r => r.1.code)), 0] ++ toLE 2 v.length ++ toLE 8 c.now ++ v

/-- CYCLIC_NOTIFY: the period has passed (assumption log 73). -/
def Ctl.cyclic (c : Ctl) (n id : Nat) (full : Bool) : Ctl :=
  match c.sub n id with
  | some (s, u) => if u.kind ≠ 1 || decide (c.up < u.sentAt + tMs u.period) then c
    else
      let c := c.fetchEntry u.key
      (c.updSub n id (fun u => { u with sentAt := c.up })).notify full s u 1 1 (c.sample u.key)
  | none => c

/-- ON_CHANGE_NOTIFY: the value differs from the one last sent, and the gap has passed (assumption log 73). -/
def Ctl.onChange (c : Ctl) (n id : Nat) (full : Bool) : Ctl :=
  match c.sub n id with
  | some (s, u) =>
    let c := if u.kind = 2 then c.fetchEntry u.key else c
    let v := c.entRead u.key true
    if u.kind ≠ 2 || u.last = some v || (u.last.isSome && decide (c.up < u.sentAt + tMs u.period)) then c
    else (c.updSub n id (fun u => { u with sentAt := c.up, last := some v })).notify full s u 1 1 (c.sample u.key)
  | none => c

/-- EVENT_BATCH_SEND: the message is full, or 1 ms has passed since its first record (assumption log 73). -/
def Ctl.eventBatch (c : Ctl) (n id : Nat) (full : Bool) : Ctl :=
  match c.sub n id with
  | some (s, u) =>
    let room := min 255 (eventRoom s / 16)
    let l := u.recs.take room
    let due := decide (u.recs.length ≥ room) || (u.recs.head?.any (fun r => decide (tickD c.now r.tick ≥ (tMs 1 : Nat))))
    if u.kind ≠ 3 || l.isEmpty || !due then c
    else (c.updSub n id (fun u => { u with recs := u.recs.drop room })).notify full s u l.length l.length (l.flatMap EvRec.octets)
  | none => c

/-! ### A control pair restarts (18 R497) -/

/-- CP-A's duties after its restart (assumption log 74). -/
def Ctl.cpaBack (c : Ctl) : Ctl :=
  let c := (c.loadJobEnds none).loadEnds true
  let c := c.dy.sessions.foldl (fun c s => c.closeSess s.num 2) c
  let c := c.setDy (fun d => { d with relays := [], paths := [] })
  let c := (List.range 2).foldl (fun c i => if (c.slot i).st = 1 || (c.slot i).st = 2 then c.setSlot i (fun _ => {}) else c) c
  let c := match c.bt.fwLoad with
    | none => c
    | some l => (c.setBt (fun b => { b with fwLoad := none })).writeBoot (fun r => r.setSlot l.slot 0)
  let c := (c.storeFails).ckOwner false
  c.enumCatchUp

/-- The code of the slot that the part started from has its hash (R497, R505). -/
def Ctl.codeOk (c : Ctl) : Bool :=
  let b := c.fwSlot c.bt.running
  c.tadpole || sha256 (slice b 256 (leAt b 8 4)) = slice b 16 32

/-- CP_RESTART_DONE: the pair has reloaded its code and runs again; it does not where the code fails its hash (R497; assumption log 85; assumption log 74, 126; assumption log 126). -/
def Ctl.cpBack (c : Ctl) (p : Nat) : Ctl :=
  if p > 1 || c.ea 0x1580 p ≠ 1 then c else
  let c := c.mramUse (fun w => (if c.bt.running = 0 then 0x58000 else 0x64000) ≤ w && decide (w < if c.bt.running = 0 then 0x64000 else 0x70000))
  if !c.codeOk then c else
  let c := ((c.setEa 0x1580 p 0).incEa 0x1581 p).post 0x0531 [i8 p]
  if p = 0 then c.cpaBack else c.histCopy

/-! ### The commands -/

/-- A message is taken by the command of its row. -/
def Ctl.vosRun (c : Ctl) (row : Nat) (store : Bool) (src : VAddr) (m : List Byte) : Ctl := if vosRow m = row then c.vostan store src m else c

/-- VOSTAN_READ: also the messages that no other row of the table names (assumption log 70). -/
def execVostanRead (dt : Nat) (src : VAddr) (msg : List Byte) (mr : List (Nat × Nat)) (s : State) : Host.Outcome State Fault Refusal :=
  runC (fun c => ((c.advance dt).mramFlip mr).vosRun 1 true src msg) s
/-- VOSTAN_WRITE. -/
def execVostanWrite (dt : Nat) (src : VAddr) (msg : List Byte) (store : Bool) (s : State) : Host.Outcome State Fault Refusal :=
  runF (fun c => (c.advance dt).vosRun 2 store src msg) s
/-- BLOCK_READ. -/
def execBlockRead (dt : Nat) (src : VAddr) (msg : List Byte) (s : State) : Host.Outcome State Fault Refusal :=
  runC (fun c => (c.advance dt).vosRun 3 true src msg) s
/-- BLOCK_WRITE. -/
def execBlockWrite (dt : Nat) (src : VAddr) (msg : List Byte) (store : Bool) (s : State) : Host.Outcome State Fault Refusal :=
  runF (fun c => (c.advance dt).vosRun 4 store src msg) s
/-- BLOCK_TRANSFER_ABANDON. -/
def execBlockTransferAbandon (dt session : Nat) (s : State) : Host.Outcome State Fault Refusal := runC (fun c => (c.advance dt).xferTimeout session) s
/-- SUBSCRIBE. -/
def execSubscribe (dt : Nat) (src : VAddr) (msg : List Byte) (s : State) : Host.Outcome State Fault Refusal :=
  runC (fun c => (c.advance dt).vosRun 5 true src msg) s
/-- COMMIT. -/
def execCommit (dt : Nat) (src : VAddr) (msg : List Byte) (s : State) : Host.Outcome State Fault Refusal :=
  runC (fun c => (c.advance dt).vosRun 6 true src msg) s
/-- COMMIT_DISCARD. -/
def execCommitDiscard (dt : Nat) (src : VAddr) (msg : List Byte) (s : State) : Host.Outcome State Fault Refusal :=
  runC (fun c => (c.advance dt).vosRun 9 true src msg) s
/-- LOGIN_CHALLENGE. -/
def execLoginChallenge (dt : Nat) (src : VAddr) (msg : List Byte) (s : State) : Host.Outcome State Fault Refusal :=
  runC (fun c => (c.advance dt).vosRun 11 true src msg) s
/-- LOGIN_PROOF. -/
def execLoginProof (dt : Nat) (src : VAddr) (msg : List Byte) (s : State) : Host.Outcome State Fault Refusal :=
  runC (fun c => (c.advance dt).vosRun 12 true src msg) s
/-- LOGIN_LOGOUT. -/
def execLoginLogout (dt : Nat) (src : VAddr) (msg : List Byte) (s : State) : Host.Outcome State Fault Refusal :=
  runC (fun c => (c.advance dt).vosRun 13 true src msg) s
/-- LOGIN_CHALLENGE_TIMEOUT. -/
def execLoginChallengeTimeout (dt session : Nat) (s : State) : Host.Outcome State Fault Refusal :=
  runC (fun c => (c.advance dt).challengeTimeout session) s
/-- SESSION_TIMEOUT. -/
def execSessionTimeout (dt session : Nat) (s : State) : Host.Outcome State Fault Refusal := runC (fun c => (c.advance dt).sessionTimeout session) s
/-- LOCKOUT_EXPIRY. -/
def execLockoutExpiry (dt : Nat) (src : VAddr) (s : State) : Host.Outcome State Fault Refusal := runC (fun c => (c.advance dt).lockoutEnds src) s
/-- CYCLIC_NOTIFY. -/
def execCyclicNotify (dt session sub : Nat) (full : Bool) (s : State) : Host.Outcome State Fault Refusal :=
  runC (fun c => (c.advance dt).cyclic session sub full) s
/-- ON_CHANGE_NOTIFY. -/
def execOnChangeNotify (dt session sub : Nat) (full : Bool) (s : State) : Host.Outcome State Fault Refusal :=
  runC (fun c => (c.advance dt).onChange session sub full) s
/-- EVENT_BATCH_SEND. -/
def execEventBatchSend (dt session sub : Nat) (full : Bool) (s : State) : Host.Outcome State Fault Refusal :=
  runC (fun c => (c.advance dt).eventBatch session sub full) s
/-- RELAY_REPLY. -/
def execRelayReply (dt pos : Nat) (msg : List Byte) (s : State) : Host.Outcome State Fault Refusal := runC (fun c => (c.advance dt).relayReply pos msg) s
/-- RELAY_TIMEOUT. -/
def execRelayTimeout (dt : Nat) (s : State) : Host.Outcome State Fault Refusal := runC (fun c => (c.advance dt).relayTimeout) s
/-- CP_RESTART_DONE. -/
def execCpRestartDone (dt pair : Nat) (s : State) : Host.Outcome State Fault Refusal := runC (fun c => (c.advance dt).cpBack pair) s
/-- BOOT_CLEAR_SETTINGS. -/
def execBootClearSettings (dt : Nat) (s : State) : Host.Outcome State Fault Refusal := runC (fun c => (c.advance dt).clearSettings) s

end Sys2Proof.Machine
end

