-- ==== Sys2Proof/Machine/Flips.lean ====
section
/-! DEFINITION. FRAME_FLIP (00 R15): at flip n frame n becomes visible and frame n + 1 begins. The compare events of the instant take effect
in the order of 13 R380: the activation, the commit records, the rate change; then every subsystem starts its next frame. -/
namespace Sys2Proof.Machine

/-- The rate change of this flip: none, or RATE_NEXT where FC is due and the image that is now active runs at it (13 R385, R386). -/
def Ctl.rateDue (c : Ctl) (n : Nat) : Option RateChange := c.tb.rateChange.bind (fun r => if r.fcIndex ≤ n then some r else none)

/-- The change does not take place: the active image runs at another rate (13 R386; assumption log 44). -/
def Ctl.rateBad (c : Ctl) (r : RateChange) : Bool := c.hasImage && decide (imgRate c.img ≠ r.rate)

/-- Rate that governs the frame that begins at flip `n`. -/
def Ctl.rateFrom (c : Ctl) (n : Nat) : Nat := match c.rateDue n with
  | some r => if c.rateBad r then c.e 0x230006 else r.rate
  | none => c.e 0x230006

/-- RATE_CHANGE at FC (13 R385, R386; assumption log 44). -/
def Ctl.rateFlip (c : Ctl) (n : Nat) : Ctl :=
  match c.rateDue n with
  | none => c
  | some r =>
    if c.rateBad r then c.clearRate.post 0x1381 [(64, imgId c.img)]
    else
      let c := (((c.clearRate.keepE 0x230007 r.fcTick).keepE 0x230015 r.fcIndex).keepE 0x230006 r.rate)
      c.post 0x1303 [i32 r.rate]

/-- What an activation does to the subsystems (03 R99, R100): `old` is the part before it, `rate` the rate of the frame that begins (assumption log 47). -/
def Ctl.activated (c old : Ctl) (rate : Nat) : Ctl :=
  let c := c.dropImgStaged
  let c := ((c.ringActivate old.tileIndex ((List.range 2).map (fun p => old.lanesInForce p false))).dcActivate old).plActivate
  let was := c.e 0x230006
  let c := ((c.setE 0x230006 rate).esActivate).setE 0x230006 was
  (c.cullCheck.pdActivate).enActivate

/-- The activation, the commit records and the rate change of flip `n` (13 R380; assumption log 44). -/
def Ctl.flipEvents (c : Ctl) (n tick : Nat) (store : Bool) : Ctl :=
  let runs := (c.actDue tick).isSome && !c.isSafe
  let c1 := c.actFlip n tick
  let rate := c1.rateFrom n
  let c2 := if runs then let c := c1.activated c rate; c.slotsStart ((List.range 6).map (planTable (imgSec c.img 6))) else c1
  ((c2.runCommits store tick rate).showStreams).rateFlip n

/-- The frame that ends at a flip: Easel's is judged by the image that made it (06 R199), and each subsystem may post its warnings and
errors again (06 R208, 07 R237; assumption log 46). -/
def Ctl.frameEnds (c : Ctl) : Ctl := (c.esFinish.setEs (fun e => { e with posted := [] })).setPl (fun p => { p with posted := [] })

/-- Easel's start of frame `n` + 1 before Palette hands over: Brushes return, slots are shed (06 R186, R207; assumption log 46). -/
def Ctl.easelTurn (c : Ctl) (n : Nat) : Ctl :=
  let c := c.brushesBack
  if c.esMakes (n + 1) then c.shedStart else c

/-- Palette settles frame `n` + 1, hands it to Easel and to the encoder, and releases what no descriptor names (07 R223; assumption log 46). -/
def paletteTurn (n reached : Nat) (m : Mem) (c : Ctl) : Mem × Ctl :=
  let q := c.settleSlots (n + 1) c.ownKeep
  let k := settleMask (n + 1) reached (c.e 0x400007) m q.1
  let c := (k.2.1.showFrames.plForget n).setEn (fun e => { e with descs := q.2 })
  let c := (c.dropHeld q.2).releaseRecs (q.2.flatMap PlDesc.recs)
  let c := if c.esMakes (n + 1) then c.esStart (n + 1) q.2 k.2.2 else c
  let g := gridsFlip n k.1 c
  (g.1, g.2.ingestBegin (n + 2))

/-- Everything that flip `n` does (assumption log 46). -/
def flipAll (n reached : Nat) (store : Bool) (cut : Option MramCut) (bad : List Nat) (m : Mem) (c : Ctl) : Mem × Ctl :=
  let tick := c.tn n
  let r := enFlip n m c
  let m := r.1
  let c := r.2.watchFlip n
  if c.fm.wdReset || c.fm.pairOutAt.any (fun t => decide (c.up ≥ t + tS 1)) then (m, c.warmReset 6 cut) else
  let c := c.frameEnds.flipEvents n tick store
  let q := dcFlip n m c
  let p := paletteTurn n reached q.1 (q.2.glazeFlip.easelTurn n)
  let c := p.2.setTb (fun t => { t with nextIndex := n + 1 })
  let c := (Ctl.pdFlip bad c n).ringFlip
  let c := c.setFm (fun f => { f with frameHold := f.withholdNext, withholdNext := none })
  (p.1, c.mcRun.showIslands)

/-- FRAME_FLIP: the next flip is issued and its instant has come (assumption log 46). -/
def frameFlip (reached : Nat) (store : Bool) (cut : Option MramCut) (bad : List Nat) (m : Mem) (c : Ctl) : Mem × Ctl :=
  if !c.tb.issuing || !c.due c.nextTick then (m, c) else flipAll c.nextFlip reached store cut bad m c

/-- FRAME_FLIP: `reached` entries of the cull planner's second walk where it has not finished; `store`: the MRAM store works; `cut`: the
MRAM transaction that a reset at this instant meets; `bad`: scan blocks that fail the check of panel drive as its load begins. -/
def execFrameFlip (dt reached : Nat) (store : Bool) (cut : Option MramCut) (bad : List Nat) (ue : List DramErr) (s : State) :
    Host.Outcome State Fault Refusal :=
  runM (fun m c => frameFlip reached store cut bad (m.found ue) (c.advance dt)) s

end Sys2Proof.Machine
end

