-- ==== Sys2Proof/Machine/Host.lean ====
section
/-! DEFINITION. The host interface (17): resets of the PCIe side, the mailbox, commits from PF0, job queues and the DMA engine, and the
DRAM window. Functions are 0 PF0 and 1 PF1. -/
namespace Sys2Proof.Machine

/-! ### What the endpoint is (R476) -/

/-- The identity of one function in its configuration space (R476). -/
structure PcieIdentity where
  vendor : Nat
  device : Nat
  classCode : Nat
  vectors : Nat
  maxPayload : Nat
  maxRead : Nat
  tagBits : Nat
  deriving DecidableEq, Repr

/-- The identity that a function shows; the vendor is the one that HI_LINK_STATUS reads (R476; assumption log 60). -/
def endpoint (fn : Nat) : PcieIdentity :=
  { vendor := Config.vendorId % 65536, device := 0x7400 + fn, classCode := 0x048000, vectors := 65, maxPayload := 512, maxRead := 4096, tagBits := 10 }

/-- Widths and speed codes to which the link trains (R476): 2.5, 5.0, 8.0 and 16.0 GT/s (assumption log 60). -/
def linkTrains (width speed : Nat) : Bool := [1, 2, 4, 8].contains width && decide (1 ≤ speed) && decide (speed ≤ 4)

/-! ### Resets and the link (R477, R492) -/

/-- What a reset of the host interface does to one function (assumption log 64). -/
def Ctl.fnReset (c : Ctl) (fn : Nat) : Ctl :=
  let qs := ((List.range 64).map (· + 64 * fn)).filter (fun q => c.reg .hiEqCfg q 0 = 1)
  let c := qs.foldl (fun c q => c.setReg .hiEqCfg q 0 0) c
  let c := if fn = 0 then (c.setReg .hiJqCfg 0 0 0).setReg .hiJqCfg 1 0 0 else c
  let c := ((c.setReg .hiMbxCtrl fn 2 0).setReg .hiMbxCtrl fn 3 0).setReg .hiMbxCtrl fn 4 0
  let c := c.setHi (fun h => { h with mbxReq := setAt h.mbxReq fn [], mbxReply := setAt h.mbxReply fn [], mbxNote := setAt h.mbxNote fn [],
                                      msix := h.msix.filter (fun p => p.1 / 1024 ≠ fn), pba := h.pba.filter (fun b => b / 65 ≠ fn),
                                      eqWritten := h.eqWritten.filter (fun q => q / 64 ≠ fn) })
  c.closeSess (fn + 1) 2

/-- PCIE_LINK_RESET: PERST_N, a hot reset or a link-down (assumption log 64). -/
def Ctl.linkReset (c : Ctl) : Ctl :=
  let was := c.hi.linkUp
  let c := ((c.fnReset 0).fnReset 1).setHi (fun h => { h with linkUp := false })
  let c := c.setE 0x530001 0
  if was then c.post 0x4341 [] else c

/-- HOST_LINK_UP: the link trains at a width and a speed code; in Tadpole mode the PHY is powered down (18 R508). -/
def Ctl.hostLinkUp (c : Ctl) (width speed : Nat) : Ctl :=
  if c.tadpole || !linkTrains width speed then c else
  ((c.setHi (fun h => { h with linkUp := true })).setE 0x530001 (width % 16 + 16 * (speed % 16))).post 0x4302 [i8 width, i8 speed]

/-! ### The mailbox (R489) -/

/-- The message in a function's request buffer: as long as its header says, within the buffer (assumption log 68). -/
def Ctl.mbxMsg (c : Ctl) (fn : Nat) : List Byte :=
  let b := (c.hi.mbxReq.getD fn []) ++ List.replicate (4096 - (c.hi.mbxReq.getD fn []).length) 0
  b.take (16 + leAt b 6 2 + (if bit (u8At b 2) 1 then 16 else 0))

/-- MAILBOX_GO. `store`: the MRAM store of a written value works (assumption log 68). -/
def Ctl.mailboxGo (c : Ctl) (fn : Nat) (store : Bool) : Ctl :=
  if c.reg .hiMbxCtrl fn 2 = 1 then c.setReg .hiMbxCtrl fn 4 1 else
  let c := c.setHi (fun h => { h with mbxReply := setAt h.mbxReply fn [] })
  let c := c.vostan store ⟨2, fn, 0⟩ (c.mbxMsg fn)
  if (c.hi.mbxReply.getD fn []).isEmpty then c else (c.setReg .hiMbxCtrl fn 2 1).msixSend fn 64

/-! ### Commits from PF0 (16 R475) -/

/-- PF0_COMMIT (assumption log 69). -/
def Ctl.pf0Commit (c : Ctl) : Ctl :=
  if !c.cpaUp then c else
  match c.commit with
  | (c, some _) => (c.setReg .dyCommitCtrl 0 8 1).setReg .dyCommitCtrl 0 9 0
  | (c, none) => (c.setReg .dyCommitCtrl 0 9 1).setReg .dyCommitCtrl 0 8 0

/-- PF0_DISCARD (assumption log 69). -/
def Ctl.pf0Discard (c : Ctl) : Ctl := if !c.cpaUp then c else (c.discard.setReg .dyCommitCtrl 0 8 1).setReg .dyCommitCtrl 0 9 0

/-! ### Job queues and the DMA engine (R487, R488) -/

/-- The DMA engine takes the descriptor at HEAD of J1; a load by DMA of the image manager goes first (R488; assumption log 66). -/
def Ctl.dmaStart (c : Ctl) : Ctl :=
  if c.hi.j1.running || !c.cpaUp || c.reg .hiJqCfg 1 0 = 0 || (c.jqOpen 1).isEmpty || c.xz.load.any (fun l => l.dma && !l.closed) || !c.memReady then c
  else c.setHi (fun h => { h with j1 := { h.j1 with running := true } })

/-- JQ_TAIL_WRITE. -/
def Ctl.jqTailWrite (c : Ctl) (q v : Nat) : Ctl :=
  let c := c.setReg .hiJqPtr q 16 (v % 65536)
  if q = 1 then c.dmaStart else c

/-- JQ_DISABLE: the running job goes on. -/
def Ctl.jqDisable (c : Ctl) (q : Nat) : Ctl := (if q = 1 then c.dmaStart else c).setReg .hiJqCfg q 0 0

/-- BASE and ENTRIES_LOG2 of a job queue take writes. -/
def Ctl.jqFree (c : Ctl) (q : Nat) : Bool := c.reg .hiJqCfg q 0 = 0 && c.jqHead q = c.jqTail q

/-- A write of HI_JQ_CFG; ENTRIES_LOG2 is held to 4 to 12. -/
def Ctl.jqCfgWrite (c : Ctl) (q v : Nat) : Ctl :=
  let c := if c.jqFree q then c.setReg .hiJqCfg q 16 (clampN 4 12 (bits v 20 16)) else c
  if !bit v 0 then c.jqDisable q
  else
    let c := c.setReg .hiJqCfg q 0 1
    if q = 1 then c.dmaStart else c

/-- A write of HI_JQ_BASE; it is a multiple of 64 (assumption log 65). -/
def Ctl.jqBaseWrite (c : Ctl) (q lo hi : Nat) : Ctl :=
  if c.jqFree q then (c.setReg .hiJqBaseLo q 0 (lo % 2 ^ 32 / 64 * 64)).setReg .hiJqBaseHi q 0 (hi % 2 ^ 32) else c

/-- A DMA descriptor is refused with a result (0 when it runs; assumption log 66). -/
def Ctl.dmaCheck (c : Ctl) (d : List Byte) : Nat :=
  if (u8At d 0 ≠ 1 ∧ u8At d 0 ≠ 2) ∨ (u8At d 1 ≠ 0 ∧ u8At d 1 ≠ 4) ∨ leAt d 2 2 ≠ 0 ∨ leAt d 24 4 = 0 ∨ leAt d 28 12 ≠ 0 then 0x30
  else if c.dramOk (leAt d 16 8) (leAt d 24 4) then 0 else 0x32

/-- The end of a DMA job: octets 40 to 48 of its descriptor, HEAD, the event, and the load that waits or the next job (R487, R488, R492; assumption log 66). -/
def dmaEnd (d : List Byte) (moved result : Nat) (m : Mem) (c : Ctl) : Mem × Ctl :=
  let q := dramStore 9 (c.jqAddr 1 (c.jqHead 1) + 40) (toLE 4 moved ++ [0, 0, 0, 0, byteOf result]) m c
  let m := q.1
  let c := q.2
  let c := (c.setReg .hiJqPtr 1 0 ((c.jqHead 1 + 1) % c.jqEntries 1)).setHi (fun h => { h with j1 := { h.j1 with running := false } })
  let tag := leAt d 4 4
  let c := if result ≠ 0 then c.post 0x4381 [i32 tag, i8 result] else if bit (u8At d 1) 2 then c.post 0x4301 [i32 tag] else c
  (m, c.dmaLoadGo.dmaStart)

/-- DMA_JOB_DONE: `bytes` are the octets that the host returned, `moved` how many it took; `err` says that a completion failed. -/
def dmaJobDone (moved : Nat) (bytes : List Byte) (err : Bool) (m : Mem) (c : Ctl) : Mem × Ctl :=
  let c := c.dmaStart
  if !c.hi.j1.running then (m, c) else
  let a := c.jqAddr 1 (c.jqHead 1)
  let d := m.read a 64
  let bad := m.poisoned a 64
  let c := c.readDram m 9 a 64
  let st := if bad then 0x33 else c.dmaCheck d
  let host := leAt d 8 8
  let dram := leAt d 16 8
  let len := leAt d 24 4
  if st ≠ 0 then dmaEnd d 0 st m c
  else if u8At d 0 = 1 then
    let got := bytes.take len
    let q := dramStore 9 dram got m ((c.emit { kind := .hostRead, a := host, b := len }).snoopPass 6 0 got)
    dmaEnd d got.length (if err || decide (got.length < len) then 0x35 else 0) q.1 q.2
  else
    let clean := m.cleanPrefix dram len
    let n := if err then min moved clean else clean
    let c := c.readDram m 9 dram (if err then n else len)
    let c := (c.emit { kind := .hostWrite, a := host, bytes := m.read dram n }).snoopPass 6 1 (m.read dram n)
    dmaEnd d n (if err then 0x35 else if clean < len then 0x33 else 0) m c

/-! ### The DRAM window (R480) -/

/-- Address of an offset of BAR2 (assumption log 67). -/
def Ctl.winAddr (c : Ctl) (off : Nat) : Nat := c.reg .hiWinBase 0 0 * 268435456 + off

/-- A window read returns octets. -/
def Ctl.complete (c : Ctl) (a : Nat) (poisoned : Bool) (bs : List Byte) : Ctl :=
  ({ c with readData := ofLE bs }).emit { kind := .completion, a := a, b := b2n poisoned, bytes := bs }

/-- A read of `len` octets through the window (assumption log 67). -/
def winRead (off len : Nat) (m : Mem) (c : Ctl) : Ctl :=
  let a := c.winAddr off
  if !c.dramOk a len then (c.incE 0x530003).complete a false (List.replicate len 0xFF)
  else (c.readDram m 10 a len).complete a (m.poisoned a len) (m.read a len)

/-- A write of octets through the window (assumption log 67). -/
def winWrite (off : Nat) (bs : List Byte) (m : Mem) (c : Ctl) : Mem × Ctl :=
  let a := c.winAddr off
  if c.dramOk a bs.length then dramStore 10 a bs m c else (m, c.incE 0x530003)

/-! ### The commands -/

/-- PF0_COMMIT. -/
def execPf0Commit (dt : Nat) (s : State) : Host.Outcome State Fault Refusal := runC (fun c => (c.advance dt).pf0Commit) s
/-- PF0_DISCARD. -/
def execPf0Discard (dt : Nat) (s : State) : Host.Outcome State Fault Refusal := runC (fun c => (c.advance dt).pf0Discard) s
/-- MAILBOX_GO. -/
def execMailboxGo (dt : Nat) (fn : Fn) (store : Bool) (s : State) : Host.Outcome State Fault Refusal :=
  runF (fun c => (c.advance dt).mailboxGo (match fn with | .pf0 => 0 | .pf1 => 1) store) s
/-- PCIE_LINK_RESET. -/
def execPcieLinkReset (dt : Nat) (s : State) : Host.Outcome State Fault Refusal := runC (fun c => (c.advance dt).linkReset) s
/-- FUNCTION_LEVEL_RESET. -/
def execFunctionLevelReset (dt : Nat) (fn : Fn) (s : State) : Host.Outcome State Fault Refusal :=
  runC (fun c => (c.advance dt).fnReset (match fn with | .pf0 => 0 | .pf1 => 1)) s
/-- HOST_LINK_UP. -/
def execHostLinkUp (dt width speed : Nat) (s : State) : Host.Outcome State Fault Refusal := runC (fun c => (c.advance dt).hostLinkUp width speed) s
/-- EQ_ENABLE. -/
def execEqEnable (dt queue : Nat) (s : State) : Host.Outcome State Fault Refusal :=
  runC (fun c => (c.advance dt).when (decide (queue < 128)) (·.eqEnable queue)) s
/-- EQ_HEAD_WRITE. -/
def execEqHeadWrite (dt queue value : Nat) (s : State) : Host.Outcome State Fault Refusal :=
  runC (fun c => (c.advance dt).when (decide (queue < 128)) (·.eqHeadWrite queue value)) s
/-- EQ_RECORD_WRITE. -/
def execEqRecordWrite (dt queue : Nat) (s : State) : Host.Outcome State Fault Refusal := runC (fun c => (c.advance dt).when (decide (queue < 128)) (·.eqRecord queue)) s
/-- MSIX_COALESCE. -/
def execMsixCoalesce (dt queue : Nat) (s : State) : Host.Outcome State Fault Refusal := runC (fun c => (c.advance dt).when (decide (queue < 128)) (·.eqCoalesce queue)) s
/-- JQ_TAIL_WRITE. -/
def execJqTailWrite (dt queue value : Nat) (s : State) : Host.Outcome State Fault Refusal :=
  runC (fun c => (c.advance dt).when (decide (queue < 2)) (·.jqTailWrite queue value)) s
/-- JQ_DISABLE. -/
def execJqDisable (dt queue : Nat) (s : State) : Host.Outcome State Fault Refusal := runC (fun c => (c.advance dt).when (decide (queue < 2)) (·.jqDisable queue)) s
/-- DMA_JOB_DONE. -/
def execDmaJobDone (dt moved : Nat) (bytes : List Byte) (err : Bool) (ue : List DramErr) (s : State) : Host.Outcome State Fault Refusal :=
  runM (fun m c => dmaJobDone moved bytes err (m.found ue) (c.advance dt)) s
/-- IRQ_ACK. -/
def execIrqAck (dt mask : Nat) (s : State) : Host.Outcome State Fault Refusal := runC (fun c => (c.advance dt).irqAck mask) s
/-- WINDOW_ACCESS: a write of `bytes`, or a read of `len` octets. -/
def execWindowAccess (dt offset : Nat) (write : Bool) (len : Nat) (bytes : List Byte) (ue : List DramErr) (s : State) :
    Host.Outcome State Fault Refusal :=
  runM (fun m c =>
    let m := m.found ue
    let c := c.advance dt
    if write then winWrite offset bytes m c else (m, winRead offset len m c)) s

end Sys2Proof.Machine
end

