-- ==== Sys2Proof/Machine/Registers.lean ====
section
/-! DEFINITION. Register accesses of the host (00 R7 to R12, 17 R478, R479, R494): what a field reads, what a write of it does, and what
each function may reach. A register is named, with its instance, or reached by its offset in BAR0; the spec gives the offsets within the
host interface block only. -/
namespace Sys2Proof.Machine

/-! ### Which registers there are -/

/-- Host-view block of a register (00 R18): 8 × ID[7:4] + ID[3:0]. -/
def regBlock (r : RegName) : Nat :=
  let has := fun (l : List RegField) => l.any (fun f => f.reg = r)
  if has regFieldsXZ then 25 else if has regFieldsDC then 16 else if has regFieldsES then 24 else if has regFieldsPL then 26
  else if has regFieldsGZ then 27 else if has regFieldsST then 29 else if has regFieldsPD then 28 else if has regFieldsEN then 17
  else if has regFieldsLN then 8 else if has regFieldsRG then 9 else if has regFieldsTB then 11 else if has regFieldsMC then 32
  else if has regFieldsCX then 33 else if has regFieldsCK then 34 else if has regFieldsDY then 36 else if has regFieldsBT then 1
  else if has regFieldsFM then 5 else if has regFieldsPM then 2 else if has regFieldsTM then 3 else if has regFieldsCL then 4 else 35

/-- Instances of a register (05 R173 to 20 R570, 17 R494): one unless its chapter says more. -/
def regCount : RegName → Nat
  | .plLayerCfg | .plLayerStatus | .enRing => 16
  | .stClipMin | .stClipMax | .ckCfg | .ckSnoopCount | .ckPolyLo | .ckPolyHi | .ckInitLo | .ckInitHi | .ckXoroutLo | .ckXoroutHi
  | .ckExpectLo | .ckExpectHi | .ckValueLo | .ckValueHi | .ckResultLo | .ckResultHi | .ckDataB | .ckDataH | .ckDataW | .ckCtrl | .ckStatus
  | .pmRail | .clItem => 8
  | .pdLaneCfg => 32
  | .lnLaneStatus | .lnLaneTaps | .lnEye | .lnTestCtrl | .lnTestUserLo | .lnTestUserHi | .lnTestErrors => 56
  | .lnPortStatus | .rgRxMap | .rgTxMap | .rgFecErrors | .hiJqCfg | .hiJqBaseLo | .hiJqBaseHi | .hiJqPtr => 2
  | .mcPortStatus => 6
  | .tmSite => 24
  | .hiEqCfg | .hiEqBaseLo | .hiEqBaseHi | .hiEqPtr | .hiEqDrops => 64
  | .hiMsixTable => 260
  | .hiMsixPba => 3
  | .hiRequestBuf | .hiReplyBuf | .hiNotifyBuf => 1024
  | _ => 1

/-- The _HI register of a _LO register (00 R7). -/
def pairHi : RegName → Option RegName
  | .xzLoadSrcLo => some .xzLoadSrcHi
  | .xzActTickLo => some .xzActTickHi
  | .stSrcBaseLo => some .stSrcBaseHi
  | .stDstBaseLo => some .stDstBaseHi
  | .stListBaseLo => some .stListBaseHi
  | .pdFlipTickLo => some .pdFlipTickHi
  | .lnTestUserLo => some .lnTestUserHi
  | .lnFailedLo => some .lnFailedHi
  | .tbNowLo => some .tbNowHi
  | .tbNextFlipLo => some .tbNextFlipHi
  | .mcErrAddrLo => some .mcErrAddrHi
  | .ckPolyLo => some .ckPolyHi
  | .ckInitLo => some .ckInitHi
  | .ckXoroutLo => some .ckXoroutHi
  | .ckExpectLo => some .ckExpectHi
  | .ckValueLo => some .ckValueHi
  | .ckResultLo => some .ckResultHi
  | .dyAcceptTickLo => some .dyAcceptTickHi
  | .hiJqBaseLo => some .hiJqBaseHi
  | .hiEqBaseLo => some .hiEqBaseHi
  | .fmWindowEndLo => some .fmWindowEndHi
  | _ => none

/-- The _LO register of a _HI register. -/
def pairLo : RegName → Option RegName
  | .xzLoadSrcHi => some .xzLoadSrcLo
  | .xzActTickHi => some .xzActTickLo
  | .stSrcBaseHi => some .stSrcBaseLo
  | .stDstBaseHi => some .stDstBaseLo
  | .stListBaseHi => some .stListBaseLo
  | .lnTestUserHi => some .lnTestUserLo
  | .ckPolyHi => some .ckPolyLo
  | .ckInitHi => some .ckInitLo
  | .ckXoroutHi => some .ckXoroutLo
  | .ckExpectHi => some .ckExpectLo
  | .ckValueHi => some .ckValueLo
  | .hiJqBaseHi => some .hiJqBaseLo
  | .hiEqBaseHi => some .hiEqBaseLo
  | _ => none

/-- Bytes between two blocks of BAR0 (00 R18, 17 R478). -/
def blockSpan (fn : Nat) : Nat := if fn = 0 then 0x100000 else 0x10000

/-- What stands at an offset of the host interface block (17 R494). -/
def hiAt (q : Nat) : Option (RegName × Nat) :=
  if q = 0 then some (.hiLinkStatus, 0) else if q = 4 then some (.hiWinBase, 0) else if q = 8 then some (.hiMbxCtrl, 0)
  else if 0x100 ≤ q ∧ q < 0x120 then
    ([RegName.hiJqCfg, .hiJqBaseLo, .hiJqBaseHi, .hiJqPtr][q % 0x10 / 4]?).map (fun r => (r, (q - 0x100) / 0x10))
  else if 0x1000 ≤ q ∧ q < 0x1800 then
    ([RegName.hiEqCfg, .hiEqBaseLo, .hiEqBaseHi, .hiEqPtr, .hiEqDrops][q % 0x20 / 4]?).map (fun r => (r, (q - 0x1000) / 0x20))
  else if 0x4000 ≤ q ∧ q < 0x4410 then some (.hiMsixTable, (q - 0x4000) / 4)
  else if 0x5000 ≤ q ∧ q < 0x500C then some (.hiMsixPba, (q - 0x5000) / 4)
  else if 0x8000 ≤ q ∧ q < 0x9000 then some (.hiRequestBuf, (q - 0x8000) / 4)
  else if 0x9000 ≤ q ∧ q < 0xA000 then some (.hiReplyBuf, (q - 0x9000) / 4)
  else if 0xA000 ≤ q ∧ q < 0xB000 then some (.hiNotifyBuf, (q - 0xA000) / 4)
  else none

/-- Registers that stand together: `regs` one after the other for each of `n` instances, from instance `first` on (assumption log 5). -/
structure RegRun where
  regs : List RegName
  first : Nat
  n : Nat

/-- Words of a run. -/
def RegRun.words (u : RegRun) : Nat := u.regs.length * u.n

/-- What the `k`-th word of a run is. -/
def RegRun.at_ (u : RegRun) (k : Nat) : Option (RegName × Nat) := (u.regs[k % u.regs.length]?).map (fun r => (r, u.first + k / u.regs.length))

/-- Registers whose instances stand at consecutive offsets (07 R239, 09 R297, 10 R322, 11 R352, 14 R423, 19 R544; assumption log 5). -/
def inOneRun : RegName → Bool
  | .plLayerCfg | .plLayerStatus | .pdLaneCfg | .enRing | .lnLaneStatus | .lnLaneTaps | .lnEye | .lnTestCtrl | .lnTestUserLo | .lnTestErrors
  | .lnPortStatus | .mcPortStatus | .pmRail | .tmSite | .clItem => true
  | _ => false

/-- The runs that start with a register: a _LO register has its _HI above it (00 R7), a clipping rectangle its two corners (08 R261), and the
instances stand one by one where no rule says more (assumption log 5). -/
def runsOf (r : RegName) : List RegRun :=
  if (regFields.any (fun f => (pairHi f.reg) = some r)) || r = .stClipMax then []
  else if r = .stClipMin then [⟨[.stClipMin, .stClipMax], 0, 8⟩]
  else
    let l := r :: (pairHi r).toList
    if inOneRun r then [⟨l, 0, regCount r⟩] else (List.range (regCount r)).map (fun i => ⟨l, i, 1⟩)

/-- The place of a run in its block's order. -/
def RegRun.before (u v : RegRun) : Bool :=
  let rank := fun (x : RegRun) => Config.regRank (x.regs.getD 0 .hiWinBase) x.first
  decide (rank u ≤ rank v)

/-- The runs of a block in their order. -/
def runsIn (b : Nat) : List RegRun :=
  (((regFields.map RegField.reg).eraseDups.filter (fun r => regBlock r = b)).flatMap runsOf).foldr
    (fun u l => (l.takeWhile (fun v => !u.before v)) ++ u :: (l.dropWhile (fun v => !u.before v))) []

/-- The register at a word of a block, the runs laid out one behind the other with their gaps (assumption log 5). -/
def placeAt : List RegRun → Nat → Option (RegName × Nat)
  | [], _ => none
  | u :: l, k =>
    let g := Config.regGap (u.regs.getD 0 .hiWinBase) u.first
    if k < g then none else if k < g + u.words then u.at_ (k - g) else placeAt l (k - g - u.words)

/-- The register that an access of a function reaches, and whether it is the active copy (00 R7, R8, R11, R18; 17 R478, R479): none at an
offset that is no aligned word, lies past 0xFFFF of a block or holds no register. -/
def regPick (fn : Nat) : RegAt → Option (RegName × Nat × Bool)
  | .named r i a => if i < regCount r then some (r, i, a) else none
  | .offset o =>
    let b := o / blockSpan fn
    let q := o % blockSpan fn
    let active := decide (0x80000 ≤ q)
    let q := q % 0x80000
    if b ≥ 64 ∨ o % 4 ≠ 0 ∨ q ≥ 0x10000 then none else
    match if b = 35 then hiAt q else placeAt (runsIn b) (q / 4) with
    | some (r, i) => if regBlock r = b && decide (i < regCount r) then some (r, i, active) else none
    | none => none

/-- The block that an access of a function falls into. -/
def blockAt (fn : Nat) : RegAt → Nat
  | .named r _ _ => regBlock r
  | .offset o => o / blockSpan fn

/-- Fields of a register. -/
def fieldsOf (r : RegName) : List RegField := regFields.filter (fun f => f.reg = r)

/-- Event queue that a function sees at a block (17 R479, R481). -/
def eqOf (fn inst : Nat) : Nat := 64 * fn + inst

/-! ### What a field reads -/

/-- A value of 1/16 °C as a register shows it: 16 bits, signed, 1/8 °C (19 R544). -/
def tempBits (t : Int) : Nat := ofSigned 16 (t / 2)

/-- Taps of a scaler axis as PL_LAYER_CFG codes them (07 R239): 1 for 2 taps, 2 for 4. -/
def tapsCode (n : Nat) : Nat := n / 2

/-- FM_WINDOW_END: the Tick at which the open window closes. -/
def Ctl.windowEnd (c : Ctl) : Nat := match c.fm.window with
  | some w => if w.stop ≤ c.up then 0 else tickAdd c.now (w.stop - c.up)
  | none => 0

/-- Rate code of a lane in LN_LANE_STATUS (11 R352; assumption log 59). -/
def Ctl.laneCode (c : Ctl) (l : Nat) : Nat :=
  if c.ea 0x2012 l = 0 then 15
  else if l < 18 then (c.ln.lanes.getD l {}).code else if l < 50 then c.e 0x440003 else if l < 54 then 0 else if c.ea 0x2012 l = 1250000 then 0 else 3

/-- Fields that are formed from State when they are read (assumption log 35, 45; assumption log 45). -/
def Ctl.calcField (c : Ctl) (r : RegName) (lo i : Nat) (active : Bool) : Nat :=
  let n := c.reg .dcCtxSel 0 0
  match r, lo with
  | .xzSlotStatus, 9 => b2n c.hasImage
  | .xzSlotStatus, 8 => c.xz.active.getD 0
  | .xzLoadCtrl, _ => b2n c.dmaLoading
  | .xzActCtrl, _ => b2n c.xz.pend.isSome
  | .dcInputStatus, _ => ceilDiv c.dc.fill 1048576
  | .dcEngineStatus, 4 => maskOf ((List.range 4).filter (fun e => (c.dc.engs.getD e {}).out))
  | .dcEngineStatus, _ => maskOf ((List.range 4).filter (fun e => c.dc.units.any (fun u => u.eng = some e)))
  | .dcCtxStatus, 24 => c.e (ctxKey n 0x11)
  | .dcCtxStatus, 12 => c.e (ctxKey n 0x10) % 64
  | .dcCtxStatus, 8 => ((c.ctx n).pics.filter (c.picHeld n)).length
  | .dcCtxStatus, _ => c.ctxState n
  | .esStatus, _ => b2n (c.es.fr.any (fun f => f.started && f.endNs.isNone && !f.lost))
  | .esBrushOut, _ => maskOf c.es.out
  | .plLayerCfg, 10 => tapsCode (bits (c.entRead (ekey 0x4214 (i + 1)) active).toNum 7 4)
  | .plLayerCfg, _ => tapsCode (bits (c.entRead (ekey 0x4214 (i + 1)) active).toNum 3 0)
  | .stStatus, 6 => b2n c.st.waitFrom.isSome
  | .stStatus, 5 => b2n c.st.halted
  | .stStatus, _ => b2n c.st.cmd.isSome
  | .stListHead, _ => c.st.head
  | .pdLaneLost, _ => maskOf ((List.range 32).filter (fun k => decide (c.ea 0x4412 k ≥ 3)))
  | .enStatus, 16 => b2n c.enOut
  | .enStatus, _ => maskOf ((List.range 16).filter (fun s => (c.enStream s).on))
  | .enRing, _ => (c.enStream i).tail
  | .lnLaneStatus, _ => c.laneCode i
  | .lnTestCtrl, 25 => b2n (c.chkLock i)
  | .lnTestCtrl, _ => b2n (c.laneSt i = 5)
  | .lnPortStatus, 20 => min 15 (c.ea 0x2002 i)
  | .lnPortStatus, _ => b2n ((c.port i).stage = 3)
  | .lnFailedLo, _ => maskOf ((List.range 32).filter (fun l => c.laneSt l = 3))
  | .lnFailedHi, _ => maskOf ((List.range 24).filter (fun l => c.laneSt (32 + l) = 3))
  | .tbStatus, 17 => b2n c.clk.slew.isSome
  | .tbStatus, 16 => b2n c.tb.rateChange.isSome
  | .tbStatus, _ => min 3 (c.e 0x230002)
  | .tbOffsetA, _ => ofSigned 32 (clampI (-2147483648) 2147483647 (c.clk.offA / 4096))
  | .tbOffsetB, _ => ofSigned 32 (clampI (-2147483648) 2147483647 (c.clk.offB / 4096))
  | .mcStatus, _ => 100 * c.mc.scrubAt / max 1 (c.scrubSizes.1 + c.scrubSizes.2)
  | .mcPortStatus, 24 => maxOf ((c.mc.chans.filter (fun x => x.port = i)).map McChan.owed)
  | .mcPortStatus, 12 => maskOf ((List.range 4).filter (fun k => c.mc.chans.any (fun x => x.port = i && x.ch = k && x.powerDown)))
  | .mcPortStatus, 8 => b2n (c.mc.chans.any (fun x => x.port = i && x.catchup))
  | .mcPortStatus, _ => b2n (c.memReady && decide (i < c.np))
  | .cxStatus, 1 => b2n c.cx.deflate.isSome
  | .cxStatus, _ => b2n c.cx.inflate.isSome
  | .hiLinkStatus, _ => Config.vendorId % 65536
  | .btJournal, 16 => b2n (!c.bt.ring.isEmpty && !c.bt.mramStopped)
  | .btJournal, _ => min 65535 c.bt.replayed
  | .fmCpStatus, 16 => min 255 (c.ea 0x1581 1)
  | .fmCpStatus, _ => min 255 (c.ea 0x1581 0)
  | .fmStatus, _ => b2n c.manualWait
  | .fmWindowEndLo, _ => c.windowEnd % 2 ^ 32
  | .fmWindowEndHi, _ => c.windowEnd / 2 ^ 32
  | .pmStatus, _ => b2n c.pm.supplyFailN
  | .pmRail, 15 => b2n (c.pm.railStale.contains i)
  | .pmRail, _ => b2n (bit c.pm.windowOut i)
  | .tmStatus, 16 => tempBits c.pm.tmax
  | .tmStatus, _ => b2n (c.pm.holdUntil.any (fun u => decide (c.up < u)))
  | .tmSite, 16 => tempBits (c.pm.sites.getD i {}).value
  | .tmSite, _ => b2n (c.pm.sites.getD i {}).stale
  | .tmLife, 16 => ofSigned 16 (toSigned 32 (c.e 0x13000A) * 8 / 1000)
  | .tmLife, _ => min 1000 (c.e 0x13000B * 1000 / max 1 (c.e 0x130009))
  | .clItem, 8 => min 255 (maxOf ((c.pm.cal.filter (fun x => x.item = i + 1)).map CalInst.residual))
  | .clItem, _ => b2n (c.pm.cal.any (fun x => x.item = i + 1 && x.running) || (i = 7 && c.trimsStale))
  | _, _ => 0

/-- The value of one field; write-only fields read 0 (00 R9). -/
def Ctl.fieldVal (c : Ctl) (f : RegField) (i : Nat) (active : Bool) : Nat :=
  let v := match f.mir with
    | .own => c.reg f.reg i f.lo
    | .ent k o => (c.entRead k active).toNum >>> o
    | .arr idx o => (c.entRead (ekey idx (i + 1)) active).toNum >>> o
    | .calc => c.calcField f.reg f.lo i active
  if f.acc = .wo then 0 else v % 2 ^ (f.hi - f.lo + 1)

/-- The octets of one of the function's mailbox buffers, as a word. -/
def bufWord (b : List Byte) (i : Nat) : Nat := leAt b (4 * i) 4

/-- The instance under which a register of the host interface block is held: each function sees its own (17 R479). -/
def hiInst (fn : Nat) : RegName → Nat → Nat
  | .hiEqCfg, i | .hiEqBaseLo, i | .hiEqBaseHi, i | .hiEqPtr, i | .hiEqDrops, i => eqOf fn i
  | .hiMbxCtrl, _ => fn
  | _, i => i

/-- The value of a register: reserved bits read 0 (00 R8); of the active copies only staged fields are seen (00 R11; assumption log 69). -/
def Ctl.regValue (c : Ctl) (fn : Nat) (r : RegName) (i : Nat) (active : Bool) : Nat :=
  match r with
  | .hiMsixTable => c.msixWord fn i
  | .hiMsixPba => c.pbaWord fn i
  | .hiRequestBuf => bufWord (c.hi.mbxReq.getD fn []) i
  | .hiReplyBuf => bufWord (c.hi.mbxReply.getD fn []) i
  | .hiNotifyBuf => bufWord (c.hi.mbxNote.getD fn []) i
  | _ => ((fieldsOf r).filter (fun f => !active || f.acc = .rws)).foldl (fun v f => v + c.fieldVal f (hiInst fn r i) active * 2 ^ f.lo) 0

/-- A register that PF1 does not show: Boot, Security and Xezor (17 R479), and what exists in PF0 only (17 R487). -/
def pf1Hidden (r : RegName) : Bool :=
  [1, 6, 25].contains (regBlock r) || [.hiJqCfg, .hiJqBaseLo, .hiJqBaseHi, .hiJqPtr].contains r

/-- REGISTER_READ: the value, what an RC field loses, and the latch of R7 (assumption log 69). -/
def Ctl.regRead (c : Ctl) (fn : Nat) (r : RegName) (i : Nat) (active : Bool) : Ctl :=
  if i ≥ regCount r || (fn = 1 && (active || pf1Hidden r)) then { c with readData := 0 } else
  if active then { c with readData := c.regValue fn r i true } else
  let k := hiInst fn r i
  let held := firstSome (fun p => if p.1 = (r, k) then some p.2 else none) c.hiLatch
  let v := held.getD (c.regValue fn r i false)
  let c := { c with hiLatch := c.hiLatch.filter (fun p => p.1 ≠ (r, k)) }
  let c := match pairHi r with
    | some h => { c with hiLatch := ((h, k), c.regValue fn h i false) :: c.hiLatch.filter (fun p => p.1 ≠ (h, k)) }
    | none => c
  let c := ((fieldsOf r).filter (fun f => f.acc = .rc)).foldl (fun c f => c.setReg r k f.lo 0) c
  { c with readData := v }

/-! ### Writes -/

/-- A register write of an entry's value: it must lie in the entry's range and pass its owner's rules; a value whose MRAM store fails is
not applied (16 R450). `store`: the store works. -/
def Ctl.entWrite (c : Ctl) (store : Bool) (k : Nat) (v : EVal) : Ctl :=
  match dictRow k with
  | none => c
  | some d =>
    if !valRange k d v || c.denied k || c.valueRule (c.setEv k v) k v ≠ 0 then c
    else if d.acc = .rws then c.stage k v
    else if d.persist = .yes && (!store || c.bt.mramStopped) then c.post 0x44C1 [i16 (k / 256), i8 (k % 256)]
    else (if d.persist = .yes && k / 256 ≠ 0x1601 then c.journalled [(k, v)] else c).accept k v

/-- One field of a write (00 R9). -/
def Ctl.fieldWrite (c : Ctl) (store : Bool) (f : RegField) (i w : Nat) : Ctl :=
  let v := bits w f.hi f.lo
  let put := fun (k o : Nat) =>
    let old := (c.entRead k false).toNum
    c.entWrite store k (.num (setBits old (o + f.hi - f.lo) o v))
  match f.acc, f.mir with
  | .rw, .own => c.setReg f.reg i f.lo v
  | .rw, .ent k o | .rws, .ent k o => put k o
  | .rw, .arr idx o | .rws, .arr idx o => put (ekey idx (i + 1)) o
  | .rws, .calc =>
    let k := ekey 0x4214 (i + 1)
    let o := if f.lo = 10 then 4 else 0
    c.entWrite store k (.num (setBits (c.entRead k false).toNum (o + 3) o (2 * v)))
  | .w1c, .own => c.setReg f.reg i f.lo (c.reg f.reg i f.lo - (c.reg f.reg i f.lo &&& v))
  | .w1c, .arr idx o => c.setEa idx i (c.ea idx i - (c.ea idx i &&& (v * 2 ^ o)))
  | _, _ => c

/-- Every field of a register takes its part of a write. -/
def Ctl.plainWrite (c : Ctl) (store : Bool) (r : RegName) (i w : Nat) : Ctl := (fieldsOf r).foldl (fun c f => c.fieldWrite store f i w) c

/-- CRC unit parameters by their _HI register: the entry (assumption log 33). -/
def ckIndex : RegName → Nat
  | .ckPolyHi => 0x5211
  | .ckInitHi => 0x5212
  | .ckXoroutHi => 0x5213
  | .ckExpectHi => 0x5214
  | _ => 0x5215

/-- A write of a _HI register with the half that was held, or that stands, in its _LO register: both take effect (00 R7; assumption log 69). -/
def Ctl.pairWrite (c : Ctl) (store : Bool) (fn : Nat) (l h : RegName) (i w : Nat) : Ctl :=
  let k := hiInst fn h i
  let lo := (firstSome (fun p => if p.1 = (l, k) then some p.2 else none) c.loHeld).getD (c.regValue fn l i false)
  let c := { c with loHeld := c.loHeld.filter (fun p => p.1 ≠ (l, k)) }
  match h with
  | .ckPolyHi | .ckInitHi | .ckXoroutHi | .ckExpectHi | .ckValueHi => c.ckWrite (ckIndex h) i (lo + w * 2 ^ 32)
  | .xzActTickHi => c.entWrite store 0x410303 (.num (lo + w * 2 ^ 32))
  | .hiJqBaseHi => c.jqBaseWrite k lo w
  | .hiEqBaseHi => c.eqBaseWrite k lo w
  | _ => (c.setReg l k 0 lo).setReg h k 0 w

/-- A word of the request buffer (assumption log 68). -/
def bufSet (b : List Byte) (i w : Nat) : List Byte :=
  let b := b ++ List.replicate (4 * i + 4 - b.length) 0
  b.take (4 * i) ++ toLE 4 w ++ b.drop (4 * i + 4)

/-- A register write that touches no memory (assumption log 69). -/
def Ctl.regApply (c : Ctl) (store : Bool) (fn : Nat) (r : RegName) (i w : Nat) : Ctl :=
  match r with
  | .xzRayQuery => c.rayQuery (bits w 25 0)
  | .xzLoadCtrl =>
    let c := c.plainWrite store r i w
    if bits w 1 0 = 1 then c.dmaLoadStart else if bits w 1 0 = 2 && c.dmaLoading then c.loadAbort else c
  | .xzActCtrl =>
    let c := c.plainWrite store r i w
    if bits w 9 8 = 1 then c.actRequest else if bits w 9 8 = 2 then c.actCancel else c
  | .stCmd => let c := c.plainWrite store r i w; if bit w 16 then c.stGo else c
  | .stListCtrl => (c.setReg .stListCtrl 0 16 (clampN 4 12 (bits w 19 16))).setReg .stListCtrl 0 2 (bits w 2 2)
  | .enRing => c.enHeadWrite i (bits w 11 0)
  | .lnTestCtrl => let c := c.plainWrite store r i w; if bit w 31 then c.testInject i else c
  | .ckCfg => c.ckWrite 0x5210 i w
  | .ckStatus => if c.ckBit i 8 then c.ckRefuse i else c.plainWrite store r i w
  | .ckSnoopCount => if c.ckHeld i || c.ckBit i 0 || c.ckBit i 1 then c.ckRefuse i else c.setReg .ckSnoopCount i 0 w
  | .ckDataB => c.ckFeed i (toLE 1 w)
  | .ckDataH => c.ckFeed i (toLE 2 w)
  | .ckDataW => c.ckFeed i (toLE 4 w)
  | .ckCtrl => c.ckCtrlWrite i (bits w 2 0)
  | .btCmd => c.entWrite store 0x110005 (.num (bits w 2 0))
  | .fmClear => if bit w 0 then c.faultClear else c
  | .dyCommitCtrl =>
    let c := c.plainWrite store r i w
    if bits w 1 0 = 1 then c.pf0Commit else if bits w 1 0 = 2 then c.pf0Discard else c
  | .hiMbxCtrl => let c := c.plainWrite store r fn w; if bit w 0 then c.mailboxGo fn store else c
  | .hiJqCfg => c.jqCfgWrite i w
  | .hiJqPtr => c.jqTailWrite i (bits w 31 16)
  | .hiEqCfg => c.eqCfgWrite (eqOf fn i) w
  | .hiEqPtr => c.eqHeadWrite (eqOf fn i) (bits w 15 0)
  | .hiMsixTable => c.msixWrite fn i w
  | .hiRequestBuf => c.setHi (fun h => { h with mbxReq := updAt h.mbxReq fn (fun b => bufSet b i w) })
  | _ => match pairLo r with
    | some l => c.pairWrite store fn l r i w
    | none => if (pairHi r).isSome && (fieldsOf r).all (fun f => f.acc = .rw)
      then { c with loHeld := ((r, hiInst fn r i), w) :: c.loHeld.filter (fun p => p.1 ≠ (r, hiInst fn r i)) }
      else c.plainWrite store r (hiInst fn r i) w

/-- Writes of PF1 take effect in these blocks (17 R479; assumption log 69). -/
def pf1Writes (b : Nat) : Bool := [24, 26, 27, 28, 29, 35].contains b

/-- REGISTER_WRITE. A Stencil list takes descriptors from memory. A write where no register stands, and of an active copy, is ignored
(00 R8, R11). -/
def regWrite (store : Bool) (fn : Nat) (at_ : RegAt) (w : Nat) (m : Mem) (c : Ctl) : Ctl :=
  let w := w % 2 ^ 32
  if fn = 1 && !pf1Writes (blockAt fn at_) then c.incE 0x530002
  else match regPick fn at_ with
  | none => c
  | some (r, i, active) =>
    if active || (fn = 1 && pf1Hidden r) then c
    else match r with
    | .stListTail => Ctl.stTailWrite m (bits w 11 0) c
    | .stListCtrl =>
      let c := c.regApply store fn r i w
      if bits w 1 0 = 1 then Ctl.stResume m true c else if bits w 1 0 = 2 then Ctl.stResume m false c else c
    | _ => c.regApply store fn r i w

/-- A read where no register stands reads 0 (00 R8). Those of the memory controller show its work up to now (14 R423). -/
def Ctl.readAt (c : Ctl) (fn : Nat) (at_ : RegAt) : Ctl :=
  match regPick fn at_ with
  | some (r, i, active) => (if regBlock r = regBlock .mcStatus then c.mcRun else c).regRead fn r i active
  | none => { c with readData := 0 }

/-- The number of a function. -/
def fnNum : Fn → Nat
  | .pf0 => 0
  | .pf1 => 1

/-! ### The commands -/

/-- REGISTER_WRITE (assumption log 5). -/
def execRegisterWrite (dt : Nat) (fn : Fn) (at_ : RegAt) (value : Nat) (store : Bool) (ue : List DramErr) (s : State) :
    Host.Outcome State Fault Refusal :=
  runM (fun m c => flushFills (m.found ue) (regWrite store (fnNum fn) at_ value (m.found ue) (c.advance dt).noFills)) s
/-- REGISTER_READ (assumption log 5). -/
def execRegisterRead (dt : Nat) (fn : Fn) (at_ : RegAt) (s : State) : Host.Outcome State Fault Refusal :=
  runC (fun c => (c.advance dt).readAt (fnNum fn) at_) s

end Sys2Proof.Machine
end

