-- ==== Sys2Proof/Machine/Dispatch.lean ====
section
/-! DEFINITION. exec: one arm for each command. -/
namespace Sys2Proof.Machine

def exec (i : Instr) (s : State) : Host.Outcome State Fault Refusal :=
  match i with
  | .powerOn dt low => Sys2Proof.Machine.execPowerOn dt low s
  | .porRelease dt reach strap mr status => Sys2Proof.Machine.execPorRelease dt reach strap mr status s
  | .tadpoleSupplyRetry dt => Sys2Proof.Machine.execTadpoleSupplyRetry dt s
  | .warmReset dt cut => Sys2Proof.Machine.execWarmReset dt cut s
  | .resetNRise dt => Sys2Proof.Machine.execResetNRise dt s
  | .startTimeout dt cut => Sys2Proof.Machine.execStartTimeout dt cut s
  | .pwrGoodRise dt k fails target => Sys2Proof.Machine.execPwrGoodRise dt k fails target s
  | .sequenceFailed dt island => Sys2Proof.Machine.execSequenceFailed dt island s
  | .dramTrainingComplete dt devs fail => Sys2Proof.Machine.execDramTrainingComplete dt devs fail s
  | .supplyFail dt rail fell cut => Sys2Proof.Machine.execSupplyFail dt rail fell cut s
  | .shutdownRestart dt => Sys2Proof.Machine.execShutdownRestart dt s
  | .thermalRound dt readings cut => Sys2Proof.Machine.execThermalRound dt readings cut s
  | .siteReadmitted dt site => Sys2Proof.Machine.execSiteReadmitted dt site s
  | .throttleHoldExpiry dt => Sys2Proof.Machine.execThrottleHoldExpiry dt s
  | .avsUpdate dt slack => Sys2Proof.Machine.execAvsUpdate dt slack s
  | .avsEmergency dt island slack => Sys2Proof.Machine.execAvsEmergency dt island slack s
  | .pmbusPoll dt answers => Sys2Proof.Machine.execPmbusPoll dt answers s
  | .pmbAlert dt status => Sys2Proof.Machine.execPmbAlert dt status s
  | .refclkLost dt => Sys2Proof.Machine.execRefclkLost dt s
  | .pllUnlock dt pll => Sys2Proof.Machine.execPllUnlock dt pll s
  | .referenceCompare dt diff => Sys2Proof.Machine.execReferenceCompare dt diff s
  | .recalTrigger dt item idx free => Sys2Proof.Machine.execRecalTrigger dt item idx free s
  | .calNow dt item => Sys2Proof.Machine.execCalNow dt item s
  | .calInstanceDone dt item idx residual codes => Sys2Proof.Machine.execCalInstanceDone dt item idx residual codes s
  | .islandGateChange dt => Sys2Proof.Machine.execIslandGateChange dt s
  | .lifeUpdate dt => Sys2Proof.Machine.execLifeUpdate dt s
  | .cpMismatch dt pair => Sys2Proof.Machine.execCpMismatch dt pair s
  | .cpWatchdog dt pair => Sys2Proof.Machine.execCpWatchdog dt pair s
  | .cpRestartDone dt pair => Sys2Proof.Machine.execCpRestartDone dt pair s
  | .fwLoadBegin dt => Sys2Proof.Machine.execFwLoadBegin dt s
  | .fwLoadData dt bytes => Sys2Proof.Machine.execFwLoadData dt bytes s
  | .fwLoadEnd dt => Sys2Proof.Machine.execFwLoadEnd dt s
  | .fwLoadAbort dt => Sys2Proof.Machine.execFwLoadAbort dt s
  | .fwCheckDone dt => Sys2Proof.Machine.execFwCheckDone dt s
  | .bootRestart dt cut => Sys2Proof.Machine.execBootRestart dt cut s
  | .bootTryOther dt => Sys2Proof.Machine.execBootTryOther dt s
  | .bootConfirm dt => Sys2Proof.Machine.execBootConfirm dt s
  | .bootClearSettings dt => Sys2Proof.Machine.execBootClearSettings dt s
  | .trialConfirmTimer dt => Sys2Proof.Machine.execTrialConfirmTimer dt s
  | .keyWrite dt key bytes => Sys2Proof.Machine.execKeyWrite dt key bytes s
  | .vostanRead dt src msg mr => Sys2Proof.Machine.execVostanRead dt src msg mr s
  | .vostanWrite dt src msg store => Sys2Proof.Machine.execVostanWrite dt src msg store s
  | .blockRead dt src msg => Sys2Proof.Machine.execBlockRead dt src msg s
  | .blockWrite dt src msg store => Sys2Proof.Machine.execBlockWrite dt src msg store s
  | .blockTransferAbandon dt session => Sys2Proof.Machine.execBlockTransferAbandon dt session s
  | .subscribe dt src msg => Sys2Proof.Machine.execSubscribe dt src msg s
  | .commit dt src msg => Sys2Proof.Machine.execCommit dt src msg s
  | .commitDiscard dt src msg => Sys2Proof.Machine.execCommitDiscard dt src msg s
  | .pf0Commit dt => Sys2Proof.Machine.execPf0Commit dt s
  | .pf0Discard dt => Sys2Proof.Machine.execPf0Discard dt s
  | .loginChallenge dt src msg => Sys2Proof.Machine.execLoginChallenge dt src msg s
  | .loginProof dt src msg => Sys2Proof.Machine.execLoginProof dt src msg s
  | .loginLogout dt src msg => Sys2Proof.Machine.execLoginLogout dt src msg s
  | .loginChallengeTimeout dt session => Sys2Proof.Machine.execLoginChallengeTimeout dt session s
  | .sessionTimeout dt session => Sys2Proof.Machine.execSessionTimeout dt session s
  | .lockoutExpiry dt src => Sys2Proof.Machine.execLockoutExpiry dt src s
  | .cyclicNotify dt session sub full => Sys2Proof.Machine.execCyclicNotify dt session sub full s
  | .onChangeNotify dt session sub full => Sys2Proof.Machine.execOnChangeNotify dt session sub full s
  | .eventBatchSend dt session sub full => Sys2Proof.Machine.execEventBatchSend dt session sub full s
  | .relayReply dt pos msg => Sys2Proof.Machine.execRelayReply dt pos msg s
  | .relayTimeout dt => Sys2Proof.Machine.execRelayTimeout dt s
  | .mailboxGo dt fn store => Sys2Proof.Machine.execMailboxGo dt fn store s
  | .pcieLinkReset dt => Sys2Proof.Machine.execPcieLinkReset dt s
  | .functionLevelReset dt fn => Sys2Proof.Machine.execFunctionLevelReset dt fn s
  | .hostLinkUp dt width speed => Sys2Proof.Machine.execHostLinkUp dt width speed s
  | .eqEnable dt queue => Sys2Proof.Machine.execEqEnable dt queue s
  | .eqHeadWrite dt queue value => Sys2Proof.Machine.execEqHeadWrite dt queue value s
  | .eqRecordWrite dt queue => Sys2Proof.Machine.execEqRecordWrite dt queue s
  | .msixCoalesce dt queue => Sys2Proof.Machine.execMsixCoalesce dt queue s
  | .jqTailWrite dt queue value => Sys2Proof.Machine.execJqTailWrite dt queue value s
  | .jqDisable dt queue => Sys2Proof.Machine.execJqDisable dt queue s
  | .dmaJobDone dt moved bytes err ue => Sys2Proof.Machine.execDmaJobDone dt moved bytes err ue s
  | .irqAck dt mask => Sys2Proof.Machine.execIrqAck dt mask s
  | .windowAccess dt offset write len bytes ue => Sys2Proof.Machine.execWindowAccess dt offset write len bytes ue s
  | .registerWrite dt fn at_ value store ue => Sys2Proof.Machine.execRegisterWrite dt fn at_ value store ue s
  | .frameFlip dt reached store cut bad ue => Sys2Proof.Machine.execFrameFlip dt reached store cut bad ue s
  | .flipPreNotice dt => Sys2Proof.Machine.execFlipPreNotice dt s
  | .compareEvent dt => Sys2Proof.Machine.execCompareEvent dt s
  | .ptpMessage dt port domain kind x => Sys2Proof.Machine.execPtpMessage dt port domain kind x s
  | .ptpSendTimer dt port domain kind => Sys2Proof.Machine.execPtpSendTimer dt port domain kind s
  | .syncTimeout dt domain => Sys2Proof.Machine.execSyncTimeout dt domain s
  | .announceTimeout dt domain => Sys2Proof.Machine.execAnnounceTimeout dt domain s
  | .rateSchedule dt => Sys2Proof.Machine.execRateSchedule dt s
  | .rateCancel dt => Sys2Proof.Machine.execRateCancel dt s
  | .timeStep dt => Sys2Proof.Machine.execTimeStep dt s
  | .domainSwitchMessage dt domain tick => Sys2Proof.Machine.execDomainSwitchMessage dt domain tick s
  | .switchTick dt => Sys2Proof.Machine.execSwitchTick dt s
  | .switchNoMessageTimer dt => Sys2Proof.Machine.execSwitchNoMessageTimer dt s
  | .revertTimer dt => Sys2Proof.Machine.execRevertTimer dt s
  | .holdoverExpired dt => Sys2Proof.Machine.execHoldoverExpired dt s
  | .portBringupStart dt port => Sys2Proof.Machine.execPortBringupStart dt port s
  | .portRetrain dt port => Sys2Proof.Machine.execPortRetrain dt port s
  | .laneControlFrame dt lane bytes => Sys2Proof.Machine.execLaneControlFrame dt lane bytes s
  | .leaderStepTimer dt port => Sys2Proof.Machine.execLeaderStepTimer dt port s
  | .trainRetry dt port => Sys2Proof.Machine.execTrainRetry dt port s
  | .relockDone dt port ok bad => Sys2Proof.Machine.execRelockDone dt port ok bad s
  | .adaptationDone dt lane h w => Sys2Proof.Machine.execAdaptationDone dt lane h w s
  | .stepCheckDone dt port res solo => Sys2Proof.Machine.execStepCheckDone dt port res solo s
  | .noPartnerTimeout dt port => Sys2Proof.Machine.execNoPartnerTimeout dt port s
  | .laneFailureDetect dt lane cause seen => Sys2Proof.Machine.execLaneFailureDetect dt lane cause seen s
  | .laneRetrain dt lane => Sys2Proof.Machine.execLaneRetrain dt lane s
  | .retrainRetry dt lane => Sys2Proof.Machine.execRetrainRetry dt lane s
  | .eyeUpdate dt lane h w errors nbits => Sys2Proof.Machine.execEyeUpdate dt lane h w errors nbits s
  | .quietCheckPeriod dt lane h w => Sys2Proof.Machine.execQuietCheckPeriod dt lane h w s
  | .brumationExit dt port => Sys2Proof.Machine.execBrumationExit dt port s
  | .laneTest dt lane => Sys2Proof.Machine.execLaneTest dt lane s
  | .laneReturn dt lane => Sys2Proof.Machine.execLaneReturn dt lane s
  | .testInject dt lane => Sys2Proof.Machine.execTestInject dt lane s
  | .returnLaneSyncLoss dt r seen => Sys2Proof.Machine.execReturnLaneSyncLoss dt r seen s
  | .ringFrameRx dt port words skew => Sys2Proof.Machine.execRingFrameRx dt port words skew s
  | .ringSliceRx dt port h0 h1 h2 h3 payload trailer back bad => Sys2Proof.Machine.execRingSliceRx dt port h0 h1 h2 h3 payload trailer back bad s
  | .ringEnumerate dt => Sys2Proof.Machine.execRingEnumerate dt s
  | .enumMsg dt port dst tiles => Sys2Proof.Machine.execEnum dt port dst tiles s
  | .enumDone dt port dst src tiles closed => Sys2Proof.Machine.execEnumDone dt port dst src tiles closed s
  | .indexChanged dt port dst src old new => Sys2Proof.Machine.execIndexChanged dt port dst src old new s
  | .mapsMsg dt port tx rx => Sys2Proof.Machine.execMaps dt port tx rx s
  | .mapReq dt port failed readmit id => Sys2Proof.Machine.execMapReq dt port failed readmit id s
  | .mapAck dt port id => Sys2Proof.Machine.execMapAck dt port id s
  | .mapReqRepeat dt port => Sys2Proof.Machine.execMapReqRepeat dt port s
  | .statusMsgTimer dt => Sys2Proof.Machine.execStatusMsgTimer dt s
  | .sideChannelForward dt port bytes => Sys2Proof.Machine.execSideChannelForward dt port bytes s
  | .laneOutOrder dt lane => Sys2Proof.Machine.execLaneOutOrder dt lane s
  | .mapChangeSend dt port left => Sys2Proof.Machine.execMapChangeSend dt port left s
  | .laneClean dt lane errors => Sys2Proof.Machine.execLaneClean dt lane errors s
  | .decisionPoint dt => Sys2Proof.Machine.execDecisionPoint dt s
  | .laneLoadComplete dt lane => Sys2Proof.Machine.execLaneLoadComplete dt lane s
  | .panelBufferFull dt lane => Sys2Proof.Machine.execPanelBufferFull dt lane s
  | .statusPoll dt r => Sys2Proof.Machine.execStatusPoll dt r s
  | .statusResponse dt r bytes => Sys2Proof.Machine.execStatusResponse dt r bytes s
  | .statusReqTimeout dt r => Sys2Proof.Machine.execStatusReqTimeout dt r s
  | .icAccRead dt => Sys2Proof.Machine.execIcAccRead dt s
  | .icAccWrite dt => Sys2Proof.Machine.execIcAccWrite dt s
  | .probationExpiry dt lane => Sys2Proof.Machine.execProbationExpiry dt lane s
  | .panelLockTimer dt lane => Sys2Proof.Machine.execPanelLockTimer dt lane s
  | .panelLinkupDone dt => Sys2Proof.Machine.execPanelLinkupDone dt s
  | .rayStartReached dt => Sys2Proof.Machine.execRayStartReached dt s
  | .rayGroup dt faults => Sys2Proof.Machine.execRayGroup dt faults s
  | .probeCycle dt => Sys2Proof.Machine.execProbeCycle dt s
  | .scheduleBlockReloaded dt fetch block ue => Sys2Proof.Machine.execScheduleBlockReloaded dt fetch block ue s
  | .tableReloadDone dt view index ue => Sys2Proof.Machine.execTableReloadDone dt view index ue s
  | .fillIssue dt bad => Sys2Proof.Machine.execFillIssue dt bad s
  | .fillComplete dt entry ue => Sys2Proof.Machine.execFillComplete dt entry ue s
  | .lastRayOut dt => Sys2Proof.Machine.execLastRayOut dt s
  | .brushFault dt brush lost => Sys2Proof.Machine.execBrushFault dt brush lost s
  | .cutoff dt done => Sys2Proof.Machine.execCutoff dt done s
  | .cullPlanDone dt ue => Sys2Proof.Machine.execCullPlanDone dt ue s
  | .ingestRowStart dt slot ue => Sys2Proof.Machine.execIngestRowStart dt slot ue s
  | .ingestPassDone dt slot ecc => Sys2Proof.Machine.execIngestPassDone dt slot ecc s
  | .glazeSyncDone dt => Sys2Proof.Machine.execGlazeSyncDone dt s
  | .glazeRestoreDone dt table => Sys2Proof.Machine.execGlazeRestoreDone dt table s
  | .unitArrival dt => Sys2Proof.Machine.execUnitArrival dt s
  | .engineDispatch dt engine ue => Sys2Proof.Machine.execEngineDispatch dt engine ue s
  | .sliceDecodeDone dt engine ue => Sys2Proof.Machine.execSliceDecodeDone dt engine ue s
  | .concealDone dt blocks ue => Sys2Proof.Machine.execConcealDone dt blocks ue s
  | .contextEcc dt ctx => Sys2Proof.Machine.execContextEcc dt ctx s
  | .engineFault dt engine done => Sys2Proof.Machine.execEngineFault dt engine done s
  | .ctxClear dt ctx => Sys2Proof.Machine.execCtxClear dt ctx s
  | .dcCtxSelWrite dt value => Sys2Proof.Machine.execDcCtxSelWrite dt value s
  | .pictureStart dt => Sys2Proof.Machine.execPictureStart dt s
  | .pictureCoded dt ue => Sys2Proof.Machine.execPictureCoded dt ue s
  | .fragmentSend dt stream sent => Sys2Proof.Machine.execFragmentSend dt stream sent s
  | .popRecordWrite dt index room sent ue => Sys2Proof.Machine.execPopRecordWrite dt index room sent ue s
  | .enRingHeadWrite dt stream head => Sys2Proof.Machine.execEnRingHeadWrite dt stream head s
  | .rapRequest dt stream => Sys2Proof.Machine.execRapRequest dt stream s
  | .encoderFault dt => Sys2Proof.Machine.execEncoderFault dt s
  | .stencilGo dt => Sys2Proof.Machine.execStencilGo dt s
  | .stencilModeWrite dt mode => Sys2Proof.Machine.execStencilModeWrite dt mode s
  | .listTailWrite dt value ue => Sys2Proof.Machine.execListTailWrite dt value ue s
  | .listResumeSkip dt ue => Sys2Proof.Machine.execListResumeSkip dt ue s
  | .listResumeRetry dt ue => Sys2Proof.Machine.execListResumeRetry dt ue s
  | .stencilCommandDone dt ue => Sys2Proof.Machine.execStencilCommandDone dt ue s
  | .watermarkReached dt => Sys2Proof.Machine.execWatermarkReached dt s
  | .behindBeamTimeout dt => Sys2Proof.Machine.execBehindBeamTimeout dt s
  | .stencilEcc dt word rows ue => Sys2Proof.Machine.execStencilEcc dt word rows ue s
  | .cxJobStart dt pipe => Sys2Proof.Machine.execCxJobStart dt pipe s
  | .cxJobEnd dt pipe verify ue => Sys2Proof.Machine.execCxJobEnd dt pipe verify ue s
  | .cxFault dt pipe made ue => Sys2Proof.Machine.execCxFault dt pipe made ue s
  | .crcStart dt unit_ => Sys2Proof.Machine.execCrcStart dt unit_ s
  | .crcStop dt unit_ => Sys2Proof.Machine.execCrcStop dt unit_ s
  | .crcCompare dt unit_ => Sys2Proof.Machine.execCrcCompare dt unit_ s
  | .crcFeed dt unit_ bytes => Sys2Proof.Machine.execCrcFeed dt unit_ bytes s
  | .crcValueWrite dt unit_ value => Sys2Proof.Machine.execCrcValueWrite dt unit_ value s
  | .snoopItem dt point overflow => Sys2Proof.Machine.execSnoopItem dt point overflow s
  | .crcUnitFault dt unit_ => Sys2Proof.Machine.execCrcUnitFault dt unit_ s
  | .imageLoadBegin dt => Sys2Proof.Machine.execImageLoadBegin dt s
  | .imageLoadData dt bytes => Sys2Proof.Machine.execImageLoadData dt bytes s
  | .imageLoadEnd dt => Sys2Proof.Machine.execImageLoadEnd dt s
  | .imageLoadAbort dt => Sys2Proof.Machine.execImageLoadAbort dt s
  | .imageLoadTimeout dt => Sys2Proof.Machine.execImageLoadTimeout dt s
  | .dmaLoadStart dt => Sys2Proof.Machine.execDmaLoadStart dt s
  | .dmaLoadAbort dt => Sys2Proof.Machine.execDmaLoadAbort dt s
  | .dmaLoadEnd dt bytes err => Sys2Proof.Machine.execDmaLoadEnd dt bytes err s
  | .verificationDone dt slot => Sys2Proof.Machine.execVerificationDone dt slot s
  | .actRequest dt => Sys2Proof.Machine.execActRequest dt s
  | .actCancel dt => Sys2Proof.Machine.execActCancel dt s
  | .sramCopyDone dt ue => Sys2Proof.Machine.execSramCopyDone dt ue s
  | .storeCmd dt => Sys2Proof.Machine.execStoreCmd dt s
  | .storeDone dt ue => Sys2Proof.Machine.execStoreDone dt ue s
  | .rayQuery dt index => Sys2Proof.Machine.execRayQuery dt index s
  | .rayQueryDone dt => Sys2Proof.Machine.execRayQueryDone dt s
  | .mr4Read dt port ch rank rate => Sys2Proof.Machine.execMr4Read dt port ch rank rate s
  | .refreshDue dt port ch rank => Sys2Proof.Machine.execRefreshDue dt port ch rank s
  | .zqLatch dt port ch => Sys2Proof.Machine.execZqLatch dt port ch s
  | .wckTrack dt port ch => Sys2Proof.Machine.execWckTrack dt port ch s
  | .patrolScrub dt ue => Sys2Proof.Machine.execPatrolScrub dt ue s
  | .powerDownEntry dt port ch rank => Sys2Proof.Machine.execPowerDownEntry dt port ch rank s
  | .sramScrub dt fixed words => Sys2Proof.Machine.execSramScrub dt fixed words s
  | .faultReport dt => Sys2Proof.Machine.execFaultReport dt s
  | .frameHoldEnd dt => Sys2Proof.Machine.execFrameHoldEnd dt s
  | .recoveryWindowClose dt => Sys2Proof.Machine.execRecoveryWindowClose dt s
  | .safeStateEnd dt => Sys2Proof.Machine.execSafeStateEnd dt s
  | .faultClear dt => Sys2Proof.Machine.execFaultClear dt s
  | .flipWatchdog dt => Sys2Proof.Machine.execFlipWatchdog dt s
  | .heartbeatMissing dt island => Sys2Proof.Machine.execHeartbeatMissing dt island s
  | .tickReplicaCompare dt diff => Sys2Proof.Machine.execTickReplicaCompare dt diff s
  | .islandRecovered dt island => Sys2Proof.Machine.execIslandRecovered dt island s
  | .selfTestDone dt subsystem unit_ pass => Sys2Proof.Machine.execSelfTestDone dt subsystem unit_ pass s
  | .unitRestore dt value => Sys2Proof.Machine.execUnitRestore dt value s
  | .laneReadmit dt lane => Sys2Proof.Machine.execLaneReadmit dt lane s
  | .sequencerVote dt copy => Sys2Proof.Machine.execSequencerVote dt copy s
  | .logClear dt => Sys2Proof.Machine.execLogClear dt s
  | .registerRead dt fn at_ => Sys2Proof.Machine.execRegisterRead dt fn at_ s
  | .laneControlPeriod dt lane res => Sys2Proof.Machine.execLaneControlPeriod dt lane res s
  | .panelBufferDrained dt lane => Sys2Proof.Machine.execPanelBufferDrained dt lane s
  | .slewComplete dt => Sys2Proof.Machine.execSlewComplete dt s
  | .refclkRestored dt => Sys2Proof.Machine.execRefclkRestored dt s
  | .returnLaneSyncRegained dt r seen => Sys2Proof.Machine.execReturnLaneSyncRegained dt r seen s
  | .fieldPortRecovered dt f => Sys2Proof.Machine.execFieldPortRecovered dt f s
  | .pairOutResetTimer dt cut => Sys2Proof.Machine.execPairOutResetTimer dt cut s

end Sys2Proof.Machine
end

