-- ==== Sys2Proof/Safety.lean ====
section
/-! DEFINITION. What the statements speak of: the outcome of a command, the form of memory, and which commands reach DRAM. -/
namespace Sys2Proof.Machine

/-- The command runs on the state and answers a next state that meets `P`. -/
def completes (i : Instr) (s : State) (P : State → Prop) : Prop := ∃ t, exec i s = .next t ∧ P t

/-- The command runs, leaves the octets of DRAM and the queue as they were and no burst with an error that had none, and the part it leaves meets
`P`. -/
def leaves (i : Instr) (s : State) (P : Ctl → Prop) : Prop :=
  ∃ t, exec i s = .next t ∧ t.mem.dram = s.mem.dram ∧ (∀ b, s.mem.errOf b = 0 → t.mem.errOf b = 0) ∧ t.pending = s.pending ∧ P t.ctl

/-- A request for this part passes checks 1 to 7 of R455 in the session `x` (none: sessionless), and is no repeat (16 R453 to R455, R461). -/
def Ctl.admits (c : Ctl) (src : VAddr) (x : Option Sess) (m : List Byte) : Bool :=
  c.dy.serving && decide (c.ea 0x1580 0 = 0) && (!c.tadpole || decide (src.tr = 0)) && decide (16 ≤ m.length) && decide (m.length ≤ vosMax src.tr) &&
  !bit (u8At m 2) 0 && decide (u8At m 0 = 1) && decide (1 ≤ u8At m 1) && decide (u8At m 1 ≤ 7) && vosFormat m && decide (u8At m 12 = 0xFE) &&
  c.sessOk src m && decide (c.sess (vosSess m) = x) &&
  match x with
  | none => !bit (u8At m 2) 1
  | some x => x.isOpen && (x.lastReply.isEmpty || decide (x.lastReq ≠ vosSame m)) &&
      (if x.ks.isEmpty then !bit (u8At m 2) 1
       else bit (u8At m 2) 1 && decide (slice m (16 + leAt m 6 2) 16 = (hmac x.ks (m.take (16 + leAt m 6 2))).take 16)) &&
      (!x.installer || x.lastSeq.all (fun q => decide (0 < toSigned 32 (leAt m 8 4 + 2 ^ 32 - q))))

/-- The part as an admitted request finds it: its session has taken the request's SEQ and time (16 R454, R463). -/
def Ctl.heard (c : Ctl) (x : Option Sess) (m : List Byte) : Ctl :=
  match x with
  | none => c
  | some x => c.updSess x.num (fun s => { s with lastSeq := if s.installer then some (leAt m 8 4) else s.lastSeq, lastValid := c.up })

/-- The key of a session's MAC, empty where it has none. -/
def sessKey (x : Option Sess) : List Byte := x.elim [] Sess.ks

/-- A datagram to a Vostan client (16 R451). -/
def Ctl.datagram (c : Ctl) (src : VAddr) (m : List Byte) : Emit := { kind := .vostan, a := c.dy.udpPort, b := src.a, c := src.p, bytes := m }

/-- The MSI-X message of a vector: a memory write of its data to its address (17 R486). -/
def Ctl.msixMessage (c : Ctl) (fn v : Nat) : Emit :=
  { kind := .msix, a := fn, b := v,
    bytes := toLE 4 (c.msixWord fn (4 * v)) ++ toLE 4 (c.msixWord fn (4 * v + 1)) ++ toLE 4 (c.msixWord fn (4 * v + 2)) }

/-- A message of the side channel has left a port, or waits whole in its queue (12 R367). -/
abbrev Ctl.sideCarries (c : Ctl) (p ty dst : Nat) (m : List Byte) : Prop :=
  ({ kind := .side, a := p, b := ty, c := dst, bytes := m } : Emit) ∈ c.out ∨
    (c.rgPort p).side.contains ⟨sideClass ty, ty, dst, m.length, m⟩ = true

/-- A port is up and its side-channel queue has room for so many octets. -/
abbrev Ctl.sideRoom (c : Ctl) (p n : Nat) : Prop := c.portUp p = true ∧ sideOctetsHeld (c.rgPort p).side + n ≤ 16384

/-- DRAM keeps its canonical form, and nothing is under way on its links between two steps. -/
def State.wf (s : State) : Prop := s.mem.wf = true ∧ s.mem.link = []

/-- The pieces of the machine's state that a frame speaks of; time stands apart, since every command takes some. -/
inductive Part where
  /-- Draws from the free values. -/
  | draws
  /-- Active values of the dictionary entries. -/
  | entries
  /-- Their staged values. -/
  | shadow
  /-- What MRAM keeps of them. -/
  | nonVolatile
  /-- Own register fields. -/
  | registers
  /-- Halves of 64-bit registers held. -/
  | heldHalves
  /-- The IRQ pin. -/
  | irq
  /-- What the last register or window read gave. -/
  | readData
  /-- Vostan sessions, transfers and staged sets (16). -/
  | messages
  /-- Queues, rings and buffers of the host (17). -/
  | host
  /-- Time domains and flips (13). -/
  | time
  /-- The clock's frequency, its slew, and how far the domains stand apart; their common drift is time's. -/
  | clock
  /-- The fault manager (20). -/
  | faults
  /-- Start, firmware and keys (18). -/
  | boot
  /-- The memory controller (14). -/
  | memory
  /-- Compression jobs (15). -/
  | engines
  /-- Supplies, temperatures and calibration (19). -/
  | power
  /-- Lanes and ports (11). -/
  | lanes
  /-- The ring transport (12). -/
  | ring
  /-- The image manager (03). -/
  | images
  /-- The decoder (05). -/
  | decoder
  /-- Palette and Glaze (07). -/
  | palette
  /-- Easel (06). -/
  | easel
  /-- Panel drive (09). -/
  | panel
  /-- Stencil (08). -/
  | stencil
  /-- The return encoder (10). -/
  | encoder
  /-- What the part sent out. -/
  | outputs
  /-- The octets and the poison of DRAM. -/
  | dram
  deriving DecidableEq, Repr

/-- Every part. -/
def Part.all : List Part :=
  [.draws, .entries, .shadow, .nonVolatile, .registers, .heldHalves, .irq, .readData, .messages, .host, .time, .clock, .faults, .boot,
    .memory, .engines, .power, .lanes, .ring, .images, .decoder, .palette, .easel, .panel, .stencil, .encoder, .outputs, .dram]

/-- The parts that show an event: its counters and log entries, event register, pin, subscriptions, queues, fault sequencer, messages. -/
def Part.reported : List Part := [.entries, .registers, .irq, .messages, .host, .faults, .outputs]

/-- A part reads in one state as in another. -/
def Part.same : Part → State → State → Prop
  | .draws, a, b => a.ctl.draws = b.ctl.draws
  | .entries, a, b => a.ctl.ent = b.ctl.ent
  | .shadow, a, b => a.ctl.shadow = b.ctl.shadow
  | .nonVolatile, a, b => a.ctl.nv = b.ctl.nv
  | .registers, a, b => a.ctl.regs = b.ctl.regs
  | .heldHalves, a, b => a.ctl.loHeld = b.ctl.loHeld ∧ a.ctl.hiLatch = b.ctl.hiLatch
  | .irq, a, b => a.ctl.irq = b.ctl.irq
  | .readData, a, b => a.ctl.readData = b.ctl.readData
  | .messages, a, b => a.ctl.dy = b.ctl.dy
  | .host, a, b => a.ctl.hi = b.ctl.hi
  | .time, a, b => a.ctl.tb = b.ctl.tb
  | .clock, a, b => a.ctl.clk.freq = b.ctl.clk.freq ∧ a.ctl.clk.est = b.ctl.clk.est ∧ a.ctl.clk.estTemp = b.ctl.clk.estTemp ∧
      a.ctl.clk.slew.map Prod.fst = b.ctl.clk.slew.map Prod.fst ∧ a.ctl.clk.offA - a.ctl.clk.offB = b.ctl.clk.offA - b.ctl.clk.offB
  | .faults, a, b => a.ctl.fm = b.ctl.fm
  | .boot, a, b => a.ctl.bt = b.ctl.bt
  | .memory, a, b => a.ctl.mc = b.ctl.mc
  | .engines, a, b => a.ctl.cx = b.ctl.cx
  | .power, a, b => a.ctl.pm = b.ctl.pm
  | .lanes, a, b => a.ctl.ln = b.ctl.ln
  | .ring, a, b => a.ctl.rg = b.ctl.rg
  | .images, a, b => a.ctl.xz = b.ctl.xz
  | .decoder, a, b => a.ctl.dc = b.ctl.dc
  | .palette, a, b => a.ctl.pl = b.ctl.pl
  | .easel, a, b => a.ctl.es = b.ctl.es
  | .panel, a, b => a.ctl.pd = b.ctl.pd
  | .stencil, a, b => a.ctl.st = b.ctl.st
  | .encoder, a, b => a.ctl.en = b.ctl.en
  | .outputs, a, b => a.ctl.out = b.ctl.out
  | .dram, a, b => a.mem = b.mem

/-- The parts that a command may change. -/
def mayChange : Instr → List Part
  | .resetNRise .. => [.boot]
  | .islandGateChange .. | .ctxClear .. | .crcFeed .. | .crcValueWrite .. => [.entries]
  | .lockoutExpiry .. | .relayTimeout .. => [.messages]
  | .eqHeadWrite .. | .dcCtxSelWrite .. => [.registers]
  | .flipPreNotice .. | .compareEvent .. => [.time]
  | .mapsMsg .. | .mapAck .. => [.ring]
  | .laneLoadComplete .. | .probationExpiry .. => [.panel]
  | .rayStartReached .. | .probeCycle .. | .lastRayOut .. => [.easel]
  | .glazeRestoreDone .. => [.palette]
  | .rapRequest .. => [.encoder]
  | .laneReadmit .. => [.faults]
  | .tadpoleSupplyRetry .. => [.power, .outputs]
  | .recalTrigger .. | .calNow .. => [.entries, .power]
  | .fwLoadAbort .. | .bootTryOther .. => [.entries, .boot]
  | .pf0Commit .. => [.registers, .messages]
  | .msixCoalesce .. => [.host, .outputs]
  | .jqTailWrite .. | .jqDisable .. => [.registers, .host]
  | .rateSchedule .. | .rateCancel .. => [.entries, .time]
  | .domainSwitchMessage .. => [.time, .clock]
  | .adaptationDone .. | .laneRetrain .. | .retrainRetry .. | .returnLaneSyncRegained .. => [.entries, .lanes]
  | .panelBufferFull .. | .panelBufferDrained .. => [.easel, .panel]
  | .icAccRead .. | .icAccWrite .. => [.entries, .panel]
  | .stencilModeWrite .. => [.entries, .registers]
  | .crcStart .. => [.entries, .engines]
  | .rayQuery .. | .rayQueryDone .. => [.registers, .images]
  | .refreshDue .. | .zqLatch .. | .wckTrack .. | .powerDownEntry .. => [.entries, .memory]
  | .recoveryWindowClose .. | .logClear .. => [.entries, .faults]
  | .refclkRestored .. => [.faults, .power]
  | .pf0Discard .. => [.shadow, .registers, .messages]
  | .eqEnable .. | .eqRecordWrite .. => [.registers, .host, .outputs]
  | .irqAck .. => [.entries, .irq, .outputs]
  | .mapReq .. | .mapReqRepeat .. | .statusMsgTimer .. | .sideChannelForward .. => [.entries, .ring, .outputs]
  | .statusPoll .. => [.entries, .panel, .outputs]
  | .fieldPortRecovered .. => [.entries, .messages, .lanes]
  | .ptpSendTimer .. => [.entries, .time, .ring, .outputs]
  | .testInject .. => [.entries, .registers, .lanes, .outputs]
  | .laneClean .. => [.entries, .lanes, .ring, .outputs]
  | .glazeSyncDone .. => [.entries, .shadow, .messages, .palette]
  | .imageLoadAbort .. | .dmaLoadAbort .. => [.entries, .registers, .engines, .images]
  | .lifeUpdate .. => [.entries, .nonVolatile, .boot, .engines, .power]
  | .relayReply .. => [.entries, .messages, .host, .ring, .outputs]
  | .laneOutOrder .. => [.entries, .faults, .lanes, .ring, .outputs]
  | .registerRead .. => [.entries, .registers, .heldHalves, .readData, .memory]
  | .pllUnlock .. | .hostLinkUp .. | .quietCheckPeriod .. | .crcCompare .. | .crcUnitFault .. | .frameHoldEnd .. | .safeStateEnd ..
  | .faultClear .. | .flipWatchdog .. | .heartbeatMissing .. | .sequencerVote .. => Part.reported
  | .sequenceFailed .. | .siteReadmitted .. | .throttleHoldExpiry .. | .avsUpdate .. | .avsEmergency .. | .pmbusPoll .. | .pmbAlert ..
  | .refclkLost .. | .referenceCompare .. | .calInstanceDone .. => Part.reported ++ [.power]
  | .fwLoadBegin .. | .fwLoadData .. | .fwLoadEnd .. | .fwCheckDone .. | .bootConfirm .. | .trialConfirmTimer .. => Part.reported ++ [.boot]
  | .eventBatchSend .. | .ringEnumerate .. | .enumMsg .. | .enumDone .. | .indexChanged .. => Part.reported ++ [.ring]
  | .holdoverExpired .. => Part.reported ++ [.time]
  | .relockDone .. | .laneTest .. | .returnLaneSyncLoss .. => Part.reported ++ [.lanes]
  | .fillIssue .. | .brushFault .. => Part.reported ++ [.easel]
  | .ingestPassDone .. => Part.reported ++ [.palette]
  | .contextEcc .. => Part.reported ++ [.decoder]
  | .pictureStart .. | .fragmentSend .. | .enRingHeadWrite .. | .encoderFault .. => Part.reported ++ [.encoder]
  | .stencilGo .. | .watermarkReached .. | .behindBeamTimeout .. => Part.reported ++ [.stencil]
  | .crcStop .. | .snoopItem .. => Part.reported ++ [.engines]
  | .actRequest .. | .actCancel .. => Part.reported ++ [.images]
  | .mr4Read .. | .islandRecovered .. => Part.reported ++ [.memory]
  | .timeStep .. | .switchTick .. | .tickReplicaCompare .. | .slewComplete .. => Part.reported ++ [.time, .clock]
  | .revertTimer .. => Part.reported ++ [.time, .ring]
  | .portBringupStart .. | .portRetrain .. | .laneControlFrame .. | .leaderStepTimer .. | .trainRetry .. | .stepCheckDone ..
  | .noPartnerTimeout .. | .brumationExit .. | .ringFrameRx .. | .mapChangeSend .. | .laneControlPeriod .. =>
    Part.reported ++ [.lanes, .ring]
  | .eyeUpdate .. => Part.reported ++ [.draws, .lanes]
  | .laneReturn .. => Part.reported ++ [.lanes, .panel]
  | .decisionPoint .. => Part.reported ++ [.easel, .panel]
  | .panelLinkupDone .. => Part.reported ++ [.boot, .panel]
  | .imageLoadBegin .. | .imageLoadEnd .. | .dmaLoadStart .. | .verificationDone .. | .storeCmd .. => Part.reported ++ [.engines, .images]
  | .patrolScrub .. => Part.reported ++ [.memory, .dram]
  | .cpMismatch .. | .cpWatchdog .. => Part.reported ++ [.clock, .boot, .power]
  | .keyWrite .. => Part.reported ++ [.nonVolatile, .boot, .engines]
  | .blockTransferAbandon .. | .loginChallengeTimeout .. | .sessionTimeout .. | .pcieLinkReset .. | .functionLevelReset ..
  | .imageLoadTimeout .. => Part.reported ++ [.boot, .engines, .images]
  | .windowAccess .. => Part.reported ++ [.readData, .memory, .dram]
  | .ptpMessage .. | .syncTimeout .. | .announceTimeout .. | .switchNoMessageTimer .. => Part.reported ++ [.time, .clock, .ring]
  | .laneFailureDetect .. | .statusReqTimeout .. | .panelLockTimer .. => Part.reported ++ [.lanes, .easel, .panel]
  | .fillComplete .. => Part.reported ++ [.memory, .easel, .dram]
  | .cutoff .. | .sliceDecodeDone .. | .concealDone .. | .engineFault .. => Part.reported ++ [.memory, .decoder, .dram]
  | .cullPlanDone .. | .ingestRowStart .. => Part.reported ++ [.memory, .palette, .dram]
  | .popRecordWrite .. => Part.reported ++ [.memory, .encoder, .dram]
  | .sramCopyDone .. | .sramScrub .. => Part.reported ++ [.memory, .images, .dram]
  | .selfTestDone .. | .unitRestore .. => Part.reported ++ [.decoder, .easel, .encoder]
  | .pwrGoodRise .. => Part.reported ++ [.draws, .boot, .power, .lanes]
  | .dmaJobDone .. | .cxJobStart .. | .cxJobEnd .. | .cxFault .. | .imageLoadData .. | .dmaLoadEnd .. | .storeDone .. =>
    Part.reported ++ [.memory, .engines, .images, .dram]
  | .statusResponse .. => Part.reported ++ [.lanes, .easel, .panel, .encoder]
  | .engineDispatch .. => Part.reported ++ [.memory, .decoder, .palette, .dram]
  | .pictureCoded .. => Part.reported ++ [.draws, .memory, .encoder, .dram]
  | .listTailWrite .. | .listResumeSkip .. | .listResumeRetry .. => Part.reported ++ [.draws, .memory, .stencil, .dram]
  | .stencilEcc .. => Part.reported ++ [.memory, .engines, .stencil, .dram]
  | .porRelease .. => Part.reported ++ [.nonVolatile, .boot, .engines, .power, .images]
  | .cpRestartDone .. => Part.reported ++ [.nonVolatile, .boot, .engines, .ring, .images]
  | .rayGroup .. => Part.reported ++ [.engines, .palette, .easel, .panel, .encoder]
  | .unitArrival .. => Part.reported ++ [.memory, .engines, .decoder, .palette, .dram]
  | .stencilCommandDone .. => Part.reported ++ [.draws, .memory, .engines, .stencil, .dram]
  | .ringSliceRx .. => Part.reported ++ [.engines, .ring, .decoder, .easel, .panel, .encoder]
  | .scheduleBlockReloaded .. | .tableReloadDone .. => Part.reported ++ [.memory, .engines, .images, .easel, .panel, .dram]
  | .faultReport .. => Part.reported ++ [.memory, .lanes, .decoder, .easel, .panel, .encoder]
  | .dramTrainingComplete .. => Part.reported ++ [.draws, .nonVolatile, .boot, .memory, .power, .lanes, .ring, .images, .dram]
  | .shutdownRestart .. => Part.all.filter (fun p => !List.contains [.draws, .nonVolatile, .dram] p)
  | .powerOn .. => Part.all.filter (fun p => !List.contains [.draws, .nonVolatile] p)
  | .warmReset .. | .startTimeout .. | .supplyFail .. | .thermalRound .. | .bootRestart .. | .bootClearSettings .. | .cyclicNotify ..
  | .onChangeNotify .. | .pairOutResetTimer .. => Part.all.filter (fun p => !List.contains [.draws, .dram] p)
  | .vostanRead .. | .blockRead .. | .subscribe .. | .commit .. | .commitDiscard .. | .loginChallenge .. | .loginProof ..
  | .loginLogout .. => Part.all.filter (fun p => !List.contains [.dram] p)
  | .vostanWrite .. | .blockWrite .. | .mailboxGo .. | .registerWrite .. | .frameFlip .. => Part.all

/-- The tables of the part have their fixed sizes: two image slots, 16 layers, four decode engines, 16 return streams and two egress
queues, 32 panel lanes on four return lanes, 56 lanes, two ring ports, two mailboxes, 24 sites; no corrected burst waits to be written back between two steps; and units
belong to one of the 1,024 contexts. -/
def Ctl.shaped (c : Ctl) : Prop :=
  c.xz.slots.length = 2 ∧ c.pl.slots.length = 16 ∧ c.dc.engs.length = 4 ∧ c.en.streams.length = 16 ∧ c.en.egress.length = 2 ∧ c.pd.lanes.length = 32 ∧ c.pd.rets.length = 4 ∧
  c.ln.lanes.length = 56 ∧ c.ln.ports.length = 2 ∧ c.rg.ports.length = 2 ∧ c.hi.mbxReq.length = 2 ∧ c.hi.mbxReply.length = 2 ∧ c.pm.sites.length = 24 ∧
  c.mc.fixes = [] ∧ ∀ u ∈ c.dc.units, u.ctx < 1024

end Sys2Proof.Machine
end

