-- ==== Sys2Proof/Certificates/Slice0/Obligations.lean ====
section
/-! DEFINITION. What is stated of the block, for the provers. `leaves` and `completes` (Safety.lean) say that a command answers a next
state and what that state holds: `leaves` also that DRAM and the queue are untouched. The first operand of every command is the time
that has passed (assumption log 4), and a timeout has an effect only where its timer is due (assumption log 3): the hypotheses say when
that is. Values that the spec leaves open stand in hypotheses or are not spoken of. -/
open Sys2Proof Sys2Proof.Machine

/-! ### The machine -/

/-- A step takes the command at the front of the queue and runs it on the rest of the queue; without a command the block idles (the
model's choice, assumption log 1). Every command answers a next state, and the commands that wait stay as they are. -/
def Obligations.StepTakesTheFrontCommand : Prop :=
  (∀ (i : Instr) (s : State), step { s with pending := i :: s.pending } = exec i s) ∧
  (∀ (s : State), s.pending = [] → step s = .next s) ∧
  (∀ (i : Instr) (s : State), ∃ t, exec i s = .next t ∧ t.pending = s.pending)

/-- After reset no command waits, DRAM lists nothing, every table of the part has its size, and entries read as the defaults of their
tables: RING_POSITION, KEEP, WALL_TILE_INDEX, ACTIVE_SLOT, RAY_START, BRUSHES_IN_SERVICE, FLIP_LEAD, FLIP_RATE, CONCEAL_RESERVE and
LOG_LEVEL. -/
def Obligations.ResetLeavesTheDefaults : Prop :=
  State.reset.pending = [] ∧ State.reset.mem.dram = [] ∧ State.reset.wf ∧ State.reset.ctl.shaped ∧
  (State.reset.ctl.e 0x210003 = 0xFF ∧ State.reset.ctl.e 0x410010 = 0xFF ∧ State.reset.ctl.e 0x410305 = 0xFF ∧ State.reset.ctl.e 0x210007 = 0xFFFF ∧
    State.reset.ctl.e 0x400004 = 250 ∧ State.reset.ctl.e 0x400005 = 32 ∧ State.reset.ctl.e 0x440002 = 10000 ∧ State.reset.ctl.e 0x230006 = 120000 ∧
    State.reset.ctl.e 0x300103 = 500 ∧ State.reset.ctl.e 0x700005 = 0x40) ∧
  State.reset.ctl.hasImage = false ∧ State.reset.ctl.fm.safe = 0 ∧ State.reset.ctl.stList = false

/-- Every step keeps the canonical form of DRAM: addresses rise, and no listed octet equals what an unlisted address reads as. -/
def Obligations.StepsKeepTheFormOfDram : Prop :=
  ∀ (s t : State), s.wf → step s = .next t → t.wf

/-- Every step keeps the sizes of the part's tables, and units in one of the 1,024 contexts. -/
def Obligations.StepsKeepTheTables : Prop :=
  ∀ (s t : State), s.ctl.shaped → step s = .next t → t.ctl.shaped

/-- A command that posts no event changes no part of the machine but those that its row names: DRAM, the entries, the registers and every
other unit read as before. -/
def Obligations.QuietCommandsKeepTheOtherParts : Prop :=
  ∀ (i : Instr) (s t : State) (p : Part), (mayChange i).contains .faults = false → (mayChange i).contains p = false → exec i s = .next t → p.same s t

/-- A command that may post an event changes, beside the parts that show an event, no part of the machine but those that its row names. -/
def Obligations.ReportingCommandsKeepTheOtherParts : Prop :=
  ∀ (i : Instr) (s t : State) (p : Part), (mayChange i).contains .faults = true → (mayChange i).contains p = false → exec i s = .next t → p.same s t

/-- DRAM reads back the octets of a store, every other address reads as before, and a store that covers a burst leaves it without an error. -/
def Obligations.DramReadsBackWhatWasStored : Prop :=
  ∀ (m : Mem) (a : Nat) (bytes : List Byte), m.wf = true → (m.store a bytes).wf = true ∧ (m.store a bytes).read a bytes.length = bytes ∧
    (∀ (x : Nat), x < a ∨ a + bytes.length ≤ x → (m.store a bytes).get x = m.get x) ∧
    (∀ (b : Nat), (m.store a bytes).errOf b = if a ≤ 64 * b ∧ 64 * b + 64 ≤ a + bytes.length then 0 else m.errOf b)

/-- The address map of 14 R407 sends no two DRAM addresses to one place of one port, and no address to a port that is not fitted. -/
def Obligations.DramAddressesMapOneToOne : Prop :=
  ∀ (np a b : Nat), 0 < np → (dramMap np a).1 < np ∧ (dramMap np a = dramMap np b → a = b)

/-- The rays of an image are numbered by hogel and view: the geometry of ray (r × C + c) × (Vx × Vy) + j × Vx + i is that of hogel (c, r)
and view (i, j), and the numbers run from 0 to C × R × Vx × Vy − 1. -/
def Obligations.RayIndicesNameHogelAndView : Prop :=
  ∀ (g : List Byte) (c r i j n : Nat), c < imgCols g → r < imgRows g → i < imgVx g → j < imgVy g → n = (r * imgCols g + c) * (imgVx g * imgVy g) + j * imgVx g + i →
    n < imgCols g * imgRows g * imgVx g * imgVy g ∧ (rayGeo g n).col = c ∧ (rayGeo g n).row = r ∧ (rayGeo g n).i = i ∧ (rayGeo g n).j = j

/-- BLEND_COPY: (Co, Ao) from the source (S, As), the destination (D, Ad) and GALPHA, and what it gives at a = 255 and a = 0. -/
def Obligations.BlendCopyFollowsItsFormula : Prop :=
  (∀ (m : Mem) (q : StCmd) (i j ga a sw dw : Nat), q.op = 3 → ga = q.galpha → sw = toColour q.src.fmt q.fg (q.src.get m (q.sx + i) (q.sy + j)) →
    dw = toColour q.dst.fmt 0 (q.dst.get m (q.dx + i) (q.dy + j)) → a = (sw / 2 ^ 24 % 256 * ga + 127) / 255 →
    q.pixel m i j = some (toPixel q.dst.fmt ((a + (dw / 2 ^ 24 % 256 * (255 - a) + 127) / 255) * 2 ^ 24 +
      ((sw / 2 ^ 16 % 256) * a + (dw / 2 ^ 16 % 256) * (255 - a) + 127) / 255 * 2 ^ 16 + ((sw / 2 ^ 8 % 256) * a + (dw / 2 ^ 8 % 256) * (255 - a) + 127) / 255 * 2 ^ 8 +
      ((sw % 256) * a + (dw % 256) * (255 - a) + 127) / 255))) ∧
  (∀ (v : Nat), v < 2 ^ 16 → toColour 0x11 0 v / 2 ^ 24 = 0xFF) ∧ (∀ (v : Nat), toColour 0x12 0 v % 2 ^ 24 = 0) ∧
  (∀ (ga sw dw : Nat), sw < 2 ^ 32 → dw < 2 ^ 32 → (sw / 2 ^ 24 * ga + 127) / 255 = 255 → ga ≤ 255 → blendWord ga sw dw = sw) ∧
  (∀ (ga sw dw : Nat), sw < 2 ^ 32 → dw < 2 ^ 32 → (sw / 2 ^ 24 * ga + 127) / 255 = 0 → ga ≤ 255 → blendWord ga sw dw = dw)

/-- A load goes to slot 0, or to slot 1 while slot 0 is ACTIVE, discards what the slot held, and is refused with SLOT_BUSY while the
target is PENDING or being stored, or another load runs. -/
def Obligations.LoadsChooseTheirSlot : Prop :=
  (∀ (dt k : Nat) (s : State), s.ctl.cpaUp = true → k = (if (s.ctl.slot 0).st = 6 then 1 else 0) → s.ctl.xz.slots.length = 2 → (s.ctl.slot k).st ≠ 5 → s.ctl.xz.storing ≠ some k → s.ctl.xz.load = none → s.ctl.e 0x410201 ≤ 2 →
    (s.ctl.e 0x410201 ≠ 0 ∨ s.ctl.e 0x410202 ≤ 11534336) → leaves (.imageLoadBegin dt) s fun c => (c.xz.load.map XzLoad.slot) = some k ∧ c.slot k = { st := 1, img := [] } ∧ c.slot (1 - k) = s.ctl.slot (1 - k)) ∧
  (∀ (dt k : Nat) (s : State), s.ctl.cpaUp = true → k = (if (s.ctl.slot 0).st = 6 then 1 else 0) → s.ctl.xz.slots.length = 2 → (s.ctl.slot k).st ≠ 5 → s.ctl.xz.storing ≠ some k → s.ctl.xz.load = none → s.ctl.reg .xzLoadCtrl 0 4 ≤ 2 →
    (s.ctl.reg .xzLoadCtrl 0 4 ≠ 0 ∨ s.ctl.reg .xzLoadLen 0 0 ≤ 11534336) → leaves (.dmaLoadStart dt) s fun c => (c.xz.load.map XzLoad.slot) = some k ∧ c.slot k = { st := 1, img := [] } ∧ c.slot (1 - k) = s.ctl.slot (1 - k)) ∧
  (∀ (dt k : Nat) (s : State), s.ctl.cpaUp = true → k = (if (s.ctl.slot 0).st = 6 then 1 else 0) → ((s.ctl.slot k).st = 5 ∨ s.ctl.xz.storing = some k ∨ s.ctl.xz.load ≠ none) → s.ctl.e 0x410201 ≤ 2 → leaves (.imageLoadBegin dt) s fun c =>
    c.xz = s.ctl.xz ∧ c.e 0x410208 = 0x22) ∧
  (∀ (dt k : Nat) (s : State), s.ctl.cpaUp = true → k = (if (s.ctl.slot 0).st = 6 then 1 else 0) → ((s.ctl.slot k).st = 5 ∨ s.ctl.xz.storing = some k ∨ s.ctl.xz.load ≠ none) → s.ctl.reg .xzLoadCtrl 0 4 ≤ 2 → leaves (.dmaLoadStart dt) s fun c =>
    c.xz = s.ctl.xz ∧ c.e 0x410208 = 0x22)

/-- CK_CFG and the parameters of a CRC unit take a write only while the unit is idle; at any other time the write is ignored and sets
CFG_REFUSED. START loads VALUE with INIT, clears ITEMS and ITEMS_MISSED, and arms the unit in SNOOP mode. -/
def Obligations.CrcUnitsTakeWritesWhileIdle : Prop :=
  (∀ (c : Ctl) (idx u v : Nat), u < 8 → idx ∈ [0x5210, 0x5211, 0x5212, 0x5213] → c.ckHeld u = false → (c.ckBit u 0 = true ∨ c.ckBit u 1 = true) → c.ckWrite idx u v = c.setCkBit u 5 true) ∧
  (∀ (c : Ctl) (idx u v : Nat), u < 8 → idx ∈ [0x5211, 0x5212, 0x5213] → c.ckHeld u = false → c.ckBit u 0 = false → c.ckBit u 1 = false →
    (c.ckWrite idx u v).ea idx u = v % 2 ^ c.ckWidth u ∧ (c.ckWrite idx u v).ckBit u 5 = c.ckBit u 5) ∧
  (∀ (c : Ctl) (u v : Nat), u < 8 → c.ckHeld u = false → c.ckBit u 0 = false → c.ckBit u 1 = false → 1 ≤ bits v 6 0 → bits v 6 0 ≤ 64 → bits v 19 16 ≤ 11 →
    (c.ckWrite 0x5210 u v).ckWidth u = bits v 6 0 ∧ (c.ckWrite 0x5210 u v).ckRefin u = bit v 8 ∧ (c.ckWrite 0x5210 u v).ckRefout u = bit v 9 ∧ (c.ckWrite 0x5210 u v).ckSnoop u = bit v 12) ∧
  (∀ (dt u : Nat) (s : State), u < 8 → s.ctl.ckHeld u = false → leaves (.crcStart dt u) s fun c => c.ckVal 0x5215 u = s.ctl.ckVal 0x5212 u ∧ c.ea 0x521A u = 0 ∧ c.ea 0x521B u = 0 ∧ c.ckBit u 1 = s.ctl.ckSnoop u)

/-! ### Start, resets, power (18, 19, 21) -/

/-- POWER_ON, WARM_RESET, RESET_N_RISE, START_TIMEOUT and SHUTDOWN_RESTART complete: what a reset leaves of the part. POR_RELEASE: a start
that reaches its third step replays the journal and chooses; with the strap it enters Tadpole mode with reason 0x11. A start that does not
reach it is remembered as an early stop. -/
def Obligations.ResetsAndTheStart : Prop :=
  (∀ (dt : Nat) (low : Bool) (s : State), completes (.powerOn dt low) s fun t => t.mem = ({} : Mem) ∧ t.pending = s.pending ∧ t.ctl.nv = s.ctl.nv ∧ t.ctl.regs = [] ∧
    t.ctl.shadow = [] ∧ t.ctl.pm = ({} : PmState) ∧ t.ctl.dy = ({} : DyState) ∧ t.ctl.bt.step = 0 ∧ t.ctl.bt.resetLow = low ∧ t.ctl.bt.cause = 0) ∧
  (∀ (dt : Nat) (cut : Option MramCut) (s : State), s.ctl.pm.down = 0 → s.ctl.bt.resetLow = false → s.ctl.pm.windowOut &&& 195 = 0 → leaves (.warmReset dt cut) s fun c =>
    c.regs = [] ∧ c.shadow = [] ∧ c.dy = ({} : DyState) ∧ c.bt.step = 0 ∧ c.bt.cause = 1 ∧ c.bt.resetLow = true ∧ c.bt.mramStopped = true) ∧
  (∀ (dt : Nat) (s : State), leaves (.resetNRise dt) s fun c => c = { s.ctl.advance dt with bt := { s.ctl.bt with resetLow := false } }) ∧
  (∀ (dt : Nat) (cut : Option MramCut) (s : State), s.ctl.pm.down = 0 → s.ctl.bt.step ≠ 0 → s.ctl.bt.startedAt = none → s.ctl.e 0x110001 ≠ 2 → s.ctl.bt.zeroAt + tS 2 ≤ s.ctl.up + dt →
    leaves (.startTimeout dt cut) s fun c => c.regs = [] ∧ c.shadow = [] ∧ c.dy = ({} : DyState) ∧ c.bt.step = 0 ∧ c.bt.cause = 3) ∧
  (∀ (dt : Nat) (s : State), s.ctl.pm.down = 2 → leaves (.shutdownRestart dt) s fun c => c.regs = [] ∧ c.pm.down = 0 ∧ c.bt.step = 0 ∧ c.bt.cause = 5) ∧
  (∀ (dt : Nat) (s : State) (t0 : Nat), s.ctl.pm.down = 1 → s.ctl.pm.downAt + tS 10 ≤ s.ctl.up + dt → s.ctl.pm.coolSince = some t0 → t0 + tS 1 ≤ s.ctl.up + dt →
    leaves (.shutdownRestart dt) s fun c => c.regs = [] ∧ c.pm.down = 0 ∧ c.bt.step = 0 ∧ c.bt.cause = 4) ∧
  (∀ (dt reach : Nat) (mr : List (Nat × Nat)) (status : List (Option Nat)) (s : State), s.ctl.bt.step = 0 → s.ctl.bt.resetLow = false → s.ctl.pm.down = 0 → 3 ≤ reach →
    leaves (.porRelease dt reach true mr status) s fun c =>
      c.bt.ring = [] ∧ c.bt.zeroAt = s.ctl.up + dt ∧ c.e 0x110001 = 2 ∧ c.e 0x110200 = 0x11 ∧ c.boot.tadpoleLatch = true) ∧
  (∀ (dt reach : Nat) (strap : Bool) (mr : List (Nat × Nat)) (status : List (Option Nat)) (s : State), s.ctl.bt.step = 0 → s.ctl.bt.resetLow = false → s.ctl.pm.down = 0 → reach < 3 →
    leaves (.porRelease dt reach strap mr status) s fun c => c.bt.earlyStop = true ∧ c.bt.zeroAt = s.ctl.up + dt ∧ c.bt.step = max 1 reach)

/-- PWR_GOOD_RISE, SEQUENCE_FAILED and TADPOLE_SUPPLY_RETRY (10 s after the failure): the steps of the power sequence. SUPPLY_FAIL: the part shuts down, every
island but the always-on one goes off, and the safe state is SHUTDOWN. -/
def Obligations.PowerComesUpAndGoesDown : Prop :=
  (∀ (dt k : Nat) (fails : List (Nat × Nat)) (target : Nat) (s : State), k < 3 → s.ctl.pm.seqStep = k → bit s.ctl.pm.pwrEn k = true → s.ctl.pm.down = 0 → s.ctl.e 0x110001 ≠ 2 →
    s.ctl.e 0x120007 = 1 → leaves (.pwrGoodRise dt k fails target) s fun c => c.pm.seqStep = k + 1 ∧ c.pm.pwrGood = setBit s.ctl.pm.pwrGood k true ∧
      c.pm.pwrEn = (if bit s.ctl.pm.pwrEn (k + 1) then s.ctl.pm.pwrEn else setBit s.ctl.pm.pwrEn (k + 1) true)) ∧
  (∀ (dt : Nat) (fails : List (Nat × Nat)) (target : Nat) (s : State), s.ctl.pm.seqStep = 3 → bit s.ctl.pm.pwrEn 3 = true → s.ctl.pm.down = 0 → s.ctl.e 0x110001 ≠ 2 →
    s.ctl.e 0x120007 = 1 → leaves (.pwrGoodRise dt 3 fails target) s fun c =>
      c.pm.seqStep = 4 ∧ c.pm.islands = 0xFE ∧ c.e 0x120007 = 2 ∧ c.e 0x500003 = 1 ∧ c.bt.step = 6) ∧
  (∀ (dt : Nat) (s : State), s.ctl.pm.down = 0 → s.ctl.e 0x110001 ≠ 2 → s.ctl.e 0x120007 = 1 → s.ctl.pm.seqStep < 4 → leaves (.sequenceFailed dt none) s fun c =>
    c.pm.seqStep = 8 ∧ c.pm.pwrGood = 0 ∧ c.e 0x120007 = 3) ∧
  (∀ (dt : Nat) (s : State), s.ctl.e 0x110001 = 2 → s.ctl.pm.seqStep = 8 → s.ctl.pm.failedAt + tS 10 ≤ s.ctl.up + dt → leaves (.tadpoleSupplyRetry dt) s fun c =>
    c.pm.seqStep = 0 ∧ c.pm.pwrEn = (if bit s.ctl.pm.pwrEn 0 then s.ctl.pm.pwrEn else setBit s.ctl.pm.pwrEn 0 true)) ∧
  (∀ (dt : Nat) (fell : Bool) (cut : Option MramCut) (s : State), s.ctl.pm.down = 0 → leaves (.supplyFail dt 0 fell cut) s fun c =>
    c.pm.down = 2 ∧ c.pm.islands = 2 ∧ c.pm.pwrEn = 0 ∧ c.e 0x150001 = 3 ∧ c.e 0x150002 = 0x02C1 ∧ c.regs = [] ∧ c.bt.mramStopped = true)

/-- DRAM_TRAINING_COMPLETE: with the same devices on every fitted port and none on the others DRAM is zero-filled and the start is complete,
and a stored image is in slot 0, VERIFYING; other devices, or a training failure, leave the memory FAILED. -/
def Obligations.TrainingCompletesTheStart : Prop :=
  (∀ (dt : Nat) (devs : List (List Nat)) (s : State), s.ctl.e 0x500003 = 1 → (∀ (p : Nat), p < 6 → portDevicesOk (s.ctl.e 0x500001) devs p = true) → s.ctl.xz.stored = [] →
    completes (.dramTrainingComplete dt devs none) s fun t => t.mem = ({} : Mem) ∧ t.pending = s.pending ∧ t.ctl.bt.step = 8 ∧
      t.ctl.bt.startedAt = some (s.ctl.up + dt) ∧ t.ctl.mc.np = s.ctl.e 0x500001 ∧ t.ctl.mc.ranks = (devs.getD 0 []).length / 4 ∧ t.ctl.mc.selfRefresh = false) ∧
  (∀ (dt : Nat) (devs : List (List Nat)) (g : List Byte) (s : State), s.ctl.e 0x500003 = 1 → (∀ (p : Nat), p < 6 → portDevicesOk (s.ctl.e 0x500001) devs p = true) → s.ctl.bt.mramErrs = [] → g = s.ctl.xz.stored → g ≠ [] →
    s.ctl.xz.slots.length = 2 → completes (.dramTrainingComplete dt devs none) s fun t => t.ctl.slot 0 = { st := 2, img := g } ∧ t.ctl.slot 1 = s.ctl.slot 1 ∧
      t.pending = s.pending ∧ t.ctl.bt.step = 8 ∧ t.ctl.xz.boot = true) ∧
  (∀ (dt : Nat) (devs : List (List Nat)) (p : Nat) (s : State), s.ctl.e 0x500003 = 1 → p < 6 → portDevicesOk (s.ctl.e 0x500001) devs p = false → leaves (.dramTrainingComplete dt devs none) s fun c =>
    c.e 0x500003 = 3 ∧ c.bt = s.ctl.bt ∧ c.mc = { s.ctl.mc with fixes := [] }) ∧
  (∀ (dt : Nat) (devs : List (List Nat)) (f : Nat × Nat × Nat) (s : State), s.ctl.e 0x500003 = 1 → leaves (.dramTrainingComplete dt devs (some f)) s fun c =>
    c.e 0x500003 = 3 ∧ c.bt = s.ctl.bt ∧ c.mc = { s.ctl.mc with fixes := [] })

/-! ### Thermal management, voltage, clocks and calibration (19) -/

/-- THERMAL_ROUND (against BG0, after REFERENCE_DISAGREE the higher of the two references): T_MAX is shown, WARNING and THROTTLE are entered at 100 °C and 108 °C, and THERMAL_LEVEL shows them. SITE_READMITTED,
THROTTLE_HOLD_EXPIRY and LIFE_UPDATE. -/
def Obligations.ThermalLevels : Prop :=
  (∀ (dt : Nat) (readings : List (Int × Int × Bool)) (rd : List (Int × Bool)) (cut : Option MramCut) (s : State), readings.length = 24 → rd = readings.map (fun x => (if s.ctl.e 0x140002 = 1 then max x.1 x.2.1 else x.1, x.2.2)) →
    ((s.ctl.advance dt).thermalRound rd).tooHot = false → leaves (.thermalRound dt readings cut) s fun c =>
    c.pm.rounds = s.ctl.pm.rounds + 1 ∧ c.e 0x130001 = ofSigned 32 (milliC c.pm.tmax) ∧
    c.e 0x130003 = (if c.pm.throttle then 2 else if c.pm.warning then 1 else 0) ∧
    (degC 100 ≤ c.pm.tmax → c.pm.warning = true) ∧ (degC 108 ≤ c.pm.tmax → c.pm.throttle = true)) ∧
  (∀ (dt site g : Nat) (s : State), site < 24 → (siteAt s.ctl.pm.sites site).state = 2 → (siteAt s.ctl.pm.sites site).goodSince = some g → g + tS 10 ≤ s.ctl.up + dt →
    leaves (.siteReadmitted dt site) s fun c => (siteAt c.pm.sites site).state = 0 ∧ c.ea 0x1311 site = 0 ∧
      ∀ (i : Nat), i ≠ site → siteAt c.pm.sites i = siteAt s.ctl.pm.sites i) ∧
  (∀ (dt u : Nat) (s : State), s.ctl.pm.holdUntil = some u → u ≤ s.ctl.up + dt → s.ctl.pm.throttle = true → s.ctl.pm.tmax ≤ degC 103 → s.ctl.e 0x130004 = 0 →
    leaves (.throttleHoldExpiry dt) s fun c => c.pm.throttle = false ∧ c.pm.holdUntil = none ∧ c.e 0x130003 = (if c.pm.warning then 1 else 0)) ∧
  (∀ (dt : Nat) (s : State), tS 3600 ≤ s.ctl.pm.lifeTime + (s.ctl.up + dt - s.ctl.pm.lastRound) → leaves (.lifeUpdate dt) s fun c =>
    c.e 0x130009 = satAdd 32 (s.ctl.e 0x130009) 1 ∧ c.pm.lifeTime = 0 ∧ c.pm.lifeSum = 0)

/-- AVS_UPDATE and AVS_EMERGENCY: how far the VDD_CORE target moves, and that it stays between AVS_FLOOR and AVS_CEILING. PMBUS_POLL and
PMB_ALERT: POWER_TOTAL is the sum over the rails with READ_IOUT; STATUS_WORD of an addressed regulator is shown. -/
def Obligations.AvsAndTelemetry : Prop :=
  (∀ (dt slack : Nat) (s : State), s.ctl.avsOn = true → s.ctl.cpbUp = true → slack < 8 → leaves (.avsUpdate dt slack) s fun c =>
    c.pm.target = clampN (2 * s.ctl.e 0x120003) (2 * s.ctl.e 0x120004) (s.ctl.pm.target + 10) ∧ c.e 0x120002 = c.pm.target / 2 ∧
    c.e 0x120005 = slack ∧ c.pm.slackHigh = 0) ∧
  (∀ (dt slack : Nat) (s : State), s.ctl.avsOn = true → s.ctl.cpbUp = true → 12 < slack → 19 ≤ s.ctl.pm.slackHigh → leaves (.avsUpdate dt slack) s fun c =>
    c.pm.target = clampN (2 * s.ctl.e 0x120003) (2 * s.ctl.e 0x120004) (s.ctl.pm.target - 5) ∧ c.e 0x120002 = c.pm.target / 2 ∧
    c.e 0x120005 = slack ∧ c.pm.slackHigh = 0) ∧
  (∀ (dt slack : Nat) (s : State), s.ctl.avsOn = true → s.ctl.cpbUp = true → 12 < slack → s.ctl.pm.slackHigh < 19 → leaves (.avsUpdate dt slack) s fun c =>
    c.pm.target = s.ctl.pm.target ∧ c.e 0x120005 = slack ∧ c.pm.slackHigh = s.ctl.pm.slackHigh + 1) ∧
  (∀ (dt slack : Nat) (s : State), s.ctl.avsOn = true → s.ctl.cpbUp = true → 8 ≤ slack → slack ≤ 12 → leaves (.avsUpdate dt slack) s fun c =>
    c.pm.target = s.ctl.pm.target ∧ c.e 0x120005 = slack ∧ c.pm.slackHigh = 0) ∧
  (∀ (dt island slack : Nat) (s : State), s.ctl.avsOn = true → slack < 3 → leaves (.avsEmergency dt island slack) s fun c =>
    c.pm.target = clampN (2 * s.ctl.e 0x120003) (2 * s.ctl.e 0x120004) (s.ctl.pm.target + 50) ∧ c.e 0x120002 = c.pm.target / 2 ∧ c.e 0x120005 = slack) ∧
  (∀ (dt : Nat) (answers : List (Nat × Option (Nat × Nat))) (s : State), answers.length = 8 → leaves (.pmbusPoll dt answers) s fun c =>
    c.e 0x120006 = (List.range 8).foldl (fun a r => if c.ea 0x1210 r = 0 then a else a + c.ea 0x1211 r * c.ea 0x1212 r / 1000) 0 ∧
    ∀ (r : Nat), r < 8 → c.ea 0x1211 r = (answers.getD r (0, none)).1) ∧
  (∀ (dt : Nat) (status : List (Option Nat)) (r x : Nat) (s : State), status.length = 8 → r < 8 → status.getD r none = some x → s.ctl.ea 0x1210 r ≠ 0 → leaves (.pmbAlert dt status) s fun c =>
    c.ea 0x1213 r = x ∧ c.ea 0x1211 r = s.ctl.ea 0x1211 r ∧ c.ea 0x1212 r = s.ctl.ea 0x1212 r)

/-- REFCLK_LOST, REFCLK_RESTORED, PLL_UNLOCK and REFERENCE_COMPARE. RECAL_TRIGGER, CAL_NOW, CAL_INSTANCE_DONE (codes outside the trim
DAC's range leave the old ones) and ISLAND_GATE_CHANGE. -/
def Obligations.ClocksReferencesAndCalibration : Prop :=
  (∀ (dt : Nat) (s : State), s.ctl.pm.refLost = false → leaves (.refclkLost dt) s fun c => c.pm = { s.ctl.pm with refLost := true, onCrystal := true } ∧ c.fm.refOkSince = none) ∧
  (∀ (dt : Nat) (s : State), s.ctl.pm.refLost = true → leaves (.refclkRestored dt) s fun c =>
    c.pm = { s.ctl.pm with refLost := false, onCrystal := false } ∧ c.fm = { s.ctl.fm with refOkSince := some (s.ctl.up + dt) }) ∧
  (∀ (dt pll : Nat) (s : State), 2 ≤ pll → pll ≤ 7 → leaves (.pllUnlock dt pll) s fun c => c.e 0x120008 = setBit (s.ctl.e 0x120008) pll false ∧ c.pm = s.ctl.pm) ∧
  (∀ (dt : Nat) (diff : Int) (s : State), diff.natAbs ≤ 5000 → leaves (.referenceCompare dt diff) s fun c =>
    c.e 0x140006 = ofSigned 32 diff ∧ c.e 0x140002 = s.ctl.e 0x140002 ∧ c.pm = s.ctl.pm) ∧
  (∀ (dt : Nat) (diff : Int) (s : State), 5000 < diff.natAbs → s.ctl.e 0x140002 ≠ 1 → leaves (.referenceCompare dt diff) s fun c =>
    c.e 0x140006 = ofSigned 32 diff ∧ c.e 0x140002 = 1 ∧ (∀ x ∈ c.pm.cal, calFallback x.item = false → x.running = false ∧ x.quality ≠ 3)) ∧
  (∀ (dt item idx : Nat) (x : CalInst) (s : State), (s.ctl.calInst item idx) = some x → x.running = false → (s.ctl.advance dt).calDue x = true → s.ctl.cpbUp = true →
    s.ctl.pm.cal.any (fun y => y.item = item && y.running) = false → (s.ctl.e 0x140002 ≠ 1 ∨ calFallback item = true) → s.ctl.calLaneFree item idx = true →
    leaves (.recalTrigger dt item idx true) s fun c => (c.calInst item idx).map CalInst.running = some true) ∧
  (∀ (dt item : Nat) (s : State), s.ctl.cpbUp = true → 1 ≤ item → item ≤ 8 → (s.ctl.e 0x140002 ≠ 1 ∨ calFallback item = true) → s.ctl.pm.cal.any (fun y => y.item = item && y.running) = false →
    s.ctl.pm.cal.any (fun y => y.item = item && s.ctl.calLaneFree item y.idx) = true →
    leaves (.calNow dt item) s fun c => c.pm.cal.any (fun y => y.item = item && y.running) = true ∧ c.pm.calNow.contains item = true) ∧
  (∀ (dt : Nat) (s : State), s.ctl.e 0x140002 ≠ 1 → s.ctl.cpbUp = true → leaves (.calNow dt 255) s fun c => ∀ (item : Nat), 1 ≤ item → item ≤ 8 → c.pm.calNow.contains item = true) ∧
  (∀ (dt item idx residual : Nat) (codes : List Int) (x : CalInst) (s : State), s.ctl.cpbUp = true → 1 ≤ item → item ≤ 8 → calFits item codes = true → s.ctl.calInst item idx = some x → x.running = true → s.ctl.e 0x140002 ≠ 1 →
    s.ctl.pm.cal.any (fun y => y.item = item && y.waiting) = false →
    leaves (.calInstanceDone dt item idx residual codes) s fun c =>
      (c.calInst item idx).map (fun y => (y.running, y.quality, y.residual, y.codes, y.at_)) = some (false, 3, residual, codes, s.ctl.up + dt)) ∧
  (∀ (dt item idx residual : Nat) (codes : List Int) (x : CalInst) (s : State), s.ctl.cpbUp = true → 1 ≤ item → item ≤ 8 → calFits item codes = false → s.ctl.calInst item idx = some x → x.running = true →
    s.ctl.pm.cal.any (fun y => y.item = item && y.waiting) = false →
    leaves (.calInstanceDone dt item idx residual codes) s fun c =>
      (c.calInst item idx).map (fun y => (y.running, y.quality, y.residual, y.codes)) = some (false, 0, x.residual, x.codes) ∧
      c.ea 0x1412 (item - 1) = satAdd (entWidth (ekey 0x1412 item)) (s.ctl.ea 0x1412 (item - 1)) 1) ∧
  (∀ (dt : Nat) (s : State) (i : Nat), i < 7 → leaves (.islandGateChange dt) s fun c => c.ea 0x1214 i = s.ctl.islandState (i + 1) ∧ c.pm = s.ctl.pm)

/-! ### Control pairs, firmware, boot commands and keys (18) -/

/-- CP_MISMATCH, CP_WATCHDOG and PAIR_OUT_RESET_TIMER: a pair stops, and is OUT where it stopped within 60 s before; a RESET waits for 1 s. -/
def Obligations.ControlPairsStopAndReturn : Prop :=
  (∀ (dt pair : Nat) (s : State), pair ≤ 1 → s.ctl.ea 0x1580 pair = 0 → s.ctl.bt.step ≠ 0 →
    leaves (.cpMismatch dt pair) s fun c => (c.pair pair).stoppedAt = some (s.ctl.up + dt) ∧
      c.ea 0x1580 pair = (if (s.ctl.pair pair).stoppedAt.any (fun t => decide (s.ctl.up + dt < t + tS 60)) then 2 else 1)) ∧
  (∀ (dt pair : Nat) (s : State), pair ≤ 1 → s.ctl.ea 0x1580 pair = 0 → s.ctl.bt.step ≠ 0 →
    leaves (.cpWatchdog dt pair) s fun c => (c.pair pair).stoppedAt = some (s.ctl.up + dt) ∧
      c.ea 0x1580 pair = (if (s.ctl.pair pair).stoppedAt.any (fun t => decide (s.ctl.up + dt < t + tS 60)) then 2 else 1)) ∧
  (∀ (dt t0 : Nat) (cut : Option MramCut) (s : State), s.ctl.fm.pairOutAt = some t0 → t0 + tS 1 ≤ s.ctl.up + dt → s.ctl.tb.issuing = false → s.ctl.pm.down = 0 →
    leaves (.pairOutResetTimer dt cut) s fun c => c.bt.cause = 6 ∧ c.bt.step = 0 ∧ c.regs = [])

/-- FW_LOAD_BEGIN, FW_LOAD_DATA, FW_LOAD_END, FW_LOAD_ABORT and FW_CHECK_DONE. -/
def Obligations.FirmwareLoadSteps : Prop :=
  (∀ (dt : Nat) (s : State), s.ctl.cpaUp = true → s.ctl.bt.fwLoad = none → s.ctl.e 0x110502 ≤ 1572864 → s.ctl.bt.mramStopped = false → leaves (.fwLoadBegin dt) s fun c =>
    c.bt.fwLoad = some ⟨1 - s.ctl.bt.running, s.ctl.e 0x110502, [], false, s.ctl.up + dt⟩ ∧ c.fwSt (1 - s.ctl.bt.running) = 1) ∧
  (∀ (dt : Nat) (bytes : List Byte) (l : FwLoad) (s : State), s.ctl.cpaUp = true → s.ctl.bt.fwLoad = some l → l.ended = false → l.slot ≤ 1 → (l.data ++ bytes).length ≤ l.size → leaves (.fwLoadData dt bytes) s fun c =>
    c.ent = s.ctl.ent ∧ c.bt.fwLoad = some { l with data := l.data ++ bytes, lastAt := s.ctl.up + dt } ∧ c.fwSlot (1 - l.slot) = s.ctl.fwSlot (1 - l.slot) ∧
      c.fwSlot l.slot = (if s.ctl.bt.mramStopped then s.ctl.fwSlot l.slot else (patch (s.ctl.fwSlot l.slot) l.data.length bytes).take 1572864)) ∧
  (∀ (dt : Nat) (l : FwLoad) (s : State), s.ctl.cpaUp = true → s.ctl.bt.fwLoad = some l → l.ended = false → l.size ≤ l.data.length → leaves (.fwLoadEnd dt) s fun c =>
    c = { s.ctl.advance dt with bt := { s.ctl.bt with fwLoad := some { l with ended := true } } }) ∧
  (∀ (dt : Nat) (l : FwLoad) (s : State), s.ctl.cpaUp = true → s.ctl.bt.fwLoad = some l → s.ctl.bt.mramStopped = false → leaves (.fwLoadAbort dt) s fun c =>
    c.bt.fwLoad = none ∧ c.fwSlot l.slot = [] ∧ c.fwSt l.slot = 0) ∧
  (∀ (dt : Nat) (l : FwLoad) (s : State), s.ctl.cpaUp = true → s.ctl.bt.fwLoad = some l → l.ended = true → s.ctl.bt.mramStopped = false → leaves (.fwCheckDone dt) s fun c =>
    c.bt.fwLoad = none ∧ c.bt.slotA = s.ctl.bt.slotA ∧ c.bt.slotB = s.ctl.bt.slotB ∧ c.e 0x110504 = fwCheck l.data (s.ctl.e 0x110505) ∧
    c.fwSt l.slot = (if fwCheck l.data (s.ctl.e 0x110505) = 0 then 2 else 3))

/-- BOOT_RESTART, BOOT_TRY_OTHER, BOOT_CONFIRM, TRIAL_CONFIRM_TIMER and KEY_WRITE. -/
def Obligations.BootCommandsAndKeys : Prop :=
  (∀ (dt : Nat) (cut : Option MramCut) (s : State), s.ctl.pm.down = 0 → s.ctl.bt.mramStopped = false → leaves (.bootRestart dt cut) s fun c =>
    c.bt.cause = 2 ∧ c.bt.step = 0 ∧ c.boot.tadpoleLatch = false ∧ c.boot.failedStarts = 0) ∧
  (∀ (dt : Nat) (s : State), s.ctl.fwSt (1 - s.ctl.bt.running) = 2 → s.ctl.bt.mramStopped = false → leaves (.bootTryOther dt) s fun c =>
    c.boot.tryNext = true ∧ c.boot.runSlot = s.ctl.boot.runSlot ∧ c.fwSt (1 - s.ctl.bt.running) = 4 ∧ c.bt.running = s.ctl.bt.running) ∧
  (∀ (dt : Nat) (s : State), s.ctl.fwSt s.ctl.bt.running = 4 → s.ctl.bt.mramStopped = false → leaves (.bootConfirm dt) s fun c =>
    c.fwSt s.ctl.bt.running = 2 ∧ c.boot.trialStarted = false ∧ c.bt.running = s.ctl.bt.running) ∧
  (∀ (dt t0 : Nat) (s : State), s.ctl.bt.startedAt = some t0 → t0 + tS 60 ≤ s.ctl.up + dt → s.ctl.bt.trialFault = false → s.ctl.fwSt s.ctl.bt.running = 4 →
    s.ctl.bt.mramStopped = false → leaves (.trialConfirmTimer dt) s fun c => c.fwSt s.ctl.bt.running = 2 ∧ c.boot.trialStarted = false) ∧
  (∀ (dt : Nat) (bytes : List Byte) (s : State), keyOk 0 bytes = true → s.ctl.bt.mramStopped = false → leaves (.keyWrite dt 0 bytes) s fun c =>
    c.bt.installerKey = some bytes ∧ c.e 0x160002 = keyId bytes) ∧
  (∀ (dt : Nat) (bytes : List Byte) (s : State), keyOk 1 bytes = true → s.ctl.bt.mramStopped = false → leaves (.keyWrite dt 1 bytes) s fun c =>
    c.bt.popKey = bytes ∧ c.e 0x160004 = keyId bytes) ∧
  (∀ (dt k : Nat) (bytes : List Byte) (s : State), 2 ≤ k → k ≤ 5 → keyOk k bytes = true → s.ctl.bt.mramStopped = false → leaves (.keyWrite dt k bytes) s fun c =>
    c.ev (ekey 0x1601 (k - 1)) = .oct bytes ∧ aGet c.nv (ekey 0x1601 (k - 1)) = some (.oct bytes))

/-! ### The dictionary server (16, 17) -/

/-- VOSTAN_READ and BLOCK_READ: an admitted request over UDP is answered with one message, from the entries as their reading finds them. To
read an entry changes nothing, but for the statistics of the memory controllers, which stand as of now, and for the words of the MRAM
with an error: one that the code corrects is counted, one that it cannot takes the entry's stored value with it. -/
def Obligations.ReadsAreAnswered : Prop :=
  (∀ (dt : Nat) (src : VAddr) (msg : List Byte) (x : Option Sess) (c0 : Ctl) (s : State), (s.ctl.advance dt).admits src x msg = true → src.tr = 0 → u8At msg 1 = 1 →
    c0 = (List.range (u8At (vosBody msg) 0)).foldl (fun c i => c.fetchEntry (leAt (vosBody msg) (4 + 4 * i) 2 * 256 + u8At (vosBody msg) (6 + 4 * i))) ((s.ctl.advance dt).heard x msg) →
    leaves (.vostanRead dt src msg []) s fun c => c.ent = c0.ent ∧ c.shadow = c0.shadow ∧ c.nv = c0.nv ∧
      c.out = c0.out ++ [s.ctl.datagram src (vosReply msg (vosSess msg) 0 (c0.readReply (1424 - (if (sessKey x).isEmpty then 0 else 16)) (vosBody msg)) (sessKey x))]) ∧
  (∀ (dt : Nat) (src : VAddr) (msg : List Byte) (x : Option Sess) (c0 : Ctl) (s : State), (s.ctl.advance dt).admits src x msg = true → src.tr = 0 → u8At msg 1 = 3 →
    c0 = ((s.ctl.advance dt).heard x msg).fetchEntry (ekey (leAt (vosBody msg) 0 2) (u8At (vosBody msg) 2)) →
    leaves (.blockRead dt src msg) s fun c => c.ent = c0.ent ∧ c.shadow = c0.shadow ∧ c.nv = c0.nv ∧
      c.out = c0.out ++ [s.ctl.datagram src (vosReply msg (vosSess msg) (c0.blockRead (1424 - (if (sessKey x).isEmpty then 0 else 16)) (vosBody msg)).1
        (c0.blockRead (1424 - (if (sessKey x).isEmpty then 0 else 16)) (vosBody msg)).2 (sessKey x))]) ∧
  (∀ (k : Nat) (c : Ctl), k / 65536 ≠ 0x50 → c.bt.mramErrs = [] → c.fetchEntry k = c) ∧
  (∀ (w m : Nat) (c : Ctl), c.bt.mramErrs = [(w, m)] → mramRead m ≠ .clean → mramRead m ≠ .bad →
    (c.mramUse (fun y => decide (y = w))).e 0x110007 = satAdd (entWidth 0x110007) (c.e 0x110007) 1 ∧ (c.mramUse (fun y => decide (y = w))).bt.mramErrs = [] ∧
    (c.mramUse (fun y => decide (y = w))).nv = c.nv) ∧
  (∀ (w m k : Nat) (d : DictRow) (i : Nat) (c : Ctl), c.bt.mramErrs = [(w, m)] → mramRead m = .bad → 0x70000 ≤ w → w ≠ 0x7C000 → w ≠ 0x7C001 → entryOf w = some (k, d, i) →
    (c.mramUse (fun y => decide (y = w))).e 0x110007 = c.e 0x110007 ∧ aGet (c.mramUse (fun y => decide (y = w))).nv k = none ∧
    (c.mramUse (fun y => decide (y = w))).bt.mramErrs = [])

/-- VOSTAN_WRITE: an item that fails a check keeps the whole WRITE from applying (a refused item of a stream ends its operation too); staged
items go to their shadows together; an unstaged item whose value has no further effect is accepted and, where it persists, stored.
BLOCK_WRITE: a first segment opens the session's transfer, a segment that follows is added to it, and the last one applies the value.
SUBSCRIBE: the subscription stands in place of one of the same ID, and kind 0 cancels it. -/
def Obligations.SessionsWriteAndSubscribe : Prop :=
  (∀ (dt : Nat) (src : VAddr) (msg : List Byte) (x : Sess) (l : List WItem) (w : WItem) (s : State), (s.ctl.advance dt).admits src (some x) msg = true → u8At msg 1 = 2 →
    wItems (u8At (vosBody msg) 0) ((vosBody msg).drop 4) = some l → w ∈ l →
    ((s.ctl.advance dt).heard (some x) msg).itemCheck (((s.ctl.advance dt).heard (some x) msg).withItems l) x.installer false w ≠ 0 →
    (l.all fun w => !isStream w.key) = true → leaves (.vostanWrite dt src msg true) s fun c =>
      c.ent = s.ctl.ent ∧ c.shadow = s.ctl.shadow ∧ c.nv = s.ctl.nv ∧ c.dy.staged = s.ctl.dy.staged) ∧
  (∀ (dt : Nat) (src : VAddr) (msg : List Byte) (x : Sess) (l : List WItem) (s : State), (s.ctl.advance dt).admits src (some x) msg = true → u8At msg 1 = 2 → src.tr = 0 →
    wItems (u8At (vosBody msg) 0) ((vosBody msg).drop 4) = some l →
    (l.all fun w => decide (((s.ctl.advance dt).heard (some x) msg).itemCheck (((s.ctl.advance dt).heard (some x) msg).withItems l) x.installer false w = 0)) = true →
    (l.all fun w => decide ((rowOf w.key).map Prod.snd = some .rws)) = true → s.ctl.pl.syncing = false →
    leaves (.vostanWrite dt src msg true) s fun c => c.ent = s.ctl.ent ∧ c.nv = s.ctl.nv ∧
      (∀ w ∈ l, l.reverse.find? (fun y => decide (y.key = w.key)) = some w → c.sh w.key = w.value) ∧ (∀ w ∈ l, c.dy.staged.contains w.key = true) ∧
      c.out = s.ctl.out ++ [s.ctl.datagram src (vosReply msg x.num 0 [255, 0, 0, 0] x.ks)]) ∧
  (∀ (dt : Nat) (src : VAddr) (msg : List Byte) (x : Sess) (w : WItem) (d : DictRow) (c0 : Ctl) (s : State), (s.ctl.advance dt).admits src (some x) msg = true → u8At msg 1 = 2 → src.tr = 0 →
    wItems (u8At (vosBody msg) 0) ((vosBody msg).drop 4) = some [w] → dictRow w.key = some d → d.acc = .rw → setsItself w.key = false →
    w.key ≠ 0x110005 → c0 = (s.ctl.advance dt).heard (some x) msg → c0.itemCheck (c0.withItems [w]) x.installer false w = 0 → s.ctl.bt.mramStopped = false →
    (∀ (c : Ctl), c.written w.key w.value = c) → leaves (.vostanWrite dt src msg true) s fun c =>
      c.ev w.key = w.value ∧ (d.persist = .yes → aGet c.nv w.key = some w.value) ∧ c.shadow = s.ctl.shadow ∧ c.dy.staged = s.ctl.dy.staged ∧
      c.out = s.ctl.out ++ [s.ctl.datagram src (vosReply msg x.num 0 [255, 0, 0, 0] x.ks)]) ∧
  (∀ (dt : Nat) (src : VAddr) (msg : List Byte) (x : Sess) (k total : Nat) (s : State), (s.ctl.advance dt).admits src (some x) msg = true → u8At msg 1 = 4 → x.xfer = none →
    bit (u8At (vosBody msg) 3) 0 = false → k = ekey (leAt (vosBody msg) 0 2) (u8At (vosBody msg) 2) → isStream k = false →
    total = leAt (vosBody msg) 8 4 → ((s.ctl.advance dt).heard (some x) msg).itemAccess x.installer k true = 0 → leAt (vosBody msg) 4 4 = 0 →
    firstSeg k false total ((vosBody msg).drop 16) = 0 → ((vosBody msg).drop 16).length < total →
    leaves (.blockWrite dt src msg true) s fun c => c.ent = s.ctl.ent ∧ c.shadow = s.ctl.shadow ∧
      (c.sess x.num).bind Sess.xfer = some ⟨k, false, total, (vosBody msg).drop 16, ((vosBody msg).drop 16).length, s.ctl.up + dt⟩) ∧
  (∀ (dt : Nat) (src : VAddr) (msg : List Byte) (x : Sess) (y : Xfer) (s : State), (s.ctl.advance dt).admits src (some x) msg = true → u8At msg 1 = 4 → x.xfer = some y → y.whole = false →
    bit (u8At (vosBody msg) 3) 0 = false → y.key = ekey (leAt (vosBody msg) 0 2) (u8At (vosBody msg) 2) → isStream y.key = false → y.total ≠ noTotal →
    leAt (vosBody msg) 4 4 = y.got → y.got + ((vosBody msg).drop 16).length < y.total → leaves (.blockWrite dt src msg true) s fun c =>
      c.ent = s.ctl.ent ∧ c.shadow = s.ctl.shadow ∧ (c.sess x.num).bind Sess.xfer =
        some { y with data := y.data ++ (vosBody msg).drop 16, got := y.got + ((vosBody msg).drop 16).length, lastAt := s.ctl.up + dt }) ∧
  (∀ (dt : Nat) (src : VAddr) (msg : List Byte) (x : Sess) (y : Xfer) (w : WItem) (c0 : Ctl) (s : State), (s.ctl.advance dt).admits src (some x) msg = true → u8At msg 1 = 4 → x.xfer = some y → y.whole = false →
    bit (u8At (vosBody msg) 3) 0 = false → y.key = ekey (leAt (vosBody msg) 0 2) (u8At (vosBody msg) 2) → isStream y.key = false → y.total ≠ noTotal →
    leAt (vosBody msg) 4 4 = y.got → y.got + ((vosBody msg).drop 16).length = y.total →
    w = ⟨y.key, (dictRow y.key).elim 10 (fun d => d.ty.code), y.data ++ (vosBody msg).drop 16⟩ → (rowOf w.key).map Prod.snd = some .rws → s.ctl.pl.syncing = false →
    c0 = (s.ctl.advance dt).heard (some x) msg → c0.itemCheck (c0.withItems [w]) x.installer true w = 0 → leaves (.blockWrite dt src msg true) s fun c =>
      c.ent = s.ctl.ent ∧ c.sh w.key = w.value ∧ c.dy.staged.contains w.key = true ∧ (c.sess x.num).bind Sess.xfer = none) ∧
  (∀ (dt : Nat) (src : VAddr) (msg : List Byte) (x : Sess) (s : State), (s.ctl.advance dt).admits src (some x) msg = true → u8At msg 1 = 5 → u8At (vosBody msg) 1 = 0 →
    ((s.ctl.advance dt).heard (some x) msg).subStatus x (vosBody msg) = 0 → leaves (.subscribe dt src msg) s fun c => c.ent = s.ctl.ent ∧
      (c.sess x.num).map Sess.subs = some (x.subs.filter (fun y => y.id ≠ u8At (vosBody msg) 0))) ∧
  (∀ (dt : Nat) (src : VAddr) (msg : List Byte) (x : Sess) (u : Sub) (s : State), (s.ctl.advance dt).admits src (some x) msg = true → u8At msg 1 = 5 → u8At (vosBody msg) 1 ≠ 0 →
    ((s.ctl.advance dt).heard (some x) msg).subStatus x (vosBody msg) = 0 →
    u = { id := u8At (vosBody msg) 0, kind := u8At (vosBody msg) 1, key := ekey (leAt (vosBody msg) 2 2) (u8At (vosBody msg) 4), queue := u8At (vosBody msg) 5,
          period := leAt (vosBody msg) 6 2, dest := src, nseq := 0, last := none, sentAt := s.ctl.up + dt, recs := [] } →
    leaves (.subscribe dt src msg) s fun c => c.ent = s.ctl.ent ∧ (c.sess x.num).map Sess.subs = some (x.subs.filter (fun y => y.id ≠ u.id) ++ [u]))

/-- COMMIT, COMMIT_DISCARD, PF0_COMMIT and PF0_DISCARD: the staged set becomes a record with the next COMMIT_ID and the Tick, or every
staged shadow returns to the value that the accepted records will leave. -/
def Obligations.CommitsFreezeTheStagedSet : Prop :=
  (∀ (dt : Nat) (src : VAddr) (msg : List Byte) (x : Sess) (s : State), (s.ctl.advance dt).admits src (some x) msg = true → u8At msg 1 = 6 → u8At msg 16 = 1 → s.ctl.dy.commits.length < 4 →
    leaves (.commit dt src msg) s fun c => c.dy.staged = [] ∧ c.ent = s.ctl.ent ∧ c.dy.nextCommit = (s.ctl.dy.nextCommit + 1) % 2 ^ 32 ∧
      c.dy.commits = s.ctl.dy.commits ++ [⟨s.ctl.dy.nextCommit, (s.ctl.advance dt).now, s.ctl.dy.staged.map (fun k => (k, s.ctl.sh k))⟩]) ∧
  (∀ (dt : Nat) (src : VAddr) (msg : List Byte) (x : Sess) (s : State), (s.ctl.advance dt).admits src (some x) msg = true → u8At msg 1 = 6 → u8At msg 16 = 2 →
    leaves (.commitDiscard dt src msg) s fun c => c.dy.staged = [] ∧ c.ent = s.ctl.ent ∧ c.dy.commits = s.ctl.dy.commits ∧
      ∀ k ∈ s.ctl.dy.staged, c.sh k = s.ctl.future k) ∧
  (∀ (dt : Nat) (s : State), s.ctl.cpaUp = true → s.ctl.dy.commits.length < 4 → leaves (.pf0Commit dt) s fun c => c.dy.staged = [] ∧ c.ent = s.ctl.ent ∧
      c.dy.commits = s.ctl.dy.commits ++ [⟨s.ctl.dy.nextCommit, (s.ctl.advance dt).now, s.ctl.dy.staged.map (fun k => (k, s.ctl.sh k))⟩] ∧
      c.reg .dyCommitId 0 0 = s.ctl.dy.nextCommit ∧ c.reg .dyCommitCtrl 0 8 = 1 ∧ c.reg .dyCommitCtrl 0 9 = 0) ∧
  (∀ (dt : Nat) (s : State), s.ctl.cpaUp = true → 4 ≤ s.ctl.dy.commits.length → leaves (.pf0Commit dt) s fun c => c.dy = s.ctl.dy ∧
      c.reg .dyCommitCtrl 0 8 = 0 ∧ c.reg .dyCommitCtrl 0 9 = 1) ∧
  (∀ (dt : Nat) (s : State), s.ctl.cpaUp = true → leaves (.pf0Discard dt) s fun c => c.dy.staged = [] ∧ c.ent = s.ctl.ent ∧ c.dy.commits = s.ctl.dy.commits ∧
      ∀ k ∈ s.ctl.dy.staged, c.sh k = s.ctl.future k)

/-- LOGIN_CHALLENGE, LOGIN_PROOF, LOGIN_LOGOUT, LOGIN_CHALLENGE_TIMEOUT, SESSION_TIMEOUT and LOCKOUT_EXPIRY: how a session begins and
ends. -/
def Obligations.SessionsBeginAndEnd : Prop :=
  (∀ (dt : Nat) (src : VAddr) (msg : List Byte) (s : State), (s.ctl.advance dt).admits src none msg = true → u8At msg 1 = 7 → u8At msg 16 = 1 → (s.ctl.advance dt).lockedOut src = false →
    (s.ctl.dy.sessions.filter (fun x => decide (x.num ≥ 3))).length < 14 → leaves (.loginChallenge dt src msg) s fun c =>
      c.dy.sessions.map (fun x => (x.num, x.isOpen, x.installer)) = s.ctl.dy.sessions.map (fun x => (x.num, x.isOpen, x.installer)) ++
        [(s.ctl.freeNum, decide (u8At msg 17 ≠ 1), decide (u8At msg 17 = 1))] ∧ c.dy.nextSession = s.ctl.freeNum + 1) ∧
  (∀ (dt : Nat) (src : VAddr) (msg : List Byte) (x : Sess) (s : State), s.ctl.dy.serving = true → s.ctl.ea 0x1580 0 = 0 → s.ctl.tadpole = false → 16 ≤ msg.length → msg.length ≤ vosMax src.tr → u8At msg 0 = 1 →
    u8At msg 1 = 7 → u8At msg 2 = 0 → vosFormat msg = true → u8At msg 12 = 0xFE → (s.ctl.advance dt).sessOk src msg = true → u8At msg 16 = 2 →
    s.ctl.sess (vosSess msg) = some x → 3 ≤ x.num → x.isOpen = false → x.xfer = none →
    s.ctl.up + dt < x.since + tS 10 → slice (vosBody msg) 4 32 = proofOf x → leaves (.loginProof dt src msg) s fun c =>
      (c.sess x.num).map (fun y => (y.isOpen, y.ks, y.lastSeq)) = some (true, hmac x.ks (2 :: (x.challenge ++ x.cnonce)), some (leAt msg 8 4)) ∧ c.e 0x54000C = s.ctl.e 0x54000C) ∧
  (∀ (dt : Nat) (src : VAddr) (msg : List Byte) (x : Sess) (s : State), s.ctl.dy.serving = true → s.ctl.ea 0x1580 0 = 0 → s.ctl.tadpole = false → 16 ≤ msg.length → msg.length ≤ vosMax src.tr → u8At msg 0 = 1 →
    u8At msg 1 = 7 → u8At msg 2 = 0 → vosFormat msg = true → u8At msg 12 = 0xFE → (s.ctl.advance dt).sessOk src msg = true → u8At msg 16 = 2 →
    s.ctl.sess (vosSess msg) = some x → 3 ≤ x.num → x.isOpen = false → x.xfer = none →
    (x.since + tS 10 ≤ s.ctl.up + dt ∨ slice (vosBody msg) 4 32 ≠ proofOf x) → leaves (.loginProof dt src msg) s fun c =>
      c.sess x.num = none ∧ c.e 0x54000C = satAdd 32 (s.ctl.e 0x54000C) 1) ∧
  (∀ (dt : Nat) (src : VAddr) (msg : List Byte) (x : Sess) (s : State), (s.ctl.advance dt).admits src (some x) msg = true → u8At msg 1 = 7 → u8At msg 16 = 3 → 3 ≤ x.num → src.tr = 0 → x.xfer = none →
    leaves (.loginLogout dt src msg) s fun c => c.sess x.num = none ∧ c.e 0x54000C = s.ctl.e 0x54000C) ∧
  (∀ (dt session : Nat) (x : Sess) (s : State), s.ctl.sess session = some x → 3 ≤ session → x.isOpen = false → x.xfer = none → x.since + tS 10 ≤ s.ctl.up + dt →
    leaves (.loginChallengeTimeout dt session) s fun c => c.sess session = none ∧ c.e 0x54000C = satAdd 32 (s.ctl.e 0x54000C) 1 ∧ c.dy.logins = s.ctl.dy.logins) ∧
  (∀ (dt session : Nat) (x : Sess) (s : State), s.ctl.sess session = some x → 3 ≤ session → x.isOpen = true → x.xfer = none → x.lastValid + tS (s.ctl.e 0x540002) ≤ s.ctl.up + dt →
    leaves (.sessionTimeout dt session) s fun c => c.sess session = none ∧ c.e 0x54000C = s.ctl.e 0x54000C) ∧
  (∀ (dt : Nat) (src : VAddr) (t0 : Nat) (s : State), (s.ctl.login src).until_ = some t0 → t0 ≤ s.ctl.up + dt → leaves (.lockoutExpiry dt src) s fun c =>
    (c.login src).until_ = none ∧ c.lockedOut src = false ∧ c.dy.sessions = s.ctl.dy.sessions)

/-- CYCLIC_NOTIFY, ON_CHANGE_NOTIFY and EVENT_BATCH_SEND: an EVENT message goes to the subscriber, and NSEQ counts it; a full egress queue
drops and counts it. -/
def Obligations.NotificationsGoOut : Prop :=
  (∀ (dt session sub : Nat) (x : Sess) (u : Sub) (c0 : Ctl) (s : State), s.ctl.sub session sub = some (x, u) → u.kind = 1 → u.sentAt + tMs u.period ≤ s.ctl.up + dt → u.dest.tr = 0 → c0 = (s.ctl.advance dt).fetchEntry u.key →
    leaves (.cyclicNotify dt session sub false) s fun c =>
      (c.sub session sub).map (fun p => (p.2.nseq, p.2.sentAt)) = some ((u.nseq + 1) % 2 ^ 32, s.ctl.up + dt) ∧ c.ent = c0.ent ∧
      c.out = c0.out ++ [s.ctl.datagram u.dest (vosMsg 8 0 0 x.num 0 0xFE
        ([byteOf u.id, 1, 1, 0] ++ toLE 4 ((u.nseq + 1) % 2 ^ 32) ++ c0.sample u.key) x.ks)]) ∧
  (∀ (dt session sub : Nat) (x : Sess) (u : Sub) (s : State), s.ctl.sub session sub = some (x, u) → u.kind = 1 → u.sentAt + tMs u.period ≤ s.ctl.up + dt →
    leaves (.cyclicNotify dt session sub true) s fun c =>
      (c.sub session sub).map (fun p => p.2.nseq) = some ((u.nseq + 1) % 2 ^ 32) ∧ c.e 0x54000D = satAdd 32 (s.ctl.e 0x54000D) 1) ∧
  (∀ (dt session sub : Nat) (x : Sess) (u : Sub) (c0 : Ctl) (s : State), s.ctl.sub session sub = some (x, u) → u.kind = 2 → c0 = (s.ctl.advance dt).fetchEntry u.key → u.last ≠ some (c0.entRead u.key true) →
    (u.last = none ∨ u.sentAt + tMs u.period ≤ s.ctl.up + dt) → u.dest.tr = 0 → leaves (.onChangeNotify dt session sub false) s fun c =>
      (c.sub session sub).map (fun p => (p.2.nseq, p.2.sentAt, p.2.last)) =
        some ((u.nseq + 1) % 2 ^ 32, s.ctl.up + dt, some (c0.entRead u.key true)) ∧
      c.out = c0.out ++ [s.ctl.datagram u.dest (vosMsg 8 0 0 x.num 0 0xFE
        ([byteOf u.id, 2, 1, 0] ++ toLE 4 ((u.nseq + 1) % 2 ^ 32) ++ c0.sample u.key) x.ks)]) ∧
  (∀ (dt session sub : Nat) (x : Sess) (u : Sub) (c0 : Ctl) (s : State), s.ctl.sub session sub = some (x, u) → u.kind = 2 → c0 = (s.ctl.advance dt).fetchEntry u.key → u.last ≠ some (c0.entRead u.key true) →
    (u.last = none ∨ u.sentAt + tMs u.period ≤ s.ctl.up + dt) → leaves (.onChangeNotify dt session sub true) s fun c =>
      (c.sub session sub).map (fun p => (p.2.nseq, p.2.last)) = some ((u.nseq + 1) % 2 ^ 32, some (c0.entRead u.key true)) ∧
      c.e 0x54000D = satAdd 32 (c0.e 0x54000D) 1) ∧
  (∀ (dt session sub : Nat) (r : EvRec) (x : Sess) (u : Sub) (s : State), s.ctl.sub session sub = some (x, u) → u.kind = 3 → u.recs.head? = some r →
    tickD (s.ctl.advance dt).now r.tick ≥ (tMs 1 : Nat) → u.recs.length ≤ min 255 (eventRoom x / 16) → u.dest.tr = 0 →
    leaves (.eventBatchSend dt session sub false) s fun c =>
      (c.sub session sub).map (fun p => (p.2.nseq, p.2.recs)) = some ((u.nseq + u.recs.length) % 2 ^ 32, []) ∧
      c.out = s.ctl.out ++ [s.ctl.datagram u.dest (vosMsg 8 0 0 x.num 0 0xFE
        ([byteOf u.id, 3, byteOf u.recs.length, 0] ++ toLE 4 ((u.nseq + u.recs.length) % 2 ^ 32) ++ u.recs.flatMap EvRec.octets) x.ks)]) ∧
  (∀ (dt session sub : Nat) (r : EvRec) (x : Sess) (u : Sub) (s : State), s.ctl.sub session sub = some (x, u) → u.kind = 3 → u.recs.head? = some r →
    tickD (s.ctl.advance dt).now r.tick ≥ (tMs 1 : Nat) → u.recs.length ≤ min 255 (eventRoom x / 16) → leaves (.eventBatchSend dt session sub true) s fun c =>
      (c.sub session sub).map (fun p => p.2.nseq) = some ((u.nseq + u.recs.length) % 2 ^ 32) ∧ c.e 0x54000D = satAdd 32 (s.ctl.e 0x54000D) 1)

/-- RELAY_REPLY, RELAY_TIMEOUT, BLOCK_TRANSFER_ABANDON, CP_RESTART_DONE and BOOT_CLEAR_SETTINGS. -/
def Obligations.RelaysTransfersAndRestarts : Prop :=
  (∀ (dt pos : Nat) (msg : List Byte) (r : Relay) (s : State), 16 ≤ msg.length → msg.length ≤ 240 → u8At msg 1 ≠ 8 → u8At msg 1 ≠ 7 → bit (u8At msg 2) 0 = true → r.src.tr = 0 →
    s.ctl.dy.relays.find? (fun r => decide (r.target = pos) && decide (r.seq = leAt msg 8 4) && decide (r.session = vosSess msg) &&
      decide (s.ctl.up + dt < r.since + tS 1)) = some r → leaves (.relayReply dt pos msg) s fun c =>
      c.out = s.ctl.out ++ [s.ctl.datagram r.src msg] ∧ c.dy.relays = s.ctl.dy.relays.filter (fun x => x ≠ r) ∧ c.dy.sessions = s.ctl.dy.sessions) ∧
  (∀ (dt : Nat) (s : State), leaves (.relayTimeout dt) s fun c =>
    c = { s.ctl.advance dt with dy := { s.ctl.dy with relays := s.ctl.dy.relays.filter (fun r => decide (s.ctl.up + dt < r.since + tS 1)) } }) ∧
  (∀ (dt session : Nat) (x : Xfer) (s : State), (s.ctl.sess session).bind Sess.xfer = some x → x.lastAt + tS 10 ≤ s.ctl.up + dt → isStream x.key = false →
    leaves (.blockTransferAbandon dt session) s fun c => (c.sess session).bind Sess.xfer = none ∧ c.ent = s.ctl.ent ∧ c.shadow = s.ctl.shadow) ∧
  (∀ (dt pair : Nat) (s : State), pair ≤ 1 → s.ctl.ea 0x1580 pair = 1 → s.ctl.codeOk = true → s.ctl.bt.mramErrs = [] → leaves (.cpRestartDone dt pair) s fun c =>
    c.ea 0x1580 pair = 0 ∧ c.ea 0x1581 pair = satAdd (entWidth (ekey 0x1581 (pair + 1))) (s.ctl.ea 0x1581 pair) 1 ∧ (pair = 0 → c.dy.relays = [])) ∧
  (∀ (dt : Nat) (s : State), s.ctl.bt.mramStopped = false → (∀ (k : Nat), k ∈ settingKeys → s.ctl.ev k ≠ dfltVal k → ∀ (c : Ctl), c.written k (dfltVal k) = c) →
    leaves (.bootClearSettings dt) s fun c => ∀ k ∈ settingKeys, c.ev k = dfltVal k ∧ c.sh k = dfltVal k ∧ aGet c.nv k = none)

/-! ### The host interface (17) and the register view (00) -/

/-- MAILBOX_GO: the request buffer's message is served, its reply stands in the reply buffer and REPLY_READY is set; while a reply waits
GO is an overrun. -/
def Obligations.MailboxAnswersInItsBuffer : Prop :=
  (∀ (dt : Nat) (fn : Fn) (k : Nat) (msg : List Byte) (x : Sess) (c0 c1 : Ctl) (s : State), k = (match fn with | .pf0 => 0 | .pf1 => 1) → s.ctl.reg .hiMbxCtrl k 2 = 0 → k < s.ctl.hi.mbxReply.length →
    c0 = (s.ctl.advance dt).setHi (fun h => { h with mbxReply := setAt h.mbxReply k [] }) → msg = c0.mbxMsg k → c0.admits ⟨2, k, 0⟩ (some x) msg = true → u8At msg 1 = 1 → x.ks = [] → c1 = (List.range (u8At (vosBody msg) 0)).foldl (fun c i => c.fetchEntry (leAt (vosBody msg) (4 + 4 * i) 2 * 256 + u8At (vosBody msg) (6 + 4 * i))) (c0.heard (some x) msg) →
    leaves (.mailboxGo dt fn true) s fun c => c.reg .hiMbxCtrl k 2 = 1 ∧ c.ent = c1.ent ∧ c.shadow = c1.shadow ∧
      c.hi.mbxReply.getD k [] = vosReply msg x.num 0 (c1.readReply 4080 (vosBody msg)) []) ∧
  (∀ (dt : Nat) (fn : Fn) (k : Nat) (s : State), k = (match fn with | .pf0 => 0 | .pf1 => 1) → s.ctl.reg .hiMbxCtrl k 2 = 1 → leaves (.mailboxGo dt fn true) s fun c =>
    c.reg .hiMbxCtrl k 4 = 1 ∧ c.reg .hiMbxCtrl k 2 = 1 ∧ c.hi = s.ctl.hi ∧ c.dy = s.ctl.dy ∧ c.ent = s.ctl.ent)

/-- PCIE_LINK_RESET, FUNCTION_LEVEL_RESET and HOST_LINK_UP: what a reset of the host interface clears, and what it leaves. -/
def Obligations.HostResetsClearTheirFunction : Prop :=
  (∀ (dt q : Nat) (s : State), q < 128 → leaves (.pcieLinkReset dt) s fun c => c.hi.linkUp = false ∧ c.e 0x530001 = 0 ∧ c.reg .hiEqCfg q 0 = (if s.ctl.reg .hiEqCfg q 0 = 1 then 0 else s.ctl.reg .hiEqCfg q 0) ∧
    c.reg .hiMbxCtrl (q / 64) 2 = 0 ∧ c.reg .hiMbxCtrl (q / 64) 3 = 0 ∧ c.hi.msixAt = s.ctl.hi.msixAt) ∧
  (∀ (dt : Nat) (fn : Fn) (k q : Nat) (s : State), k = (match fn with | .pf0 => 0 | .pf1 => 1) → q < 128 → q / 64 ≠ k → leaves (.functionLevelReset dt fn) s fun c =>
    c.reg .hiMbxCtrl k 2 = 0 ∧ c.reg .hiMbxCtrl k 3 = 0 ∧ c.reg .hiEqCfg q 0 = s.ctl.reg .hiEqCfg q 0 ∧ c.hi.linkUp = s.ctl.hi.linkUp ∧
    (∀ p ∈ c.hi.msix, p.1 / 1024 ≠ k) ∧ (∀ b ∈ c.hi.pba, b / 65 ≠ k)) ∧
  (∀ (dt width speed : Nat) (s : State), s.ctl.tadpole = false → [1, 2, 4, 8].contains width = true → 1 ≤ speed → speed ≤ 4 → leaves (.hostLinkUp dt width speed) s fun c =>
    c.hi.linkUp = true ∧ c.e 0x530001 = width + 16 * speed)

/-- EQ_ENABLE, EQ_HEAD_WRITE, EQ_RECORD_WRITE and MSIX_COALESCE: a held record goes to the entry at TAIL of its host ring by DMA. -/
def Obligations.HostRingsTakeRecords : Prop :=
  (∀ (dt queue : Nat) (s : State), queue < 128 → s.ctl.reg .hiEqCfg queue 0 = 0 → s.ctl.qbuf queue = [] → s.ctl.hi.eqWritten.contains queue = false →
    leaves (.eqEnable dt queue) s fun c =>
    c.reg .hiEqCfg queue 0 = 1 ∧ c.reg .hiEqPtr queue 0 = 0 ∧ c.reg .hiEqPtr queue 16 = 0 ∧ c.out = s.ctl.out ∧ c.ent = s.ctl.ent) ∧
  (∀ (dt queue value : Nat) (s : State), queue < 128 → leaves (.eqHeadWrite dt queue value) s fun c =>
    c = (s.ctl.advance dt).setReg .hiEqPtr queue 0 (value % 65536)) ∧
  (∀ (dt queue : Nat) (r : EvRec) (rest : List EvRec) (s : State), queue < 128 → s.ctl.qbuf queue = r :: rest → s.ctl.reg .hiEqCfg queue 0 ≠ 0 → s.ctl.hi.linkUp = true → s.ctl.eqRoom queue = true →
    s.ctl.reg .hiEqCfg queue 1 ≠ 0 → leaves (.eqRecordWrite dt queue) s fun c => c.qbuf queue = rest ∧ c.ent = s.ctl.ent ∧
      c.reg .hiEqPtr queue 16 = (s.ctl.eqTail queue + 1) % s.ctl.eqEntries queue ∧ c.reg .hiEqPtr queue 0 = s.ctl.eqHead queue ∧
      c.out = s.ctl.out ++ [{ kind := .hostWrite, a := s.ctl.eqAddr queue (s.ctl.eqTail queue), bytes := r.octets }]) ∧
  (∀ (dt queue : Nat) (s : State), queue < 128 → s.ctl.reg .hiEqCfg queue 1 ≠ 0 → s.ctl.hi.eqWritten.contains queue = true → aGet s.ctl.hi.msixAt queue = none →
    s.ctl.eqHead queue ≠ s.ctl.eqTail queue → s.ctl.msixMasked (queue / 64) (queue % 64) = false → leaves (.msixCoalesce dt queue) s fun c =>
      c.hi.eqWritten.contains queue = false ∧ c.regs = s.ctl.regs ∧
      c.out = s.ctl.out ++ [s.ctl.msixMessage (queue / 64) (queue % 64)])

/-- JQ_TAIL_WRITE, JQ_DISABLE and IRQ_ACK. DMA_JOB_DONE: the engine moves a job's octets between the host and DRAM, writes its result into
the descriptor and moves HEAD on. -/
def Obligations.JobQueuesAndDma : Prop :=
  (∀ (dt queue value : Nat) (s : State), queue < 2 → leaves (.jqTailWrite dt queue value) s fun c =>
    c.regs = (s.ctl.setReg .hiJqPtr queue 16 (value % 65536)).regs ∧ c.ent = s.ctl.ent ∧ (queue = 0 → c.hi = s.ctl.hi)) ∧
  (∀ (dt queue : Nat) (s : State), queue < 2 → leaves (.jqDisable dt queue) s fun c => c.reg .hiJqCfg queue 0 = 0 ∧
    (s.ctl.hi.j1.running = true → c.hi = s.ctl.hi) ∧ c.reg .hiJqPtr queue 0 = s.ctl.reg .hiJqPtr queue 0) ∧
  (∀ (dt mask p : Nat) (s : State), p < 8 → leaves (.irqAck dt mask) s fun c => (bit mask p = true → c.irq.testBit p = false) ∧
    (bit mask p = false → c.irq.testBit p = s.ctl.irq.testBit p) ∧ c.e 0x530005 = c.irq) ∧
  (∀ (dt : Nat) (bytes : List Byte) (ue : List DramErr) (a dram len : Nat) (m : Mem) (s : State), s.ctl.hi.j1.running = true → a = s.ctl.jqAddr 1 (s.ctl.jqHead 1) → m = s.mem.found ue → m.poisoned a 64 = false →
    s.ctl.dmaCheck (m.read a 64) = 0 → u8At (m.read a 64) 0 = 1 → dram = leAt (m.read a 64) 16 8 → len = leAt (m.read a 64) 24 4 →
    bytes.length = len → completes (.dmaJobDone dt 0 bytes false ue) s fun t => t.pending = s.pending ∧
      t.mem.dram = ((m.store dram bytes).store (a + 40) (toLE 4 len ++ [0, 0, 0, 0, 0])).dram ∧
      t.ctl.jqHead 1 = (s.ctl.jqHead 1 + 1) % s.ctl.jqEntries 1) ∧
  (∀ (dt : Nat) (bytes : List Byte) (moved : Nat) (ue : List DramErr) (a st : Nat) (m : Mem) (s : State), s.ctl.hi.j1.running = true → a = s.ctl.jqAddr 1 (s.ctl.jqHead 1) → m = s.mem.found ue → m.poisoned a 64 = false →
    st = s.ctl.dmaCheck (m.read a 64) → st ≠ 0 → completes (.dmaJobDone dt moved bytes false ue) s fun t => t.pending = s.pending ∧
      t.mem.dram = (m.store (a + 40) (toLE 4 0 ++ [0, 0, 0, 0, byteOf st])).dram ∧
      t.ctl.jqHead 1 = (s.ctl.jqHead 1 + 1) % s.ctl.jqEntries 1)

/-- WINDOW_ACCESS: a read returns the octets of DRAM, poisoned where a burst is, a write stores them, and an access outside DRAM is refused and counted. -/
def Obligations.WindowReachesDram : Prop :=
  (∀ (dt offset len : Nat) (ue : List DramErr) (a : Nat) (m : Mem) (s : State), a = s.ctl.reg .hiWinBase 0 0 * 268435456 + offset → s.ctl.dramOk a len = true → m = s.mem.found ue →
    completes (.windowAccess dt offset false len [] ue) s fun t => t.mem.dram = m.dram ∧ t.pending = s.pending ∧ t.ctl.readData = ofLE (m.read a len) ∧
      ({ kind := .completion, a := a, b := b2n (m.poisoned a len), bytes := m.read a len } : Emit) ∈ t.ctl.out) ∧
  (∀ (dt offset len a : Nat) (bytes : List Byte) (ue : List DramErr) (s : State), a = s.ctl.reg .hiWinBase 0 0 * 268435456 + offset → s.ctl.dramOk a bytes.length = true →
    completes (.windowAccess dt offset true len bytes ue) s fun t => t.mem.dram = ((s.mem.found ue).store a bytes).dram ∧ t.pending = s.pending ∧
      (∀ (z : Nat), (z < a ∨ a + bytes.length ≤ z) → t.mem.get z = (s.mem.found ue).get z)) ∧
  (∀ (dt offset len : Nat) (bytes : List Byte) (s : State), s.ctl.dramOk (s.ctl.reg .hiWinBase 0 0 * 268435456 + offset) bytes.length = false →
    completes (.windowAccess dt offset true len bytes []) s fun t => t.mem.dram = s.mem.dram ∧ t.pending = s.pending ∧
      t.ctl.e 0x530003 = satAdd 32 (s.ctl.e 0x530003) 1)

/-- REGISTER_WRITE and REGISTER_READ: a write of PF1 outside its blocks is refused and counted; what PF0 holds in HI_WIN_BASE it reads
back; a register that PF1 does not show reads 0. -/
def Obligations.RegistersKeepTheirAccess : Prop :=
  (∀ (dt : Nat) (at_ : RegAt) (value : Nat) (s : State), pf1Writes (blockAt 1 at_) = false → completes (.registerWrite dt .pf1 at_ value true []) s fun t =>
    t.mem.dram = s.mem.dram ∧ t.pending = s.pending ∧ t.ctl.regs = s.ctl.regs ∧ t.ctl.e 0x530002 = satAdd 32 (s.ctl.e 0x530002) 1 ∧ t.ctl.shadow = s.ctl.shadow) ∧
  (∀ (dt value : Nat) (s : State), value < 2 ^ 32 → completes (.registerWrite dt .pf0 (.named .hiWinBase 0 false) value true []) s fun t =>
    t.mem.dram = s.mem.dram ∧ t.pending = s.pending ∧ t.ctl.reg .hiWinBase 0 0 = bits value 7 0 ∧ t.ctl.ent = s.ctl.ent) ∧
  (∀ (dt : Nat) (reg : RegName) (inst : Nat) (s : State), inst < regCount reg → pf1Hidden reg = true → leaves (.registerRead dt .pf1 (.named reg inst false)) s fun c =>
    c = { s.ctl.advance dt with readData := 0 }) ∧
  (∀ (dt : Nat) (s : State), s.ctl.hiLatch = [] → leaves (.registerRead dt .pf0 (.named .hiWinBase 0 false)) s fun c =>
    c.readData = s.ctl.reg .hiWinBase 0 0 % 256 ∧ c.regs = s.ctl.regs ∧ c.ent = s.ctl.ent)

/-! ### Wall time and the flips (13, 00, 01) -/

/-- PTP_MESSAGE and PTP_SEND_TIMER: a Sync of the slave port far from the servo's prediction loses its domain, and one of a listening
domain starts its acquisition; the stamps of a delay exchange, less 112 UI each, give the mean delay; a delay request is answered; a timer
sends Sync with Follow_Up, Announce or a delay request. SYNC_TIMEOUT and ANNOUNCE_TIMEOUT: the domain is LOST. -/
def Obligations.PtpMessagesAndTheirTimeouts : Prop :=
  (∀ (dt port domain d : Nat) (x : List Int) (off : Int) (s : State), 1 ≤ port → port ≤ 4 → s.ctl.domainOf domain = some d → s.ctl.slavePort d = port → s.ctl.servosRun = true →
    (s.ctl.domState d = 2 ∨ s.ctl.domState d = 3) → s.ctl.timeState = 0 →
    off = tickD (ofSigned 64 (x.getD 0 0 + (s.ctl.ea 0x2309 (port - 1) : Int) * 65536 / 1000 + toSigned 32 (s.ctl.ea 0x2308 (port - 1)) * 65536 / 1000))
      (ofSigned 64 (x.getD 1 0 - s.ctl.portUi port)) → tNs (s.ctl.e 0x23000F) < (off - x.getD 2 0).natAbs →
    leaves (.ptpMessage dt port domain 0 x) s fun c => c.domState d = 4 ∧ (c.servo d).good = 0 ∧ (c.servo d).lostAt = s.ctl.up + dt ∧ c.timeState = 0) ∧
  (∀ (dt port domain d : Nat) (x : List Int) (off : Int) (s : State), 1 ≤ port → port ≤ 4 → s.ctl.domainOf domain = some d → s.ctl.slavePort d = port → s.ctl.servosRun = true →
    s.ctl.domState d = 1 →
    off = tickD (ofSigned 64 (x.getD 0 0 + (s.ctl.ea 0x2309 (port - 1) : Int) * 65536 / 1000 + toSigned 32 (s.ctl.ea 0x2308 (port - 1)) * 65536 / 1000))
      (ofSigned 64 (x.getD 1 0 - s.ctl.portUi port)) → leaves (.ptpMessage dt port domain 0 x) s fun c =>
      c.domState d = 2 ∧ (c.servo d).good = (if (off - x.getD 2 0).natAbs ≤ tNs 100 then 1 else 0) ∧ (c.servo d).syncAt = s.ctl.up + dt ∧
      c.ea 0x2305 d = ofSigned 32 (x.getD 3 0) ∧ (s.ctl.timeState = 2 → c.domOffset d = off)) ∧
  (∀ (dt port domain d : Nat) (x : List Int) (s : State), 1 ≤ port → port ≤ 4 → s.ctl.domainOf domain = some d → s.ctl.servosRun = true → leaves (.ptpMessage dt port domain 2 x) s fun c =>
    c.ea 0x2309 (port - 1) = ((((x.getD 1 0 - x.getD 0 0) + (x.getD 3 0 - x.getD 2 0) - 2 * s.ctl.portUi port) / 2).toNat * 1000 / 65536) % 2 ^ 32 ∧ c.tb = s.ctl.tb) ∧
  (∀ (dt port domain d got : Nat) (x : List Int) (a : Ctl) (s : State), 1 ≤ port → port ≤ 2 → s.ctl.domainOf domain = some d → s.ctl.servosRun = true → s.ctl.e 0x230013 = 0 →
    bits (s.ctl.ea 0x2307 (port - 1)) (8 * d + 7) (8 * d) = 6 → a = s.ctl.advance dt →
    a.mayAnswer port d = true → got = a.domTime d (x.getD 0 0 - s.ctl.portUi port) →
    leaves (.ptpMessage dt port domain 3 x) s fun c =>
      c = a.emit { kind := .ptp, a := port, b := 9, c := s.ctl.e 0x230012, bytes := s.ctl.ptpHeader port domain 9 54 0 (x.getD 4 0 - (got % 65536 : Nat)) (x.getD 3 0).toNat 0 ++ ptpStamp got ++ toBE 8 (x.getD 1 0).toNat ++ toBE 2 (x.getD 2 0).toNat }) ∧
  (∀ (dt port domain d got : Nat) (x : List Int) (a : Ctl) (s : State), 1 ≤ port → port ≤ 2 → s.ctl.domainOf domain = some d → s.ctl.servosRun = true → s.ctl.e 0x230013 ≠ 0 → a = s.ctl.advance dt →
    a.mayAnswer port d = true → got = a.domTime d (x.getD 0 0 - s.ctl.portUi port) →
    leaves (.ptpMessage dt port domain 3 x) s fun c => c =
      (a.emit { kind := .ptp, a := port, b := 3, c := s.ctl.e 0x230012, bytes := s.ctl.ptpHeader port domain 3 54 0x200 (-((got % 65536 : Nat) : Int)) (x.getD 3 0).toNat 127 ++ ptpStamp got ++ toBE 8 (x.getD 1 0).toNat ++ toBE 2 (x.getD 2 0).toNat }).emit
      { kind := .ptp, a := port, b := 10, c := s.ctl.e 0x230012, bytes := s.ctl.ptpHeader port domain 10 54 0 (x.getD 4 0 + (a.sendStamp port d % 65536 : Nat)) (x.getD 3 0).toNat 127 ++
        ptpStamp (a.sendStamp port d) ++ toBE 8 (x.getD 1 0).toNat ++ toBE 2 (x.getD 2 0).toNat }) ∧
  (∀ (dt port domain : Nat) (s : State), 1 ≤ port → port ≤ 2 → domain ≤ 1 → s.ctl.servosRun = true → s.ctl.domState domain ≠ 0 → s.ctl.domState domain ≠ 4 →
    bits (s.ctl.ea 0x2307 (port - 1)) (8 * domain + 7) (8 * domain) = 6 → leaves (.ptpSendTimer dt port domain 0) s fun c =>
    c.tb = { s.ctl.tb with ptpSeq := (s.ctl.tb.ptpSeq + 1) % 65536 } ∧ c.out = s.ctl.out ++ [
      { kind := .ptp, a := port, b := 0, c := s.ctl.e 0x230012, bytes :=
        s.ctl.ptpHeader port (s.ctl.ea 0x2302 domain) 0 44 0x200 0 s.ctl.tb.ptpSeq (toSigned 32 (s.ctl.e 0x230014)) ++ ptpStamp 0 },
      { kind := .ptp, a := port, b := 8, c := s.ctl.e 0x230012, bytes :=
        s.ctl.ptpHeader port (s.ctl.ea 0x2302 domain) 8 44 0 ((s.ctl.advance dt).sendStamp port domain % 65536) s.ctl.tb.ptpSeq (toSigned 32 (s.ctl.e 0x230014)) ++ ptpStamp ((s.ctl.advance dt).sendStamp port domain) }]) ∧
  (∀ (dt p domain : Nat) (s : State), p < 2 → domain ≤ 1 → s.ctl.servosRun = true → s.ctl.domState domain ≠ 0 → (s.ctl.advance dt).ptpOff domain (p + 3) = false → s.ctl.sideRoom p 64 →
    leaves (.ptpSendTimer dt (p + 3) domain 2) s fun c => c.tb = { s.ctl.tb with ptpSeq := (s.ctl.tb.ptpSeq + 1) % 65536 } ∧ c.ent = s.ctl.ent ∧
      c.sideCarries p 8 0xFE (sideMsg 8 0xFE s.ctl.srcPos (s.ctl.ptpHeader (p + 3) (s.ctl.ea 0x2302 domain) 2 54 0 0 s.ctl.tb.ptpSeq (-4) ++ ptpStamp 0 ++ toBE 10 0))) ∧
  (∀ (dt domain : Nat) (s : State), domain ≤ 1 → s.ctl.servosRun = true → s.ctl.domUp domain = true → s.ctl.slavePort domain ≠ 255 →
    (s.ctl.servo domain).syncAt + 3 * s.ctl.syncInterval (s.ctl.slavePort domain) ≤ s.ctl.up + dt → leaves (.syncTimeout dt domain) s fun c =>
      c.domState domain = 4 ∧ (c.servo domain).good = 0 ∧ (c.servo domain).lostAt = s.ctl.up + dt) ∧
  (∀ (dt domain : Nat) (s : State), domain ≤ 1 → s.ctl.servosRun = true → s.ctl.domUp domain = true → (∀ r ∈ s.ctl.tb.announces, r.domain = domain → r.at_ + tS 3 ≤ s.ctl.up + dt) →
    leaves (.announceTimeout dt domain) s fun c => c.domState domain = 4 ∧ c.slavePort domain = 255 ∧ (∀ r ∈ c.tb.announces, r.domain ≠ domain))

/-- RATE_SCHEDULE, RATE_CANCEL, TIME_STEP and SLEW_COMPLETE; with the time clock at its nominal rate a slew moves the Tick over its time
by its offset and no more. -/
def Obligations.RateChangesAndSteps : Prop :=
  (∀ (dt n : Nat) (s : State), (s.ctl.advance dt).rateStatus = 0 → n = (s.ctl.advance dt).flipAt (s.ctl.e 0x23000B) → leaves (.rateSchedule dt) s fun c =>
    c.tb.rateChange = some ⟨n, (s.ctl.advance dt).tn n, s.ctl.e 0x23000A⟩ ∧ c.e 0x23000D = (s.ctl.advance dt).tn n ∧ c.e 0x230006 = s.ctl.e 0x230006) ∧
  (∀ (dt : Nat) (r : RateChange) (s : State), s.ctl.tb.rateChange = some r → tUs 100 ≤ tickD r.fcTick ((s.ctl.advance dt).now) → leaves (.rateCancel dt) s fun c =>
    c.tb.rateChange = none ∧ c.e 0x23000D = 0 ∧ c.e 0x230006 = s.ctl.e 0x230006) ∧
  (∀ (dt : Nat) (s : State), s.ctl.stepAllowed = true → leaves (.timeStep dt) s fun c =>
    c.now = ofSigned 64 (((s.ctl.advance dt).now : Int) + (s.ctl.advance dt).domOffset s.ctl.activeDom) ∧ c.domOffset s.ctl.activeDom = 0 ∧ c.clk.slew = none) ∧
  (∀ (dt : Nat) (o : Int) (t0 : Nat) (s : State), s.ctl.clk.slew = some (o, t0) → slewTime o.natAbs ≤ t0 + dt → leaves (.slewComplete dt) s fun c => c.clk.slew = none ∧
    c.now = (s.ctl.advance dt).now ∧ ∀ (d : Nat), c.domOffset d = (s.ctl.advance dt).domOffset d) ∧
  (∀ (dt d : Nat) (o : Int) (c : Ctl), c.clk.slew = some (o, 0) → c.clk.freq = 0 → c.clk.rem = 0 → dt = slewTime o.natAbs →
    (c.advance dt).now = ofSigned 64 ((c.now : Int) + dt + o) ∧ (c.advance dt).domOffset d = c.domOffset d - o)

/-- DOMAIN_SWITCH_MESSAGE, SWITCH_TICK, SWITCH_NO_MESSAGE_TIMER, REVERT_TIMER and HOLDOVER_EXPIRED. -/
def Obligations.TheDomainSwitches : Prop :=
  (∀ (dt domain tick d : Nat) (s : State), s.ctl.servosRun = true → s.ctl.domainOf domain = some d → s.ctl.tb.switchTick = none → d ≠ s.ctl.activeDom →
    (s.ctl.timeState = 1 ∨ s.ctl.timeState = 2) → tickD tick (s.ctl.advance dt).now ≠ -(2 ^ 63 : Nat) → leaves (.domainSwitchMessage dt domain tick) s fun c =>
      c = { s.ctl.advance dt with tb := { s.ctl.tb with switchTick := some (tick, d), lossSwitch := !(s.ctl.domUp s.ctl.activeDom) }, clk := if s.ctl.domUp s.ctl.activeDom then (s.ctl.advance dt).clk else { (s.ctl.advance dt).clk with slew := none } }) ∧
  (∀ (dt t0 d : Nat) (s : State), s.ctl.servosRun = true → s.ctl.tb.switchTick = some (t0, d) → (s.ctl.advance dt).due t0 = true → s.ctl.domState d = 3 → d ≤ 1 → s.ctl.timeState ≠ 1 →
    leaves (.switchTick dt) s fun c => c.activeDom = d ∧ c.tb.switchTick = none ∧ c.tb.switched = true ∧ c.timeState = s.ctl.timeState ∧
    c.clk.freq = (s.ctl.servo d).freq ∧ (s.ctl.clk.slew = none → (s.ctl.advance dt).domOffset d ≠ 0 → c.clk.slew = some ((s.ctl.advance dt).domOffset d, 0))) ∧
  (∀ (dt t0 d : Nat) (s : State), s.ctl.servosRun = true → s.ctl.tb.switchTick = some (t0, d) → (s.ctl.advance dt).due t0 = true → s.ctl.domState d ≠ 3 →
    s.ctl.timeState ≠ 3 → leaves (.switchTick dt) s fun c => c.timeState = 3 ∧ c.tb.switchTick = none ∧ c.tb.holdoverAt = s.ctl.up + dt ∧
      c.activeDom = s.ctl.activeDom ∧ c.clk.slew = none) ∧
  (∀ (dt a : Nat) (s : State), s.ctl.servosRun = true → a = s.ctl.activeDom → a ≤ 1 → s.ctl.domState a = 4 → s.ctl.domState (1 - a) = 3 → s.ctl.tb.switchTick = none →
    (s.ctl.timeState = 1 ∨ s.ctl.timeState = 2) → (s.ctl.servo a).lostAt + tMs 100 ≤ s.ctl.up + dt → leaves (.switchNoMessageTimer dt) s fun c =>
      c.tb.switchTick = some (tickAdd (s.ctl.advance dt).now (tMs 10), 1 - a) ∧ c.out = s.ctl.out ∧ c.ent = s.ctl.ent) ∧
  (∀ (dt p : Nat) (s : State), s.ctl.servosRun = true → p = s.ctl.e 0x230003 → s.ctl.e 0x230004 ≠ 0 → s.ctl.activeDom ≤ 1 → s.ctl.activeDom ≠ p → s.ctl.timeState = 2 →
    s.ctl.tb.switchTick = none → s.ctl.domState p = 3 → fieldPort (s.ctl.slavePort s.ctl.activeDom) = true → (s.ctl.servo p).lockedAt + tS 60 ≤ s.ctl.up + dt →
    (∀ (q : Nat), q < 2 → s.ctl.sideRoom q 69) → leaves (.revertTimer dt) s fun c =>
      c.tb.switchTick = some (tickAdd (s.ctl.advance dt).now (tMs 10), p) ∧ c.activeDom = s.ctl.activeDom ∧ ∀ (q : Nat), q < 2 → c.sideCarries q 8 0xFD
        (sideMsg 8 0xFD s.ctl.srcPos (s.ctl.switchMsg (q + 3) p (tickAdd (s.ctl.advance dt).now (tMs 10))))) ∧
  (∀ (dt : Nat) (s : State), s.ctl.timeState = 3 → s.ctl.tb.holdoverExpired = false → s.ctl.tb.holdoverAt + tS (s.ctl.e 0x230011) ≤ s.ctl.up + dt →
    leaves (.holdoverExpired dt) s fun c => c.tb = { s.ctl.tb with holdoverExpired := true } ∧ c.timeState = 3)

/-- FRAME_FLIP: the flip whose instant has come is issued, and the next one is the next of the series; with the watchdog's reset ordered,
or a control pair out for 1 s, the part resets instead. FLIP_PRE_NOTICE and COMPARE_EVENT: the flip's Tick arms a compare event, which
fires when it is reached. -/
def Obligations.FlipsAndCompareEventsFire : Prop :=
  (∀ (dt reached : Nat) (store : Bool) (cut : Option MramCut) (ue : List DramErr) (bad : List Nat) (s : State), s.ctl.tb.issuing = true → tickD (s.ctl.tn s.ctl.tb.nextIndex) ((s.ctl.advance dt).now) ≤ 0 → s.ctl.fm.wdReset = false → s.ctl.fm.pairOutAt.any (fun z => decide (z + tS 1 ≤ s.ctl.up + dt)) = false →
    completes (.frameFlip dt reached store cut bad ue) s fun t => t.pending = s.pending ∧ t.ctl.tb.nextIndex = s.ctl.tb.nextIndex + 1 ∧ t.ctl.calcEnt 0x230008 = some (s.ctl.tb.nextIndex + 1) ∧ t.ctl.fm.withholdNext = none) ∧
  (∀ (dt reached : Nat) (store : Bool) (cut : Option MramCut) (ue : List DramErr) (bad : List Nat) (s : State), s.ctl.tb.issuing = true → tickD (s.ctl.tn s.ctl.tb.nextIndex) ((s.ctl.advance dt).now) ≤ 0 → s.ctl.fm.wdReset = true → s.ctl.pm.down = 0 →
    completes (.frameFlip dt reached store cut bad ue) s fun t => t.pending = s.pending ∧
      t.mem.dram = (enFlip s.ctl.tb.nextIndex (s.mem.found ue) (s.ctl.advance dt)).1.dram ∧ t.ctl.regs = [] ∧ t.ctl.bt.cause = 6 ∧ t.ctl.bt.step = 0) ∧
  (∀ (dt reached t0 : Nat) (store : Bool) (cut : Option MramCut) (ue : List DramErr) (bad : List Nat) (s : State), s.ctl.tb.issuing = true → tickD (s.ctl.tn s.ctl.tb.nextIndex) ((s.ctl.advance dt).now) ≤ 0 → s.ctl.fm.pairOutAt = some t0 → t0 + tS 1 ≤ s.ctl.up + dt → s.ctl.pm.down = 0 →
    completes (.frameFlip dt reached store cut bad ue) s fun t => t.pending = s.pending ∧
      t.mem.dram = (enFlip s.ctl.tb.nextIndex (s.mem.found ue) (s.ctl.advance dt)).1.dram ∧ t.ctl.regs = [] ∧ t.ctl.bt.cause = 6 ∧ t.ctl.bt.step = 0) ∧
  (∀ (dt reached : Nat) (store : Bool) (cut : Option MramCut) (ue : List DramErr) (bad : List Nat) (s : State), 0 < tickD (s.ctl.tn s.ctl.tb.nextIndex) ((s.ctl.advance dt).now) → s.ctl.tb.issuing = true →
    completes (.frameFlip dt reached store cut bad ue) s fun t => t.pending = s.pending ∧ t.mem.dram = (s.mem.found ue).dram ∧ t.ctl = (s.ctl.advance dt).setMc (fun m => { m with fixes := [] })) ∧
  (∀ (dt : Nat) (s : State), s.ctl.tb.issuing = true → s.ctl.tb.preNotice ≠ some s.ctl.tb.nextIndex → tickD (s.ctl.tn s.ctl.tb.nextIndex) ((s.ctl.advance dt).now) ≤ tUs 1 →
    leaves (.flipPreNotice dt) s fun c => c = { s.ctl.advance dt with tb := { s.ctl.tb with preNotice := some s.ctl.tb.nextIndex, armed := s.ctl.tb.armed ++ [⟨s.ctl.tn s.ctl.tb.nextIndex, s.ctl.tb.nextIndex⟩] } }) ∧
  (∀ (dt : Nat) (a : Armed) (rest : List Armed) (s : State), s.ctl.tb.armed = a :: rest → tickD a.target ((s.ctl.advance dt).now) ≤ 0 → leaves (.compareEvent dt) s fun c =>
    c = { s.ctl.advance dt with tb := { s.ctl.tb with armed := rest, fired := some a } })

/-- At a flip a commit record that is due applies its values when its check passes, and they go back to the staged set when it fails; a
record less than 100 µs old, and every record in a safe state, waits. The rate change of FC sets the new series. -/
def Obligations.RecordsAndRateApplyAtAFlip : Prop :=
  (∀ (tick rate k : Nat) (v : EVal) (r : CommitRec) (c : Ctl), c.isSafe = false → c.ea 0x1580 0 = 0 → c.dy.commits = [r] → 0 ≤ tickD tick (tickAdd r.acceptTick (tUs 100)) →
    r.vals = [(k, v)] → k / 256 = 0x4212 → (((c.setDy (fun d => { d with commits := [] })).setE 0x540007 r.id).setE 0x54000A tick |>.setE 0x230006 rate).setCheck r.vals = none →
    (c.runCommits true tick rate).ev k = v ∧ (c.runCommits true tick rate).dy.commits = [] ∧ (c.runCommits true tick rate).e 0x540007 = r.id ∧
    (c.runCommits true tick rate).e 0x540008 = 1) ∧
  (∀ (tick rate code k : Nat) (v : EVal) (data : List (Nat×Nat)) (r : CommitRec) (c : Ctl), c.isSafe = false → c.ea 0x1580 0 = 0 → c.dy.commits = [r] → 0 ≤ tickD tick (tickAdd r.acceptTick (tUs 100)) →
    r.vals = [(k, v)] → (((c.setDy (fun d => { d with commits := [] })).setE 0x540007 r.id).setE 0x54000A tick |>.setE 0x230006 rate).setCheck r.vals = some (code, data) →
    (c.runCommits true tick rate).dy.staged.contains k = true ∧ (c.runCommits true tick rate).dy.commits = [] ∧ (c.runCommits true tick rate).e 0x540007 = r.id ∧
    (c.runCommits true tick rate).e 0x540008 = 2 ∧ (c.runCommits true tick rate).e 0x540009 = code) ∧
  (∀ (tick rate : Nat) (c : Ctl), (c.isSafe = true ∨ ∀ (r : CommitRec), r ∈ c.dy.commits → tickD tick (tickAdd r.acceptTick (tUs 100)) < 0) → c.runCommits true tick rate = c) ∧
  (∀ (n : Nat) (r : RateChange) (c : Ctl), c.tb.rateChange = some r → r.fcIndex ≤ n → (c.hasImage = false ∨ imgRate c.img = r.rate) →
    (c.rateFlip n).e 0x230006 = r.rate ∧ (c.rateFlip n).e 0x230007 = r.fcTick ∧ (c.rateFlip n).e 0x230015 = r.fcIndex ∧ (c.rateFlip n).tb.rateChange = none ∧
    (c.rateFlip n).e 0x23000D = 0) ∧
  (∀ (n : Nat) (r : RateChange) (c : Ctl), c.tb.rateChange = some r → r.fcIndex ≤ n → c.hasImage = true → imgRate c.img ≠ r.rate →
    (c.rateFlip n).e 0x230006 = c.e 0x230006 ∧ (c.rateFlip n).e 0x230007 = c.e 0x230007 ∧ (c.rateFlip n).tb.rateChange = none)

/-! ### Faults and safe states (20) -/

/-- FAULT_REPORT and RECOVERY_WINDOW_CLOSE: a report is counted and shown; one whose class has a recovery opens a window of 500 µs, which
closes at its end. FRAME_HOLD_END, SAFE_STATE_END, FAULT_CLEAR and FLIP_WATCHDOG: which causes of a safe state end, and that SAFE_STATE is
the highest of those that hold. -/
def Obligations.ReportsWindowsAndSafeStates : Prop :=
  (∀ (dt : Nat) (r : FaultRep) (rest : List FaultRep) (s : State), s.ctl.fm.reports = r :: rest → leaves (.faultReport dt) s fun c =>
    c.e 0x15000F = satAdd 32 (s.ctl.e 0x15000F) 1 ∧ c.e 0x150011 = r.ev.code) ∧
  (∀ (dt : Nat) (r : FaultRep) (rest : List FaultRep) (cls u : Nat) (s : State), s.ctl.fm.reports = r :: rest → cls = faultClass r.ev.code r.ev.data → u = faultUnit cls r.ev.code r.ev.data r.block → opensWindow cls = true →
    (∀ w ∈ s.ctl.fm.window, w.stop ≤ r.at_) → leaves (.faultReport dt) s fun c => c.e 0x15000E = 1 ∧ c.fm.windowCount = s.ctl.fm.windowCount + 1 ∧
      c.fm.window = some { num := s.ctl.fm.windowCount + 1, start := r.at_, stop := r.at_ + tUs 500, cls := cls, unit_ := u, code := r.ev.code, compound := false }) ∧
  (∀ (dt : Nat) (r : FaultRep) (rest : List FaultRep) (w : Window) (cls u : Nat) (s : State), s.ctl.fm.reports = r :: rest → cls = faultClass r.ev.code r.ev.data → u = faultUnit cls r.ev.code r.ev.data r.block → opensWindow cls = true →
    s.ctl.fm.window = some w → r.at_ < w.stop → sameFault w cls u (cls = 9 && s.ctl.linkFault u r.at_) = false →
    s.ctl.fm.causes.any (fun x => x.kind = .compound && x.arg = w.num) = false → leaves (.faultReport dt) s fun c =>
      c.e 0x150010 = satAdd 32 (s.ctl.e 0x150010) 1 ∧ c.fm.window = some { w with stop := max w.stop (r.at_ + tUs 500), compound := true } ∧
      c.fm.causes.any (fun x => x.kind = .compound && x.arg = w.num && x.state = s.ctl.e 0x150003 + 1) = true) ∧
  (∀ (dt : Nat) (w : Window) (s : State), s.ctl.fm.window = some w → w.stop ≤ s.ctl.up + dt → leaves (.recoveryWindowClose dt) s fun c =>
    c.fm = { s.ctl.fm with window := none } ∧ c.e 0x15000E = 0) ∧
  (∀ (dt : Nat) (x : SafeCause) (s : State), x ∈ s.ctl.fm.causes → x.kind = .frameHold → x.since + tUs 1 ≤ s.ctl.up + dt → leaves (.frameHoldEnd dt) s fun c =>
    c.fm.causes = s.ctl.fm.causes.filter (fun y => !(y.kind = .frameHold && decide (y.since + tUs 1 ≤ s.ctl.up + dt))) ∧ c.e 0x150001 = c.fm.safe) ∧
  (∀ (dt : Nat) (x : SafeCause) (s : State), x ∈ s.ctl.fm.causes → (s.ctl.advance dt).settled x = true → s.ctl.e 0x150009 = 0 → leaves (.safeStateEnd dt) s fun c =>
    c.fm.causes = s.ctl.fm.causes.filter (fun y => !((s.ctl.advance dt).settled y || (y.kind = .refclk && (s.ctl.advance dt).refSettled))) ∧ c.e 0x150001 = c.fm.safe) ∧
  (∀ (dt : Nat) (x : SafeCause) (s : State), x ∈ s.ctl.fm.causes → (s.ctl.advance dt).settled x = true → leaves (.faultClear dt) s fun c =>
    c.fm.cleared = true ∧ c.e 0x150001 = c.fm.safe ∧
    c.fm.causes = s.ctl.fm.causes.filter (fun y => !((s.ctl.advance dt).settled y || (y.kind = .refclk && (s.ctl.advance dt).refSettled)))) ∧
  (∀ (dt : Nat) (s : State), 0 < s.ctl.e 0x150006 → s.ctl.fm.wdDone = false → s.ctl.e 0x150006 ≤ s.ctl.fm.wdCount → s.ctl.e 0x150007 = 1 → leaves (.flipWatchdog dt) s fun c =>
    c.fm.wdDone = true ∧ c.e 0x150001 = c.fm.safe ∧ 2 ≤ c.fm.safe) ∧
  (∀ (dt : Nat) (s : State), 0 < s.ctl.e 0x150006 → s.ctl.fm.wdDone = false → s.ctl.e 0x150006 ≤ s.ctl.fm.wdCount → s.ctl.e 0x150007 = 2 → leaves (.flipWatchdog dt) s fun c =>
    c.fm.wdDone = true ∧ c.fm.wdReset = true ∧ c.fm.causes = s.ctl.fm.causes) ∧
  (∀ (f : FmState), (∀ x ∈ f.causes, x.state ≤ f.safe) ∧ (f.safe = 0 ∨ f.causes.any (fun x => decide (x.state = f.safe)) = true))

/-- HEARTBEAT_MISSING and SEQUENCER_VOTE give the sequencer a report of the island or of the copy (the islands that send a heartbeat, the
model's reading, assumption log 104). TICK_REPLICA_COMPARE: a difference above
10 ns is reported and loads the Tick from its replica, a smaller one changes nothing. ISLAND_RECOVERED: the island's PLL reads locked and
its cause of a safe state ends. -/
def Obligations.IslandsReportAndReturn : Prop :=
  (∀ (dt island : Nat) (s : State), (island = 2 ∨ 4 ≤ island) → island ≤ 7 → leaves (.heartbeatMissing dt island) s fun c =>
    c.fm.reports = s.ctl.fm.reports ++ [⟨⟨0x05C2, island, (s.ctl.advance dt).now⟩, s.ctl.up + dt, 0⟩] ∧ c.fm.causes = s.ctl.fm.causes ∧ c.clk = (s.ctl.advance dt).clk) ∧
  (∀ (dt island : Nat) (s : State), [2, 4, 5, 6, 7].contains island = false → leaves (.heartbeatMissing dt island) s fun c => c = s.ctl.advance dt) ∧
  (∀ (dt : Nat) (diff : Int) (s : State), tNs 10 < diff.natAbs → leaves (.tickReplicaCompare dt diff) s fun c =>
    c.now = ofSigned 64 (((s.ctl.advance dt).now : Int) + diff) ∧ c.domOffset 0 = (s.ctl.advance dt).domOffset 0 - diff ∧
    c.domOffset 1 = (s.ctl.advance dt).domOffset 1 - diff ∧ c.fm.reports = s.ctl.fm.reports ++ [⟨⟨0x05C2, 3, (s.ctl.advance dt).now⟩, s.ctl.up + dt, 0⟩]) ∧
  (∀ (dt : Nat) (diff : Int) (s : State), diff.natAbs ≤ tNs 10 → leaves (.tickReplicaCompare dt diff) s fun c => c = s.ctl.advance dt) ∧
  (∀ (dt island : Nat) (s : State), island < 8 → leaves (.islandRecovered dt island) s fun c => c.e 0x120008 = setBit (s.ctl.e 0x120008) island true ∧
    c.fm.causes = s.ctl.fm.causes.filter (fun x => !(x.kind = .island && x.arg = island)) ∧ c.fm.reports = s.ctl.fm.reports) ∧
  (∀ (dt copy : Nat) (s : State), copy < 256 → leaves (.sequencerVote dt copy) s fun c =>
    c.fm.reports = s.ctl.fm.reports ++ [⟨⟨0x05C4, copy, (s.ctl.advance dt).now⟩, s.ctl.up + dt, 0⟩] ∧ c.fm.causes = s.ctl.fm.causes ∧ c.clk = (s.ctl.advance dt).clk)

/-- SELF_TEST_DONE: a unit out for the first time since reset that passes its test is back, any other stays as it is; one that fails its test waits for UNIT_RESTORE or a reset. UNIT_RESTORE: a unit
that is out is back, a Brush at the start of the next frame, and one that is not out stays as it is. LANE_READMIT: a withheld lane is no
longer withheld, and its orders are forgotten. LOG_CLEAR: the log and FAULT_HISTORY are empty, and SEQ is 1. -/
def Obligations.UnitsLanesAndTheLogAreRestored : Prop :=
  (∀ (dt subsystem unit_ : Nat) (s : State), subsystem ∈ [0x20, 0x21, 0x41, 0x42] → s.ctl.isOut subsystem unit_ = true → aGet s.ctl.fm.unitOuts (unitKey subsystem unit_) = some 1 →
    leaves (.selfTestDone dt subsystem unit_ true) s fun c => c.isOut subsystem unit_ = false ∧ c.fm.unitOuts = s.ctl.fm.unitOuts) ∧
  (∀ (dt subsystem unit_ : Nat) (s : State), (s.ctl.isOut subsystem unit_ = false ∨ aGet s.ctl.fm.unitOuts (unitKey subsystem unit_) ≠ some 1) →
    leaves (.selfTestDone dt subsystem unit_ true) s fun c => c = s.ctl.advance dt) ∧
  (∀ (dt subsystem unit_ : Nat) (s : State), s.ctl.isOut subsystem unit_ = true → leaves (.selfTestDone dt subsystem unit_ false) s fun c =>
    c = { s.ctl.advance dt with fm := { s.ctl.fm with unitOuts := aSet s.ctl.fm.unitOuts (unitKey subsystem unit_) (max 2 ((aGet s.ctl.fm.unitOuts (unitKey subsystem unit_)).getD 0)) } }) ∧
  (∀ (dt value : Nat) (s : State), bits value 15 8 ∈ [0x20, 0x21, 0x41, 0x42] → s.ctl.isOut (bits value 15 8) (bits value 7 0) = true → leaves (.unitRestore dt value) s fun c =>
    c.isOut (bits value 15 8) (bits value 7 0) = false ∧ c.fm.unitOuts = s.ctl.fm.unitOuts) ∧
  (∀ (dt value : Nat) (s : State), bits value 15 8 = 0x30 → s.ctl.isOut 0x30 (bits value 7 0) = true → s.ctl.es.out.contains (bits value 7 0) = true → leaves (.unitRestore dt value) s fun c =>
    c.es.restore.contains (bits value 7 0) = true ∧ c.es.out = s.ctl.es.out) ∧
  (∀ (dt value : Nat) (s : State), s.ctl.isOut (bits value 15 8) (bits value 7 0) = false → leaves (.unitRestore dt value) s fun c => c = s.ctl.advance dt) ∧
  (∀ (dt lane : Nat) (s : State), s.ctl.fm.withheld.contains lane = true → leaves (.laneReadmit dt lane) s fun c =>
    c.fm.withheld.contains lane = false ∧ aGet c.fm.laneOrders lane = none ∧ c.ent = s.ctl.ent ∧ c.ln = s.ctl.ln ∧ c.rg = s.ctl.rg) ∧
  (∀ (dt : Nat) (s : State), leaves (.logClear dt) s fun c => c.fm = { s.ctl.fm with log := [], history := [], histWait := [], nextSeq := 1, savedSeq := 1 } ∧
    c.e 0x700001 = 0 ∧ c.e 0x700002 = 0 ∧ c.e 0x700003 = 0 ∧ c.out = s.ctl.out)

/-! ### The serial lanes (11) -/

/-- PORT_BRINGUP_START, PORT_RETRAIN and TRAIN_RETRY: the port starts its bring-up at code 0 on every lane that is not in TEST. -/
def Obligations.PortsStartAtCodeZero : Prop :=
  (∀ (dt port n : Nat) (s : State), port < 2 → n < 9 → s.ctl.ln.ports.length = 2 → s.ctl.ln.lanes.length = 56 → s.ctl.ringOn = true → s.ctl.ea 0x2001 port = 1 →
    (s.ctl.port port).stage = 0 → s.ctl.laneSt (9 * port + n) ≠ 5 → leaves (.portBringupStart dt port) s fun c =>
      (c.port port).stage = 1 ∧ (c.port port).startedAt = s.ctl.up + dt ∧ c.laneSt (9 * port + n) = 1 ∧ c.ea 0x2012 (9 * port + n) = 1250000 ∧
      (c.lane (9 * port + n)).code = 0 ∧ (c.lane (9 * port + n)).taps = (s.ctl.lane (9 * port + n)).taps) ∧
  (∀ (dt port n : Nat) (s : State), port < 2 → n < 9 → s.ctl.ln.ports.length = 2 → s.ctl.ln.lanes.length = 56 → s.ctl.ringOn = true → s.ctl.ea 0x2001 port = 1 →
    s.ctl.laneSt (9 * port + n) ≠ 5 → leaves (.portRetrain dt port) s fun c =>
      (c.port port).stage = 1 ∧ (c.port port).startedAt = s.ctl.up + dt ∧ c.laneSt (9 * port + n) = 1 ∧ c.portUp port = false) ∧
  (∀ (dt port n : Nat) (s : State), port < 2 → n < 9 → s.ctl.ln.ports.length = 2 → s.ctl.ln.lanes.length = 56 → (s.ctl.port port).stage = 4 → (s.ctl.port port).retryAt ≤ s.ctl.up + dt →
    s.ctl.laneSt (9 * port + n) ≠ 5 → leaves (.trainRetry dt port) s fun c =>
      (c.port port).stage = 1 ∧ (c.port port).startedAt = s.ctl.up + dt ∧ c.laneSt (9 * port + n) = 1)

/-- LANE_CONTROL_FRAME and LANE_CONTROL_PERIOD: a frame with a bad CRC16 only shows that there is a signal, CAPABILITY frames pair a lane,
a CHANGE counts down; a lane in pairing sends CAPABILITY, one in the last 50 µs of its check RESULT with this end's PASS_MASK, and SEQ counts. -/
def Obligations.ControlFramesPairAndChange : Prop :=
  (∀ (dt lane : Nat) (bytes : List Byte) (s : State), lane < 18 → frameOk bytes = false → leaves (.laneControlFrame dt lane bytes) s fun c =>
    c = (s.ctl.advance dt).setPort (lane / 9) (fun q => { q with seenAt := s.ctl.up + dt })) ∧
  (∀ (dt lane : Nat) (bytes : List Byte) (s : State), lane < 18 → lane < s.ctl.ln.lanes.length → frameOk bytes = true → u8At bytes 0 / 16 = 1 → s.ctl.laneSt lane ≠ 0 →
    (s.ctl.lane lane).phase = .pairing → (s.ctl.lane lane).paired = false → (s.ctl.lane lane).run < 2 → bits (u8At bytes 1) 3 0 = lane % 9 →
    bits (u8At bytes 1) 6 6 = 1 - lane / 9 → (s.ctl.port (lane / 9)).partnerMask = some (u8At bytes 2 % 64) →
    leaves (.laneControlFrame dt lane bytes) s fun c => (c.lane lane).run = (s.ctl.lane lane).run + 1 ∧ (c.lane lane).paired = false ∧ c.ent = s.ctl.ent) ∧
  (∀ (dt lane : Nat) (bytes : List Byte) (s : State), lane < 18 → lane < s.ctl.ln.lanes.length → frameOk bytes = true → u8At bytes 0 / 16 = 3 → s.ctl.laneSt lane ≠ 0 → s.ctl.laneSt lane ≠ 5 →
    s.ctl.leads (lane / 9) = false → ofBE (slice bytes 6 2) % 16 ≠ 0 → leaves (.laneControlFrame dt lane bytes) s fun c =>
      (c.lane lane).change = some (u8At bytes 3 % 16, ofBE (slice bytes 6 2) % 16) ∧ c.ent = s.ctl.ent) ∧
  (∀ (dt lane : Nat) (res : List CheckRes) (x : Lane) (s : State), x = s.ctl.lane lane → lane < 18 → lane < s.ctl.ln.lanes.length → s.ctl.laneSt lane = 1 → s.ctl.ea 0x2011 lane = 0 → x.powerLeft = 0 →
    x.loopAnswer = none → x.loopSlave = false → x.change = none → x.phase = .pairing → leaves (.laneControlPeriod dt lane res) s fun c =>
      (c.lane lane).seq = (x.seq + 1) % 256 ∧ (c.lane lane).prbsAt = x.prbsAt + trainBits x.code ∧ c.ent = s.ctl.ent ∧
      c.out.map (fun e => (e.kind, e.a, e.bytes)) = s.ctl.out.map (fun e => (e.kind, e.a, e.bytes)) ++ [(.laneCtl, lane, s.ctl.frameOut lane 1 (s.ctl.finalRate (lane / 9)) 0)]) ∧
  (∀ (dt lane t0 : Nat) (res : List CheckRes) (x : Lane) (s : State), x = s.ctl.lane lane → lane < 18 → lane < s.ctl.ln.lanes.length → s.ctl.laneSt lane = 1 → s.ctl.ea 0x2011 lane = 0 → x.powerLeft = 0 →
    x.loopAnswer = none → x.loopSlave = false → x.change = none → x.phase = .ready → x.checkFrom = some t0 → t0 + tUs 450 ≤ s.ctl.up + dt → x.solo = false →
    leaves (.laneControlPeriod dt lane res) s fun c => (c.lane lane).seq = (x.seq + 1) % 256 ∧ c.ent = s.ctl.ent ∧
      c.out.map (fun e => (e.kind, e.a, e.bytes)) = s.ctl.out.map (fun e => (e.kind, e.a, e.bytes)) ++
        [(.laneCtl, lane, s.ctl.frameOut lane 4 0 (s.ctl.ownPass (lane / 9) (bitsOf 9 (s.ctl.port (lane / 9)).stepLanes) res))])

/-- LEADER_STEP_TIMER, RELOCK_DONE, ADAPTATION_DONE and STEP_CHECK_DONE: the steps of a bring-up; an adaptation ends
after 3 trials without a gain or at its limit, and the best taps are restored before RX_READY. -/
def Obligations.BringUpSteps : Prop :=
  (∀ (dt port t0 : Nat) (s : State), port < s.ctl.ln.ports.length → (s.ctl.port port).stage = 1 → (s.ctl.port port).firstPaired = some t0 → t0 + tMs 10 ≤ s.ctl.up + dt →
    s.ctl.leads port = true → (s.ctl.port port).minLanes ≤ popCount 9 (s.ctl.pairedMask port) → s.ctl.finalRate port ≠ 0 → leaves (.leaderStepTimer dt port) s fun c =>
      (c.port port).stage = 2 ∧ (c.port port).stepLanes = s.ctl.pairedMask port ∧ (c.port port).prevLanes = s.ctl.pairedMask port ∧ (c.port port).code = 0) ∧
  (∀ (dt port t0 : Nat) (s : State), port < s.ctl.ln.ports.length → (s.ctl.port port).stage = 1 → (s.ctl.port port).firstPaired = some t0 → t0 + tMs 10 ≤ s.ctl.up + dt →
    s.ctl.leads port = true → popCount 9 (s.ctl.pairedMask port) < (s.ctl.port port).minLanes → leaves (.leaderStepTimer dt port) s fun c =>
      (c.port port).stage = 4 ∧ (c.port port).retryAt = (s.ctl.port port).startedAt + tS 1) ∧
  (∀ (dt port n : Nat) (s : State), n < 9 → 9 * port + n < s.ctl.ln.lanes.length → (s.ctl.lane (9 * port + n)).phase = .relock → s.ctl.inStep port n = true →
    leaves (.relockDone dt port [n] []) s fun c => c.ent = s.ctl.ent ∧
      (c.lane (9 * port + n)).phase = (if (s.ctl.lane (9 * port + n)).code < 2 then .ready else .adapt)) ∧
  (∀ (dt lane h w : Nat) (x : Lane) (s : State), x = s.ctl.lane lane → lane < s.ctl.ln.lanes.length → x.phase = .adapt → (3 ≤ x.noGain ∨ x.adaptFrom + x.adaptLimit ≤ s.ctl.up + dt) →
    (∀ (i : Nat), i < 3 → x.pos.getD i 0 = x.bestPos.getD i 0) → leaves (.adaptationDone dt lane h w) s fun c =>
    (c.lane lane).phase = .ready ∧ (c.lane lane).rxReady = true ∧ c.ea 0x2016 lane = h ∧ c.ea 0x2017 lane = w) ∧
  (∀ (dt lane h w i : Nat) (x : Lane) (s : State), x = s.ctl.lane lane → lane < s.ctl.ln.lanes.length → x.phase = .adapt → (3 ≤ x.noGain ∨ x.adaptFrom + x.adaptLimit ≤ s.ctl.up + dt) →
    i < 3 → x.pos.getD i 0 ≠ x.bestPos.getD i 0 → leaves (.adaptationDone dt lane h w) s fun c =>
    (c.lane lane).phase = .adapt ∧ (c.lane lane).ending = true ∧ c.ea 0x2016 lane = h ∧ c.ea 0x2017 lane = w) ∧
  (∀ (dt lane h w : Nat) (x : Lane) (s : State), x = s.ctl.lane lane → x.phase = .adapt → x.noGain < 3 → s.ctl.up + dt < x.adaptFrom + x.adaptLimit → leaves (.adaptationDone dt lane h w) s fun c =>
    c = s.ctl.advance dt) ∧
  (∀ (dt port n : Nat) (res : List (Nat×Nat×Nat×Nat×Nat)) (s : State), port < 2 → n < 9 → s.ctl.ln.lanes.length = 56 → (s.ctl.lane (9 * port + n)).solo = true →
    (s.ctl.lane (9 * port + n)).phase = .ready → (s.ctl.advance dt).lanePass (9 * port + n) res = true → (s.ctl.port port).code ≤ (s.ctl.lane (9 * port + n)).code →
    leaves (.stepCheckDone dt port res (some n)) s fun c => c.laneSt (9 * port + n) = 2 ∧ (c.lane (9 * port + n)).cleanFrom = some (s.ctl.up + dt) ∧
      (c.lane (9 * port + n)).lastGood = some (s.ctl.lane (9 * port + n)).code) ∧
  (∀ (dt port : Nat) (s : State), port < s.ctl.ln.ports.length → (s.ctl.port port).stage = 2 → (s.ctl.port port).fallback = true → 0 < (s.ctl.port port).minLanes →
    leaves (.stepCheckDone dt port [] none) s fun c => (c.port port).stage = 4 ∧ (c.port port).retryAt = (s.ctl.port port).startedAt + tS 1)

/-- NO_PARTNER_TIMEOUT, BRUMATION_EXIT, LANE_FAILURE_DETECT, LANE_RETRAIN and RETRAIN_RETRY. EYE_UPDATE, QUIET_CHECK_PERIOD, LANE_TEST,
LANE_RETURN, TEST_INJECT, RETURN_LANE_SYNC_LOSS, RETURN_LANE_SYNC_REGAINED and FIELD_PORT_RECOVERED. -/
def Obligations.LanesFailReturnAndAreTested : Prop :=
  (∀ (dt port n : Nat) (s : State), port < 2 → n < 9 → s.ctl.ln.ports.length = 2 → s.ctl.ln.lanes.length = 56 → ((s.ctl.port port).stage = 1 ∨ (s.ctl.port port).stage = 2 ∨ (s.ctl.port port).stage = 4) →
    (s.ctl.port port).seenAt + tMs 100 ≤ s.ctl.up + dt → s.ctl.laneSt (9 * port + n) ≠ 5 →
    leaves (.noPartnerTimeout dt port) s fun c => (c.port port).stage = 6 ∧ c.laneSt (9 * port + n) = 0 ∧ c.ea 0x2011 (9 * port + n) = 2) ∧
  (∀ (dt port n : Nat) (s : State), port < 2 → n < 9 → s.ctl.ln.ports.length = 2 → s.ctl.ln.lanes.length = 56 → s.ctl.ea 0x2001 port ≠ 0 → (s.ctl.port port).stage = 6 →
    s.ctl.laneSt (9 * port + n) ≠ 5 → leaves (.brumationExit dt port) s fun c => (c.port port).stage = 1 ∧ c.laneSt (9 * port + n) = 1) ∧
  (∀ (dt lane cause : Nat) (seen : List Nat) (s : State), lane < 18 → 1 ≤ cause → cause ≤ 5 → s.ctl.ea 0x2011 lane = 0 → s.ctl.laneSt lane = 2 → (cause = 3 → (s.ctl.laneSees lane seen).laneSync lane = false) →
    leaves (.laneFailureDetect dt lane cause seen) s fun c =>
    c.laneSt lane = 3 ∧ c.ea 0x201A lane = cause ∧ c.ea 0x2019 lane = satAdd (entWidth (ekey 0x2019 (lane + 1))) (s.ctl.ea 0x2019 lane) 1 ∧
    c.fm.reports = s.ctl.fm.reports ++ [⟨⟨0x10C1, lane + 256 * cause, (s.ctl.advance dt).now⟩, s.ctl.up + dt, 0⟩]) ∧
  (∀ (dt lane cause : Nat) (seen : List Nat) (s : State), (lane = 54 ∨ lane = 55) → 1 ≤ cause → cause ≤ 5 → s.ctl.laneSt lane = 2 → (cause = 3 → (s.ctl.laneSees lane seen).laneSync lane = false) → leaves (.laneFailureDetect dt lane cause seen) s fun c =>
    c.laneSt lane = 3 ∧ c.ea 0x201A lane = cause) ∧
  (∀ (dt lane : Nat) (s : State), lane < 18 → lane < s.ctl.ln.lanes.length → s.ctl.portUp (lane / 9) = true → s.ctl.laneSt lane = 3 → s.ctl.laneOut lane = true →
    leaves (.laneRetrain dt lane) s fun c => c.laneSt lane = 4 ∧ (c.lane lane).solo = true ∧ (c.lane lane).code = 0 ∧ c.rg = s.ctl.rg) ∧
  (∀ (dt lane t0 : Nat) (s : State), lane < 18 → lane < s.ctl.ln.lanes.length → (s.ctl.lane lane).retryAt = some t0 → t0 ≤ s.ctl.up + dt → s.ctl.laneSt lane = 4 →
    leaves (.retrainRetry dt lane) s fun c => c.laneSt lane = 4 ∧ (c.lane lane).retryAt = none ∧ (c.lane lane).startedAt = s.ctl.up + dt) ∧
  (∀ (dt lane h w errors nbits : Nat) (s : State), lane < 18 → s.ctl.ea 0x2011 lane = 0 → s.ctl.laneSt lane = 2 → s.ctl.laneCal lane = false → (s.ctl.lane lane).phase ≠ .adapt → leaves (.eyeUpdate dt lane h w errors nbits) s fun c =>
    c.ea 0x2016 lane = h ∧ c.ea 0x2017 lane = w ∧ c.ea 0x2018 lane = 0 ∧ c.ea 0x201F lane = s.ctl.ea 0x201F lane) ∧
  (∀ (dt lane h w : Nat) (s : State), lane < 18 → s.ctl.ea 0x2011 lane = 1 → leaves (.quietCheckPeriod dt lane h w) s fun c =>
    c.ea 0x2016 lane = h ∧ c.ea 0x2017 lane = w ∧ c.ea 0x2018 lane = 0 ∧ c.ea 0x2011 lane = 1) ∧
  (∀ (dt lane : Nat) (s : State), lane < 56 → s.ctl.ln.lanes.length = 56 → s.ctl.mayTest lane = true → loopOk lane (s.ctl.ea 0x201E lane % 4) = true →
    (bits (s.ctl.ea 0x201E lane) 10 8 = 0 ∨ hasGen lane = true) → (bit (s.ctl.ea 0x201E lane) 16 = false ∨ s.ctl.ea 0x201E lane % 4 ≠ 2) → leaves (.laneTest dt lane) s fun c =>
      c.laneSt lane = 5 ∧ c.ea 0x2012 lane = s.ctl.testKbps lane ∧ (c.lane lane).taps = (s.ctl.lane lane).taps) ∧
  (∀ (dt lane : Nat) (s : State), lane < 256 → s.ctl.laneSt lane ≠ 5 → leaves (.laneReturn dt lane) s fun c =>
    c.laneSt lane = s.ctl.laneSt lane ∧ c.ln = s.ctl.ln ∧ (0x1083 % 256 ≥ s.ctl.e 0x700005 → c.fm.log ≠ [])) ∧
  (∀ (dt lane : Nat) (s : State), lane < 18 → lane < s.ctl.ln.lanes.length → s.ctl.laneSt lane = 5 → s.ctl.portUp (lane / 9) = true → leaves (.laneReturn dt lane) s fun c =>
    c.laneSt lane = 4 ∧ (c.lane lane).solo = true) ∧
  (∀ (dt lane t0 n0 n : Nat) (s : State), s.ctl.laneSt lane = 5 → bits (s.ctl.ea 0x201E lane) 10 8 ≠ 0 → (s.ctl.lane lane).chk = some (t0, n0) → lane < 56 →
    n = (s.ctl.up + dt - t0) * s.ctl.ea 0x2012 lane / 65536000000 → 64 ≤ n → leaves (.testInject dt lane) s fun c =>
    c.ea 0x201F lane = satAdd 32 (s.ctl.ea 0x201F lane) 1 ∧ c.ea 0x2020 lane = (n0 + (n - 64)) % 2 ^ 64 ∧
    c.out = s.ctl.out ++ (if s.ctl.genDrives lane && !s.ctl.pinsIdle lane then [{ kind := .pattern, a := lane, b := 8 }] else [])) ∧
  (∀ (dt lane t0 n0 : Nat) (s : State), s.ctl.laneSt lane = 5 → bits (s.ctl.ea 0x201E lane) 10 8 ≠ 0 → (s.ctl.lane lane).chk = some (t0, n0) → (s.ctl.lane lane).locked = false →
    lane < s.ctl.ln.lanes.length → (s.ctl.up + dt - t0) * s.ctl.ea 0x2012 lane / 65536000000 < 64 → leaves (.testInject dt lane) s fun c =>
    c.ent = s.ctl.ent ∧ (c.lane lane).chk = some (s.ctl.up + dt, n0) ∧ c.out = s.ctl.out ++ (if s.ctl.genDrives lane && !s.ctl.pinsIdle lane then [{ kind := .pattern, a := lane, b := 8 }] else [])) ∧
  (∀ (dt r : Nat) (seen : List Nat) (s : State), r < 4 → s.ctl.laneSt (50 + r) = 2 → (s.ctl.laneSees (50 + r) seen).laneSync (50 + r) = false → leaves (.returnLaneSyncLoss dt r seen) s fun c => c.laneSt (50 + r) = 6) ∧
  (∀ (dt r : Nat) (seen : List Nat) (s : State), r < 4 → s.ctl.laneSt (50 + r) = 6 → (s.ctl.laneSees (50 + r) seen).laneSync (50 + r) = true → leaves (.returnLaneSyncRegained dt r seen) s fun c => c.laneSt (50 + r) = 2 ∧ c.ea 0x2012 (50 + r) = 1250000) ∧
  (∀ (dt f : Nat) (s : State), f < 2 → s.ctl.laneSt (54 + f) = 3 → leaves (.fieldPortRecovered dt f) s fun c => c.laneSt (54 + f) = (if Config.fieldFitted f = true then 2 else 0) ∧
    c.ea 0x2012 (54 + f) = (if Config.fieldFitted f = true then fieldKbps f else 0) ∧ c.rg = s.ctl.rg)

/-- RING_SLICE_RX: a slice for this tile that is not intact is counted and dropped, an intact DEXSIA slice gives decode its units, and a
slice that the other side needs goes out of the other port; none is found while the next FIRST is sought. LANE_OUT_ORDER, MAP_CHANGE_SEND and LANE_CLEAN: a failed lane leaves the
stripes by a map change once no slice is in progress or 180 µs after its order, and a clean one asks to return. -/
def Obligations.RingSlicesAndStripes : Prop :=
  (∀ (dt port back : Nat) (x : RingSlice) (bad : List Nat) (s : State), port < 2 → s.ctl.portUp port = true → (s.ctl.rgPort port).seek = false → s.ctl.tileIndex < 128 →
    bit x.mask s.ctl.tileIndex = true → x.kind ≤ 2 → x.reason (s.ctl.sliceBad port back x) ≠ 0 →
    leaves (.ringSliceRx dt port x.h0 x.h1 x.h2 x.h3 x.payload x.trailer back bad) s fun c => c.dc = s.ctl.dc ∧ c.pd = s.ctl.pd ∧ c.ea 0x2114 port = s.ctl.ea 0x2114 port ∧
      c.ea 0x2116 port = satAdd (entWidth (ekey 0x2116 (port + 1))) (s.ctl.ea 0x2116 port) 1 ∧ (c.rgPort port).seek = x.badLength) ∧
  (∀ (dt port back : Nat) (x : RingSlice) (bad : List Nat) (s : State), port < 2 → s.ctl.portUp port = true → (s.ctl.rgPort port).seek = false → s.ctl.tileIndex < 128 →
    bit x.mask s.ctl.tileIndex = true → x.kind = 1 → x.reason (s.ctl.sliceBad port back x) = 0 →
    leaves (.ringSliceRx dt port x.h0 x.h1 x.h2 x.h3 x.payload x.trailer back bad) s fun c =>
      c.dc.arriving = s.ctl.dc.arriving ++ splitUnits (x.payload.take x.length) ∧
      c.ea 0x2114 port = satAdd (entWidth (ekey 0x2114 (port + 1))) (s.ctl.ea 0x2114 port) 1) ∧
  (∀ (dt port back out fifo : Nat) (x : RingSlice) (bad : List Nat) (s : State), port < 2 → out = 1 - port → s.ctl.portUp port = true → (s.ctl.rgPort port).seek = false → s.ctl.portUp out = true →
    x.kind = 2 → x.badLength = false → x.mask &&& s.ctl.downMask (decide (out = 0)) ≠ 0 →
    fifo = (((s.ctl.advance dt).drainPort out).rgPort out).fifo → (fifo + x.length + 40 ≤ 65536 ∨ fifo = 0 ∧ s.ctl.fastEnough out port = true) →
    (s.ctl.tileIndex < 128 → bit x.mask s.ctl.tileIndex = false) →
    leaves (.ringSliceRx dt port x.h0 x.h1 x.h2 x.h3 x.payload x.trailer back bad) s fun c => c.dc = s.ctl.dc ∧
      c.ea 0x2115 out = satAdd (entWidth (ekey 0x2115 (out + 1))) (s.ctl.ea 0x2115 out) 1 ∧
      ({ kind := .ringSlice, a := out, bytes := x.octets } : Emit) ∈ c.out) ∧
  (∀ (dt port back : Nat) (x : RingSlice) (bad : List Nat) (s : State), (s.ctl.portUp port = false ∨ (s.ctl.rgPort port).seek = true) →
    leaves (.ringSliceRx dt port x.h0 x.h1 x.h2 x.h3 x.payload x.trailer back bad) s fun c => c = s.ctl.advance dt) ∧
  (∀ (dt lane : Nat) (s : State), s.ctl.fm.ordersOut.contains lane = true → s.ctl.portUp (lane / 9) = true → leaves (.laneOutOrder dt lane) s fun c =>
    c.fm.ordersOut.contains lane = false ∧
    (c.rgPort (lane / 9)).change.map MapChange.failed = some ((((s.ctl.rgPort (lane / 9)).change.map MapChange.failed).getD (s.ctl.failedSet (lane / 9) true)) ||| 2 ^ (lane % 9)) ∧
    (c.rgPort (lane / 9)).reqs = (s.ctl.rgPort (lane / 9)).reqs ++ [⟨(s.ctl.rgPort (lane / 9)).nextReq, s.ctl.rxWanted (lane / 9) ||| 2 ^ (lane % 9), false, s.ctl.up + dt⟩]) ∧
  (∀ (dt port left n base : Nat) (ch : MapChange) (s : State), port < 2 → (s.ctl.rgPort port).change = some ch → s.ctl.portUp port = true → ch.failed < 512 → ch.failed ≠ s.ctl.failedSet port true →
    base = s.ctl.chooseBase port ch.failed → base < 16 → n = (s.ctl.stripeLanes port true ch.failed base).length → (s.ctl.port port).minLanes ≤ n → n < 16 →
    (s.ctl.port port).minLanes ≤ s.ctl.stripes port false → (left = 0 ∨ ch.askedAt + tUs 180 ≤ s.ctl.up + dt) → leaves (.mapChangeSend dt port left) s fun c =>
      (c.rgPort port).change = none ∧ c.failedSet port true = ch.failed ∧ c.mapBase port true = base ∧ c.portUp port = true ∧
      (port, ch.failed, base, [3, 2, 1].flatMap (fun cd => frameFields (s.ctl.ea 0x2113 port) cd (s.ctl.rgPort port).code ch.failed base)) ∈
        (c.out.filter (fun e => e.kind = .mapCd)).map (fun e => (e.a, e.b, e.c, e.wire)) ∧
      (left ≠ 0 → (port, 1, left) ∈ (c.out.filter (fun e => e.kind = .ringSlice)).map (fun e => (e.a, e.b, e.c)))) ∧
  (∀ (dt port left : Nat) (ch : MapChange) (s : State), (s.ctl.rgPort port).change = some ch → left ≠ 0 → s.ctl.up + dt < ch.askedAt + tUs 180 →
    leaves (.mapChangeSend dt port left) s fun c => c = s.ctl.advance dt) ∧
  (∀ (dt lane errors t0 : Nat) (s : State), lane < 18 → (s.ctl.lane lane).cleanFrom = some t0 → s.ctl.portUp (lane / 9) = true → s.ctl.laneSt lane = 2 →
    bit (s.ctl.failedSet (lane / 9) false) (lane % 9) = true → t0 + tS 1 ≤ s.ctl.up + dt → s.ctl.fm.withheld.contains lane = false →
    errors ≤ (if (s.ctl.rgPort (lane / 9)).code < 4 then 0 else 4000000) → leaves (.laneClean dt lane errors) s fun c =>
      (c.lane lane).cleanFrom = none ∧ (c.rgPort (lane / 9)).reqs = (s.ctl.rgPort (lane / 9)).reqs ++
        [⟨(s.ctl.rgPort (lane / 9)).nextReq, s.ctl.failedSet (lane / 9) false &&& (511 - 2 ^ (lane % 9)), true, s.ctl.up + dt⟩])

/-! ### The ring (12, 01) -/

/-- RING_ENUMERATE, ENUM, ENUM_DONE and INDEX_CHANGED: positions, the ring's size and CLOSED. RING_FRAME_RX: corrected symbols and
uncorrectable codewords count; a frame whose header words all fail moves FSEQ on by one and gives no lock; a frame on a port that is down
or of another length has no effect. -/
def Obligations.RingFramesAndEnumeration : Prop :=
  (∀ (dt : Nat) (s : State), s.ctl.cpaUp = true → s.ctl.e 0x210002 = 1 → s.ctl.rg.enumerating = false → s.ctl.portUp 0 = false → leaves (.ringEnumerate dt) s fun c =>
    c.e 0x210003 = 0 ∧ c.e 0x210004 = 1 ∧ c.e 0x210006 = 0 ∧ c.rg.tileIndices = [s.ctl.tileIndex] ∧ c.rg.enumerating = false) ∧
  (∀ (dt : Nat) (s : State), s.ctl.e 0x210002 ≠ 1 → leaves (.ringEnumerate dt) s fun c => c = s.ctl.advance dt) ∧
  (∀ (dt port dst : Nat) (tiles : List Nat) (s : State), s.ctl.cpaUp = true → s.ctl.portUp port = true → s.ctl.sideMine dst = true → leaves (.enumMsg dt port dst tiles) s fun c =>
    c.e 0x210003 = tiles.length ∧ c.fm.reports = s.ctl.fm.reports) ∧
  (∀ (dt port dst src : Nat) (tiles : List Nat) (closed : Nat) (s : State), s.ctl.cpaUp = true → s.ctl.portUp port = true → s.ctl.sideMine dst = true → s.ctl.rg.enumAgain = false →
    leaves (.enumDone dt port dst src tiles closed) s fun c =>
      c.e 0x210004 = tiles.length ∧ c.e 0x210006 = closed ∧ c.rg.tileIndices = tiles ∧ c.e 0x210003 = s.ctl.e 0x210003) ∧
  (∀ (dt port dst src old new : Nat) (s : State), s.ctl.cpaUp = true → s.ctl.portUp port = true → s.ctl.sideMine dst = true → s.ctl.e 0x210002 = 1 → s.ctl.rg.enumerating = true →
    leaves (.indexChanged dt port dst src old new) s fun c => c.rg.enumAgain = true ∧ c.rg.enumerating = true ∧ c.e 0x210003 = s.ctl.e 0x210003) ∧
  (∀ (dt port dst src old new : Nat) (s : State), s.ctl.cpaUp = true → s.ctl.portUp port = true → s.ctl.sideMine dst = true → s.ctl.e 0x210002 = 1 → s.ctl.rg.enumerating = false → s.ctl.portUp 0 = false →
    leaves (.indexChanged dt port dst src old new) s fun c => c.e 0x210003 = 0 ∧ c.e 0x210004 = 1 ∧ c.rg.tileIndices = [s.ctl.tileIndex]) ∧
  (∀ (dt port : Nat) (words skew : List Nat) (s : State), s.ctl.portUp port = true → words.length = frameWords (s.ctl.rgPort port).code → 4 ≤ (s.ctl.rgPort port).code → port < 2 →
    leaves (.ringFrameRx dt port words skew) s fun c =>
      c.ea 0x2119 port = satAdd 64 (s.ctl.ea 0x2119 port) (fecOpen words).2.1.length ∧
      c.ea 0x211A port = (if (fecOpen words).2.2 = [] then s.ctl.ea 0x211A port else satAdd 32 (s.ctl.ea 0x211A port) (fecOpen words).2.2.length)) ∧
  (∀ (dt port : Nat) (head words skew : List Nat) (s : State), s.ctl.portUp port = true → words.length = frameWords (s.ctl.rgPort port).code → (s.ctl.rgPort port).lock = false →
    (s.ctl.rgPort port).pendRx = none → port < s.ctl.rg.ports.length → head = (if (s.ctl.rgPort port).code < 4 then words else (fecOpen words).1).take 8 →
    head.all (fun w => bits w 63 56 ≠ 0xD5) = true → leaves (.ringFrameRx dt port words skew) s fun c =>
      (c.rgPort port).fseq = ((s.ctl.rgPort port).fseq + 1) % 65536 ∧ (c.rgPort port).lock = false ∧ (c.rgPort port).goodRun = 0 ∧
      (c.rgPort port).frames = (s.ctl.rgPort port).frames + 1 ∧ (c.rgPort port).keepRx = (s.ctl.rgPort port).keepRx) ∧
  (∀ (dt port : Nat) (words skew : List Nat) (s : State), (s.ctl.portUp port = false ∨ words.length ≠ frameWords (s.ctl.rgPort port).code) →
    leaves (.ringFrameRx dt port words skew) s fun c => c = s.ctl.advance dt)

/-- MAPS, MAP_REQ, MAP_ACK and MAP_REQ_REPEAT. STATUS_MSG_TIMER and SIDE_CHANNEL_FORWARD: what goes out on the side channel. -/
def Obligations.MapsAndSideChannelMessages : Prop :=
  (∀ (dt port tx rx : Nat) (s : State), s.ctl.cpaUp = true → s.ctl.portUp port = true → port < s.ctl.rg.ports.length → leaves (.mapsMsg dt port tx rx) s fun c =>
    (c.rgPort port).partnerMaps = (tx, rx) ∧ (c.rgPort port).reqs = (s.ctl.rgPort port).reqs ∧ c.ent = s.ctl.ent) ∧
  (∀ (dt port failed id : Nat) (s : State), s.ctl.cpaUp = true → s.ctl.portUp port = true → leaves (.mapReq dt port failed false id) s fun c =>
    (c.rgPort port).change.map MapChange.failed = some ((((s.ctl.rgPort port).change.map MapChange.failed).getD (s.ctl.failedSet port true)) ||| failed % 512)) ∧
  (∀ (dt port failed id n : Nat) (s : State), s.ctl.cpaUp = true → s.ctl.portUp port = true → n < 9 → bit (s.ctl.failedSet port true) n = true → bit failed n = false →
    leaves (.mapReq dt port failed true id) s fun c => (n, s.ctl.up + dt) ∈ (c.rgPort port).readmit ∧ (c.rgPort port).change = (s.ctl.rgPort port).change) ∧
  (∀ (dt port id : Nat) (s : State), s.ctl.cpaUp = true → s.ctl.portUp port = true → leaves (.mapAck dt port id) s fun c =>
    (c.rgPort port).reqs = (s.ctl.rgPort port).reqs.filter (fun r => r.id ≠ id) ∧ c.ent = s.ctl.ent ∧ c.out = s.ctl.out) ∧
  (∀ (dt port : Nat) (s : State), s.ctl.cpaUp = true → s.ctl.portUp port = true → leaves (.mapReqRepeat dt port) s fun c =>
    (c.rgPort port).reqs.map MapReq.id = (s.ctl.rgPort port).reqs.map MapReq.id ∧ (∀ r ∈ (c.rgPort port).reqs, s.ctl.up + dt < r.sentAt + tUs 10)) ∧
  (∀ (dt p : Nat) (s : State), s.ctl.cpaUp = true → p < 2 → s.ctl.sideRoom p 20 → leaves (.statusMsgTimer dt) s fun c => c.sideCarries p 6 0xFF (sideMsg 6 0xFF s.ctl.srcPos s.ctl.statusBody)) ∧
  (∀ (dt : Nat) (s : State), s.ctl.portUp 0 = false → s.ctl.portUp 1 = false → leaves (.statusMsgTimer dt) s fun c => c = s.ctl.advance dt) ∧
  (∀ (dt port : Nat) (bytes : List Byte) (s : State), s.ctl.cpaUp = true → port < 2 → s.ctl.portUp port = true → s.ctl.portUp (1 - port) = true → 6 ≤ bytes.length → bytes.length = 6 + u8At bytes 1 →
    ofLE (bytes.drop (bytes.length - 2)) = crc16 (bytes.take (bytes.length - 2)) → s.ctl.sideOn (u8At bytes 2) = true →
    s.ctl.sideRoom (1 - port) bytes.length → leaves (.sideChannelForward dt port bytes) s fun c =>
      c.sideCarries (1 - port) (u8At bytes 0) (u8At bytes 2) bytes ∧ c.ent = s.ctl.ent)

/-! ### Panel drive and the return encoder (09, 10) -/

/-- DECISION_POINT, LANE_LOAD_COMPLETE, PANEL_BUFFER_FULL, PANEL_BUFFER_DRAINED, PROBATION_EXPIRY, PANEL_LOCK_TIMER and PANEL_LINKUP_DONE:
a frame whose load is complete on every lane is flipped; without it, or in a safe state, the panel holds or blanks. -/
def Obligations.PanelFlipsACompleteLoad : Prop :=
  (∀ (dt f : Nat) (s : State), f = s.ctl.tb.nextIndex → s.ctl.tb.issuing = true → s.ctl.pd.decided ≠ some f → tickD (s.ctl.tn f) ((s.ctl.advance dt).now) ≤ tNs (s.ctl.e 0x440002) →
    s.ctl.pd.began = some f → s.ctl.loadMissing = [] → s.ctl.fm.safe = 0 → s.ctl.fm.frameHold = none → s.ctl.hasImage = true → s.ctl.xz.heldFlip ≠ some f →
    s.ctl.pd.linked = true → s.ctl.pdService ≠ [] → leaves (.decisionPoint dt) s fun c =>
      c.pd.sent = some f ∧ c.pd.decided = some f ∧ c.pd.loading = none ∧ c.e 0x440008 = s.ctl.tn f ∧ c.e 0x440009 = satAdd (entWidth 0x440009) (s.ctl.e 0x440009) 1 ∧
      c.e 0x44000A = s.ctl.e 0x44000A) ∧
  (∀ (dt f : Nat) (s : State), f = s.ctl.tb.nextIndex → s.ctl.tb.issuing = true → s.ctl.pd.decided ≠ some f → tickD (s.ctl.tn f) ((s.ctl.advance dt).now) ≤ tNs (s.ctl.e 0x440002) →
    s.ctl.pd.began = some f → s.ctl.loadMissing ≠ [] → s.ctl.fm.safe = 0 → s.ctl.fm.frameHold = none → s.ctl.hasImage = true → s.ctl.xz.heldFlip ≠ some f →
    s.ctl.pd.linked = true → s.ctl.pdService ≠ [] → leaves (.decisionPoint dt) s fun c =>
      c.pd.sent = s.ctl.pd.sent ∧ c.pd.decided = some f ∧ c.e 0x440009 = s.ctl.e 0x440009 ∧ c.e 0x44000A = satAdd (entWidth 0x44000A) (s.ctl.e 0x44000A) 1 ∧
      c.e 0x44000B = satAdd (entWidth 0x44000B) (s.ctl.e 0x44000B) 1) ∧
  (∀ (dt f code : Nat) (s : State), f = s.ctl.tb.nextIndex → s.ctl.tb.issuing = true → s.ctl.pd.decided ≠ some f → tickD (s.ctl.tn f) ((s.ctl.advance dt).now) ≤ tNs (s.ctl.e 0x440002) →
    s.ctl.fm.frameHold = some code → leaves (.decisionPoint dt) s fun c =>
      c.pd.sent = s.ctl.pd.sent ∧ c.pd.decided = some f ∧ c.pd.loading = none ∧ c.fm.frameHold = none ∧ 1 ≤ c.fm.safe ∧
      c.e 0x44000A = satAdd (entWidth 0x44000A) (s.ctl.e 0x44000A) 1 ∧ c.e 0x440009 = s.ctl.e 0x440009) ∧
  (∀ (dt f : Nat) (s : State), f = s.ctl.tb.nextIndex → s.ctl.tb.issuing = true → s.ctl.pd.decided ≠ some f → tickD (s.ctl.tn f) ((s.ctl.advance dt).now) ≤ tNs (s.ctl.e 0x440002) →
    s.ctl.fm.frameHold = none → s.ctl.fm.safe = 2 → s.ctl.pd.blanked = false → s.ctl.pd.linked = true → leaves (.decisionPoint dt) s fun c =>
      c.pd.sent = s.ctl.pd.sent ∧ c.pd.blanked = true ∧ c.e 0x44000A = satAdd (entWidth 0x44000A) (s.ctl.e 0x44000A) 1) ∧
  (∀ (dt lane : Nat) (s : State), lane < s.ctl.pd.lanes.length → s.ctl.pd.loading ≠ none → (s.ctl.pdLane lane).inLoad = true → (s.ctl.pdLane lane).bad = false → (s.ctl.pdLane lane).pkt = [] →
    s.ctl.pdAtEnd lane = true → leaves (.laneLoadComplete dt lane) s fun c => (c.pdLane lane).complete = true ∧ c.ent = s.ctl.ent) ∧
  (∀ (dt lane : Nat) (s : State), lane < s.ctl.pd.lanes.length → (s.ctl.pdLane lane).inLoad = true → s.ctl.pdSt lane = 2 → leaves (.panelBufferFull dt lane) s fun c =>
    (c.pdLane lane).full = true ∧ c.ent = s.ctl.ent) ∧
  (∀ (dt lane : Nat) (s : State), lane < s.ctl.pd.lanes.length → (s.ctl.pdLane lane).inLoad = true → s.ctl.pdSt lane = 2 → leaves (.panelBufferDrained dt lane) s fun c =>
    (c.pdLane lane).full = false ∧ c.ent = s.ctl.ent) ∧
  (∀ (dt lane t0 : Nat) (s : State), lane < s.ctl.pd.lanes.length → (s.ctl.pdLane lane).probFrom = some t0 → s.ctl.pdSt lane = 4 → t0 + tS 1 ≤ s.ctl.up + dt →
    leaves (.probationExpiry dt lane) s fun c => (c.pdLane lane).ready = true ∧ c.pdSt lane = 4 ∧ c.ent = s.ctl.ent) ∧
  (∀ (dt lane t0 : Nat) (s : State), lane < s.ctl.pd.lanes.length → lane / 8 < s.ctl.pd.rets.length → (s.ctl.pdLane lane).lockAt = some t0 → t0 + tMs 2 ≤ s.ctl.up + dt → s.ctl.laneSt (18 + lane) ≠ 5 →
    s.ctl.ea 0x4411 lane ≠ 0 → (s.ctl.pdRet (lane / 8)).queue = [] → leaves (.panelLockTimer dt lane) s fun c =>
      (c.pdLane lane).lockAt = none ∧ (c.pdLane lane).linking = true ∧ (c.pdLane lane).len = s.ctl.ea 0x4411 lane ∧ c.ent = s.ctl.ent) ∧
  (∀ (dt : Nat) (s : State), s.ctl.pd.linking = true → (∀ r ∈ s.ctl.pd.rets, r.queue = []) → (∀ (k : Nat), k < 32 → s.ctl.pdSt k ≠ 1) → leaves (.panelLinkupDone dt) s fun c =>
    c.pd = { s.ctl.pd with linking := false, linked := true })

/-- STATUS_POLL, STATUS_RESPONSE, STATUS_REQ_TIMEOUT, IC_ACC_READ and IC_ACC_WRITE: requests on a return lane and their answers. -/
def Obligations.ReturnLanesAskAndAnswer : Prop :=
  (∀ (dt r : Nat) (q : PdReq) (s : State), r < s.ctl.pd.rets.length → (s.ctl.pdRet r).queue = [] → (s.ctl.pdRet r).out = none → (s.ctl.advance dt).pdQuiet = false →
    (s.ctl.pdRet r).pollAt + tUs (s.ctl.e 0x440004) ≤ s.ctl.up + dt → s.ctl.pd.access = some q → q.lane / 8 = r → leaves (.statusPoll dt r) s fun c =>
      (c.pdRet r).out = some q ∧ (c.pdRet r).seq = ((s.ctl.pdRet r).seq + 1) % 256 ∧ (c.pdRet r).sentAt = s.ctl.up + dt ∧ c.pd.access = none ∧ c.ent = s.ctl.ent) ∧
  (∀ (dt r i ic : Nat) (s : State), r < s.ctl.pd.rets.length → (s.ctl.pdRet r).queue = [] → (s.ctl.pdRet r).out = none → (s.ctl.advance dt).pdQuiet = false →
    (s.ctl.pdRet r).pollAt + tUs (s.ctl.e 0x440004) ≤ s.ctl.up + dt → s.ctl.pd.access = none → s.ctl.pdTurn r = some (i, ic) → leaves (.statusPoll dt r) s fun c =>
      (c.pdRet r).out = some { kind := .poll, lane := 8 * r + i, ic := ic, reg := 1 } ∧ (c.pdRet r).turn = (i, ic + 1) ∧ c.ent = s.ctl.ent) ∧
  (∀ (dt r : Nat) (bytes : List Byte) (q : PdReq) (s : State), r < s.ctl.pd.rets.length → (s.ctl.pdRet r).out = some q → (s.ctl.pdRet r).queue = [] → q.kind = .access → q.reg ≠ 1 → s.ctl.laneSt (50 + r) = 2 →
    bytes.length = 16 → u8At bytes 2 = (s.ctl.pdRet r).seq → leAt bytes 14 2 = crc16 (bytes.take 14) → bit (u8At bytes 3) 0 = false →
    s.ctl.up + dt ≤ (s.ctl.pdRet r).sentAt + tNs (s.ctl.e 0x440005) → leaves (.statusResponse dt r bytes) s fun c =>
      c.e 0x442004 = leAt bytes 4 4 ∧ c.e 0x442006 = 2 ∧ (c.pdRet r).out = none ∧ aGet c.pd.misses (q.lane * 256 + q.ic) = none) ∧
  (∀ (dt r : Nat) (q : PdReq) (s : State), r < s.ctl.pd.rets.length → (s.ctl.pdRet r).out = some q → (s.ctl.pdRet r).queue = [] → q.kind = .poll →
    (s.ctl.pdRet r).sentAt + tNs (s.ctl.e 0x440005) ≤ s.ctl.up + dt → leaves (.statusReqTimeout dt r) s fun c => (c.pdRet r).out = none ∧
      aGet c.pd.misses (q.lane * 256 + q.ic) = some ((aGet s.ctl.pd.misses (q.lane * 256 + q.ic)).getD 0 + 1)) ∧
  (∀ (dt : Nat) (s : State), s.ctl.e 0x442006 ≠ 1 → leaves (.icAccRead dt) s fun c => c.e 0x442006 = 1 ∧
    c.pd.access = some { kind := .access, lane := s.ctl.e 0x442001, ic := s.ctl.e 0x442002, reg := s.ctl.e 0x442003, value := none }) ∧
  (∀ (dt : Nat) (s : State), s.ctl.e 0x442006 ≠ 1 → leaves (.icAccWrite dt) s fun c => c.e 0x442006 = 1 ∧
    c.pd.access = some { kind := .access, lane := s.ctl.e 0x442001, ic := s.ctl.e 0x442002, reg := s.ctl.e 0x442003, value := some (s.ctl.e 0x442004) })

/-- PICTURE_START, PICTURE_CODED, FRAGMENT_SEND, POP_RECORD_WRITE, EN_RING_HEAD_WRITE, RAP_REQUEST and ENCODER_FAULT: a picture from its
choice to its last fragment. -/
def Obligations.PicturesAreCodedAndSent : Prop :=
  (∀ (dt : Nat) (p : EnPic) (s : State), s.ctl.e 0x310008 ≠ 1 → s.ctl.en.cur = none → enBest s.ctl.en.ready = some p → p.started = false →
    (p.cfg.archival = true ∨ s.ctl.en.outq.any (fun o => o.stream = p.stream && !o.cfg.archival) = false) → leaves (.pictureStart dt) s fun c =>
    c.en.cur = some { p with started := true, rap := s.ctl.needsRap p } ∧ c.ent = s.ctl.ent ∧
    c.en.ready = s.ctl.en.ready.filter (fun q => !(q.stream = p.stream && q.order = p.order))) ∧
  (∀ (dt : Nat) (p : EnPic) (s : State), s.ctl.e 0x310008 ≠ 1 → s.ctl.en.cur = some p → p.stream < s.ctl.en.streams.length → completes (.pictureCoded dt []) s fun t =>
    t.pending = s.pending ∧ t.ctl.en.cur = none ∧ (t.ctl.enStream p.stream).lastSent = some p.order ∧ (t.ctl.enStream p.stream).skipped = false ∧
    (t.ctl.en.outq.dropLast = s.ctl.en.outq) ∧ (t.ctl.en.outq.getLast?.map fun o => (o.stream, o.order, o.off, decide (o.bits = 8 * o.bytes.length), bit o.flags 2)) = some (p.stream, p.order, 0, true, p.rap) ∧
    (∀ (a : Nat), a < s.ctl.e 0x310001 ∨ s.ctl.e 0x310001 + s.ctl.e 0x310002 ≤ a → t.mem.get a = s.mem.get a)) ∧
  (∀ (dt stream sent : Nat) (o : EnOut) (rest : List EnOut) (s : State), s.ctl.en.outq = o :: rest → o.stream = stream → o.cfg.dest ≠ 0 → o.off + 1440 < o.bytes.length →
    (s.ctl.egressSent o.cfg.dest sent).egressRoom (o.cfg.dest - 1) 1456 = true → leaves (.fragmentSend dt stream sent) s fun c =>
    c.out = s.ctl.out ++ [{ kind := .ret, a := o.cfg.dest, b := o.cfg.addr, c := 28601, bytes := returnHeader 1 stream (o.flags + b2n (o.off = 0)) o.order o.off o.bytes.length ++ (o.bytes.drop o.off).take o.cfg.payload }] ∧
    (c.en.outq.head?.map fun x => (x.off, x.bytes)) = some (o.off + 1440, o.bytes) ∧ c.ent = s.ctl.ent) ∧
  (∀ (dt stream sent : Nat) (o : EnOut) (rest : List EnOut) (s : State), s.ctl.en.outq = o :: rest → o.stream = stream → stream < 16 → o.cfg.dest ≠ 0 → o.bytes.length ≤ o.off + 1440 →
    (s.ctl.egressSent o.cfg.dest sent).egressRoom (o.cfg.dest - 1) (16 + (o.bytes.length - o.off)) = true → leaves (.fragmentSend dt stream sent) s fun c =>
    c.en.outq.any (fun x => x.stream = stream && x.order = o.order) = false ∧ c.ea 0x3126 stream = o.bits % 2 ^ 32 ∧
    c.ea 0x3123 stream = satAdd (entWidth (ekey 0x3123 (stream + 1))) (s.ctl.ea 0x3123 stream) 1) ∧
  (∀ (dt stream sent : Nat) (o : EnOut) (rest : List EnOut) (s : State), s.ctl.en.outq = o :: rest → o.stream = stream → stream < s.ctl.en.streams.length → o.cfg.dest ≠ 0 → o.cfg.archival = false →
    (s.ctl.egressSent o.cfg.dest sent).egressRoom (o.cfg.dest - 1) (16 + ((o.bytes.drop o.off).take 1440).length) = false → leaves (.fragmentSend dt stream sent) s fun c =>
    c.en.outq.any (fun x => x.stream = stream && x.order = o.order) = false ∧ (c.enStream stream).rapNext = true ∧ (c.enStream stream).skipped = true) ∧
  (∀ (dt index : Nat) (room : Bool) (sent : Nat) (r : List Byte) (rest : List (List Byte)) (s : State), s.ctl.en.pop = r :: rest → s.ctl.e 0x310004 ≠ 0 → (s.ctl.egressSent (s.ctl.e 0x310004) sent).egressRoom (s.ctl.e 0x310004 - 1) 144 = true →
    completes (.popRecordWrite dt index room sent []) s fun t => t.pending = s.pending ∧ t.mem.dram = s.mem.dram ∧ t.ctl.en.pop = rest ∧ t.ctl.ent = s.ctl.ent ∧ t.ctl.out = s.ctl.out ++ [{ kind := .ret, a := s.ctl.e 0x310004, b := s.ctl.e 0x310005, c := 28601, bytes := returnHeader 2 0xFF 3 (leAt r 0 4) 0 128 ++ r }]) ∧
  (∀ (dt index sent : Nat) (r : List Byte) (rest : List (List Byte)) (s : State), s.ctl.en.pop = r :: rest → s.ctl.e 0x310004 = 0 → completes (.popRecordWrite dt index true sent []) s fun t => t.pending = s.pending ∧ t.mem.dram = s.mem.dram ∧ t.ctl.en.pop = rest ∧ t.ctl.ent = s.ctl.ent ∧ t.ctl.out = s.ctl.out ++ [{ kind := .ret, a := 0, b := s.ctl.e 0x310005 + 4096 * index, bytes := returnHeader 2 0xFF 3 (leAt r 0 4) 0 128 ++ r }]) ∧
  (∀ (dt stream head : Nat) (s : State), stream < 16 → s.ctl.en.outq = [] → leaves (.enRingHeadWrite dt stream head) s fun c => c = (s.ctl.advance dt).setReg .enRing stream 0 (head % 4096)) ∧
  (∀ (dt stream : Nat) (s : State), stream < s.ctl.en.streams.length → leaves (.rapRequest dt stream) s fun c => (c.enStream stream).rapNext = true ∧ c.ent = s.ctl.ent) ∧
  (∀ (dt : Nat) (s : State), s.ctl.e 0x310008 ≠ 1 → leaves (.encoderFault dt) s fun c => c.e 0x310008 = 1 ∧ c.isOut 0x21 0 = true ∧ c.en.cur = none ∧ (∀ p ∈ c.en.ready, p.started = false))

/-! ### Easel (06), Palette and Glaze (07) -/

/-- RAY_START_REACHED, RAY_GROUP, PROBE_CYCLE, FILL_ISSUE, FILL_COMPLETE, LAST_RAY_OUT, TABLE_RELOAD_DONE, SCHEDULE_BLOCK_RELOADED and
BRUSH_FAULT: a frame is made group by group, its tiles come from DRAM, and a lost Brush leaves service. -/
def Obligations.EaselMakesAFrame : Prop :=
  (∀ (dt : Nat) (f : EsFrame) (s : State), s.ctl.es.fr = some f → f.started = false → f.lost = false → s.ctl.es.stallAt = none → f.flipUp + tUs f.rayStart ≤ s.ctl.up + dt →
    leaves (.rayStartReached dt) s fun c => c.es.fr = some { f with started := true } ∧ c.es.stallAt = (if s.ctl.esBlocked then some (s.ctl.up + dt) else none) ∧ c.ent = s.ctl.ent) ∧
  (∀ (dt : Nat) (f : EsFrame) (s : State), s.ctl.es.fr = some f → s.ctl.esRuns f = true → f.group s.ctl.img s.ctl.brushes ≠ [] → f.pending s.ctl.img f.shedNow (f.group s.ctl.img s.ctl.brushes) = [] →
    f.pos + (f.group s.ctl.img s.ctl.brushes).length < (phaseRays s.ctl.img f.phase).length → leaves (.rayGroup dt []) s fun c =>
      (c.es.fr.map fun x => (x.phase, x.pos, x.cycles, x.again)) = some (f.phase, f.pos + (f.group s.ctl.img s.ctl.brushes).length, f.cycles + groupCycles s.ctl.img f.shedNow, none)) ∧
  (∀ (dt : Nat) (f : EsFrame) (s : State), s.ctl.es.fr = some f → s.ctl.esRuns f = true → f.pending s.ctl.img f.shedNow (f.group s.ctl.img s.ctl.brushes) ≠ [] → leaves (.probeCycle dt) s fun c =>
    c.ent = s.ctl.ent ∧ (c.es.fr.map fun x => (x.phase, x.pos, x.cycles)) = some (f.phase, f.pos, f.cycles + 1) ∧
    ((f.pending s.ctl.img f.shedNow (phaseRays s.ctl.img f.phase)).take s.ctl.brushes).all (fun p => c.es.fr.any (fun x => x.probed.contains p)) = true) ∧
  (∀ (dt : Nat) (f : EsFrame) (i ph e : Nat) (s : State), s.ctl.es.fr = some f → (fetchFills s.ctl.img)[f.issued]? = some (i, ph, e) → f.lost = false → s.ctl.es.reload.any (fun r => r.1 = 3) = false →
    (ph < 2 ∨ f.left s.ctl.img (ph - 2) = 0) → leaves (.fillIssue dt false) s fun c => c.ent = s.ctl.ent ∧
      (c.es.fr.map fun x => (x.issued, x.tags, x.pos)) = some (f.issued + 1, f.tags ++ [⟨i, fetchFrame e, fetchSlot e, fetchKey e, fetchU e, fetchV e, ph, (f.fillState s.ctl.img i e).1, (f.fillState s.ctl.img i e).2⟩], f.pos)) ∧
  (∀ (dt : Nat) (f : EsFrame) (i ph e : Nat) (s : State), s.ctl.es.fr = some f → (fetchFills s.ctl.img)[f.issued]? = some (i, ph, e) → f.lost = false → s.ctl.es.reload.any (fun r => r.1 = 3) = false →
    (ph < 2 ∨ f.left s.ctl.img (ph - 2) = 0) → leaves (.fillIssue dt true) s fun c =>
      c.es.reload.contains (3, i / 31) = true ∧ (c.es.fr.map fun x => (x.issued, x.tags)) = some (f.issued, f.tags)) ∧
  (∀ (dt entry : Nat) (ue : List DramErr) (f : EsFrame) (tag : EsTag) (a : Nat) (s : State), s.ctl.es.fr = some f → f.tags.find? (fun t => t.entry = entry && t.st = .filling) = some tag →
    a = f.fillAddr (schedEntry (imgSec s.ctl.img 3) entry) → completes (.fillComplete dt entry ue) s fun t => t.mem.dram = (s.mem.found ue).dram ∧ t.pending = s.pending ∧
      (t.ctl.es.fr.map EsFrame.tags) = some (f.tags.map (fun x => if x.entry = entry then { x with st := if (s.mem.found ue).poisoned a 8192 then .poisoned else .valid } else x)) ∧
      (t.ctl.es.fr.bind fun x => aGet x.cache tag.frame) = some ((List.range 1024).map (fun k => ofLE ((s.mem.found ue).read (a + 8 * k) 8)))) ∧
  (∀ (dt : Nat) (f : EsFrame) (s : State), s.ctl.es.fr = some f → f.rest s.ctl.img = 0 → f.endNs = none → f.lost = false → f.started = true → leaves (.lastRayOut dt) s fun c =>
    c.ent = s.ctl.ent ∧ c.es.fr = some { f with endNs := some ((s.ctl.up + dt - f.flipUp) / 65536) }) ∧
  (∀ (dt : Nat) (view : Bool) (index : Nat) (ue : List DramErr) (slot : Nat) (s : State), s.ctl.xz.active = some slot → s.ctl.es.reload.contains (b2n view, index) = true →
    (slotReadAt slot (reloadAt s.ctl.img (b2n view) index).1 (reloadAt s.ctl.img (b2n view) index).2 (s.mem.found ue) ((s.ctl.advance dt).setXz (fun x => { x with parityLost := false }))).2.xz.parityLost = false →
    completes (.tableReloadDone dt view index ue) s fun t => t.pending = s.pending ∧ t.ctl.es.reload = s.ctl.es.reload.filter (· ≠ (b2n view, index)) ∧
      t.ctl.xz.parityLost = s.ctl.xz.parityLost) ∧
  (∀ (dt : Nat) (fetch : Bool) (block : Nat) (ue : List DramErr) (slot : Nat) (s : State), s.ctl.xz.active = some slot → s.ctl.es.reload.contains (2 + b2n fetch, block) = true →
    (slotReadAt slot (reloadAt s.ctl.img (2 + b2n fetch) block).1 (reloadAt s.ctl.img (2 + b2n fetch) block).2 (s.mem.found ue) ((s.ctl.advance dt).setXz (fun x => { x with parityLost := false }))).2.xz.parityLost = false →
    completes (.scheduleBlockReloaded dt fetch block ue) s fun t => t.pending = s.pending ∧ t.ctl.es.reload = s.ctl.es.reload.filter (· ≠ (2 + b2n fetch, block)) ∧
      t.ctl.xz.parityLost = s.ctl.xz.parityLost) ∧
  (∀ (dt brush lost : Nat) (s : State), brush < 32 → s.ctl.ea 0x4001 brush ≠ 1 → leaves (.brushFault dt brush lost) s fun c =>
    c.ea 0x4001 brush = 1 ∧ c.brushes = s.ctl.brushes - 1 ∧ c.isOut 0x30 brush = true ∧ c.es.out.contains brush = true ∧ c.xz = s.ctl.xz)

/-- CULL_PLAN_DONE, INGEST_ROW_START, INGEST_PASS_DONE, GLAZE_SYNC_DONE and GLAZE_RESTORE_DONE: the cull mask goes to its place in DRAM, a
row of a drawn surface is scaled into the buffer that no descriptor names, and Glaze's copies are made equal. -/
def Obligations.PaletteWorksAheadOfItsFrame : Prop :=
  (∀ (dt : Nat) (s : State), s.ctl.tb.issuing = true → s.ctl.dc.cutFor = some s.ctl.tb.nextIndex → s.ctl.pl.planned ≠ some (s.ctl.tb.nextIndex + 1) → s.ctl.cullOn = false → leaves (.cullPlanDone dt []) s fun c =>
    c.pl = { s.ctl.pl with planned := some (s.ctl.tb.nextIndex + 1), mask := [] } ∧ c.ent = s.ctl.ent) ∧
  (∀ (dt : Nat) (ue : List DramErr) (f : Nat) (s : State), s.mem.wf = true → f = s.ctl.tb.nextIndex + 1 → s.ctl.tb.issuing = true → s.ctl.dc.cutFor = some s.ctl.tb.nextIndex → s.ctl.pl.planned ≠ some f → s.ctl.cullOn = true →
    (s.mem.found ue).poisoned (s.ctl.e 0x420004 + (f % 2) * s.ctl.gridBytes) s.ctl.gridBytes = false → completes (.cullPlanDone dt ue) s fun t =>
      t.pending = s.pending ∧ t.ctl.pl = { s.ctl.pl with planned := some f, mask := s.ctl.plannerMask (s.mem.found ue) f s.ctl.fetchCount } ∧
      (∀ (i : Nat), i < s.ctl.fetchCount → t.mem.read (s.ctl.maskAddr f i) 4 = (((s.ctl.plannerMask (s.mem.found ue) f s.ctl.fetchCount).find? (fun q => decide (q.1 = i))).elim [0, 0, 0, 0] (fun q => toLE 4 (maskWord q.2.1 q.2.2)))) ∧
      ∀ (a : Nat), a < s.ctl.maskAddr f 0 ∨ s.ctl.maskAddr f 0 + 4 * s.ctl.fetchCount ≤ a → t.mem.get a = (s.mem.found ue).get a) ∧
  (∀ (dt slot : Nat) (ue : List DramErr) (ps : PlPass) (s : State), (s.ctl.plSlot slot).pass = some ps → ps.failed = false → ps.done = false → s.ctl.src slot = 2 → ps.row < (s.ctl.plan slot).h → ps.frame = s.ctl.tb.nextIndex + 1 → s.ctl.tb.issuing = true →
    (∀ (b : Nat), (s.mem.found ue).bad b = false) → completes (.ingestRowStart dt slot ue) s fun t => t.pending = s.pending ∧ ((t.ctl.plSlot slot).pass.map fun x => (x.frame, x.row, x.done, x.failed)) = some (ps.frame, ps.row + 1, false, false) ∧
      ∀ (a : Nat), a < s.ctl.scaledBase slot (1 - (s.ctl.plSlot slot).buf) 0 ∨ s.ctl.scaledBase slot (1 - (s.ctl.plSlot slot).buf) 0 + (s.ctl.plan slot).tw * (s.ctl.plan slot).th * 8192 ≤ a → t.mem.get a = (s.mem.found ue).get a) ∧
  (∀ (dt slot : Nat) (ps : PlPass) (s : State), (s.ctl.plSlot slot).pass = some ps → ps.failed = false → ps.done = false → ps.row = s.ctl.passRows slot ps.frame → ps.row ≠ 0 → leaves (.ingestPassDone dt slot false) s fun c =>
    (c.plSlot slot).pass = some { ps with done := true } ∧ c.ent = s.ctl.ent) ∧
  (∀ (dt slot : Nat) (ps : PlPass) (s : State), (s.ctl.plSlot slot).pass = some ps → ps.failed = false → ps.done = false → leaves (.ingestPassDone dt slot true) s fun c =>
    (c.plSlot slot).pass = some { ps with failed := true }) ∧
  (∀ (dt : Nat) (s : State), s.ctl.pl.syncing = true → leaves (.glazeSyncDone dt) s fun c => c.pl.syncing = false ∧ c.pl.waiting = [] ∧ c.e 0x430002 = 0 ∧
    (∀ p ∈ s.ctl.pl.waiting, p.1 ∈ c.dy.staged) ∧
    (∀ (k : Nat), glazeEntry k = true → s.ctl.dy.staged.contains k = false → (s.ctl.dy.commits.all fun r => (aGet r.vals k).isNone) = true →
      (s.ctl.pl.waiting.all fun p => decide (p.1 ≠ k)) = true → c.sh k = c.ev k)) ∧
  (∀ (dt table : Nat) (s : State), leaves (.glazeRestoreDone dt table) s fun c => c.pl = { s.ctl.pl with restoring := s.ctl.pl.restoring.filter (· ≠ table) } ∧ c.ent = s.ctl.ent)

/-! ### Decoding (05) and Stencil (08) -/

/-- UNIT_ARRIVAL, ENGINE_DISPATCH, SLICE_DECODE_DONE, CUTOFF, CONCEAL_DONE, CONTEXT_ECC, ENGINE_FAULT, CTX_CLEAR and DC_CTX_SEL_WRITE: a
unit waits in the input buffer, an engine takes it, what is not decoded at the cutoff is concealed, and a lost engine or context leaves. -/
def Obligations.UnitsAreDecodedOrConcealed : Prop :=
  (∀ (dt : Nat) (u w : List Byte) (rest : List (List Byte)) (ty : Nat) (s : State), s.mem.wf = true → s.ctl.dc.arriving = u :: rest → w = (u.reverse.dropWhile (fun b => b = 0)).reverse → unitKind w = .good ty → ty ≠ 4 →
    s.ctl.tileIndex ≤ 127 → 18 ≤ (unitRaw w).length → bit (unitMask (unitRaw w)) s.ctl.tileIndex = true → s.ctl.dc.units = [] → w.length ≤ s.ctl.e 0x300102 → s.ctl.ctxState (unitStream (unitRaw w)) ≠ 0 →
    completes (.unitArrival dt) s fun t => t.pending = s.pending ∧ t.ctl.dc.arriving = rest ∧ t.ctl.dc.units.map (fun v => (v.seq, v.ctx, v.ty, v.eng, v.read t.mem)) = [(s.ctl.dc.nextSeq, unitStream (unitRaw w), ty, none, w)] ∧
      (∀ (a : Nat), a < s.ctl.e 0x300101 ∨ s.ctl.e 0x300101 + s.ctl.e 0x300102 ≤ a → t.mem.get a = s.mem.get a)) ∧
  (∀ (dt : Nat) (u : List Byte) (rest : List (List Byte)) (s : State), s.ctl.dc.arriving = u :: rest → 127 < s.ctl.tileIndex → leaves (.unitArrival dt) s fun c =>
    c.dc = { s.ctl.dc with arriving := rest } ∧ c.ent = s.ctl.ent) ∧
  (∀ (dt : Nat) (u w : List Byte) (rest : List (List Byte)) (s : State), s.ctl.dc.arriving = u :: rest → w = (u.reverse.dropWhile (fun b => b = 0)).reverse → unitKind w ≠ .ignored → s.ctl.tileIndex ≤ 127 →
    18 ≤ (unitRaw w).length → bit (unitMask (unitRaw w)) s.ctl.tileIndex = true → s.ctl.e 0x300102 < s.ctl.dc.fill + w.length → leaves (.unitArrival dt) s fun c =>
      c.dc.arriving = rest ∧ c.dc.units = s.ctl.dc.units ∧ c.e 0x300105 = satAdd (entWidth 0x300105) (s.ctl.e 0x300105) 1) ∧
  (∀ (dt engine : Nat) (ue : List DramErr) (u : DcUnit) (s : State), engine ≤ 3 → (s.ctl.eng engine).out = false → s.ctl.engUnit engine = none → (s.ctl.advance dt).nextUnit = some u → u.bad (s.mem.found ue) = false → u.ty = 4 →
    completes (.engineDispatch dt engine ue) s fun t => t.mem.dram = (s.mem.found ue).dram ∧ t.pending = s.pending ∧
      t.ctl.dc = { s.ctl.dc with units := s.ctl.dc.units.map (fun v => if v.seq = u.seq then { v with eng := some engine } else v) } ∧ (∀ (k : Nat), k / 65536 ≠ 0x50 → t.ctl.e k = s.ctl.e k)) ∧
  (∀ (dt engine : Nat) (ue : List DramErr) (u : DcUnit) (s : State), engine ≤ 3 → engine < s.ctl.dc.engs.length → (s.ctl.eng engine).out = false → s.ctl.engUnit engine = none → (s.ctl.advance dt).nextUnit = some u → u.bad (s.mem.found ue) = false → u.ty ≠ 4 →
    completes (.engineDispatch dt engine ue) s fun t => t.pending = s.pending ∧ t.ctl.dc.units.all (fun v => decide (v.seq ≠ u.seq)) = true ∧ (t.ctl.eng engine).busy = (s.ctl.eng engine).busy + 768) ∧
  (∀ (dt engine : Nat) (ue : List DramErr) (u : DcUnit) (s : State), engine ≤ 3 → (s.ctl.eng engine).out = false → s.ctl.engUnit engine = none → (s.ctl.advance dt).nextUnit = some u → u.bad (s.mem.found ue) = true →
    completes (.engineDispatch dt engine ue) s fun t => t.pending = s.pending ∧ t.ctl.dc.units.all (fun v => decide (v.seq ≠ u.seq)) = true ∧ t.ctl.eng engine = s.ctl.eng engine) ∧
  (∀ (dt engine : Nat) (ue : List DramErr) (u : DcUnit) (p : DcPic) (hd : SliceHdr) (s : State), s.ctl.engUnit engine = some u → u.pic.bind (s.ctl.pic u.ctx) = some p → hd = sliceHdr u.head → u.ctx < 1024 → engine < s.ctl.dc.engs.length →
    (sliceEnd engine (hd.w * hd.h) u p (s.mem.found ue) (s.ctl.advance dt)).2.2.2 = false →
    completes (.sliceDecodeDone dt engine ue) s fun t => t.pending = s.pending ∧ t.ctl.dc.units.all (fun v => decide (v.seq ≠ u.seq)) = true ∧ (t.ctl.eng engine).prev = some u.ctx ∧
      t.ctl.e (ctxKey u.ctx 0x0B) = satAdd (entWidth (ctxKey u.ctx 0x0B)) ((sliceEnd engine (hd.w * hd.h) u p (s.mem.found ue) (s.ctl.advance dt)).2.1.e (ctxKey u.ctx 0x0B)) 1) ∧
  (∀ (dt : Nat) (done : List Nat) (s : State), s.ctl.tb.issuing = true → s.ctl.dc.cutFor ≠ some s.ctl.tb.nextIndex → tickD (s.ctl.tn s.ctl.tb.nextIndex) ((s.ctl.advance dt).now) ≤ tUs (s.ctl.e 0x300103) →
    completes (.cutoff dt done) s fun t => t.pending = s.pending ∧ t.ctl.dc.cutFor = some s.ctl.tb.nextIndex ∧
      t.ctl.dc.units.all (fun v => (v.pic.bind (t.ctl.pic v.ctx)).all (fun p => decide (p.cut ≠ s.ctl.tb.nextIndex + 1))) = true) ∧
  (∀ (dt : Nat) (ue : List DramErr) (n id kk b : Nat) (p : DcPic) (rest : List (Nat×Nat×Nat×Nat)) (s : State), s.ctl.tb.issuing = true → s.ctl.dc.cutFor = some s.ctl.tb.nextIndex → s.ctl.dc.engs.all DcEng.out = false →
    s.ctl.owedList (s.ctl.tb.nextIndex + 1) = (n, id, kk, b) :: rest → s.ctl.pic n id = some p → kk < p.cov.length → completes (.concealDone dt 1 ue) s fun t => t.pending = s.pending ∧
      ((t.ctl.pic n id).map fun q => (bit (q.cov.getD kk 0) b, bit (q.owed.getD kk 0) b, bit q.flags 0)) = some (true, false, true) ∧
      (∀ (a : Nat), a < p.hdr.block p.buf kk (b % p.hdr.bw) (b / p.hdr.bw) ∨ p.hdr.block p.buf kk (b % p.hdr.bw) (b / p.hdr.bw) + 8192 ≤ a → t.mem.get a = (s.mem.found ue).get a)) ∧
  (∀ (dt ctx : Nat) (s : State), s.ctl.ctxState (ctx % 1024) ≠ 0 → leaves (.contextEcc dt ctx) s fun c => c.ctxState (ctx % 1024) = 1 ∧ c.e (ctxKey (ctx % 1024) 0x11) = 0x13 ∧
    (c.ctx (ctx % 1024)).stored = [] ∧ (c.ctx (ctx % 1024)).out = [] ∧ c.dc.units.all (fun v => !(v.ctx = ctx % 1024 && v.pic.isSome)) = true) ∧
  (∀ (dt engine done : Nat) (s : State), engine ≤ 3 → engine < s.ctl.dc.engs.length → (s.ctl.eng engine).out = false → s.ctl.engUnit engine = none → completes (.engineFault dt engine done) s fun t =>
    t.mem.dram = s.mem.dram ∧ t.pending = s.pending ∧ t.ctl.ea 0x3003 engine = 1 ∧ t.ctl.isOut 0x20 engine = true ∧ (t.ctl.eng engine).out = true ∧ t.ctl.dc.units = s.ctl.dc.units) ∧
  (∀ (dt ctx n : Nat) (s : State), n = ctx % 1024 → leaves (.ctxClear dt ctx) s fun c => c.dc = s.ctl.dc ∧
    (∀ (k : Nat), c.e k = if k ∈ [9, 0x0A, 0x0B, 0x0C, 0x0D, 0x0E, 0x11].map (ctxKey n) then 0 else s.ctl.e k)) ∧
  (∀ (dt value : Nat) (s : State), leaves (.dcCtxSelWrite dt value) s fun c => c = (s.ctl.advance dt).setReg .dcCtxSel 0 0 (value % 1024))

/-- STENCIL_GO, STENCIL_MODE_WRITE, LIST_TAIL_WRITE, LIST_RESUME_SKIP, LIST_RESUME_RETRY, STENCIL_COMMAND_DONE, WATERMARK_REACHED,
BEHIND_BEAM_TIMEOUT and STENCIL_ECC: a command is checked, waits for its row, draws inside its surface only, and a list goes on or halts. -/
def Obligations.StencilDrawsItsCommands : Prop :=
  (∀ (dt : Nat) (s : State), s.ctl.stList = false → s.ctl.st.cmd = none → s.ctl.stCheck s.ctl.stRegs = 0 → leaves (.stencilGo dt) s fun c =>
    c.st = { s.ctl.st with cmd := some s.ctl.stRegs, waitFrom := (if bit s.ctl.stRegs.flags 1 && !s.ctl.stReached s.ctl.stRegs.waitRow then some (s.ctl.up + dt) else none), missed := false } ∧ c.e 0x45000A = 1) ∧
  (∀ (dt code : Nat) (s : State), s.ctl.stList = false → s.ctl.st.cmd = none → code = s.ctl.stCheck s.ctl.stRegs → code ≠ 0 → leaves (.stencilGo dt) s fun c =>
    c.st.cmd = none ∧ c.e 0x450009 = code ∧ c.e 0x45000A = 0 ∧ c.e 0x450008 = satAdd (entWidth 0x450008) (s.ctl.e 0x450008) 1) ∧
  (∀ (dt : Nat) (s : State), s.ctl.stList = true → leaves (.stencilGo dt) s fun c => c = (s.ctl.advance dt).setReg .stStatus 0 4 1) ∧
  (∀ (dt : Nat) (s : State), s.ctl.stList = false → s.ctl.st.cmd ≠ none → leaves (.stencilGo dt) s fun c => c = (s.ctl.advance dt).setReg .stStatus 0 2 1) ∧
  (∀ (dt mode : Nat) (s : State), s.ctl.st.cmd = none → (s.ctl.stList = true → s.ctl.st.head = s.ctl.stTail) → s.ctl.e 0x450001 ≠ mode % 2 → leaves (.stencilModeWrite dt mode) s fun c => c = (s.ctl.advance dt).setE 0x450001 (mode % 2)) ∧
  (∀ (dt mode : Nat) (s : State), s.ctl.st.cmd ≠ none → s.ctl.e 0x450001 ≠ mode % 2 → leaves (.stencilModeWrite dt mode) s fun c => c = (s.ctl.advance dt).setReg .stStatus 0 3 1) ∧
  (∀ (dt value : Nat) (ue : List DramErr) (a : Nat) (s : State), s.ctl.stList = true → s.ctl.st.cmd = none → s.ctl.st.halted = false → s.ctl.st.head ≠ value % 4096 → a = s.ctl.reg64 .stListBaseLo .stListBaseHi + 64 * s.ctl.st.head → s.ctl.dramOk a 64 = true →
    (s.mem.found ue).poisoned a 64 = false → s.ctl.stCheck (descriptor ((s.mem.found ue).read a 64)) = 0 → completes (.listTailWrite dt value ue) s fun t => t.pending = s.pending ∧ t.mem.dram = (s.mem.found ue).dram ∧ t.ctl.stTail = value % 4096 ∧ t.ctl.st.head = s.ctl.st.head ∧ t.ctl.st.cmd = some (descriptor ((s.mem.found ue).read a 64)) ∧ t.ctl.e 0x45000A = 1) ∧
  (∀ (dt value : Nat) (ue : List DramErr) (s : State), s.ctl.stList = false → completes (.listTailWrite dt value ue) s fun t => t.pending = s.pending ∧ t.mem.dram = (s.mem.found ue).dram ∧ t.ctl = ((s.ctl.advance dt).setReg .stStatus 0 4 1).setMc (fun m => { m with fixes := [] })) ∧
  (∀ (dt : Nat) (ue : List DramErr) (s : State), s.ctl.st.halted = true → s.ctl.st.cmd = none → (s.ctl.st.head + 1) % s.ctl.stEntries = s.ctl.stTail → completes (.listResumeSkip dt ue) s fun t => t.pending = s.pending ∧ t.mem.dram = (s.mem.found ue).dram ∧ t.ctl.st = { s.ctl.st with halted := false, head := (s.ctl.st.head + 1) % s.ctl.stEntries }) ∧
  (∀ (dt : Nat) (ue : List DramErr) (a : Nat) (s : State), s.ctl.stList = true → s.ctl.st.halted = true → s.ctl.st.cmd = none → s.ctl.st.head ≠ s.ctl.stTail → a = s.ctl.reg64 .stListBaseLo .stListBaseHi + 64 * s.ctl.st.head → s.ctl.dramOk a 64 = true →
    (s.mem.found ue).poisoned a 64 = false → s.ctl.stCheck (descriptor ((s.mem.found ue).read a 64)) = 0 → completes (.listResumeRetry dt ue) s fun t => t.pending = s.pending ∧ t.mem.dram = (s.mem.found ue).dram ∧ t.ctl.st.halted = false ∧ t.ctl.st.head = s.ctl.st.head ∧ t.ctl.st.cmd = some (descriptor ((s.mem.found ue).read a 64))) ∧
  (∀ (dt : Nat) (ue : List DramErr) (q : StCmd) (s : State), s.ctl.st.cmd = some q → s.ctl.st.waitFrom = none → (q.run q.h (s.mem.found ue) (s.ctl.advance dt)).2.2 = false → q.list = false → completes (.stencilCommandDone dt ue) s fun t =>
    t.mem.dram = (q.run q.h (s.mem.found ue) (s.ctl.advance dt)).1.dram ∧ t.pending = s.pending ∧ t.ctl.st.cmd = none ∧ t.ctl.e 0x450007 = satAdd (entWidth 0x450007) (s.ctl.e 0x450007) 1 ∧
    t.ctl.e 0x450009 = (if s.ctl.st.missed then 0x0C else 0) ∧ t.ctl.e 0x450008 = s.ctl.e 0x450008) ∧
  (∀ (dt : Nat) (ue : List DramErr) (q : StCmd) (s : State), s.ctl.st.cmd = some q → s.ctl.st.waitFrom = none → (q.run q.h (s.mem.found ue) (s.ctl.advance dt)).2.2 = false → q.list = true → completes (.stencilCommandDone dt ue) s fun t =>
    t.mem.dram = (q.run q.h (s.mem.found ue) (s.ctl.advance dt)).1.dram ∧ t.ctl.st.head = (s.ctl.st.head + 1) % s.ctl.stEntries ∧ t.ctl.e 0x450007 = satAdd (entWidth 0x450007) (s.ctl.e 0x450007) 1) ∧
  (∀ (dt : Nat) (ue : List DramErr) (q : StCmd) (s : State), s.ctl.st.cmd = some q → s.ctl.st.waitFrom = none → (q.run q.h (s.mem.found ue) (s.ctl.advance dt)).2.2 = true → completes (.stencilCommandDone dt ue) s fun t =>
    t.mem.dram = (q.run q.h (s.mem.found ue) (s.ctl.advance dt)).1.dram ∧ t.ctl.st.cmd = none ∧ t.ctl.e 0x450009 = 0x0A ∧ t.ctl.e 0x450007 = s.ctl.e 0x450007 ∧ t.ctl.st.halted = (q.list || s.ctl.st.halted)) ∧
  (∀ (q : StCmd) (n : Nat) (m : Mem) (c : Ctl) (a : Nat), fmtOk q.dst.fmt = true → q.dst.pitchOk = true → a < q.dst.base ∨ q.dst.base + q.dst.bytes ≤ a → (q.run n m c).1.get a = m.get a) ∧
  (∀ (dt : Nat) (q : StCmd) (t0 : Nat) (s : State), s.ctl.st.cmd = some q → s.ctl.st.waitFrom = some t0 → s.ctl.stReached q.waitRow = true → leaves (.watermarkReached dt) s fun c =>
    c.st.cmd = some q ∧ c.st.waitFrom = none) ∧
  (∀ (dt : Nat) (q : StCmd) (t0 : Nat) (s : State), s.ctl.st.cmd = some q → s.ctl.st.waitFrom = some t0 → t0 + 2 * s.ctl.period ≤ s.ctl.up + dt → leaves (.behindBeamTimeout dt) s fun c =>
    c.st = { s.ctl.st with waitFrom := none, missed := true }) ∧
  (∀ (dt word rows : Nat) (ue : List DramErr) (q : StCmd) (t0 : Nat) (s : State), s.ctl.st.cmd = some q → s.ctl.st.waitFrom = some t0 → completes (.stencilEcc dt word rows ue) s fun t => t.pending = s.pending ∧ t.mem.dram = (s.mem.found ue).dram ∧ t.ctl.st.cmd = none ∧ t.ctl.st.waitFrom = none ∧ t.ctl.e 0x450009 = 0x0A ∧ t.ctl.e 0x450008 = satAdd (entWidth 0x450008) (s.ctl.e 0x450008) 1)

/-! ### Compression and CRC units (15), images (03), memory (14) -/

/-- CX_JOB_START, CX_JOB_END and CX_FAULT: a job's descriptor is checked, its context is marked, and its result is reported. -/
def Obligations.CompressionJobsRun : Prop :=
  (∀ (dt : Nat) (g : Nat×Nat) (gs : List (Nat×Nat)) (l : XzLoad) (img : List Byte) (s : State), s.ctl.cpaUp = true → s.ctl.cx.inflate = none → s.ctl.e 0x510007 = 0 → (s.ctl.pm.throttle = false ∨ s.ctl.cx.deflate = none) → s.ctl.cx.imgJobs = g :: gs →
    s.ctl.xz.load = some l → img = (l.image l.raw).1 → img.length ≤ 11534336 → (l.image l.raw).2 < 0x10 → ((l.image l.raw).2 = 3 ∨ l.raw.length < l.size) → completes (.cxJobStart dt 0) s fun t => t.pending = s.pending ∧
      t.ctl.cx = { s.ctl.cx with imgJobs := gs, inflate := some ⟨0, [], 0, some g⟩ } ∧ t.ctl.xz.load = some l ∧
      (s.ctl.memReady = true → t.mem.read (s.ctl.slotBase l.slot) img.length = img) ∧
      (∀ (a : Nat), a < s.ctl.slotBase l.slot ∨ s.ctl.slotBase l.slot + 12255232 ≤ a → t.mem.get a = s.mem.get a)) ∧
  (∀ (dt pipe i : Nat) (d : List Byte) (s : State), s.ctl.cpaUp = true → pipe < 2 → s.ctl.cx.inflate = none → s.ctl.cx.deflate = none → s.ctl.e 0x510007 = 0 → s.ctl.cx.imgJobs = [] → s.ctl.reg .hiJqCfg 0 0 ≠ 0 → s.ctl.memReady = true →
    (s.ctl.jqOpen 0).find? (fun j => !s.ctl.cx.doneSlots.contains j && cxPipeOf (s.mem.read (s.ctl.jqAddr 0 j) 64) = pipe) = some i → d = s.mem.read (s.ctl.jqAddr 0 i) 64 →
    s.ctl.cxDescError d = 0 → s.mem.poisoned (s.ctl.jqAddr 0 i) 64 = false → cxEmptyJob d = false → bit (u8At d 2) 0 = true → completes (.cxJobStart dt pipe) s fun t => t.pending = s.pending ∧
      t.mem.dram = (s.mem.store (leAt d 32 8) (cxHeader 1 (u8At d 0) (u8At d 1) (if pipe = 1 then s.ctl.cx.nextId else 0))).dram ∧ t.ctl.cxJob pipe = some ⟨i, d, 0, none⟩ ∧
      t.ctl.cx.streams = s.ctl.cx.streams ++ (if pipe = 1 then [⟨s.ctl.cx.nextId, .start (u8At d 1)⟩] else [])) ∧
  (∀ (dt pipe i : Nat) (d : List Byte) (s : State), s.ctl.cpaUp = true → pipe < 2 → s.ctl.cx.inflate = none → s.ctl.cx.deflate = none → s.ctl.e 0x510007 = 0 → s.ctl.cx.imgJobs = [] → s.ctl.reg .hiJqCfg 0 0 ≠ 0 → s.ctl.memReady = true →
    (s.ctl.jqOpen 0).find? (fun j => !s.ctl.cx.doneSlots.contains j && cxPipeOf (s.mem.read (s.ctl.jqAddr 0 j) 64) = pipe) = some i → d = s.mem.read (s.ctl.jqAddr 0 i) 64 →
    s.ctl.cxDescError d ≠ 0 → leaves (.cxJobStart dt pipe) s fun c => c.cxJob pipe = some ⟨i, d, s.ctl.cxDescError d, none⟩ ∧ c.cx.streams = s.ctl.cx.streams) ∧
  (∀ (dt : Nat) (g : Nat×Nat) (job : CxJob) (l : XzLoad) (s : State), s.ctl.cx.inflate = some job → job.img = some g → s.ctl.xz.load = some l → l.closed = true → l.slot < s.ctl.xz.slots.length → leaves (.cxJobEnd dt 0 none []) s fun c => c.cx.inflate = none ∧ c.xz.load = none ∧
    c.slot l.slot = { st := 2, img := (l.image l.raw).1 } ∧ c.e 0x510005 = 0 ∧ c.e 0x510001 = satAdd (entWidth 0x510001) (s.ctl.e 0x510001) 1 ∧
    c.e 0x510003 = satAdd (entWidth 0x510003) (s.ctl.e 0x510003) l.raw.length ∧ c.e 0x510004 = satAdd (entWidth 0x510004) (s.ctl.e 0x510004) (l.image l.raw).1.length) ∧
  (∀ (dt pipe : Nat) (job : CxJob) (s : State), s.ctl.cxJob pipe = some job → job.img = none → 0x10 ≤ job.early → completes (.cxJobEnd dt pipe none []) s fun t => t.pending = s.pending ∧ t.ctl.cxJob pipe = none ∧
    t.ctl.e 0x510005 = job.early ∧ t.ctl.e 0x510002 = satAdd (entWidth 0x510002) (s.ctl.e 0x510002) 1 ∧ t.ctl.e 0x510001 = s.ctl.e 0x510001) ∧
  (∀ (dt : Nat) (ue : List DramErr) (job : CxJob) (d x : List Byte) (m : Mem) (r : CxOut) (s : State), s.ctl.cx.inflate = some job → job.img = none → job.early = 0 → d = job.desc → cxEmptyJob d = false → u8At d 0 = 1 → m = s.mem.found ue → m.poisoned (leAt d 8 8) (leAt d 16 4) = false →
    x = m.read (leAt d 32 8 + 64) 36800 → r = cxInflate (u8At d 1) (bit (u8At d 2) 0) (x.take 4032) (x.drop 4032) (m.read (leAt d 8 8) (leAt d 16 4)) (bit (u8At d 2) 1) (leAt d 20 4) → completes (.cxJobEnd dt 0 none ue) s fun t => t.pending = s.pending ∧
      t.ctl.cx.inflate = none ∧ t.ctl.e 0x510005 = r.result ∧ t.ctl.e 0x510004 = satAdd (entWidth 0x510004) (s.ctl.e 0x510004) r.out.length ∧
      (∀ (a : Nat), (a < leAt d 24 8 ∨ leAt d 24 8 + r.out.length ≤ a) → (a < leAt d 32 8 ∨ leAt d 32 8 + 36864 ≤ a) →
        (a < s.ctl.jqAddr 0 job.slot + 40 ∨ s.ctl.jqAddr 0 job.slot + 64 ≤ a) → t.mem.get a = m.get a)) ∧
  (∀ (dt : Nat) (ue : List DramErr) (job : CxJob) (d : List Byte) (m : Mem) (r : CxOut) (s : State), s.ctl.cx.deflate = some job → job.img = none → job.early = 0 → d = job.desc → cxEmptyJob d = false → u8At d 0 = 2 → bit (u8At d 2) 0 = true → m = s.mem.found ue → m.poisoned (leAt d 8 8) (leAt d 16 4) = false →
    r = (cxDeflate (u8At d 1) (u8At d 3) (DfPipe.start (u8At d 1)) 0 (m.read (leAt d 8 8) (leAt d 16 4)) (bit (u8At d 2) 1) (leAt d 20 4)).1 → completes (.cxJobEnd dt 1 none ue) s fun t => t.pending = s.pending ∧
      t.ctl.cx.deflate = none ∧ t.ctl.e 0x510005 = r.result ∧ t.ctl.e 0x510004 = satAdd (entWidth 0x510004) (s.ctl.e 0x510004) r.out.length ∧
      (∀ (a : Nat), (a < leAt d 24 8 ∨ leAt d 24 8 + r.out.length ≤ a) → (a < leAt d 32 8 ∨ leAt d 32 8 + 36864 ≤ a) →
        (a < s.ctl.jqAddr 0 job.slot + 40 ∨ s.ctl.jqAddr 0 job.slot + 64 ≤ a) → t.mem.get a = m.get a)) ∧
  (∀ (dt pipe : Nat) (made : List Nat) (ue : List DramErr) (s : State), completes (.cxFault dt pipe made ue) s fun t => t.pending = s.pending ∧ t.ctl.e 0x510007 = 1 ∧ t.ctl.isOut 0x41 pipe = true ∧ t.ctl.cx.inflate = none ∧ t.ctl.cx.deflate = none)

/-- CRC_START, CRC_STOP, CRC_COMPARE, CRC_FEED, CRC_VALUE_WRITE, SNOOP_ITEM and CRC_UNIT_FAULT: a unit's value follows its octets, its
result follows its value or stands until the stop, and a held unit refuses. -/
def Obligations.CrcUnitsFold : Prop :=
  (∀ (dt u : Nat) (s : State), u < 8 → s.ctl.ckHeld u = false → leaves (.crcStart dt u) s fun c => c.ea 0x5215 u = s.ctl.ckVal 0x5212 u ∧ c.ea 0x521A u = 0 ∧ c.ea 0x521B u = 0 ∧
    c.ckBit u 1 = s.ctl.ckSnoop u ∧ c.ea 0x5216 u = (if s.ctl.ckSnoop u then s.ctl.ea 0x5216 u else c.ckResult u)) ∧
  (∀ (dt u : Nat) (s : State), u < 8 → s.ctl.ckBit u 9 = false → s.ctl.ckBit u 8 = true → leaves (.crcStart dt u) s fun c => c = (s.ctl.advance dt).setCkBit u 5 true) ∧
  (∀ (dt u : Nat) (s : State), u < 8 → s.ctl.ckHeld u = false → s.ctl.ckBit u 1 = true → s.ctl.reg .ckSnoopCount u 0 = 0 → s.ctl.ckInItem u = false → leaves (.crcStop dt u) s fun c =>
    c.ea 0x5216 u = s.ctl.ckResult u ∧ c.ea 0x5215 u = s.ctl.ea 0x5215 u ∧ c.ckBit u 1 = false ∧ c.ckBit u 7 = true) ∧
  (∀ (dt u : Nat) (s : State), u < 8 → s.ctl.ckHeld u = false → s.ctl.ckBit u 1 = true → s.ctl.reg .ckSnoopCount u 0 = 0 → s.ctl.ckInItem u = true → leaves (.crcStop dt u) s fun c =>
    c.cx.stopping.contains u = true ∧ c.ent = s.ctl.ent) ∧
  (∀ (dt u : Nat) (s : State), u < 8 → s.ctl.ckHeld u = false → leaves (.crcCompare dt u) s fun c => c.ckBit u 2 = decide (s.ctl.ckVal 0x5216 u = s.ctl.ckVal 0x5214 u) ∧
    (s.ctl.ckVal 0x5216 u ≠ s.ctl.ckVal 0x5214 u → c.ckBit u 3 = true) ∧ c.ea 0x5215 u = s.ctl.ea 0x5215 u) ∧
  (∀ (dt u : Nat) (bytes : List Byte) (s : State), u < 8 → s.ctl.ckHeld u = false → s.ctl.ckSnoop u = false → leaves (.crcFeed dt u bytes) s fun c =>
    c.ea 0x5215 u = crcFold (s.ctl.ckWidth u) (s.ctl.ckVal 0x5211 u) (s.ctl.ckRefin u) (s.ctl.ckVal 0x5215 u) bytes ∧ c.ea 0x5216 u = c.ckResult u ∧
    c.regs = s.ctl.regs ∧ c.ea 0x5219 u = s.ctl.ea 0x5219 u) ∧
  (∀ (dt u : Nat) (bytes : List Byte) (s : State), u < 8 → s.ctl.ckHeld u = false → s.ctl.ckSnoop u = true → leaves (.crcFeed dt u bytes) s fun c => c = (s.ctl.advance dt).setCkBit u 6 true) ∧
  (∀ (dt u v : Nat) (s : State), u < 8 → s.ctl.ckHeld u = false → s.ctl.ckBit u 1 = false → s.ctl.ckBit u 0 = false → leaves (.crcValueWrite dt u v) s fun c =>
    c.ea 0x5215 u = v % 2 ^ s.ctl.ckWidth u ∧ (s.ctl.ckSnoop u = false → c.ea 0x5216 u = c.ckResult u) ∧ c.ea 0x5219 u = s.ctl.ea 0x5219 u) ∧
  (∀ (dt u v : Nat) (s : State), u < 8 → s.ctl.ckHeld u = false → s.ctl.ckBit u 1 = true → leaves (.crcValueWrite dt u v) s fun c => c = (s.ctl.advance dt).setCkBit u 5 true) ∧
  (∀ (dt point u : Nat) (r : SnoopRec) (s : State), u < 8 → s.ctl.cx.passed.find? (fun x => x.point = point) = some r → s.ctl.ckBit u 1 = true → s.ctl.ckHeld u = false → s.ctl.ckPoint u = point → snoopTakes point (bits (s.ctl.ea 0x5210 u) 31 24) r.tag = true →
    leaves (.snoopItem dt point false) s fun c => c.ea 0x5215 u = crcFold (s.ctl.ckWidth u) (s.ctl.ckVal 0x5211 u) (s.ctl.ckRefin u) (s.ctl.ckVal 0x5215 u) r.bytes ∧
      c.ea 0x521A u = satAdd 32 (s.ctl.ea 0x521A u) 1 ∧ c.cx.passed = s.ctl.cx.passed.erase r) ∧
  (∀ (dt point u : Nat) (r : SnoopRec) (s : State), u < 8 → s.ctl.cx.passed.find? (fun x => x.point = point) = some r → s.ctl.ckBit u 1 = true → s.ctl.ckHeld u = false → s.ctl.ckPoint u = point → snoopTakes point (bits (s.ctl.ea 0x5210 u) 31 24) r.tag = true →
    leaves (.snoopItem dt point true) s fun c => c.ea 0x5215 u = s.ctl.ea 0x5215 u ∧ c.ea 0x521A u = s.ctl.ea 0x521A u ∧
      c.ea 0x521B u = satAdd (entWidth (ekey 0x521B (u + 1))) (s.ctl.ea 0x521B u) 1 ∧ c.ckBit u 4 = true) ∧
  (∀ (dt point : Nat) (overflow : Bool) (s : State), s.ctl.cx.passed.find? (fun r => r.point = point) = none → leaves (.snoopItem dt point overflow) s fun c => c = s.ctl.advance dt) ∧
  (∀ (dt u : Nat) (s : State), u < 8 → leaves (.crcUnitFault dt u) s fun c => c.ckBit u 1 = false ∧ c.ckBit u 9 = true ∧ c.isOut 0x42 u = true ∧ c.ea 0x5215 u = s.ctl.ea 0x5215 u)

/-- IMAGE_LOAD_BEGIN, IMAGE_LOAD_DATA, IMAGE_LOAD_END, IMAGE_LOAD_ABORT, IMAGE_LOAD_TIMEOUT, DMA_LOAD_START, DMA_LOAD_ABORT, DMA_LOAD_END
and VERIFICATION_DONE: an image comes into its slot, and the checks say whether it may be activated. -/
def Obligations.ImagesComeIntoTheirSlot : Prop :=
  (∀ (dt k : Nat) (s : State), s.ctl.cpaUp = true → k = s.ctl.loadTarget → k < s.ctl.xz.slots.length → s.ctl.loadBusy = false → s.ctl.e 0x410201 ≤ 2 → (s.ctl.e 0x410201 ≠ 0 ∨ s.ctl.e 0x410202 ≤ 11534336) → leaves (.imageLoadBegin dt) s fun c =>
    c.xz.load = some ⟨k, s.ctl.e 0x410201, s.ctl.e 0x410202, [], false, s.ctl.up + dt, false, none⟩ ∧ (c.slot k).st = 1 ∧ c.e 0x410205 = 0 ∧ c.ckBit 7 8 = true) ∧
  (∀ (dt : Nat) (s : State), s.ctl.cpaUp = true → s.ctl.loadBusy = true → s.ctl.e 0x410201 ≤ 2 → leaves (.imageLoadBegin dt) s fun c => c.xz = s.ctl.xz ∧ c.e 0x410208 = 0x22 ∧ c.e 0x410209 = 0) ∧
  (∀ (dt : Nat) (bytes raw : List Byte) (k : Nat) (img : List Byte) (l : XzLoad) (s : State), s.ctl.cpaUp = true → s.ctl.xz.load = some l → l.dma = false → l.closed = false → (l.enc = 0 ∨ s.ctl.loadInPipe = true) → raw = l.raw ++ bytes → raw.length ≤ l.size → img = (l.image raw).1 →
    img.length ≤ 11534336 → (l.image raw).2 < 0x10 → (l.enc = 0 ∨ (l.image raw).2 = 3 ∨ raw.length < l.size) → k = (l.image l.raw).1.length → completes (.imageLoadData dt bytes) s fun t =>
      t.pending = s.pending ∧ t.ctl.xz = { s.ctl.xz with load := some { l with raw := raw, lastAt := s.ctl.up + dt }, fills := [] } ∧ t.ctl.e 0x410205 = raw.length ∧
      (s.ctl.memReady = true → t.mem.read (s.ctl.slotBase l.slot + k) (img.length - k) = img.drop k) ∧
      (∀ (a : Nat), a < s.ctl.slotBase l.slot ∨ s.ctl.slotBase l.slot + 12255232 ≤ a → t.mem.get a = s.mem.get a)) ∧
  (∀ (dt : Nat) (bytes raw : List Byte) (l : XzLoad) (s : State), s.ctl.cpaUp = true → s.ctl.xz.load = some l → l.dma = false → l.closed = false → l.enc ≠ 0 → s.ctl.loadInPipe = false → raw = l.raw ++ bytes → raw.length ≤ l.size → leaves (.imageLoadData dt bytes) s fun c =>
    c.xz = { s.ctl.xz with load := some { l with raw := raw, lastAt := s.ctl.up + dt }, fills := [] } ∧ c.e 0x410205 = raw.length) ∧
  (∀ (dt : Nat) (l : XzLoad) (s : State), s.ctl.cpaUp = true → s.ctl.xz.load = some l → l.dma = false → l.closed = false → l.slot < s.ctl.xz.slots.length → l.size ≤ l.raw.length → l.enc = 0 → leaves (.imageLoadEnd dt) s fun c =>
    c.xz.load = none ∧ c.slot l.slot = { st := 2, img := (l.image l.raw).1 }) ∧
  (∀ (dt : Nat) (l : XzLoad) (s : State), s.ctl.cpaUp = true → s.ctl.xz.load = some l → l.dma = false → l.closed = false → l.size ≤ l.raw.length → l.enc ≠ 0 → leaves (.imageLoadEnd dt) s fun c =>
    c.xz = { s.ctl.xz with load := some { l with closed := true } } ∧ c.ent = s.ctl.ent) ∧
  (∀ (dt : Nat) (l : XzLoad) (s : State), s.ctl.cpaUp = true → s.ctl.xz.load = some l → l.dma = false → l.closed = false → l.slot < s.ctl.xz.slots.length → l.raw.length < l.size → leaves (.imageLoadEnd dt) s fun c =>
    c.xz.load = none ∧ c.slot l.slot = { st := 4 } ∧ c.e 0x410208 = 0x20 ∧ c.e 0x410209 = 0x101) ∧
  (∀ (dt : Nat) (l : XzLoad) (s : State), s.ctl.cpaUp = true → s.ctl.xz.load = some l → l.dma = false → l.slot < s.ctl.xz.slots.length → leaves (.imageLoadAbort dt) s fun c => c.xz.load = none ∧ c.slot l.slot = {} ∧ c.regs = s.ctl.regs) ∧
  (∀ (dt : Nat) (l : XzLoad) (s : State), s.ctl.cpaUp = true → s.ctl.xz.load = some l → l.closed = false → l.slot < s.ctl.xz.slots.length → l.lastAt + tS 10 ≤ s.ctl.up + dt → leaves (.imageLoadTimeout dt) s fun c =>
    c.xz.load = none ∧ c.slot l.slot = { st := 4 } ∧ c.e 0x410208 = 0x20 ∧ c.e 0x410209 = 0x102) ∧
  (∀ (dt k enc size : Nat) (s : State), s.ctl.cpaUp = true → k = s.ctl.loadTarget → k < s.ctl.xz.slots.length → s.ctl.loadBusy = false → enc = s.ctl.reg .xzLoadCtrl 0 4 → size = s.ctl.reg .xzLoadLen 0 0 → enc ≤ 2 → (enc ≠ 0 ∨ size ≤ 11534336) →
    s.ctl.hi.j1.running = false → leaves (.dmaLoadStart dt) s fun c => c.xz.load = some ⟨k, enc, size, [], true, s.ctl.up + dt, false, none⟩ ∧ (c.slot k).st = 1 ∧
      c.out = s.ctl.out ++ [{ kind := .hostRead, a := s.ctl.reg .xzLoadSrcLo 0 0 + s.ctl.reg .xzLoadSrcHi 0 0 * 2 ^ 32, b := size }]) ∧
  (∀ (dt k enc size : Nat) (s : State), s.ctl.cpaUp = true → k = s.ctl.loadTarget → k < s.ctl.xz.slots.length → s.ctl.loadBusy = false → enc = s.ctl.reg .xzLoadCtrl 0 4 → size = s.ctl.reg .xzLoadLen 0 0 → enc ≤ 2 → (enc ≠ 0 ∨ size ≤ 11534336) →
    s.ctl.hi.j1.running = true → leaves (.dmaLoadStart dt) s fun c => c.xz.load = some ⟨k, enc, size, [], true, s.ctl.up + dt, false, some (s.ctl.reg .xzLoadSrcLo 0 0 + s.ctl.reg .xzLoadSrcHi 0 0 * 2 ^ 32)⟩ ∧ (c.slot k).st = 1 ∧
      c.out = s.ctl.out) ∧
  (∀ (dt : Nat) (l : XzLoad) (s : State), s.ctl.cpaUp = true → s.ctl.xz.load = some l → l.dma = true → l.slot < s.ctl.xz.slots.length → leaves (.dmaLoadAbort dt) s fun c => c.xz.load = none ∧ c.slot l.slot = {} ∧
    c.reg .xzLoadCtrl 0 9 = 1 ∧ c.reg .xzLoadCtrl 0 10 = s.ctl.reg .xzLoadCtrl 0 10) ∧
  (∀ (dt : Nat) (bytes : List Byte) (l : XzLoad) (s : State), s.ctl.xz.load = some l → l.dma = true → l.closed = false → l.waits = none → l.slot < s.ctl.xz.slots.length → leaves (.dmaLoadEnd dt bytes true) s fun c => c.xz.load = none ∧ c.slot l.slot = { st := 4 } ∧
    c.e 0x410208 = 0x20 ∧ c.e 0x410209 = 0x103 ∧ c.reg .xzLoadCtrl 0 9 = 1 ∧ c.reg .xzLoadCtrl 0 10 = 1) ∧
  (∀ (dt : Nat) (bytes : List Byte) (l : XzLoad) (s : State), s.ctl.cpaUp = true → s.ctl.xz.load = some l → l.dma = true → l.closed = false → l.waits = none → l.slot < s.ctl.xz.slots.length → l.enc = 0 → (l.raw ++ bytes).length = l.size → l.size ≤ 11534336 → completes (.dmaLoadEnd dt bytes false) s fun t =>
    t.pending = s.pending ∧ t.ctl.xz.load = none ∧ t.ctl.slot l.slot = { st := 2, img := l.raw ++ bytes } ∧ t.ctl.reg .xzLoadCtrl 0 9 = 1 ∧
    (∀ (a : Nat), a < s.ctl.slotBase l.slot ∨ s.ctl.slotBase l.slot + 12255232 ≤ a → t.mem.get a = s.mem.get a)) ∧
  (∀ (dt slot : Nat) (s : State), s.ctl.cpaUp = true → slot < s.ctl.xz.slots.length → (s.ctl.slot slot).st = 2 → s.ctl.xz.boot = false → leaves (.verificationDone dt slot) s fun c =>
    c.slot slot = { st := if 0x10 ≤ (s.ctl.verifySlot slot).1 then 4 else 3, img := (s.ctl.slot slot).img } ∧ c.e 0x410208 = (s.ctl.verifySlot slot).1 ∧
    c.e 0x410209 = (s.ctl.verifySlot slot).2 ∧ c.xz.pend = s.ctl.xz.pend)

/-- ACT_REQUEST, ACT_CANCEL, SRAM_COPY_DONE, STORE_CMD, STORE_DONE, RAY_QUERY and RAY_QUERY_DONE: an image waits for its flip, is copied,
is stored and is asked for a ray. -/
def Obligations.ImagesAreActivatedAndStored : Prop :=
  (∀ (dt k at_ : Nat) (s : State), s.ctl.cpaUp = true → k = s.ctl.e 0x410301 → (s.ctl.advance dt).actResult = (0, 0) → at_ = (s.ctl.advance dt).actTarget → leaves (.actRequest dt) s fun c =>
    (c.slot k).st = 5 ∧ c.xz.pend = some ⟨k, some at_, false⟩ ∧ c.pendShown = s.ctl.tn ((s.ctl.advance dt).flipAt at_) ∧ c.e 0x410208 = 0) ∧
  (∀ (dt : Nat) (s : State), s.ctl.cpaUp = true → (s.ctl.advance dt).actResult.1 ≠ 0 → leaves (.actRequest dt) s fun c => c.xz = s.ctl.xz ∧ c.e 0x410208 = (s.ctl.advance dt).actResult.1 ∧ c.e 0x410209 = (s.ctl.advance dt).actResult.2) ∧
  (∀ (dt : Nat) (p : XzPend) (s : State), s.ctl.cpaUp = true → s.ctl.xz.pend = some p → p.slot < s.ctl.xz.slots.length → tUs 100 < tickD ((s.ctl.advance dt).pendTick p) ((s.ctl.advance dt).now) → leaves (.actCancel dt) s fun c =>
    c.xz.pend = none ∧ (c.slot p.slot).st = 3 ∧ c.pendShown = 0 ∧ c.e 0x410208 = 0) ∧
  (∀ (dt : Nat) (p : XzPend) (s : State), s.ctl.cpaUp = true → s.ctl.xz.pend = some p → tickD ((s.ctl.advance dt).pendTick p) ((s.ctl.advance dt).now) ≤ tUs 100 → leaves (.actCancel dt) s fun c => c.xz = s.ctl.xz ∧ c.e 0x410208 = 0x26) ∧
  (∀ (dt : Nat) (ue : List DramErr) (k : Nat) (s : State), s.ctl.xz.copying = true → s.ctl.xz.active = some k → k < s.ctl.xz.slots.length →
    (slotRead k (s.mem.found ue) ((s.ctl.advance dt).setXz (fun x => { x with parityLost := false }))).2.xz.parityLost = false → completes (.sramCopyDone dt ue) s fun t => t.pending = s.pending ∧
      (t.ctl.slot k).st = 6 ∧ t.ctl.xz.copying = false ∧ t.ctl.xz.prev = none ∧ t.ctl.xz.parityLost = false ∧ t.mem.dram = (s.mem.found ue).dram) ∧
  (∀ (dt k : Nat) (s : State), s.ctl.cpaUp = true → (List.range 2).find? (fun i => (s.ctl.slot i).st = 6) = some k → s.ctl.xz.storing = none → leaves (.storeCmd dt) s fun c =>
    c.xz = { s.ctl.xz with storing := some k, stored := [] } ∧ c.e 0x410401 = 2 ∧ c.e 0x410208 = 0) ∧
  (∀ (dt : Nat) (s : State), s.ctl.cpaUp = true → ((List.range 2).find? (fun i => (s.ctl.slot i).st = 6) = none ∨ s.ctl.xz.storing ≠ none) → leaves (.storeCmd dt) s fun c => c.xz = s.ctl.xz ∧ c.e 0x410208 = 0x22) ∧
  (∀ (dt : Nat) (ue : List DramErr) (k : Nat) (s : State), s.ctl.cpaUp = true → s.ctl.xz.storing = some k → s.ctl.bt.mramStopped = false → (∀ (b : Nat), (s.mem.found ue).bad b = false) → completes (.storeDone dt ue) s fun t => t.mem.dram = (s.mem.found ue).dram ∧ t.pending = s.pending ∧
    t.ctl.xz.storing = none ∧ t.ctl.xz.stored = storedForm (s.ctl.slot k).img ∧ t.ctl.e 0x410401 = 1 ∧ t.ctl.e 0x410402 = imgId (storedForm (s.ctl.slot k).img)) ∧
  (∀ (dt n : Nat) (s : State), s.ctl.xz.query = none → n < s.ctl.e 0x410016 → leaves (.rayQuery dt n) s fun c => c.xz = { s.ctl.xz with query := some n } ∧ c.ent = s.ctl.ent ∧
    c.reg .xzRayStatus 0 0 = 1 ∧ c.reg .xzRayStatus 0 1 = 0 ∧ c.reg .xzRayStatus 0 2 = 0) ∧
  (∀ (dt n : Nat) (s : State), s.ctl.xz.query = none → s.ctl.e 0x410016 ≤ n → leaves (.rayQuery dt n) s fun c => c.xz = s.ctl.xz ∧ c.ent = s.ctl.ent ∧
    c.reg .xzRayStatus 0 0 = 0 ∧ c.reg .xzRayStatus 0 1 = 1 ∧ c.reg .xzRayStatus 0 2 = 1) ∧
  (∀ (dt n : Nat) (q : RayGeo) (s : State), s.ctl.xz.query = some n → q = rayGeo s.ctl.img n → leaves (.rayQueryDone dt) s fun c => c.xz = { s.ctl.xz with query := none } ∧ c.ent = s.ctl.ent ∧
    c.reg .xzRayStatus 0 0 = 0 ∧ c.reg .xzRayStatus 0 1 = 1 ∧ c.reg .xzRayHogel 0 16 = q.row ∧ c.reg .xzRayHogel 0 0 = q.col ∧ c.reg .xzRayView 0 8 = q.j ∧ c.reg .xzRayView 0 0 = q.i ∧
    c.reg .xzRayLens 0 0 = q.rec_ ∧ c.reg .xzRaySx 0 0 = q.sx ∧ c.reg .xzRaySy 0 0 = q.sy)

/-- MR4_READ, REFRESH_DUE, ZQ_LATCH, WCK_TRACK, POWER_DOWN_ENTRY, PATROL_SCRUB and SRAM_SCRUB: the refresh rate and the owed refreshes of
a rank, its times, the scrubber's burst, and what it finds. -/
def Obligations.MemoryIsKept : Prop :=
  (∀ (dt port ch rank rate lim : Nat) (x y : McChan) (r : Ctl) (s : State), r = (s.ctl.advance dt).mcRun → r.mc.chan port ch rank = some x → s.ctl.memReady = true → s.ctl.mc.selfRefresh = false → x.mr4At + tMs 1 ≤ s.ctl.up + dt → lim = (refreshRow rate).2 →
    y = { x with rate := rate, limit := lim, mr4At := s.ctl.up + dt, catchup := (decide (x.rate < rate) && decide (3 ≤ rate) && decide (lim < x.owed)) || (x.catchup && decide (lim < x.owed)) } →
    leaves (.mr4Read dt port ch rank rate) s fun c => c.mc.chan port ch rank = some y) ∧
  (∀ (dt port ch rank rate lim : Nat) (x : McChan) (r : Ctl) (s : State), r = (s.ctl.advance dt).mcRun → r.mc.chan port ch rank = some x → s.ctl.memReady = true → s.ctl.mc.selfRefresh = false → x.mr4At + tMs 1 ≤ s.ctl.up + dt → lim = (refreshRow rate).2 →
    x.rate < rate → 3 ≤ rate → lim < x.owed → port < 6 → leaves (.mr4Read dt port ch rank rate) s fun c =>
      c.ea 0x5007 port = satAdd (entWidth (ekey 0x5007 (port + 1))) (r.ea 0x5007 port) 1) ∧
  (∀ (dt port ch rank : Nat) (x : McChan) (r : Ctl) (s : State), r = (s.ctl.advance dt).mcRun → r.mc.chan port ch rank = some x → s.ctl.memReady = true → s.ctl.mc.selfRefresh = false → x.dueAt + tNs (refreshRow x.rate).1 ≤ s.ctl.up + dt →
    leaves (.refreshDue dt port ch rank) s fun c => c.mc.chan port ch rank =
      some { x with owed := x.owed + 1, dueAt := x.dueAt + tNs (refreshRow x.rate).1, powerDown := x.powerDown && decide (x.owed + 1 < x.limit / 2) }) ∧
  (∀ (dt port ch rank : Nat) (x : McChan) (r : Ctl) (s : State), r = (s.ctl.advance dt).mcRun → r.mc.chan port ch rank = some x → (s.ctl.mc.selfRefresh = true ∨ s.ctl.up + dt < x.dueAt + tNs (refreshRow x.rate).1) →
    leaves (.refreshDue dt port ch rank) s fun c => c = r) ∧
  (∀ (v : McView) (q : McQ) (idle : Nat) (p : Nat×Nat), q.idleRefresh v q.ranTo = some p → ((q.next v idle).map fun z => (z.1.ranks, z.2.reads, z.2.pages.all (fun g => !(g.1 / 16 = p.1 && g.1 % 8 = p.2)))) =
    some (v.ranks.map (fun x => if x.rank = p.1 then x.issue q.ranTo p.2 else x), q.reads, true)) ∧
  (∀ (v : McView) (q : McQ) (idle : Nat) (p : Nat×Nat), q.idleRefresh v q.ranTo = none → q.going v q.ranTo = none → v.forced q.ranTo (fun x => decide (x.owed ≥ x.limit)) = some p → ((q.next v idle).map fun z => (z.1.ranks, z.2.reads)) =
    some (v.ranks.map (fun x => if x.rank = p.1 then x.issue q.ranTo p.2 else x), q.reads)) ∧
  (∀ (v : McView) (q : McQ) (idle : Nat) (r : McReq), q.idleRefresh v q.ranTo = none → q.going v q.ranTo = some r → ((q.next v idle).map fun z => (z.1.ranks, z.2.ranTo)) = some (v.ranks, q.ranTo + 4 * q.columns r)) ∧
  (∀ (dt port ch : Nat) (r : Ctl) (s : State), s.ctl.memReady = true → s.ctl.mc.selfRefresh = false → r = (s.ctl.advance dt).mcRun → s.ctl.mc.chans.any (fun x => x.port = port && x.ch = ch && decide (x.zqAt + tMs 32 ≤ s.ctl.up + dt)) = true →
    leaves (.zqLatch dt port ch) s fun c => c.ent = r.ent ∧
      c.mc.chans = r.mc.chans.map (fun x => if x.port = port && x.ch = ch then { x with zqAt := s.ctl.up + dt, actAt := some (s.ctl.up + dt) } else x) ∧
      c.mc.qs.map McQ.hold = r.mc.qs.map (fun q => if q.port = port && q.ch = ch then max q.hold (ckOf (s.ctl.up + dt) + 1200) else q.hold)) ∧
  (∀ (dt port ch : Nat) (r : Ctl) (s : State), s.ctl.memReady = true → s.ctl.mc.selfRefresh = false → r = (s.ctl.advance dt).mcRun → s.ctl.mc.chans.any (fun x => x.port = port && x.ch = ch && decide (x.trackAt + tMs 100 ≤ s.ctl.up + dt)) = true →
    leaves (.wckTrack dt port ch) s fun c => c.ent = r.ent ∧
      c.mc.chans = r.mc.chans.map (fun x => if x.port = port && x.ch = ch then { x with trackAt := s.ctl.up + dt, actAt := some (s.ctl.up + dt) } else x) ∧
      c.mc.qs.map McQ.hold = r.mc.qs.map (fun q => if q.port = port && q.ch = ch then max q.hold (ckOf (s.ctl.up + dt) + 1200) else q.hold)) ∧
  (∀ (dt port ch : Nat) (s : State), s.ctl.mc.chans.any (fun x => x.port = port && x.ch = ch && decide (x.zqAt + tMs 32 ≤ s.ctl.up + dt)) = false → leaves (.zqLatch dt port ch) s fun c => c = s.ctl.advance dt) ∧
  (∀ (dt port ch rank now : Nat) (x : McChan) (r : Ctl) (s : State), r = (s.ctl.advance dt).mcRun → now = ckOf (s.ctl.up + dt) → r.mc.chan port ch rank = some x → s.ctl.memReady = true → s.ctl.mc.selfRefresh = false →
    r.mc.qs.any (fun q => q.port = port && q.ch = ch && !q.wants rank && (aGet q.used rank).any (fun u => decide (u.1 + u.2 ≤ now)) && !(r.mcView port ch).reservedIn now now) = true →
    leaves (.powerDownEntry dt port ch rank) s fun c => c.ent = r.ent ∧ c.mc.chan port ch rank = some { x with powerDown := true }) ∧
  (∀ (dt : Nat) (ue : List DramErr) (k : Nat) (n : Nat×Nat) (m : Mem) (s : State), s.ctl.memReady = true → s.ctl.mc.selfRefresh = false → (s.ctl.advance dt).scrubDue = true → k = s.ctl.mc.scrubAt → n = s.ctl.scrubSizes → m = s.mem.found ue → m.errOf k = 0 → aGet m.link k = none →
    completes (.patrolScrub dt ue) s fun t => t.pending = s.pending ∧ t.mem.dram = m.dram ∧ t.ctl.mc.scrubAt = (if n.1 + n.2 ≤ k + 1 then 0 else k + 1) ∧
      (∀ (p : Nat), p < 6 → t.ctl.ea 0x5002 p = s.ctl.ea 0x5002 p ∧ t.ctl.ea 0x5003 p = s.ctl.ea 0x5003 p)) ∧
  (∀ (dt : Nat) (ue : List DramErr) (k i p : Nat) (m : Mem) (s : State), s.ctl.memReady = true → s.ctl.mc.selfRefresh = false → (s.ctl.advance dt).scrubDue = true → k = s.ctl.mc.scrubAt → k < s.ctl.scrubSizes.1 → m = s.mem.found ue → burstRead (m.errOf k) = .fixed i →
    aGet m.link k = none → p = (dramMap (max 1 s.ctl.np) (64 * k)).1 → p < 6 → completes (.patrolScrub dt ue) s fun t => t.pending = s.pending ∧ t.mem.dram = m.dram ∧ t.mem.errOf k = 0 ∧
      t.ctl.ea 0x5002 p = satAdd (entWidth (ekey 0x5002 (p + 1))) (s.ctl.ea 0x5002 p) 1 ∧ t.ctl.ea 0x5003 p = s.ctl.ea 0x5003 p) ∧
  (∀ (dt : Nat) (ue : List DramErr) (k p : Nat) (m : Mem) (s : State), s.ctl.memReady = true → s.ctl.mc.selfRefresh = false → s.ctl.mc.fixes = [] → (s.ctl.advance dt).scrubDue = true → k = s.ctl.mc.scrubAt → k < s.ctl.scrubSizes.1 → m = s.mem.found ue → burstRead (m.errOf k) = .bad →
    aGet m.link k = none → p = (dramMap (max 1 s.ctl.np) (64 * k)).1 → p < 6 → completes (.patrolScrub dt ue) s fun t => t.pending = s.pending ∧ t.mem.dram = m.dram ∧ t.mem.errOf k = m.errOf k ∧
      t.ctl.ea 0x5003 p = satAdd (entWidth (ekey 0x5003 (p + 1))) (s.ctl.ea 0x5003 p) 1 ∧ t.ctl.ea 0x5002 p = s.ctl.ea 0x5002 p) ∧
  (∀ (dt : Nat) (s : State), (s.ctl.memReady = false ∨ s.ctl.mc.selfRefresh = true ∨ (s.ctl.advance dt).scrubDue = false) → leaves (.patrolScrub dt []) s fun c => c = (s.ctl.advance dt).setMc (fun m => { m with fixes := [] })) ∧
  (∀ (dt fixed : Nat) (s : State), leaves (.sramScrub dt fixed []) s fun c => c = ((s.ctl.advance dt).addE 0x500007 fixed).setMc (fun m => { m with fixes := [] })) ∧
  (∀ (dt fixed : Nat) (words : List (Nat×Nat×Nat)) (k : Nat) (s : State), k = (words.filter (fun p => decide (sramRead p.2.2 ≠ .clean) && decide (sramRead p.2.2 ≠ .bad))).length → leaves (.sramScrub dt fixed words) s fun c => c.e 0x500007 = satAdd (entWidth 0x500007) (s.ctl.e 0x500007) (fixed + k))
end

