-- ==== Sys2Proof/Laws/Crypto.lean ====
section
/-! SUPPORT. Lengths of digests. -/
namespace Sys2Proof.Machine

theorem toLE_length (n v : Nat) : (toLE n v).length = n := by
  induction n generalizing v with
  | zero => rfl
  | succ n ih => simp [toLE, ih]

theorem toBE_length (n v : Nat) : (toBE n v).length = n := by simp [toBE, toLE_length]

theorem sha256_length (m : List Byte) : (sha256 m).length = 32 := by
  simp [sha256, Sha.words, toBE_length]

/-- An HMAC has 32 octets. -/
theorem hmac_length (key msg : List Byte) : (hmac key msg).length = 32 := sha256_length _

end Sys2Proof.Machine
end

