-- ==== Sys2Proof/Laws/State.lean ====
section
/-! SUPPORT. What each update of the part leaves in each field: one equation per field and update, so that no later proof unfolds a
record update. -/
namespace Sys2Proof.Machine

@[simp] theorem Ctl.advance_up (c : Ctl) (dt : Nat) : (c.advance dt).up = c.up + dt := rfl
@[simp] theorem Ctl.advance_draws (c : Ctl) (dt : Nat) : (c.advance dt).draws = c.draws := rfl
@[simp] theorem Ctl.advance_ent (c : Ctl) (dt : Nat) : (c.advance dt).ent = c.ent := rfl
@[simp] theorem Ctl.advance_shadow (c : Ctl) (dt : Nat) : (c.advance dt).shadow = c.shadow := rfl
@[simp] theorem Ctl.advance_nv (c : Ctl) (dt : Nat) : (c.advance dt).nv = c.nv := rfl
@[simp] theorem Ctl.advance_regs (c : Ctl) (dt : Nat) : (c.advance dt).regs = c.regs := rfl
@[simp] theorem Ctl.advance_loHeld (c : Ctl) (dt : Nat) : (c.advance dt).loHeld = c.loHeld := rfl
@[simp] theorem Ctl.advance_hiLatch (c : Ctl) (dt : Nat) : (c.advance dt).hiLatch = c.hiLatch := rfl
@[simp] theorem Ctl.advance_irq (c : Ctl) (dt : Nat) : (c.advance dt).irq = c.irq := rfl
@[simp] theorem Ctl.advance_readData (c : Ctl) (dt : Nat) : (c.advance dt).readData = c.readData := rfl
@[simp] theorem Ctl.advance_dy (c : Ctl) (dt : Nat) : (c.advance dt).dy = c.dy := rfl
@[simp] theorem Ctl.advance_hi (c : Ctl) (dt : Nat) : (c.advance dt).hi = c.hi := rfl
@[simp] theorem Ctl.advance_tb (c : Ctl) (dt : Nat) : (c.advance dt).tb = c.tb := rfl
@[simp] theorem Ctl.advance_fm (c : Ctl) (dt : Nat) : (c.advance dt).fm = c.fm := rfl
@[simp] theorem Ctl.advance_bt (c : Ctl) (dt : Nat) : (c.advance dt).bt = c.bt := rfl
@[simp] theorem Ctl.advance_mc (c : Ctl) (dt : Nat) : (c.advance dt).mc = c.mc := rfl
@[simp] theorem Ctl.advance_cx (c : Ctl) (dt : Nat) : (c.advance dt).cx = c.cx := rfl
@[simp] theorem Ctl.advance_pm (c : Ctl) (dt : Nat) : (c.advance dt).pm = c.pm := rfl
@[simp] theorem Ctl.advance_ln (c : Ctl) (dt : Nat) : (c.advance dt).ln = c.ln := rfl
@[simp] theorem Ctl.advance_rg (c : Ctl) (dt : Nat) : (c.advance dt).rg = c.rg := rfl
@[simp] theorem Ctl.advance_xz (c : Ctl) (dt : Nat) : (c.advance dt).xz = c.xz := rfl
@[simp] theorem Ctl.advance_dc (c : Ctl) (dt : Nat) : (c.advance dt).dc = c.dc := rfl
@[simp] theorem Ctl.advance_pl (c : Ctl) (dt : Nat) : (c.advance dt).pl = c.pl := rfl
@[simp] theorem Ctl.advance_es (c : Ctl) (dt : Nat) : (c.advance dt).es = c.es := rfl
@[simp] theorem Ctl.advance_pd (c : Ctl) (dt : Nat) : (c.advance dt).pd = c.pd := rfl
@[simp] theorem Ctl.advance_st (c : Ctl) (dt : Nat) : (c.advance dt).st = c.st := rfl
@[simp] theorem Ctl.advance_en (c : Ctl) (dt : Nat) : (c.advance dt).en = c.en := rfl
@[simp] theorem Ctl.advance_out (c : Ctl) (dt : Nat) : (c.advance dt).out = c.out := rfl

@[simp] theorem Ctl.draw_now (c : Ctl) : c.draw.now = c.now := rfl
@[simp] theorem Ctl.draw_up (c : Ctl) : c.draw.up = c.up := rfl
@[simp] theorem Ctl.draw_clk (c : Ctl) : c.draw.clk = c.clk := rfl
@[simp] theorem Ctl.draw_draws (c : Ctl) : c.draw.draws = c.draws + 1 := rfl
@[simp] theorem Ctl.draw_ent (c : Ctl) : c.draw.ent = c.ent := rfl
@[simp] theorem Ctl.draw_shadow (c : Ctl) : c.draw.shadow = c.shadow := rfl
@[simp] theorem Ctl.draw_nv (c : Ctl) : c.draw.nv = c.nv := rfl
@[simp] theorem Ctl.draw_regs (c : Ctl) : c.draw.regs = c.regs := rfl
@[simp] theorem Ctl.draw_loHeld (c : Ctl) : c.draw.loHeld = c.loHeld := rfl
@[simp] theorem Ctl.draw_hiLatch (c : Ctl) : c.draw.hiLatch = c.hiLatch := rfl
@[simp] theorem Ctl.draw_irq (c : Ctl) : c.draw.irq = c.irq := rfl
@[simp] theorem Ctl.draw_readData (c : Ctl) : c.draw.readData = c.readData := rfl
@[simp] theorem Ctl.draw_dy (c : Ctl) : c.draw.dy = c.dy := rfl
@[simp] theorem Ctl.draw_hi (c : Ctl) : c.draw.hi = c.hi := rfl
@[simp] theorem Ctl.draw_tb (c : Ctl) : c.draw.tb = c.tb := rfl
@[simp] theorem Ctl.draw_fm (c : Ctl) : c.draw.fm = c.fm := rfl
@[simp] theorem Ctl.draw_bt (c : Ctl) : c.draw.bt = c.bt := rfl
@[simp] theorem Ctl.draw_mc (c : Ctl) : c.draw.mc = c.mc := rfl
@[simp] theorem Ctl.draw_cx (c : Ctl) : c.draw.cx = c.cx := rfl
@[simp] theorem Ctl.draw_pm (c : Ctl) : c.draw.pm = c.pm := rfl
@[simp] theorem Ctl.draw_ln (c : Ctl) : c.draw.ln = c.ln := rfl
@[simp] theorem Ctl.draw_rg (c : Ctl) : c.draw.rg = c.rg := rfl
@[simp] theorem Ctl.draw_xz (c : Ctl) : c.draw.xz = c.xz := rfl
@[simp] theorem Ctl.draw_dc (c : Ctl) : c.draw.dc = c.dc := rfl
@[simp] theorem Ctl.draw_pl (c : Ctl) : c.draw.pl = c.pl := rfl
@[simp] theorem Ctl.draw_es (c : Ctl) : c.draw.es = c.es := rfl
@[simp] theorem Ctl.draw_pd (c : Ctl) : c.draw.pd = c.pd := rfl
@[simp] theorem Ctl.draw_st (c : Ctl) : c.draw.st = c.st := rfl
@[simp] theorem Ctl.draw_en (c : Ctl) : c.draw.en = c.en := rfl
@[simp] theorem Ctl.draw_out (c : Ctl) : c.draw.out = c.out := rfl

@[simp] theorem Ctl.emit_now (c : Ctl) (e : Emit) : (c.emit e).now = c.now := rfl
@[simp] theorem Ctl.emit_up (c : Ctl) (e : Emit) : (c.emit e).up = c.up := rfl
@[simp] theorem Ctl.emit_clk (c : Ctl) (e : Emit) : (c.emit e).clk = c.clk := rfl
@[simp] theorem Ctl.emit_draws (c : Ctl) (e : Emit) : (c.emit e).draws = c.draws := rfl
@[simp] theorem Ctl.emit_ent (c : Ctl) (e : Emit) : (c.emit e).ent = c.ent := rfl
@[simp] theorem Ctl.emit_shadow (c : Ctl) (e : Emit) : (c.emit e).shadow = c.shadow := rfl
@[simp] theorem Ctl.emit_nv (c : Ctl) (e : Emit) : (c.emit e).nv = c.nv := rfl
@[simp] theorem Ctl.emit_regs (c : Ctl) (e : Emit) : (c.emit e).regs = c.regs := rfl
@[simp] theorem Ctl.emit_loHeld (c : Ctl) (e : Emit) : (c.emit e).loHeld = c.loHeld := rfl
@[simp] theorem Ctl.emit_hiLatch (c : Ctl) (e : Emit) : (c.emit e).hiLatch = c.hiLatch := rfl
@[simp] theorem Ctl.emit_irq (c : Ctl) (e : Emit) : (c.emit e).irq = c.irq := rfl
@[simp] theorem Ctl.emit_readData (c : Ctl) (e : Emit) : (c.emit e).readData = c.readData := rfl
@[simp] theorem Ctl.emit_dy (c : Ctl) (e : Emit) : (c.emit e).dy = c.dy := rfl
@[simp] theorem Ctl.emit_hi (c : Ctl) (e : Emit) : (c.emit e).hi = c.hi := rfl
@[simp] theorem Ctl.emit_tb (c : Ctl) (e : Emit) : (c.emit e).tb = c.tb := rfl
@[simp] theorem Ctl.emit_fm (c : Ctl) (e : Emit) : (c.emit e).fm = c.fm := rfl
@[simp] theorem Ctl.emit_bt (c : Ctl) (e : Emit) : (c.emit e).bt = c.bt := rfl
@[simp] theorem Ctl.emit_mc (c : Ctl) (e : Emit) : (c.emit e).mc = c.mc := rfl
@[simp] theorem Ctl.emit_cx (c : Ctl) (e : Emit) : (c.emit e).cx = c.cx := rfl
@[simp] theorem Ctl.emit_pm (c : Ctl) (e : Emit) : (c.emit e).pm = c.pm := rfl
@[simp] theorem Ctl.emit_ln (c : Ctl) (e : Emit) : (c.emit e).ln = c.ln := rfl
@[simp] theorem Ctl.emit_rg (c : Ctl) (e : Emit) : (c.emit e).rg = c.rg := rfl
@[simp] theorem Ctl.emit_xz (c : Ctl) (e : Emit) : (c.emit e).xz = c.xz := rfl
@[simp] theorem Ctl.emit_dc (c : Ctl) (e : Emit) : (c.emit e).dc = c.dc := rfl
@[simp] theorem Ctl.emit_pl (c : Ctl) (e : Emit) : (c.emit e).pl = c.pl := rfl
@[simp] theorem Ctl.emit_es (c : Ctl) (e : Emit) : (c.emit e).es = c.es := rfl
@[simp] theorem Ctl.emit_pd (c : Ctl) (e : Emit) : (c.emit e).pd = c.pd := rfl
@[simp] theorem Ctl.emit_st (c : Ctl) (e : Emit) : (c.emit e).st = c.st := rfl
@[simp] theorem Ctl.emit_en (c : Ctl) (e : Emit) : (c.emit e).en = c.en := rfl
@[simp] theorem Ctl.emit_out (c : Ctl) (e : Emit) : (c.emit e).out = c.out ++ [e] := rfl

@[simp] theorem Ctl.setEv_now (c : Ctl) (k : Nat) (v : EVal) : (c.setEv k v).now = c.now := rfl
@[simp] theorem Ctl.setEv_up (c : Ctl) (k : Nat) (v : EVal) : (c.setEv k v).up = c.up := rfl
@[simp] theorem Ctl.setEv_clk (c : Ctl) (k : Nat) (v : EVal) : (c.setEv k v).clk = c.clk := rfl
@[simp] theorem Ctl.setEv_draws (c : Ctl) (k : Nat) (v : EVal) : (c.setEv k v).draws = c.draws := rfl
@[simp] theorem Ctl.setEv_ent (c : Ctl) (k : Nat) (v : EVal) : (c.setEv k v).ent = aSet c.ent k v := rfl
@[simp] theorem Ctl.setEv_shadow (c : Ctl) (k : Nat) (v : EVal) : (c.setEv k v).shadow = c.shadow := rfl
@[simp] theorem Ctl.setEv_nv (c : Ctl) (k : Nat) (v : EVal) : (c.setEv k v).nv = c.nv := rfl
@[simp] theorem Ctl.setEv_regs (c : Ctl) (k : Nat) (v : EVal) : (c.setEv k v).regs = c.regs := rfl
@[simp] theorem Ctl.setEv_loHeld (c : Ctl) (k : Nat) (v : EVal) : (c.setEv k v).loHeld = c.loHeld := rfl
@[simp] theorem Ctl.setEv_hiLatch (c : Ctl) (k : Nat) (v : EVal) : (c.setEv k v).hiLatch = c.hiLatch := rfl
@[simp] theorem Ctl.setEv_irq (c : Ctl) (k : Nat) (v : EVal) : (c.setEv k v).irq = c.irq := rfl
@[simp] theorem Ctl.setEv_readData (c : Ctl) (k : Nat) (v : EVal) : (c.setEv k v).readData = c.readData := rfl
@[simp] theorem Ctl.setEv_dy (c : Ctl) (k : Nat) (v : EVal) : (c.setEv k v).dy = c.dy := rfl
@[simp] theorem Ctl.setEv_hi (c : Ctl) (k : Nat) (v : EVal) : (c.setEv k v).hi = c.hi := rfl
@[simp] theorem Ctl.setEv_tb (c : Ctl) (k : Nat) (v : EVal) : (c.setEv k v).tb = c.tb := rfl
@[simp] theorem Ctl.setEv_fm (c : Ctl) (k : Nat) (v : EVal) : (c.setEv k v).fm = c.fm := rfl
@[simp] theorem Ctl.setEv_bt (c : Ctl) (k : Nat) (v : EVal) : (c.setEv k v).bt = c.bt := rfl
@[simp] theorem Ctl.setEv_mc (c : Ctl) (k : Nat) (v : EVal) : (c.setEv k v).mc = c.mc := rfl
@[simp] theorem Ctl.setEv_cx (c : Ctl) (k : Nat) (v : EVal) : (c.setEv k v).cx = c.cx := rfl
@[simp] theorem Ctl.setEv_pm (c : Ctl) (k : Nat) (v : EVal) : (c.setEv k v).pm = c.pm := rfl
@[simp] theorem Ctl.setEv_ln (c : Ctl) (k : Nat) (v : EVal) : (c.setEv k v).ln = c.ln := rfl
@[simp] theorem Ctl.setEv_rg (c : Ctl) (k : Nat) (v : EVal) : (c.setEv k v).rg = c.rg := rfl
@[simp] theorem Ctl.setEv_xz (c : Ctl) (k : Nat) (v : EVal) : (c.setEv k v).xz = c.xz := rfl
@[simp] theorem Ctl.setEv_dc (c : Ctl) (k : Nat) (v : EVal) : (c.setEv k v).dc = c.dc := rfl
@[simp] theorem Ctl.setEv_pl (c : Ctl) (k : Nat) (v : EVal) : (c.setEv k v).pl = c.pl := rfl
@[simp] theorem Ctl.setEv_es (c : Ctl) (k : Nat) (v : EVal) : (c.setEv k v).es = c.es := rfl
@[simp] theorem Ctl.setEv_pd (c : Ctl) (k : Nat) (v : EVal) : (c.setEv k v).pd = c.pd := rfl
@[simp] theorem Ctl.setEv_st (c : Ctl) (k : Nat) (v : EVal) : (c.setEv k v).st = c.st := rfl
@[simp] theorem Ctl.setEv_en (c : Ctl) (k : Nat) (v : EVal) : (c.setEv k v).en = c.en := rfl
@[simp] theorem Ctl.setEv_out (c : Ctl) (k : Nat) (v : EVal) : (c.setEv k v).out = c.out := rfl

@[simp] theorem Ctl.setE_now (c : Ctl) (k n : Nat) : (c.setE k n).now = c.now := rfl
@[simp] theorem Ctl.setE_up (c : Ctl) (k n : Nat) : (c.setE k n).up = c.up := rfl
@[simp] theorem Ctl.setE_clk (c : Ctl) (k n : Nat) : (c.setE k n).clk = c.clk := rfl
@[simp] theorem Ctl.setE_draws (c : Ctl) (k n : Nat) : (c.setE k n).draws = c.draws := rfl
@[simp] theorem Ctl.setE_ent (c : Ctl) (k n : Nat) : (c.setE k n).ent = aSet c.ent k (.num n) := rfl
@[simp] theorem Ctl.setE_shadow (c : Ctl) (k n : Nat) : (c.setE k n).shadow = c.shadow := rfl
@[simp] theorem Ctl.setE_nv (c : Ctl) (k n : Nat) : (c.setE k n).nv = c.nv := rfl
@[simp] theorem Ctl.setE_regs (c : Ctl) (k n : Nat) : (c.setE k n).regs = c.regs := rfl
@[simp] theorem Ctl.setE_loHeld (c : Ctl) (k n : Nat) : (c.setE k n).loHeld = c.loHeld := rfl
@[simp] theorem Ctl.setE_hiLatch (c : Ctl) (k n : Nat) : (c.setE k n).hiLatch = c.hiLatch := rfl
@[simp] theorem Ctl.setE_irq (c : Ctl) (k n : Nat) : (c.setE k n).irq = c.irq := rfl
@[simp] theorem Ctl.setE_readData (c : Ctl) (k n : Nat) : (c.setE k n).readData = c.readData := rfl
@[simp] theorem Ctl.setE_dy (c : Ctl) (k n : Nat) : (c.setE k n).dy = c.dy := rfl
@[simp] theorem Ctl.setE_hi (c : Ctl) (k n : Nat) : (c.setE k n).hi = c.hi := rfl
@[simp] theorem Ctl.setE_tb (c : Ctl) (k n : Nat) : (c.setE k n).tb = c.tb := rfl
@[simp] theorem Ctl.setE_fm (c : Ctl) (k n : Nat) : (c.setE k n).fm = c.fm := rfl
@[simp] theorem Ctl.setE_bt (c : Ctl) (k n : Nat) : (c.setE k n).bt = c.bt := rfl
@[simp] theorem Ctl.setE_mc (c : Ctl) (k n : Nat) : (c.setE k n).mc = c.mc := rfl
@[simp] theorem Ctl.setE_cx (c : Ctl) (k n : Nat) : (c.setE k n).cx = c.cx := rfl
@[simp] theorem Ctl.setE_pm (c : Ctl) (k n : Nat) : (c.setE k n).pm = c.pm := rfl
@[simp] theorem Ctl.setE_ln (c : Ctl) (k n : Nat) : (c.setE k n).ln = c.ln := rfl
@[simp] theorem Ctl.setE_rg (c : Ctl) (k n : Nat) : (c.setE k n).rg = c.rg := rfl
@[simp] theorem Ctl.setE_xz (c : Ctl) (k n : Nat) : (c.setE k n).xz = c.xz := rfl
@[simp] theorem Ctl.setE_dc (c : Ctl) (k n : Nat) : (c.setE k n).dc = c.dc := rfl
@[simp] theorem Ctl.setE_pl (c : Ctl) (k n : Nat) : (c.setE k n).pl = c.pl := rfl
@[simp] theorem Ctl.setE_es (c : Ctl) (k n : Nat) : (c.setE k n).es = c.es := rfl
@[simp] theorem Ctl.setE_pd (c : Ctl) (k n : Nat) : (c.setE k n).pd = c.pd := rfl
@[simp] theorem Ctl.setE_st (c : Ctl) (k n : Nat) : (c.setE k n).st = c.st := rfl
@[simp] theorem Ctl.setE_en (c : Ctl) (k n : Nat) : (c.setE k n).en = c.en := rfl
@[simp] theorem Ctl.setE_out (c : Ctl) (k n : Nat) : (c.setE k n).out = c.out := rfl

@[simp] theorem Ctl.setEa_now (c : Ctl) (idx i n : Nat) : (c.setEa idx i n).now = c.now := rfl
@[simp] theorem Ctl.setEa_up (c : Ctl) (idx i n : Nat) : (c.setEa idx i n).up = c.up := rfl
@[simp] theorem Ctl.setEa_clk (c : Ctl) (idx i n : Nat) : (c.setEa idx i n).clk = c.clk := rfl
@[simp] theorem Ctl.setEa_draws (c : Ctl) (idx i n : Nat) : (c.setEa idx i n).draws = c.draws := rfl
@[simp] theorem Ctl.setEa_ent (c : Ctl) (idx i n : Nat) : (c.setEa idx i n).ent = aSet c.ent (ekey idx (i + 1)) (.num n) := rfl
@[simp] theorem Ctl.setEa_shadow (c : Ctl) (idx i n : Nat) : (c.setEa idx i n).shadow = c.shadow := rfl
@[simp] theorem Ctl.setEa_nv (c : Ctl) (idx i n : Nat) : (c.setEa idx i n).nv = c.nv := rfl
@[simp] theorem Ctl.setEa_regs (c : Ctl) (idx i n : Nat) : (c.setEa idx i n).regs = c.regs := rfl
@[simp] theorem Ctl.setEa_loHeld (c : Ctl) (idx i n : Nat) : (c.setEa idx i n).loHeld = c.loHeld := rfl
@[simp] theorem Ctl.setEa_hiLatch (c : Ctl) (idx i n : Nat) : (c.setEa idx i n).hiLatch = c.hiLatch := rfl
@[simp] theorem Ctl.setEa_irq (c : Ctl) (idx i n : Nat) : (c.setEa idx i n).irq = c.irq := rfl
@[simp] theorem Ctl.setEa_readData (c : Ctl) (idx i n : Nat) : (c.setEa idx i n).readData = c.readData := rfl
@[simp] theorem Ctl.setEa_dy (c : Ctl) (idx i n : Nat) : (c.setEa idx i n).dy = c.dy := rfl
@[simp] theorem Ctl.setEa_hi (c : Ctl) (idx i n : Nat) : (c.setEa idx i n).hi = c.hi := rfl
@[simp] theorem Ctl.setEa_tb (c : Ctl) (idx i n : Nat) : (c.setEa idx i n).tb = c.tb := rfl
@[simp] theorem Ctl.setEa_fm (c : Ctl) (idx i n : Nat) : (c.setEa idx i n).fm = c.fm := rfl
@[simp] theorem Ctl.setEa_bt (c : Ctl) (idx i n : Nat) : (c.setEa idx i n).bt = c.bt := rfl
@[simp] theorem Ctl.setEa_mc (c : Ctl) (idx i n : Nat) : (c.setEa idx i n).mc = c.mc := rfl
@[simp] theorem Ctl.setEa_cx (c : Ctl) (idx i n : Nat) : (c.setEa idx i n).cx = c.cx := rfl
@[simp] theorem Ctl.setEa_pm (c : Ctl) (idx i n : Nat) : (c.setEa idx i n).pm = c.pm := rfl
@[simp] theorem Ctl.setEa_ln (c : Ctl) (idx i n : Nat) : (c.setEa idx i n).ln = c.ln := rfl
@[simp] theorem Ctl.setEa_rg (c : Ctl) (idx i n : Nat) : (c.setEa idx i n).rg = c.rg := rfl
@[simp] theorem Ctl.setEa_xz (c : Ctl) (idx i n : Nat) : (c.setEa idx i n).xz = c.xz := rfl
@[simp] theorem Ctl.setEa_dc (c : Ctl) (idx i n : Nat) : (c.setEa idx i n).dc = c.dc := rfl
@[simp] theorem Ctl.setEa_pl (c : Ctl) (idx i n : Nat) : (c.setEa idx i n).pl = c.pl := rfl
@[simp] theorem Ctl.setEa_es (c : Ctl) (idx i n : Nat) : (c.setEa idx i n).es = c.es := rfl
@[simp] theorem Ctl.setEa_pd (c : Ctl) (idx i n : Nat) : (c.setEa idx i n).pd = c.pd := rfl
@[simp] theorem Ctl.setEa_st (c : Ctl) (idx i n : Nat) : (c.setEa idx i n).st = c.st := rfl
@[simp] theorem Ctl.setEa_en (c : Ctl) (idx i n : Nat) : (c.setEa idx i n).en = c.en := rfl
@[simp] theorem Ctl.setEa_out (c : Ctl) (idx i n : Nat) : (c.setEa idx i n).out = c.out := rfl

@[simp] theorem Ctl.addE_now (c : Ctl) (k n : Nat) : (c.addE k n).now = c.now := rfl
@[simp] theorem Ctl.addE_up (c : Ctl) (k n : Nat) : (c.addE k n).up = c.up := rfl
@[simp] theorem Ctl.addE_clk (c : Ctl) (k n : Nat) : (c.addE k n).clk = c.clk := rfl
@[simp] theorem Ctl.addE_draws (c : Ctl) (k n : Nat) : (c.addE k n).draws = c.draws := rfl
@[simp] theorem Ctl.addE_shadow (c : Ctl) (k n : Nat) : (c.addE k n).shadow = c.shadow := rfl
@[simp] theorem Ctl.addE_nv (c : Ctl) (k n : Nat) : (c.addE k n).nv = c.nv := rfl
@[simp] theorem Ctl.addE_regs (c : Ctl) (k n : Nat) : (c.addE k n).regs = c.regs := rfl
@[simp] theorem Ctl.addE_loHeld (c : Ctl) (k n : Nat) : (c.addE k n).loHeld = c.loHeld := rfl
@[simp] theorem Ctl.addE_hiLatch (c : Ctl) (k n : Nat) : (c.addE k n).hiLatch = c.hiLatch := rfl
@[simp] theorem Ctl.addE_irq (c : Ctl) (k n : Nat) : (c.addE k n).irq = c.irq := rfl
@[simp] theorem Ctl.addE_readData (c : Ctl) (k n : Nat) : (c.addE k n).readData = c.readData := rfl
@[simp] theorem Ctl.addE_dy (c : Ctl) (k n : Nat) : (c.addE k n).dy = c.dy := rfl
@[simp] theorem Ctl.addE_hi (c : Ctl) (k n : Nat) : (c.addE k n).hi = c.hi := rfl
@[simp] theorem Ctl.addE_tb (c : Ctl) (k n : Nat) : (c.addE k n).tb = c.tb := rfl
@[simp] theorem Ctl.addE_fm (c : Ctl) (k n : Nat) : (c.addE k n).fm = c.fm := rfl
@[simp] theorem Ctl.addE_bt (c : Ctl) (k n : Nat) : (c.addE k n).bt = c.bt := rfl
@[simp] theorem Ctl.addE_mc (c : Ctl) (k n : Nat) : (c.addE k n).mc = c.mc := rfl
@[simp] theorem Ctl.addE_cx (c : Ctl) (k n : Nat) : (c.addE k n).cx = c.cx := rfl
@[simp] theorem Ctl.addE_pm (c : Ctl) (k n : Nat) : (c.addE k n).pm = c.pm := rfl
@[simp] theorem Ctl.addE_ln (c : Ctl) (k n : Nat) : (c.addE k n).ln = c.ln := rfl
@[simp] theorem Ctl.addE_rg (c : Ctl) (k n : Nat) : (c.addE k n).rg = c.rg := rfl
@[simp] theorem Ctl.addE_xz (c : Ctl) (k n : Nat) : (c.addE k n).xz = c.xz := rfl
@[simp] theorem Ctl.addE_dc (c : Ctl) (k n : Nat) : (c.addE k n).dc = c.dc := rfl
@[simp] theorem Ctl.addE_pl (c : Ctl) (k n : Nat) : (c.addE k n).pl = c.pl := rfl
@[simp] theorem Ctl.addE_es (c : Ctl) (k n : Nat) : (c.addE k n).es = c.es := rfl
@[simp] theorem Ctl.addE_pd (c : Ctl) (k n : Nat) : (c.addE k n).pd = c.pd := rfl
@[simp] theorem Ctl.addE_st (c : Ctl) (k n : Nat) : (c.addE k n).st = c.st := rfl
@[simp] theorem Ctl.addE_en (c : Ctl) (k n : Nat) : (c.addE k n).en = c.en := rfl
@[simp] theorem Ctl.addE_out (c : Ctl) (k n : Nat) : (c.addE k n).out = c.out := rfl

@[simp] theorem Ctl.incE_now (c : Ctl) (k : Nat) : (c.incE k).now = c.now := rfl
@[simp] theorem Ctl.incE_up (c : Ctl) (k : Nat) : (c.incE k).up = c.up := rfl
@[simp] theorem Ctl.incE_clk (c : Ctl) (k : Nat) : (c.incE k).clk = c.clk := rfl
@[simp] theorem Ctl.incE_draws (c : Ctl) (k : Nat) : (c.incE k).draws = c.draws := rfl
@[simp] theorem Ctl.incE_shadow (c : Ctl) (k : Nat) : (c.incE k).shadow = c.shadow := rfl
@[simp] theorem Ctl.incE_nv (c : Ctl) (k : Nat) : (c.incE k).nv = c.nv := rfl
@[simp] theorem Ctl.incE_regs (c : Ctl) (k : Nat) : (c.incE k).regs = c.regs := rfl
@[simp] theorem Ctl.incE_loHeld (c : Ctl) (k : Nat) : (c.incE k).loHeld = c.loHeld := rfl
@[simp] theorem Ctl.incE_hiLatch (c : Ctl) (k : Nat) : (c.incE k).hiLatch = c.hiLatch := rfl
@[simp] theorem Ctl.incE_irq (c : Ctl) (k : Nat) : (c.incE k).irq = c.irq := rfl
@[simp] theorem Ctl.incE_readData (c : Ctl) (k : Nat) : (c.incE k).readData = c.readData := rfl
@[simp] theorem Ctl.incE_dy (c : Ctl) (k : Nat) : (c.incE k).dy = c.dy := rfl
@[simp] theorem Ctl.incE_hi (c : Ctl) (k : Nat) : (c.incE k).hi = c.hi := rfl
@[simp] theorem Ctl.incE_tb (c : Ctl) (k : Nat) : (c.incE k).tb = c.tb := rfl
@[simp] theorem Ctl.incE_fm (c : Ctl) (k : Nat) : (c.incE k).fm = c.fm := rfl
@[simp] theorem Ctl.incE_bt (c : Ctl) (k : Nat) : (c.incE k).bt = c.bt := rfl
@[simp] theorem Ctl.incE_mc (c : Ctl) (k : Nat) : (c.incE k).mc = c.mc := rfl
@[simp] theorem Ctl.incE_cx (c : Ctl) (k : Nat) : (c.incE k).cx = c.cx := rfl
@[simp] theorem Ctl.incE_pm (c : Ctl) (k : Nat) : (c.incE k).pm = c.pm := rfl
@[simp] theorem Ctl.incE_ln (c : Ctl) (k : Nat) : (c.incE k).ln = c.ln := rfl
@[simp] theorem Ctl.incE_rg (c : Ctl) (k : Nat) : (c.incE k).rg = c.rg := rfl
@[simp] theorem Ctl.incE_xz (c : Ctl) (k : Nat) : (c.incE k).xz = c.xz := rfl
@[simp] theorem Ctl.incE_dc (c : Ctl) (k : Nat) : (c.incE k).dc = c.dc := rfl
@[simp] theorem Ctl.incE_pl (c : Ctl) (k : Nat) : (c.incE k).pl = c.pl := rfl
@[simp] theorem Ctl.incE_es (c : Ctl) (k : Nat) : (c.incE k).es = c.es := rfl
@[simp] theorem Ctl.incE_pd (c : Ctl) (k : Nat) : (c.incE k).pd = c.pd := rfl
@[simp] theorem Ctl.incE_st (c : Ctl) (k : Nat) : (c.incE k).st = c.st := rfl
@[simp] theorem Ctl.incE_en (c : Ctl) (k : Nat) : (c.incE k).en = c.en := rfl
@[simp] theorem Ctl.incE_out (c : Ctl) (k : Nat) : (c.incE k).out = c.out := rfl

@[simp] theorem Ctl.incEa_now (c : Ctl) (idx i : Nat) : (c.incEa idx i).now = c.now := rfl
@[simp] theorem Ctl.incEa_up (c : Ctl) (idx i : Nat) : (c.incEa idx i).up = c.up := rfl
@[simp] theorem Ctl.incEa_clk (c : Ctl) (idx i : Nat) : (c.incEa idx i).clk = c.clk := rfl
@[simp] theorem Ctl.incEa_draws (c : Ctl) (idx i : Nat) : (c.incEa idx i).draws = c.draws := rfl
@[simp] theorem Ctl.incEa_shadow (c : Ctl) (idx i : Nat) : (c.incEa idx i).shadow = c.shadow := rfl
@[simp] theorem Ctl.incEa_nv (c : Ctl) (idx i : Nat) : (c.incEa idx i).nv = c.nv := rfl
@[simp] theorem Ctl.incEa_regs (c : Ctl) (idx i : Nat) : (c.incEa idx i).regs = c.regs := rfl
@[simp] theorem Ctl.incEa_loHeld (c : Ctl) (idx i : Nat) : (c.incEa idx i).loHeld = c.loHeld := rfl
@[simp] theorem Ctl.incEa_hiLatch (c : Ctl) (idx i : Nat) : (c.incEa idx i).hiLatch = c.hiLatch := rfl
@[simp] theorem Ctl.incEa_irq (c : Ctl) (idx i : Nat) : (c.incEa idx i).irq = c.irq := rfl
@[simp] theorem Ctl.incEa_readData (c : Ctl) (idx i : Nat) : (c.incEa idx i).readData = c.readData := rfl
@[simp] theorem Ctl.incEa_dy (c : Ctl) (idx i : Nat) : (c.incEa idx i).dy = c.dy := rfl
@[simp] theorem Ctl.incEa_hi (c : Ctl) (idx i : Nat) : (c.incEa idx i).hi = c.hi := rfl
@[simp] theorem Ctl.incEa_tb (c : Ctl) (idx i : Nat) : (c.incEa idx i).tb = c.tb := rfl
@[simp] theorem Ctl.incEa_fm (c : Ctl) (idx i : Nat) : (c.incEa idx i).fm = c.fm := rfl
@[simp] theorem Ctl.incEa_bt (c : Ctl) (idx i : Nat) : (c.incEa idx i).bt = c.bt := rfl
@[simp] theorem Ctl.incEa_mc (c : Ctl) (idx i : Nat) : (c.incEa idx i).mc = c.mc := rfl
@[simp] theorem Ctl.incEa_cx (c : Ctl) (idx i : Nat) : (c.incEa idx i).cx = c.cx := rfl
@[simp] theorem Ctl.incEa_pm (c : Ctl) (idx i : Nat) : (c.incEa idx i).pm = c.pm := rfl
@[simp] theorem Ctl.incEa_ln (c : Ctl) (idx i : Nat) : (c.incEa idx i).ln = c.ln := rfl
@[simp] theorem Ctl.incEa_rg (c : Ctl) (idx i : Nat) : (c.incEa idx i).rg = c.rg := rfl
@[simp] theorem Ctl.incEa_xz (c : Ctl) (idx i : Nat) : (c.incEa idx i).xz = c.xz := rfl
@[simp] theorem Ctl.incEa_dc (c : Ctl) (idx i : Nat) : (c.incEa idx i).dc = c.dc := rfl
@[simp] theorem Ctl.incEa_pl (c : Ctl) (idx i : Nat) : (c.incEa idx i).pl = c.pl := rfl
@[simp] theorem Ctl.incEa_es (c : Ctl) (idx i : Nat) : (c.incEa idx i).es = c.es := rfl
@[simp] theorem Ctl.incEa_pd (c : Ctl) (idx i : Nat) : (c.incEa idx i).pd = c.pd := rfl
@[simp] theorem Ctl.incEa_st (c : Ctl) (idx i : Nat) : (c.incEa idx i).st = c.st := rfl
@[simp] theorem Ctl.incEa_en (c : Ctl) (idx i : Nat) : (c.incEa idx i).en = c.en := rfl
@[simp] theorem Ctl.incEa_out (c : Ctl) (idx i : Nat) : (c.incEa idx i).out = c.out := rfl

@[simp] theorem Ctl.setReg_now (c : Ctl) (r : RegName) (inst lo v : Nat) : (c.setReg r inst lo v).now = c.now := rfl
@[simp] theorem Ctl.setReg_up (c : Ctl) (r : RegName) (inst lo v : Nat) : (c.setReg r inst lo v).up = c.up := rfl
@[simp] theorem Ctl.setReg_clk (c : Ctl) (r : RegName) (inst lo v : Nat) : (c.setReg r inst lo v).clk = c.clk := rfl
@[simp] theorem Ctl.setReg_draws (c : Ctl) (r : RegName) (inst lo v : Nat) : (c.setReg r inst lo v).draws = c.draws := rfl
@[simp] theorem Ctl.setReg_ent (c : Ctl) (r : RegName) (inst lo v : Nat) : (c.setReg r inst lo v).ent = c.ent := rfl
@[simp] theorem Ctl.setReg_shadow (c : Ctl) (r : RegName) (inst lo v : Nat) : (c.setReg r inst lo v).shadow = c.shadow := rfl
@[simp] theorem Ctl.setReg_nv (c : Ctl) (r : RegName) (inst lo v : Nat) : (c.setReg r inst lo v).nv = c.nv := rfl
@[simp] theorem Ctl.setReg_regs (c : Ctl) (r : RegName) (inst lo v : Nat) : (c.setReg r inst lo v).regs = regSet c.regs (r, inst, lo) v := rfl
@[simp] theorem Ctl.setReg_loHeld (c : Ctl) (r : RegName) (inst lo v : Nat) : (c.setReg r inst lo v).loHeld = c.loHeld := rfl
@[simp] theorem Ctl.setReg_hiLatch (c : Ctl) (r : RegName) (inst lo v : Nat) : (c.setReg r inst lo v).hiLatch = c.hiLatch := rfl
@[simp] theorem Ctl.setReg_irq (c : Ctl) (r : RegName) (inst lo v : Nat) : (c.setReg r inst lo v).irq = c.irq := rfl
@[simp] theorem Ctl.setReg_readData (c : Ctl) (r : RegName) (inst lo v : Nat) : (c.setReg r inst lo v).readData = c.readData := rfl
@[simp] theorem Ctl.setReg_dy (c : Ctl) (r : RegName) (inst lo v : Nat) : (c.setReg r inst lo v).dy = c.dy := rfl
@[simp] theorem Ctl.setReg_hi (c : Ctl) (r : RegName) (inst lo v : Nat) : (c.setReg r inst lo v).hi = c.hi := rfl
@[simp] theorem Ctl.setReg_tb (c : Ctl) (r : RegName) (inst lo v : Nat) : (c.setReg r inst lo v).tb = c.tb := rfl
@[simp] theorem Ctl.setReg_fm (c : Ctl) (r : RegName) (inst lo v : Nat) : (c.setReg r inst lo v).fm = c.fm := rfl
@[simp] theorem Ctl.setReg_bt (c : Ctl) (r : RegName) (inst lo v : Nat) : (c.setReg r inst lo v).bt = c.bt := rfl
@[simp] theorem Ctl.setReg_mc (c : Ctl) (r : RegName) (inst lo v : Nat) : (c.setReg r inst lo v).mc = c.mc := rfl
@[simp] theorem Ctl.setReg_cx (c : Ctl) (r : RegName) (inst lo v : Nat) : (c.setReg r inst lo v).cx = c.cx := rfl
@[simp] theorem Ctl.setReg_pm (c : Ctl) (r : RegName) (inst lo v : Nat) : (c.setReg r inst lo v).pm = c.pm := rfl
@[simp] theorem Ctl.setReg_ln (c : Ctl) (r : RegName) (inst lo v : Nat) : (c.setReg r inst lo v).ln = c.ln := rfl
@[simp] theorem Ctl.setReg_rg (c : Ctl) (r : RegName) (inst lo v : Nat) : (c.setReg r inst lo v).rg = c.rg := rfl
@[simp] theorem Ctl.setReg_xz (c : Ctl) (r : RegName) (inst lo v : Nat) : (c.setReg r inst lo v).xz = c.xz := rfl
@[simp] theorem Ctl.setReg_dc (c : Ctl) (r : RegName) (inst lo v : Nat) : (c.setReg r inst lo v).dc = c.dc := rfl
@[simp] theorem Ctl.setReg_pl (c : Ctl) (r : RegName) (inst lo v : Nat) : (c.setReg r inst lo v).pl = c.pl := rfl
@[simp] theorem Ctl.setReg_es (c : Ctl) (r : RegName) (inst lo v : Nat) : (c.setReg r inst lo v).es = c.es := rfl
@[simp] theorem Ctl.setReg_pd (c : Ctl) (r : RegName) (inst lo v : Nat) : (c.setReg r inst lo v).pd = c.pd := rfl
@[simp] theorem Ctl.setReg_st (c : Ctl) (r : RegName) (inst lo v : Nat) : (c.setReg r inst lo v).st = c.st := rfl
@[simp] theorem Ctl.setReg_en (c : Ctl) (r : RegName) (inst lo v : Nat) : (c.setReg r inst lo v).en = c.en := rfl
@[simp] theorem Ctl.setReg_out (c : Ctl) (r : RegName) (inst lo v : Nat) : (c.setReg r inst lo v).out = c.out := rfl

@[simp] theorem Ctl.addReg_now (c : Ctl) (r : RegName) (inst lo w n : Nat) : (c.addReg r inst lo w n).now = c.now := rfl
@[simp] theorem Ctl.addReg_up (c : Ctl) (r : RegName) (inst lo w n : Nat) : (c.addReg r inst lo w n).up = c.up := rfl
@[simp] theorem Ctl.addReg_clk (c : Ctl) (r : RegName) (inst lo w n : Nat) : (c.addReg r inst lo w n).clk = c.clk := rfl
@[simp] theorem Ctl.addReg_draws (c : Ctl) (r : RegName) (inst lo w n : Nat) : (c.addReg r inst lo w n).draws = c.draws := rfl
@[simp] theorem Ctl.addReg_ent (c : Ctl) (r : RegName) (inst lo w n : Nat) : (c.addReg r inst lo w n).ent = c.ent := rfl
@[simp] theorem Ctl.addReg_shadow (c : Ctl) (r : RegName) (inst lo w n : Nat) : (c.addReg r inst lo w n).shadow = c.shadow := rfl
@[simp] theorem Ctl.addReg_nv (c : Ctl) (r : RegName) (inst lo w n : Nat) : (c.addReg r inst lo w n).nv = c.nv := rfl
@[simp] theorem Ctl.addReg_loHeld (c : Ctl) (r : RegName) (inst lo w n : Nat) : (c.addReg r inst lo w n).loHeld = c.loHeld := rfl
@[simp] theorem Ctl.addReg_hiLatch (c : Ctl) (r : RegName) (inst lo w n : Nat) : (c.addReg r inst lo w n).hiLatch = c.hiLatch := rfl
@[simp] theorem Ctl.addReg_irq (c : Ctl) (r : RegName) (inst lo w n : Nat) : (c.addReg r inst lo w n).irq = c.irq := rfl
@[simp] theorem Ctl.addReg_readData (c : Ctl) (r : RegName) (inst lo w n : Nat) : (c.addReg r inst lo w n).readData = c.readData := rfl
@[simp] theorem Ctl.addReg_dy (c : Ctl) (r : RegName) (inst lo w n : Nat) : (c.addReg r inst lo w n).dy = c.dy := rfl
@[simp] theorem Ctl.addReg_hi (c : Ctl) (r : RegName) (inst lo w n : Nat) : (c.addReg r inst lo w n).hi = c.hi := rfl
@[simp] theorem Ctl.addReg_tb (c : Ctl) (r : RegName) (inst lo w n : Nat) : (c.addReg r inst lo w n).tb = c.tb := rfl
@[simp] theorem Ctl.addReg_fm (c : Ctl) (r : RegName) (inst lo w n : Nat) : (c.addReg r inst lo w n).fm = c.fm := rfl
@[simp] theorem Ctl.addReg_bt (c : Ctl) (r : RegName) (inst lo w n : Nat) : (c.addReg r inst lo w n).bt = c.bt := rfl
@[simp] theorem Ctl.addReg_mc (c : Ctl) (r : RegName) (inst lo w n : Nat) : (c.addReg r inst lo w n).mc = c.mc := rfl
@[simp] theorem Ctl.addReg_cx (c : Ctl) (r : RegName) (inst lo w n : Nat) : (c.addReg r inst lo w n).cx = c.cx := rfl
@[simp] theorem Ctl.addReg_pm (c : Ctl) (r : RegName) (inst lo w n : Nat) : (c.addReg r inst lo w n).pm = c.pm := rfl
@[simp] theorem Ctl.addReg_ln (c : Ctl) (r : RegName) (inst lo w n : Nat) : (c.addReg r inst lo w n).ln = c.ln := rfl
@[simp] theorem Ctl.addReg_rg (c : Ctl) (r : RegName) (inst lo w n : Nat) : (c.addReg r inst lo w n).rg = c.rg := rfl
@[simp] theorem Ctl.addReg_xz (c : Ctl) (r : RegName) (inst lo w n : Nat) : (c.addReg r inst lo w n).xz = c.xz := rfl
@[simp] theorem Ctl.addReg_dc (c : Ctl) (r : RegName) (inst lo w n : Nat) : (c.addReg r inst lo w n).dc = c.dc := rfl
@[simp] theorem Ctl.addReg_pl (c : Ctl) (r : RegName) (inst lo w n : Nat) : (c.addReg r inst lo w n).pl = c.pl := rfl
@[simp] theorem Ctl.addReg_es (c : Ctl) (r : RegName) (inst lo w n : Nat) : (c.addReg r inst lo w n).es = c.es := rfl
@[simp] theorem Ctl.addReg_pd (c : Ctl) (r : RegName) (inst lo w n : Nat) : (c.addReg r inst lo w n).pd = c.pd := rfl
@[simp] theorem Ctl.addReg_st (c : Ctl) (r : RegName) (inst lo w n : Nat) : (c.addReg r inst lo w n).st = c.st := rfl
@[simp] theorem Ctl.addReg_en (c : Ctl) (r : RegName) (inst lo w n : Nat) : (c.addReg r inst lo w n).en = c.en := rfl
@[simp] theorem Ctl.addReg_out (c : Ctl) (r : RegName) (inst lo w n : Nat) : (c.addReg r inst lo w n).out = c.out := rfl

@[simp] theorem Ctl.setDy_now (c : Ctl) (f : DyState → DyState) : (c.setDy f).now = c.now := rfl
@[simp] theorem Ctl.setDy_up (c : Ctl) (f : DyState → DyState) : (c.setDy f).up = c.up := rfl
@[simp] theorem Ctl.setDy_clk (c : Ctl) (f : DyState → DyState) : (c.setDy f).clk = c.clk := rfl
@[simp] theorem Ctl.setDy_draws (c : Ctl) (f : DyState → DyState) : (c.setDy f).draws = c.draws := rfl
@[simp] theorem Ctl.setDy_ent (c : Ctl) (f : DyState → DyState) : (c.setDy f).ent = c.ent := rfl
@[simp] theorem Ctl.setDy_shadow (c : Ctl) (f : DyState → DyState) : (c.setDy f).shadow = c.shadow := rfl
@[simp] theorem Ctl.setDy_nv (c : Ctl) (f : DyState → DyState) : (c.setDy f).nv = c.nv := rfl
@[simp] theorem Ctl.setDy_regs (c : Ctl) (f : DyState → DyState) : (c.setDy f).regs = c.regs := rfl
@[simp] theorem Ctl.setDy_loHeld (c : Ctl) (f : DyState → DyState) : (c.setDy f).loHeld = c.loHeld := rfl
@[simp] theorem Ctl.setDy_hiLatch (c : Ctl) (f : DyState → DyState) : (c.setDy f).hiLatch = c.hiLatch := rfl
@[simp] theorem Ctl.setDy_irq (c : Ctl) (f : DyState → DyState) : (c.setDy f).irq = c.irq := rfl
@[simp] theorem Ctl.setDy_readData (c : Ctl) (f : DyState → DyState) : (c.setDy f).readData = c.readData := rfl
@[simp] theorem Ctl.setDy_dy (c : Ctl) (f : DyState → DyState) : (c.setDy f).dy = f c.dy := rfl
@[simp] theorem Ctl.setDy_hi (c : Ctl) (f : DyState → DyState) : (c.setDy f).hi = c.hi := rfl
@[simp] theorem Ctl.setDy_tb (c : Ctl) (f : DyState → DyState) : (c.setDy f).tb = c.tb := rfl
@[simp] theorem Ctl.setDy_fm (c : Ctl) (f : DyState → DyState) : (c.setDy f).fm = c.fm := rfl
@[simp] theorem Ctl.setDy_bt (c : Ctl) (f : DyState → DyState) : (c.setDy f).bt = c.bt := rfl
@[simp] theorem Ctl.setDy_mc (c : Ctl) (f : DyState → DyState) : (c.setDy f).mc = c.mc := rfl
@[simp] theorem Ctl.setDy_cx (c : Ctl) (f : DyState → DyState) : (c.setDy f).cx = c.cx := rfl
@[simp] theorem Ctl.setDy_pm (c : Ctl) (f : DyState → DyState) : (c.setDy f).pm = c.pm := rfl
@[simp] theorem Ctl.setDy_ln (c : Ctl) (f : DyState → DyState) : (c.setDy f).ln = c.ln := rfl
@[simp] theorem Ctl.setDy_rg (c : Ctl) (f : DyState → DyState) : (c.setDy f).rg = c.rg := rfl
@[simp] theorem Ctl.setDy_xz (c : Ctl) (f : DyState → DyState) : (c.setDy f).xz = c.xz := rfl
@[simp] theorem Ctl.setDy_dc (c : Ctl) (f : DyState → DyState) : (c.setDy f).dc = c.dc := rfl
@[simp] theorem Ctl.setDy_pl (c : Ctl) (f : DyState → DyState) : (c.setDy f).pl = c.pl := rfl
@[simp] theorem Ctl.setDy_es (c : Ctl) (f : DyState → DyState) : (c.setDy f).es = c.es := rfl
@[simp] theorem Ctl.setDy_pd (c : Ctl) (f : DyState → DyState) : (c.setDy f).pd = c.pd := rfl
@[simp] theorem Ctl.setDy_st (c : Ctl) (f : DyState → DyState) : (c.setDy f).st = c.st := rfl
@[simp] theorem Ctl.setDy_en (c : Ctl) (f : DyState → DyState) : (c.setDy f).en = c.en := rfl
@[simp] theorem Ctl.setDy_out (c : Ctl) (f : DyState → DyState) : (c.setDy f).out = c.out := rfl

@[simp] theorem Ctl.setHi_now (c : Ctl) (f : HiState → HiState) : (c.setHi f).now = c.now := rfl
@[simp] theorem Ctl.setHi_up (c : Ctl) (f : HiState → HiState) : (c.setHi f).up = c.up := rfl
@[simp] theorem Ctl.setHi_clk (c : Ctl) (f : HiState → HiState) : (c.setHi f).clk = c.clk := rfl
@[simp] theorem Ctl.setHi_draws (c : Ctl) (f : HiState → HiState) : (c.setHi f).draws = c.draws := rfl
@[simp] theorem Ctl.setHi_ent (c : Ctl) (f : HiState → HiState) : (c.setHi f).ent = c.ent := rfl
@[simp] theorem Ctl.setHi_shadow (c : Ctl) (f : HiState → HiState) : (c.setHi f).shadow = c.shadow := rfl
@[simp] theorem Ctl.setHi_nv (c : Ctl) (f : HiState → HiState) : (c.setHi f).nv = c.nv := rfl
@[simp] theorem Ctl.setHi_regs (c : Ctl) (f : HiState → HiState) : (c.setHi f).regs = c.regs := rfl
@[simp] theorem Ctl.setHi_loHeld (c : Ctl) (f : HiState → HiState) : (c.setHi f).loHeld = c.loHeld := rfl
@[simp] theorem Ctl.setHi_hiLatch (c : Ctl) (f : HiState → HiState) : (c.setHi f).hiLatch = c.hiLatch := rfl
@[simp] theorem Ctl.setHi_irq (c : Ctl) (f : HiState → HiState) : (c.setHi f).irq = c.irq := rfl
@[simp] theorem Ctl.setHi_readData (c : Ctl) (f : HiState → HiState) : (c.setHi f).readData = c.readData := rfl
@[simp] theorem Ctl.setHi_dy (c : Ctl) (f : HiState → HiState) : (c.setHi f).dy = c.dy := rfl
@[simp] theorem Ctl.setHi_hi (c : Ctl) (f : HiState → HiState) : (c.setHi f).hi = f c.hi := rfl
@[simp] theorem Ctl.setHi_tb (c : Ctl) (f : HiState → HiState) : (c.setHi f).tb = c.tb := rfl
@[simp] theorem Ctl.setHi_fm (c : Ctl) (f : HiState → HiState) : (c.setHi f).fm = c.fm := rfl
@[simp] theorem Ctl.setHi_bt (c : Ctl) (f : HiState → HiState) : (c.setHi f).bt = c.bt := rfl
@[simp] theorem Ctl.setHi_mc (c : Ctl) (f : HiState → HiState) : (c.setHi f).mc = c.mc := rfl
@[simp] theorem Ctl.setHi_cx (c : Ctl) (f : HiState → HiState) : (c.setHi f).cx = c.cx := rfl
@[simp] theorem Ctl.setHi_pm (c : Ctl) (f : HiState → HiState) : (c.setHi f).pm = c.pm := rfl
@[simp] theorem Ctl.setHi_ln (c : Ctl) (f : HiState → HiState) : (c.setHi f).ln = c.ln := rfl
@[simp] theorem Ctl.setHi_rg (c : Ctl) (f : HiState → HiState) : (c.setHi f).rg = c.rg := rfl
@[simp] theorem Ctl.setHi_xz (c : Ctl) (f : HiState → HiState) : (c.setHi f).xz = c.xz := rfl
@[simp] theorem Ctl.setHi_dc (c : Ctl) (f : HiState → HiState) : (c.setHi f).dc = c.dc := rfl
@[simp] theorem Ctl.setHi_pl (c : Ctl) (f : HiState → HiState) : (c.setHi f).pl = c.pl := rfl
@[simp] theorem Ctl.setHi_es (c : Ctl) (f : HiState → HiState) : (c.setHi f).es = c.es := rfl
@[simp] theorem Ctl.setHi_pd (c : Ctl) (f : HiState → HiState) : (c.setHi f).pd = c.pd := rfl
@[simp] theorem Ctl.setHi_st (c : Ctl) (f : HiState → HiState) : (c.setHi f).st = c.st := rfl
@[simp] theorem Ctl.setHi_en (c : Ctl) (f : HiState → HiState) : (c.setHi f).en = c.en := rfl
@[simp] theorem Ctl.setHi_out (c : Ctl) (f : HiState → HiState) : (c.setHi f).out = c.out := rfl

@[simp] theorem Ctl.setTb_now (c : Ctl) (f : TbState → TbState) : (c.setTb f).now = c.now := rfl
@[simp] theorem Ctl.setTb_up (c : Ctl) (f : TbState → TbState) : (c.setTb f).up = c.up := rfl
@[simp] theorem Ctl.setTb_clk (c : Ctl) (f : TbState → TbState) : (c.setTb f).clk = c.clk := rfl
@[simp] theorem Ctl.setTb_draws (c : Ctl) (f : TbState → TbState) : (c.setTb f).draws = c.draws := rfl
@[simp] theorem Ctl.setTb_ent (c : Ctl) (f : TbState → TbState) : (c.setTb f).ent = c.ent := rfl
@[simp] theorem Ctl.setTb_shadow (c : Ctl) (f : TbState → TbState) : (c.setTb f).shadow = c.shadow := rfl
@[simp] theorem Ctl.setTb_nv (c : Ctl) (f : TbState → TbState) : (c.setTb f).nv = c.nv := rfl
@[simp] theorem Ctl.setTb_regs (c : Ctl) (f : TbState → TbState) : (c.setTb f).regs = c.regs := rfl
@[simp] theorem Ctl.setTb_loHeld (c : Ctl) (f : TbState → TbState) : (c.setTb f).loHeld = c.loHeld := rfl
@[simp] theorem Ctl.setTb_hiLatch (c : Ctl) (f : TbState → TbState) : (c.setTb f).hiLatch = c.hiLatch := rfl
@[simp] theorem Ctl.setTb_irq (c : Ctl) (f : TbState → TbState) : (c.setTb f).irq = c.irq := rfl
@[simp] theorem Ctl.setTb_readData (c : Ctl) (f : TbState → TbState) : (c.setTb f).readData = c.readData := rfl
@[simp] theorem Ctl.setTb_dy (c : Ctl) (f : TbState → TbState) : (c.setTb f).dy = c.dy := rfl
@[simp] theorem Ctl.setTb_hi (c : Ctl) (f : TbState → TbState) : (c.setTb f).hi = c.hi := rfl
@[simp] theorem Ctl.setTb_tb (c : Ctl) (f : TbState → TbState) : (c.setTb f).tb = f c.tb := rfl
@[simp] theorem Ctl.setTb_fm (c : Ctl) (f : TbState → TbState) : (c.setTb f).fm = c.fm := rfl
@[simp] theorem Ctl.setTb_bt (c : Ctl) (f : TbState → TbState) : (c.setTb f).bt = c.bt := rfl
@[simp] theorem Ctl.setTb_mc (c : Ctl) (f : TbState → TbState) : (c.setTb f).mc = c.mc := rfl
@[simp] theorem Ctl.setTb_cx (c : Ctl) (f : TbState → TbState) : (c.setTb f).cx = c.cx := rfl
@[simp] theorem Ctl.setTb_pm (c : Ctl) (f : TbState → TbState) : (c.setTb f).pm = c.pm := rfl
@[simp] theorem Ctl.setTb_ln (c : Ctl) (f : TbState → TbState) : (c.setTb f).ln = c.ln := rfl
@[simp] theorem Ctl.setTb_rg (c : Ctl) (f : TbState → TbState) : (c.setTb f).rg = c.rg := rfl
@[simp] theorem Ctl.setTb_xz (c : Ctl) (f : TbState → TbState) : (c.setTb f).xz = c.xz := rfl
@[simp] theorem Ctl.setTb_dc (c : Ctl) (f : TbState → TbState) : (c.setTb f).dc = c.dc := rfl
@[simp] theorem Ctl.setTb_pl (c : Ctl) (f : TbState → TbState) : (c.setTb f).pl = c.pl := rfl
@[simp] theorem Ctl.setTb_es (c : Ctl) (f : TbState → TbState) : (c.setTb f).es = c.es := rfl
@[simp] theorem Ctl.setTb_pd (c : Ctl) (f : TbState → TbState) : (c.setTb f).pd = c.pd := rfl
@[simp] theorem Ctl.setTb_st (c : Ctl) (f : TbState → TbState) : (c.setTb f).st = c.st := rfl
@[simp] theorem Ctl.setTb_en (c : Ctl) (f : TbState → TbState) : (c.setTb f).en = c.en := rfl
@[simp] theorem Ctl.setTb_out (c : Ctl) (f : TbState → TbState) : (c.setTb f).out = c.out := rfl

@[simp] theorem Ctl.setFm_now (c : Ctl) (f : FmState → FmState) : (c.setFm f).now = c.now := rfl
@[simp] theorem Ctl.setFm_up (c : Ctl) (f : FmState → FmState) : (c.setFm f).up = c.up := rfl
@[simp] theorem Ctl.setFm_clk (c : Ctl) (f : FmState → FmState) : (c.setFm f).clk = c.clk := rfl
@[simp] theorem Ctl.setFm_draws (c : Ctl) (f : FmState → FmState) : (c.setFm f).draws = c.draws := rfl
@[simp] theorem Ctl.setFm_ent (c : Ctl) (f : FmState → FmState) : (c.setFm f).ent = c.ent := rfl
@[simp] theorem Ctl.setFm_shadow (c : Ctl) (f : FmState → FmState) : (c.setFm f).shadow = c.shadow := rfl
@[simp] theorem Ctl.setFm_nv (c : Ctl) (f : FmState → FmState) : (c.setFm f).nv = c.nv := rfl
@[simp] theorem Ctl.setFm_regs (c : Ctl) (f : FmState → FmState) : (c.setFm f).regs = c.regs := rfl
@[simp] theorem Ctl.setFm_loHeld (c : Ctl) (f : FmState → FmState) : (c.setFm f).loHeld = c.loHeld := rfl
@[simp] theorem Ctl.setFm_hiLatch (c : Ctl) (f : FmState → FmState) : (c.setFm f).hiLatch = c.hiLatch := rfl
@[simp] theorem Ctl.setFm_irq (c : Ctl) (f : FmState → FmState) : (c.setFm f).irq = c.irq := rfl
@[simp] theorem Ctl.setFm_readData (c : Ctl) (f : FmState → FmState) : (c.setFm f).readData = c.readData := rfl
@[simp] theorem Ctl.setFm_dy (c : Ctl) (f : FmState → FmState) : (c.setFm f).dy = c.dy := rfl
@[simp] theorem Ctl.setFm_hi (c : Ctl) (f : FmState → FmState) : (c.setFm f).hi = c.hi := rfl
@[simp] theorem Ctl.setFm_tb (c : Ctl) (f : FmState → FmState) : (c.setFm f).tb = c.tb := rfl
@[simp] theorem Ctl.setFm_fm (c : Ctl) (f : FmState → FmState) : (c.setFm f).fm = f c.fm := rfl
@[simp] theorem Ctl.setFm_bt (c : Ctl) (f : FmState → FmState) : (c.setFm f).bt = c.bt := rfl
@[simp] theorem Ctl.setFm_mc (c : Ctl) (f : FmState → FmState) : (c.setFm f).mc = c.mc := rfl
@[simp] theorem Ctl.setFm_cx (c : Ctl) (f : FmState → FmState) : (c.setFm f).cx = c.cx := rfl
@[simp] theorem Ctl.setFm_pm (c : Ctl) (f : FmState → FmState) : (c.setFm f).pm = c.pm := rfl
@[simp] theorem Ctl.setFm_ln (c : Ctl) (f : FmState → FmState) : (c.setFm f).ln = c.ln := rfl
@[simp] theorem Ctl.setFm_rg (c : Ctl) (f : FmState → FmState) : (c.setFm f).rg = c.rg := rfl
@[simp] theorem Ctl.setFm_xz (c : Ctl) (f : FmState → FmState) : (c.setFm f).xz = c.xz := rfl
@[simp] theorem Ctl.setFm_dc (c : Ctl) (f : FmState → FmState) : (c.setFm f).dc = c.dc := rfl
@[simp] theorem Ctl.setFm_pl (c : Ctl) (f : FmState → FmState) : (c.setFm f).pl = c.pl := rfl
@[simp] theorem Ctl.setFm_es (c : Ctl) (f : FmState → FmState) : (c.setFm f).es = c.es := rfl
@[simp] theorem Ctl.setFm_pd (c : Ctl) (f : FmState → FmState) : (c.setFm f).pd = c.pd := rfl
@[simp] theorem Ctl.setFm_st (c : Ctl) (f : FmState → FmState) : (c.setFm f).st = c.st := rfl
@[simp] theorem Ctl.setFm_en (c : Ctl) (f : FmState → FmState) : (c.setFm f).en = c.en := rfl
@[simp] theorem Ctl.setFm_out (c : Ctl) (f : FmState → FmState) : (c.setFm f).out = c.out := rfl

@[simp] theorem Ctl.setBt_now (c : Ctl) (f : BtState → BtState) : (c.setBt f).now = c.now := rfl
@[simp] theorem Ctl.setBt_up (c : Ctl) (f : BtState → BtState) : (c.setBt f).up = c.up := rfl
@[simp] theorem Ctl.setBt_clk (c : Ctl) (f : BtState → BtState) : (c.setBt f).clk = c.clk := rfl
@[simp] theorem Ctl.setBt_draws (c : Ctl) (f : BtState → BtState) : (c.setBt f).draws = c.draws := rfl
@[simp] theorem Ctl.setBt_ent (c : Ctl) (f : BtState → BtState) : (c.setBt f).ent = c.ent := rfl
@[simp] theorem Ctl.setBt_shadow (c : Ctl) (f : BtState → BtState) : (c.setBt f).shadow = c.shadow := rfl
@[simp] theorem Ctl.setBt_nv (c : Ctl) (f : BtState → BtState) : (c.setBt f).nv = c.nv := rfl
@[simp] theorem Ctl.setBt_regs (c : Ctl) (f : BtState → BtState) : (c.setBt f).regs = c.regs := rfl
@[simp] theorem Ctl.setBt_loHeld (c : Ctl) (f : BtState → BtState) : (c.setBt f).loHeld = c.loHeld := rfl
@[simp] theorem Ctl.setBt_hiLatch (c : Ctl) (f : BtState → BtState) : (c.setBt f).hiLatch = c.hiLatch := rfl
@[simp] theorem Ctl.setBt_irq (c : Ctl) (f : BtState → BtState) : (c.setBt f).irq = c.irq := rfl
@[simp] theorem Ctl.setBt_readData (c : Ctl) (f : BtState → BtState) : (c.setBt f).readData = c.readData := rfl
@[simp] theorem Ctl.setBt_dy (c : Ctl) (f : BtState → BtState) : (c.setBt f).dy = c.dy := rfl
@[simp] theorem Ctl.setBt_hi (c : Ctl) (f : BtState → BtState) : (c.setBt f).hi = c.hi := rfl
@[simp] theorem Ctl.setBt_tb (c : Ctl) (f : BtState → BtState) : (c.setBt f).tb = c.tb := rfl
@[simp] theorem Ctl.setBt_fm (c : Ctl) (f : BtState → BtState) : (c.setBt f).fm = c.fm := rfl
@[simp] theorem Ctl.setBt_bt (c : Ctl) (f : BtState → BtState) : (c.setBt f).bt = f c.bt := rfl
@[simp] theorem Ctl.setBt_mc (c : Ctl) (f : BtState → BtState) : (c.setBt f).mc = c.mc := rfl
@[simp] theorem Ctl.setBt_cx (c : Ctl) (f : BtState → BtState) : (c.setBt f).cx = c.cx := rfl
@[simp] theorem Ctl.setBt_pm (c : Ctl) (f : BtState → BtState) : (c.setBt f).pm = c.pm := rfl
@[simp] theorem Ctl.setBt_ln (c : Ctl) (f : BtState → BtState) : (c.setBt f).ln = c.ln := rfl
@[simp] theorem Ctl.setBt_rg (c : Ctl) (f : BtState → BtState) : (c.setBt f).rg = c.rg := rfl
@[simp] theorem Ctl.setBt_xz (c : Ctl) (f : BtState → BtState) : (c.setBt f).xz = c.xz := rfl
@[simp] theorem Ctl.setBt_dc (c : Ctl) (f : BtState → BtState) : (c.setBt f).dc = c.dc := rfl
@[simp] theorem Ctl.setBt_pl (c : Ctl) (f : BtState → BtState) : (c.setBt f).pl = c.pl := rfl
@[simp] theorem Ctl.setBt_es (c : Ctl) (f : BtState → BtState) : (c.setBt f).es = c.es := rfl
@[simp] theorem Ctl.setBt_pd (c : Ctl) (f : BtState → BtState) : (c.setBt f).pd = c.pd := rfl
@[simp] theorem Ctl.setBt_st (c : Ctl) (f : BtState → BtState) : (c.setBt f).st = c.st := rfl
@[simp] theorem Ctl.setBt_en (c : Ctl) (f : BtState → BtState) : (c.setBt f).en = c.en := rfl
@[simp] theorem Ctl.setBt_out (c : Ctl) (f : BtState → BtState) : (c.setBt f).out = c.out := rfl

@[simp] theorem Ctl.setMc_now (c : Ctl) (f : McState → McState) : (c.setMc f).now = c.now := rfl
@[simp] theorem Ctl.setMc_up (c : Ctl) (f : McState → McState) : (c.setMc f).up = c.up := rfl
@[simp] theorem Ctl.setMc_clk (c : Ctl) (f : McState → McState) : (c.setMc f).clk = c.clk := rfl
@[simp] theorem Ctl.setMc_draws (c : Ctl) (f : McState → McState) : (c.setMc f).draws = c.draws := rfl
@[simp] theorem Ctl.setMc_ent (c : Ctl) (f : McState → McState) : (c.setMc f).ent = c.ent := rfl
@[simp] theorem Ctl.setMc_shadow (c : Ctl) (f : McState → McState) : (c.setMc f).shadow = c.shadow := rfl
@[simp] theorem Ctl.setMc_nv (c : Ctl) (f : McState → McState) : (c.setMc f).nv = c.nv := rfl
@[simp] theorem Ctl.setMc_regs (c : Ctl) (f : McState → McState) : (c.setMc f).regs = c.regs := rfl
@[simp] theorem Ctl.setMc_loHeld (c : Ctl) (f : McState → McState) : (c.setMc f).loHeld = c.loHeld := rfl
@[simp] theorem Ctl.setMc_hiLatch (c : Ctl) (f : McState → McState) : (c.setMc f).hiLatch = c.hiLatch := rfl
@[simp] theorem Ctl.setMc_irq (c : Ctl) (f : McState → McState) : (c.setMc f).irq = c.irq := rfl
@[simp] theorem Ctl.setMc_readData (c : Ctl) (f : McState → McState) : (c.setMc f).readData = c.readData := rfl
@[simp] theorem Ctl.setMc_dy (c : Ctl) (f : McState → McState) : (c.setMc f).dy = c.dy := rfl
@[simp] theorem Ctl.setMc_hi (c : Ctl) (f : McState → McState) : (c.setMc f).hi = c.hi := rfl
@[simp] theorem Ctl.setMc_tb (c : Ctl) (f : McState → McState) : (c.setMc f).tb = c.tb := rfl
@[simp] theorem Ctl.setMc_fm (c : Ctl) (f : McState → McState) : (c.setMc f).fm = c.fm := rfl
@[simp] theorem Ctl.setMc_bt (c : Ctl) (f : McState → McState) : (c.setMc f).bt = c.bt := rfl
@[simp] theorem Ctl.setMc_mc (c : Ctl) (f : McState → McState) : (c.setMc f).mc = f c.mc := rfl
@[simp] theorem Ctl.setMc_cx (c : Ctl) (f : McState → McState) : (c.setMc f).cx = c.cx := rfl
@[simp] theorem Ctl.setMc_pm (c : Ctl) (f : McState → McState) : (c.setMc f).pm = c.pm := rfl
@[simp] theorem Ctl.setMc_ln (c : Ctl) (f : McState → McState) : (c.setMc f).ln = c.ln := rfl
@[simp] theorem Ctl.setMc_rg (c : Ctl) (f : McState → McState) : (c.setMc f).rg = c.rg := rfl
@[simp] theorem Ctl.setMc_xz (c : Ctl) (f : McState → McState) : (c.setMc f).xz = c.xz := rfl
@[simp] theorem Ctl.setMc_dc (c : Ctl) (f : McState → McState) : (c.setMc f).dc = c.dc := rfl
@[simp] theorem Ctl.setMc_pl (c : Ctl) (f : McState → McState) : (c.setMc f).pl = c.pl := rfl
@[simp] theorem Ctl.setMc_es (c : Ctl) (f : McState → McState) : (c.setMc f).es = c.es := rfl
@[simp] theorem Ctl.setMc_pd (c : Ctl) (f : McState → McState) : (c.setMc f).pd = c.pd := rfl
@[simp] theorem Ctl.setMc_st (c : Ctl) (f : McState → McState) : (c.setMc f).st = c.st := rfl
@[simp] theorem Ctl.setMc_en (c : Ctl) (f : McState → McState) : (c.setMc f).en = c.en := rfl
@[simp] theorem Ctl.setMc_out (c : Ctl) (f : McState → McState) : (c.setMc f).out = c.out := rfl

@[simp] theorem Ctl.setPm_now (c : Ctl) (f : PmState → PmState) : (c.setPm f).now = c.now := rfl
@[simp] theorem Ctl.setPm_up (c : Ctl) (f : PmState → PmState) : (c.setPm f).up = c.up := rfl
@[simp] theorem Ctl.setPm_clk (c : Ctl) (f : PmState → PmState) : (c.setPm f).clk = c.clk := rfl
@[simp] theorem Ctl.setPm_draws (c : Ctl) (f : PmState → PmState) : (c.setPm f).draws = c.draws := rfl
@[simp] theorem Ctl.setPm_ent (c : Ctl) (f : PmState → PmState) : (c.setPm f).ent = c.ent := rfl
@[simp] theorem Ctl.setPm_shadow (c : Ctl) (f : PmState → PmState) : (c.setPm f).shadow = c.shadow := rfl
@[simp] theorem Ctl.setPm_nv (c : Ctl) (f : PmState → PmState) : (c.setPm f).nv = c.nv := rfl
@[simp] theorem Ctl.setPm_regs (c : Ctl) (f : PmState → PmState) : (c.setPm f).regs = c.regs := rfl
@[simp] theorem Ctl.setPm_loHeld (c : Ctl) (f : PmState → PmState) : (c.setPm f).loHeld = c.loHeld := rfl
@[simp] theorem Ctl.setPm_hiLatch (c : Ctl) (f : PmState → PmState) : (c.setPm f).hiLatch = c.hiLatch := rfl
@[simp] theorem Ctl.setPm_irq (c : Ctl) (f : PmState → PmState) : (c.setPm f).irq = c.irq := rfl
@[simp] theorem Ctl.setPm_readData (c : Ctl) (f : PmState → PmState) : (c.setPm f).readData = c.readData := rfl
@[simp] theorem Ctl.setPm_dy (c : Ctl) (f : PmState → PmState) : (c.setPm f).dy = c.dy := rfl
@[simp] theorem Ctl.setPm_hi (c : Ctl) (f : PmState → PmState) : (c.setPm f).hi = c.hi := rfl
@[simp] theorem Ctl.setPm_tb (c : Ctl) (f : PmState → PmState) : (c.setPm f).tb = c.tb := rfl
@[simp] theorem Ctl.setPm_fm (c : Ctl) (f : PmState → PmState) : (c.setPm f).fm = c.fm := rfl
@[simp] theorem Ctl.setPm_bt (c : Ctl) (f : PmState → PmState) : (c.setPm f).bt = c.bt := rfl
@[simp] theorem Ctl.setPm_mc (c : Ctl) (f : PmState → PmState) : (c.setPm f).mc = c.mc := rfl
@[simp] theorem Ctl.setPm_cx (c : Ctl) (f : PmState → PmState) : (c.setPm f).cx = c.cx := rfl
@[simp] theorem Ctl.setPm_pm (c : Ctl) (f : PmState → PmState) : (c.setPm f).pm = f c.pm := rfl
@[simp] theorem Ctl.setPm_ln (c : Ctl) (f : PmState → PmState) : (c.setPm f).ln = c.ln := rfl
@[simp] theorem Ctl.setPm_rg (c : Ctl) (f : PmState → PmState) : (c.setPm f).rg = c.rg := rfl
@[simp] theorem Ctl.setPm_xz (c : Ctl) (f : PmState → PmState) : (c.setPm f).xz = c.xz := rfl
@[simp] theorem Ctl.setPm_dc (c : Ctl) (f : PmState → PmState) : (c.setPm f).dc = c.dc := rfl
@[simp] theorem Ctl.setPm_pl (c : Ctl) (f : PmState → PmState) : (c.setPm f).pl = c.pl := rfl
@[simp] theorem Ctl.setPm_es (c : Ctl) (f : PmState → PmState) : (c.setPm f).es = c.es := rfl
@[simp] theorem Ctl.setPm_pd (c : Ctl) (f : PmState → PmState) : (c.setPm f).pd = c.pd := rfl
@[simp] theorem Ctl.setPm_st (c : Ctl) (f : PmState → PmState) : (c.setPm f).st = c.st := rfl
@[simp] theorem Ctl.setPm_en (c : Ctl) (f : PmState → PmState) : (c.setPm f).en = c.en := rfl
@[simp] theorem Ctl.setPm_out (c : Ctl) (f : PmState → PmState) : (c.setPm f).out = c.out := rfl

@[simp] theorem Ctl.setRg_now (c : Ctl) (f : RgState → RgState) : (c.setRg f).now = c.now := rfl
@[simp] theorem Ctl.setRg_up (c : Ctl) (f : RgState → RgState) : (c.setRg f).up = c.up := rfl
@[simp] theorem Ctl.setRg_clk (c : Ctl) (f : RgState → RgState) : (c.setRg f).clk = c.clk := rfl
@[simp] theorem Ctl.setRg_draws (c : Ctl) (f : RgState → RgState) : (c.setRg f).draws = c.draws := rfl
@[simp] theorem Ctl.setRg_ent (c : Ctl) (f : RgState → RgState) : (c.setRg f).ent = c.ent := rfl
@[simp] theorem Ctl.setRg_shadow (c : Ctl) (f : RgState → RgState) : (c.setRg f).shadow = c.shadow := rfl
@[simp] theorem Ctl.setRg_nv (c : Ctl) (f : RgState → RgState) : (c.setRg f).nv = c.nv := rfl
@[simp] theorem Ctl.setRg_regs (c : Ctl) (f : RgState → RgState) : (c.setRg f).regs = c.regs := rfl
@[simp] theorem Ctl.setRg_loHeld (c : Ctl) (f : RgState → RgState) : (c.setRg f).loHeld = c.loHeld := rfl
@[simp] theorem Ctl.setRg_hiLatch (c : Ctl) (f : RgState → RgState) : (c.setRg f).hiLatch = c.hiLatch := rfl
@[simp] theorem Ctl.setRg_irq (c : Ctl) (f : RgState → RgState) : (c.setRg f).irq = c.irq := rfl
@[simp] theorem Ctl.setRg_readData (c : Ctl) (f : RgState → RgState) : (c.setRg f).readData = c.readData := rfl
@[simp] theorem Ctl.setRg_dy (c : Ctl) (f : RgState → RgState) : (c.setRg f).dy = c.dy := rfl
@[simp] theorem Ctl.setRg_hi (c : Ctl) (f : RgState → RgState) : (c.setRg f).hi = c.hi := rfl
@[simp] theorem Ctl.setRg_tb (c : Ctl) (f : RgState → RgState) : (c.setRg f).tb = c.tb := rfl
@[simp] theorem Ctl.setRg_fm (c : Ctl) (f : RgState → RgState) : (c.setRg f).fm = c.fm := rfl
@[simp] theorem Ctl.setRg_bt (c : Ctl) (f : RgState → RgState) : (c.setRg f).bt = c.bt := rfl
@[simp] theorem Ctl.setRg_mc (c : Ctl) (f : RgState → RgState) : (c.setRg f).mc = c.mc := rfl
@[simp] theorem Ctl.setRg_cx (c : Ctl) (f : RgState → RgState) : (c.setRg f).cx = c.cx := rfl
@[simp] theorem Ctl.setRg_pm (c : Ctl) (f : RgState → RgState) : (c.setRg f).pm = c.pm := rfl
@[simp] theorem Ctl.setRg_ln (c : Ctl) (f : RgState → RgState) : (c.setRg f).ln = c.ln := rfl
@[simp] theorem Ctl.setRg_rg (c : Ctl) (f : RgState → RgState) : (c.setRg f).rg = f c.rg := rfl
@[simp] theorem Ctl.setRg_xz (c : Ctl) (f : RgState → RgState) : (c.setRg f).xz = c.xz := rfl
@[simp] theorem Ctl.setRg_dc (c : Ctl) (f : RgState → RgState) : (c.setRg f).dc = c.dc := rfl
@[simp] theorem Ctl.setRg_pl (c : Ctl) (f : RgState → RgState) : (c.setRg f).pl = c.pl := rfl
@[simp] theorem Ctl.setRg_es (c : Ctl) (f : RgState → RgState) : (c.setRg f).es = c.es := rfl
@[simp] theorem Ctl.setRg_pd (c : Ctl) (f : RgState → RgState) : (c.setRg f).pd = c.pd := rfl
@[simp] theorem Ctl.setRg_st (c : Ctl) (f : RgState → RgState) : (c.setRg f).st = c.st := rfl
@[simp] theorem Ctl.setRg_en (c : Ctl) (f : RgState → RgState) : (c.setRg f).en = c.en := rfl
@[simp] theorem Ctl.setRg_out (c : Ctl) (f : RgState → RgState) : (c.setRg f).out = c.out := rfl

@[simp] theorem Ctl.setXz_now (c : Ctl) (f : XzState → XzState) : (c.setXz f).now = c.now := rfl
@[simp] theorem Ctl.setXz_up (c : Ctl) (f : XzState → XzState) : (c.setXz f).up = c.up := rfl
@[simp] theorem Ctl.setXz_clk (c : Ctl) (f : XzState → XzState) : (c.setXz f).clk = c.clk := rfl
@[simp] theorem Ctl.setXz_draws (c : Ctl) (f : XzState → XzState) : (c.setXz f).draws = c.draws := rfl
@[simp] theorem Ctl.setXz_ent (c : Ctl) (f : XzState → XzState) : (c.setXz f).ent = c.ent := rfl
@[simp] theorem Ctl.setXz_shadow (c : Ctl) (f : XzState → XzState) : (c.setXz f).shadow = c.shadow := rfl
@[simp] theorem Ctl.setXz_nv (c : Ctl) (f : XzState → XzState) : (c.setXz f).nv = c.nv := rfl
@[simp] theorem Ctl.setXz_regs (c : Ctl) (f : XzState → XzState) : (c.setXz f).regs = c.regs := rfl
@[simp] theorem Ctl.setXz_loHeld (c : Ctl) (f : XzState → XzState) : (c.setXz f).loHeld = c.loHeld := rfl
@[simp] theorem Ctl.setXz_hiLatch (c : Ctl) (f : XzState → XzState) : (c.setXz f).hiLatch = c.hiLatch := rfl
@[simp] theorem Ctl.setXz_irq (c : Ctl) (f : XzState → XzState) : (c.setXz f).irq = c.irq := rfl
@[simp] theorem Ctl.setXz_readData (c : Ctl) (f : XzState → XzState) : (c.setXz f).readData = c.readData := rfl
@[simp] theorem Ctl.setXz_dy (c : Ctl) (f : XzState → XzState) : (c.setXz f).dy = c.dy := rfl
@[simp] theorem Ctl.setXz_hi (c : Ctl) (f : XzState → XzState) : (c.setXz f).hi = c.hi := rfl
@[simp] theorem Ctl.setXz_tb (c : Ctl) (f : XzState → XzState) : (c.setXz f).tb = c.tb := rfl
@[simp] theorem Ctl.setXz_fm (c : Ctl) (f : XzState → XzState) : (c.setXz f).fm = c.fm := rfl
@[simp] theorem Ctl.setXz_bt (c : Ctl) (f : XzState → XzState) : (c.setXz f).bt = c.bt := rfl
@[simp] theorem Ctl.setXz_mc (c : Ctl) (f : XzState → XzState) : (c.setXz f).mc = c.mc := rfl
@[simp] theorem Ctl.setXz_cx (c : Ctl) (f : XzState → XzState) : (c.setXz f).cx = c.cx := rfl
@[simp] theorem Ctl.setXz_pm (c : Ctl) (f : XzState → XzState) : (c.setXz f).pm = c.pm := rfl
@[simp] theorem Ctl.setXz_ln (c : Ctl) (f : XzState → XzState) : (c.setXz f).ln = c.ln := rfl
@[simp] theorem Ctl.setXz_rg (c : Ctl) (f : XzState → XzState) : (c.setXz f).rg = c.rg := rfl
@[simp] theorem Ctl.setXz_xz (c : Ctl) (f : XzState → XzState) : (c.setXz f).xz = f c.xz := rfl
@[simp] theorem Ctl.setXz_dc (c : Ctl) (f : XzState → XzState) : (c.setXz f).dc = c.dc := rfl
@[simp] theorem Ctl.setXz_pl (c : Ctl) (f : XzState → XzState) : (c.setXz f).pl = c.pl := rfl
@[simp] theorem Ctl.setXz_es (c : Ctl) (f : XzState → XzState) : (c.setXz f).es = c.es := rfl
@[simp] theorem Ctl.setXz_pd (c : Ctl) (f : XzState → XzState) : (c.setXz f).pd = c.pd := rfl
@[simp] theorem Ctl.setXz_st (c : Ctl) (f : XzState → XzState) : (c.setXz f).st = c.st := rfl
@[simp] theorem Ctl.setXz_en (c : Ctl) (f : XzState → XzState) : (c.setXz f).en = c.en := rfl
@[simp] theorem Ctl.setXz_out (c : Ctl) (f : XzState → XzState) : (c.setXz f).out = c.out := rfl

@[simp] theorem Ctl.setDc_now (c : Ctl) (f : DcState → DcState) : (c.setDc f).now = c.now := rfl
@[simp] theorem Ctl.setDc_up (c : Ctl) (f : DcState → DcState) : (c.setDc f).up = c.up := rfl
@[simp] theorem Ctl.setDc_clk (c : Ctl) (f : DcState → DcState) : (c.setDc f).clk = c.clk := rfl
@[simp] theorem Ctl.setDc_draws (c : Ctl) (f : DcState → DcState) : (c.setDc f).draws = c.draws := rfl
@[simp] theorem Ctl.setDc_ent (c : Ctl) (f : DcState → DcState) : (c.setDc f).ent = c.ent := rfl
@[simp] theorem Ctl.setDc_shadow (c : Ctl) (f : DcState → DcState) : (c.setDc f).shadow = c.shadow := rfl
@[simp] theorem Ctl.setDc_nv (c : Ctl) (f : DcState → DcState) : (c.setDc f).nv = c.nv := rfl
@[simp] theorem Ctl.setDc_regs (c : Ctl) (f : DcState → DcState) : (c.setDc f).regs = c.regs := rfl
@[simp] theorem Ctl.setDc_loHeld (c : Ctl) (f : DcState → DcState) : (c.setDc f).loHeld = c.loHeld := rfl
@[simp] theorem Ctl.setDc_hiLatch (c : Ctl) (f : DcState → DcState) : (c.setDc f).hiLatch = c.hiLatch := rfl
@[simp] theorem Ctl.setDc_irq (c : Ctl) (f : DcState → DcState) : (c.setDc f).irq = c.irq := rfl
@[simp] theorem Ctl.setDc_readData (c : Ctl) (f : DcState → DcState) : (c.setDc f).readData = c.readData := rfl
@[simp] theorem Ctl.setDc_dy (c : Ctl) (f : DcState → DcState) : (c.setDc f).dy = c.dy := rfl
@[simp] theorem Ctl.setDc_hi (c : Ctl) (f : DcState → DcState) : (c.setDc f).hi = c.hi := rfl
@[simp] theorem Ctl.setDc_tb (c : Ctl) (f : DcState → DcState) : (c.setDc f).tb = c.tb := rfl
@[simp] theorem Ctl.setDc_fm (c : Ctl) (f : DcState → DcState) : (c.setDc f).fm = c.fm := rfl
@[simp] theorem Ctl.setDc_bt (c : Ctl) (f : DcState → DcState) : (c.setDc f).bt = c.bt := rfl
@[simp] theorem Ctl.setDc_mc (c : Ctl) (f : DcState → DcState) : (c.setDc f).mc = c.mc := rfl
@[simp] theorem Ctl.setDc_cx (c : Ctl) (f : DcState → DcState) : (c.setDc f).cx = c.cx := rfl
@[simp] theorem Ctl.setDc_pm (c : Ctl) (f : DcState → DcState) : (c.setDc f).pm = c.pm := rfl
@[simp] theorem Ctl.setDc_ln (c : Ctl) (f : DcState → DcState) : (c.setDc f).ln = c.ln := rfl
@[simp] theorem Ctl.setDc_rg (c : Ctl) (f : DcState → DcState) : (c.setDc f).rg = c.rg := rfl
@[simp] theorem Ctl.setDc_xz (c : Ctl) (f : DcState → DcState) : (c.setDc f).xz = c.xz := rfl
@[simp] theorem Ctl.setDc_dc (c : Ctl) (f : DcState → DcState) : (c.setDc f).dc = f c.dc := rfl
@[simp] theorem Ctl.setDc_pl (c : Ctl) (f : DcState → DcState) : (c.setDc f).pl = c.pl := rfl
@[simp] theorem Ctl.setDc_es (c : Ctl) (f : DcState → DcState) : (c.setDc f).es = c.es := rfl
@[simp] theorem Ctl.setDc_pd (c : Ctl) (f : DcState → DcState) : (c.setDc f).pd = c.pd := rfl
@[simp] theorem Ctl.setDc_st (c : Ctl) (f : DcState → DcState) : (c.setDc f).st = c.st := rfl
@[simp] theorem Ctl.setDc_en (c : Ctl) (f : DcState → DcState) : (c.setDc f).en = c.en := rfl
@[simp] theorem Ctl.setDc_out (c : Ctl) (f : DcState → DcState) : (c.setDc f).out = c.out := rfl

@[simp] theorem Ctl.setPl_now (c : Ctl) (f : PlState → PlState) : (c.setPl f).now = c.now := rfl
@[simp] theorem Ctl.setPl_up (c : Ctl) (f : PlState → PlState) : (c.setPl f).up = c.up := rfl
@[simp] theorem Ctl.setPl_clk (c : Ctl) (f : PlState → PlState) : (c.setPl f).clk = c.clk := rfl
@[simp] theorem Ctl.setPl_draws (c : Ctl) (f : PlState → PlState) : (c.setPl f).draws = c.draws := rfl
@[simp] theorem Ctl.setPl_ent (c : Ctl) (f : PlState → PlState) : (c.setPl f).ent = c.ent := rfl
@[simp] theorem Ctl.setPl_shadow (c : Ctl) (f : PlState → PlState) : (c.setPl f).shadow = c.shadow := rfl
@[simp] theorem Ctl.setPl_nv (c : Ctl) (f : PlState → PlState) : (c.setPl f).nv = c.nv := rfl
@[simp] theorem Ctl.setPl_regs (c : Ctl) (f : PlState → PlState) : (c.setPl f).regs = c.regs := rfl
@[simp] theorem Ctl.setPl_loHeld (c : Ctl) (f : PlState → PlState) : (c.setPl f).loHeld = c.loHeld := rfl
@[simp] theorem Ctl.setPl_hiLatch (c : Ctl) (f : PlState → PlState) : (c.setPl f).hiLatch = c.hiLatch := rfl
@[simp] theorem Ctl.setPl_irq (c : Ctl) (f : PlState → PlState) : (c.setPl f).irq = c.irq := rfl
@[simp] theorem Ctl.setPl_readData (c : Ctl) (f : PlState → PlState) : (c.setPl f).readData = c.readData := rfl
@[simp] theorem Ctl.setPl_dy (c : Ctl) (f : PlState → PlState) : (c.setPl f).dy = c.dy := rfl
@[simp] theorem Ctl.setPl_hi (c : Ctl) (f : PlState → PlState) : (c.setPl f).hi = c.hi := rfl
@[simp] theorem Ctl.setPl_tb (c : Ctl) (f : PlState → PlState) : (c.setPl f).tb = c.tb := rfl
@[simp] theorem Ctl.setPl_fm (c : Ctl) (f : PlState → PlState) : (c.setPl f).fm = c.fm := rfl
@[simp] theorem Ctl.setPl_bt (c : Ctl) (f : PlState → PlState) : (c.setPl f).bt = c.bt := rfl
@[simp] theorem Ctl.setPl_mc (c : Ctl) (f : PlState → PlState) : (c.setPl f).mc = c.mc := rfl
@[simp] theorem Ctl.setPl_cx (c : Ctl) (f : PlState → PlState) : (c.setPl f).cx = c.cx := rfl
@[simp] theorem Ctl.setPl_pm (c : Ctl) (f : PlState → PlState) : (c.setPl f).pm = c.pm := rfl
@[simp] theorem Ctl.setPl_ln (c : Ctl) (f : PlState → PlState) : (c.setPl f).ln = c.ln := rfl
@[simp] theorem Ctl.setPl_rg (c : Ctl) (f : PlState → PlState) : (c.setPl f).rg = c.rg := rfl
@[simp] theorem Ctl.setPl_xz (c : Ctl) (f : PlState → PlState) : (c.setPl f).xz = c.xz := rfl
@[simp] theorem Ctl.setPl_dc (c : Ctl) (f : PlState → PlState) : (c.setPl f).dc = c.dc := rfl
@[simp] theorem Ctl.setPl_pl (c : Ctl) (f : PlState → PlState) : (c.setPl f).pl = f c.pl := rfl
@[simp] theorem Ctl.setPl_es (c : Ctl) (f : PlState → PlState) : (c.setPl f).es = c.es := rfl
@[simp] theorem Ctl.setPl_pd (c : Ctl) (f : PlState → PlState) : (c.setPl f).pd = c.pd := rfl
@[simp] theorem Ctl.setPl_st (c : Ctl) (f : PlState → PlState) : (c.setPl f).st = c.st := rfl
@[simp] theorem Ctl.setPl_en (c : Ctl) (f : PlState → PlState) : (c.setPl f).en = c.en := rfl
@[simp] theorem Ctl.setPl_out (c : Ctl) (f : PlState → PlState) : (c.setPl f).out = c.out := rfl

@[simp] theorem Ctl.setEs_now (c : Ctl) (f : EsState → EsState) : (c.setEs f).now = c.now := rfl
@[simp] theorem Ctl.setEs_up (c : Ctl) (f : EsState → EsState) : (c.setEs f).up = c.up := rfl
@[simp] theorem Ctl.setEs_clk (c : Ctl) (f : EsState → EsState) : (c.setEs f).clk = c.clk := rfl
@[simp] theorem Ctl.setEs_draws (c : Ctl) (f : EsState → EsState) : (c.setEs f).draws = c.draws := rfl
@[simp] theorem Ctl.setEs_ent (c : Ctl) (f : EsState → EsState) : (c.setEs f).ent = c.ent := rfl
@[simp] theorem Ctl.setEs_shadow (c : Ctl) (f : EsState → EsState) : (c.setEs f).shadow = c.shadow := rfl
@[simp] theorem Ctl.setEs_nv (c : Ctl) (f : EsState → EsState) : (c.setEs f).nv = c.nv := rfl
@[simp] theorem Ctl.setEs_regs (c : Ctl) (f : EsState → EsState) : (c.setEs f).regs = c.regs := rfl
@[simp] theorem Ctl.setEs_loHeld (c : Ctl) (f : EsState → EsState) : (c.setEs f).loHeld = c.loHeld := rfl
@[simp] theorem Ctl.setEs_hiLatch (c : Ctl) (f : EsState → EsState) : (c.setEs f).hiLatch = c.hiLatch := rfl
@[simp] theorem Ctl.setEs_irq (c : Ctl) (f : EsState → EsState) : (c.setEs f).irq = c.irq := rfl
@[simp] theorem Ctl.setEs_readData (c : Ctl) (f : EsState → EsState) : (c.setEs f).readData = c.readData := rfl
@[simp] theorem Ctl.setEs_dy (c : Ctl) (f : EsState → EsState) : (c.setEs f).dy = c.dy := rfl
@[simp] theorem Ctl.setEs_hi (c : Ctl) (f : EsState → EsState) : (c.setEs f).hi = c.hi := rfl
@[simp] theorem Ctl.setEs_tb (c : Ctl) (f : EsState → EsState) : (c.setEs f).tb = c.tb := rfl
@[simp] theorem Ctl.setEs_fm (c : Ctl) (f : EsState → EsState) : (c.setEs f).fm = c.fm := rfl
@[simp] theorem Ctl.setEs_bt (c : Ctl) (f : EsState → EsState) : (c.setEs f).bt = c.bt := rfl
@[simp] theorem Ctl.setEs_mc (c : Ctl) (f : EsState → EsState) : (c.setEs f).mc = c.mc := rfl
@[simp] theorem Ctl.setEs_cx (c : Ctl) (f : EsState → EsState) : (c.setEs f).cx = c.cx := rfl
@[simp] theorem Ctl.setEs_pm (c : Ctl) (f : EsState → EsState) : (c.setEs f).pm = c.pm := rfl
@[simp] theorem Ctl.setEs_ln (c : Ctl) (f : EsState → EsState) : (c.setEs f).ln = c.ln := rfl
@[simp] theorem Ctl.setEs_rg (c : Ctl) (f : EsState → EsState) : (c.setEs f).rg = c.rg := rfl
@[simp] theorem Ctl.setEs_xz (c : Ctl) (f : EsState → EsState) : (c.setEs f).xz = c.xz := rfl
@[simp] theorem Ctl.setEs_dc (c : Ctl) (f : EsState → EsState) : (c.setEs f).dc = c.dc := rfl
@[simp] theorem Ctl.setEs_pl (c : Ctl) (f : EsState → EsState) : (c.setEs f).pl = c.pl := rfl
@[simp] theorem Ctl.setEs_es (c : Ctl) (f : EsState → EsState) : (c.setEs f).es = f c.es := rfl
@[simp] theorem Ctl.setEs_pd (c : Ctl) (f : EsState → EsState) : (c.setEs f).pd = c.pd := rfl
@[simp] theorem Ctl.setEs_st (c : Ctl) (f : EsState → EsState) : (c.setEs f).st = c.st := rfl
@[simp] theorem Ctl.setEs_en (c : Ctl) (f : EsState → EsState) : (c.setEs f).en = c.en := rfl
@[simp] theorem Ctl.setEs_out (c : Ctl) (f : EsState → EsState) : (c.setEs f).out = c.out := rfl

@[simp] theorem Ctl.setPd_now (c : Ctl) (f : PdState → PdState) : (c.setPd f).now = c.now := rfl
@[simp] theorem Ctl.setPd_up (c : Ctl) (f : PdState → PdState) : (c.setPd f).up = c.up := rfl
@[simp] theorem Ctl.setPd_clk (c : Ctl) (f : PdState → PdState) : (c.setPd f).clk = c.clk := rfl
@[simp] theorem Ctl.setPd_draws (c : Ctl) (f : PdState → PdState) : (c.setPd f).draws = c.draws := rfl
@[simp] theorem Ctl.setPd_ent (c : Ctl) (f : PdState → PdState) : (c.setPd f).ent = c.ent := rfl
@[simp] theorem Ctl.setPd_shadow (c : Ctl) (f : PdState → PdState) : (c.setPd f).shadow = c.shadow := rfl
@[simp] theorem Ctl.setPd_nv (c : Ctl) (f : PdState → PdState) : (c.setPd f).nv = c.nv := rfl
@[simp] theorem Ctl.setPd_regs (c : Ctl) (f : PdState → PdState) : (c.setPd f).regs = c.regs := rfl
@[simp] theorem Ctl.setPd_loHeld (c : Ctl) (f : PdState → PdState) : (c.setPd f).loHeld = c.loHeld := rfl
@[simp] theorem Ctl.setPd_hiLatch (c : Ctl) (f : PdState → PdState) : (c.setPd f).hiLatch = c.hiLatch := rfl
@[simp] theorem Ctl.setPd_irq (c : Ctl) (f : PdState → PdState) : (c.setPd f).irq = c.irq := rfl
@[simp] theorem Ctl.setPd_readData (c : Ctl) (f : PdState → PdState) : (c.setPd f).readData = c.readData := rfl
@[simp] theorem Ctl.setPd_dy (c : Ctl) (f : PdState → PdState) : (c.setPd f).dy = c.dy := rfl
@[simp] theorem Ctl.setPd_hi (c : Ctl) (f : PdState → PdState) : (c.setPd f).hi = c.hi := rfl
@[simp] theorem Ctl.setPd_tb (c : Ctl) (f : PdState → PdState) : (c.setPd f).tb = c.tb := rfl
@[simp] theorem Ctl.setPd_fm (c : Ctl) (f : PdState → PdState) : (c.setPd f).fm = c.fm := rfl
@[simp] theorem Ctl.setPd_bt (c : Ctl) (f : PdState → PdState) : (c.setPd f).bt = c.bt := rfl
@[simp] theorem Ctl.setPd_mc (c : Ctl) (f : PdState → PdState) : (c.setPd f).mc = c.mc := rfl
@[simp] theorem Ctl.setPd_cx (c : Ctl) (f : PdState → PdState) : (c.setPd f).cx = c.cx := rfl
@[simp] theorem Ctl.setPd_pm (c : Ctl) (f : PdState → PdState) : (c.setPd f).pm = c.pm := rfl
@[simp] theorem Ctl.setPd_ln (c : Ctl) (f : PdState → PdState) : (c.setPd f).ln = c.ln := rfl
@[simp] theorem Ctl.setPd_rg (c : Ctl) (f : PdState → PdState) : (c.setPd f).rg = c.rg := rfl
@[simp] theorem Ctl.setPd_xz (c : Ctl) (f : PdState → PdState) : (c.setPd f).xz = c.xz := rfl
@[simp] theorem Ctl.setPd_dc (c : Ctl) (f : PdState → PdState) : (c.setPd f).dc = c.dc := rfl
@[simp] theorem Ctl.setPd_pl (c : Ctl) (f : PdState → PdState) : (c.setPd f).pl = c.pl := rfl
@[simp] theorem Ctl.setPd_es (c : Ctl) (f : PdState → PdState) : (c.setPd f).es = c.es := rfl
@[simp] theorem Ctl.setPd_pd (c : Ctl) (f : PdState → PdState) : (c.setPd f).pd = f c.pd := rfl
@[simp] theorem Ctl.setPd_st (c : Ctl) (f : PdState → PdState) : (c.setPd f).st = c.st := rfl
@[simp] theorem Ctl.setPd_en (c : Ctl) (f : PdState → PdState) : (c.setPd f).en = c.en := rfl
@[simp] theorem Ctl.setPd_out (c : Ctl) (f : PdState → PdState) : (c.setPd f).out = c.out := rfl

@[simp] theorem Ctl.setSt_now (c : Ctl) (f : StState → StState) : (c.setSt f).now = c.now := rfl
@[simp] theorem Ctl.setSt_up (c : Ctl) (f : StState → StState) : (c.setSt f).up = c.up := rfl
@[simp] theorem Ctl.setSt_clk (c : Ctl) (f : StState → StState) : (c.setSt f).clk = c.clk := rfl
@[simp] theorem Ctl.setSt_draws (c : Ctl) (f : StState → StState) : (c.setSt f).draws = c.draws := rfl
@[simp] theorem Ctl.setSt_ent (c : Ctl) (f : StState → StState) : (c.setSt f).ent = c.ent := rfl
@[simp] theorem Ctl.setSt_shadow (c : Ctl) (f : StState → StState) : (c.setSt f).shadow = c.shadow := rfl
@[simp] theorem Ctl.setSt_nv (c : Ctl) (f : StState → StState) : (c.setSt f).nv = c.nv := rfl
@[simp] theorem Ctl.setSt_regs (c : Ctl) (f : StState → StState) : (c.setSt f).regs = c.regs := rfl
@[simp] theorem Ctl.setSt_loHeld (c : Ctl) (f : StState → StState) : (c.setSt f).loHeld = c.loHeld := rfl
@[simp] theorem Ctl.setSt_hiLatch (c : Ctl) (f : StState → StState) : (c.setSt f).hiLatch = c.hiLatch := rfl
@[simp] theorem Ctl.setSt_irq (c : Ctl) (f : StState → StState) : (c.setSt f).irq = c.irq := rfl
@[simp] theorem Ctl.setSt_readData (c : Ctl) (f : StState → StState) : (c.setSt f).readData = c.readData := rfl
@[simp] theorem Ctl.setSt_dy (c : Ctl) (f : StState → StState) : (c.setSt f).dy = c.dy := rfl
@[simp] theorem Ctl.setSt_hi (c : Ctl) (f : StState → StState) : (c.setSt f).hi = c.hi := rfl
@[simp] theorem Ctl.setSt_tb (c : Ctl) (f : StState → StState) : (c.setSt f).tb = c.tb := rfl
@[simp] theorem Ctl.setSt_fm (c : Ctl) (f : StState → StState) : (c.setSt f).fm = c.fm := rfl
@[simp] theorem Ctl.setSt_bt (c : Ctl) (f : StState → StState) : (c.setSt f).bt = c.bt := rfl
@[simp] theorem Ctl.setSt_mc (c : Ctl) (f : StState → StState) : (c.setSt f).mc = c.mc := rfl
@[simp] theorem Ctl.setSt_cx (c : Ctl) (f : StState → StState) : (c.setSt f).cx = c.cx := rfl
@[simp] theorem Ctl.setSt_pm (c : Ctl) (f : StState → StState) : (c.setSt f).pm = c.pm := rfl
@[simp] theorem Ctl.setSt_ln (c : Ctl) (f : StState → StState) : (c.setSt f).ln = c.ln := rfl
@[simp] theorem Ctl.setSt_rg (c : Ctl) (f : StState → StState) : (c.setSt f).rg = c.rg := rfl
@[simp] theorem Ctl.setSt_xz (c : Ctl) (f : StState → StState) : (c.setSt f).xz = c.xz := rfl
@[simp] theorem Ctl.setSt_dc (c : Ctl) (f : StState → StState) : (c.setSt f).dc = c.dc := rfl
@[simp] theorem Ctl.setSt_pl (c : Ctl) (f : StState → StState) : (c.setSt f).pl = c.pl := rfl
@[simp] theorem Ctl.setSt_es (c : Ctl) (f : StState → StState) : (c.setSt f).es = c.es := rfl
@[simp] theorem Ctl.setSt_pd (c : Ctl) (f : StState → StState) : (c.setSt f).pd = c.pd := rfl
@[simp] theorem Ctl.setSt_st (c : Ctl) (f : StState → StState) : (c.setSt f).st = f c.st := rfl
@[simp] theorem Ctl.setSt_en (c : Ctl) (f : StState → StState) : (c.setSt f).en = c.en := rfl
@[simp] theorem Ctl.setSt_out (c : Ctl) (f : StState → StState) : (c.setSt f).out = c.out := rfl

@[simp] theorem Ctl.setEn_now (c : Ctl) (f : EnState → EnState) : (c.setEn f).now = c.now := rfl
@[simp] theorem Ctl.setEn_up (c : Ctl) (f : EnState → EnState) : (c.setEn f).up = c.up := rfl
@[simp] theorem Ctl.setEn_clk (c : Ctl) (f : EnState → EnState) : (c.setEn f).clk = c.clk := rfl
@[simp] theorem Ctl.setEn_draws (c : Ctl) (f : EnState → EnState) : (c.setEn f).draws = c.draws := rfl
@[simp] theorem Ctl.setEn_ent (c : Ctl) (f : EnState → EnState) : (c.setEn f).ent = c.ent := rfl
@[simp] theorem Ctl.setEn_shadow (c : Ctl) (f : EnState → EnState) : (c.setEn f).shadow = c.shadow := rfl
@[simp] theorem Ctl.setEn_nv (c : Ctl) (f : EnState → EnState) : (c.setEn f).nv = c.nv := rfl
@[simp] theorem Ctl.setEn_regs (c : Ctl) (f : EnState → EnState) : (c.setEn f).regs = c.regs := rfl
@[simp] theorem Ctl.setEn_loHeld (c : Ctl) (f : EnState → EnState) : (c.setEn f).loHeld = c.loHeld := rfl
@[simp] theorem Ctl.setEn_hiLatch (c : Ctl) (f : EnState → EnState) : (c.setEn f).hiLatch = c.hiLatch := rfl
@[simp] theorem Ctl.setEn_irq (c : Ctl) (f : EnState → EnState) : (c.setEn f).irq = c.irq := rfl
@[simp] theorem Ctl.setEn_readData (c : Ctl) (f : EnState → EnState) : (c.setEn f).readData = c.readData := rfl
@[simp] theorem Ctl.setEn_dy (c : Ctl) (f : EnState → EnState) : (c.setEn f).dy = c.dy := rfl
@[simp] theorem Ctl.setEn_hi (c : Ctl) (f : EnState → EnState) : (c.setEn f).hi = c.hi := rfl
@[simp] theorem Ctl.setEn_tb (c : Ctl) (f : EnState → EnState) : (c.setEn f).tb = c.tb := rfl
@[simp] theorem Ctl.setEn_fm (c : Ctl) (f : EnState → EnState) : (c.setEn f).fm = c.fm := rfl
@[simp] theorem Ctl.setEn_bt (c : Ctl) (f : EnState → EnState) : (c.setEn f).bt = c.bt := rfl
@[simp] theorem Ctl.setEn_mc (c : Ctl) (f : EnState → EnState) : (c.setEn f).mc = c.mc := rfl
@[simp] theorem Ctl.setEn_cx (c : Ctl) (f : EnState → EnState) : (c.setEn f).cx = c.cx := rfl
@[simp] theorem Ctl.setEn_pm (c : Ctl) (f : EnState → EnState) : (c.setEn f).pm = c.pm := rfl
@[simp] theorem Ctl.setEn_ln (c : Ctl) (f : EnState → EnState) : (c.setEn f).ln = c.ln := rfl
@[simp] theorem Ctl.setEn_rg (c : Ctl) (f : EnState → EnState) : (c.setEn f).rg = c.rg := rfl
@[simp] theorem Ctl.setEn_xz (c : Ctl) (f : EnState → EnState) : (c.setEn f).xz = c.xz := rfl
@[simp] theorem Ctl.setEn_dc (c : Ctl) (f : EnState → EnState) : (c.setEn f).dc = c.dc := rfl
@[simp] theorem Ctl.setEn_pl (c : Ctl) (f : EnState → EnState) : (c.setEn f).pl = c.pl := rfl
@[simp] theorem Ctl.setEn_es (c : Ctl) (f : EnState → EnState) : (c.setEn f).es = c.es := rfl
@[simp] theorem Ctl.setEn_pd (c : Ctl) (f : EnState → EnState) : (c.setEn f).pd = c.pd := rfl
@[simp] theorem Ctl.setEn_st (c : Ctl) (f : EnState → EnState) : (c.setEn f).st = c.st := rfl
@[simp] theorem Ctl.setEn_en (c : Ctl) (f : EnState → EnState) : (c.setEn f).en = f c.en := rfl
@[simp] theorem Ctl.setEn_out (c : Ctl) (f : EnState → EnState) : (c.setEn f).out = c.out := rfl

@[simp] theorem Ctl.setClk_now (c : Ctl) (f : Clock → Clock) : (c.setClk f).now = c.now := rfl
@[simp] theorem Ctl.setClk_up (c : Ctl) (f : Clock → Clock) : (c.setClk f).up = c.up := rfl
@[simp] theorem Ctl.setClk_clk (c : Ctl) (f : Clock → Clock) : (c.setClk f).clk = f c.clk := rfl
@[simp] theorem Ctl.setClk_draws (c : Ctl) (f : Clock → Clock) : (c.setClk f).draws = c.draws := rfl
@[simp] theorem Ctl.setClk_ent (c : Ctl) (f : Clock → Clock) : (c.setClk f).ent = c.ent := rfl
@[simp] theorem Ctl.setClk_shadow (c : Ctl) (f : Clock → Clock) : (c.setClk f).shadow = c.shadow := rfl
@[simp] theorem Ctl.setClk_nv (c : Ctl) (f : Clock → Clock) : (c.setClk f).nv = c.nv := rfl
@[simp] theorem Ctl.setClk_regs (c : Ctl) (f : Clock → Clock) : (c.setClk f).regs = c.regs := rfl
@[simp] theorem Ctl.setClk_loHeld (c : Ctl) (f : Clock → Clock) : (c.setClk f).loHeld = c.loHeld := rfl
@[simp] theorem Ctl.setClk_hiLatch (c : Ctl) (f : Clock → Clock) : (c.setClk f).hiLatch = c.hiLatch := rfl
@[simp] theorem Ctl.setClk_irq (c : Ctl) (f : Clock → Clock) : (c.setClk f).irq = c.irq := rfl
@[simp] theorem Ctl.setClk_readData (c : Ctl) (f : Clock → Clock) : (c.setClk f).readData = c.readData := rfl
@[simp] theorem Ctl.setClk_dy (c : Ctl) (f : Clock → Clock) : (c.setClk f).dy = c.dy := rfl
@[simp] theorem Ctl.setClk_hi (c : Ctl) (f : Clock → Clock) : (c.setClk f).hi = c.hi := rfl
@[simp] theorem Ctl.setClk_tb (c : Ctl) (f : Clock → Clock) : (c.setClk f).tb = c.tb := rfl
@[simp] theorem Ctl.setClk_fm (c : Ctl) (f : Clock → Clock) : (c.setClk f).fm = c.fm := rfl
@[simp] theorem Ctl.setClk_bt (c : Ctl) (f : Clock → Clock) : (c.setClk f).bt = c.bt := rfl
@[simp] theorem Ctl.setClk_mc (c : Ctl) (f : Clock → Clock) : (c.setClk f).mc = c.mc := rfl
@[simp] theorem Ctl.setClk_cx (c : Ctl) (f : Clock → Clock) : (c.setClk f).cx = c.cx := rfl
@[simp] theorem Ctl.setClk_pm (c : Ctl) (f : Clock → Clock) : (c.setClk f).pm = c.pm := rfl
@[simp] theorem Ctl.setClk_ln (c : Ctl) (f : Clock → Clock) : (c.setClk f).ln = c.ln := rfl
@[simp] theorem Ctl.setClk_rg (c : Ctl) (f : Clock → Clock) : (c.setClk f).rg = c.rg := rfl
@[simp] theorem Ctl.setClk_xz (c : Ctl) (f : Clock → Clock) : (c.setClk f).xz = c.xz := rfl
@[simp] theorem Ctl.setClk_dc (c : Ctl) (f : Clock → Clock) : (c.setClk f).dc = c.dc := rfl
@[simp] theorem Ctl.setClk_pl (c : Ctl) (f : Clock → Clock) : (c.setClk f).pl = c.pl := rfl
@[simp] theorem Ctl.setClk_es (c : Ctl) (f : Clock → Clock) : (c.setClk f).es = c.es := rfl
@[simp] theorem Ctl.setClk_pd (c : Ctl) (f : Clock → Clock) : (c.setClk f).pd = c.pd := rfl
@[simp] theorem Ctl.setClk_st (c : Ctl) (f : Clock → Clock) : (c.setClk f).st = c.st := rfl
@[simp] theorem Ctl.setClk_en (c : Ctl) (f : Clock → Clock) : (c.setClk f).en = c.en := rfl
@[simp] theorem Ctl.setClk_out (c : Ctl) (f : Clock → Clock) : (c.setClk f).out = c.out := rfl

@[simp] theorem Ctl.setLane_now (c : Ctl) (l : Nat) (f : Lane → Lane) : (c.setLane l f).now = c.now := rfl
@[simp] theorem Ctl.setLane_up (c : Ctl) (l : Nat) (f : Lane → Lane) : (c.setLane l f).up = c.up := rfl
@[simp] theorem Ctl.setLane_clk (c : Ctl) (l : Nat) (f : Lane → Lane) : (c.setLane l f).clk = c.clk := rfl
@[simp] theorem Ctl.setLane_draws (c : Ctl) (l : Nat) (f : Lane → Lane) : (c.setLane l f).draws = c.draws := rfl
@[simp] theorem Ctl.setLane_ent (c : Ctl) (l : Nat) (f : Lane → Lane) : (c.setLane l f).ent = c.ent := rfl
@[simp] theorem Ctl.setLane_shadow (c : Ctl) (l : Nat) (f : Lane → Lane) : (c.setLane l f).shadow = c.shadow := rfl
@[simp] theorem Ctl.setLane_nv (c : Ctl) (l : Nat) (f : Lane → Lane) : (c.setLane l f).nv = c.nv := rfl
@[simp] theorem Ctl.setLane_regs (c : Ctl) (l : Nat) (f : Lane → Lane) : (c.setLane l f).regs = c.regs := rfl
@[simp] theorem Ctl.setLane_loHeld (c : Ctl) (l : Nat) (f : Lane → Lane) : (c.setLane l f).loHeld = c.loHeld := rfl
@[simp] theorem Ctl.setLane_hiLatch (c : Ctl) (l : Nat) (f : Lane → Lane) : (c.setLane l f).hiLatch = c.hiLatch := rfl
@[simp] theorem Ctl.setLane_irq (c : Ctl) (l : Nat) (f : Lane → Lane) : (c.setLane l f).irq = c.irq := rfl
@[simp] theorem Ctl.setLane_readData (c : Ctl) (l : Nat) (f : Lane → Lane) : (c.setLane l f).readData = c.readData := rfl
@[simp] theorem Ctl.setLane_dy (c : Ctl) (l : Nat) (f : Lane → Lane) : (c.setLane l f).dy = c.dy := rfl
@[simp] theorem Ctl.setLane_hi (c : Ctl) (l : Nat) (f : Lane → Lane) : (c.setLane l f).hi = c.hi := rfl
@[simp] theorem Ctl.setLane_tb (c : Ctl) (l : Nat) (f : Lane → Lane) : (c.setLane l f).tb = c.tb := rfl
@[simp] theorem Ctl.setLane_fm (c : Ctl) (l : Nat) (f : Lane → Lane) : (c.setLane l f).fm = c.fm := rfl
@[simp] theorem Ctl.setLane_bt (c : Ctl) (l : Nat) (f : Lane → Lane) : (c.setLane l f).bt = c.bt := rfl
@[simp] theorem Ctl.setLane_mc (c : Ctl) (l : Nat) (f : Lane → Lane) : (c.setLane l f).mc = c.mc := rfl
@[simp] theorem Ctl.setLane_cx (c : Ctl) (l : Nat) (f : Lane → Lane) : (c.setLane l f).cx = c.cx := rfl
@[simp] theorem Ctl.setLane_pm (c : Ctl) (l : Nat) (f : Lane → Lane) : (c.setLane l f).pm = c.pm := rfl
@[simp] theorem Ctl.setLane_ln (c : Ctl) (l : Nat) (f : Lane → Lane) : (c.setLane l f).ln = { c.ln with lanes := updAt c.ln.lanes l f } := rfl
@[simp] theorem Ctl.setLane_rg (c : Ctl) (l : Nat) (f : Lane → Lane) : (c.setLane l f).rg = c.rg := rfl
@[simp] theorem Ctl.setLane_xz (c : Ctl) (l : Nat) (f : Lane → Lane) : (c.setLane l f).xz = c.xz := rfl
@[simp] theorem Ctl.setLane_dc (c : Ctl) (l : Nat) (f : Lane → Lane) : (c.setLane l f).dc = c.dc := rfl
@[simp] theorem Ctl.setLane_pl (c : Ctl) (l : Nat) (f : Lane → Lane) : (c.setLane l f).pl = c.pl := rfl
@[simp] theorem Ctl.setLane_es (c : Ctl) (l : Nat) (f : Lane → Lane) : (c.setLane l f).es = c.es := rfl
@[simp] theorem Ctl.setLane_pd (c : Ctl) (l : Nat) (f : Lane → Lane) : (c.setLane l f).pd = c.pd := rfl
@[simp] theorem Ctl.setLane_st (c : Ctl) (l : Nat) (f : Lane → Lane) : (c.setLane l f).st = c.st := rfl
@[simp] theorem Ctl.setLane_en (c : Ctl) (l : Nat) (f : Lane → Lane) : (c.setLane l f).en = c.en := rfl
@[simp] theorem Ctl.setLane_out (c : Ctl) (l : Nat) (f : Lane → Lane) : (c.setLane l f).out = c.out := rfl

@[simp] theorem Ctl.setPort_now (c : Ctl) (p : Nat) (f : Port → Port) : (c.setPort p f).now = c.now := rfl
@[simp] theorem Ctl.setPort_up (c : Ctl) (p : Nat) (f : Port → Port) : (c.setPort p f).up = c.up := rfl
@[simp] theorem Ctl.setPort_clk (c : Ctl) (p : Nat) (f : Port → Port) : (c.setPort p f).clk = c.clk := rfl
@[simp] theorem Ctl.setPort_draws (c : Ctl) (p : Nat) (f : Port → Port) : (c.setPort p f).draws = c.draws := rfl
@[simp] theorem Ctl.setPort_ent (c : Ctl) (p : Nat) (f : Port → Port) : (c.setPort p f).ent = c.ent := rfl
@[simp] theorem Ctl.setPort_shadow (c : Ctl) (p : Nat) (f : Port → Port) : (c.setPort p f).shadow = c.shadow := rfl
@[simp] theorem Ctl.setPort_nv (c : Ctl) (p : Nat) (f : Port → Port) : (c.setPort p f).nv = c.nv := rfl
@[simp] theorem Ctl.setPort_regs (c : Ctl) (p : Nat) (f : Port → Port) : (c.setPort p f).regs = c.regs := rfl
@[simp] theorem Ctl.setPort_loHeld (c : Ctl) (p : Nat) (f : Port → Port) : (c.setPort p f).loHeld = c.loHeld := rfl
@[simp] theorem Ctl.setPort_hiLatch (c : Ctl) (p : Nat) (f : Port → Port) : (c.setPort p f).hiLatch = c.hiLatch := rfl
@[simp] theorem Ctl.setPort_irq (c : Ctl) (p : Nat) (f : Port → Port) : (c.setPort p f).irq = c.irq := rfl
@[simp] theorem Ctl.setPort_readData (c : Ctl) (p : Nat) (f : Port → Port) : (c.setPort p f).readData = c.readData := rfl
@[simp] theorem Ctl.setPort_dy (c : Ctl) (p : Nat) (f : Port → Port) : (c.setPort p f).dy = c.dy := rfl
@[simp] theorem Ctl.setPort_hi (c : Ctl) (p : Nat) (f : Port → Port) : (c.setPort p f).hi = c.hi := rfl
@[simp] theorem Ctl.setPort_tb (c : Ctl) (p : Nat) (f : Port → Port) : (c.setPort p f).tb = c.tb := rfl
@[simp] theorem Ctl.setPort_fm (c : Ctl) (p : Nat) (f : Port → Port) : (c.setPort p f).fm = c.fm := rfl
@[simp] theorem Ctl.setPort_bt (c : Ctl) (p : Nat) (f : Port → Port) : (c.setPort p f).bt = c.bt := rfl
@[simp] theorem Ctl.setPort_mc (c : Ctl) (p : Nat) (f : Port → Port) : (c.setPort p f).mc = c.mc := rfl
@[simp] theorem Ctl.setPort_cx (c : Ctl) (p : Nat) (f : Port → Port) : (c.setPort p f).cx = c.cx := rfl
@[simp] theorem Ctl.setPort_pm (c : Ctl) (p : Nat) (f : Port → Port) : (c.setPort p f).pm = c.pm := rfl
@[simp] theorem Ctl.setPort_ln (c : Ctl) (p : Nat) (f : Port → Port) : (c.setPort p f).ln = { c.ln with ports := updAt c.ln.ports p f } := rfl
@[simp] theorem Ctl.setPort_rg (c : Ctl) (p : Nat) (f : Port → Port) : (c.setPort p f).rg = c.rg := rfl
@[simp] theorem Ctl.setPort_xz (c : Ctl) (p : Nat) (f : Port → Port) : (c.setPort p f).xz = c.xz := rfl
@[simp] theorem Ctl.setPort_dc (c : Ctl) (p : Nat) (f : Port → Port) : (c.setPort p f).dc = c.dc := rfl
@[simp] theorem Ctl.setPort_pl (c : Ctl) (p : Nat) (f : Port → Port) : (c.setPort p f).pl = c.pl := rfl
@[simp] theorem Ctl.setPort_es (c : Ctl) (p : Nat) (f : Port → Port) : (c.setPort p f).es = c.es := rfl
@[simp] theorem Ctl.setPort_pd (c : Ctl) (p : Nat) (f : Port → Port) : (c.setPort p f).pd = c.pd := rfl
@[simp] theorem Ctl.setPort_st (c : Ctl) (p : Nat) (f : Port → Port) : (c.setPort p f).st = c.st := rfl
@[simp] theorem Ctl.setPort_en (c : Ctl) (p : Nat) (f : Port → Port) : (c.setPort p f).en = c.en := rfl
@[simp] theorem Ctl.setPort_out (c : Ctl) (p : Nat) (f : Port → Port) : (c.setPort p f).out = c.out := rfl

/-! ### Time passes (13 R382, R394) -/

@[simp] theorem Ctl.advance_freq (c : Ctl) (dt : Nat) : (c.advance dt).clk.freq = c.clk.freq := rfl
@[simp] theorem Ctl.advance_est (c : Ctl) (dt : Nat) : (c.advance dt).clk.est = c.clk.est := rfl
@[simp] theorem Ctl.advance_estTemp (c : Ctl) (dt : Nat) : (c.advance dt).clk.estTemp = c.clk.estTemp := rfl
@[simp] theorem Ctl.advance_slew (c : Ctl) (dt : Nat) : (c.advance dt).clk.slew = c.clk.slew.map (fun s => (s.1, s.2 + dt)) := rfl

/-- A slew keeps its size while time passes. -/
theorem Ctl.advance_slewSize (c : Ctl) (dt : Nat) : (c.advance dt).clk.slew.map Prod.fst = c.clk.slew.map Prod.fst := by
  rw [Ctl.advance_slew]; cases c.clk.slew <;> rfl

/-- The domains stay as far apart as they are while time passes. -/
theorem Ctl.advance_apart (c : Ctl) (dt : Nat) : (c.advance dt).clk.offA - (c.advance dt).clk.offB = c.clk.offA - c.clk.offB := by
  simp only [Ctl.advance]; omega

/-- With no correction and no slew the Tick takes the time as it is. -/
theorem Ctl.advance_free (c : Ctl) (dt : Nat) (hf : c.clk.freq = 0) (hs : c.clk.slew = none) (hr : c.clk.rem < 2 ^ 32) :
    (c.advance dt).now = tickAdd c.now dt ∧ (c.advance dt).clk = c.clk := by
  have h0 : clampI (-500000) 500000 0 = 0 := by decide
  have h1 : ((c.clk.rem : Int) + (clockAdds c.clk.freq dt + 0)).toNat = c.clk.rem + dt * 2 ^ 32 := by
    rw [hf]; simp only [clockAdds, h0]; omega
  constructor
  · simp only [Ctl.advance, hs, h1]
    congr 1; omega
  · simp only [Ctl.advance, hs, h1]
    cases hc : c.clk with
    | mk r f e et s a b =>
      rw [hc] at hr hs
      simp only [Option.map_none, Clock.mk.injEq, true_and, and_true, Int.sub_zero]
      refine ⟨?_, ?_⟩
      · simp only at hr ⊢; omega
      · simpa using hs.symm

end Sys2Proof.Machine
end

