-- ==== Sys2Proof/Laws/Entries.lean ====
section
/-! SUPPORT. Entries and register fields: what reads after a write gives. -/
namespace Sys2Proof.Machine

/-- A key that was written reads as the value; every other key reads as before. -/
theorem aGet_aSet {α : Type} (m : List (Nat × α)) (k k' : Nat) (v : α) :
    aGet (aSet m k v) k' = if k = k' then some v else aGet m k' := by
  induction m with
  | nil => by_cases h : k = k' <;> simp [aSet, aGet, firstSome, h]
  | cons p m ih =>
    obtain ⟨a, x⟩ := p
    simp only [aSet]
    by_cases h1 : k < a
    · simp only [h1, if_true, aGet, firstSome]
      by_cases h : k = k'
      · simp [h]
      · simp [h]
    · by_cases h2 : k = a
      · subst h2
        by_cases h : k = k'
        · simp [aGet, firstSome, h]
        · simp [aGet, firstSome, h]
      · simp only [h1, h2, if_false]
        by_cases h3 : a = k'
        · subst h3
          simp [aGet, firstSome, h2]
        · have := ih
          simp only [aGet] at this
          simp [aGet, firstSome, h3, this]

/-- An entry reads as what was last set; every other entry stands. -/
theorem Ctl.ev_setEv (c : Ctl) (k k' : Nat) (v : EVal) : (c.setEv k v).ev k' = if k = k' then v else c.ev k' := by
  unfold Ctl.ev
  rw [Ctl.setEv_ent, aGet_aSet]
  by_cases h : k = k' <;> simp [h]

/-- A number entry reads as what was last set; every other entry stands. -/
theorem Ctl.e_setEv (c : Ctl) (k k' : Nat) (v : EVal) : (c.setEv k v).e k' = if k = k' then v.toNum else c.e k' := by
  unfold Ctl.e
  rw [Ctl.ev_setEv]
  by_cases h : k = k' <;> simp [h]

@[simp] theorem Ctl.e_setE (c : Ctl) (k k' n : Nat) : (c.setE k n).e k' = if k = k' then n else c.e k' := Ctl.e_setEv c k k' (.num n)

@[simp] theorem Ctl.ev_setE (c : Ctl) (k k' n : Nat) : (c.setE k n).ev k' = if k = k' then .num n else c.ev k' :=
  Ctl.ev_setEv c k k' (.num n)

@[simp] theorem Ctl.e_setEa (c : Ctl) (idx i k' n : Nat) : (c.setEa idx i n).e k' = if ekey idx (i + 1) = k' then n else c.e k' :=
  Ctl.e_setE c _ k' n

/-- Keys of one index are told apart by their sub-index. -/
theorem ekey_inj (idx a b : Nat) : ekey idx a = ekey idx b ↔ a = b := by unfold ekey; omega

/-- The part's entries decide what an entry reads as. -/
theorem Ctl.ev_congr {c d : Ctl} (h : c.ent = d.ent) (k : Nat) : c.ev k = d.ev k := by unfold Ctl.ev; rw [h]
theorem Ctl.e_congr {c d : Ctl} (h : c.ent = d.ent) (k : Nat) : c.e k = d.e k := by unfold Ctl.e; rw [Ctl.ev_congr h]
theorem Ctl.ea_congr {c d : Ctl} (h : c.ent = d.ent) (idx i : Nat) : c.ea idx i = d.ea idx i := by unfold Ctl.ea; rw [Ctl.e_congr h]

@[simp] theorem Ctl.ev_advance (dt : Nat) (c : Ctl) (k : Nat) : (c.advance dt).ev k = c.ev k := rfl
@[simp] theorem Ctl.e_advance (dt : Nat) (c : Ctl) (k : Nat) : (c.advance dt).e k = c.e k := rfl
@[simp] theorem Ctl.ea_advance (dt : Nat) (c : Ctl) (idx i : Nat) : (c.advance dt).ea idx i = c.ea idx i := rfl
@[simp] theorem Ctl.e_emit (c : Ctl) (x : Emit) (k : Nat) : (c.emit x).e k = c.e k := rfl
@[simp] theorem Ctl.e_setReg (c : Ctl) (r : RegName) (inst lo v k : Nat) : (c.setReg r inst lo v).e k = c.e k := rfl
@[simp] theorem Ctl.ev_setReg (c : Ctl) (r : RegName) (inst lo v k : Nat) : (c.setReg r inst lo v).ev k = c.ev k := rfl

/-- A register field that was set. -/
theorem regFind_regSet (m : List ((RegName × Nat × Nat) × Nat)) (k k' : RegName × Nat × Nat) (v : Nat) :
    firstSome (fun p => if p.1 = k' then some p.2 else none) (regSet m k v) =
      if k = k' then some v else firstSome (fun p => if p.1 = k' then some p.2 else none) m := by
  induction m with
  | nil => by_cases h : k = k' <;> simp [regSet, firstSome, h]
  | cons p m ih =>
    obtain ⟨a, x⟩ := p
    simp only [regSet]
    by_cases h1 : a = k
    · subst h1
      by_cases h : a = k' <;> simp [firstSome, h]
    · simp only [h1, if_false, firstSome]
      by_cases h2 : a = k'
      · subst h2
        have h3 : ¬ k = a := fun h => h1 h.symm
        simp [h3]
      · simp only [h2, if_false, ih]

/-- A register field reads as what was last set; every other field stands. -/
theorem Ctl.reg_setReg (c : Ctl) (r r' : RegName) (i i' l l' v : Nat) :
    (c.setReg r i l v).reg r' i' l' = if (r, i, l) = (r', i', l') then v else c.reg r' i' l' := by
  unfold Ctl.reg
  rw [Ctl.setReg_regs, regFind_regSet]
  by_cases h : (r, i, l) = (r', i', l') <;> simp [h]

@[simp] theorem Ctl.reg_setE (c : Ctl) (k n : Nat) (r : RegName) (i l : Nat) : (c.setE k n).reg r i l = c.reg r i l := rfl
@[simp] theorem Ctl.reg_setEa (c : Ctl) (x j n : Nat) (r : RegName) (i l : Nat) : (c.setEa x j n).reg r i l = c.reg r i l := rfl
@[simp] theorem Ctl.reg_setEv (c : Ctl) (k : Nat) (v : EVal) (r : RegName) (i l : Nat) : (c.setEv k v).reg r i l = c.reg r i l := rfl
@[simp] theorem Ctl.reg_advance (dt : Nat) (c : Ctl) (r : RegName) (i l : Nat) : (c.advance dt).reg r i l = c.reg r i l := rfl
@[simp] theorem Ctl.reg_emit (c : Ctl) (x : Emit) (r : RegName) (i l : Nat) : (c.emit x).reg r i l = c.reg r i l := rfl

end Sys2Proof.Machine
end

