-- ==== Sys2Proof/Laws/Memory.lean ====
section
/-! SUPPORT. DRAM: a read after a write, and that every operation keeps the canonical form of its two lists. -/
namespace Sys2Proof.Machine

/-- The head of a canonical list lies above a bound. -/
def cellsAbove (a : Nat) : List Host.Cell → Prop
  | [] => True
  | (a', _) :: _ => a < a'

theorem cellsWf_cons (a : Nat) (b : Byte) (m : List Host.Cell) :
    cellsWf ((a, b) :: m) = true ↔ b ≠ memDefault ∧ cellsAbove a m ∧ cellsWf m = true := by
  cases m with
  | nil => simp [cellsWf, cellsAbove]
  | cons p m =>
    obtain ⟨a', b'⟩ := p
    simp only [cellsWf, cellsAbove, Bool.and_eq_true, decide_eq_true_eq, and_assoc]

theorem cellsAbove_mono {a a' : Nat} {m : List Host.Cell} (h : a ≤ a') (hm : cellsAbove a' m) : cellsAbove a m := by
  cases m with
  | nil => trivial
  | cons p m => exact Nat.lt_of_le_of_lt h hm

theorem cellSet_above (m : List Host.Cell) (x a : Nat) (b : Byte) (hm : cellsWf m = true) (h : cellsAbove x m) (hx : x < a) :
    cellsAbove x (cellSet m a b) := by
  cases m with
  | nil =>
    simp only [cellSet]
    split
    · trivial
    · exact hx
  | cons p m =>
    obtain ⟨a', b'⟩ := p
    have h0 : x < a' := h
    have hw := (cellsWf_cons a' b' m).1 hm
    simp only [cellSet]
    by_cases h1 : a < a'
    · simp only [h1, if_true]
      by_cases h2 : b = memDefault
      · simp only [h2, if_true]; exact h0
      · simp only [h2, if_false]; exact hx
    · simp only [h1, if_false]
      by_cases h3 : a = a'
      · simp only [h3, if_true]
        by_cases h2 : b = memDefault
        · simp only [h2, if_true]; exact cellsAbove_mono (Nat.le_of_lt h0) hw.2.1
        · simp only [h2, if_false]; exact h0
      · simp only [h3, if_false]; exact h0

/-- Storing an octet keeps the canonical form. -/
theorem cellSet_wf (m : List Host.Cell) (a : Nat) (b : Byte) (h : cellsWf m = true) : cellsWf (cellSet m a b) = true := by
  induction m with
  | nil =>
    simp only [cellSet]
    split
    · rfl
    · rename_i hb; simp [cellsWf, hb]
  | cons p m ih =>
    obtain ⟨a', b'⟩ := p
    obtain ⟨h1, h2, h3⟩ := (cellsWf_cons a' b' m).1 h
    simp only [cellSet]
    by_cases ha : a < a'
    · simp only [ha, if_true]
      by_cases hb : b = memDefault
      · simp only [hb, if_true]; exact h
      · simp only [hb, if_false]; exact (cellsWf_cons _ _ _).2 ⟨hb, ha, h⟩
    · simp only [ha, if_false]
      by_cases he : a = a'
      · simp only [he, if_true]
        by_cases hb : b = memDefault
        · simp only [hb, if_true]; exact h3
        · simp only [hb, if_false]; exact (cellsWf_cons _ _ _).2 ⟨hb, h2, h3⟩
      · simp only [he, if_false]
        exact (cellsWf_cons _ _ _).2 ⟨h1, cellSet_above m a' a b h3 h2 (by omega), ih h3⟩

theorem rising_cons (a : Nat) (l : List Nat) : rising (a :: l) = true ↔ (∀ x ∈ l, a < x) ∧ rising l = true := by
  induction l generalizing a with
  | nil => simp [rising]
  | cons b l ih =>
    simp only [rising, Bool.and_eq_true, decide_eq_true_eq, List.mem_cons]
    constructor
    · rintro ⟨h1, h2⟩
      refine ⟨?_, h2⟩
      rintro x (rfl | hx)
      · exact h1
      · exact Nat.lt_trans h1 (((ih b).1 h2).1 x hx)
    · rintro ⟨h1, h2⟩
      exact ⟨h1 b (Or.inl rfl), h2⟩

/-- A rising list stays rising under a filter. -/
theorem rising_filter (p : Nat → Bool) (l : List Nat) (h : rising l = true) : rising (l.filter p) = true := by
  induction l with
  | nil => rfl
  | cons a l ih =>
    obtain ⟨h1, h2⟩ := (rising_cons a l).1 h
    by_cases hp : p a = true
    · rw [List.filter_cons_of_pos hp]
      exact (rising_cons _ _).2 ⟨fun x hx => h1 x (List.mem_filter.1 hx).1, ih h2⟩
    · rw [List.filter_cons_of_neg hp]
      exact ih h2

theorem rising_append (a b : List Nat) (ha : rising a = true) (hb : rising b = true) (h : ∀ x ∈ a, ∀ y ∈ b, x < y) :
    rising (a ++ b) = true := by
  induction a with
  | nil => exact hb
  | cons x a ih =>
    obtain ⟨h1, h2⟩ := (rising_cons x a).1 ha
    rw [List.cons_append]
    refine (rising_cons _ _).2 ⟨?_, ih h2 (fun y hy => h y (List.mem_cons_of_mem _ hy))⟩
    intro y hy
    rcases List.mem_append.1 hy with h' | h'
    · exact h1 y h'
    · exact h x List.mem_cons_self y h'

/-- A number put into a rising list keeps it rising. -/
theorem insertRising_rising (l : List Nat) (n : Nat) (h : rising l = true) : rising (insertRising l n) = true := by
  unfold insertRising
  split
  · exact h
  · refine rising_append _ _ (rising_filter _ l h) ?_ ?_
    · refine (rising_cons _ _).2 ⟨fun x hx => ?_, rising_filter _ l h⟩
      exact of_decide_eq_true (List.mem_filter.1 hx).2
    · intro x hx y hy
      have h1 : x < n := of_decide_eq_true (List.mem_filter.1 hx).2
      rcases List.mem_cons.1 hy with rfl | hy
      · exact h1
      · exact Nat.lt_trans h1 (of_decide_eq_true (List.mem_filter.1 hy).2)

/-- The form of the list of flipped bits: rising bursts, none without a flipped bit. -/
def errsWf (l : List (Nat × Nat)) : Prop := rising (l.map Prod.fst) = true ∧ ∀ e ∈ l, e.2 ≠ 0

theorem Mem.wf_iff (m : Mem) : m.wf = true ↔ cellsWf m.dram = true ∧ errsWf m.errs := by
  unfold Mem.wf errsWf
  simp [Bool.and_eq_true, and_assoc]

/-- A filter keeps the list of flipped bits in form. -/
theorem errsWf_filter (p : Nat × Nat → Bool) (l : List (Nat × Nat)) (h : errsWf l) : errsWf (l.filter p) := by
  refine ⟨?_, fun e he => h.2 e (List.mem_filter.1 he).1⟩
  have hr := h.1
  clear h
  induction l with
  | nil => rfl
  | cons q l ih =>
    obtain ⟨h1, h2⟩ := (rising_cons q.1 (l.map Prod.fst)).1 hr
    by_cases hp : p q = true
    · rw [List.filter_cons_of_pos hp, List.map_cons]
      refine (rising_cons _ _).2 ⟨fun x hx => ?_, ih h2⟩
      obtain ⟨e, he, rfl⟩ := List.mem_map.1 hx
      exact h1 e.1 (List.mem_map.2 ⟨e, (List.mem_filter.1 he).1, rfl⟩)
    · rw [List.filter_cons_of_neg hp]
      exact ih h2

/-- Keys of an association list with one key set. -/
theorem mem_aSet_fst {l : List (Nat × Nat)} {k v x : Nat} (h : x ∈ (aSet l k v).map Prod.fst) : x = k ∨ x ∈ l.map Prod.fst := by
  induction l with
  | nil => left; simpa [aSet] using h
  | cons q l ih =>
    obtain ⟨a, w⟩ := q
    simp only [aSet] at h
    split at h
    · rcases List.mem_cons.1 h with rfl | h
      · exact .inl rfl
      · exact .inr h
    · split at h
      · rename_i _ hk
        rcases List.mem_cons.1 h with rfl | h
        · exact .inl rfl
        · exact .inr (List.mem_cons_of_mem _ h)
      · rcases List.mem_cons.1 h with rfl | h
        · exact .inr List.mem_cons_self
        · rcases ih h with h | h
          · exact .inl h
          · exact .inr (List.mem_cons_of_mem _ h)

/-- Setting the flipped bits of a burst keeps the list in form. -/
theorem errsWf_aSet (l : List (Nat × Nat)) (k v : Nat) (hv : v ≠ 0) (h : errsWf l) : errsWf (aSet l k v) := by
  induction l with
  | nil => exact ⟨rfl, by simpa [aSet] using hv⟩
  | cons q l ih =>
    obtain ⟨a, w⟩ := q
    obtain ⟨h1, h2⟩ := (rising_cons a (l.map Prod.fst)).1 h.1
    have hl : errsWf l := ⟨h2, fun e he => h.2 e (List.mem_cons_of_mem _ he)⟩
    simp only [aSet]
    split
    · rename_i hk
      refine ⟨(rising_cons _ _).2 ⟨fun x hx => ?_, h.1⟩, fun e he => ?_⟩
      · rcases List.mem_cons.1 hx with rfl | hx
        · exact hk
        · exact Nat.lt_trans hk (h1 x hx)
      · rcases List.mem_cons.1 he with rfl | he
        · exact hv
        · exact h.2 e he
    · split
      · rename_i _ hk
        subst hk
        refine ⟨(rising_cons _ _).2 ⟨h1, h2⟩, fun e he => ?_⟩
        rcases List.mem_cons.1 he with rfl | he
        · exact hv
        · exact hl.2 e he
      · rename_i hk hk'
        have hi := ih hl
        refine ⟨(rising_cons _ _).2 ⟨fun x hx => ?_, hi.1⟩, fun e he => ?_⟩
        · rcases mem_aSet_fst hx with rfl | hx
          · omega
          · exact h1 x hx
        · rcases List.mem_cons.1 he with rfl | he
          · exact h.2 _ List.mem_cons_self
          · exact hi.2 e he

/-- Storing one octet keeps the form of memory. -/
theorem Mem.set_wf (m : Mem) (a : Nat) (b : Byte) (h : m.wf = true) : (m.set a b).wf = true :=
  (Mem.wf_iff _).2 ⟨cellSet_wf m.dram a b ((Mem.wf_iff m).1 h).1, ((Mem.wf_iff m).1 h).2⟩

/-- Storing octets keeps the form of memory. -/
theorem Mem.write_wf (bs : List Byte) (m : Mem) (a : Nat) (h : m.wf = true) : (m.write a bs).wf = true := by
  induction bs generalizing m a with
  | nil => exact h
  | cons b bs ih => exact ih (m.set a b) (a + 1) (m.set_wf a b h)

/-- Flips that are mended keep the form of memory, whatever the link does. -/
theorem Mem.filter_wf (m : Mem) (p : Nat × Nat → Bool) (l : List (Nat × Nat)) (h : m.wf = true) :
    Mem.wf { m with errs := m.errs.filter p, link := l } = true :=
  (Mem.wf_iff _).2 ⟨((Mem.wf_iff m).1 h).1, errsWf_filter p m.errs ((Mem.wf_iff m).1 h).2⟩

/-- Setting the flipped bits of a burst keeps the form of memory. -/
theorem Mem.setErr_wf (m : Mem) (b mask : Nat) (h : m.wf = true) : (m.setErr b mask).wf = true := by
  refine (Mem.wf_iff _).2 ⟨((Mem.wf_iff m).1 h).1, ?_⟩
  show errsWf (if mask = 0 then aDel m.errs b else aSet m.errs b mask)
  by_cases hm : mask = 0
  · rw [if_pos hm]; exact errsWf_filter _ m.errs ((Mem.wf_iff m).1 h).2
  · rw [if_neg hm]; exact errsWf_aSet m.errs b mask hm ((Mem.wf_iff m).1 h).2

/-- Inverting bits of a burst keeps the form of memory. -/
theorem Mem.invert_wf (m : Mem) (b mask : Nat) (h : m.wf = true) : (m.invert b mask).wf = true := by
  unfold Mem.invert
  induction bitsOf 512 mask generalizing m with
  | nil => exact h
  | cons i l ih => exact ih _ (m.set_wf _ _ h)

/-- A flipped bit keeps the form of memory. -/
theorem Mem.flip_wf (m : Mem) (b i : Nat) (h : m.wf = true) : (m.flip b i).wf = true := by
  unfold Mem.flip
  dsimp only
  split
  · exact Mem.setErr_wf _ b 0 (m.invert_wf b _ h)
  · exact Mem.setErr_wf _ b _ (m.invert_wf b _ h)
  · exact m.setErr_wf b _ h

/-- What befalls DRAM keeps the form of memory. -/
theorem Mem.found_wf (es : List DramErr) (m : Mem) (h : m.wf = true) : (m.found es).wf = true := by
  unfold Mem.found
  induction es generalizing m with
  | nil => exact h
  | cons e es ih =>
    refine ih (m.befalls e) ?_
    cases e with
    | flip b i => exact m.flip_wf b i h
    | link b => exact h
    | fail b again => exact h

/-- A client's store keeps the form of memory. -/
theorem Mem.store_wf (m : Mem) (a : Nat) (bs : List Byte) (h : m.wf = true) : (m.store a bs).wf = true :=
  (m.write a bs).filter_wf _ (m.write a bs).link (Mem.write_wf bs m a h)

/-- What a step has corrected is written back in form. -/
theorem mended_wf (r : Mem × Ctl) (h : r.1.wf = true) : (mended r).1.wf = true := r.1.filter_wf _ [] h

/-- A step that flips no bit and corrects none leaves the octets and the flips as they were. -/
theorem mended_clean (r : Mem × Ctl) (he : r.1.errs = []) (hl : r.1.link = []) : (mended r).1 = r.1 := by
  obtain ⟨⟨d, e, l⟩, c⟩ := r
  simp only at he hl
  subst he hl
  rfl

/-! ### A read after a write -/

theorem cellFind_cellSet (m : List Host.Cell) (a x : Nat) (b : Byte) (h : cellsWf m = true) :
    (match (cellSet m a b).find? (fun p => p.1 = x) with
      | some p => p.2
      | none => memDefault) = if a = x then b else (match m.find? (fun p => p.1 = x) with
      | some p => p.2
      | none => memDefault) := by
  have above : ∀ (l : List Host.Cell) (y : Nat), cellsWf l = true → cellsAbove y l → l.find? (fun p => decide (p.1 = y)) = none := by
    intro l
    induction l with
    | nil => intros; rfl
    | cons p l ih =>
      intro y hl hy
      obtain ⟨a', b'⟩ := p
      have hy' : y < a' := hy
      have hw := (cellsWf_cons a' b' l).1 hl
      have hne : ¬ a' = y := by omega
      simp only [List.find?, hne, decide_false]
      exact ih y hw.2.2 (cellsAbove_mono (Nat.le_of_lt hy') hw.2.1)
  induction m with
  | nil =>
    simp only [cellSet]
    by_cases hb : b = memDefault
    · by_cases hx : a = x <;> simp [hb, hx]
    · by_cases hx : a = x <;> simp [hb, hx]
  | cons p m ih =>
    obtain ⟨a', b'⟩ := p
    obtain ⟨h1, h2, h3⟩ := (cellsWf_cons a' b' m).1 h
    simp only [cellSet]
    by_cases ha : a < a'
    · have hn : ((a', b') :: m).find? (fun p => decide (p.1 = a)) = none := above _ a h ha
      simp only [ha, if_true]
      by_cases hb : b = memDefault
      · simp only [hb, if_true]
        by_cases hx : a = x
        · subst hx; simp [hn]
        · simp [hx]
      · simp only [hb, if_false]
        by_cases hx : a = x
        · subst hx; simp [List.find?]
        · simp [List.find?, hx]
    · simp only [ha, if_false]
      by_cases he : a = a'
      · subst he
        simp only [if_true]
        have hn : m.find? (fun p => decide (p.1 = a)) = none := above m a h3 h2
        by_cases hb : b = memDefault
        · simp only [hb, if_true]
          by_cases hx : a = x
          · subst hx; simp [hn]
          · simp [hx]
        · simp only [hb, if_false]
          by_cases hx : a = x
          · subst hx; simp
          · simp [hx]
      · simp only [he, if_false]
        by_cases hx' : a' = x
        · have hx : ¬ a = x := by omega
          simp [hx', hx]
        · have := ih h3
          simp only [List.find?, hx', decide_false]
          exact this

/-- A read after a store of one octet: the octet at its address, and every other address as before. -/
theorem Mem.get_set (m : Mem) (a x : Nat) (b : Byte) (h : m.wf = true) : (m.set a b).get x = if a = x then b else m.get x :=
  cellFind_cellSet m.dram a x b ((Mem.wf_iff m).1 h).1

/-- A store of octets leaves every address outside them. -/
theorem Mem.get_write_outside (bs : List Byte) (m : Mem) (a x : Nat) (h : m.wf = true) (hx : x < a ∨ a + bs.length ≤ x) :
    (m.write a bs).get x = m.get x := by
  induction bs generalizing m a with
  | nil => rfl
  | cons b bs ih =>
    have hl : (b :: bs).length = bs.length + 1 := rfl
    rw [hl] at hx
    have hne : ¬ a = x := by omega
    show ((m.set a b).write (a + 1) bs).get x = m.get x
    rw [ih (m.set a b) (a + 1) (m.set_wf a b h) (by omega), Mem.get_set m a x b h]
    simp [hne]

end Sys2Proof.Machine
end

