-- ==== Sys2Proof/WellFormed.lean ====
section
/-! DEFINITION. What operands a command may carry: the ranges its rule gives. A command outside them has no sender in the spec; its
meaning then acts on nothing, and no statement rests on it. -/
namespace Sys2Proof

open Machine

/-- The operands of a command are within the ranges its rule gives. -/
def Instr.wf (i : Instr) : Bool :=
  match i with
  | .powerOn _ _ => true
  | .porRelease _ reach _ mr status => decide (1 ≤ reach) && decide (reach ≤ 5) && decide (status.length = 8) && mr.all mramFlipWf
  | .tadpoleSupplyRetry _ => true
  | .warmReset _ cut => cut.all MramCut.wf
  | .resetNRise _ => true
  | .startTimeout _ cut => cut.all MramCut.wf
  | .pwrGoodRise _ k fails _ => decide (k < 4) && fails.all (fun f => decide (1 ≤ f.1) && decide (f.1 ≤ 7))
  | .sequenceFailed _ island => island.all (fun i => decide (3 ≤ i) && decide (i ≤ 7))
  | .dramTrainingComplete _ devs fail => decide (devs.length = 6) && devs.all (fun d => decide (d.length ≤ 8)) && fail.all (fun f => decide (f.1 < 6) && decide (f.2.1 < 4) && decide (1 ≤ f.2.2) && decide (f.2.2 ≤ 6))
  | .supplyFail _ rail _ cut => decide (rail ≤ 8) && cut.all MramCut.wf
  | .shutdownRestart _ => true
  | .thermalRound _ readings cut => decide (readings.length = 24) && cut.all MramCut.wf
  | .siteReadmitted _ site => decide (site < 24)
  | .throttleHoldExpiry _ => true
  | .avsUpdate _ slack => decide (slack ≤ 100)
  | .avsEmergency _ island slack => decide (2 ≤ island) && decide (island ≤ 7) && decide (slack < 3)
  | .pmbusPoll _ answers => decide (answers.length = 8)
  | .pmbAlert _ status => decide (status.length = 8)
  | .refclkLost _ => true
  | .pllUnlock _ pll => decide (2 ≤ pll) && decide (pll ≤ 7)
  | .referenceCompare _ _ => true
  | .recalTrigger _ item idx _ => decide (1 ≤ item) && decide (item ≤ 8) && decide (idx < 56)
  | .calNow _ item => (decide (1 ≤ item) && decide (item ≤ 8)) || decide (item = 255)
  | .calInstanceDone _ item idx residual _ => decide (1 ≤ item) && decide (item ≤ 8) && decide (idx < 56) && decide (residual < 256)
  | .islandGateChange _ => true
  | .lifeUpdate _ => true
  | .cpMismatch _ pair => decide (pair < 2)
  | .cpWatchdog _ pair => decide (pair < 2)
  | .cpRestartDone _ pair => decide (pair < 2)
  | .fwLoadBegin _ => true
  | .fwLoadData _ _ => true
  | .fwLoadEnd _ => true
  | .fwLoadAbort _ => true
  | .fwCheckDone _ => true
  | .bootRestart _ cut => cut.all MramCut.wf
  | .bootTryOther _ => true
  | .bootConfirm _ => true
  | .bootClearSettings _ => true
  | .trialConfirmTimer _ => true
  | .keyWrite _ key bytes => decide (key < 6) && decide (bytes.length = if key < 2 then 32 else 64)
  | .vostanRead _ src _ mr => mr.all mramFlipWf && decide (src.tr < 3) && (src.tr ≠ 2 || decide (src.a < 2)) && (src.tr ≠ 1 || decide (src.p < 2))
  | .vostanWrite _ src _ _ => decide (src.tr < 3) && (src.tr ≠ 2 || decide (src.a < 2)) && (src.tr ≠ 1 || decide (src.p < 2))
  | .blockRead _ src _ => decide (src.tr < 3) && (src.tr ≠ 2 || decide (src.a < 2)) && (src.tr ≠ 1 || decide (src.p < 2))
  | .blockWrite _ src _ _ => decide (src.tr < 3) && (src.tr ≠ 2 || decide (src.a < 2)) && (src.tr ≠ 1 || decide (src.p < 2))
  | .blockTransferAbandon _ _ => true
  | .subscribe _ src _ => decide (src.tr < 3) && (src.tr ≠ 2 || decide (src.a < 2)) && (src.tr ≠ 1 || decide (src.p < 2))
  | .commit _ src _ => decide (src.tr < 3) && (src.tr ≠ 2 || decide (src.a < 2)) && (src.tr ≠ 1 || decide (src.p < 2))
  | .commitDiscard _ src _ => decide (src.tr < 3) && (src.tr ≠ 2 || decide (src.a < 2)) && (src.tr ≠ 1 || decide (src.p < 2))
  | .pf0Commit _ => true
  | .pf0Discard _ => true
  | .loginChallenge _ src _ => decide (src.tr < 3) && (src.tr ≠ 2 || decide (src.a < 2)) && (src.tr ≠ 1 || decide (src.p < 2))
  | .loginProof _ src _ => decide (src.tr < 3) && (src.tr ≠ 2 || decide (src.a < 2)) && (src.tr ≠ 1 || decide (src.p < 2))
  | .loginLogout _ src _ => decide (src.tr < 3) && (src.tr ≠ 2 || decide (src.a < 2)) && (src.tr ≠ 1 || decide (src.p < 2))
  | .loginChallengeTimeout _ _ => true
  | .sessionTimeout _ _ => true
  | .lockoutExpiry _ src => decide (src.tr < 3)
  | .cyclicNotify _ _ sub _ => decide (sub < 16)
  | .onChangeNotify _ _ sub _ => decide (sub < 16)
  | .eventBatchSend _ _ sub _ => decide (sub < 16)
  | .relayReply _ pos _ => decide (pos < 64)
  | .relayTimeout _ => true
  | .mailboxGo _ _ _ => true
  | .pcieLinkReset _ => true
  | .functionLevelReset _ _ => true
  | .hostLinkUp _ width speed => [1, 2, 4, 8].contains width && decide (1 ≤ speed) && decide (speed ≤ 4)
  | .eqEnable _ queue => decide (queue < 128)
  | .eqHeadWrite _ queue value => decide (queue < 128) && decide (value < 65536)
  | .eqRecordWrite _ queue => decide (queue < 128)
  | .msixCoalesce _ queue => decide (queue < 128)
  | .jqTailWrite _ queue value => decide (queue < 2) && decide (value < 65536)
  | .jqDisable _ queue => decide (queue < 2)
  | .dmaJobDone _ _ _ _ ue => ue.all DramErr.wf
  | .irqAck _ mask => decide (mask < 256)
  | .windowAccess _ offset _ len bytes ue => decide (len ≤ 4096) && decide (bytes.length ≤ 4096) && decide (offset + max len bytes.length ≤ 268435456) && ue.all DramErr.wf
  | .registerWrite _ _ _ value _ ue => decide (value < 2 ^ 32) && ue.all DramErr.wf
  | .frameFlip _ _ _ _ _ ue => ue.all DramErr.wf
  | .flipPreNotice _ => true
  | .compareEvent _ => true
  | .ptpMessage _ port domain kind _ => decide (1 ≤ port) && decide (port ≤ 4) && decide (kind < 4) && decide (domain < 128)
  | .ptpSendTimer _ port domain kind => decide (1 ≤ port) && decide (port ≤ 4) && decide (kind < 3) && decide (domain < 2)
  | .syncTimeout _ domain => decide (domain < 2)
  | .announceTimeout _ domain => decide (domain < 2)
  | .rateSchedule _ => true
  | .rateCancel _ => true
  | .timeStep _ => true
  | .domainSwitchMessage _ domain tick => decide (domain < 128) && decide (tick < 2 ^ 64)
  | .switchTick _ => true
  | .switchNoMessageTimer _ => true
  | .revertTimer _ => true
  | .holdoverExpired _ => true
  | .portBringupStart _ port => decide (port < 2)
  | .portRetrain _ port => decide (port < 2)
  | .laneControlFrame _ lane _ => decide (lane < 18)
  | .leaderStepTimer _ port => decide (port < 2)
  | .trainRetry _ port => decide (port < 2)
  | .relockDone _ port ok bad => decide (port < 2) && ok.all (fun n => decide (n < 9)) && bad.all (fun q => decide (q.1 < 9) && decide (1 ≤ q.2) && decide (q.2 ≤ 9))
  | .adaptationDone _ lane h w => decide (lane < 18) && decide (h < 1024) && decide (w ≤ 64)
  | .stepCheckDone _ port res solo => decide (port < 2) && res.all (fun r => decide (r.1 < 9) && decide (r.2.2.2.1 < 1024) && decide (r.2.2.2.2 ≤ 64)) && decide (solo.getD 0 < 9)
  | .noPartnerTimeout _ port => decide (port < 2)
  | .laneFailureDetect _ lane cause seen => decide (lane < 56) && decide (cause < 10) && seen.all (fun g => decide (g < 4))
  | .laneRetrain _ lane => decide (lane < 18)
  | .retrainRetry _ lane => decide (lane < 18)
  | .eyeUpdate _ lane h w _ _ => decide (lane < 56) && decide (h < 1024) && decide (w ≤ 64)
  | .quietCheckPeriod _ lane h w => decide (lane < 18) && decide (h < 1024) && decide (w ≤ 64)
  | .brumationExit _ port => decide (port < 2)
  | .laneTest _ lane => decide (lane < 56)
  | .laneReturn _ lane => decide (lane < 56)
  | .testInject _ lane => decide (lane < 56)
  | .returnLaneSyncLoss _ r seen => decide (r < 4) && seen.all (fun g => decide (g < 4))
  | .ringFrameRx _ port words skew => decide (port < 2) && decide (words.length ≤ 680) && words.all (fun w => decide (w < 2 ^ 64)) && decide (skew.length ≤ 8)
  | .ringSliceRx _ port h0 h1 h2 h3 _ trailer _ _ => decide (port < 2) && [h0, h1, h2, h3, trailer].all (fun w => decide (w < 2 ^ 64))
  | .ringEnumerate _ => true
  | .enumMsg _ port dst tiles => decide (port < 2) && decide (dst < 256) && decide (tiles.length < 64) && tiles.all (fun t => decide (t < 256))
  | .enumDone _ port dst src tiles closed => decide (port < 2) && decide (dst < 256) && decide (src < 256) && decide (tiles.length ≤ 64) && tiles.all (fun t => decide (t < 256)) && decide (closed < 2)
  | .indexChanged _ port dst src old new => decide (port < 2) && decide (dst < 256) && decide (src < 256) && decide (old < 256) && decide (new < 256)
  | .mapsMsg _ port tx rx => decide (port < 2) && decide (tx < 65536) && decide (rx < 65536)
  | .mapReq _ port failed _ id => decide (port < 2) && decide (failed < 65536) && decide (id < 256)
  | .mapAck _ port id => decide (port < 2) && decide (id < 256)
  | .mapReqRepeat _ port => decide (port < 2)
  | .statusMsgTimer _ => true
  | .sideChannelForward _ port _ => decide (port < 2)
  | .laneOutOrder _ lane => decide (lane < 18)
  | .mapChangeSend _ port _ => decide (port < 2)
  | .laneClean _ lane _ => decide (lane < 18)
  | .decisionPoint _ => true
  | .laneLoadComplete _ lane => decide (lane < 32)
  | .panelBufferFull _ lane => decide (lane < 32)
  | .statusPoll _ r => decide (r < 4)
  | .statusResponse _ r _ => decide (r < 4)
  | .statusReqTimeout _ r => decide (r < 4)
  | .icAccRead _ => true
  | .icAccWrite _ => true
  | .probationExpiry _ lane => decide (lane < 32)
  | .panelLockTimer _ lane => decide (lane < 32)
  | .panelLinkupDone _ => true
  | .rayStartReached _ => true
  | .rayGroup _ faults => faults.all (fun q => decide (q.1 ≤ 6))
  | .probeCycle _ => true
  | .scheduleBlockReloaded _ _ _ ue => ue.all DramErr.wf
  | .tableReloadDone _ _ _ ue => ue.all DramErr.wf
  | .fillIssue _ _ => true
  | .fillComplete _ _ ue => ue.all DramErr.wf
  | .lastRayOut _ => true
  | .brushFault _ brush _ => decide (brush < 32)
  | .cutoff _ done => decide (done.length ≤ 4) && done.all (fun n => decide (n ≤ 16384))
  | .cullPlanDone _ ue => ue.all DramErr.wf
  | .ingestRowStart _ slot ue => decide (slot < 16) && ue.all DramErr.wf
  | .ingestPassDone _ slot _ => decide (slot < 16)
  | .glazeSyncDone _ => true
  | .glazeRestoreDone _ table => decide (table < 32)
  | .unitArrival _ => true
  | .engineDispatch _ engine ue => decide (engine < 4) && ue.all DramErr.wf
  | .sliceDecodeDone _ engine ue => decide (engine < 4) && ue.all DramErr.wf
  | .concealDone _ _ ue => ue.all DramErr.wf
  | .contextEcc _ ctx => decide (ctx < 1024)
  | .engineFault _ engine done => decide (engine < 4) && decide (done ≤ 16384)
  | .ctxClear _ ctx => decide (ctx < 1024)
  | .dcCtxSelWrite _ value => decide (value < 2 ^ 64)
  | .pictureStart _ => true
  | .pictureCoded _ ue => ue.all DramErr.wf
  | .fragmentSend _ stream _ => decide (stream < 16)
  | .popRecordWrite _ _ _ _ ue => ue.all DramErr.wf
  | .enRingHeadWrite _ stream head => decide (stream < 16) && decide (head < 4096)
  | .rapRequest _ stream => decide (stream < 16)
  | .encoderFault _ => true
  | .stencilGo _ => true
  | .stencilModeWrite _ mode => decide (mode < 2)
  | .listTailWrite _ value ue => decide (value < 4096) && ue.all DramErr.wf
  | .listResumeSkip _ ue => ue.all DramErr.wf
  | .listResumeRetry _ ue => ue.all DramErr.wf
  | .stencilCommandDone _ ue => ue.all DramErr.wf
  | .watermarkReached _ => true
  | .behindBeamTimeout _ => true
  | .stencilEcc _ _ _ ue => ue.all DramErr.wf
  | .cxJobStart _ pipe => decide (pipe < 2)
  | .cxJobEnd _ pipe _ ue => decide (pipe < 2) && ue.all DramErr.wf
  | .cxFault _ pipe _ ue => decide (pipe < 2) && ue.all DramErr.wf
  | .crcStart _ unit_ => decide (unit_ < 8)
  | .crcStop _ unit_ => decide (unit_ < 8)
  | .crcCompare _ unit_ => decide (unit_ < 8)
  | .crcFeed _ unit_ bytes => decide (unit_ < 8) && decide (1 ≤ bytes.length) && decide (bytes.length ≤ 1024)
  | .crcValueWrite _ unit_ value => decide (unit_ < 8) && decide (value < 2 ^ 64)
  | .snoopItem _ point _ => decide (point < 12)
  | .crcUnitFault _ unit_ => decide (unit_ < 8)
  | .imageLoadBegin _ => true
  | .imageLoadData _ _ => true
  | .imageLoadEnd _ => true
  | .imageLoadAbort _ => true
  | .imageLoadTimeout _ => true
  | .dmaLoadStart _ => true
  | .dmaLoadAbort _ => true
  | .dmaLoadEnd _ _ _ => true
  | .verificationDone _ slot => decide (slot < 2)
  | .actRequest _ => true
  | .actCancel _ => true
  | .sramCopyDone _ ue => ue.all DramErr.wf
  | .storeCmd _ => true
  | .storeDone _ ue => ue.all DramErr.wf
  | .rayQuery _ index => decide (index < 2 ^ 26)
  | .rayQueryDone _ => true
  | .mr4Read _ port ch rank rate => decide (port < 6) && decide (ch < 4) && decide (rank < 2) && decide (rate < 6)
  | .refreshDue _ port ch rank => decide (port < 6) && decide (ch < 4) && decide (rank < 2)
  | .zqLatch _ port ch => decide (port < 6) && decide (ch < 4)
  | .wckTrack _ port ch => decide (port < 6) && decide (ch < 4)
  | .patrolScrub _ ue => ue.all DramErr.wf
  | .powerDownEntry _ port ch rank => decide (port < 6) && decide (ch < 4) && decide (rank < 2)
  | .sramScrub _ _ words => words.all (fun p => decide (p.1 < 8) && decide (p.2.2 < 2 ^ 72))
  | .faultReport _ => true
  | .frameHoldEnd _ => true
  | .recoveryWindowClose _ => true
  | .safeStateEnd _ => true
  | .faultClear _ => true
  | .flipWatchdog _ => true
  | .heartbeatMissing _ island => [2, 4, 5, 6, 7].contains island
  | .tickReplicaCompare _ diff => decide (diff.natAbs < 2 ^ 63)
  | .islandRecovered _ island => decide (2 ≤ island) && decide (island ≤ 7)
  | .selfTestDone _ subsystem unit_ _ => decide (subsystem < 256) && decide (unit_ < 256)
  | .unitRestore _ value => decide (value < 65536)
  | .laneReadmit _ lane => decide (lane < 18)
  | .sequencerVote _ copy => decide (copy < 3)
  | .logClear _ => true
  | .registerRead _ _ _ => true
  | .laneControlPeriod _ lane res => decide (lane < 18) && res.all (fun r => decide (r.1 < 9) && decide (r.2.2.2.1 < 1024) && decide (r.2.2.2.2 ≤ 64))
  | .panelBufferDrained _ lane => decide (lane < 32)
  | .slewComplete _ => true
  | .refclkRestored _ => true
  | .returnLaneSyncRegained _ r seen => decide (r < 4) && seen.all (fun g => decide (g < 4))
  | .fieldPortRecovered _ f => decide (f < 2)
  | .pairOutResetTimer _ cut => cut.all MramCut.wf

end Sys2Proof
end

