-- ==== Sys2Proof/Laws/PerInstr.lean ====
section
/-! SUPPORT. One lemma for each command: the time operand decides nothing of whether the other operands are well formed. -/
namespace Sys2Proof

/-- The time since the command before (assumption log 4). -/
def Instr.dt : Instr → Nat
  | .powerOn dt _ => dt
  | .porRelease dt _ _ _ _ => dt
  | .tadpoleSupplyRetry dt => dt
  | .warmReset dt _ => dt
  | .resetNRise dt => dt
  | .startTimeout dt _ => dt
  | .pwrGoodRise dt _ _ _ => dt
  | .sequenceFailed dt _ => dt
  | .dramTrainingComplete dt _ _ => dt
  | .supplyFail dt _ _ _ => dt
  | .shutdownRestart dt => dt
  | .thermalRound dt _ _ => dt
  | .siteReadmitted dt _ => dt
  | .throttleHoldExpiry dt => dt
  | .avsUpdate dt _ => dt
  | .avsEmergency dt _ _ => dt
  | .pmbusPoll dt _ => dt
  | .pmbAlert dt _ => dt
  | .refclkLost dt => dt
  | .pllUnlock dt _ => dt
  | .referenceCompare dt _ => dt
  | .recalTrigger dt _ _ _ => dt
  | .calNow dt _ => dt
  | .calInstanceDone dt _ _ _ _ => dt
  | .islandGateChange dt => dt
  | .lifeUpdate dt => dt
  | .cpMismatch dt _ => dt
  | .cpWatchdog dt _ => dt
  | .cpRestartDone dt _ => dt
  | .fwLoadBegin dt => dt
  | .fwLoadData dt _ => dt
  | .fwLoadEnd dt => dt
  | .fwLoadAbort dt => dt
  | .fwCheckDone dt => dt
  | .bootRestart dt _ => dt
  | .bootTryOther dt => dt
  | .bootConfirm dt => dt
  | .bootClearSettings dt => dt
  | .trialConfirmTimer dt => dt
  | .keyWrite dt _ _ => dt
  | .vostanRead dt _ _ _ => dt
  | .vostanWrite dt _ _ _ => dt
  | .blockRead dt _ _ => dt
  | .blockWrite dt _ _ _ => dt
  | .blockTransferAbandon dt _ => dt
  | .subscribe dt _ _ => dt
  | .commit dt _ _ => dt
  | .commitDiscard dt _ _ => dt
  | .pf0Commit dt => dt
  | .pf0Discard dt => dt
  | .loginChallenge dt _ _ => dt
  | .loginProof dt _ _ => dt
  | .loginLogout dt _ _ => dt
  | .loginChallengeTimeout dt _ => dt
  | .sessionTimeout dt _ => dt
  | .lockoutExpiry dt _ => dt
  | .cyclicNotify dt _ _ _ => dt
  | .onChangeNotify dt _ _ _ => dt
  | .eventBatchSend dt _ _ _ => dt
  | .relayReply dt _ _ => dt
  | .relayTimeout dt => dt
  | .mailboxGo dt _ _ => dt
  | .pcieLinkReset dt => dt
  | .functionLevelReset dt _ => dt
  | .hostLinkUp dt _ _ => dt
  | .eqEnable dt _ => dt
  | .eqHeadWrite dt _ _ => dt
  | .eqRecordWrite dt _ => dt
  | .msixCoalesce dt _ => dt
  | .jqTailWrite dt _ _ => dt
  | .jqDisable dt _ => dt
  | .dmaJobDone dt _ _ _ _ => dt
  | .irqAck dt _ => dt
  | .windowAccess dt _ _ _ _ _ => dt
  | .registerWrite dt _ _ _ _ _ => dt
  | .frameFlip dt _ _ _ _ _ => dt
  | .flipPreNotice dt => dt
  | .compareEvent dt => dt
  | .ptpMessage dt _ _ _ _ => dt
  | .ptpSendTimer dt _ _ _ => dt
  | .syncTimeout dt _ => dt
  | .announceTimeout dt _ => dt
  | .rateSchedule dt => dt
  | .rateCancel dt => dt
  | .timeStep dt => dt
  | .domainSwitchMessage dt _ _ => dt
  | .switchTick dt => dt
  | .switchNoMessageTimer dt => dt
  | .revertTimer dt => dt
  | .holdoverExpired dt => dt
  | .portBringupStart dt _ => dt
  | .portRetrain dt _ => dt
  | .laneControlFrame dt _ _ => dt
  | .leaderStepTimer dt _ => dt
  | .trainRetry dt _ => dt
  | .relockDone dt _ _ _ => dt
  | .adaptationDone dt _ _ _ => dt
  | .stepCheckDone dt _ _ _ => dt
  | .noPartnerTimeout dt _ => dt
  | .laneFailureDetect dt _ _ _ => dt
  | .laneRetrain dt _ => dt
  | .retrainRetry dt _ => dt
  | .eyeUpdate dt _ _ _ _ _ => dt
  | .quietCheckPeriod dt _ _ _ => dt
  | .brumationExit dt _ => dt
  | .laneTest dt _ => dt
  | .laneReturn dt _ => dt
  | .testInject dt _ => dt
  | .returnLaneSyncLoss dt _ _ => dt
  | .ringFrameRx dt _ _ _ => dt
  | .ringSliceRx dt _ _ _ _ _ _ _ _ _ => dt
  | .ringEnumerate dt => dt
  | .enumMsg dt _ _ _ => dt
  | .enumDone dt _ _ _ _ _ => dt
  | .indexChanged dt _ _ _ _ _ => dt
  | .mapsMsg dt _ _ _ => dt
  | .mapReq dt _ _ _ _ => dt
  | .mapAck dt _ _ => dt
  | .mapReqRepeat dt _ => dt
  | .statusMsgTimer dt => dt
  | .sideChannelForward dt _ _ => dt
  | .laneOutOrder dt _ => dt
  | .mapChangeSend dt _ _ => dt
  | .laneClean dt _ _ => dt
  | .decisionPoint dt => dt
  | .laneLoadComplete dt _ => dt
  | .panelBufferFull dt _ => dt
  | .statusPoll dt _ => dt
  | .statusResponse dt _ _ => dt
  | .statusReqTimeout dt _ => dt
  | .icAccRead dt => dt
  | .icAccWrite dt => dt
  | .probationExpiry dt _ => dt
  | .panelLockTimer dt _ => dt
  | .panelLinkupDone dt => dt
  | .rayStartReached dt => dt
  | .rayGroup dt _ => dt
  | .probeCycle dt => dt
  | .scheduleBlockReloaded dt _ _ _ => dt
  | .tableReloadDone dt _ _ _ => dt
  | .fillIssue dt _ => dt
  | .fillComplete dt _ _ => dt
  | .lastRayOut dt => dt
  | .brushFault dt _ _ => dt
  | .cutoff dt _ => dt
  | .cullPlanDone dt _ => dt
  | .ingestRowStart dt _ _ => dt
  | .ingestPassDone dt _ _ => dt
  | .glazeSyncDone dt => dt
  | .glazeRestoreDone dt _ => dt
  | .unitArrival dt => dt
  | .engineDispatch dt _ _ => dt
  | .sliceDecodeDone dt _ _ => dt
  | .concealDone dt _ _ => dt
  | .contextEcc dt _ => dt
  | .engineFault dt _ _ => dt
  | .ctxClear dt _ => dt
  | .dcCtxSelWrite dt _ => dt
  | .pictureStart dt => dt
  | .pictureCoded dt _ => dt
  | .fragmentSend dt _ _ => dt
  | .popRecordWrite dt _ _ _ _ => dt
  | .enRingHeadWrite dt _ _ => dt
  | .rapRequest dt _ => dt
  | .encoderFault dt => dt
  | .stencilGo dt => dt
  | .stencilModeWrite dt _ => dt
  | .listTailWrite dt _ _ => dt
  | .listResumeSkip dt _ => dt
  | .listResumeRetry dt _ => dt
  | .stencilCommandDone dt _ => dt
  | .watermarkReached dt => dt
  | .behindBeamTimeout dt => dt
  | .stencilEcc dt _ _ _ => dt
  | .cxJobStart dt _ => dt
  | .cxJobEnd dt _ _ _ => dt
  | .cxFault dt _ _ _ => dt
  | .crcStart dt _ => dt
  | .crcStop dt _ => dt
  | .crcCompare dt _ => dt
  | .crcFeed dt _ _ => dt
  | .crcValueWrite dt _ _ => dt
  | .snoopItem dt _ _ => dt
  | .crcUnitFault dt _ => dt
  | .imageLoadBegin dt => dt
  | .imageLoadData dt _ => dt
  | .imageLoadEnd dt => dt
  | .imageLoadAbort dt => dt
  | .imageLoadTimeout dt => dt
  | .dmaLoadStart dt => dt
  | .dmaLoadAbort dt => dt
  | .dmaLoadEnd dt _ _ => dt
  | .verificationDone dt _ => dt
  | .actRequest dt => dt
  | .actCancel dt => dt
  | .sramCopyDone dt _ => dt
  | .storeCmd dt => dt
  | .storeDone dt _ => dt
  | .rayQuery dt _ => dt
  | .rayQueryDone dt => dt
  | .mr4Read dt _ _ _ _ => dt
  | .refreshDue dt _ _ _ => dt
  | .zqLatch dt _ _ => dt
  | .wckTrack dt _ _ => dt
  | .patrolScrub dt _ => dt
  | .powerDownEntry dt _ _ _ => dt
  | .sramScrub dt _ _ => dt
  | .faultReport dt => dt
  | .frameHoldEnd dt => dt
  | .recoveryWindowClose dt => dt
  | .safeStateEnd dt => dt
  | .faultClear dt => dt
  | .flipWatchdog dt => dt
  | .heartbeatMissing dt _ => dt
  | .tickReplicaCompare dt _ => dt
  | .islandRecovered dt _ => dt
  | .selfTestDone dt _ _ _ => dt
  | .unitRestore dt _ => dt
  | .laneReadmit dt _ => dt
  | .sequencerVote dt _ => dt
  | .logClear dt => dt
  | .registerRead dt _ _ => dt
  | .laneControlPeriod dt _ _ => dt
  | .panelBufferDrained dt _ => dt
  | .slewComplete dt => dt
  | .refclkRestored dt => dt
  | .returnLaneSyncRegained dt _ _ => dt
  | .fieldPortRecovered dt _ => dt
  | .pairOutResetTimer dt _ => dt

/-- The same command after another time. -/
def Instr.withDt (i : Instr) (d : Nat) : Instr :=
  match i with
  | .powerOn _ low => .powerOn d low
  | .porRelease _ reach strap mr status => .porRelease d reach strap mr status
  | .tadpoleSupplyRetry _ => .tadpoleSupplyRetry d
  | .warmReset _ cut => .warmReset d cut
  | .resetNRise _ => .resetNRise d
  | .startTimeout _ cut => .startTimeout d cut
  | .pwrGoodRise _ k fails target => .pwrGoodRise d k fails target
  | .sequenceFailed _ island => .sequenceFailed d island
  | .dramTrainingComplete _ devs fail => .dramTrainingComplete d devs fail
  | .supplyFail _ rail fell cut => .supplyFail d rail fell cut
  | .shutdownRestart _ => .shutdownRestart d
  | .thermalRound _ readings cut => .thermalRound d readings cut
  | .siteReadmitted _ site => .siteReadmitted d site
  | .throttleHoldExpiry _ => .throttleHoldExpiry d
  | .avsUpdate _ slack => .avsUpdate d slack
  | .avsEmergency _ island slack => .avsEmergency d island slack
  | .pmbusPoll _ answers => .pmbusPoll d answers
  | .pmbAlert _ status => .pmbAlert d status
  | .refclkLost _ => .refclkLost d
  | .pllUnlock _ pll => .pllUnlock d pll
  | .referenceCompare _ diff => .referenceCompare d diff
  | .recalTrigger _ item idx free => .recalTrigger d item idx free
  | .calNow _ item => .calNow d item
  | .calInstanceDone _ item idx residual codes => .calInstanceDone d item idx residual codes
  | .islandGateChange _ => .islandGateChange d
  | .lifeUpdate _ => .lifeUpdate d
  | .cpMismatch _ pair => .cpMismatch d pair
  | .cpWatchdog _ pair => .cpWatchdog d pair
  | .cpRestartDone _ pair => .cpRestartDone d pair
  | .fwLoadBegin _ => .fwLoadBegin d
  | .fwLoadData _ bytes => .fwLoadData d bytes
  | .fwLoadEnd _ => .fwLoadEnd d
  | .fwLoadAbort _ => .fwLoadAbort d
  | .fwCheckDone _ => .fwCheckDone d
  | .bootRestart _ cut => .bootRestart d cut
  | .bootTryOther _ => .bootTryOther d
  | .bootConfirm _ => .bootConfirm d
  | .bootClearSettings _ => .bootClearSettings d
  | .trialConfirmTimer _ => .trialConfirmTimer d
  | .keyWrite _ key bytes => .keyWrite d key bytes
  | .vostanRead _ src msg mr => .vostanRead d src msg mr
  | .vostanWrite _ src msg store => .vostanWrite d src msg store
  | .blockRead _ src msg => .blockRead d src msg
  | .blockWrite _ src msg store => .blockWrite d src msg store
  | .blockTransferAbandon _ session => .blockTransferAbandon d session
  | .subscribe _ src msg => .subscribe d src msg
  | .commit _ src msg => .commit d src msg
  | .commitDiscard _ src msg => .commitDiscard d src msg
  | .pf0Commit _ => .pf0Commit d
  | .pf0Discard _ => .pf0Discard d
  | .loginChallenge _ src msg => .loginChallenge d src msg
  | .loginProof _ src msg => .loginProof d src msg
  | .loginLogout _ src msg => .loginLogout d src msg
  | .loginChallengeTimeout _ session => .loginChallengeTimeout d session
  | .sessionTimeout _ session => .sessionTimeout d session
  | .lockoutExpiry _ src => .lockoutExpiry d src
  | .cyclicNotify _ session sub full => .cyclicNotify d session sub full
  | .onChangeNotify _ session sub full => .onChangeNotify d session sub full
  | .eventBatchSend _ session sub full => .eventBatchSend d session sub full
  | .relayReply _ pos msg => .relayReply d pos msg
  | .relayTimeout _ => .relayTimeout d
  | .mailboxGo _ fn store => .mailboxGo d fn store
  | .pcieLinkReset _ => .pcieLinkReset d
  | .functionLevelReset _ fn => .functionLevelReset d fn
  | .hostLinkUp _ width speed => .hostLinkUp d width speed
  | .eqEnable _ queue => .eqEnable d queue
  | .eqHeadWrite _ queue value => .eqHeadWrite d queue value
  | .eqRecordWrite _ queue => .eqRecordWrite d queue
  | .msixCoalesce _ queue => .msixCoalesce d queue
  | .jqTailWrite _ queue value => .jqTailWrite d queue value
  | .jqDisable _ queue => .jqDisable d queue
  | .dmaJobDone _ moved bytes err ue => .dmaJobDone d moved bytes err ue
  | .irqAck _ mask => .irqAck d mask
  | .windowAccess _ offset write len bytes ue => .windowAccess d offset write len bytes ue
  | .registerWrite _ fn at_ value store ue => .registerWrite d fn at_ value store ue
  | .frameFlip _ reached store cut bad ue => .frameFlip d reached store cut bad ue
  | .flipPreNotice _ => .flipPreNotice d
  | .compareEvent _ => .compareEvent d
  | .ptpMessage _ port domain kind x => .ptpMessage d port domain kind x
  | .ptpSendTimer _ port domain kind => .ptpSendTimer d port domain kind
  | .syncTimeout _ domain => .syncTimeout d domain
  | .announceTimeout _ domain => .announceTimeout d domain
  | .rateSchedule _ => .rateSchedule d
  | .rateCancel _ => .rateCancel d
  | .timeStep _ => .timeStep d
  | .domainSwitchMessage _ domain tick => .domainSwitchMessage d domain tick
  | .switchTick _ => .switchTick d
  | .switchNoMessageTimer _ => .switchNoMessageTimer d
  | .revertTimer _ => .revertTimer d
  | .holdoverExpired _ => .holdoverExpired d
  | .portBringupStart _ port => .portBringupStart d port
  | .portRetrain _ port => .portRetrain d port
  | .laneControlFrame _ lane bytes => .laneControlFrame d lane bytes
  | .leaderStepTimer _ port => .leaderStepTimer d port
  | .trainRetry _ port => .trainRetry d port
  | .relockDone _ port ok bad => .relockDone d port ok bad
  | .adaptationDone _ lane h w => .adaptationDone d lane h w
  | .stepCheckDone _ port res solo => .stepCheckDone d port res solo
  | .noPartnerTimeout _ port => .noPartnerTimeout d port
  | .laneFailureDetect _ lane cause seen => .laneFailureDetect d lane cause seen
  | .laneRetrain _ lane => .laneRetrain d lane
  | .retrainRetry _ lane => .retrainRetry d lane
  | .eyeUpdate _ lane h w errors nbits => .eyeUpdate d lane h w errors nbits
  | .quietCheckPeriod _ lane h w => .quietCheckPeriod d lane h w
  | .brumationExit _ port => .brumationExit d port
  | .laneTest _ lane => .laneTest d lane
  | .laneReturn _ lane => .laneReturn d lane
  | .testInject _ lane => .testInject d lane
  | .returnLaneSyncLoss _ r seen => .returnLaneSyncLoss d r seen
  | .ringFrameRx _ port words skew => .ringFrameRx d port words skew
  | .ringSliceRx _ port h0 h1 h2 h3 payload trailer back bad => .ringSliceRx d port h0 h1 h2 h3 payload trailer back bad
  | .ringEnumerate _ => .ringEnumerate d
  | .enumMsg _ port dst tiles => .enumMsg d port dst tiles
  | .enumDone _ port dst src tiles closed => .enumDone d port dst src tiles closed
  | .indexChanged _ port dst src old new => .indexChanged d port dst src old new
  | .mapsMsg _ port tx rx => .mapsMsg d port tx rx
  | .mapReq _ port failed readmit id => .mapReq d port failed readmit id
  | .mapAck _ port id => .mapAck d port id
  | .mapReqRepeat _ port => .mapReqRepeat d port
  | .statusMsgTimer _ => .statusMsgTimer d
  | .sideChannelForward _ port bytes => .sideChannelForward d port bytes
  | .laneOutOrder _ lane => .laneOutOrder d lane
  | .mapChangeSend _ port left => .mapChangeSend d port left
  | .laneClean _ lane errors => .laneClean d lane errors
  | .decisionPoint _ => .decisionPoint d
  | .laneLoadComplete _ lane => .laneLoadComplete d lane
  | .panelBufferFull _ lane => .panelBufferFull d lane
  | .statusPoll _ r => .statusPoll d r
  | .statusResponse _ r bytes => .statusResponse d r bytes
  | .statusReqTimeout _ r => .statusReqTimeout d r
  | .icAccRead _ => .icAccRead d
  | .icAccWrite _ => .icAccWrite d
  | .probationExpiry _ lane => .probationExpiry d lane
  | .panelLockTimer _ lane => .panelLockTimer d lane
  | .panelLinkupDone _ => .panelLinkupDone d
  | .rayStartReached _ => .rayStartReached d
  | .rayGroup _ faults => .rayGroup d faults
  | .probeCycle _ => .probeCycle d
  | .scheduleBlockReloaded _ fetch block ue => .scheduleBlockReloaded d fetch block ue
  | .tableReloadDone _ view index ue => .tableReloadDone d view index ue
  | .fillIssue _ bad => .fillIssue d bad
  | .fillComplete _ entry ue => .fillComplete d entry ue
  | .lastRayOut _ => .lastRayOut d
  | .brushFault _ brush lost => .brushFault d brush lost
  | .cutoff _ done => .cutoff d done
  | .cullPlanDone _ ue => .cullPlanDone d ue
  | .ingestRowStart _ slot ue => .ingestRowStart d slot ue
  | .ingestPassDone _ slot ecc => .ingestPassDone d slot ecc
  | .glazeSyncDone _ => .glazeSyncDone d
  | .glazeRestoreDone _ table => .glazeRestoreDone d table
  | .unitArrival _ => .unitArrival d
  | .engineDispatch _ engine ue => .engineDispatch d engine ue
  | .sliceDecodeDone _ engine ue => .sliceDecodeDone d engine ue
  | .concealDone _ blocks ue => .concealDone d blocks ue
  | .contextEcc _ ctx => .contextEcc d ctx
  | .engineFault _ engine done => .engineFault d engine done
  | .ctxClear _ ctx => .ctxClear d ctx
  | .dcCtxSelWrite _ value => .dcCtxSelWrite d value
  | .pictureStart _ => .pictureStart d
  | .pictureCoded _ ue => .pictureCoded d ue
  | .fragmentSend _ stream sent => .fragmentSend d stream sent
  | .popRecordWrite _ index room sent ue => .popRecordWrite d index room sent ue
  | .enRingHeadWrite _ stream head => .enRingHeadWrite d stream head
  | .rapRequest _ stream => .rapRequest d stream
  | .encoderFault _ => .encoderFault d
  | .stencilGo _ => .stencilGo d
  | .stencilModeWrite _ mode => .stencilModeWrite d mode
  | .listTailWrite _ value ue => .listTailWrite d value ue
  | .listResumeSkip _ ue => .listResumeSkip d ue
  | .listResumeRetry _ ue => .listResumeRetry d ue
  | .stencilCommandDone _ ue => .stencilCommandDone d ue
  | .watermarkReached _ => .watermarkReached d
  | .behindBeamTimeout _ => .behindBeamTimeout d
  | .stencilEcc _ word rows ue => .stencilEcc d word rows ue
  | .cxJobStart _ pipe => .cxJobStart d pipe
  | .cxJobEnd _ pipe verify ue => .cxJobEnd d pipe verify ue
  | .cxFault _ pipe made ue => .cxFault d pipe made ue
  | .crcStart _ unit_ => .crcStart d unit_
  | .crcStop _ unit_ => .crcStop d unit_
  | .crcCompare _ unit_ => .crcCompare d unit_
  | .crcFeed _ unit_ bytes => .crcFeed d unit_ bytes
  | .crcValueWrite _ unit_ value => .crcValueWrite d unit_ value
  | .snoopItem _ point overflow => .snoopItem d point overflow
  | .crcUnitFault _ unit_ => .crcUnitFault d unit_
  | .imageLoadBegin _ => .imageLoadBegin d
  | .imageLoadData _ bytes => .imageLoadData d bytes
  | .imageLoadEnd _ => .imageLoadEnd d
  | .imageLoadAbort _ => .imageLoadAbort d
  | .imageLoadTimeout _ => .imageLoadTimeout d
  | .dmaLoadStart _ => .dmaLoadStart d
  | .dmaLoadAbort _ => .dmaLoadAbort d
  | .dmaLoadEnd _ bytes err => .dmaLoadEnd d bytes err
  | .verificationDone _ slot => .verificationDone d slot
  | .actRequest _ => .actRequest d
  | .actCancel _ => .actCancel d
  | .sramCopyDone _ ue => .sramCopyDone d ue
  | .storeCmd _ => .storeCmd d
  | .storeDone _ ue => .storeDone d ue
  | .rayQuery _ index => .rayQuery d index
  | .rayQueryDone _ => .rayQueryDone d
  | .mr4Read _ port ch rank rate => .mr4Read d port ch rank rate
  | .refreshDue _ port ch rank => .refreshDue d port ch rank
  | .zqLatch _ port ch => .zqLatch d port ch
  | .wckTrack _ port ch => .wckTrack d port ch
  | .patrolScrub _ ue => .patrolScrub d ue
  | .powerDownEntry _ port ch rank => .powerDownEntry d port ch rank
  | .sramScrub _ fixed words => .sramScrub d fixed words
  | .faultReport _ => .faultReport d
  | .frameHoldEnd _ => .frameHoldEnd d
  | .recoveryWindowClose _ => .recoveryWindowClose d
  | .safeStateEnd _ => .safeStateEnd d
  | .faultClear _ => .faultClear d
  | .flipWatchdog _ => .flipWatchdog d
  | .heartbeatMissing _ island => .heartbeatMissing d island
  | .tickReplicaCompare _ diff => .tickReplicaCompare d diff
  | .islandRecovered _ island => .islandRecovered d island
  | .selfTestDone _ subsystem unit_ pass => .selfTestDone d subsystem unit_ pass
  | .unitRestore _ value => .unitRestore d value
  | .laneReadmit _ lane => .laneReadmit d lane
  | .sequencerVote _ copy => .sequencerVote d copy
  | .logClear _ => .logClear d
  | .registerRead _ fn at_ => .registerRead d fn at_
  | .laneControlPeriod _ lane res => .laneControlPeriod d lane res
  | .panelBufferDrained _ lane => .panelBufferDrained d lane
  | .slewComplete _ => .slewComplete d
  | .refclkRestored _ => .refclkRestored d
  | .returnLaneSyncRegained _ r seen => .returnLaneSyncRegained d r seen
  | .fieldPortRecovered _ f => .fieldPortRecovered d f
  | .pairOutResetTimer _ cut => .pairOutResetTimer d cut

namespace Laws.Time

/-- Well-formedness does not depend on the time operand, which takes any value. -/
def Statement (i : Instr) : Prop := ∀ d, (i.withDt d).wf = i.wf ∧ (i.withDt d).dt = d

theorem powerOn (dt : Nat) (low : Bool) : Statement (.powerOn dt low) := fun _ => ⟨rfl, rfl⟩
theorem porRelease (dt reach : Nat) (strap : Bool) (mr : List (Nat × Nat)) (status : List (Option Nat)) : Statement (.porRelease dt reach strap mr status) := fun _ => ⟨rfl, rfl⟩
theorem tadpoleSupplyRetry (dt : Nat) : Statement (.tadpoleSupplyRetry dt) := fun _ => ⟨rfl, rfl⟩
theorem warmReset (dt : Nat) (cut : Option MramCut) : Statement (.warmReset dt cut) := fun _ => ⟨rfl, rfl⟩
theorem resetNRise (dt : Nat) : Statement (.resetNRise dt) := fun _ => ⟨rfl, rfl⟩
theorem startTimeout (dt : Nat) (cut : Option MramCut) : Statement (.startTimeout dt cut) := fun _ => ⟨rfl, rfl⟩
theorem pwrGoodRise (dt k : Nat) (fails : List (Nat × Nat)) (target : Nat) : Statement (.pwrGoodRise dt k fails target) := fun _ => ⟨rfl, rfl⟩
theorem sequenceFailed (dt : Nat) (island : Option Nat) : Statement (.sequenceFailed dt island) := fun _ => ⟨rfl, rfl⟩
theorem dramTrainingComplete (dt : Nat) (devs : List (List Nat)) (fail : Option (Nat × Nat × Nat)) : Statement (.dramTrainingComplete dt devs fail) := fun _ => ⟨rfl, rfl⟩
theorem supplyFail (dt rail : Nat) (fell : Bool) (cut : Option MramCut) : Statement (.supplyFail dt rail fell cut) := fun _ => ⟨rfl, rfl⟩
theorem shutdownRestart (dt : Nat) : Statement (.shutdownRestart dt) := fun _ => ⟨rfl, rfl⟩
theorem thermalRound (dt : Nat) (readings : List (Int × Int × Bool)) (cut : Option MramCut) : Statement (.thermalRound dt readings cut) := fun _ => ⟨rfl, rfl⟩
theorem siteReadmitted (dt site : Nat) : Statement (.siteReadmitted dt site) := fun _ => ⟨rfl, rfl⟩
theorem throttleHoldExpiry (dt : Nat) : Statement (.throttleHoldExpiry dt) := fun _ => ⟨rfl, rfl⟩
theorem avsUpdate (dt slack : Nat) : Statement (.avsUpdate dt slack) := fun _ => ⟨rfl, rfl⟩
theorem avsEmergency (dt island slack : Nat) : Statement (.avsEmergency dt island slack) := fun _ => ⟨rfl, rfl⟩
theorem pmbusPoll (dt : Nat) (answers : List (Nat × Option (Nat × Nat))) : Statement (.pmbusPoll dt answers) := fun _ => ⟨rfl, rfl⟩
theorem pmbAlert (dt : Nat) (status : List (Option Nat)) : Statement (.pmbAlert dt status) := fun _ => ⟨rfl, rfl⟩
theorem refclkLost (dt : Nat) : Statement (.refclkLost dt) := fun _ => ⟨rfl, rfl⟩
theorem pllUnlock (dt pll : Nat) : Statement (.pllUnlock dt pll) := fun _ => ⟨rfl, rfl⟩
theorem referenceCompare (dt : Nat) (diff : Int) : Statement (.referenceCompare dt diff) := fun _ => ⟨rfl, rfl⟩
theorem recalTrigger (dt item idx : Nat) (free : Bool) : Statement (.recalTrigger dt item idx free) := fun _ => ⟨rfl, rfl⟩
theorem calNow (dt item : Nat) : Statement (.calNow dt item) := fun _ => ⟨rfl, rfl⟩
theorem calInstanceDone (dt item idx residual : Nat) (codes : List Int) : Statement (.calInstanceDone dt item idx residual codes) := fun _ => ⟨rfl, rfl⟩
theorem islandGateChange (dt : Nat) : Statement (.islandGateChange dt) := fun _ => ⟨rfl, rfl⟩
theorem lifeUpdate (dt : Nat) : Statement (.lifeUpdate dt) := fun _ => ⟨rfl, rfl⟩
theorem cpMismatch (dt pair : Nat) : Statement (.cpMismatch dt pair) := fun _ => ⟨rfl, rfl⟩
theorem cpWatchdog (dt pair : Nat) : Statement (.cpWatchdog dt pair) := fun _ => ⟨rfl, rfl⟩
theorem cpRestartDone (dt pair : Nat) : Statement (.cpRestartDone dt pair) := fun _ => ⟨rfl, rfl⟩
theorem fwLoadBegin (dt : Nat) : Statement (.fwLoadBegin dt) := fun _ => ⟨rfl, rfl⟩
theorem fwLoadData (dt : Nat) (bytes : List Byte) : Statement (.fwLoadData dt bytes) := fun _ => ⟨rfl, rfl⟩
theorem fwLoadEnd (dt : Nat) : Statement (.fwLoadEnd dt) := fun _ => ⟨rfl, rfl⟩
theorem fwLoadAbort (dt : Nat) : Statement (.fwLoadAbort dt) := fun _ => ⟨rfl, rfl⟩
theorem fwCheckDone (dt : Nat) : Statement (.fwCheckDone dt) := fun _ => ⟨rfl, rfl⟩
theorem bootRestart (dt : Nat) (cut : Option MramCut) : Statement (.bootRestart dt cut) := fun _ => ⟨rfl, rfl⟩
theorem bootTryOther (dt : Nat) : Statement (.bootTryOther dt) := fun _ => ⟨rfl, rfl⟩
theorem bootConfirm (dt : Nat) : Statement (.bootConfirm dt) := fun _ => ⟨rfl, rfl⟩
theorem bootClearSettings (dt : Nat) : Statement (.bootClearSettings dt) := fun _ => ⟨rfl, rfl⟩
theorem trialConfirmTimer (dt : Nat) : Statement (.trialConfirmTimer dt) := fun _ => ⟨rfl, rfl⟩
theorem keyWrite (dt key : Nat) (bytes : List Byte) : Statement (.keyWrite dt key bytes) := fun _ => ⟨rfl, rfl⟩
theorem vostanRead (dt : Nat) (src : VAddr) (msg : List Byte) (mr : List (Nat × Nat)) : Statement (.vostanRead dt src msg mr) := fun _ => ⟨rfl, rfl⟩
theorem vostanWrite (dt : Nat) (src : VAddr) (msg : List Byte) (store : Bool) : Statement (.vostanWrite dt src msg store) := fun _ => ⟨rfl, rfl⟩
theorem blockRead (dt : Nat) (src : VAddr) (msg : List Byte) : Statement (.blockRead dt src msg) := fun _ => ⟨rfl, rfl⟩
theorem blockWrite (dt : Nat) (src : VAddr) (msg : List Byte) (store : Bool) : Statement (.blockWrite dt src msg store) := fun _ => ⟨rfl, rfl⟩
theorem blockTransferAbandon (dt session : Nat) : Statement (.blockTransferAbandon dt session) := fun _ => ⟨rfl, rfl⟩
theorem subscribe (dt : Nat) (src : VAddr) (msg : List Byte) : Statement (.subscribe dt src msg) := fun _ => ⟨rfl, rfl⟩
theorem commit (dt : Nat) (src : VAddr) (msg : List Byte) : Statement (.commit dt src msg) := fun _ => ⟨rfl, rfl⟩
theorem commitDiscard (dt : Nat) (src : VAddr) (msg : List Byte) : Statement (.commitDiscard dt src msg) := fun _ => ⟨rfl, rfl⟩
theorem pf0Commit (dt : Nat) : Statement (.pf0Commit dt) := fun _ => ⟨rfl, rfl⟩
theorem pf0Discard (dt : Nat) : Statement (.pf0Discard dt) := fun _ => ⟨rfl, rfl⟩
theorem loginChallenge (dt : Nat) (src : VAddr) (msg : List Byte) : Statement (.loginChallenge dt src msg) := fun _ => ⟨rfl, rfl⟩
theorem loginProof (dt : Nat) (src : VAddr) (msg : List Byte) : Statement (.loginProof dt src msg) := fun _ => ⟨rfl, rfl⟩
theorem loginLogout (dt : Nat) (src : VAddr) (msg : List Byte) : Statement (.loginLogout dt src msg) := fun _ => ⟨rfl, rfl⟩
theorem loginChallengeTimeout (dt session : Nat) : Statement (.loginChallengeTimeout dt session) := fun _ => ⟨rfl, rfl⟩
theorem sessionTimeout (dt session : Nat) : Statement (.sessionTimeout dt session) := fun _ => ⟨rfl, rfl⟩
theorem lockoutExpiry (dt : Nat) (src : VAddr) : Statement (.lockoutExpiry dt src) := fun _ => ⟨rfl, rfl⟩
theorem cyclicNotify (dt session sub : Nat) (full : Bool) : Statement (.cyclicNotify dt session sub full) := fun _ => ⟨rfl, rfl⟩
theorem onChangeNotify (dt session sub : Nat) (full : Bool) : Statement (.onChangeNotify dt session sub full) := fun _ => ⟨rfl, rfl⟩
theorem eventBatchSend (dt session sub : Nat) (full : Bool) : Statement (.eventBatchSend dt session sub full) := fun _ => ⟨rfl, rfl⟩
theorem relayReply (dt pos : Nat) (msg : List Byte) : Statement (.relayReply dt pos msg) := fun _ => ⟨rfl, rfl⟩
theorem relayTimeout (dt : Nat) : Statement (.relayTimeout dt) := fun _ => ⟨rfl, rfl⟩
theorem mailboxGo (dt : Nat) (fn : Fn) (store : Bool) : Statement (.mailboxGo dt fn store) := fun _ => ⟨rfl, rfl⟩
theorem pcieLinkReset (dt : Nat) : Statement (.pcieLinkReset dt) := fun _ => ⟨rfl, rfl⟩
theorem functionLevelReset (dt : Nat) (fn : Fn) : Statement (.functionLevelReset dt fn) := fun _ => ⟨rfl, rfl⟩
theorem hostLinkUp (dt width speed : Nat) : Statement (.hostLinkUp dt width speed) := fun _ => ⟨rfl, rfl⟩
theorem eqEnable (dt queue : Nat) : Statement (.eqEnable dt queue) := fun _ => ⟨rfl, rfl⟩
theorem eqHeadWrite (dt queue value : Nat) : Statement (.eqHeadWrite dt queue value) := fun _ => ⟨rfl, rfl⟩
theorem eqRecordWrite (dt queue : Nat) : Statement (.eqRecordWrite dt queue) := fun _ => ⟨rfl, rfl⟩
theorem msixCoalesce (dt queue : Nat) : Statement (.msixCoalesce dt queue) := fun _ => ⟨rfl, rfl⟩
theorem jqTailWrite (dt queue value : Nat) : Statement (.jqTailWrite dt queue value) := fun _ => ⟨rfl, rfl⟩
theorem jqDisable (dt queue : Nat) : Statement (.jqDisable dt queue) := fun _ => ⟨rfl, rfl⟩
theorem dmaJobDone (dt moved : Nat) (bytes : List Byte) (err : Bool) (ue : List DramErr) : Statement (.dmaJobDone dt moved bytes err ue) := fun _ => ⟨rfl, rfl⟩
theorem irqAck (dt mask : Nat) : Statement (.irqAck dt mask) := fun _ => ⟨rfl, rfl⟩
theorem windowAccess (dt offset : Nat) (write : Bool) (len : Nat) (bytes : List Byte) (ue : List DramErr) : Statement (.windowAccess dt offset write len bytes ue) := fun _ => ⟨rfl, rfl⟩
theorem registerWrite (dt : Nat) (fn : Fn) (at_ : RegAt) (value : Nat) (store : Bool) (ue : List DramErr) : Statement (.registerWrite dt fn at_ value store ue) := fun _ => ⟨rfl, rfl⟩
theorem frameFlip (dt reached : Nat) (store : Bool) (cut : Option MramCut) (bad : List Nat) (ue : List DramErr) : Statement (.frameFlip dt reached store cut bad ue) := fun _ => ⟨rfl, rfl⟩
theorem flipPreNotice (dt : Nat) : Statement (.flipPreNotice dt) := fun _ => ⟨rfl, rfl⟩
theorem compareEvent (dt : Nat) : Statement (.compareEvent dt) := fun _ => ⟨rfl, rfl⟩
theorem ptpMessage (dt port domain kind : Nat) (x : List Int) : Statement (.ptpMessage dt port domain kind x) := fun _ => ⟨rfl, rfl⟩
theorem ptpSendTimer (dt port domain kind : Nat) : Statement (.ptpSendTimer dt port domain kind) := fun _ => ⟨rfl, rfl⟩
theorem syncTimeout (dt domain : Nat) : Statement (.syncTimeout dt domain) := fun _ => ⟨rfl, rfl⟩
theorem announceTimeout (dt domain : Nat) : Statement (.announceTimeout dt domain) := fun _ => ⟨rfl, rfl⟩
theorem rateSchedule (dt : Nat) : Statement (.rateSchedule dt) := fun _ => ⟨rfl, rfl⟩
theorem rateCancel (dt : Nat) : Statement (.rateCancel dt) := fun _ => ⟨rfl, rfl⟩
theorem timeStep (dt : Nat) : Statement (.timeStep dt) := fun _ => ⟨rfl, rfl⟩
theorem domainSwitchMessage (dt domain tick : Nat) : Statement (.domainSwitchMessage dt domain tick) := fun _ => ⟨rfl, rfl⟩
theorem switchTick (dt : Nat) : Statement (.switchTick dt) := fun _ => ⟨rfl, rfl⟩
theorem switchNoMessageTimer (dt : Nat) : Statement (.switchNoMessageTimer dt) := fun _ => ⟨rfl, rfl⟩
theorem revertTimer (dt : Nat) : Statement (.revertTimer dt) := fun _ => ⟨rfl, rfl⟩
theorem holdoverExpired (dt : Nat) : Statement (.holdoverExpired dt) := fun _ => ⟨rfl, rfl⟩
theorem portBringupStart (dt port : Nat) : Statement (.portBringupStart dt port) := fun _ => ⟨rfl, rfl⟩
theorem portRetrain (dt port : Nat) : Statement (.portRetrain dt port) := fun _ => ⟨rfl, rfl⟩
theorem laneControlFrame (dt lane : Nat) (bytes : List Byte) : Statement (.laneControlFrame dt lane bytes) := fun _ => ⟨rfl, rfl⟩
theorem leaderStepTimer (dt port : Nat) : Statement (.leaderStepTimer dt port) := fun _ => ⟨rfl, rfl⟩
theorem trainRetry (dt port : Nat) : Statement (.trainRetry dt port) := fun _ => ⟨rfl, rfl⟩
theorem relockDone (dt port : Nat) (ok : List Nat) (bad : List (Nat × Nat)) : Statement (.relockDone dt port ok bad) := fun _ => ⟨rfl, rfl⟩
theorem adaptationDone (dt lane h w : Nat) : Statement (.adaptationDone dt lane h w) := fun _ => ⟨rfl, rfl⟩
theorem stepCheckDone (dt port : Nat) (res : List (Nat × Nat × Nat × Nat × Nat)) (solo : Option Nat) : Statement (.stepCheckDone dt port res solo) := fun _ => ⟨rfl, rfl⟩
theorem noPartnerTimeout (dt port : Nat) : Statement (.noPartnerTimeout dt port) := fun _ => ⟨rfl, rfl⟩
theorem laneFailureDetect (dt lane cause : Nat) (seen : List Nat) : Statement (.laneFailureDetect dt lane cause seen) := fun _ => ⟨rfl, rfl⟩
theorem laneRetrain (dt lane : Nat) : Statement (.laneRetrain dt lane) := fun _ => ⟨rfl, rfl⟩
theorem retrainRetry (dt lane : Nat) : Statement (.retrainRetry dt lane) := fun _ => ⟨rfl, rfl⟩
theorem eyeUpdate (dt lane h w errors nbits : Nat) : Statement (.eyeUpdate dt lane h w errors nbits) := fun _ => ⟨rfl, rfl⟩
theorem quietCheckPeriod (dt lane h w : Nat) : Statement (.quietCheckPeriod dt lane h w) := fun _ => ⟨rfl, rfl⟩
theorem brumationExit (dt port : Nat) : Statement (.brumationExit dt port) := fun _ => ⟨rfl, rfl⟩
theorem laneTest (dt lane : Nat) : Statement (.laneTest dt lane) := fun _ => ⟨rfl, rfl⟩
theorem laneReturn (dt lane : Nat) : Statement (.laneReturn dt lane) := fun _ => ⟨rfl, rfl⟩
theorem testInject (dt lane : Nat) : Statement (.testInject dt lane) := fun _ => ⟨rfl, rfl⟩
theorem returnLaneSyncLoss (dt r : Nat) (seen : List Nat) : Statement (.returnLaneSyncLoss dt r seen) := fun _ => ⟨rfl, rfl⟩
theorem ringFrameRx (dt port : Nat) (words skew : List Nat) : Statement (.ringFrameRx dt port words skew) := fun _ => ⟨rfl, rfl⟩
theorem ringSliceRx (dt port h0 h1 h2 h3 : Nat) (payload : List Byte) (trailer back : Nat) (bad : List Nat) : Statement (.ringSliceRx dt port h0 h1 h2 h3 payload trailer back bad) := fun _ => ⟨rfl, rfl⟩
theorem ringEnumerate (dt : Nat) : Statement (.ringEnumerate dt) := fun _ => ⟨rfl, rfl⟩
theorem enumMsg (dt port dst : Nat) (tiles : List Nat) : Statement (.enumMsg dt port dst tiles) := fun _ => ⟨rfl, rfl⟩
theorem enumDone (dt port dst src : Nat) (tiles : List Nat) (closed : Nat) : Statement (.enumDone dt port dst src tiles closed) := fun _ => ⟨rfl, rfl⟩
theorem indexChanged (dt port dst src old new : Nat) : Statement (.indexChanged dt port dst src old new) := fun _ => ⟨rfl, rfl⟩
theorem mapsMsg (dt port tx rx : Nat) : Statement (.mapsMsg dt port tx rx) := fun _ => ⟨rfl, rfl⟩
theorem mapReq (dt port failed : Nat) (readmit : Bool) (id : Nat) : Statement (.mapReq dt port failed readmit id) := fun _ => ⟨rfl, rfl⟩
theorem mapAck (dt port id : Nat) : Statement (.mapAck dt port id) := fun _ => ⟨rfl, rfl⟩
theorem mapReqRepeat (dt port : Nat) : Statement (.mapReqRepeat dt port) := fun _ => ⟨rfl, rfl⟩
theorem statusMsgTimer (dt : Nat) : Statement (.statusMsgTimer dt) := fun _ => ⟨rfl, rfl⟩
theorem sideChannelForward (dt port : Nat) (bytes : List Byte) : Statement (.sideChannelForward dt port bytes) := fun _ => ⟨rfl, rfl⟩
theorem laneOutOrder (dt lane : Nat) : Statement (.laneOutOrder dt lane) := fun _ => ⟨rfl, rfl⟩
theorem mapChangeSend (dt port left : Nat) : Statement (.mapChangeSend dt port left) := fun _ => ⟨rfl, rfl⟩
theorem laneClean (dt lane errors : Nat) : Statement (.laneClean dt lane errors) := fun _ => ⟨rfl, rfl⟩
theorem decisionPoint (dt : Nat) : Statement (.decisionPoint dt) := fun _ => ⟨rfl, rfl⟩
theorem laneLoadComplete (dt lane : Nat) : Statement (.laneLoadComplete dt lane) := fun _ => ⟨rfl, rfl⟩
theorem panelBufferFull (dt lane : Nat) : Statement (.panelBufferFull dt lane) := fun _ => ⟨rfl, rfl⟩
theorem statusPoll (dt r : Nat) : Statement (.statusPoll dt r) := fun _ => ⟨rfl, rfl⟩
theorem statusResponse (dt r : Nat) (bytes : List Byte) : Statement (.statusResponse dt r bytes) := fun _ => ⟨rfl, rfl⟩
theorem statusReqTimeout (dt r : Nat) : Statement (.statusReqTimeout dt r) := fun _ => ⟨rfl, rfl⟩
theorem icAccRead (dt : Nat) : Statement (.icAccRead dt) := fun _ => ⟨rfl, rfl⟩
theorem icAccWrite (dt : Nat) : Statement (.icAccWrite dt) := fun _ => ⟨rfl, rfl⟩
theorem probationExpiry (dt lane : Nat) : Statement (.probationExpiry dt lane) := fun _ => ⟨rfl, rfl⟩
theorem panelLockTimer (dt lane : Nat) : Statement (.panelLockTimer dt lane) := fun _ => ⟨rfl, rfl⟩
theorem panelLinkupDone (dt : Nat) : Statement (.panelLinkupDone dt) := fun _ => ⟨rfl, rfl⟩
theorem rayStartReached (dt : Nat) : Statement (.rayStartReached dt) := fun _ => ⟨rfl, rfl⟩
theorem rayGroup (dt : Nat) (faults : List (Nat × Nat)) : Statement (.rayGroup dt faults) := fun _ => ⟨rfl, rfl⟩
theorem probeCycle (dt : Nat) : Statement (.probeCycle dt) := fun _ => ⟨rfl, rfl⟩
theorem scheduleBlockReloaded (dt : Nat) (fetch : Bool) (block : Nat) (ue : List DramErr) : Statement (.scheduleBlockReloaded dt fetch block ue) := fun _ => ⟨rfl, rfl⟩
theorem tableReloadDone (dt : Nat) (view : Bool) (index : Nat) (ue : List DramErr) : Statement (.tableReloadDone dt view index ue) := fun _ => ⟨rfl, rfl⟩
theorem fillIssue (dt : Nat) (bad : Bool) : Statement (.fillIssue dt bad) := fun _ => ⟨rfl, rfl⟩
theorem fillComplete (dt entry : Nat) (ue : List DramErr) : Statement (.fillComplete dt entry ue) := fun _ => ⟨rfl, rfl⟩
theorem lastRayOut (dt : Nat) : Statement (.lastRayOut dt) := fun _ => ⟨rfl, rfl⟩
theorem brushFault (dt brush lost : Nat) : Statement (.brushFault dt brush lost) := fun _ => ⟨rfl, rfl⟩
theorem cutoff (dt : Nat) (done : List Nat) : Statement (.cutoff dt done) := fun _ => ⟨rfl, rfl⟩
theorem cullPlanDone (dt : Nat) (ue : List DramErr) : Statement (.cullPlanDone dt ue) := fun _ => ⟨rfl, rfl⟩
theorem ingestRowStart (dt slot : Nat) (ue : List DramErr) : Statement (.ingestRowStart dt slot ue) := fun _ => ⟨rfl, rfl⟩
theorem ingestPassDone (dt slot : Nat) (ecc : Bool) : Statement (.ingestPassDone dt slot ecc) := fun _ => ⟨rfl, rfl⟩
theorem glazeSyncDone (dt : Nat) : Statement (.glazeSyncDone dt) := fun _ => ⟨rfl, rfl⟩
theorem glazeRestoreDone (dt table : Nat) : Statement (.glazeRestoreDone dt table) := fun _ => ⟨rfl, rfl⟩
theorem unitArrival (dt : Nat) : Statement (.unitArrival dt) := fun _ => ⟨rfl, rfl⟩
theorem engineDispatch (dt engine : Nat) (ue : List DramErr) : Statement (.engineDispatch dt engine ue) := fun _ => ⟨rfl, rfl⟩
theorem sliceDecodeDone (dt engine : Nat) (ue : List DramErr) : Statement (.sliceDecodeDone dt engine ue) := fun _ => ⟨rfl, rfl⟩
theorem concealDone (dt blocks : Nat) (ue : List DramErr) : Statement (.concealDone dt blocks ue) := fun _ => ⟨rfl, rfl⟩
theorem contextEcc (dt ctx : Nat) : Statement (.contextEcc dt ctx) := fun _ => ⟨rfl, rfl⟩
theorem engineFault (dt engine done : Nat) : Statement (.engineFault dt engine done) := fun _ => ⟨rfl, rfl⟩
theorem ctxClear (dt ctx : Nat) : Statement (.ctxClear dt ctx) := fun _ => ⟨rfl, rfl⟩
theorem dcCtxSelWrite (dt value : Nat) : Statement (.dcCtxSelWrite dt value) := fun _ => ⟨rfl, rfl⟩
theorem pictureStart (dt : Nat) : Statement (.pictureStart dt) := fun _ => ⟨rfl, rfl⟩
theorem pictureCoded (dt : Nat) (ue : List DramErr) : Statement (.pictureCoded dt ue) := fun _ => ⟨rfl, rfl⟩
theorem fragmentSend (dt stream sent : Nat) : Statement (.fragmentSend dt stream sent) := fun _ => ⟨rfl, rfl⟩
theorem popRecordWrite (dt index : Nat) (room : Bool) (sent : Nat) (ue : List DramErr) : Statement (.popRecordWrite dt index room sent ue) := fun _ => ⟨rfl, rfl⟩
theorem enRingHeadWrite (dt stream head : Nat) : Statement (.enRingHeadWrite dt stream head) := fun _ => ⟨rfl, rfl⟩
theorem rapRequest (dt stream : Nat) : Statement (.rapRequest dt stream) := fun _ => ⟨rfl, rfl⟩
theorem encoderFault (dt : Nat) : Statement (.encoderFault dt) := fun _ => ⟨rfl, rfl⟩
theorem stencilGo (dt : Nat) : Statement (.stencilGo dt) := fun _ => ⟨rfl, rfl⟩
theorem stencilModeWrite (dt mode : Nat) : Statement (.stencilModeWrite dt mode) := fun _ => ⟨rfl, rfl⟩
theorem listTailWrite (dt value : Nat) (ue : List DramErr) : Statement (.listTailWrite dt value ue) := fun _ => ⟨rfl, rfl⟩
theorem listResumeSkip (dt : Nat) (ue : List DramErr) : Statement (.listResumeSkip dt ue) := fun _ => ⟨rfl, rfl⟩
theorem listResumeRetry (dt : Nat) (ue : List DramErr) : Statement (.listResumeRetry dt ue) := fun _ => ⟨rfl, rfl⟩
theorem stencilCommandDone (dt : Nat) (ue : List DramErr) : Statement (.stencilCommandDone dt ue) := fun _ => ⟨rfl, rfl⟩
theorem watermarkReached (dt : Nat) : Statement (.watermarkReached dt) := fun _ => ⟨rfl, rfl⟩
theorem behindBeamTimeout (dt : Nat) : Statement (.behindBeamTimeout dt) := fun _ => ⟨rfl, rfl⟩
theorem stencilEcc (dt word rows : Nat) (ue : List DramErr) : Statement (.stencilEcc dt word rows ue) := fun _ => ⟨rfl, rfl⟩
theorem cxJobStart (dt pipe : Nat) : Statement (.cxJobStart dt pipe) := fun _ => ⟨rfl, rfl⟩
theorem cxJobEnd (dt pipe : Nat) (verify : Option Nat) (ue : List DramErr) : Statement (.cxJobEnd dt pipe verify ue) := fun _ => ⟨rfl, rfl⟩
theorem cxFault (dt pipe : Nat) (made : List Nat) (ue : List DramErr) : Statement (.cxFault dt pipe made ue) := fun _ => ⟨rfl, rfl⟩
theorem crcStart (dt unit_ : Nat) : Statement (.crcStart dt unit_) := fun _ => ⟨rfl, rfl⟩
theorem crcStop (dt unit_ : Nat) : Statement (.crcStop dt unit_) := fun _ => ⟨rfl, rfl⟩
theorem crcCompare (dt unit_ : Nat) : Statement (.crcCompare dt unit_) := fun _ => ⟨rfl, rfl⟩
theorem crcFeed (dt unit_ : Nat) (bytes : List Byte) : Statement (.crcFeed dt unit_ bytes) := fun _ => ⟨rfl, rfl⟩
theorem crcValueWrite (dt unit_ value : Nat) : Statement (.crcValueWrite dt unit_ value) := fun _ => ⟨rfl, rfl⟩
theorem snoopItem (dt point : Nat) (overflow : Bool) : Statement (.snoopItem dt point overflow) := fun _ => ⟨rfl, rfl⟩
theorem crcUnitFault (dt unit_ : Nat) : Statement (.crcUnitFault dt unit_) := fun _ => ⟨rfl, rfl⟩
theorem imageLoadBegin (dt : Nat) : Statement (.imageLoadBegin dt) := fun _ => ⟨rfl, rfl⟩
theorem imageLoadData (dt : Nat) (bytes : List Byte) : Statement (.imageLoadData dt bytes) := fun _ => ⟨rfl, rfl⟩
theorem imageLoadEnd (dt : Nat) : Statement (.imageLoadEnd dt) := fun _ => ⟨rfl, rfl⟩
theorem imageLoadAbort (dt : Nat) : Statement (.imageLoadAbort dt) := fun _ => ⟨rfl, rfl⟩
theorem imageLoadTimeout (dt : Nat) : Statement (.imageLoadTimeout dt) := fun _ => ⟨rfl, rfl⟩
theorem dmaLoadStart (dt : Nat) : Statement (.dmaLoadStart dt) := fun _ => ⟨rfl, rfl⟩
theorem dmaLoadAbort (dt : Nat) : Statement (.dmaLoadAbort dt) := fun _ => ⟨rfl, rfl⟩
theorem dmaLoadEnd (dt : Nat) (bytes : List Byte) (err : Bool) : Statement (.dmaLoadEnd dt bytes err) := fun _ => ⟨rfl, rfl⟩
theorem verificationDone (dt slot : Nat) : Statement (.verificationDone dt slot) := fun _ => ⟨rfl, rfl⟩
theorem actRequest (dt : Nat) : Statement (.actRequest dt) := fun _ => ⟨rfl, rfl⟩
theorem actCancel (dt : Nat) : Statement (.actCancel dt) := fun _ => ⟨rfl, rfl⟩
theorem sramCopyDone (dt : Nat) (ue : List DramErr) : Statement (.sramCopyDone dt ue) := fun _ => ⟨rfl, rfl⟩
theorem storeCmd (dt : Nat) : Statement (.storeCmd dt) := fun _ => ⟨rfl, rfl⟩
theorem storeDone (dt : Nat) (ue : List DramErr) : Statement (.storeDone dt ue) := fun _ => ⟨rfl, rfl⟩
theorem rayQuery (dt index : Nat) : Statement (.rayQuery dt index) := fun _ => ⟨rfl, rfl⟩
theorem rayQueryDone (dt : Nat) : Statement (.rayQueryDone dt) := fun _ => ⟨rfl, rfl⟩
theorem mr4Read (dt port ch rank rate : Nat) : Statement (.mr4Read dt port ch rank rate) := fun _ => ⟨rfl, rfl⟩
theorem refreshDue (dt port ch rank : Nat) : Statement (.refreshDue dt port ch rank) := fun _ => ⟨rfl, rfl⟩
theorem zqLatch (dt port ch : Nat) : Statement (.zqLatch dt port ch) := fun _ => ⟨rfl, rfl⟩
theorem wckTrack (dt port ch : Nat) : Statement (.wckTrack dt port ch) := fun _ => ⟨rfl, rfl⟩
theorem patrolScrub (dt : Nat) (ue : List DramErr) : Statement (.patrolScrub dt ue) := fun _ => ⟨rfl, rfl⟩
theorem powerDownEntry (dt port ch rank : Nat) : Statement (.powerDownEntry dt port ch rank) := fun _ => ⟨rfl, rfl⟩
theorem sramScrub (dt fixed : Nat) (words : List (Nat × Nat × Nat)) : Statement (.sramScrub dt fixed words) := fun _ => ⟨rfl, rfl⟩
theorem faultReport (dt : Nat) : Statement (.faultReport dt) := fun _ => ⟨rfl, rfl⟩
theorem frameHoldEnd (dt : Nat) : Statement (.frameHoldEnd dt) := fun _ => ⟨rfl, rfl⟩
theorem recoveryWindowClose (dt : Nat) : Statement (.recoveryWindowClose dt) := fun _ => ⟨rfl, rfl⟩
theorem safeStateEnd (dt : Nat) : Statement (.safeStateEnd dt) := fun _ => ⟨rfl, rfl⟩
theorem faultClear (dt : Nat) : Statement (.faultClear dt) := fun _ => ⟨rfl, rfl⟩
theorem flipWatchdog (dt : Nat) : Statement (.flipWatchdog dt) := fun _ => ⟨rfl, rfl⟩
theorem heartbeatMissing (dt island : Nat) : Statement (.heartbeatMissing dt island) := fun _ => ⟨rfl, rfl⟩
theorem tickReplicaCompare (dt : Nat) (diff : Int) : Statement (.tickReplicaCompare dt diff) := fun _ => ⟨rfl, rfl⟩
theorem islandRecovered (dt island : Nat) : Statement (.islandRecovered dt island) := fun _ => ⟨rfl, rfl⟩
theorem selfTestDone (dt subsystem unit_ : Nat) (pass : Bool) : Statement (.selfTestDone dt subsystem unit_ pass) := fun _ => ⟨rfl, rfl⟩
theorem unitRestore (dt value : Nat) : Statement (.unitRestore dt value) := fun _ => ⟨rfl, rfl⟩
theorem laneReadmit (dt lane : Nat) : Statement (.laneReadmit dt lane) := fun _ => ⟨rfl, rfl⟩
theorem sequencerVote (dt copy : Nat) : Statement (.sequencerVote dt copy) := fun _ => ⟨rfl, rfl⟩
theorem logClear (dt : Nat) : Statement (.logClear dt) := fun _ => ⟨rfl, rfl⟩
theorem registerRead (dt : Nat) (fn : Fn) (at_ : RegAt) : Statement (.registerRead dt fn at_) := fun _ => ⟨rfl, rfl⟩
theorem laneControlPeriod (dt lane : Nat) (res : List (Nat × Nat × Nat × Nat × Nat)) : Statement (.laneControlPeriod dt lane res) := fun _ => ⟨rfl, rfl⟩
theorem panelBufferDrained (dt lane : Nat) : Statement (.panelBufferDrained dt lane) := fun _ => ⟨rfl, rfl⟩
theorem slewComplete (dt : Nat) : Statement (.slewComplete dt) := fun _ => ⟨rfl, rfl⟩
theorem refclkRestored (dt : Nat) : Statement (.refclkRestored dt) := fun _ => ⟨rfl, rfl⟩
theorem returnLaneSyncRegained (dt r : Nat) (seen : List Nat) : Statement (.returnLaneSyncRegained dt r seen) := fun _ => ⟨rfl, rfl⟩
theorem fieldPortRecovered (dt f : Nat) : Statement (.fieldPortRecovered dt f) := fun _ => ⟨rfl, rfl⟩
theorem pairOutResetTimer (dt : Nat) (cut : Option MramCut) : Statement (.pairOutResetTimer dt cut) := fun _ => ⟨rfl, rfl⟩

end Laws.Time

end Sys2Proof
end

