-- ==== Sys2Proof/Laws/Post.lean ====
section
/-! SUPPORT. A change of one part of the machine leaves every entry and every register field; posting an event leaves everything but
the event queues, the counters, the log and the pins that show it. -/
namespace Sys2Proof.Machine

@[simp] theorem Ctl.e_setDy (c : Ctl) (f : DyState → DyState) (k : Nat) : (c.setDy f).e k = c.e k := rfl
@[simp] theorem Ctl.ev_setDy (c : Ctl) (f : DyState → DyState) (k : Nat) : (c.setDy f).ev k = c.ev k := rfl
@[simp] theorem Ctl.ea_setDy (c : Ctl) (f : DyState → DyState) (x i : Nat) : (c.setDy f).ea x i = c.ea x i := rfl
@[simp] theorem Ctl.reg_setDy (c : Ctl) (f : DyState → DyState) (r : RegName) (i l : Nat) : (c.setDy f).reg r i l = c.reg r i l := rfl
@[simp] theorem Ctl.e_setHi (c : Ctl) (f : HiState → HiState) (k : Nat) : (c.setHi f).e k = c.e k := rfl
@[simp] theorem Ctl.ev_setHi (c : Ctl) (f : HiState → HiState) (k : Nat) : (c.setHi f).ev k = c.ev k := rfl
@[simp] theorem Ctl.ea_setHi (c : Ctl) (f : HiState → HiState) (x i : Nat) : (c.setHi f).ea x i = c.ea x i := rfl
@[simp] theorem Ctl.reg_setHi (c : Ctl) (f : HiState → HiState) (r : RegName) (i l : Nat) : (c.setHi f).reg r i l = c.reg r i l := rfl
@[simp] theorem Ctl.e_setTb (c : Ctl) (f : TbState → TbState) (k : Nat) : (c.setTb f).e k = c.e k := rfl
@[simp] theorem Ctl.ev_setTb (c : Ctl) (f : TbState → TbState) (k : Nat) : (c.setTb f).ev k = c.ev k := rfl
@[simp] theorem Ctl.ea_setTb (c : Ctl) (f : TbState → TbState) (x i : Nat) : (c.setTb f).ea x i = c.ea x i := rfl
@[simp] theorem Ctl.reg_setTb (c : Ctl) (f : TbState → TbState) (r : RegName) (i l : Nat) : (c.setTb f).reg r i l = c.reg r i l := rfl
@[simp] theorem Ctl.e_setFm (c : Ctl) (f : FmState → FmState) (k : Nat) : (c.setFm f).e k = c.e k := rfl
@[simp] theorem Ctl.ev_setFm (c : Ctl) (f : FmState → FmState) (k : Nat) : (c.setFm f).ev k = c.ev k := rfl
@[simp] theorem Ctl.ea_setFm (c : Ctl) (f : FmState → FmState) (x i : Nat) : (c.setFm f).ea x i = c.ea x i := rfl
@[simp] theorem Ctl.reg_setFm (c : Ctl) (f : FmState → FmState) (r : RegName) (i l : Nat) : (c.setFm f).reg r i l = c.reg r i l := rfl
@[simp] theorem Ctl.e_setBt (c : Ctl) (f : BtState → BtState) (k : Nat) : (c.setBt f).e k = c.e k := rfl
@[simp] theorem Ctl.ev_setBt (c : Ctl) (f : BtState → BtState) (k : Nat) : (c.setBt f).ev k = c.ev k := rfl
@[simp] theorem Ctl.ea_setBt (c : Ctl) (f : BtState → BtState) (x i : Nat) : (c.setBt f).ea x i = c.ea x i := rfl
@[simp] theorem Ctl.reg_setBt (c : Ctl) (f : BtState → BtState) (r : RegName) (i l : Nat) : (c.setBt f).reg r i l = c.reg r i l := rfl
@[simp] theorem Ctl.e_setMc (c : Ctl) (f : McState → McState) (k : Nat) : (c.setMc f).e k = c.e k := rfl
@[simp] theorem Ctl.ev_setMc (c : Ctl) (f : McState → McState) (k : Nat) : (c.setMc f).ev k = c.ev k := rfl
@[simp] theorem Ctl.ea_setMc (c : Ctl) (f : McState → McState) (x i : Nat) : (c.setMc f).ea x i = c.ea x i := rfl
@[simp] theorem Ctl.reg_setMc (c : Ctl) (f : McState → McState) (r : RegName) (i l : Nat) : (c.setMc f).reg r i l = c.reg r i l := rfl
@[simp] theorem Ctl.e_setPm (c : Ctl) (f : PmState → PmState) (k : Nat) : (c.setPm f).e k = c.e k := rfl
@[simp] theorem Ctl.ev_setPm (c : Ctl) (f : PmState → PmState) (k : Nat) : (c.setPm f).ev k = c.ev k := rfl
@[simp] theorem Ctl.ea_setPm (c : Ctl) (f : PmState → PmState) (x i : Nat) : (c.setPm f).ea x i = c.ea x i := rfl
@[simp] theorem Ctl.reg_setPm (c : Ctl) (f : PmState → PmState) (r : RegName) (i l : Nat) : (c.setPm f).reg r i l = c.reg r i l := rfl
@[simp] theorem Ctl.e_setRg (c : Ctl) (f : RgState → RgState) (k : Nat) : (c.setRg f).e k = c.e k := rfl
@[simp] theorem Ctl.ev_setRg (c : Ctl) (f : RgState → RgState) (k : Nat) : (c.setRg f).ev k = c.ev k := rfl
@[simp] theorem Ctl.ea_setRg (c : Ctl) (f : RgState → RgState) (x i : Nat) : (c.setRg f).ea x i = c.ea x i := rfl
@[simp] theorem Ctl.reg_setRg (c : Ctl) (f : RgState → RgState) (r : RegName) (i l : Nat) : (c.setRg f).reg r i l = c.reg r i l := rfl
@[simp] theorem Ctl.e_setXz (c : Ctl) (f : XzState → XzState) (k : Nat) : (c.setXz f).e k = c.e k := rfl
@[simp] theorem Ctl.ev_setXz (c : Ctl) (f : XzState → XzState) (k : Nat) : (c.setXz f).ev k = c.ev k := rfl
@[simp] theorem Ctl.ea_setXz (c : Ctl) (f : XzState → XzState) (x i : Nat) : (c.setXz f).ea x i = c.ea x i := rfl
@[simp] theorem Ctl.reg_setXz (c : Ctl) (f : XzState → XzState) (r : RegName) (i l : Nat) : (c.setXz f).reg r i l = c.reg r i l := rfl
@[simp] theorem Ctl.e_setDc (c : Ctl) (f : DcState → DcState) (k : Nat) : (c.setDc f).e k = c.e k := rfl
@[simp] theorem Ctl.ev_setDc (c : Ctl) (f : DcState → DcState) (k : Nat) : (c.setDc f).ev k = c.ev k := rfl
@[simp] theorem Ctl.ea_setDc (c : Ctl) (f : DcState → DcState) (x i : Nat) : (c.setDc f).ea x i = c.ea x i := rfl
@[simp] theorem Ctl.reg_setDc (c : Ctl) (f : DcState → DcState) (r : RegName) (i l : Nat) : (c.setDc f).reg r i l = c.reg r i l := rfl
@[simp] theorem Ctl.e_setPl (c : Ctl) (f : PlState → PlState) (k : Nat) : (c.setPl f).e k = c.e k := rfl
@[simp] theorem Ctl.ev_setPl (c : Ctl) (f : PlState → PlState) (k : Nat) : (c.setPl f).ev k = c.ev k := rfl
@[simp] theorem Ctl.ea_setPl (c : Ctl) (f : PlState → PlState) (x i : Nat) : (c.setPl f).ea x i = c.ea x i := rfl
@[simp] theorem Ctl.reg_setPl (c : Ctl) (f : PlState → PlState) (r : RegName) (i l : Nat) : (c.setPl f).reg r i l = c.reg r i l := rfl
@[simp] theorem Ctl.e_setEs (c : Ctl) (f : EsState → EsState) (k : Nat) : (c.setEs f).e k = c.e k := rfl
@[simp] theorem Ctl.ev_setEs (c : Ctl) (f : EsState → EsState) (k : Nat) : (c.setEs f).ev k = c.ev k := rfl
@[simp] theorem Ctl.ea_setEs (c : Ctl) (f : EsState → EsState) (x i : Nat) : (c.setEs f).ea x i = c.ea x i := rfl
@[simp] theorem Ctl.reg_setEs (c : Ctl) (f : EsState → EsState) (r : RegName) (i l : Nat) : (c.setEs f).reg r i l = c.reg r i l := rfl
@[simp] theorem Ctl.e_setPd (c : Ctl) (f : PdState → PdState) (k : Nat) : (c.setPd f).e k = c.e k := rfl
@[simp] theorem Ctl.ev_setPd (c : Ctl) (f : PdState → PdState) (k : Nat) : (c.setPd f).ev k = c.ev k := rfl
@[simp] theorem Ctl.ea_setPd (c : Ctl) (f : PdState → PdState) (x i : Nat) : (c.setPd f).ea x i = c.ea x i := rfl
@[simp] theorem Ctl.reg_setPd (c : Ctl) (f : PdState → PdState) (r : RegName) (i l : Nat) : (c.setPd f).reg r i l = c.reg r i l := rfl
@[simp] theorem Ctl.e_setSt (c : Ctl) (f : StState → StState) (k : Nat) : (c.setSt f).e k = c.e k := rfl
@[simp] theorem Ctl.ev_setSt (c : Ctl) (f : StState → StState) (k : Nat) : (c.setSt f).ev k = c.ev k := rfl
@[simp] theorem Ctl.ea_setSt (c : Ctl) (f : StState → StState) (x i : Nat) : (c.setSt f).ea x i = c.ea x i := rfl
@[simp] theorem Ctl.reg_setSt (c : Ctl) (f : StState → StState) (r : RegName) (i l : Nat) : (c.setSt f).reg r i l = c.reg r i l := rfl
@[simp] theorem Ctl.e_setEn (c : Ctl) (f : EnState → EnState) (k : Nat) : (c.setEn f).e k = c.e k := rfl
@[simp] theorem Ctl.ev_setEn (c : Ctl) (f : EnState → EnState) (k : Nat) : (c.setEn f).ev k = c.ev k := rfl
@[simp] theorem Ctl.ea_setEn (c : Ctl) (f : EnState → EnState) (x i : Nat) : (c.setEn f).ea x i = c.ea x i := rfl
@[simp] theorem Ctl.reg_setEn (c : Ctl) (f : EnState → EnState) (r : RegName) (i l : Nat) : (c.setEn f).reg r i l = c.reg r i l := rfl

/-! ### Events -/

/-- The part without what posting an event may change. -/
def Ctl.kept (c : Ctl) : Ctl := { c with ent := [], regs := [], irq := 0, dy := {}, hi := {}, fm := {}, out := [] }

theorem Ctl.kept_offer (c : Ctl) (b : Nat) (r : EvRec) : (c.offer b r).kept = c.kept := rfl
theorem Ctl.kept_setE (c : Ctl) (k n : Nat) : (c.setE k n).kept = c.kept := rfl
theorem Ctl.kept_setReg (c : Ctl) (r : RegName) (i l v : Nat) : (c.setReg r i l v).kept = c.kept := rfl
theorem Ctl.kept_enqueue (c : Ctl) (q : Nat) (r : EvRec) : (c.enqueue q r).kept = c.kept := by
  unfold Ctl.enqueue
  split
  · rfl
  · split <;> rfl
theorem Ctl.kept_raiseIrq (c : Ctl) (b : Nat) : (c.raiseIrq b).kept = c.kept := by
  simp only [Ctl.raiseIrq]
  split
  · rfl
  · split <;> rfl
theorem Ctl.kept_logAdd (c : Ctl) (r : EvRec) (a b w : Nat) (h : Bool) : (c.logAdd r a b w h).kept = c.kept := by
  unfold Ctl.logAdd Ctl.logCount Ctl.addE
  rw [Ctl.kept_setE, Ctl.kept_setE, Ctl.kept_setE]
  unfold Ctl.logPut Ctl.kept
  rfl

theorem Ctl.kept_eventBit (c : Ctl) (code : Nat) : (c.eventBit code).kept = c.kept := by
  unfold Ctl.eventBit
  split <;> rfl

theorem Ctl.kept_tell (c : Ctl) (code : Nat) (r : EvRec) : (c.tell code r).kept = c.kept := by
  simp only [Ctl.tell]
  rw [Ctl.kept_eventBit, Ctl.kept_raiseIrq, Ctl.kept_enqueue, Ctl.kept_enqueue, Ctl.kept_offer]

theorem Ctl.kept_sequence (c : Ctl) (code : Nat) (r : EvRec) : (c.sequence code r).kept = c.kept := by
  simp only [Ctl.sequence]
  split
  · rfl
  · split
    · exact Ctl.kept_logAdd ..
    · rfl

theorem Ctl.kept_postOne (c : Ctl) (code : Nat) (items : List (Nat × Nat)) : (c.postOne code items).kept = c.kept := by
  simp only [Ctl.postOne]
  rw [Ctl.kept_sequence, Ctl.kept_tell]

theorem Ctl.kept_postDrops (c : Ctl) (q : Nat) : (c.postDrops q).kept = c.kept := by
  simp only [Ctl.postDrops]
  split
  · split
    · rfl
    · rw [Ctl.kept_postOne]; rfl
  · split
    · rfl
    · rw [Ctl.kept_postOne]; rfl

/-- What only reads the kept parts is the same where the kept parts are. -/
theorem Ctl.of_kept {α : Type} {c d : Ctl} (f : Ctl → α) (hf : ∀ x : Ctl, f x.kept = f x) (h : d.kept = c.kept) : f d = f c := by
  rw [← hf d, h, hf c]

/-- Posting an event leaves every part but the queues, the fault sequencer, the entries, the registers and the pins. -/
theorem Ctl.kept_post (c : Ctl) (code : Nat) (items : List (Nat × Nat)) : (c.post code items).kept = c.kept := by
  unfold Ctl.post
  simp only [Ctl.kept_postDrops, Ctl.kept_postOne]

@[simp] theorem Ctl.post_now (c : Ctl) (code : Nat) (items : List (Nat × Nat)) : (c.post code items).now = c.now :=
  Ctl.of_kept Ctl.now (fun _ => rfl) (c.kept_post code items)
@[simp] theorem Ctl.post_up (c : Ctl) (code : Nat) (items : List (Nat × Nat)) : (c.post code items).up = c.up :=
  Ctl.of_kept Ctl.up (fun _ => rfl) (c.kept_post code items)
@[simp] theorem Ctl.post_clk (c : Ctl) (code : Nat) (items : List (Nat × Nat)) : (c.post code items).clk = c.clk :=
  Ctl.of_kept Ctl.clk (fun _ => rfl) (c.kept_post code items)
@[simp] theorem Ctl.post_draws (c : Ctl) (code : Nat) (items : List (Nat × Nat)) : (c.post code items).draws = c.draws :=
  Ctl.of_kept Ctl.draws (fun _ => rfl) (c.kept_post code items)
@[simp] theorem Ctl.post_shadow (c : Ctl) (code : Nat) (items : List (Nat × Nat)) : (c.post code items).shadow = c.shadow :=
  Ctl.of_kept Ctl.shadow (fun _ => rfl) (c.kept_post code items)
@[simp] theorem Ctl.post_nv (c : Ctl) (code : Nat) (items : List (Nat × Nat)) : (c.post code items).nv = c.nv :=
  Ctl.of_kept Ctl.nv (fun _ => rfl) (c.kept_post code items)
@[simp] theorem Ctl.post_loHeld (c : Ctl) (code : Nat) (items : List (Nat × Nat)) : (c.post code items).loHeld = c.loHeld :=
  Ctl.of_kept Ctl.loHeld (fun _ => rfl) (c.kept_post code items)
@[simp] theorem Ctl.post_hiLatch (c : Ctl) (code : Nat) (items : List (Nat × Nat)) : (c.post code items).hiLatch = c.hiLatch :=
  Ctl.of_kept Ctl.hiLatch (fun _ => rfl) (c.kept_post code items)
@[simp] theorem Ctl.post_readData (c : Ctl) (code : Nat) (items : List (Nat × Nat)) : (c.post code items).readData = c.readData :=
  Ctl.of_kept Ctl.readData (fun _ => rfl) (c.kept_post code items)
@[simp] theorem Ctl.post_tb (c : Ctl) (code : Nat) (items : List (Nat × Nat)) : (c.post code items).tb = c.tb :=
  Ctl.of_kept Ctl.tb (fun _ => rfl) (c.kept_post code items)
@[simp] theorem Ctl.post_bt (c : Ctl) (code : Nat) (items : List (Nat × Nat)) : (c.post code items).bt = c.bt :=
  Ctl.of_kept Ctl.bt (fun _ => rfl) (c.kept_post code items)
@[simp] theorem Ctl.post_mc (c : Ctl) (code : Nat) (items : List (Nat × Nat)) : (c.post code items).mc = c.mc :=
  Ctl.of_kept Ctl.mc (fun _ => rfl) (c.kept_post code items)
@[simp] theorem Ctl.post_cx (c : Ctl) (code : Nat) (items : List (Nat × Nat)) : (c.post code items).cx = c.cx :=
  Ctl.of_kept Ctl.cx (fun _ => rfl) (c.kept_post code items)
@[simp] theorem Ctl.post_pm (c : Ctl) (code : Nat) (items : List (Nat × Nat)) : (c.post code items).pm = c.pm :=
  Ctl.of_kept Ctl.pm (fun _ => rfl) (c.kept_post code items)
@[simp] theorem Ctl.post_ln (c : Ctl) (code : Nat) (items : List (Nat × Nat)) : (c.post code items).ln = c.ln :=
  Ctl.of_kept Ctl.ln (fun _ => rfl) (c.kept_post code items)
@[simp] theorem Ctl.post_rg (c : Ctl) (code : Nat) (items : List (Nat × Nat)) : (c.post code items).rg = c.rg :=
  Ctl.of_kept Ctl.rg (fun _ => rfl) (c.kept_post code items)
@[simp] theorem Ctl.post_xz (c : Ctl) (code : Nat) (items : List (Nat × Nat)) : (c.post code items).xz = c.xz :=
  Ctl.of_kept Ctl.xz (fun _ => rfl) (c.kept_post code items)
@[simp] theorem Ctl.post_dc (c : Ctl) (code : Nat) (items : List (Nat × Nat)) : (c.post code items).dc = c.dc :=
  Ctl.of_kept Ctl.dc (fun _ => rfl) (c.kept_post code items)
@[simp] theorem Ctl.post_pl (c : Ctl) (code : Nat) (items : List (Nat × Nat)) : (c.post code items).pl = c.pl :=
  Ctl.of_kept Ctl.pl (fun _ => rfl) (c.kept_post code items)
@[simp] theorem Ctl.post_es (c : Ctl) (code : Nat) (items : List (Nat × Nat)) : (c.post code items).es = c.es :=
  Ctl.of_kept Ctl.es (fun _ => rfl) (c.kept_post code items)
@[simp] theorem Ctl.post_pd (c : Ctl) (code : Nat) (items : List (Nat × Nat)) : (c.post code items).pd = c.pd :=
  Ctl.of_kept Ctl.pd (fun _ => rfl) (c.kept_post code items)
@[simp] theorem Ctl.post_st (c : Ctl) (code : Nat) (items : List (Nat × Nat)) : (c.post code items).st = c.st :=
  Ctl.of_kept Ctl.st (fun _ => rfl) (c.kept_post code items)
@[simp] theorem Ctl.post_en (c : Ctl) (code : Nat) (items : List (Nat × Nat)) : (c.post code items).en = c.en :=
  Ctl.of_kept Ctl.en (fun _ => rfl) (c.kept_post code items)

/-- Entries that posting an event may change: the drop counters, IRQ_STATE and the entries of the log (17 R493, 20 R569). -/
def postKey (k : Nat) : Bool := decide (k / 256 = 0x5310) || decide (k = 0x530005) || (decide (0x700001 ≤ k) && decide (k ≤ 0x700003))

theorem Ctl.ev_keep {c d : Ctl} {k : Nat} (h : d.ent = c.ent) : d.ev k = c.ev k := Ctl.ev_congr h k

theorem Ctl.ev_enqueue (c : Ctl) (q : Nat) (r : EvRec) (k : Nat) (h : postKey k = false) (hq : q < 255) : (c.enqueue q r).ev k = c.ev k := by
  have hk : ¬ ekey 0x5310 (q + 1) = k := by
    intro e
    simp only [postKey, Bool.or_eq_false_iff, decide_eq_false_iff_not] at h
    unfold ekey at e
    omega
  unfold Ctl.enqueue
  split
  · rfl
  · split
    · rfl
    · show ((c.setE (ekey 0x5310 (q + 1)) _).ev k) = c.ev k
      rw [Ctl.ev_setE]
      simp [hk]

theorem Ctl.ev_raiseIrq (c : Ctl) (b k : Nat) (h : postKey k = false) : (c.raiseIrq b).ev k = c.ev k := by
  have hk : ¬ 0x530005 = k := by
    intro e
    simp only [postKey, Bool.or_eq_false_iff, decide_eq_false_iff_not] at h
    omega
  simp only [Ctl.raiseIrq]
  split
  · rfl
  · split
    · rw [Ctl.ev_setE]; simp only [hk, if_false]; rfl
    · rw [Ctl.ev_setE]; simp only [hk, if_false]; rfl

theorem Ctl.ev_logAdd (c : Ctl) (r : EvRec) (a b w : Nat) (hi : Bool) (k : Nat) (h : postKey k = false) :
    (c.logAdd r a b w hi).ev k = c.ev k := by
  have h1 : ¬ 0x700001 = k := by
    intro e
    subst e
    exact absurd h (by decide)
  have h2 : ¬ 0x700002 = k := by
    intro e
    subst e
    exact absurd h (by decide)
  have h3 : ¬ 0x700003 = k := by
    intro e
    subst e
    exact absurd h (by decide)
  unfold Ctl.logAdd Ctl.logCount Ctl.addE
  rw [Ctl.ev_setE, Ctl.ev_setE, Ctl.ev_setE]
  simp only [h1, h2, h3, if_false]
  exact Ctl.ev_congr (by unfold Ctl.logPut; rfl) k

theorem Ctl.ev_eventBit (c : Ctl) (code k : Nat) : (c.eventBit code).ev k = c.ev k := by
  unfold Ctl.eventBit
  split <;> rfl

theorem blockOf_lt (code : Nat) (h : code < 65536) : blockOf code < 144 := by unfold blockOf; omega

theorem Ctl.ev_tell (c : Ctl) (code : Nat) (r : EvRec) (k : Nat) (h : postKey k = false) (hc : code < 65536) :
    (c.tell code r).ev k = c.ev k := by
  have hb := blockOf_lt code hc
  simp only [Ctl.tell]
  rw [Ctl.ev_eventBit, Ctl.ev_raiseIrq _ _ _ h, Ctl.ev_enqueue _ _ _ _ h (by omega), Ctl.ev_enqueue _ _ _ _ h (by omega)]
  rfl

theorem Ctl.ev_sequence (c : Ctl) (code : Nat) (r : EvRec) (k : Nat) (h : postKey k = false) : (c.sequence code r).ev k = c.ev k := by
  simp only [Ctl.sequence]
  split
  · rfl
  · split
    · exact Ctl.ev_logAdd _ _ _ _ _ _ _ h
    · rfl

theorem Ctl.ev_postOne (c : Ctl) (code : Nat) (items : List (Nat × Nat)) (k : Nat) (h : postKey k = false) (hc : code < 65536) :
    (c.postOne code items).ev k = c.ev k := by
  simp only [Ctl.postOne]
  rw [Ctl.ev_sequence _ _ _ _ h, Ctl.ev_tell _ _ _ _ h hc]

theorem Ctl.ev_postDrops (c : Ctl) (q k : Nat) (h : postKey k = false) : (c.postDrops q).ev k = c.ev k := by
  simp only [Ctl.postDrops]
  split
  · split
    · rfl
    · rw [Ctl.ev_postOne _ _ _ _ h (by decide)]; rfl
  · split
    · rfl
    · rw [Ctl.ev_postOne _ _ _ _ h (by decide)]; rfl

/-- Posting an event leaves every entry but the drop counters, IRQ_STATE and the entries of the log. -/
theorem Ctl.ev_post (c : Ctl) (code : Nat) (items : List (Nat × Nat)) (k : Nat) (h : postKey k = false) (hc : code < 65536) :
    (c.post code items).ev k = c.ev k := by
  unfold Ctl.post
  simp only [Ctl.ev_postDrops _ _ _ h, Ctl.ev_postOne _ _ _ _ h hc]

theorem Ctl.e_post (c : Ctl) (code : Nat) (items : List (Nat × Nat)) (k : Nat) (h : postKey k = false) (hc : code < 65536) :
    (c.post code items).e k = c.e k := by unfold Ctl.e; rw [Ctl.ev_post c code items k h hc]

theorem Ctl.ea_post (c : Ctl) (code : Nat) (items : List (Nat × Nat)) (x i : Nat) (h : postKey (ekey x (i + 1)) = false) (hc : code < 65536) :
    (c.post code items).ea x i = c.ea x i := Ctl.e_post c code items _ h hc

/-! ### Register fields, the fault sequencer and the dictionary server under events -/

/-- Registers that posting an event may change: the event registers and HI_EQ_DROPS (17 R492). -/
def postReg (r : RegName) : Bool := decide (r = .hiEqDrops) || eventBits.any (fun p => decide (p.2.1 = r))

theorem Ctl.reg_enqueue (c : Ctl) (q : Nat) (x : EvRec) (r : RegName) (i l : Nat) (h : postReg r = false) :
    (c.enqueue q x).reg r i l = c.reg r i l := by
  have hr : ¬ RegName.hiEqDrops = r := by
    intro e
    subst e
    exact absurd h (by decide)
  unfold Ctl.enqueue
  split
  · rfl
  · split
    · rfl
    · show (Ctl.addReg _ _ _ _ _ _).reg r i l = _
      unfold Ctl.addReg
      rw [Ctl.reg_setReg]
      simp only [Prod.mk.injEq, hr, false_and, if_false]
      rfl

theorem Ctl.reg_raiseIrq (c : Ctl) (b : Nat) (r : RegName) (i l : Nat) : (c.raiseIrq b).reg r i l = c.reg r i l := by
  simp only [Ctl.raiseIrq]
  split
  · rfl
  · split <;> rfl

theorem Ctl.reg_eventBit (c : Ctl) (code : Nat) (r : RegName) (i l : Nat) (h : postReg r = false) :
    (c.eventBit code).reg r i l = c.reg r i l := by
  unfold Ctl.eventBit
  split
  · rename_i p hp
    have hm := List.mem_of_find?_eq_some hp
    have hr : ¬ p.2.1 = r := by
      intro e
      simp only [postReg, Bool.or_eq_false_iff, List.any_eq_false, decide_eq_true_eq] at h
      exact h.2 p hm e
    rw [Ctl.reg_setReg]
    simp only [Prod.mk.injEq, hr, false_and, if_false]
  · rfl

theorem Ctl.reg_logAdd (c : Ctl) (x : EvRec) (a b w : Nat) (hi : Bool) (r : RegName) (i l : Nat) :
    (c.logAdd x a b w hi).reg r i l = c.reg r i l := by
  unfold Ctl.logAdd Ctl.logCount Ctl.addE
  rw [Ctl.reg_setE, Ctl.reg_setE, Ctl.reg_setE]
  unfold Ctl.logPut Ctl.reg
  rfl

theorem Ctl.reg_postOne (c : Ctl) (code : Nat) (items : List (Nat × Nat)) (r : RegName) (i l : Nat) (h : postReg r = false) :
    (c.postOne code items).reg r i l = c.reg r i l := by
  have ht : ∀ x : EvRec, (c.tell code x).reg r i l = c.reg r i l := by
    intro x
    simp only [Ctl.tell]
    rw [Ctl.reg_eventBit _ _ _ _ _ h, Ctl.reg_raiseIrq, Ctl.reg_enqueue _ _ _ _ _ _ h, Ctl.reg_enqueue _ _ _ _ _ _ h]
    rfl
  simp only [Ctl.postOne, Ctl.sequence]
  split
  · exact ht _
  · split
    · rw [Ctl.reg_logAdd]
      exact ht _
    · exact ht _

theorem Ctl.reg_postDrops (c : Ctl) (q : Nat) (r : RegName) (i l : Nat) (h : postReg r = false) : (c.postDrops q).reg r i l = c.reg r i l := by
  simp only [Ctl.postDrops]
  split
  · split
    · rfl
    · rw [Ctl.reg_postOne _ _ _ _ _ _ h]
      rfl
  · split
    · rfl
    · rw [Ctl.reg_postOne _ _ _ _ _ _ h]
      rfl

/-- Posting an event leaves every register field but the event registers and HI_EQ_DROPS. -/
theorem Ctl.reg_post (c : Ctl) (code : Nat) (items : List (Nat × Nat)) (r : RegName) (i l : Nat) (h : postReg r = false) :
    (c.post code items).reg r i l = c.reg r i l := by
  unfold Ctl.post
  simp only [Ctl.reg_postDrops _ _ _ _ _ h, Ctl.reg_postOne _ _ _ _ _ _ h]

/-- The fault sequencer without its log and its queue of reports. -/
def Ctl.fmKept (c : Ctl) : FmState := { c.fm with log := [], nextSeq := 0, savedSeq := 0, history := [], histWait := [], reports := [] }

/-- The dictionary server without its sessions. -/
def Ctl.dyKept (c : Ctl) : DyState := { c.dy with sessions := [] }

theorem Ctl.fmKept_enqueue (c : Ctl) (q : Nat) (x : EvRec) : (c.enqueue q x).fmKept = c.fmKept ∧ (c.enqueue q x).dyKept = c.dyKept := by
  unfold Ctl.enqueue
  split
  · exact ⟨rfl, rfl⟩
  · split <;> exact ⟨rfl, rfl⟩

theorem Ctl.fmKept_raiseIrq (c : Ctl) (b : Nat) : (c.raiseIrq b).fmKept = c.fmKept ∧ (c.raiseIrq b).dyKept = c.dyKept := by
  simp only [Ctl.raiseIrq]
  split
  · exact ⟨rfl, rfl⟩
  · split <;> exact ⟨rfl, rfl⟩

theorem Ctl.fmKept_eventBit (c : Ctl) (code : Nat) : (c.eventBit code).fmKept = c.fmKept ∧ (c.eventBit code).dyKept = c.dyKept := by
  unfold Ctl.eventBit
  split <;> exact ⟨rfl, rfl⟩

theorem Ctl.fmKept_tell (c : Ctl) (code : Nat) (x : EvRec) : (c.tell code x).fmKept = c.fmKept ∧ (c.tell code x).dyKept = c.dyKept := by
  simp only [Ctl.tell]
  rw [(Ctl.fmKept_eventBit _ _).1, (Ctl.fmKept_eventBit _ _).2, (Ctl.fmKept_raiseIrq _ _).1, (Ctl.fmKept_raiseIrq _ _).2,
    (Ctl.fmKept_enqueue _ _ _).1, (Ctl.fmKept_enqueue _ _ _).2, (Ctl.fmKept_enqueue _ _ _).1, (Ctl.fmKept_enqueue _ _ _).2]
  exact ⟨rfl, rfl⟩

theorem Ctl.fmKept_setE (c : Ctl) (k n : Nat) : (c.setE k n).fmKept = c.fmKept ∧ (c.setE k n).dyKept = c.dyKept := ⟨rfl, rfl⟩

theorem Ctl.fmKept_log (c : Ctl) (lg h w : List LogRec) (n v : Nat) :
    Ctl.fmKept { c with fm := { c.fm with log := lg, nextSeq := n, savedSeq := v, history := h, histWait := w } } = c.fmKept ∧
      Ctl.dyKept { c with fm := { c.fm with log := lg, nextSeq := n, savedSeq := v, history := h, histWait := w } } = c.dyKept := ⟨rfl, rfl⟩

theorem Ctl.fmKept_logAdd (c : Ctl) (x : EvRec) (a b w : Nat) (h : Bool) :
    (c.logAdd x a b w h).fmKept = c.fmKept ∧ (c.logAdd x a b w h).dyKept = c.dyKept := by
  unfold Ctl.logAdd Ctl.logCount Ctl.addE
  rw [(Ctl.fmKept_setE _ _ _).1, (Ctl.fmKept_setE _ _ _).1, (Ctl.fmKept_setE _ _ _).1, (Ctl.fmKept_setE _ _ _).2, (Ctl.fmKept_setE _ _ _).2,
    (Ctl.fmKept_setE _ _ _).2]
  unfold Ctl.logPut
  exact Ctl.fmKept_log c _ _ _ _ _

theorem Ctl.fmKept_sequence (c : Ctl) (code : Nat) (x : EvRec) :
    (c.sequence code x).fmKept = c.fmKept ∧ (c.sequence code x).dyKept = c.dyKept := by
  simp only [Ctl.sequence]
  split
  · exact ⟨rfl, rfl⟩
  · split
    · exact Ctl.fmKept_logAdd ..
    · exact ⟨rfl, rfl⟩

theorem Ctl.fmKept_postOne (c : Ctl) (code : Nat) (items : List (Nat × Nat)) :
    (c.postOne code items).fmKept = c.fmKept ∧ (c.postOne code items).dyKept = c.dyKept := by
  simp only [Ctl.postOne]
  rw [(Ctl.fmKept_sequence _ _ _).1, (Ctl.fmKept_sequence _ _ _).2, (Ctl.fmKept_tell _ _ _).1, (Ctl.fmKept_tell _ _ _).2]
  exact ⟨rfl, rfl⟩

theorem Ctl.fmKept_postDrops (c : Ctl) (q : Nat) : (c.postDrops q).fmKept = c.fmKept ∧ (c.postDrops q).dyKept = c.dyKept := by
  simp only [Ctl.postDrops]
  split
  · split
    · exact ⟨rfl, rfl⟩
    · rw [(Ctl.fmKept_postOne _ _ _).1, (Ctl.fmKept_postOne _ _ _).2]
      exact ⟨rfl, rfl⟩
  · split
    · exact ⟨rfl, rfl⟩
    · rw [(Ctl.fmKept_postOne _ _ _).1, (Ctl.fmKept_postOne _ _ _).2]
      exact ⟨rfl, rfl⟩

/-- Posting an event leaves the fault sequencer but for its log and reports, and the dictionary server but for its sessions. -/
theorem Ctl.fmKept_post (c : Ctl) (code : Nat) (items : List (Nat × Nat)) :
    (c.post code items).fmKept = c.fmKept ∧ (c.post code items).dyKept = c.dyKept := by
  unfold Ctl.post
  simp only [Ctl.fmKept_postDrops, Ctl.fmKept_postOne, and_self]

end Sys2Proof.Machine
end

