-- ==== Sys2Proof/Tests/Slice0.lean ====
section
/-! SUPPORT. Tests of the model: ill-formed operands are refused, a few worked cases of the spec come out as it prints them, and for
every statement with hypotheses a state and operands that meet them (met_…). Expected values are the spec's own. -/
namespace Sys2Proof.Machine

set_option Elab.async false

/-- The state after reset with its control part changed. -/
def wit (f : Ctl → Ctl) : State := { State.reset with ctl := f {} }
/-- A Viewer's session over UDP, for the witnesses. -/
def viewer (n : Nat) : Sess := { fixedSess 2 with num := n, src := ⟨0, 9, 5⟩ }
/-- A part that serves, with sessions. -/
def server (l : List Sess) : State := wit fun c => { c with dy := { c.dy with serving := true, sessions := l } }
/-- A request to this part. -/
def ask (t n seq : Nat) (body : List Byte) : List Byte := vosMsg t 0 0 n seq 0xFE body []
/-- A session between its challenge and its proof. -/
def halfOpen (n : Nat) : Sess := { viewer n with installer := true, isOpen := false, ks := [1], challenge := [2], cnonce := [3] }
/-- A session with one subscription of a kind. -/
def subscriber (kind : Nat) : Sess := { viewer 3 with subs := [⟨1, kind, 0x100001, 0, 10, ⟨0, 9, 5⟩, 4, none, 0, []⟩] }
/-- A LOGIN step 2 with any proof of 32 octets. -/
theorem step_two_octets (p : List Byte) (h : p.length = 32) :
    ask 7 3 7 ([2, 1, 0, 0] ++ p) = [1, 7, 0, 0, 3, 0, 36, 0, 7, 0, 0, 0, 254, 0, 0, 0, 2, 1, 0, 0] ++ p := by
  simp [ask, vosMsg, h, toLE, byteOf]

/-- Its layout is right, and its proof is what stands behind the first four octets. -/
theorem step_two_good (p : List Byte) (h : p.length = 32) :
    vosFormat ([1, 7, 0, 0, 3, 0, 36, 0, 7, 0, 0, 0, 254, 0, 0, 0, 2, 1, 0, 0] ++ p) = true ∧
    slice (vosBody ([1, 7, 0, 0, 3, 0, 36, 0, 7, 0, 0, 0, 254, 0, 0, 0, 2, 1, 0, 0] ++ p)) 4 32 = p := by
  have e : vosBody ([1, 7, 0, 0, 3, 0, 36, 0, 7, 0, 0, 0, 254, 0, 0, 0, 2, 1, 0, 0] ++ p) = [2, 1, 0, 0] ++ p := by
    show ([2, 1, 0, 0] ++ p).take 36 = _
    exact List.take_of_length_le (by simp [h])
  refine ⟨?_, ?_⟩
  · unfold vosFormat
    rw [e]
    simp [vosLayout, h, leAt, ofLE, slice, zeros, bit, u8At]
  · rw [e]
    show p.take 32 = p
    exact List.take_of_length_le (by simp [h])
/-- A served part with a message in PF1's mailbox. -/
def mailbox (m : List Byte) : State :=
  wit fun c => { c with dy := { c.dy with serving := true, sessions := [fixedSess 1, fixedSess 2] }, hi := { c.hi with mbxReq := [[], m] } }
/-- A part with memory, and a DMA job at DRAM address 0. -/
def dmaJob (d : List Byte) : State :=
  { (wit fun c => ((c.setE 0x500002 67108864).setE 0x500003 2).setHi (fun h => { h with j1 := { running := true } })) with mem := Mem.write {} 0 d }
/-- A part whose two domains are provisioned with numbers 5 and 6. -/
def timed (f : Ctl → Ctl) : State := wit fun c => f ((((c.setEa 0x2301 0 1).setEa 0x2301 1 1).setEa 0x2302 0 5).setEa 0x2302 1 6)
/-- A part that shows tile 127. -/
def tile127 (f : Ctl → Ctl) : State := wit fun c => f (c.setXz (fun x => { x with active := some 0, img := List.replicate 16 127 }))
/-- The trailer word of an intact slice. -/
def sliceCrc (h0 h1 : Nat) (payload : List Byte) : Nat := crc32 (RingSlice.covered ⟨h0, h1, 0, 0, payload, 0⟩)
/-- A part with an image and one panel lane in service, whose first flip is due. -/
def panel (f : Ctl → Ctl) : State :=
  wit fun c => f (((c.setTb (fun t => { t with issuing := true })).setXz (fun x => { x with active := some 0 })).setPd (fun p => { p with linked := true }) |>.setEa 0x4412 0 2)
/-- A status response with VALUE 1 in answer to SEQ 0. -/
def answer16 : List Byte := let b : List Byte := [0, 0, 0, 0, 1, 0, 0, 0, 0, 0, 0, 0, 0, 0]; b ++ toLE 2 (crc16 b)
/-- Settings of a live return stream on a field port. -/
def setting : EnSet := ⟨0, 0, 0, 1, 0, 0, 64, 64, 0, 20, 40, 1000, 0, 60, 1, 0, 16, 2, 0, 60000⟩
/-- A captured picture of it. -/
def picture : EnPic := { stream := 15, order := 2, flip := 1, tick := 0, cfg := setting, samples := [], size := 0 }
/-- The entries of a schedule, at most 31. -/
def sched (l : List Nat) : List Byte := toLE 4 l.length ++ List.replicate 60 0 ++ l.flatMap (toLE 8)
/-- An image with one hogel and two views: two rays on lane 0, one phase with one fill of slot 0, and a layer plan with slot 0 of class 1. -/
def tiny : List Byte :=
  List.replicate 12 0 ++ [3] ++ List.replicate 29 0 ++ [1, 0, 1, 0, 2, 0, 1, 0] ++ List.replicate 206 0 ++
  toLE 2 3 ++ toLE 2 0 ++ toLE 4 448 ++ toLE 4 80 ++ List.replicate 36 0 ++ toLE 2 4 ++ toLE 2 0 ++ toLE 4 528 ++ toLE 4 72 ++ List.replicate 36 0 ++
  toLE 2 7 ++ toLE 2 0 ++ toLE 4 600 ++ toLE 4 96 ++ List.replicate 36 0 ++ List.replicate 48 0 ++
  sched [2 ^ 63, 2 ^ 13] ++ sched [2 * 2 ^ 18 + 2 ^ 6] ++ List.replicate 64 0 ++ [1, 1, 1, 0, 0, 0, 255, 255, 0, 1, 0, 1, 0, 0, 0, 0, 0, 0, 0, 0, 32, 0, 2, 0] ++ List.replicate 8 0
/-- A frame at the start of its rays. -/
def frame0 : EsFrame := { frame := 1, flipUp := 0, rayStart := 0, bg := [0, 0, 0], descs := [], mask := [], started := true }
/-- A part that shows the small image, with a frame in production. -/
def easel (f : EsFrame) (g : Ctl → Ctl) : State :=
  wit fun c => g ((c.setXz (fun x => { x with active := some 0, img := tiny })).setEs (fun e => { e with fr := some f }))
/-- A Stream Header unit of stream 0 for tile 127. -/
def unit1 : List Byte := unitOf 1 ([0, 0, 0x80] ++ List.replicate 15 0 ++ [0x10, 0x10, 0x10, 0, 0x80])
/-- A picture of one block of 32 × 32 in a window of one coding block. -/
def pic7 : DcPic :=
  { id := 7, order := 1, ty := 1, qp := 20, dqp := 0, frame := 1, cut := 1, flags := 0, buf := 0,
    hdr := ⟨⟨1, 0, 1, 1, [], true, true⟩, ⟨0, 0, 1, 64, 64, 0, true, false, false, false, 0, 0, true⟩, 0, 1, 0, 1, 4096⟩, refs := [], busy := true,
    claim := [0], cov := [0], owed := [1], slices := [0], recv := 1, kmax := 0, uref := [] }
/-- A slice in an engine. -/
def unit7 (e : Option Nat) : DcUnit := { seq := 9, ctx := 3, ty := 4, ext := [], head := [], pic := some 7, eng := e }
/-- A decoder with that picture in context 3 and with one unit. -/
def decoder (u : List DcUnit) (g : Ctl → Ctl) : State :=
  wit fun c => g (((c.setTb (fun t => { t with issuing := true })).setDc (fun d => { d with units := u, ctxs := [(3, { pics := [pic7] })] })).setE (ctxKey 3 2) 3)
/-- A FILL of one pixel at (1, 1) of a 2 × 2 surface of 32-bit pixels. -/
def fill1 (list : Bool) : StCmd :=
  { op := 1, flags := 0, w := 1, h := 1, src := ⟨0x10, 0, 64, 1, 1⟩, sx := 0, sy := 0, dst := ⟨0x10, 128, 64, 2, 2⟩, dx := 1, dy := 1, fg := 0xFF102030, bg := 0,
    galpha := 255, waitRow := 5, tag := 7, list := list, clean := true, clips := [] }
/-- A part with memory whose Stencil runs a command. -/
def stencil (q : Option StCmd) (w : Option Nat) (g : Ctl → Ctl) : State :=
  wit fun c => g ((c.setE 0x500002 67108864).setSt (fun s => { s with cmd := q, waitFrom := w }))
/-- The same in list mode with NOP descriptors at address 0. -/
def lister (g : Ctl → Ctl) : State := stencil none none fun c => g (c.setE 0x450001 1)
/-- Stencil's registers hold a FILL of one pixel. -/
def fillRegs (c : Ctl) : Ctl :=
  (((((c.setReg .stCmd 0 0 1).setReg .stOpSize 0 0 1).setReg .stOpSize 0 16 1).setReg .stFmt 0 8 0x10).setReg .stDstPitch 0 0 64).setReg .stDstSize 0 0 1 |>.setReg .stDstSize 0 16 1
/-- An INFLATE job of the raw deflate stream of no octets, at DRAM address 128, whose descriptor lies at address 0. -/
def inflateDesc : List Byte := [1, 0, 3, 0, 9, 0, 0, 0] ++ toLE 8 128 ++ toLE 4 2 ++ toLE 4 16 ++ toLE 8 192 ++ toLE 8 65536 ++ List.replicate 24 0
/-- A DEFLATE job of the two octets there. -/
def deflateDesc : List Byte := 2 :: inflateDesc.drop 1
/-- A part with memory, with that descriptor in J0. -/
def jobQueue (d : List Byte) (g : Ctl → Ctl) : State :=
  { (wit fun c => g ((((c.setE 0x500002 67108864).setE 0x500003 2).setReg .hiJqCfg 0 0 1).setReg .hiJqPtr 0 16 1)) with
    mem := (Mem.write {} 0 d).write 128 [3, 0] }
/-- A part whose image manager loads octets into slot 1. -/
def loading (l : XzLoad) : State := wit fun c => c.setXz (fun x => { x with load := some l, slots := [{ st := 6 }, { st := 1 }] })
/-- Three octets of four, as they stand. -/
def load3 (dma : Bool) : XzLoad := ⟨1, 0, 4, [1, 2, 3], dma, 0, false, none⟩
/-- A part that waits to activate slot 1. -/
def waiting (t : Nat) : State := wit fun c => (c.setTb (fun b => { b with issuing := true })).setXz (fun x => { x with slots := [{ st := 6 }, { st := 5 }], pend := some ⟨1, some t, false⟩ })
/-- A part with one rank of memory on port 5. -/
def ranked (x : McChan) : State := wit fun c => ((c.setE 0x500003 2).setMc (fun s => { s with chans := [x] })).setE 0x500002 67108864

/-! ### Ill-formed commands are refused: one list per family, one term or more per check -/
/-- Operands outside their ranges: start. -/
theorem test_wf_start :
    ([.porRelease 0 0 false [] (List.replicate 8 none), .porRelease 0 6 false [] (List.replicate 8 none),
      .porRelease 0 5 false [] [none], .porRelease 0 5 false [(2 ^ 19, 1)] (List.replicate 8 none), .warmReset 0 (some ⟨0, []⟩),
      .warmReset 0 (some ⟨0, [(2 ^ 19, List.replicate 32 0)]⟩), .startTimeout 0 (some ⟨0, []⟩),
      .startTimeout 0 (some ⟨0, [(2 ^ 19, List.replicate 32 0)]⟩), .bootRestart 0 (some ⟨0, []⟩),
      .bootRestart 0 (some ⟨0, [(2 ^ 19, List.replicate 32 0)]⟩), .pairOutResetTimer 0 (some ⟨0, []⟩),
      .pairOutResetTimer 0 (some ⟨0, [(2 ^ 19, List.replicate 32 0)]⟩)] : List Instr).all (fun i => !i.wf) = true := by decide +kernel

/-- Operands outside their ranges: power. -/
theorem test_wf_power :
    ([.pwrGoodRise 0 4 [] 0, .pwrGoodRise 0 3 [(0, 1)] 0, .pwrGoodRise 0 3 [(8, 1)] 0, .sequenceFailed 0 (some 2),
      .sequenceFailed 0 (some 8), .dramTrainingComplete 0 [[16]] none,
      .dramTrainingComplete 0 (List.replicate 6 (List.replicate 9 16)) none,
      .dramTrainingComplete 0 (List.replicate 6 [16]) (some (6, 0, 1)),
      .dramTrainingComplete 0 (List.replicate 6 [16]) (some (0, 4, 1)),
      .dramTrainingComplete 0 (List.replicate 6 [16]) (some (0, 0, 0)),
      .dramTrainingComplete 0 (List.replicate 6 [16]) (some (0, 0, 7)), .supplyFail 0 9 true none,
      .supplyFail 0 0 true (some ⟨0, []⟩), .supplyFail 0 0 true (some ⟨0, [(2 ^ 19, List.replicate 32 0)]⟩)] : List Instr).all (fun i => !i.wf) = true := by decide +kernel

/-- Operands outside their ranges: thermal and clock. -/
theorem test_wf_thermal_and_clock :
    ([.thermalRound 0 [] none, .thermalRound 0 (List.replicate 24 (0, 0, false)) (some ⟨0, []⟩),
      .thermalRound 0 (List.replicate 24 (0, 0, false)) (some ⟨0, [(2 ^ 19, List.replicate 32 0)]⟩), .siteReadmitted 0 24,
      .avsUpdate 0 101, .avsEmergency 0 1 0, .avsEmergency 0 8 0, .avsEmergency 0 2 3, .pmbusPoll 0 [], .pmbAlert 0 [],
      .pllUnlock 0 1, .pllUnlock 0 8, .recalTrigger 0 0 0 true, .recalTrigger 0 9 0 true, .recalTrigger 0 1 56 true, .calNow 0 0,
      .calNow 0 9, .calInstanceDone 0 0 0 0 [], .calInstanceDone 0 9 0 0 [], .calInstanceDone 0 1 56 0 [],
      .calInstanceDone 0 1 0 256 []] : List Instr).all (fun i => !i.wf) = true := by decide +kernel

/-- Operands outside their ranges: control. -/
theorem test_wf_control :
    ([.cpMismatch 0 2, .cpWatchdog 0 2, .cpRestartDone 0 2, .keyWrite 0 6 (List.replicate 64 0),
      .keyWrite 0 1 (List.replicate 64 0), .keyWrite 0 2 (List.replicate 32 0)] : List Instr).all (fun i => !i.wf) = true := by decide +kernel

/-- Operands outside their ranges: messages. -/
theorem test_wf_messages :
    ([.vostanRead 0 ⟨3, 0, 0⟩ [] [], .vostanRead 0 ⟨2, 2, 0⟩ [] [], .vostanRead 0 ⟨1, 0, 2⟩ [] [], .vostanWrite 0 ⟨3, 0, 0⟩ [] true,
      .vostanWrite 0 ⟨2, 2, 0⟩ [] true, .vostanWrite 0 ⟨1, 0, 2⟩ [] true, .blockRead 0 ⟨3, 0, 0⟩ [], .blockRead 0 ⟨2, 2, 0⟩ [],
      .blockRead 0 ⟨1, 0, 2⟩ [], .blockWrite 0 ⟨3, 0, 0⟩ [] true, .blockWrite 0 ⟨2, 2, 0⟩ [] true, .blockWrite 0 ⟨1, 0, 2⟩ [] true,
      .subscribe 0 ⟨3, 0, 0⟩ [], .subscribe 0 ⟨2, 2, 0⟩ [], .subscribe 0 ⟨1, 0, 2⟩ [], .commit 0 ⟨3, 0, 0⟩ [],
      .commit 0 ⟨2, 2, 0⟩ [], .commit 0 ⟨1, 0, 2⟩ [], .commitDiscard 0 ⟨3, 0, 0⟩ [], .commitDiscard 0 ⟨2, 2, 0⟩ [],
      .commitDiscard 0 ⟨1, 0, 2⟩ [], .loginChallenge 0 ⟨3, 0, 0⟩ [], .loginChallenge 0 ⟨2, 2, 0⟩ [], .loginChallenge 0 ⟨1, 0, 2⟩ [],
      .loginProof 0 ⟨3, 0, 0⟩ [], .loginProof 0 ⟨2, 2, 0⟩ [], .loginProof 0 ⟨1, 0, 2⟩ [], .loginLogout 0 ⟨3, 0, 0⟩ [],
      .loginLogout 0 ⟨2, 2, 0⟩ [], .loginLogout 0 ⟨1, 0, 2⟩ []] : List Instr).all (fun i => !i.wf) = true := by decide +kernel

/-- Operands outside their ranges: sessions. -/
theorem test_wf_sessions :
    ([.lockoutExpiry 0 ⟨3, 0, 0⟩, .cyclicNotify 0 3 16 false, .onChangeNotify 0 3 16 false, .eventBatchSend 0 3 16 false,
      .relayReply 0 64 []] : List Instr).all (fun i => !i.wf) = true := by decide +kernel

/-- Operands outside their ranges: host. -/
theorem test_wf_host :
    ([.hostLinkUp 0 3 1, .hostLinkUp 0 1 0, .hostLinkUp 0 1 5, .eqEnable 0 128, .eqHeadWrite 0 128 0, .eqHeadWrite 0 0 65536,
      .eqRecordWrite 0 128, .msixCoalesce 0 128, .jqTailWrite 0 2 0, .jqTailWrite 0 0 65536, .jqDisable 0 2, .irqAck 0 256,
      .windowAccess 0 0 false 4097 [] [], .windowAccess 0 0 true 0 (List.replicate 4097 0) [],
      .windowAccess 0 268435456 false 1 [] [], .registerWrite 0 .pf0 (.named .dcCtxSel 0 false) (2 ^ 32) true []] : List Instr).all (fun i => !i.wf) = true := by decide +kernel

/-- Operands outside their ranges: dram errors. -/
theorem test_wf_dram_errors :
    ([.dmaJobDone 0 0 [] false [.flip 0 528], .windowAccess 0 0 false 1 [] [.flip 0 528],
      .frameFlip 0 0 false none [] [.flip 0 528], .scheduleBlockReloaded 0 false 0 [.flip 0 528],
      .tableReloadDone 0 false 0 [.flip 0 528], .fillComplete 0 0 [.flip 0 528], .cullPlanDone 0 [.flip 0 528],
      .ingestRowStart 0 0 [.flip 0 528], .engineDispatch 0 0 [.flip 0 528], .sliceDecodeDone 0 0 [.flip 0 528],
      .concealDone 0 0 [.flip 0 528], .pictureCoded 0 [.flip 0 528], .popRecordWrite 0 0 false 0 [.flip 0 528],
      .listTailWrite 0 0 [.flip 0 528], .listResumeSkip 0 [.flip 0 528], .listResumeRetry 0 [.flip 0 528],
      .stencilCommandDone 0 [.flip 0 528], .stencilEcc 0 0 0 [.flip 0 528], .cxJobEnd 0 0 none [.flip 0 528],
      .cxFault 0 0 [] [.flip 0 528], .sramCopyDone 0 [.flip 0 528], .storeDone 0 [.flip 0 528]] : List Instr).all (fun i => !i.wf) = true := by decide +kernel

/-- Operands outside their ranges: time. -/
theorem test_wf_time :
    ([.ptpMessage 0 0 0 0 [], .ptpMessage 0 5 0 0 [], .ptpMessage 0 1 128 0 [], .ptpMessage 0 1 0 4 [], .ptpSendTimer 0 0 0 0,
      .ptpSendTimer 0 5 0 0, .ptpSendTimer 0 1 2 0, .ptpSendTimer 0 1 0 3, .syncTimeout 0 2, .announceTimeout 0 2,
      .domainSwitchMessage 0 128 0, .domainSwitchMessage 0 0 (2 ^ 64)] : List Instr).all (fun i => !i.wf) = true := by decide +kernel

/-- Operands outside their ranges: ports. -/
theorem test_wf_ports :
    ([.portBringupStart 0 2, .portRetrain 0 2, .leaderStepTimer 0 2, .trainRetry 0 2, .noPartnerTimeout 0 2, .brumationExit 0 2,
      .relockDone 0 2 [] [], .relockDone 0 0 [9] [], .relockDone 0 0 [] [(9, 1)], .relockDone 0 0 [] [(0, 0)],
      .relockDone 0 0 [] [(0, 10)], .stepCheckDone 0 2 [] none, .stepCheckDone 0 0 [(9, 0, 0, 0, 0)] none,
      .stepCheckDone 0 0 [(0, 0, 0, 1024, 0)] none, .stepCheckDone 0 0 [(0, 0, 0, 0, 65)] none, .stepCheckDone 0 0 [] (some 9)] : List Instr).all (fun i => !i.wf) = true := by decide +kernel

/-- Operands outside their ranges: lanes. -/
theorem test_wf_lanes :
    ([.laneControlFrame 0 18 [], .adaptationDone 0 18 0 0, .adaptationDone 0 0 1024 0, .adaptationDone 0 0 0 65,
      .laneFailureDetect 0 56 0 [], .laneFailureDetect 0 0 10 [], .laneFailureDetect 0 0 0 [4], .laneRetrain 0 18,
      .retrainRetry 0 18, .eyeUpdate 0 56 0 0 0 0, .eyeUpdate 0 0 1024 0 0 0, .eyeUpdate 0 0 0 65 0 0, .quietCheckPeriod 0 18 0 0,
      .quietCheckPeriod 0 0 1024 0, .quietCheckPeriod 0 0 0 65, .laneTest 0 56, .laneReturn 0 56, .testInject 0 56,
      .returnLaneSyncLoss 0 4 [], .returnLaneSyncLoss 0 0 [4], .returnLaneSyncRegained 0 4 [], .returnLaneSyncRegained 0 0 [4],
      .laneControlPeriod 0 18 [], .laneControlPeriod 0 0 [(9, 0, 0, 0, 0)], .laneControlPeriod 0 0 [(0, 0, 0, 1024, 0)],
      .laneControlPeriod 0 0 [(0, 0, 0, 0, 65)], .laneReadmit 0 18, .laneOutOrder 0 18, .laneClean 0 18 0, .fieldPortRecovered 0 2] : List Instr).all (fun i => !i.wf) = true := by decide +kernel

/-- Operands outside their ranges: ring. -/
theorem test_wf_ring :
    ([.ringFrameRx 0 2 [] [], .ringFrameRx 0 0 (List.replicate 681 0) [], .ringFrameRx 0 0 [2 ^ 64] [],
      .ringFrameRx 0 0 [] (List.replicate 9 0), .ringSliceRx 0 2 0 0 0 0 [] 0 0 [], .ringSliceRx 0 0 0 0 0 0 [] (2 ^ 64) 0 [],
      .ringSliceRx 0 0 (2 ^ 64) 0 0 0 [] 0 0 []] : List Instr).all (fun i => !i.wf) = true := by decide +kernel

/-- Operands outside their ranges: side channel. -/
theorem test_wf_side_channel :
    ([.enumMsg 0 2 0 [], .enumMsg 0 0 256 [], .enumMsg 0 0 0 (List.replicate 64 0), .enumMsg 0 0 0 [256], .enumDone 0 2 0 0 [] 0,
      .enumDone 0 0 256 0 [] 0, .enumDone 0 0 0 256 [] 0, .enumDone 0 0 0 0 (List.replicate 65 0) 0, .enumDone 0 0 0 0 [256] 0,
      .enumDone 0 0 0 0 [] 2, .indexChanged 0 2 0 0 0 0, .indexChanged 0 0 256 0 0 0, .indexChanged 0 0 0 256 0 0,
      .indexChanged 0 0 0 0 256 0, .indexChanged 0 0 0 0 0 256, .mapsMsg 0 2 0 0, .mapsMsg 0 0 65536 0, .mapsMsg 0 0 0 65536,
      .mapReq 0 2 0 false 0, .mapReq 0 0 65536 false 0, .mapReq 0 0 0 false 256, .mapAck 0 2 0, .mapAck 0 0 256, .mapReqRepeat 0 2,
      .sideChannelForward 0 2 [], .mapChangeSend 0 2 0] : List Instr).all (fun i => !i.wf) = true := by decide +kernel

/-- Operands outside their ranges: panel. -/
theorem test_wf_panel :
    ([.laneLoadComplete 0 32, .panelBufferFull 0 32, .panelBufferDrained 0 32, .statusPoll 0 4, .statusResponse 0 4 [],
      .statusReqTimeout 0 4, .probationExpiry 0 32, .panelLockTimer 0 32] : List Instr).all (fun i => !i.wf) = true := by decide +kernel

/-- Operands outside their ranges: synthesis. -/
theorem test_wf_synthesis :
    ([.rayGroup 0 [(7, 0)], .brushFault 0 32 0, .cutoff 0 [16385], .cutoff 0 [0, 0, 0, 0, 0], .ingestRowStart 0 16 [],
      .ingestPassDone 0 16 false, .glazeRestoreDone 0 32, .engineDispatch 0 4 [], .sliceDecodeDone 0 4 [], .contextEcc 0 1024,
      .engineFault 0 4 0, .engineFault 0 0 16385, .ctxClear 0 1024, .dcCtxSelWrite 0 (2 ^ 64), .fragmentSend 0 16 0,
      .enRingHeadWrite 0 16 0, .enRingHeadWrite 0 0 4096, .rapRequest 0 16] : List Instr).all (fun i => !i.wf) = true := by decide +kernel

/-- Operands outside their ranges: units. -/
theorem test_wf_units :
    ([.stencilModeWrite 0 2, .listTailWrite 0 4096 [], .cxJobStart 0 2, .cxJobEnd 0 2 none [], .cxFault 0 2 [] [], .crcStart 0 8,
      .crcStop 0 8, .crcCompare 0 8, .crcFeed 0 8 [1], .crcFeed 0 0 [], .crcFeed 0 0 (List.replicate 1025 0), .crcValueWrite 0 8 0,
      .crcValueWrite 0 0 (2 ^ 64), .snoopItem 0 12 false, .crcUnitFault 0 8, .verificationDone 0 2, .rayQuery 0 (2 ^ 26)] : List Instr).all (fun i => !i.wf) = true := by decide +kernel

/-- Operands outside their ranges: memory and faults. -/
theorem test_wf_memory_and_faults :
    ([.mr4Read 0 6 0 0 0, .mr4Read 0 0 4 0 0, .mr4Read 0 0 0 2 0, .mr4Read 0 0 0 0 6, .refreshDue 0 6 0 0, .refreshDue 0 0 4 0,
      .refreshDue 0 0 0 2, .zqLatch 0 6 0, .zqLatch 0 0 4, .wckTrack 0 6 0, .wckTrack 0 0 4, .patrolScrub 0 [.flip 0 528],
      .powerDownEntry 0 6 0 0, .powerDownEntry 0 0 4 0, .powerDownEntry 0 0 0 2, .sramScrub 0 0 [(8, 0, 0)],
      .sramScrub 0 0 [(0, 0, 2 ^ 72)], .heartbeatMissing 0 1, .heartbeatMissing 0 3, .heartbeatMissing 0 8,
      .tickReplicaCompare 0 (2 ^ 63), .islandRecovered 0 1, .islandRecovered 0 8, .selfTestDone 0 256 0 true,
      .selfTestDone 0 0 256 true, .unitRestore 0 65536, .sequencerVote 0 3] : List Instr).all (fun i => !i.wf) = true := by decide +kernel

/-! ### Worked cases of the spec -/

/-- 15 R443, the CRC-32 check string "123456789". -/
def checkString : List Byte := [0x31, 0x32, 0x33, 0x34, 0x35, 0x36, 0x37, 0x38, 0x39]

theorem test_crc32_check_string : crc32 checkString = 0xCBF43926 := by decide +kernel

/-- The register VALUE of unit 2 after the string (15, worked case). -/
theorem test_crc_unit_check_string :
    (match exec (.crcFeed 0 2 checkString) (wit fun c => c.setEa 0x5215 2 0xFFFFFFFF) with
      | .next t => (t.ctl.ckVal 0x5215 2, t.ctl.ckVal 0x5216 2)
      | _ => (0, 0)) = (0x9B63D02C, 0xCBF43926) := by decide +kernel

/-- 14, worked case of one address at NP = 6. -/
theorem test_dram_address : dramMap 6 0x234567890 = (5, 0x5E0E6910) ∧ devMap 16 0x5E0E6910 = ⟨272, 2, 6, 12039, 0⟩ := by decide

/-- 02, worked case of one ray of tile A: the slope lies within half a unit of its last printed digit. -/
theorem test_ray_slope :
    let lens : List Byte := [41, 0, 0xEC, 0xFF, 33, 0, 0xF0, 0xFF, 0x10, 0x40, 20, 0, 0xAE, 0xFF, 0, 0]
    let s := slopeOf lens ([0x80, 0x11, 0x80, 0xF3] ++ List.replicate 12 0)
    1049441755 ≤ s.1 ∧ s.1 ≤ 1049441788 ∧ 3192438152 ≤ s.2 ∧ s.2 ≤ 3192438219 ∧ hogelPos 200 lens 0 = 1128825488 ∧ hogelPos 100 lens 2 = 1120468352 := by
  decide +kernel

/-- 04, worked case of the head of a slice: the mask loses its emulation prevention. -/
theorem test_slice_mask :
    epRemove 0 [0, 0, 3, 0, 0, 3, 0, 0, 3, 0, 0, 3, 0, 0, 3, 0, 0, 3, 0, 0, 3, 0, 0x60] = List.replicate 15 0 ++ [0x60] := by decide

/-- 04, worked case of the head of a slice: its fields. -/
theorem test_slice_head :
    let raw : List Byte := [0x09, 0x40] ++ List.replicate 15 0 ++ [0x60, 0x03, 0x26, 0x14, 0x19, 4, 4, 0x4E, 0x20, 0xC3, 0x50, 0xFE, 0, 0x20, 0, 0x81]
    sliceHdr raw = ⟨3, 2, 1, true, 20, 25, 4, 4, 20000, 50000, -2, 0, [(false, 0), (true, 1)], true⟩ ∧ sliceDataAt raw = 33 := by decide

/-- 16, worked case of a staged policy change: the datagram of the WRITE, before its MAC. -/
theorem test_write_datagram :
    let m := vosMsg 2 2 0 7 3 0xFE [1, 0, 0, 0, 0x11, 0x42, 4, 2, 1, 0, 0, 0, 1, 0, 0, 0] []
    m = [1, 2, 2, 0, 7, 0, 0x10, 0, 3, 0, 0, 0, 0xFE, 0, 0, 0, 1, 0, 0, 0, 0x11, 0x42, 4, 2, 1, 0, 0, 0, 1, 0, 0, 0] ∧
    vosFormat (m ++ List.replicate 16 0) = true := by decide +kernel

/-- 12, worked case of a lane lost mid-show: stripe 5 runs on the spare lane 8; with the spare lost too, seven stripes are left. -/
theorem test_ring_stripes :
    (wit id).ctl.stripeLanes 0 true 32 5 = [0, 1, 2, 3, 4, 8, 6, 7] ∧ (wit id).ctl.stripeLanes 0 true 288 8 = [0, 1, 2, 3, 4, 6, 7] := by decide +kernel

/-- 17, worked case of a lane failure as the host sees it: the record of LANE_FAILED. -/
theorem test_lane_failed_record :
    (EvRec.mk 0x10C1 (14 + 2 * 256) (1000020000 * 2 ^ 16)).octets = [0xC1, 0x10, 0x0E, 2, 0, 0, 0, 0, 0, 0, 0x20, 0x18, 0x9B, 0x3B, 0, 0] := by decide +kernel

/-- The first 64 primes. -/
def primes : List Nat := ((List.range 312).drop 2).filter (fun n => (List.range n).all (fun d => d < 2 || n % d ≠ 0))

/-- The constants of SHA-256 (10 R313, 16 R461): the round words are the first 32 bits of the fractions of the cube roots of the first 64 primes,
and the initial words those of the square roots of the first eight. -/
theorem test_sha_constants :
    primes.length = 64 ∧
    (List.range 64).all (fun i =>
      let n := ((List.range 8).filter (fun a => decide (a ^ 3 ≤ primes.getD i 0))).length - 1
      let r := n * 2 ^ 32 + packedWord 64 shaKWords i
      decide (r ^ 3 ≤ primes.getD i 0 * 2 ^ 96) && decide (primes.getD i 0 * 2 ^ 96 < (r + 1) ^ 3)) = true ∧
    (List.range 8).all (fun i =>
      let n := ((List.range 20).filter (fun a => decide (a ^ 2 ≤ primes.getD i 0))).length - 1
      let r := n * 2 ^ 32 + packedWord 8 shaHWords i
      decide (r ^ 2 ≤ primes.getD i 0 * 2 ^ 64) && decide (primes.getD i 0 * 2 ^ 64 < (r + 1) ^ 2)) = true := by
  decide +kernel

/-- 12 R359: every syndrome of a codeword is 0, and one damaged symbol shows in all 14 (a short message: the symbols before it are 0). -/
theorem test_fec_syndromes :
    (rsSyndromes (rsEncode [617, 5, 0, 1023])).all (· = 0) = true ∧
    (rsSyndromes ((rsEncode [617, 5, 0, 1023]).set 9 3)).all (· ≠ 0) = true := by decide +kernel

/-! ### Witnesses: the hypotheses of every statement can be met -/

-- MISSING WITNESS for ReportsWindowsAndSafeStates 10
/-- The hypotheses of StepTakesTheFrontCommand can be met. -/
theorem met_StepTakesTheFrontCommand :
    ∃ (s : State), s.pending = [] :=
  ⟨wit id, by decide⟩

/-- The hypotheses of StepsKeepTheFormOfDram can be met. -/
theorem met_StepsKeepTheFormOfDram :
    ∃ (s : State) (t : State), s.wf ∧ step s = .next t :=
  ⟨{ wit id with pending := [.dcCtxSelWrite 0 5] }, wit (fun c => (c.advance 0).setReg .dcCtxSel 0 0 5), ⟨⟨by decide, rfl⟩, rfl⟩⟩

/-- The hypotheses of StepsKeepTheTables can be met. -/
theorem met_StepsKeepTheTables :
    ∃ (s : State) (t : State), s.ctl.shaped ∧ step s = .next t :=
  ⟨{ wit id with pending := [.dcCtxSelWrite 0 5] }, wit (fun c => (c.advance 0).setReg .dcCtxSel 0 0 5), ⟨by unfold Ctl.shaped; decide, rfl⟩⟩

/-- The hypotheses of QuietCommandsKeepTheOtherParts can be met. -/
theorem met_QuietCommandsKeepTheOtherParts :
    ∃ (i : Instr) (s : State) (t : State) (p : Part), (mayChange i).contains .faults = false ∧ (mayChange i).contains p = false ∧ exec i s = .next t :=
  ⟨.dcCtxSelWrite 0 5, wit id, wit (fun c => (c.advance 0).setReg .dcCtxSel 0 0 5), .dram, ⟨rfl, rfl, rfl⟩⟩

/-- The hypotheses of ReportingCommandsKeepTheOtherParts can be met. -/
theorem met_ReportingCommandsKeepTheOtherParts :
    ∃ (i : Instr) (s : State) (t : State) (p : Part), (mayChange i).contains .faults = true ∧ (mayChange i).contains p = false ∧ exec i s = .next t :=
  ⟨.statusReqTimeout 0 0, wit id, wit (fun c => c.advance 0), .dram, ⟨rfl, rfl, rfl⟩⟩

/-- The hypotheses of DramReadsBackWhatWasStored can be met. -/
theorem met_DramReadsBackWhatWasStored :
    ∃ (m : Mem), m.wf = true :=
  ⟨{}, by decide⟩

/-- The hypotheses of DramAddressesMapOneToOne can be met. -/
theorem met_DramAddressesMapOneToOne :
    ∃ (np : Nat), 0 < np :=
  ⟨6, by decide⟩

/-- The hypotheses of RayIndicesNameHogelAndView can be met. -/
theorem met_RayIndicesNameHogelAndView :
    ∃ (g : List Byte) (c : Nat) (r : Nat) (i : Nat) (j : Nat) (n : Nat), c < imgCols g ∧ r < imgRows g ∧ i < imgVx g ∧ j < imgVy g ∧ n = (r * imgCols g + c) * (imgVx g * imgVy g) + j * imgVx g + i :=
  ⟨tiny, 0, 0, 1, 0, 1, by decide +kernel⟩

/-- The hypotheses of BlendCopyFollowsItsFormula can be met. -/
theorem met_BlendCopyFollowsItsFormula :
    (∃ (m : Mem) (q : StCmd) (i : Nat) (j : Nat) (ga : Nat) (a : Nat) (sw : Nat) (dw : Nat), q.op = 3 ∧ ga = q.galpha ∧ sw = toColour q.src.fmt q.fg (q.src.get m (q.sx + i) (q.sy + j)) ∧ dw = toColour q.dst.fmt 0 (q.dst.get m (q.dx + i) (q.dy + j)) ∧ a = (sw / 2 ^ 24 % 256 * ga + 127) / 255) ∧
    (∃ (v : Nat), v < 2 ^ 16) ∧
    (∃ (ga : Nat) (sw : Nat) (dw : Nat), sw < 2 ^ 32 ∧ dw < 2 ^ 32 ∧ (sw / 2 ^ 24 * ga + 127) / 255 = 255 ∧ ga ≤ 255) ∧
    (∃ (ga : Nat) (sw : Nat) (dw : Nat), sw < 2 ^ 32 ∧ dw < 2 ^ 32 ∧ (sw / 2 ^ 24 * ga + 127) / 255 = 0 ∧ ga ≤ 255) :=
  ⟨⟨{}, { fill1 false with op := 3 }, 0, 0, 255, 0, 0, 0, by decide +kernel⟩,
    ⟨65535, by decide⟩,
    ⟨255, 0xFF102030, 7, by decide⟩,
    ⟨255, 0x102030, 0xFFFFFFFF, by decide⟩⟩

/-- The hypotheses of LoadsChooseTheirSlot can be met. -/
theorem met_LoadsChooseTheirSlot :
    (∃ (k : Nat) (s : State), s.ctl.cpaUp = true ∧ k = (if (s.ctl.slot 0).st = 6 then 1 else 0) ∧ s.ctl.xz.slots.length = 2 ∧ (s.ctl.slot k).st ≠ 5 ∧ s.ctl.xz.storing ≠ some k ∧ s.ctl.xz.load = none ∧ s.ctl.e 0x410201 ≤ 2 ∧ (s.ctl.e 0x410201 ≠ 0 ∨ s.ctl.e 0x410202 ≤ 11534336)) ∧
    (∃ (k : Nat) (s : State), s.ctl.cpaUp = true ∧ k = (if (s.ctl.slot 0).st = 6 then 1 else 0) ∧ s.ctl.xz.slots.length = 2 ∧ (s.ctl.slot k).st ≠ 5 ∧ s.ctl.xz.storing ≠ some k ∧ s.ctl.xz.load = none ∧ s.ctl.reg .xzLoadCtrl 0 4 ≤ 2 ∧ (s.ctl.reg .xzLoadCtrl 0 4 ≠ 0 ∨ s.ctl.reg .xzLoadLen 0 0 ≤ 11534336)) ∧
    (∃ (k : Nat) (s : State), s.ctl.cpaUp = true ∧ k = (if (s.ctl.slot 0).st = 6 then 1 else 0) ∧ ((s.ctl.slot k).st = 5 ∨ s.ctl.xz.storing = some k ∨ s.ctl.xz.load ≠ none) ∧ s.ctl.e 0x410201 ≤ 2) ∧
    (∃ (k : Nat) (s : State), s.ctl.cpaUp = true ∧ k = (if (s.ctl.slot 0).st = 6 then 1 else 0) ∧ ((s.ctl.slot k).st = 5 ∨ s.ctl.xz.storing = some k ∨ s.ctl.xz.load ≠ none) ∧ s.ctl.reg .xzLoadCtrl 0 4 ≤ 2) :=
  ⟨⟨1, wit fun c => c.setXz (fun x => { x with slots := [{ st := 6 }, { st := 4, img := [1] }] }), by decide⟩,
    ⟨1, wit fun c => c.setXz (fun x => { x with slots := [{ st := 6 }, { st := 4, img := [1] }] }), by decide⟩,
    ⟨1, wit fun c => c.setXz (fun x => { x with slots := [{ st := 6 }, { st := 5, img := [1] }] }), by decide⟩,
    ⟨0, wit fun c => c.setXz (fun x => { x with storing := some 0 }), by decide⟩⟩

/-- The hypotheses of CrcUnitsTakeWritesWhileIdle can be met. -/
theorem met_CrcUnitsTakeWritesWhileIdle :
    (∃ (c : Ctl) (idx : Nat) (u : Nat), u < 8 ∧ idx ∈ [0x5210, 0x5211, 0x5212, 0x5213] ∧ c.ckHeld u = false ∧ (c.ckBit u 0 = true ∨ c.ckBit u 1 = true)) ∧
    (∃ (c : Ctl) (idx : Nat) (u : Nat), u < 8 ∧ idx ∈ [0x5211, 0x5212, 0x5213] ∧ c.ckHeld u = false ∧ c.ckBit u 0 = false ∧ c.ckBit u 1 = false) ∧
    (∃ (c : Ctl) (u : Nat) (v : Nat), u < 8 ∧ c.ckHeld u = false ∧ c.ckBit u 0 = false ∧ c.ckBit u 1 = false ∧ 1 ≤ bits v 6 0 ∧ bits v 6 0 ≤ 64 ∧ bits v 19 16 ≤ 11) ∧
    (∃ (u : Nat) (s : State), u < 8 ∧ s.ctl.ckHeld u = false) :=
  ⟨⟨(wit fun c => c.setCkBit 7 1 true).ctl, 0x5213, 7, by decide⟩,
    ⟨(wit id).ctl, 0x5213, 7, by decide⟩,
    ⟨(wit id).ctl, 7, 64, by decide⟩,
    ⟨7, wit id, by decide⟩⟩

/-- The hypotheses of ResetsAndTheStart can be met. -/
theorem met_ResetsAndTheStart :
    (∃ (s : State), s.ctl.pm.down = 0 ∧ s.ctl.bt.resetLow = false ∧ s.ctl.pm.windowOut &&& 195 = 0) ∧
    (∃ (dt : Nat) (s : State), s.ctl.pm.down = 0 ∧ s.ctl.bt.step ≠ 0 ∧ s.ctl.bt.startedAt = none ∧ s.ctl.e 0x110001 ≠ 2 ∧ s.ctl.bt.zeroAt + tS 2 ≤ s.ctl.up + dt) ∧
    (∃ (s : State), s.ctl.pm.down = 2) ∧
    (∃ (dt : Nat) (s : State) (t0 : Nat), s.ctl.pm.down = 1 ∧ s.ctl.pm.downAt + tS 10 ≤ s.ctl.up + dt ∧ s.ctl.pm.coolSince = some t0 ∧ t0 + tS 1 ≤ s.ctl.up + dt) ∧
    (∃ (reach : Nat) (s : State), s.ctl.bt.step = 0 ∧ s.ctl.bt.resetLow = false ∧ s.ctl.pm.down = 0 ∧ 3 ≤ reach) ∧
    (∃ (reach : Nat) (s : State), s.ctl.bt.step = 0 ∧ s.ctl.bt.resetLow = false ∧ s.ctl.pm.down = 0 ∧ reach < 3) :=
  ⟨⟨wit id, by decide⟩,
    ⟨tS 2, wit fun c => c.setBt (fun b => { b with step := 3 }), by decide⟩,
    ⟨wit fun c => c.setPm (fun p => { p with down := 2 }), by decide⟩,
    ⟨tS 10, wit fun c => c.setPm (fun p => { p with down := 1, coolSince := some 0 }), 0, by decide⟩,
    ⟨5, wit id, by decide⟩,
    ⟨2, wit id, by decide⟩⟩

/-- The hypotheses of PowerComesUpAndGoesDown can be met. -/
theorem met_PowerComesUpAndGoesDown :
    (∃ (k : Nat) (s : State), k < 3 ∧ s.ctl.pm.seqStep = k ∧ bit s.ctl.pm.pwrEn k = true ∧ s.ctl.pm.down = 0 ∧ s.ctl.e 0x110001 ≠ 2 ∧ s.ctl.e 0x120007 = 1) ∧
    (∃ (s : State), s.ctl.pm.seqStep = 3 ∧ bit s.ctl.pm.pwrEn 3 = true ∧ s.ctl.pm.down = 0 ∧ s.ctl.e 0x110001 ≠ 2 ∧ s.ctl.e 0x120007 = 1) ∧
    (∃ (s : State), s.ctl.pm.down = 0 ∧ s.ctl.e 0x110001 ≠ 2 ∧ s.ctl.e 0x120007 = 1 ∧ s.ctl.pm.seqStep < 4) ∧
    (∃ (dt : Nat) (s : State), s.ctl.e 0x110001 = 2 ∧ s.ctl.pm.seqStep = 8 ∧ s.ctl.pm.failedAt + tS 10 ≤ s.ctl.up + dt) ∧
    (∃ (s : State), s.ctl.pm.down = 0) :=
  ⟨⟨1, wit fun c => (c.setPm (fun p => { p with seqStep := 1, pwrEn := 3 })).setE 0x120007 1, by decide⟩,
    ⟨wit fun c => (c.setPm (fun p => { p with seqStep := 3, pwrEn := 15 })).setE 0x120007 1, by decide⟩,
    ⟨wit fun c => (c.setPm (fun p => { p with seqStep := 2, pwrEn := 7 })).setE 0x120007 1, by decide⟩,
    ⟨tS 10, wit fun c => (c.setPm (fun p => { p with seqStep := 8 })).setE 0x110001 2, by decide⟩,
    ⟨wit id, by decide⟩⟩

/-- The hypotheses of TrainingCompletesTheStart can be met. -/
theorem met_TrainingCompletesTheStart :
    (∃ (devs : List (List Nat)) (s : State), s.ctl.e 0x500003 = 1 ∧ (∀ p, p < 6 → portDevicesOk (s.ctl.e 0x500001) devs p = true) ∧ s.ctl.xz.stored = []) ∧
    (∃ (devs : List (List Nat)) (g : List Byte) (s : State), s.ctl.e 0x500003 = 1 ∧ (∀ p, p < 6 → portDevicesOk (s.ctl.e 0x500001) devs p = true) ∧ s.ctl.bt.mramErrs = [] ∧ g = s.ctl.xz.stored ∧ g ≠ [] ∧ s.ctl.xz.slots.length = 2) ∧
    (∃ (devs : List (List Nat)) (p : Nat) (s : State), s.ctl.e 0x500003 = 1 ∧ p < 6 ∧ portDevicesOk (s.ctl.e 0x500001) devs p = false) ∧
    (∃ (s : State), s.ctl.e 0x500003 = 1) :=
  ⟨⟨List.replicate 6 [16, 16, 16, 16], wit fun c => (c.setE 0x500003 1).setBt (fun b => { b with step := 6 }), by decide +kernel⟩,
    ⟨List.replicate 6 [8, 8, 8, 8, 8, 8, 8, 8], [1], wit fun c => ((c.setE 0x500003 1).setXz (fun x => { x with stored := [1] })).setBt (fun b => { b with step := 6 }), by decide +kernel⟩,
    ⟨List.replicate 5 [16, 16, 16, 16] ++ [[16, 16, 16, 8]], 5, wit fun c => c.setE 0x500003 1, by decide⟩,
    ⟨wit fun c => c.setE 0x500003 1, by decide⟩⟩

/-- The hypotheses of ThermalLevels can be met. -/
theorem met_ThermalLevels :
    (∃ (dt : Nat) (readings : List (Int × Int × Bool)) (rd : List (Int × Bool)) (s : State), readings.length = 24 ∧ rd = readings.map (fun x => (if s.ctl.e 0x140002 = 1 then max x.1 x.2.1 else x.1, x.2.2)) ∧ ((s.ctl.advance dt).thermalRound rd).tooHot = false) ∧
    (∃ (dt : Nat) (site : Nat) (g : Nat) (s : State), site < 24 ∧ (siteAt s.ctl.pm.sites site).state = 2 ∧ (siteAt s.ctl.pm.sites site).goodSince = some g ∧ g + tS 10 ≤ s.ctl.up + dt) ∧
    (∃ (dt : Nat) (u : Nat) (s : State), s.ctl.pm.holdUntil = some u ∧ u ≤ s.ctl.up + dt ∧ s.ctl.pm.throttle = true ∧ s.ctl.pm.tmax ≤ degC 103 ∧ s.ctl.e 0x130004 = 0) ∧
    (∃ (dt : Nat) (s : State), tS 3600 ≤ s.ctl.pm.lifeTime + (s.ctl.up + dt - s.ctl.pm.lastRound)) :=
  ⟨⟨0, List.replicate 24 (880, 870, false), List.replicate 24 (880, false), wit id, by decide +kernel⟩,
    ⟨tS 10, 3, 0, wit fun c => c.setPm (fun p => { p with sites := updAt p.sites 3 (fun x => { x with state := 2, goodSince := some 0 }) }), by decide⟩,
    ⟨tS 2, tS 2, wit fun c => c.setPm (fun p => { p with throttle := true, warning := true, tmax := degC 103, holdUntil := some (tS 2) }), by decide⟩,
    ⟨tS 3600, wit id, by decide⟩⟩

/-- The hypotheses of AvsAndTelemetry can be met. -/
theorem met_AvsAndTelemetry :
    (∃ (slack : Nat) (s : State), s.ctl.avsOn = true ∧ s.ctl.cpbUp = true ∧ slack < 8) ∧
    (∃ (slack : Nat) (s : State), s.ctl.avsOn = true ∧ s.ctl.cpbUp = true ∧ 12 < slack ∧ 19 ≤ s.ctl.pm.slackHigh) ∧
    (∃ (slack : Nat) (s : State), s.ctl.avsOn = true ∧ s.ctl.cpbUp = true ∧ 12 < slack ∧ s.ctl.pm.slackHigh < 19) ∧
    (∃ (slack : Nat) (s : State), s.ctl.avsOn = true ∧ s.ctl.cpbUp = true ∧ 8 ≤ slack ∧ slack ≤ 12) ∧
    (∃ (slack : Nat) (s : State), s.ctl.avsOn = true ∧ slack < 3) ∧
    (∃ (answers : List (Nat × Option (Nat × Nat))), answers.length = 8) ∧
    (∃ (status : List (Option Nat)) (r : Nat) (x : Nat) (s : State), status.length = 8 ∧ r < 8 ∧ status.getD r none = some x ∧ s.ctl.ea 0x1210 r ≠ 0) :=
  ⟨⟨7, wit fun c => c.setE 0x120007 2, by decide⟩,
    ⟨13, wit fun c => (c.setE 0x120007 2).setPm (fun p => { p with slackHigh := 19 }), by decide⟩,
    ⟨13, wit fun c => (c.setE 0x120007 2).setPm (fun p => { p with slackHigh := 18 }), by decide⟩,
    ⟨8, wit fun c => c.setE 0x120007 2, by decide⟩,
    ⟨2, wit fun c => c.setE 0x120007 2, by decide⟩,
    ⟨(List.replicate 7 (750, some (1000, 0))) ++ [(800, none)], by decide⟩,
    ⟨[none, none, some 5, none, none, none, none, none], 2, 5, wit fun c => c.setEa 0x1210 2 16, by decide⟩⟩

/-- The hypotheses of ClocksReferencesAndCalibration can be met. -/
theorem met_ClocksReferencesAndCalibration :
    (∃ (s : State), s.ctl.pm.refLost = false) ∧
    (∃ (s : State), s.ctl.pm.refLost = true) ∧
    (∃ (pll : Nat), 2 ≤ pll ∧ pll ≤ 7) ∧
    (∃ (diff : Int), diff.natAbs ≤ 5000) ∧
    (∃ (diff : Int) (s : State), 5000 < diff.natAbs ∧ s.ctl.e 0x140002 ≠ 1) ∧
    (∃ (dt : Nat) (item : Nat) (idx : Nat) (x : CalInst) (s : State), (s.ctl.calInst item idx) = some x ∧ x.running = false ∧ (s.ctl.advance dt).calDue x = true ∧ s.ctl.cpbUp = true ∧ s.ctl.pm.cal.any (fun y => y.item = item && y.running) = false ∧ (s.ctl.e 0x140002 ≠ 1 ∨ calFallback item = true) ∧ s.ctl.calLaneFree item idx = true) ∧
    (∃ (item : Nat) (s : State), s.ctl.cpbUp = true ∧ 1 ≤ item ∧ item ≤ 8 ∧ (s.ctl.e 0x140002 ≠ 1 ∨ calFallback item = true) ∧ s.ctl.pm.cal.any (fun y => y.item = item && y.running) = false ∧ s.ctl.pm.cal.any (fun y => y.item = item && s.ctl.calLaneFree item y.idx) = true) ∧
    (∃ (s : State), s.ctl.e 0x140002 ≠ 1 ∧ s.ctl.cpbUp = true) ∧
    (∃ (item : Nat) (idx : Nat) (codes : List Int) (x : CalInst) (s : State), s.ctl.cpbUp = true ∧ 1 ≤ item ∧ item ≤ 8 ∧ calFits item codes = true ∧ s.ctl.calInst item idx = some x ∧ x.running = true ∧ s.ctl.e 0x140002 ≠ 1 ∧ s.ctl.pm.cal.any (fun y => y.item = item && y.waiting) = false) ∧
    (∃ (item : Nat) (idx : Nat) (codes : List Int) (x : CalInst) (s : State), s.ctl.cpbUp = true ∧ 1 ≤ item ∧ item ≤ 8 ∧ calFits item codes = false ∧ s.ctl.calInst item idx = some x ∧ x.running = true ∧ s.ctl.pm.cal.any (fun y => y.item = item && y.waiting) = false) ∧
    (∃ (i : Nat), i < 7) :=
  ⟨⟨wit id, by decide⟩,
    ⟨wit fun c => c.setPm (fun p => { p with refLost := true, onCrystal := true }), by decide⟩,
    ⟨7, by decide⟩,
    ⟨-5000, by decide⟩,
    ⟨5001, wit fun c => c.setPm (fun p => { p with cal := [{ item := 1, idx := 0, running := true, quality := 3 }] }), by decide⟩,
    ⟨tS 3600, 2, 1, { item := 2, idx := 1 }, wit fun c => c.setPm (fun p => { p with cal := [{ item := 2, idx := 1 }] }), by decide⟩,
    ⟨8, wit fun c => c.setPm (fun p => { p with cal := [{ item := 8, idx := 0 }] }), by decide⟩,
    ⟨wit id, by decide⟩,
    ⟨2, 1, [255], { item := 2, idx := 1, running := true }, wit fun c => c.setPm (fun p => { p with cal := [{ item := 2, idx := 1, running := true }] }), by decide⟩,
    ⟨1, 0, [], { item := 1, idx := 0, running := true, residual := 4 }, wit fun c => c.setPm (fun p => { p with cal := [{ item := 1, idx := 0, running := true, residual := 4 }] }), by decide⟩,
    ⟨6, by decide⟩⟩

/-- The hypotheses of ControlPairsStopAndReturn can be met. -/
theorem met_ControlPairsStopAndReturn :
    (∃ (pair : Nat) (s : State), pair ≤ 1 ∧ s.ctl.ea 0x1580 pair = 0 ∧ s.ctl.bt.step ≠ 0) ∧
    (∃ (pair : Nat) (s : State), pair ≤ 1 ∧ s.ctl.ea 0x1580 pair = 0 ∧ s.ctl.bt.step ≠ 0) ∧
    (∃ (dt : Nat) (t0 : Nat) (s : State), s.ctl.fm.pairOutAt = some t0 ∧ t0 + tS 1 ≤ s.ctl.up + dt ∧ s.ctl.tb.issuing = false ∧ s.ctl.pm.down = 0) :=
  ⟨⟨1, wit fun c => c.setBt (fun b => { b with step := 8 }), by decide⟩,
    ⟨0, wit fun c => c.setBt (fun b => { b with step := 8, cpA := { stoppedAt := some 0 } }), by decide⟩,
    ⟨tS 1, 0, wit fun c => c.setFm (fun f => { f with pairOutAt := some 0 }), by decide⟩⟩

/-- The hypotheses of FirmwareLoadSteps can be met. -/
theorem met_FirmwareLoadSteps :
    (∃ (s : State), s.ctl.cpaUp = true ∧ s.ctl.bt.fwLoad = none ∧ s.ctl.e 0x110502 ≤ 1572864 ∧ s.ctl.bt.mramStopped = false) ∧
    (∃ (bytes : List Byte) (l : FwLoad) (s : State), s.ctl.cpaUp = true ∧ s.ctl.bt.fwLoad = some l ∧ l.ended = false ∧ l.slot ≤ 1 ∧ (l.data ++ bytes).length ≤ l.size) ∧
    (∃ (l : FwLoad) (s : State), s.ctl.cpaUp = true ∧ s.ctl.bt.fwLoad = some l ∧ l.ended = false ∧ l.size ≤ l.data.length) ∧
    (∃ (l : FwLoad) (s : State), s.ctl.cpaUp = true ∧ s.ctl.bt.fwLoad = some l ∧ s.ctl.bt.mramStopped = false) ∧
    (∃ (l : FwLoad) (s : State), s.ctl.cpaUp = true ∧ s.ctl.bt.fwLoad = some l ∧ l.ended = true ∧ s.ctl.bt.mramStopped = false) :=
  ⟨⟨wit id, by decide⟩,
    ⟨[1, 2], ⟨1, 2, [], false, 0⟩, wit fun c => c.setBt (fun b => { b with fwLoad := some ⟨1, 2, [], false, 0⟩ }), by decide⟩,
    ⟨⟨1, 1, [3], false, 0⟩, wit fun c => c.setBt (fun b => { b with fwLoad := some ⟨1, 1, [3], false, 0⟩ }), by decide⟩,
    ⟨⟨1, 1, [3], false, 0⟩, wit fun c => c.setBt (fun b => { b with fwLoad := some ⟨1, 1, [3], false, 0⟩ }), by decide⟩,
    ⟨⟨1, 1, [3], true, 0⟩, wit fun c => c.setBt (fun b => { b with fwLoad := some ⟨1, 1, [3], true, 0⟩ }), by decide⟩⟩

/-- The hypotheses of BootCommandsAndKeys can be met. -/
theorem met_BootCommandsAndKeys :
    (∃ (s : State), s.ctl.pm.down = 0 ∧ s.ctl.bt.mramStopped = false) ∧
    (∃ (s : State), s.ctl.fwSt (1 - s.ctl.bt.running) = 2 ∧ s.ctl.bt.mramStopped = false) ∧
    (∃ (s : State), s.ctl.fwSt s.ctl.bt.running = 4 ∧ s.ctl.bt.mramStopped = false) ∧
    (∃ (dt : Nat) (t0 : Nat) (s : State), s.ctl.bt.startedAt = some t0 ∧ t0 + tS 60 ≤ s.ctl.up + dt ∧ s.ctl.bt.trialFault = false ∧ s.ctl.fwSt s.ctl.bt.running = 4 ∧ s.ctl.bt.mramStopped = false) ∧
    (∃ (bytes : List Byte) (s : State), keyOk 0 bytes = true ∧ s.ctl.bt.mramStopped = false) ∧
    (∃ (bytes : List Byte) (s : State), keyOk 1 bytes = true ∧ s.ctl.bt.mramStopped = false) ∧
    (∃ (k : Nat) (bytes : List Byte) (s : State), 2 ≤ k ∧ k ≤ 5 ∧ keyOk k bytes = true ∧ s.ctl.bt.mramStopped = false) :=
  ⟨⟨wit id, by decide⟩,
    ⟨wit fun c => c.setBt (fun b => { b with recA := { b.recA with slotState := (2, 2) }, recB := { b.recB with slotState := (2, 2) } }), by decide⟩,
    ⟨wit fun c => c.setBt (fun b => { b with recA := { b.recA with slotState := (4, 2) }, recB := { b.recB with slotState := (4, 2) } }), by decide⟩,
    ⟨tS 60, 0, wit fun c => c.setBt (fun b => { b with startedAt := some 0, recA := { b.recA with slotState := (4, 2) }, recB := { b.recB with slotState := (4, 2) } }), by decide⟩,
    ⟨List.replicate 32 7, wit id, by decide +kernel⟩,
    ⟨List.replicate 32 7, wit id, by decide +kernel⟩,
    ⟨5, List.replicate 64 0, wit id, by decide +kernel⟩⟩

/-- The hypotheses of ReadsAreAnswered can be met. -/
theorem met_ReadsAreAnswered :
    (∃ (dt : Nat) (src : VAddr) (msg : List Byte) (x : Option Sess) (c0 : Ctl) (s : State), (s.ctl.advance dt).admits src x msg = true ∧ src.tr = 0 ∧ u8At msg 1 = 1 ∧ c0 = (List.range (u8At (vosBody msg) 0)).foldl (fun c i => c.fetchEntry (leAt (vosBody msg) (4 + 4 * i) 2 * 256 + u8At (vosBody msg) (6 + 4 * i))) ((s.ctl.advance dt).heard x msg)) ∧
    (∃ (dt : Nat) (src : VAddr) (msg : List Byte) (x : Option Sess) (c0 : Ctl) (s : State), (s.ctl.advance dt).admits src x msg = true ∧ src.tr = 0 ∧ u8At msg 1 = 3 ∧ c0 = ((s.ctl.advance dt).heard x msg).fetchEntry (ekey (leAt (vosBody msg) 0 2) (u8At (vosBody msg) 2))) ∧
    (∃ (k : Nat) (c : Ctl), k / 65536 ≠ 0x50 ∧ c.bt.mramErrs = []) ∧
    (∃ (w : Nat) (m : Nat) (c : Ctl), c.bt.mramErrs = [(w, m)] ∧ mramRead m ≠ .clean ∧ mramRead m ≠ .bad) ∧
    (∃ (w : Nat) (m : Nat) (k : Nat) (d : DictRow) (i : Nat) (c : Ctl), c.bt.mramErrs = [(w, m)] ∧ mramRead m = .bad ∧ 0x70000 ≤ w ∧ w ≠ 0x7C000 ∧ w ≠ 0x7C001 ∧ entryOf w = some (k, d, i)) :=
  ⟨⟨0, ⟨0, 9, 5⟩, ask 1 0 7 [1, 0, 0, 0, 0x00, 0x10, 1, 0], none, (List.range (u8At (vosBody (ask 1 0 7 [1, 0, 0, 0, 0x00, 0x10, 1, 0] : List Byte)) 0)).foldl (fun c i => c.fetchEntry (leAt (vosBody (ask 1 0 7 [1, 0, 0, 0, 0x00, 0x10, 1, 0] : List Byte)) (4 + 4 * i) 2 * 256 + u8At (vosBody (ask 1 0 7 [1, 0, 0, 0, 0x00, 0x10, 1, 0] : List Byte)) (6 + 4 * i))) (((server [viewer 3] : State).ctl.advance (0 : Nat)).heard (none : Option Sess) (ask 1 0 7 [1, 0, 0, 0, 0x00, 0x10, 1, 0] : List Byte)), server [viewer 3], ⟨by decide +kernel, by decide +kernel, by decide +kernel, rfl⟩⟩,
    ⟨0, ⟨0, 9, 5⟩, ask 3 3 7 [0x00, 0x10, 1, 0, 0, 0, 0, 0, 0, 0, 0, 0, 100, 0, 0, 0], some (viewer 3), (((server [viewer 3] : State).ctl.advance (0 : Nat)).heard (some (viewer 3) : Option Sess) (ask 3 3 7 [0x00, 0x10, 1, 0, 0, 0, 0, 0, 0, 0, 0, 0, 100, 0, 0, 0] : List Byte)).fetchEntry (ekey (leAt (vosBody (ask 3 3 7 [0x00, 0x10, 1, 0, 0, 0, 0, 0, 0, 0, 0, 0, 100, 0, 0, 0] : List Byte)) 0 2) (u8At (vosBody (ask 3 3 7 [0x00, 0x10, 1, 0, 0, 0, 0, 0, 0, 0, 0, 0, 100, 0, 0, 0] : List Byte)) 2)), server [viewer 3], ⟨by decide +kernel, by decide +kernel, by decide +kernel, rfl⟩⟩,
    ⟨0x100001, {}, by decide⟩,
    ⟨0x70000, 4, ({} : Ctl).setBt (fun b => { b with mramErrs := [(0x70000, 4)] }), by decide +kernel⟩,
    ⟨0x70000, 3, (entryOf 0x70000).elim 0 (fun p => p.1), ((entryOf 0x70000).map (fun p => p.2.1)).getD ⟨0, 0, false, .u8, .ro, 0, [], (0, 0), .no⟩, 0, ({} : Ctl).setBt (fun b => { b with mramErrs := [(0x70000, 3)] }), by decide +kernel⟩⟩

/-- The hypotheses of SessionsWriteAndSubscribe can be met. -/
theorem met_SessionsWriteAndSubscribe :
    (∃ (dt : Nat) (src : VAddr) (msg : List Byte) (x : Sess) (l : List WItem) (w : WItem) (s : State), (s.ctl.advance dt).admits src (some x) msg = true ∧ u8At msg 1 = 2 ∧ wItems (u8At (vosBody msg) 0) ((vosBody msg).drop 4) = some l ∧ w ∈ l ∧ ((s.ctl.advance dt).heard (some x) msg).itemCheck (((s.ctl.advance dt).heard (some x) msg).withItems l) x.installer false w ≠ 0 ∧ (l.all fun w => !isStream w.key) = true) ∧
    (∃ (dt : Nat) (src : VAddr) (msg : List Byte) (x : Sess) (l : List WItem) (s : State), (s.ctl.advance dt).admits src (some x) msg = true ∧ u8At msg 1 = 2 ∧ src.tr = 0 ∧ wItems (u8At (vosBody msg) 0) ((vosBody msg).drop 4) = some l ∧ (l.all fun w => decide (((s.ctl.advance dt).heard (some x) msg).itemCheck (((s.ctl.advance dt).heard (some x) msg).withItems l) x.installer false w = 0)) = true ∧ (l.all fun w => decide ((rowOf w.key).map Prod.snd = some .rws)) = true ∧ s.ctl.pl.syncing = false) ∧
    (∃ (dt : Nat) (src : VAddr) (msg : List Byte) (x : Sess) (w : WItem) (d : DictRow) (c0 : Ctl) (s : State), (s.ctl.advance dt).admits src (some x) msg = true ∧ u8At msg 1 = 2 ∧ src.tr = 0 ∧ wItems (u8At (vosBody msg) 0) ((vosBody msg).drop 4) = some [w] ∧ dictRow w.key = some d ∧ d.acc = .rw ∧ setsItself w.key = false ∧ w.key ≠ 0x110005 ∧ c0 = (s.ctl.advance dt).heard (some x) msg ∧ c0.itemCheck (c0.withItems [w]) x.installer false w = 0 ∧ s.ctl.bt.mramStopped = false ∧ (∀ c:Ctl, c.written w.key w.value = c)) ∧
    (∃ (dt : Nat) (src : VAddr) (msg : List Byte) (x : Sess) (k : Nat) (total : Nat) (s : State), (s.ctl.advance dt).admits src (some x) msg = true ∧ u8At msg 1 = 4 ∧ x.xfer = none ∧ bit (u8At (vosBody msg) 3) 0 = false ∧ k = ekey (leAt (vosBody msg) 0 2) (u8At (vosBody msg) 2) ∧ isStream k = false ∧ total = leAt (vosBody msg) 8 4 ∧ ((s.ctl.advance dt).heard (some x) msg).itemAccess x.installer k true = 0 ∧ leAt (vosBody msg) 4 4 = 0 ∧ firstSeg k false total ((vosBody msg).drop 16) = 0 ∧ ((vosBody msg).drop 16).length < total) ∧
    (∃ (dt : Nat) (src : VAddr) (msg : List Byte) (x : Sess) (y : Xfer) (s : State), (s.ctl.advance dt).admits src (some x) msg = true ∧ u8At msg 1 = 4 ∧ x.xfer = some y ∧ y.whole = false ∧ bit (u8At (vosBody msg) 3) 0 = false ∧ y.key = ekey (leAt (vosBody msg) 0 2) (u8At (vosBody msg) 2) ∧ isStream y.key = false ∧ y.total ≠ noTotal ∧ leAt (vosBody msg) 4 4 = y.got ∧ y.got + ((vosBody msg).drop 16).length < y.total) ∧
    (∃ (dt : Nat) (src : VAddr) (msg : List Byte) (x : Sess) (y : Xfer) (w : WItem) (c0 : Ctl) (s : State), (s.ctl.advance dt).admits src (some x) msg = true ∧ u8At msg 1 = 4 ∧ x.xfer = some y ∧ y.whole = false ∧ bit (u8At (vosBody msg) 3) 0 = false ∧ y.key = ekey (leAt (vosBody msg) 0 2) (u8At (vosBody msg) 2) ∧ isStream y.key = false ∧ y.total ≠ noTotal ∧ leAt (vosBody msg) 4 4 = y.got ∧ y.got + ((vosBody msg).drop 16).length = y.total ∧ w = ⟨y.key, (dictRow y.key).elim 10 (fun d => d.ty.code), y.data ++ (vosBody msg).drop 16⟩ ∧ (rowOf w.key).map Prod.snd = some .rws ∧ s.ctl.pl.syncing = false ∧ c0 = (s.ctl.advance dt).heard (some x) msg ∧ c0.itemCheck (c0.withItems [w]) x.installer true w = 0) ∧
    (∃ (dt : Nat) (src : VAddr) (msg : List Byte) (x : Sess) (s : State), (s.ctl.advance dt).admits src (some x) msg = true ∧ u8At msg 1 = 5 ∧ u8At (vosBody msg) 1 = 0 ∧ ((s.ctl.advance dt).heard (some x) msg).subStatus x (vosBody msg) = 0) ∧
    (∃ (dt : Nat) (src : VAddr) (msg : List Byte) (x : Sess) (u : Sub) (s : State), (s.ctl.advance dt).admits src (some x) msg = true ∧ u8At msg 1 = 5 ∧ u8At (vosBody msg) 1 ≠ 0 ∧ ((s.ctl.advance dt).heard (some x) msg).subStatus x (vosBody msg) = 0 ∧ u = { id := u8At (vosBody msg) 0, kind := u8At (vosBody msg) 1, key := ekey (leAt (vosBody msg) 2 2) (u8At (vosBody msg) 4), queue := u8At (vosBody msg) 5, period := leAt (vosBody msg) 6 2, dest := src, nseq := 0, last := none, sentAt := s.ctl.up + dt, recs := [] }) :=
  ⟨⟨0, ⟨0, 9, 5⟩, ask 2 3 7 [1, 0, 0, 0, 0x00, 0x10, 1, 11, 1, 0, 0, 0, 65, 0, 0, 0], viewer 3, [⟨0x100001, 11, [65]⟩], ⟨0x100001, 11, [65]⟩, server [viewer 3], by decide +kernel⟩,
    ⟨0, ⟨0, 9, 5⟩, ask 2 3 7 [1, 0, 0, 0, 0x00, 0x40, 4, 3, 2, 0, 0, 0, 232, 3, 0, 0], viewer 3, [⟨0x400004, 3, [232, 3]⟩], server [viewer 3], by decide +kernel⟩,
    ⟨0, ⟨0, 9, 5⟩, ask 2 3 7 [1, 0, 0, 0, 0x10, 0x44, 1, 3, 2, 0, 0, 0, 5, 0, 0, 0], viewer 3, ⟨0x441001, 3, [5, 0]⟩, ⟨0x441001, 32, true, .u16, .rw, 0, [], (0, 0), .yes⟩, ((server [viewer 3] : State).ctl.advance (0 : Nat)).heard (some (viewer 3 : Sess)) (ask 2 3 7 [1, 0, 0, 0, 0x10, 0x44, 1, 3, 2, 0, 0, 0, 5, 0, 0, 0] : List Byte), server [viewer 3], ⟨by decide +kernel, by decide +kernel, rfl, by decide +kernel, by decide +kernel, rfl, by decide +kernel, by decide +kernel, rfl, by decide +kernel, rfl, fun _ => rfl⟩⟩,
    ⟨0, ⟨0, 9, 5⟩, ask 4 3 7 [0x03, 0x43, 1, 0, 0, 0, 0, 0, 0x00, 0x60, 0, 0, 2, 0, 0, 0, 7, 7], viewer 3, 0x430301, 24576, server [viewer 3], by decide +kernel⟩,
    ⟨0, ⟨0, 9, 5⟩, ask 4 3 7 [0x03, 0x43, 1, 0, 2, 0, 0, 0, 0x00, 0x60, 0, 0, 2, 0, 0, 0, 7, 7], { viewer 3 with xfer := some ⟨0x430301, false, 24576, [1, 2], 2, 0⟩ }, ⟨0x430301, false, 24576, [1, 2], 2, 0⟩, server [{ viewer 3 with xfer := some ⟨0x430301, false, 24576, [1, 2], 2, 0⟩ }], by decide +kernel⟩,
    ⟨0, ⟨0, 9, 5⟩, ask 4 3 7 [0x00, 0x40, 4, 0, 1, 0, 0, 0, 2, 0, 0, 0, 1, 0, 0, 0, 3], { viewer 3 with xfer := some ⟨0x400004, false, 2, [232], 1, 0⟩ }, ⟨0x400004, false, 2, [232], 1, 0⟩, ⟨0x400004, 3, [232, 3]⟩, ((server [{ viewer 3 with xfer := some ⟨0x400004, false, 2, [232], 1, 0⟩ }] : State).ctl.advance (0 : Nat)).heard (some ({ viewer 3 with xfer := some ⟨0x400004, false, 2, [232], 1, 0⟩ } : Sess)) (ask 4 3 7 [0x00, 0x40, 4, 0, 1, 0, 0, 0, 2, 0, 0, 0, 1, 0, 0, 0, 3] : List Byte), server [{ viewer 3 with xfer := some ⟨0x400004, false, 2, [232], 1, 0⟩ }], ⟨by decide +kernel, by decide +kernel, by decide +kernel, by decide +kernel, by decide +kernel, by decide +kernel, by decide +kernel, by decide +kernel, by decide +kernel, by decide +kernel, by decide +kernel, by decide +kernel, by decide +kernel, rfl, by decide +kernel⟩⟩,
    ⟨0, ⟨0, 9, 5⟩, ask 5 3 7 [1, 0, 0, 0, 0, 0, 0, 0], subscriber 1, server [subscriber 1], by decide +kernel⟩,
    ⟨0, ⟨0, 9, 5⟩, ask 5 3 7 [15, 3, 0, 0, 0, 127, 0, 0], viewer 3, ⟨15, 3, 0, 127, 0, ⟨0, 9, 5⟩, 0, none, 0, []⟩, server [viewer 3], by decide +kernel⟩⟩

/-- The hypotheses of CommitsFreezeTheStagedSet can be met. -/
theorem met_CommitsFreezeTheStagedSet :
    (∃ (dt : Nat) (src : VAddr) (msg : List Byte) (x : Sess) (s : State), (s.ctl.advance dt).admits src (some x) msg = true ∧ u8At msg 1 = 6 ∧ u8At msg 16 = 1 ∧ s.ctl.dy.commits.length < 4) ∧
    (∃ (dt : Nat) (src : VAddr) (msg : List Byte) (x : Sess) (s : State), (s.ctl.advance dt).admits src (some x) msg = true ∧ u8At msg 1 = 6 ∧ u8At msg 16 = 2) ∧
    (∃ (s : State), s.ctl.cpaUp = true ∧ s.ctl.dy.commits.length < 4) ∧
    (∃ (s : State), s.ctl.cpaUp = true ∧ 4 ≤ s.ctl.dy.commits.length) ∧
    (∃ (s : State), s.ctl.cpaUp = true) :=
  ⟨⟨0, ⟨0, 9, 5⟩, ask 6 3 7 [1, 0, 0, 0], viewer 3, server [viewer 3], by decide +kernel⟩,
    ⟨0, ⟨0, 9, 5⟩, ask 6 3 7 [2, 0, 0, 0], viewer 3, server [viewer 3], by decide +kernel⟩,
    ⟨wit fun c => { c with dy := { c.dy with staged := [0x400004], commits := [⟨1, 0, []⟩, ⟨2, 0, []⟩, ⟨3, 0, []⟩] } }, by decide⟩,
    ⟨wit fun c => { c with dy := { c.dy with commits := [⟨1, 0, []⟩, ⟨2, 0, []⟩, ⟨3, 0, []⟩, ⟨4, 0, []⟩] } }, by decide⟩,
    ⟨wit fun c => { c with dy := { c.dy with staged := [0x400004] } }, by decide⟩⟩

/-- The hypotheses of SessionsBeginAndEnd can be met. -/
theorem met_SessionsBeginAndEnd :
    (∃ (dt : Nat) (src : VAddr) (msg : List Byte) (s : State), (s.ctl.advance dt).admits src none msg = true ∧ u8At msg 1 = 7 ∧ u8At msg 16 = 1 ∧ (s.ctl.advance dt).lockedOut src = false ∧ (s.ctl.dy.sessions.filter (fun x => decide (x.num ≥ 3))).length < 14) ∧
    (∃ (dt : Nat) (src : VAddr) (msg : List Byte) (x : Sess) (s : State), s.ctl.dy.serving = true ∧ s.ctl.ea 0x1580 0 = 0 ∧ s.ctl.tadpole = false ∧ 16 ≤ msg.length ∧ msg.length ≤ vosMax src.tr ∧ u8At msg 0 = 1 ∧ u8At msg 1 = 7 ∧ u8At msg 2 = 0 ∧ vosFormat msg = true ∧ u8At msg 12 = 0xFE ∧ (s.ctl.advance dt).sessOk src msg = true ∧ u8At msg 16 = 2 ∧ s.ctl.sess (vosSess msg) = some x ∧ 3 ≤ x.num ∧ x.isOpen = false ∧ x.xfer = none ∧ s.ctl.up + dt < x.since + tS 10 ∧ slice (vosBody msg) 4 32 = proofOf x) ∧
    (∃ (dt : Nat) (src : VAddr) (msg : List Byte) (x : Sess) (s : State), s.ctl.dy.serving = true ∧ s.ctl.ea 0x1580 0 = 0 ∧ s.ctl.tadpole = false ∧ 16 ≤ msg.length ∧ msg.length ≤ vosMax src.tr ∧ u8At msg 0 = 1 ∧ u8At msg 1 = 7 ∧ u8At msg 2 = 0 ∧ vosFormat msg = true ∧ u8At msg 12 = 0xFE ∧ (s.ctl.advance dt).sessOk src msg = true ∧ u8At msg 16 = 2 ∧ s.ctl.sess (vosSess msg) = some x ∧ 3 ≤ x.num ∧ x.isOpen = false ∧ x.xfer = none ∧ (x.since + tS 10 ≤ s.ctl.up + dt ∨ slice (vosBody msg) 4 32 ≠ proofOf x)) ∧
    (∃ (dt : Nat) (src : VAddr) (msg : List Byte) (x : Sess) (s : State), (s.ctl.advance dt).admits src (some x) msg = true ∧ u8At msg 1 = 7 ∧ u8At msg 16 = 3 ∧ 3 ≤ x.num ∧ src.tr = 0 ∧ x.xfer = none) ∧
    (∃ (dt : Nat) (session : Nat) (x : Sess) (s : State), s.ctl.sess session = some x ∧ 3 ≤ session ∧ x.isOpen = false ∧ x.xfer = none ∧ x.since + tS 10 ≤ s.ctl.up + dt) ∧
    (∃ (dt : Nat) (session : Nat) (x : Sess) (s : State), s.ctl.sess session = some x ∧ 3 ≤ session ∧ x.isOpen = true ∧ x.xfer = none ∧ x.lastValid + tS (s.ctl.e 0x540002) ≤ s.ctl.up + dt) ∧
    (∃ (dt : Nat) (src : VAddr) (t0 : Nat) (s : State), (s.ctl.login src).until_ = some t0 ∧ t0 ≤ s.ctl.up + dt) :=
  ⟨⟨0, ⟨0, 9, 5⟩, ask 7 0 7 ([1, 0, 0, 0] ++ List.replicate 16 3), server [viewer 3], by decide +kernel⟩,
    ⟨0, ⟨0, 9, 5⟩, ask 7 3 7 ([2, 1, 0, 0] ++ proofOf (halfOpen 3)), halfOpen 3, server [halfOpen 3], by
      have h : (proofOf (halfOpen 3)).length = 32 := hmac_length _ _
      rw [step_two_octets _ h]
      exact ⟨rfl, by decide, by decide, by simp, by simp [h, vosMax], rfl, rfl, rfl, (step_two_good _ h).1, rfl, rfl, rfl, rfl, by decide, rfl, rfl, by decide, (step_two_good _ h).2⟩⟩,
    ⟨tS 10, ⟨0, 9, 5⟩, ask 7 3 7 ([2, 1, 0, 0] ++ List.replicate 32 5), halfOpen 3, server [halfOpen 3], by decide +kernel⟩,
    ⟨0, ⟨0, 9, 5⟩, ask 7 3 7 [3, 0, 0, 0], viewer 3, server [viewer 3], by decide +kernel⟩,
    ⟨tS 10, 3, halfOpen 3, server [halfOpen 3], by decide⟩,
    ⟨tS 60, 3, viewer 3, server [viewer 3], by decide +kernel⟩,
    ⟨5, ⟨0, 9, 5⟩, 5, wit fun c => { c with dy := { c.dy with logins := [⟨⟨0, 9, 0⟩, 0, some 5⟩] } }, by decide⟩⟩

/-- The hypotheses of NotificationsGoOut can be met. -/
theorem met_NotificationsGoOut :
    (∃ (dt : Nat) (session : Nat) (sub : Nat) (x : Sess) (u : Sub) (c0 : Ctl) (s : State), s.ctl.sub session sub = some (x, u) ∧ u.kind = 1 ∧ u.sentAt + tMs u.period ≤ s.ctl.up + dt ∧ u.dest.tr = 0 ∧ c0 = (s.ctl.advance dt).fetchEntry u.key) ∧
    (∃ (dt : Nat) (session : Nat) (sub : Nat) (x : Sess) (u : Sub) (s : State), s.ctl.sub session sub = some (x, u) ∧ u.kind = 1 ∧ u.sentAt + tMs u.period ≤ s.ctl.up + dt) ∧
    (∃ (dt : Nat) (session : Nat) (sub : Nat) (x : Sess) (u : Sub) (c0 : Ctl) (s : State), s.ctl.sub session sub = some (x, u) ∧ u.kind = 2 ∧ c0 = (s.ctl.advance dt).fetchEntry u.key ∧ u.last ≠ some (c0.entRead u.key true) ∧ (u.last = none ∨ u.sentAt + tMs u.period ≤ s.ctl.up + dt) ∧ u.dest.tr = 0) ∧
    (∃ (dt : Nat) (session : Nat) (sub : Nat) (x : Sess) (u : Sub) (c0 : Ctl) (s : State), s.ctl.sub session sub = some (x, u) ∧ u.kind = 2 ∧ c0 = (s.ctl.advance dt).fetchEntry u.key ∧ u.last ≠ some (c0.entRead u.key true) ∧ (u.last = none ∨ u.sentAt + tMs u.period ≤ s.ctl.up + dt)) ∧
    (∃ (dt : Nat) (session : Nat) (sub : Nat) (r : EvRec) (x : Sess) (u : Sub) (s : State), s.ctl.sub session sub = some (x, u) ∧ u.kind = 3 ∧ u.recs.head? = some r ∧ tickD (s.ctl.advance dt).now r.tick ≥ (tMs 1 : Nat) ∧ u.recs.length ≤ min 255 (eventRoom x / 16) ∧ u.dest.tr = 0) ∧
    (∃ (dt : Nat) (session : Nat) (sub : Nat) (r : EvRec) (x : Sess) (u : Sub) (s : State), s.ctl.sub session sub = some (x, u) ∧ u.kind = 3 ∧ u.recs.head? = some r ∧ tickD (s.ctl.advance dt).now r.tick ≥ (tMs 1 : Nat) ∧ u.recs.length ≤ min 255 (eventRoom x / 16)) :=
  ⟨⟨tMs 10, 3, 1, subscriber 1, ⟨1, 1, 0x100001, 0, 10, ⟨0, 9, 5⟩, 4, none, 0, []⟩, ((server [subscriber 1] : State).ctl.advance (tMs 10 : Nat)).fetchEntry (⟨1, 1, 0x100001, 0, 10, ⟨0, 9, 5⟩, 4, none, 0, []⟩ : Sub).key, server [subscriber 1], ⟨by decide +kernel, by decide +kernel, by decide +kernel, by decide +kernel, rfl⟩⟩,
    ⟨tMs 10, 3, 1, subscriber 1, ⟨1, 1, 0x100001, 0, 10, ⟨0, 9, 5⟩, 4, none, 0, []⟩, server [subscriber 1], by decide⟩,
    ⟨tMs 10, 3, 1, subscriber 2, ⟨1, 2, 0x100001, 0, 10, ⟨0, 9, 5⟩, 4, none, 0, []⟩, ((server [subscriber 2] : State).ctl.advance (tMs 10 : Nat)).fetchEntry (⟨1, 2, 0x100001, 0, 10, ⟨0, 9, 5⟩, 4, none, 0, []⟩ : Sub).key, server [subscriber 2], ⟨by decide +kernel, by decide +kernel, rfl, by decide +kernel, by decide +kernel, by decide +kernel⟩⟩,
    ⟨tMs 10, 3, 1, subscriber 2, ⟨1, 2, 0x100001, 0, 10, ⟨0, 9, 5⟩, 4, none, 0, []⟩, ((server [subscriber 2] : State).ctl.advance (tMs 10 : Nat)).fetchEntry (⟨1, 2, 0x100001, 0, 10, ⟨0, 9, 5⟩, 4, none, 0, []⟩ : Sub).key, server [subscriber 2], ⟨by decide +kernel, by decide +kernel, rfl, by decide +kernel, by decide +kernel⟩⟩,
    ⟨tMs 1, 3, 1, ⟨0x101, 0, 0⟩, { subscriber 3 with subs := [⟨1, 3, 0x100001, 0, 10, ⟨0, 9, 5⟩, 4, none, 0, [⟨0x101, 0, 0⟩]⟩] }, ⟨1, 3, 0x100001, 0, 10, ⟨0, 9, 5⟩, 4, none, 0, [⟨0x101, 0, 0⟩]⟩, server [{ subscriber 3 with subs := [⟨1, 3, 0x100001, 0, 10, ⟨0, 9, 5⟩, 4, none, 0, [⟨0x101, 0, 0⟩]⟩] }], by decide⟩,
    ⟨tMs 1, 3, 1, ⟨0x101, 0, 0⟩, { subscriber 3 with subs := [⟨1, 3, 0x100001, 0, 10, ⟨0, 9, 5⟩, 4, none, 0, [⟨0x101, 0, 0⟩]⟩] }, ⟨1, 3, 0x100001, 0, 10, ⟨0, 9, 5⟩, 4, none, 0, [⟨0x101, 0, 0⟩]⟩, server [{ subscriber 3 with subs := [⟨1, 3, 0x100001, 0, 10, ⟨0, 9, 5⟩, 4, none, 0, [⟨0x101, 0, 0⟩]⟩] }], by decide⟩⟩

/-- The hypotheses of RelaysTransfersAndRestarts can be met. -/
theorem met_RelaysTransfersAndRestarts :
    (∃ (dt : Nat) (pos : Nat) (msg : List Byte) (r : Relay) (s : State), 16 ≤ msg.length ∧ msg.length ≤ 240 ∧ u8At msg 1 ≠ 8 ∧ u8At msg 1 ≠ 7 ∧ bit (u8At msg 2) 0 = true ∧ r.src.tr = 0 ∧ s.ctl.dy.relays.find? (fun r => decide (r.target = pos) && decide (r.seq = leAt msg 8 4) && decide (r.session = vosSess msg) && decide (s.ctl.up + dt < r.since + tS 1)) = some r) ∧
    (∃ (dt : Nat) (session : Nat) (x : Xfer) (s : State), (s.ctl.sess session).bind Sess.xfer = some x ∧ x.lastAt + tS 10 ≤ s.ctl.up + dt ∧ isStream x.key = false) ∧
    (∃ (pair : Nat) (s : State), pair ≤ 1 ∧ s.ctl.ea 0x1580 pair = 1 ∧ s.ctl.codeOk = true ∧ s.ctl.bt.mramErrs = []) ∧
    (∃ (s : State), s.ctl.bt.mramStopped = false ∧ (∀ k:Nat, k ∈ settingKeys → s.ctl.ev k ≠ dfltVal k → ∀ c:Ctl, c.written k (dfltVal k) = c)) :=
  ⟨⟨0, 4, vosMsg 1 1 0 3 7 0xFE [] [], ⟨⟨0, 9, 5⟩, 4, 3, 7, 0⟩, wit fun c => { c with dy := { c.dy with relays := [⟨⟨0, 9, 5⟩, 4, 3, 7, 0⟩] } }, by decide +kernel⟩,
    ⟨tS 10, 3, ⟨0x430301, false, 9, [], 0, 0⟩, server [{ viewer 3 with xfer := some ⟨0x430301, false, 9, [], 0, 0⟩ }], by decide⟩,
    ⟨1, wit fun c => (c.setE 0x110001 2).setEa 0x1580 1 1, by decide⟩,
    ⟨wit fun c => c.setE 0x540002 7, ⟨rfl, fun k _ h c => if e : k = 0x540002 then by subst e; rfl else absurd ((Ctl.ev_setE {} 0x540002 k 7).trans (if_neg (fun h => e h.symm))) h⟩⟩⟩

/-- The hypotheses of MailboxAnswersInItsBuffer can be met. -/
theorem met_MailboxAnswersInItsBuffer :
    (∃ (dt : Nat) (fn : Fn) (k : Nat) (msg : List Byte) (x : Sess) (c0 : Ctl) (c1 : Ctl) (s : State), k = (match fn with | .pf0 => 0 | .pf1 => 1) ∧ s.ctl.reg .hiMbxCtrl k 2 = 0 ∧ k < s.ctl.hi.mbxReply.length ∧ c0 = (s.ctl.advance dt).setHi (fun h => { h with mbxReply := setAt h.mbxReply k [] }) ∧ msg = c0.mbxMsg k ∧ c0.admits ⟨2, k, 0⟩ (some x) msg = true ∧ u8At msg 1 = 1 ∧ x.ks = [] ∧ c1 = (List.range (u8At (vosBody msg) 0)).foldl (fun c i => c.fetchEntry (leAt (vosBody msg) (4 + 4 * i) 2 * 256 + u8At (vosBody msg) (6 + 4 * i))) (c0.heard (some x) msg)) ∧
    (∃ (fn : Fn) (k : Nat) (s : State), k = (match fn with | .pf0 => 0 | .pf1 => 1) ∧ s.ctl.reg .hiMbxCtrl k 2 = 1) :=
  ⟨⟨0, .pf1, 1, ask 1 2 7 [1, 0, 0, 0, 0x00, 0x10, 1, 0], fixedSess 2, ((mailbox (ask 1 2 7 [1, 0, 0, 0, 0x00, 0x10, 1, 0]) : State).ctl.advance (0 : Nat)).setHi (fun h => { h with mbxReply := setAt h.mbxReply (1 : Nat) [] }), (List.range (u8At (vosBody (ask 1 2 7 [1, 0, 0, 0, 0x00, 0x10, 1, 0] : List Byte)) 0)).foldl (fun c i => c.fetchEntry (leAt (vosBody (ask 1 2 7 [1, 0, 0, 0, 0x00, 0x10, 1, 0] : List Byte)) (4 + 4 * i) 2 * 256 + u8At (vosBody (ask 1 2 7 [1, 0, 0, 0, 0x00, 0x10, 1, 0] : List Byte)) (6 + 4 * i))) ((((mailbox (ask 1 2 7 [1, 0, 0, 0, 0x00, 0x10, 1, 0]) : State).ctl.advance (0 : Nat)).setHi (fun h => { h with mbxReply := setAt h.mbxReply (1 : Nat) [] }) : Ctl).heard (some (fixedSess 2 : Sess)) (ask 1 2 7 [1, 0, 0, 0, 0x00, 0x10, 1, 0] : List Byte)), mailbox (ask 1 2 7 [1, 0, 0, 0, 0x00, 0x10, 1, 0]), ⟨rfl, rfl, by decide, rfl, rfl, by decide +kernel, by decide +kernel, rfl, rfl⟩⟩,
    ⟨.pf0, 0, wit fun c => c.setReg .hiMbxCtrl 0 2 1, by decide⟩⟩

/-- The hypotheses of HostResetsClearTheirFunction can be met. -/
theorem met_HostResetsClearTheirFunction :
    (∃ (q : Nat), q < 128) ∧
    (∃ (fn : Fn) (k : Nat) (q : Nat), k = (match fn with | .pf0 => 0 | .pf1 => 1) ∧ q < 128 ∧ q / 64 ≠ k) ∧
    (∃ (width : Nat) (speed : Nat) (s : State), s.ctl.tadpole = false ∧ [1, 2, 4, 8].contains width = true ∧ 1 ≤ speed ∧ speed ≤ 4) :=
  ⟨⟨127, by decide⟩,
    ⟨.pf0, 0, 64, by decide⟩,
    ⟨4, 3, wit id, by decide⟩⟩

/-- The hypotheses of HostRingsTakeRecords can be met. -/
theorem met_HostRingsTakeRecords :
    (∃ (queue : Nat) (s : State), queue < 128 ∧ s.ctl.reg .hiEqCfg queue 0 = 0 ∧ s.ctl.qbuf queue = [] ∧ s.ctl.hi.eqWritten.contains queue = false) ∧
    (∃ (queue : Nat), queue < 128) ∧
    (∃ (queue : Nat) (r : EvRec) (rest : List EvRec) (s : State), queue < 128 ∧ s.ctl.qbuf queue = r :: rest ∧ s.ctl.reg .hiEqCfg queue 0 ≠ 0 ∧ s.ctl.hi.linkUp = true ∧ s.ctl.eqRoom queue = true ∧ s.ctl.reg .hiEqCfg queue 1 ≠ 0) ∧
    (∃ (queue : Nat) (s : State), queue < 128 ∧ s.ctl.reg .hiEqCfg queue 1 ≠ 0 ∧ s.ctl.hi.eqWritten.contains queue = true ∧ aGet s.ctl.hi.msixAt queue = none ∧ s.ctl.eqHead queue ≠ s.ctl.eqTail queue ∧ s.ctl.msixMasked (queue / 64) (queue % 64) = false) :=
  ⟨⟨127, wit id, by decide⟩,
    ⟨127, by decide⟩,
    ⟨5, ⟨0x101, 3, 9⟩, [], wit fun c => (((c.setReg .hiEqCfg 5 0 1).setReg .hiEqCfg 5 1 10).setReg .hiEqCfg 5 16 4).setHi (fun h => { h with linkUp := true, buf := [(5, [⟨0x101, 3, 9⟩])] }), by decide +kernel⟩,
    ⟨64, wit fun c => ((c.setReg .hiEqCfg 64 1 1).setReg .hiEqPtr 64 16 1).setHi (fun h => { h with eqWritten := [64], msix := [(1027, 0)] }), by decide⟩⟩

/-- The hypotheses of JobQueuesAndDma can be met. -/
theorem met_JobQueuesAndDma :
    (∃ (queue : Nat), queue < 2) ∧
    (∃ (queue : Nat), queue < 2) ∧
    (∃ (p : Nat), p < 8) ∧
    (∃ (bytes : List Byte) (ue : List DramErr) (a : Nat) (dram : Nat) (len : Nat) (m : Mem) (s : State), s.ctl.hi.j1.running = true ∧ a = s.ctl.jqAddr 1 (s.ctl.jqHead 1) ∧ m = s.mem.found ue ∧ m.poisoned a 64 = false ∧ s.ctl.dmaCheck (m.read a 64) = 0 ∧ u8At (m.read a 64) 0 = 1 ∧ dram = leAt (m.read a 64) 16 8 ∧ len = leAt (m.read a 64) 24 4 ∧ bytes.length = len) ∧
    (∃ (ue : List DramErr) (a : Nat) (st : Nat) (m : Mem) (s : State), s.ctl.hi.j1.running = true ∧ a = s.ctl.jqAddr 1 (s.ctl.jqHead 1) ∧ m = s.mem.found ue ∧ m.poisoned a 64 = false ∧ st = s.ctl.dmaCheck (m.read a 64) ∧ st ≠ 0) :=
  ⟨⟨1, by decide⟩,
    ⟨1, by decide⟩,
    ⟨7, by decide⟩,
    ⟨[5, 6], [], 0, 4096, 2, (dmaJob [1, 0, 0, 0, 9, 0, 0, 0, 0, 0, 0, 0, 0, 0, 0, 0, 0, 16, 0, 0, 0, 0, 0, 0, 2, 0, 0, 0] : State).mem.found ([] : List DramErr), dmaJob [1, 0, 0, 0, 9, 0, 0, 0, 0, 0, 0, 0, 0, 0, 0, 0, 0, 16, 0, 0, 0, 0, 0, 0, 2, 0, 0, 0], ⟨by decide +kernel, by decide +kernel, rfl, by decide +kernel, by decide +kernel, by decide +kernel, by decide +kernel, by decide +kernel, by decide +kernel⟩⟩,
    ⟨[], 0, 0x30, (dmaJob [3, 0, 0, 0] : State).mem.found ([] : List DramErr), dmaJob [3, 0, 0, 0], ⟨by decide +kernel, by decide +kernel, rfl, by decide +kernel, by decide +kernel, by decide +kernel⟩⟩⟩

/-- The hypotheses of WindowReachesDram can be met. -/
theorem met_WindowReachesDram :
    (∃ (offset : Nat) (len : Nat) (ue : List DramErr) (a : Nat) (m : Mem) (s : State), a = s.ctl.reg .hiWinBase 0 0 * 268435456 + offset ∧ s.ctl.dramOk a len = true ∧ m = s.mem.found ue) ∧
    (∃ (offset : Nat) (a : Nat) (bytes : List Byte) (s : State), a = s.ctl.reg .hiWinBase 0 0 * 268435456 + offset ∧ s.ctl.dramOk a bytes.length = true) ∧
    (∃ (offset : Nat) (bytes : List Byte) (s : State), s.ctl.dramOk (s.ctl.reg .hiWinBase 0 0 * 268435456 + offset) bytes.length = false) :=
  ⟨⟨8, 4, [], 8, (dmaJob [3, 0, 0, 0] : State).mem.found ([] : List DramErr), dmaJob [3, 0, 0, 0], ⟨by decide +kernel, by decide +kernel, rfl⟩⟩,
    ⟨8, 8, [1, 2], dmaJob [3, 0, 0, 0], by decide +kernel⟩,
    ⟨8, [1, 2], wit id, by decide +kernel⟩⟩

/-- The hypotheses of RegistersKeepTheirAccess can be met. -/
theorem met_RegistersKeepTheirAccess :
    (∃ (at_ : RegAt), pf1Writes (blockAt 1 at_) = false) ∧
    (∃ (value : Nat), value < 2 ^ 32) ∧
    (∃ (reg : RegName) (inst : Nat), inst < regCount reg ∧ pf1Hidden reg = true) ∧
    (∃ (s : State), s.ctl.hiLatch = []) :=
  ⟨⟨.named .xzRayQuery 0 false, by decide +kernel⟩,
    ⟨0x1FF, by decide⟩,
    ⟨.hiJqCfg, 0, by decide +kernel⟩,
    ⟨wit fun c => c.setReg .hiWinBase 0 0 7, by decide⟩⟩

/-- The hypotheses of PtpMessagesAndTheirTimeouts can be met. -/
theorem met_PtpMessagesAndTheirTimeouts :
    (∃ (port : Nat) (domain : Nat) (d : Nat) (x : List Int) (off : Int) (s : State), 1 ≤ port ∧ port ≤ 4 ∧ s.ctl.domainOf domain = some d ∧ s.ctl.slavePort d = port ∧ s.ctl.servosRun = true ∧ (s.ctl.domState d = 2 ∨ s.ctl.domState d = 3) ∧ s.ctl.timeState = 0 ∧ off = tickD (ofSigned 64 (x.getD 0 0 + (s.ctl.ea 0x2309 (port - 1) : Int) * 65536 / 1000 + toSigned 32 (s.ctl.ea 0x2308 (port - 1)) * 65536 / 1000)) (ofSigned 64 (x.getD 1 0 - s.ctl.portUi port)) ∧ tNs (s.ctl.e 0x23000F) < (off - x.getD 2 0).natAbs) ∧
    (∃ (port : Nat) (domain : Nat) (d : Nat) (x : List Int) (off : Int) (s : State), 1 ≤ port ∧ port ≤ 4 ∧ s.ctl.domainOf domain = some d ∧ s.ctl.slavePort d = port ∧ s.ctl.servosRun = true ∧ s.ctl.domState d = 1 ∧ off = tickD (ofSigned 64 (x.getD 0 0 + (s.ctl.ea 0x2309 (port - 1) : Int) * 65536 / 1000 + toSigned 32 (s.ctl.ea 0x2308 (port - 1)) * 65536 / 1000)) (ofSigned 64 (x.getD 1 0 - s.ctl.portUi port))) ∧
    (∃ (port : Nat) (domain : Nat) (d : Nat) (s : State), 1 ≤ port ∧ port ≤ 4 ∧ s.ctl.domainOf domain = some d ∧ s.ctl.servosRun = true) ∧
    (∃ (dt : Nat) (port : Nat) (domain : Nat) (d : Nat) (got : Nat) (x : List Int) (a : Ctl) (s : State), 1 ≤ port ∧ port ≤ 2 ∧ s.ctl.domainOf domain = some d ∧ s.ctl.servosRun = true ∧ s.ctl.e 0x230013 = 0 ∧ bits (s.ctl.ea 0x2307 (port - 1)) (8 * d + 7) (8 * d) = 6 ∧ a = s.ctl.advance dt ∧ a.mayAnswer port d = true ∧ got = a.domTime d (x.getD 0 0 - s.ctl.portUi port)) ∧
    (∃ (dt : Nat) (port : Nat) (domain : Nat) (d : Nat) (got : Nat) (x : List Int) (a : Ctl) (s : State), 1 ≤ port ∧ port ≤ 2 ∧ s.ctl.domainOf domain = some d ∧ s.ctl.servosRun = true ∧ s.ctl.e 0x230013 ≠ 0 ∧ a = s.ctl.advance dt ∧ a.mayAnswer port d = true ∧ got = a.domTime d (x.getD 0 0 - s.ctl.portUi port)) ∧
    (∃ (port : Nat) (domain : Nat) (s : State), 1 ≤ port ∧ port ≤ 2 ∧ domain ≤ 1 ∧ s.ctl.servosRun = true ∧ s.ctl.domState domain ≠ 0 ∧ s.ctl.domState domain ≠ 4 ∧ bits (s.ctl.ea 0x2307 (port - 1)) (8 * domain + 7) (8 * domain) = 6) ∧
    (∃ (dt : Nat) (p : Nat) (domain : Nat) (s : State), p < 2 ∧ domain ≤ 1 ∧ s.ctl.servosRun = true ∧ s.ctl.domState domain ≠ 0 ∧ (s.ctl.advance dt).ptpOff domain (p + 3) = false ∧ s.ctl.sideRoom p 64) ∧
    (∃ (dt : Nat) (domain : Nat) (s : State), domain ≤ 1 ∧ s.ctl.servosRun = true ∧ s.ctl.domUp domain = true ∧ s.ctl.slavePort domain ≠ 255 ∧ (s.ctl.servo domain).syncAt + 3 * s.ctl.syncInterval (s.ctl.slavePort domain) ≤ s.ctl.up + dt) ∧
    (∃ (dt : Nat) (domain : Nat) (s : State), domain ≤ 1 ∧ s.ctl.servosRun = true ∧ s.ctl.domUp domain = true ∧ (∀ r ∈ s.ctl.tb.announces, r.domain = domain → r.at_ + tS 3 ≤ s.ctl.up + dt)) :=
  ⟨⟨1, 5, 0, [0, 0, 200000000000, 0], 0, timed fun c => ((c.setEa 0x2303 0 2).setEa 0x2306 0 1), by decide⟩,
    ⟨1, 5, 0, [0, 0, 0, 7], 0, timed fun c => ((c.setEa 0x2303 0 1).setEa 0x2306 0 1), by decide⟩,
    ⟨4, 5, 0, timed fun c => (c.setEa 0x2303 0 1), by decide⟩,
    ⟨7, 2, 5, 0, 3, [3, 9, 1, 4, 65536], (timed fun c => ((c.setEa 0x2303 0 1).setE 0x230013 0).setEa 0x2307 1 6 : State).ctl.advance (7 : Nat), timed fun c => ((c.setEa 0x2303 0 1).setE 0x230013 0).setEa 0x2307 1 6, ⟨by decide +kernel, by decide +kernel, by decide +kernel, by decide +kernel, by decide +kernel, by decide +kernel, rfl, by decide +kernel, by decide +kernel⟩⟩,
    ⟨7, 1, 5, 0, 3, [3, 9, 1, 4, 65536], (timed fun c => ((c.setEa 0x2303 0 1).setE 0x230013 1) : State).ctl.advance (7 : Nat), timed fun c => ((c.setEa 0x2303 0 1).setE 0x230013 1), ⟨by decide +kernel, by decide +kernel, by decide +kernel, by decide +kernel, by decide +kernel, rfl, by decide +kernel, by decide +kernel⟩⟩,
    ⟨2, 1, timed fun c => (c.setEa 0x2303 1 1).setEa 0x2307 1 0x600, by decide⟩,
    ⟨0, 0, 1, timed fun c => (c.setEa 0x2303 1 1).setRgPort 0 (fun q => { q with up := true }), ⟨by decide, by decide, by decide, by decide, rfl, rfl, by decide⟩⟩,
    ⟨tS 3, 1, timed fun c => ((c.setEa 0x2303 1 3).setEa 0x2306 1 3), by decide +kernel⟩,
    ⟨0, 0, timed fun c => ((c.setEa 0x2303 0 3).setEa 0x2306 0 3), by decide⟩⟩

/-- The hypotheses of RateChangesAndSteps can be met. -/
theorem met_RateChangesAndSteps :
    (∃ (dt : Nat) (n : Nat) (s : State), (s.ctl.advance dt).rateStatus = 0 ∧ n = (s.ctl.advance dt).flipAt (s.ctl.e 0x23000B)) ∧
    (∃ (dt : Nat) (r : RateChange) (s : State), s.ctl.tb.rateChange = some r ∧ tUs 100 ≤ tickD r.fcTick ((s.ctl.advance dt).now)) ∧
    (∃ (s : State), s.ctl.stepAllowed = true) ∧
    (∃ (dt : Nat) (o : Int) (t0 : Nat) (s : State), s.ctl.clk.slew = some (o, t0) ∧ slewTime o.natAbs ≤ t0 + dt) ∧
    (∃ (dt : Nat) (o : Int) (c : Ctl), c.clk.slew = some (o, 0) ∧ c.clk.freq = 0 ∧ c.clk.rem = 0 ∧ dt = slewTime o.natAbs) :=
  ⟨⟨0, (wit fun c => (c.setXz (fun x => { x with active := some 0 })).setE 0x23000B (tS 2)).ctl.flipAt (tS 2), wit fun c => (c.setXz (fun x => { x with active := some 0 })).setE 0x23000B (tS 2), by decide +kernel⟩,
    ⟨0, ⟨5, tS 2, 60⟩, wit fun c => c.setTb (fun x => { x with rateChange := some ⟨5, tS 2, 60⟩ }), by decide⟩,
    ⟨timed fun c => (((c.setEa 0x2303 0 3).setE 0x230001 2).setE 0x230002 0).setOffset 0 (tUs 3), by decide⟩,
    ⟨0, -65536, tMs 7, wit fun c => c.setClk (fun k => { k with slew := some (-65536, tMs 7) }), by decide +kernel⟩,
    ⟨slewTime 65536, 65536, (wit fun c => c.setClk (fun k => { k with slew := some (65536, 0) })).ctl, by decide +kernel⟩⟩

/-- The hypotheses of TheDomainSwitches can be met. -/
theorem met_TheDomainSwitches :
    (∃ (dt : Nat) (domain : Nat) (tick : Nat) (d : Nat) (s : State), s.ctl.servosRun = true ∧ s.ctl.domainOf domain = some d ∧ s.ctl.tb.switchTick = none ∧ d ≠ s.ctl.activeDom ∧ (s.ctl.timeState = 1 ∨ s.ctl.timeState = 2) ∧ tickD tick (s.ctl.advance dt).now ≠ -(2 ^ 63 : Nat)) ∧
    (∃ (dt : Nat) (t0 : Nat) (d : Nat) (s : State), s.ctl.servosRun = true ∧ s.ctl.tb.switchTick = some (t0, d) ∧ (s.ctl.advance dt).due t0 = true ∧ s.ctl.domState d = 3 ∧ d ≤ 1 ∧ s.ctl.timeState ≠ 1) ∧
    (∃ (dt : Nat) (t0 : Nat) (d : Nat) (s : State), s.ctl.servosRun = true ∧ s.ctl.tb.switchTick = some (t0, d) ∧ (s.ctl.advance dt).due t0 = true ∧ s.ctl.domState d ≠ 3 ∧ s.ctl.timeState ≠ 3) ∧
    (∃ (dt : Nat) (a : Nat) (s : State), s.ctl.servosRun = true ∧ a = s.ctl.activeDom ∧ a ≤ 1 ∧ s.ctl.domState a = 4 ∧ s.ctl.domState (1 - a) = 3 ∧ s.ctl.tb.switchTick = none ∧ (s.ctl.timeState = 1 ∨ s.ctl.timeState = 2) ∧ (s.ctl.servo a).lostAt + tMs 100 ≤ s.ctl.up + dt) ∧
    (∃ (dt : Nat) (p : Nat) (s : State), s.ctl.servosRun = true ∧ p = s.ctl.e 0x230003 ∧ s.ctl.e 0x230004 ≠ 0 ∧ s.ctl.activeDom ≤ 1 ∧ s.ctl.activeDom ≠ p ∧ s.ctl.timeState = 2 ∧ s.ctl.tb.switchTick = none ∧ s.ctl.domState p = 3 ∧ fieldPort (s.ctl.slavePort s.ctl.activeDom) = true ∧ (s.ctl.servo p).lockedAt + tS 60 ≤ s.ctl.up + dt ∧ (∀ q, q < 2 → s.ctl.sideRoom q 69)) ∧
    (∃ (dt : Nat) (s : State), s.ctl.timeState = 3 ∧ s.ctl.tb.holdoverExpired = false ∧ s.ctl.tb.holdoverAt + tS (s.ctl.e 0x230011) ≤ s.ctl.up + dt) :=
  ⟨⟨0, 6, 99, 1, timed fun c => ((c.setE 0x230001 2).setE 0x230002 0).setEa 0x2303 1 3, by decide⟩,
    ⟨0, 0, 1, timed fun c => (((c.setE 0x230001 2).setE 0x230002 0).setEa 0x2303 1 3).setTb (fun x => { x with switchTick := some (0, 1) }), by decide⟩,
    ⟨0, 0, 1, timed fun c => (((c.setE 0x230001 2).setE 0x230002 0).setEa 0x2303 1 4).setTb (fun x => { x with switchTick := some (0, 1) }), by decide⟩,
    ⟨tMs 100, 0, timed fun c => (((c.setE 0x230001 2).setE 0x230002 0).setEa 0x2303 0 4).setEa 0x2303 1 3, by decide +kernel⟩,
    ⟨tS 60, 1, timed fun c => ((((((c.setE 0x230001 2).setE 0x230002 0).setE 0x230003 1).setE 0x230004 1).setEa 0x2303 1 3).setEa 0x2306 0 2).setRg (fun r => { r with ports := [{ up := true }, { up := true }] }), ⟨rfl, rfl, by decide, by decide, by decide, by decide, by decide, by decide, by decide, by decide +kernel, fun q h => match q, h with | 0, _ => ⟨rfl, by decide⟩ | 1, _ => ⟨rfl, by decide⟩ | _ + 2, h => absurd h (by omega)⟩⟩,
    ⟨tS 4000000, timed fun c => c.setE 0x230001 3, by decide +kernel⟩⟩

/-- The hypotheses of FlipsAndCompareEventsFire can be met. -/
theorem met_FlipsAndCompareEventsFire :
    (∃ (dt : Nat) (s : State), s.ctl.tb.issuing = true ∧ tickD (s.ctl.tn s.ctl.tb.nextIndex) ((s.ctl.advance dt).now) ≤ 0 ∧ s.ctl.fm.wdReset = false ∧ s.ctl.fm.pairOutAt.any (fun z => decide (z + tS 1 ≤ s.ctl.up + dt)) = false) ∧
    (∃ (dt : Nat) (s : State), s.ctl.tb.issuing = true ∧ tickD (s.ctl.tn s.ctl.tb.nextIndex) ((s.ctl.advance dt).now) ≤ 0 ∧ s.ctl.fm.wdReset = true ∧ s.ctl.pm.down = 0) ∧
    (∃ (dt : Nat) (t0 : Nat) (s : State), s.ctl.tb.issuing = true ∧ tickD (s.ctl.tn s.ctl.tb.nextIndex) ((s.ctl.advance dt).now) ≤ 0 ∧ s.ctl.fm.pairOutAt = some t0 ∧ t0 + tS 1 ≤ s.ctl.up + dt ∧ s.ctl.pm.down = 0) ∧
    (∃ (dt : Nat) (s : State), 0 < tickD (s.ctl.tn s.ctl.tb.nextIndex) ((s.ctl.advance dt).now) ∧ s.ctl.tb.issuing = true) ∧
    (∃ (dt : Nat) (s : State), s.ctl.tb.issuing = true ∧ s.ctl.tb.preNotice ≠ some s.ctl.tb.nextIndex ∧ tickD (s.ctl.tn s.ctl.tb.nextIndex) ((s.ctl.advance dt).now) ≤ tUs 1) ∧
    (∃ (dt : Nat) (a : Armed) (rest : List Armed) (s : State), s.ctl.tb.armed = a :: rest ∧ tickD a.target ((s.ctl.advance dt).now) ≤ 0) :=
  ⟨⟨0, wit fun c => c.setTb (fun x => { x with issuing := true }), by decide +kernel⟩,
    ⟨0, wit fun c => (c.setTb (fun x => { x with issuing := true })).setFm (fun f => { f with wdReset := true }), by decide +kernel⟩,
    ⟨tS 1 + 5, 5, wit fun c => (c.setTb (fun x => { x with issuing := true })).setFm (fun f => { f with pairOutAt := some 5 }), by decide +kernel⟩,
    ⟨0, wit fun c => c.setTb (fun x => { x with issuing := true, nextIndex := 1 }), by decide +kernel⟩,
    ⟨0, wit fun c => c.setTb (fun x => { x with issuing := true }), by decide +kernel⟩,
    ⟨0, ⟨0, 4⟩, [], wit fun c => c.setTb (fun x => { x with armed := [⟨0, 4⟩] }), by decide⟩⟩

/-- The hypotheses of RecordsAndRateApplyAtAFlip can be met. -/
theorem met_RecordsAndRateApplyAtAFlip :
    (∃ (tick : Nat) (rate : Nat) (k : Nat) (v : EVal) (r : CommitRec) (c : Ctl), c.isSafe = false ∧ c.ea 0x1580 0 = 0 ∧ c.dy.commits = [r] ∧ 0 ≤ tickD tick (tickAdd r.acceptTick (tUs 100)) ∧ r.vals = [(k, v)] ∧ k / 256 = 0x4212 ∧ (((c.setDy (fun d => { d with commits := [] })).setE 0x540007 r.id).setE 0x54000A tick |>.setE 0x230006 rate).setCheck r.vals = none) ∧
    (∃ (tick : Nat) (rate : Nat) (code : Nat) (k : Nat) (v : EVal) (data : List (Nat×Nat)) (r : CommitRec) (c : Ctl), c.isSafe = false ∧ c.ea 0x1580 0 = 0 ∧ c.dy.commits = [r] ∧ 0 ≤ tickD tick (tickAdd r.acceptTick (tUs 100)) ∧ r.vals = [(k, v)] ∧ (((c.setDy (fun d => { d with commits := [] })).setE 0x540007 r.id).setE 0x54000A tick |>.setE 0x230006 rate).setCheck r.vals = some (code, data)) ∧
    (∃ (tick : Nat) (c : Ctl), (c.isSafe = true ∨ ∀ r:CommitRec, r ∈ c.dy.commits → tickD tick (tickAdd r.acceptTick (tUs 100)) < 0)) ∧
    (∃ (n : Nat) (r : RateChange) (c : Ctl), c.tb.rateChange = some r ∧ r.fcIndex ≤ n ∧ (c.hasImage = false ∨ imgRate c.img = r.rate)) ∧
    (∃ (n : Nat) (r : RateChange) (c : Ctl), c.tb.rateChange = some r ∧ r.fcIndex ≤ n ∧ c.hasImage = true ∧ imgRate c.img ≠ r.rate) :=
  ⟨⟨tMs 1, 0, 0x421202, .num 9, ⟨7, 0, [(0x421202, .num 9)]⟩, (wit fun c => c.setDy (fun d => { d with commits := [⟨7, 0, [(0x421202, .num 9)]⟩] })).ctl, by decide +kernel⟩,
    ⟨tMs 1, 0, 12931, 0x421002, .num 1, [(8, 1), (8, 0)], ⟨7, 0, [(0x421002, .num 1)]⟩, (wit fun c => c.setDy (fun d => { d with commits := [⟨7, 0, [(0x421002, .num 1)]⟩] })).ctl, by decide +kernel⟩,
    ⟨0, {}, by simp⟩,
    ⟨5, ⟨5, tS 2, 60⟩, (wit fun c => c.setTb (fun x => { x with rateChange := some ⟨5, tS 2, 60⟩ })).ctl, by decide⟩,
    ⟨5, ⟨5, tS 2, 61⟩, ((wit fun c => (c.setTb (fun x => { x with rateChange := some ⟨5, tS 2, 61⟩ })).setXz (fun x => { x with active := some 0 }))).ctl, by decide +kernel⟩⟩

/-- The hypotheses of ReportsWindowsAndSafeStates can be met. -/
theorem met_ReportsWindowsAndSafeStates :
    (∃ (r : FaultRep) (rest : List FaultRep) (s : State), s.ctl.fm.reports = r :: rest) ∧
    (∃ (r : FaultRep) (rest : List FaultRep) (cls : Nat) (u : Nat) (s : State), s.ctl.fm.reports = r :: rest ∧ cls = faultClass r.ev.code r.ev.data ∧ u = faultUnit cls r.ev.code r.ev.data r.block ∧ opensWindow cls = true ∧ (∀ w ∈ s.ctl.fm.window, w.stop ≤ r.at_)) ∧
    (∃ (r : FaultRep) (rest : List FaultRep) (w : Window) (cls : Nat) (u : Nat) (s : State), s.ctl.fm.reports = r :: rest ∧ cls = faultClass r.ev.code r.ev.data ∧ u = faultUnit cls r.ev.code r.ev.data r.block ∧ opensWindow cls = true ∧ s.ctl.fm.window = some w ∧ r.at_ < w.stop ∧ sameFault w cls u (cls = 9 && s.ctl.linkFault u r.at_) = false ∧ s.ctl.fm.causes.any (fun x => x.kind = .compound && x.arg = w.num) = false) ∧
    (∃ (dt : Nat) (w : Window) (s : State), s.ctl.fm.window = some w ∧ w.stop ≤ s.ctl.up + dt) ∧
    (∃ (dt : Nat) (x : SafeCause) (s : State), x ∈ s.ctl.fm.causes ∧ x.kind = .frameHold ∧ x.since + tUs 1 ≤ s.ctl.up + dt) ∧
    (∃ (dt : Nat) (x : SafeCause) (s : State), x ∈ s.ctl.fm.causes ∧ (s.ctl.advance dt).settled x = true ∧ s.ctl.e 0x150009 = 0) ∧
    (∃ (dt : Nat) (x : SafeCause) (s : State), x ∈ s.ctl.fm.causes ∧ (s.ctl.advance dt).settled x = true) ∧
    (∃ (s : State), 0 < s.ctl.e 0x150006 ∧ s.ctl.fm.wdDone = false ∧ s.ctl.e 0x150006 ≤ s.ctl.fm.wdCount ∧ s.ctl.e 0x150007 = 1) ∧
    (∃ (s : State), 0 < s.ctl.e 0x150006 ∧ s.ctl.fm.wdDone = false ∧ s.ctl.e 0x150006 ≤ s.ctl.fm.wdCount ∧ s.ctl.e 0x150007 = 2) :=
  ⟨⟨⟨⟨0x40C1, 9, 0⟩, 0, 0⟩, [], wit fun c => c.setFm (fun f => { f with reports := [⟨⟨0x40C1, 9, 0⟩, 0, 0⟩] }), by decide⟩,
    ⟨⟨⟨0x40C1, 9, 0⟩, 0, 0⟩, [], 1, 9, wit fun c => c.setFm (fun f => { f with reports := [⟨⟨0x40C1, 9, 0⟩, 0, 0⟩] }), by decide⟩,
    ⟨⟨⟨0x40C1, 9, 0⟩, 0, 0⟩, [], ⟨1, 0, tUs 500, 1, 8, 0x40C1, false⟩, 1, 9, wit fun c => c.setFm (fun f => { f with reports := [⟨⟨0x40C1, 9, 0⟩, 0, 0⟩], windowCount := 1, window := some ⟨1, 0, tUs 500, 1, 8, 0x40C1, false⟩ }), by decide⟩,
    ⟨tUs 500, ⟨1, 0, tUs 500, 1, 8, 0x40C1, false⟩, wit fun c => c.setFm (fun f => { f with windowCount := 1, window := some ⟨1, 0, tUs 500, 1, 8, 0x40C1, false⟩ }), by decide⟩,
    ⟨tUs 1, ⟨.frameHold, 0x30C3, 1, 0, 0⟩, wit fun c => c.setFm (fun f => { f with causes := [⟨.frameHold, 0x30C3, 1, 0, 0⟩] }), by decide⟩,
    ⟨tS 20, ⟨.compound, 0x05C1, 1, 0, 1⟩, wit fun c => c.setFm (fun f => { f with causes := [⟨.compound, 0x05C1, 1, 0, 1⟩] }), by decide +kernel⟩,
    ⟨tS 20, ⟨.compound, 0x05C1, 1, 0, 1⟩, wit fun c => (c.setFm (fun f => { f with causes := [⟨.compound, 0x05C1, 1, 0, 1⟩] })).setE 0x150009 1, by decide +kernel⟩,
    ⟨wit fun c => ((c.setFm (fun f => { f with wdCount := 3 })).setE 0x150006 3).setE 0x150007 1, by decide⟩,
    ⟨wit fun c => ((c.setFm (fun f => { f with wdCount := 3 })).setE 0x150006 3).setE 0x150007 2, by decide⟩⟩

/-- The hypotheses of IslandsReportAndReturn can be met. -/
theorem met_IslandsReportAndReturn :
    (∃ (island : Nat), (island = 2 ∨ 4 ≤ island) ∧ island ≤ 7) ∧
    (∃ (island : Nat), [2, 4, 5, 6, 7].contains island = false) ∧
    (∃ (diff : Int), tNs 10 < diff.natAbs) ∧
    (∃ (diff : Int), diff.natAbs ≤ tNs 10) ∧
    (∃ (island : Nat), island < 8) ∧
    (∃ (copy : Nat), copy < 256) :=
  ⟨⟨7, by decide⟩,
    ⟨3, by decide⟩,
    ⟨-655361, by decide⟩,
    ⟨655360, by decide⟩,
    ⟨5, by decide⟩,
    ⟨2, by decide⟩⟩

/-- The hypotheses of UnitsLanesAndTheLogAreRestored can be met. -/
theorem met_UnitsLanesAndTheLogAreRestored :
    (∃ (subsystem : Nat) (unit_ : Nat) (s : State), subsystem ∈ [0x20, 0x21, 0x41, 0x42] ∧ s.ctl.isOut subsystem unit_ = true ∧ aGet s.ctl.fm.unitOuts (unitKey subsystem unit_) = some 1) ∧
    (∃ (subsystem : Nat) (unit_ : Nat) (s : State), (s.ctl.isOut subsystem unit_ = false ∨ aGet s.ctl.fm.unitOuts (unitKey subsystem unit_) ≠ some 1)) ∧
    (∃ (subsystem : Nat) (unit_ : Nat) (s : State), s.ctl.isOut subsystem unit_ = true) ∧
    (∃ (value : Nat) (s : State), bits value 15 8 ∈ [0x20, 0x21, 0x41, 0x42] ∧ s.ctl.isOut (bits value 15 8) (bits value 7 0) = true) ∧
    (∃ (value : Nat) (s : State), bits value 15 8 = 0x30 ∧ s.ctl.isOut 0x30 (bits value 7 0) = true ∧ s.ctl.es.out.contains (bits value 7 0) = true) ∧
    (∃ (value : Nat) (s : State), s.ctl.isOut (bits value 15 8) (bits value 7 0) = false) ∧
    (∃ (lane : Nat) (s : State), s.ctl.fm.withheld.contains lane = true) :=
  ⟨⟨0x41, 1, wit fun c => c.unitOut 0x41 1, by decide⟩,
    ⟨0x41, 1, wit fun c => (c.unitOut 0x41 1).unitOut 0x41 1, by decide⟩,
    ⟨0x41, 1, wit fun c => c.unitOut 0x41 1, by decide⟩,
    ⟨0x2003, wit fun c => c.unitOut 0x20 3, by decide⟩,
    ⟨0x3003, wit fun c => (c.unitOut 0x30 3).setEs (fun e => { e with out := [3] }), by decide⟩,
    ⟨0x4101, wit id, by decide⟩,
    ⟨17, wit fun c => c.setFm (fun f => { f with withheld := [17], laneOrders := [(17, [0])] }), by decide⟩⟩

/-- The hypotheses of PortsStartAtCodeZero can be met. -/
theorem met_PortsStartAtCodeZero :
    (∃ (port : Nat) (n : Nat) (s : State), port < 2 ∧ n < 9 ∧ s.ctl.ln.ports.length = 2 ∧ s.ctl.ln.lanes.length = 56 ∧ s.ctl.ringOn = true ∧ s.ctl.ea 0x2001 port = 1 ∧ (s.ctl.port port).stage = 0 ∧ s.ctl.laneSt (9 * port + n) ≠ 5) ∧
    (∃ (port : Nat) (n : Nat) (s : State), port < 2 ∧ n < 9 ∧ s.ctl.ln.ports.length = 2 ∧ s.ctl.ln.lanes.length = 56 ∧ s.ctl.ringOn = true ∧ s.ctl.ea 0x2001 port = 1 ∧ s.ctl.laneSt (9 * port + n) ≠ 5) ∧
    (∃ (dt : Nat) (port : Nat) (n : Nat) (s : State), port < 2 ∧ n < 9 ∧ s.ctl.ln.ports.length = 2 ∧ s.ctl.ln.lanes.length = 56 ∧ (s.ctl.port port).stage = 4 ∧ (s.ctl.port port).retryAt ≤ s.ctl.up + dt ∧ s.ctl.laneSt (9 * port + n) ≠ 5) :=
  ⟨⟨1, 8, wit fun c => (c.setEa 0x1214 3 1).setEa 0x2001 1 1, by decide⟩,
    ⟨0, 8, wit fun c => (c.setEa 0x1214 3 1).setEa 0x2001 0 1, by decide⟩,
    ⟨tS 1, 0, 0, wit fun c => c.setPort 0 (fun q => { q with stage := 4, retryAt := tS 1 }), by decide⟩⟩

/-- The hypotheses of ControlFramesPairAndChange can be met. -/
theorem met_ControlFramesPairAndChange :
    (∃ (lane : Nat) (bytes : List Byte), lane < 18 ∧ frameOk bytes = false) ∧
    (∃ (lane : Nat) (bytes : List Byte) (s : State), lane < 18 ∧ lane < s.ctl.ln.lanes.length ∧ frameOk bytes = true ∧ u8At bytes 0 / 16 = 1 ∧ s.ctl.laneSt lane ≠ 0 ∧ (s.ctl.lane lane).phase = .pairing ∧ (s.ctl.lane lane).paired = false ∧ (s.ctl.lane lane).run < 2 ∧ bits (u8At bytes 1) 3 0 = lane % 9 ∧ bits (u8At bytes 1) 6 6 = 1 - lane / 9 ∧ (s.ctl.port (lane / 9)).partnerMask = some (u8At bytes 2 % 64)) ∧
    (∃ (lane : Nat) (bytes : List Byte) (s : State), lane < 18 ∧ lane < s.ctl.ln.lanes.length ∧ frameOk bytes = true ∧ u8At bytes 0 / 16 = 3 ∧ s.ctl.laneSt lane ≠ 0 ∧ s.ctl.laneSt lane ≠ 5 ∧ s.ctl.leads (lane / 9) = false ∧ ofBE (slice bytes 6 2) % 16 ≠ 0) ∧
    (∃ (lane : Nat) (x : Lane) (s : State), x = s.ctl.lane lane ∧ lane < 18 ∧ lane < s.ctl.ln.lanes.length ∧ s.ctl.laneSt lane = 1 ∧ s.ctl.ea 0x2011 lane = 0 ∧ x.powerLeft = 0 ∧ x.loopAnswer = none ∧ x.loopSlave = false ∧ x.change = none ∧ x.phase = .pairing) ∧
    (∃ (dt : Nat) (lane : Nat) (t0 : Nat) (x : Lane) (s : State), x = s.ctl.lane lane ∧ lane < 18 ∧ lane < s.ctl.ln.lanes.length ∧ s.ctl.laneSt lane = 1 ∧ s.ctl.ea 0x2011 lane = 0 ∧ x.powerLeft = 0 ∧ x.loopAnswer = none ∧ x.loopSlave = false ∧ x.change = none ∧ x.phase = .ready ∧ x.checkFrom = some t0 ∧ t0 + tUs 450 ≤ s.ctl.up + dt ∧ x.solo = false) :=
  ⟨⟨3, [0x11], by decide⟩,
    ⟨8, [0x11, 0x48, 63, 0, 0, 0, 0, 0, 0, 0, 0, 0, 0], wit fun c => ((c.setLaneSt 8 1).setLane 8 (fun x => { x with phase := .pairing, run := 1 })).setPort 0 (fun q => { q with partnerMask := some 63 }), by decide +kernel⟩,
    ⟨9, [0x31, 0x48, 63, 2, 0, 0, 0, 15, 0, 0, 0, 0, 0], wit fun c => c.setLaneSt 9 1, by decide +kernel⟩,
    ⟨17, { phase := .pairing, seq := 255 }, wit fun c => ((c.setLaneSt 17 1).setLane 17 (fun _ => { phase := .pairing, seq := 255 })).setEa 0x2011 17 0, by decide +kernel⟩,
    ⟨tUs 450, 2, 0, { phase := .ready, checkFrom := some 0 }, wit fun c => ((c.setLaneSt 2 1).setLane 2 (fun _ => { phase := .ready, checkFrom := some 0 })).setEa 0x2011 2 0, by decide +kernel⟩⟩

/-- The hypotheses of BringUpSteps can be met. -/
theorem met_BringUpSteps :
    (∃ (dt : Nat) (port : Nat) (t0 : Nat) (s : State), port < s.ctl.ln.ports.length ∧ (s.ctl.port port).stage = 1 ∧ (s.ctl.port port).firstPaired = some t0 ∧ t0 + tMs 10 ≤ s.ctl.up + dt ∧ s.ctl.leads port = true ∧ (s.ctl.port port).minLanes ≤ popCount 9 (s.ctl.pairedMask port) ∧ s.ctl.finalRate port ≠ 0) ∧
    (∃ (dt : Nat) (port : Nat) (t0 : Nat) (s : State), port < s.ctl.ln.ports.length ∧ (s.ctl.port port).stage = 1 ∧ (s.ctl.port port).firstPaired = some t0 ∧ t0 + tMs 10 ≤ s.ctl.up + dt ∧ s.ctl.leads port = true ∧ popCount 9 (s.ctl.pairedMask port) < (s.ctl.port port).minLanes) ∧
    (∃ (port : Nat) (n : Nat) (s : State), n < 9 ∧ 9 * port + n < s.ctl.ln.lanes.length ∧ (s.ctl.lane (9 * port + n)).phase = .relock ∧ s.ctl.inStep port n = true) ∧
    (∃ (dt : Nat) (lane : Nat) (x : Lane) (s : State), x = s.ctl.lane lane ∧ lane < s.ctl.ln.lanes.length ∧ x.phase = .adapt ∧ (3 ≤ x.noGain ∨ x.adaptFrom + x.adaptLimit ≤ s.ctl.up + dt) ∧ (∀ i, i < 3 → x.pos.getD i 0 = x.bestPos.getD i 0)) ∧
    (∃ (dt : Nat) (lane : Nat) (i : Nat) (x : Lane) (s : State), x = s.ctl.lane lane ∧ lane < s.ctl.ln.lanes.length ∧ x.phase = .adapt ∧ (3 ≤ x.noGain ∨ x.adaptFrom + x.adaptLimit ≤ s.ctl.up + dt) ∧ i < 3 ∧ x.pos.getD i 0 ≠ x.bestPos.getD i 0) ∧
    (∃ (dt : Nat) (lane : Nat) (x : Lane) (s : State), x = s.ctl.lane lane ∧ x.phase = .adapt ∧ x.noGain < 3 ∧ s.ctl.up + dt < x.adaptFrom + x.adaptLimit) ∧
    (∃ (dt : Nat) (port : Nat) (n : Nat) (res : List (Nat×Nat×Nat×Nat×Nat)) (s : State), port < 2 ∧ n < 9 ∧ s.ctl.ln.lanes.length = 56 ∧ (s.ctl.lane (9 * port + n)).solo = true ∧ (s.ctl.lane (9 * port + n)).phase = .ready ∧ (s.ctl.advance dt).lanePass (9 * port + n) res = true ∧ (s.ctl.port port).code ≤ (s.ctl.lane (9 * port + n)).code) ∧
    (∃ (port : Nat) (s : State), port < s.ctl.ln.ports.length ∧ (s.ctl.port port).stage = 2 ∧ (s.ctl.port port).fallback = true ∧ 0 < (s.ctl.port port).minLanes) :=
  ⟨⟨tMs 10, 0, 0, wit fun c => ((c.setPort 0 (fun q => { q with stage := 1, minLanes := 1, firstPaired := some 0, partnerMask := some 63 })).setLane 0 (fun x => { x with paired := true })), by decide⟩,
    ⟨tMs 10, 0, 0, wit fun c => ((c.setPort 0 (fun q => { q with stage := 1, minLanes := 2, firstPaired := some 0, partnerMask := some 63 })).setLane 0 (fun x => { x with paired := true })), by decide⟩,
    ⟨1, 8, wit fun c => (c.setLane 17 (fun x => { x with phase := .relock, code := 2 })).setPort 1 (fun q => { q with stepLanes := 256 }), by decide⟩,
    ⟨0, 17, { phase := .adapt, noGain := 3 }, wit fun c => c.setLane 17 (fun _ => { phase := .adapt, noGain := 3 }), by decide +kernel⟩,
    ⟨0, 17, 1, { phase := .adapt, noGain := 3, pos := [0, 1, 0] }, wit fun c => c.setLane 17 (fun _ => { phase := .adapt, noGain := 3, pos := [0, 1, 0] }), by decide +kernel⟩,
    ⟨0, 17, { phase := .adapt, code := 5 }, wit fun c => c.setLane 17 (fun _ => { phase := .adapt, code := 5 }), by decide +kernel⟩,
    ⟨tUs 500, 1, 2, [(2, 1, 0, 900, 90)], wit fun c => c.setLane 11 (fun x => { x with phase := .ready, solo := true, code := 4, rxReady := true, partnerReady := true, partnerPass := true, checkFrom := some 0 }), by decide +kernel⟩,
    ⟨1, wit fun c => c.setPort 1 (fun q => { q with stage := 2, minLanes := 1, fallback := true, stepLanes := 3 }), by decide⟩⟩

/-- The hypotheses of LanesFailReturnAndAreTested can be met. -/
theorem met_LanesFailReturnAndAreTested :
    (∃ (dt : Nat) (port : Nat) (n : Nat) (s : State), port < 2 ∧ n < 9 ∧ s.ctl.ln.ports.length = 2 ∧ s.ctl.ln.lanes.length = 56 ∧ ((s.ctl.port port).stage = 1 ∨ (s.ctl.port port).stage = 2 ∨ (s.ctl.port port).stage = 4) ∧ (s.ctl.port port).seenAt + tMs 100 ≤ s.ctl.up + dt ∧ s.ctl.laneSt (9 * port + n) ≠ 5) ∧
    (∃ (port : Nat) (n : Nat) (s : State), port < 2 ∧ n < 9 ∧ s.ctl.ln.ports.length = 2 ∧ s.ctl.ln.lanes.length = 56 ∧ s.ctl.ea 0x2001 port ≠ 0 ∧ (s.ctl.port port).stage = 6 ∧ s.ctl.laneSt (9 * port + n) ≠ 5) ∧
    (∃ (lane : Nat) (cause : Nat) (seen : List Nat) (s : State), lane < 18 ∧ 1 ≤ cause ∧ cause ≤ 5 ∧ s.ctl.ea 0x2011 lane = 0 ∧ s.ctl.laneSt lane = 2 ∧ (cause = 3 → (s.ctl.laneSees lane seen).laneSync lane = false)) ∧
    (∃ (lane : Nat) (cause : Nat) (seen : List Nat) (s : State), (lane = 54 ∨ lane = 55) ∧ 1 ≤ cause ∧ cause ≤ 5 ∧ s.ctl.laneSt lane = 2 ∧ (cause = 3 → (s.ctl.laneSees lane seen).laneSync lane = false)) ∧
    (∃ (lane : Nat) (s : State), lane < 18 ∧ lane < s.ctl.ln.lanes.length ∧ s.ctl.portUp (lane / 9) = true ∧ s.ctl.laneSt lane = 3 ∧ s.ctl.laneOut lane = true) ∧
    (∃ (dt : Nat) (lane : Nat) (t0 : Nat) (s : State), lane < 18 ∧ lane < s.ctl.ln.lanes.length ∧ (s.ctl.lane lane).retryAt = some t0 ∧ t0 ≤ s.ctl.up + dt ∧ s.ctl.laneSt lane = 4) ∧
    (∃ (lane : Nat) (s : State), lane < 18 ∧ s.ctl.ea 0x2011 lane = 0 ∧ s.ctl.laneSt lane = 2 ∧ s.ctl.laneCal lane = false ∧ (s.ctl.lane lane).phase ≠ .adapt) ∧
    (∃ (lane : Nat) (s : State), lane < 18 ∧ s.ctl.ea 0x2011 lane = 1) ∧
    (∃ (lane : Nat) (s : State), lane < 56 ∧ s.ctl.ln.lanes.length = 56 ∧ s.ctl.mayTest lane = true ∧ loopOk lane (s.ctl.ea 0x201E lane % 4) = true ∧ (bits (s.ctl.ea 0x201E lane) 10 8 = 0 ∨ hasGen lane = true) ∧ (bit (s.ctl.ea 0x201E lane) 16 = false ∨ s.ctl.ea 0x201E lane % 4 ≠ 2)) ∧
    (∃ (lane : Nat) (s : State), lane < 256 ∧ s.ctl.laneSt lane ≠ 5) ∧
    (∃ (lane : Nat) (s : State), lane < 18 ∧ lane < s.ctl.ln.lanes.length ∧ s.ctl.laneSt lane = 5 ∧ s.ctl.portUp (lane / 9) = true) ∧
    (∃ (dt : Nat) (lane : Nat) (t0 : Nat) (n0 : Nat) (n : Nat) (s : State), s.ctl.laneSt lane = 5 ∧ bits (s.ctl.ea 0x201E lane) 10 8 ≠ 0 ∧ (s.ctl.lane lane).chk = some (t0, n0) ∧ lane < 56 ∧ n = (s.ctl.up + dt - t0) * s.ctl.ea 0x2012 lane / 65536000000 ∧ 64 ≤ n) ∧
    (∃ (dt : Nat) (lane : Nat) (t0 : Nat) (n0 : Nat) (s : State), s.ctl.laneSt lane = 5 ∧ bits (s.ctl.ea 0x201E lane) 10 8 ≠ 0 ∧ (s.ctl.lane lane).chk = some (t0, n0) ∧ (s.ctl.lane lane).locked = false ∧ lane < s.ctl.ln.lanes.length ∧ (s.ctl.up + dt - t0) * s.ctl.ea 0x2012 lane / 65536000000 < 64) ∧
    (∃ (r : Nat) (seen : List Nat) (s : State), r < 4 ∧ s.ctl.laneSt (50 + r) = 2 ∧ (s.ctl.laneSees (50 + r) seen).laneSync (50 + r) = false) ∧
    (∃ (r : Nat) (seen : List Nat) (s : State), r < 4 ∧ s.ctl.laneSt (50 + r) = 6 ∧ (s.ctl.laneSees (50 + r) seen).laneSync (50 + r) = true) ∧
    (∃ (f : Nat) (s : State), f < 2 ∧ s.ctl.laneSt (54 + f) = 3) :=
  ⟨⟨tMs 100, 1, 8, wit fun c => c.setPort 1 (fun q => { q with stage := 1 }), by decide +kernel⟩,
    ⟨0, 0, wit fun c => c.setPort 0 (fun q => { q with stage := 6 }), by decide⟩,
    ⟨17, 5, [], wit fun c => (c.setLaneSt 17 2).setEa 0x2011 17 0, by decide⟩,
    ⟨55, 1, [], wit fun c => c.setLaneSt 55 2, by decide⟩,
    ⟨17, wit fun c => ((c.setLaneSt 17 3).setRgPort 1 (fun q => { q with up := true })).setEa 0x2111 1 256, by decide +kernel⟩,
    ⟨5, 17, 5, wit fun c => (c.setLaneSt 17 4).setLane 17 (fun x => { x with retryAt := some 5 }), by decide⟩,
    ⟨17, wit fun c => (c.setLaneSt 17 2).setEa 0x2011 17 0, by decide⟩,
    ⟨17, wit fun c => c.setEa 0x2011 17 1, by decide⟩,
    ⟨55, wit fun c => c.setEa 0x201E 55 0x102, by decide⟩,
    ⟨55, wit id, by decide⟩,
    ⟨17, wit fun c => (c.setLaneSt 17 5).setRgPort 1 (fun q => { q with up := true }), by decide⟩,
    ⟨tMs 1, 55, 0, 7, 10312500, wit fun c => (((c.setLaneSt 55 5).setEa 0x2012 55 10312500).setEa 0x201E 55 0x100).setLane 55 (fun x => { x with chk := some (0, 7) }), by decide +kernel⟩,
    ⟨0, 55, 0, 7, wit fun c => (((c.setLaneSt 55 5).setEa 0x2012 55 10312500).setEa 0x201E 55 0x100).setLane 55 (fun x => { x with chk := some (0, 7) }), by decide +kernel⟩,
    ⟨3, [0, 0, 0, 0, 0, 0, 0, 0], wit fun c => c.setLaneSt 53 2, by decide⟩,
    ⟨3, [], wit fun c => c.setLaneSt 53 6, by decide⟩,
    ⟨1, wit fun c => c.setLaneSt 55 3, by decide⟩⟩

/-- The hypotheses of RingSlicesAndStripes can be met. -/
theorem met_RingSlicesAndStripes :
    (∃ (port : Nat) (back : Nat) (x : RingSlice) (s : State), port < 2 ∧ s.ctl.portUp port = true ∧ (s.ctl.rgPort port).seek = false ∧ s.ctl.tileIndex < 128 ∧ bit x.mask s.ctl.tileIndex = true ∧ x.kind ≤ 2 ∧ x.reason (s.ctl.sliceBad port back x) ≠ 0) ∧
    (∃ (port : Nat) (back : Nat) (x : RingSlice) (s : State), port < 2 ∧ s.ctl.portUp port = true ∧ (s.ctl.rgPort port).seek = false ∧ s.ctl.tileIndex < 128 ∧ bit x.mask s.ctl.tileIndex = true ∧ x.kind = 1 ∧ x.reason (s.ctl.sliceBad port back x) = 0) ∧
    (∃ (dt : Nat) (port : Nat) (out : Nat) (fifo : Nat) (x : RingSlice) (s : State), port < 2 ∧ out = 1 - port ∧ s.ctl.portUp port = true ∧ (s.ctl.rgPort port).seek = false ∧ s.ctl.portUp out = true ∧ x.kind = 2 ∧ x.badLength = false ∧ x.mask &&& s.ctl.downMask (decide (out = 0)) ≠ 0 ∧ fifo = (((s.ctl.advance dt).drainPort out).rgPort out).fifo ∧ (fifo + x.length + 40 ≤ 65536 ∨ fifo = 0 ∧ s.ctl.fastEnough out port = true) ∧ (s.ctl.tileIndex < 128 → bit x.mask s.ctl.tileIndex = false)) ∧
    (∃ (port : Nat) (s : State), (s.ctl.portUp port = false ∨ (s.ctl.rgPort port).seek = true)) ∧
    (∃ (lane : Nat) (s : State), s.ctl.fm.ordersOut.contains lane = true ∧ s.ctl.portUp (lane / 9) = true) ∧
    (∃ (dt : Nat) (port : Nat) (left : Nat) (n : Nat) (base : Nat) (ch : MapChange) (s : State), port < 2 ∧ (s.ctl.rgPort port).change = some ch ∧ s.ctl.portUp port = true ∧ ch.failed < 512 ∧ ch.failed ≠ s.ctl.failedSet port true ∧ base = s.ctl.chooseBase port ch.failed ∧ base < 16 ∧ n = (s.ctl.stripeLanes port true ch.failed base).length ∧ (s.ctl.port port).minLanes ≤ n ∧ n < 16 ∧ (s.ctl.port port).minLanes ≤ s.ctl.stripes port false ∧ (left = 0 ∨ ch.askedAt + tUs 180 ≤ s.ctl.up + dt)) ∧
    (∃ (dt : Nat) (port : Nat) (left : Nat) (ch : MapChange) (s : State), (s.ctl.rgPort port).change = some ch ∧ left ≠ 0 ∧ s.ctl.up + dt < ch.askedAt + tUs 180) ∧
    (∃ (dt : Nat) (lane : Nat) (errors : Nat) (t0 : Nat) (s : State), lane < 18 ∧ (s.ctl.lane lane).cleanFrom = some t0 ∧ s.ctl.portUp (lane / 9) = true ∧ s.ctl.laneSt lane = 2 ∧ bit (s.ctl.failedSet (lane / 9) false) (lane % 9) = true ∧ t0 + tS 1 ≤ s.ctl.up + dt ∧ s.ctl.fm.withheld.contains lane = false ∧ errors ≤ (if (s.ctl.rgPort (lane / 9)).code < 4 then 0 else 4000000)) :=
  ⟨⟨1, 0, ⟨2 ^ 60, 2 ^ 63, 0, 0, [], 0⟩, tile127 fun c => c.setRgPort 1 (fun q => { q with up := true }), by decide +kernel⟩,
    ⟨1, 0, ⟨2 ^ 60 + 2, 2 ^ 63, 0, 0, [0, 0], sliceCrc (2 ^ 60 + 2) (2 ^ 63) [0, 0]⟩, tile127 fun c => c.setRgPort 1 (fun q => { q with up := true }), by decide +kernel⟩,
    ⟨0, 1, 0, 0, ⟨2 * 2 ^ 60 + 65496, 0, 1, 0, [0, 0], 0⟩, tile127 fun c => (c.setRgPort 1 (fun q => { q with up := true })).setRgPort 0 (fun q => { q with up := true }), by decide +kernel⟩,
    ⟨1, wit fun c => c.setRgPort 1 (fun q => { q with up := true, seek := true }), by decide⟩,
    ⟨17, wit fun c => (c.setRgPort 1 (fun q => { q with up := true })).setFm (fun f => { f with ordersOut := [17] }), by decide⟩,
    ⟨tUs 180, 1, 3, 7, 15, ⟨1, 0⟩, wit fun c => ((c.setRgPort 1 (fun q => { q with up := true, change := some ⟨1, 0⟩ })).setEa 0x2111 1 0x8F000).setEa 0x2110 1 0x8F000, by decide +kernel⟩,
    ⟨0, 1, 3, ⟨1, 0⟩, wit fun c => c.setRgPort 1 (fun q => { q with up := true, change := some ⟨1, 0⟩ }), by decide⟩,
    ⟨tS 1, 17, 0, 0, wit fun c => (((c.setRgPort 1 (fun q => { q with up := true })).setLane 17 (fun x => { x with cleanFrom := some 0 })).setEa 0x2010 17 2).setEa 0x2110 1 256, by decide +kernel⟩⟩

/-- The hypotheses of RingFramesAndEnumeration can be met. -/
theorem met_RingFramesAndEnumeration :
    (∃ (s : State), s.ctl.cpaUp = true ∧ s.ctl.e 0x210002 = 1 ∧ s.ctl.rg.enumerating = false ∧ s.ctl.portUp 0 = false) ∧
    (∃ (s : State), s.ctl.e 0x210002 ≠ 1) ∧
    (∃ (port : Nat) (dst : Nat) (s : State), s.ctl.cpaUp = true ∧ s.ctl.portUp port = true ∧ s.ctl.sideMine dst = true) ∧
    (∃ (port : Nat) (dst : Nat) (s : State), s.ctl.cpaUp = true ∧ s.ctl.portUp port = true ∧ s.ctl.sideMine dst = true ∧ s.ctl.rg.enumAgain = false) ∧
    (∃ (port : Nat) (dst : Nat) (s : State), s.ctl.cpaUp = true ∧ s.ctl.portUp port = true ∧ s.ctl.sideMine dst = true ∧ s.ctl.e 0x210002 = 1 ∧ s.ctl.rg.enumerating = true) ∧
    (∃ (port : Nat) (dst : Nat) (s : State), s.ctl.cpaUp = true ∧ s.ctl.portUp port = true ∧ s.ctl.sideMine dst = true ∧ s.ctl.e 0x210002 = 1 ∧ s.ctl.rg.enumerating = false ∧ s.ctl.portUp 0 = false) ∧
    (∃ (port : Nat) (words : List Nat) (s : State), s.ctl.portUp port = true ∧ words.length = frameWords (s.ctl.rgPort port).code ∧ 4 ≤ (s.ctl.rgPort port).code ∧ port < 2) ∧
    (∃ (port : Nat) (head : List Nat) (words : List Nat) (s : State), s.ctl.portUp port = true ∧ words.length = frameWords (s.ctl.rgPort port).code ∧ (s.ctl.rgPort port).lock = false ∧ (s.ctl.rgPort port).pendRx = none ∧ port < s.ctl.rg.ports.length ∧ head = (if (s.ctl.rgPort port).code < 4 then words else (fecOpen words).1).take 8 ∧ head.all (fun w => bits w 63 56 ≠ 0xD5) = true) ∧
    (∃ (port : Nat) (words : List Nat) (s : State), (s.ctl.portUp port = false ∨ words.length ≠ frameWords (s.ctl.rgPort port).code)) :=
  ⟨⟨wit fun c => c.setE 0x210002 1, by decide⟩,
    ⟨wit fun c => c.setE 0x210002 2, by decide⟩,
    ⟨1, 254, wit fun c => c.setRgPort 1 (fun q => { q with up := true }), by decide +kernel⟩,
    ⟨0, 253, wit fun c => c.setRgPort 0 (fun q => { q with up := true }), by decide +kernel⟩,
    ⟨0, 0, wit fun c => (((c.setRgPort 0 (fun q => { q with up := true })).setE 0x210002 1).setE 0x210003 0).setRg (fun r => { r with enumerating := true }), by decide +kernel⟩,
    ⟨1, 0, wit fun c => ((c.setRgPort 1 (fun q => { q with up := true })).setE 0x210002 1).setE 0x210003 0, by decide +kernel⟩,
    ⟨1, List.replicate 680 0, wit fun c => c.setRgPort 1 (fun q => { q with up := true, code := 4 }), by decide +kernel⟩,
    ⟨1, List.replicate 8 0, List.replicate 648 0, wit fun c => c.setRgPort 1 (fun q => { q with up := true, code := 3, fseq := 65535 }), by decide +kernel⟩,
    ⟨1, [], wit id, by decide⟩⟩

/-- The hypotheses of MapsAndSideChannelMessages can be met. -/
theorem met_MapsAndSideChannelMessages :
    (∃ (port : Nat) (s : State), s.ctl.cpaUp = true ∧ s.ctl.portUp port = true ∧ port < s.ctl.rg.ports.length) ∧
    (∃ (port : Nat) (s : State), s.ctl.cpaUp = true ∧ s.ctl.portUp port = true) ∧
    (∃ (port : Nat) (failed : Nat) (n : Nat) (s : State), s.ctl.cpaUp = true ∧ s.ctl.portUp port = true ∧ n < 9 ∧ bit (s.ctl.failedSet port true) n = true ∧ bit failed n = false) ∧
    (∃ (port : Nat) (s : State), s.ctl.cpaUp = true ∧ s.ctl.portUp port = true) ∧
    (∃ (port : Nat) (s : State), s.ctl.cpaUp = true ∧ s.ctl.portUp port = true) ∧
    (∃ (p : Nat) (s : State), s.ctl.cpaUp = true ∧ p < 2 ∧ s.ctl.sideRoom p 20) ∧
    (∃ (s : State), s.ctl.portUp 0 = false ∧ s.ctl.portUp 1 = false) ∧
    (∃ (port : Nat) (bytes : List Byte) (s : State), s.ctl.cpaUp = true ∧ port < 2 ∧ s.ctl.portUp port = true ∧ s.ctl.portUp (1 - port) = true ∧ 6 ≤ bytes.length ∧ bytes.length = 6 + u8At bytes 1 ∧ ofLE (bytes.drop (bytes.length - 2)) = crc16 (bytes.take (bytes.length - 2)) ∧ s.ctl.sideOn (u8At bytes 2) = true ∧ s.ctl.sideRoom (1 - port) bytes.length) :=
  ⟨⟨1, wit fun c => c.setRgPort 1 (fun q => { q with up := true }), by decide⟩,
    ⟨1, wit fun c => c.setRgPort 1 (fun q => { q with up := true }), by decide⟩,
    ⟨1, 3, 8, wit fun c => (c.setRgPort 1 (fun q => { q with up := true })).setEa 0x2111 1 0x103, by decide⟩,
    ⟨1, wit fun c => c.setRgPort 1 (fun q => { q with up := true, reqs := [⟨9, 1, true, 0⟩] }), by decide⟩,
    ⟨1, wit fun c => c.setRgPort 1 (fun q => { q with up := true, reqs := [⟨9, 1, true, 0⟩, ⟨10, 1, true, 5⟩] }), by decide⟩,
    ⟨1, wit fun c => c.setRgPort 1 (fun q => { q with up := true, side := [⟨2, 3, 4, 16, List.replicate 16364 0⟩] }), by decide +kernel⟩,
    ⟨wit id, by decide⟩,
    ⟨0, sideMsg 9 7 3 [5, 6], wit fun c => (c.setRgPort 1 (fun q => { q with up := true })).setRgPort 0 (fun q => { q with up := true }), by decide +kernel⟩⟩

/-- The hypotheses of PanelFlipsACompleteLoad can be met. -/
theorem met_PanelFlipsACompleteLoad :
    (∃ (dt : Nat) (f : Nat) (s : State), f = s.ctl.tb.nextIndex ∧ s.ctl.tb.issuing = true ∧ s.ctl.pd.decided ≠ some f ∧ tickD (s.ctl.tn f) ((s.ctl.advance dt).now) ≤ tNs (s.ctl.e 0x440002) ∧ s.ctl.pd.began = some f ∧ s.ctl.loadMissing = [] ∧ s.ctl.fm.safe = 0 ∧ s.ctl.fm.frameHold = none ∧ s.ctl.hasImage = true ∧ s.ctl.xz.heldFlip ≠ some f ∧ s.ctl.pd.linked = true ∧ s.ctl.pdService ≠ []) ∧
    (∃ (dt : Nat) (f : Nat) (s : State), f = s.ctl.tb.nextIndex ∧ s.ctl.tb.issuing = true ∧ s.ctl.pd.decided ≠ some f ∧ tickD (s.ctl.tn f) ((s.ctl.advance dt).now) ≤ tNs (s.ctl.e 0x440002) ∧ s.ctl.pd.began = some f ∧ s.ctl.loadMissing ≠ [] ∧ s.ctl.fm.safe = 0 ∧ s.ctl.fm.frameHold = none ∧ s.ctl.hasImage = true ∧ s.ctl.xz.heldFlip ≠ some f ∧ s.ctl.pd.linked = true ∧ s.ctl.pdService ≠ []) ∧
    (∃ (dt : Nat) (f : Nat) (code : Nat) (s : State), f = s.ctl.tb.nextIndex ∧ s.ctl.tb.issuing = true ∧ s.ctl.pd.decided ≠ some f ∧ tickD (s.ctl.tn f) ((s.ctl.advance dt).now) ≤ tNs (s.ctl.e 0x440002) ∧ s.ctl.fm.frameHold = some code) ∧
    (∃ (dt : Nat) (f : Nat) (s : State), f = s.ctl.tb.nextIndex ∧ s.ctl.tb.issuing = true ∧ s.ctl.pd.decided ≠ some f ∧ tickD (s.ctl.tn f) ((s.ctl.advance dt).now) ≤ tNs (s.ctl.e 0x440002) ∧ s.ctl.fm.frameHold = none ∧ s.ctl.fm.safe = 2 ∧ s.ctl.pd.blanked = false ∧ s.ctl.pd.linked = true) ∧
    (∃ (lane : Nat) (s : State), lane < s.ctl.pd.lanes.length ∧ s.ctl.pd.loading ≠ none ∧ (s.ctl.pdLane lane).inLoad = true ∧ (s.ctl.pdLane lane).bad = false ∧ (s.ctl.pdLane lane).pkt = [] ∧ s.ctl.pdAtEnd lane = true) ∧
    (∃ (lane : Nat) (s : State), lane < s.ctl.pd.lanes.length ∧ (s.ctl.pdLane lane).inLoad = true ∧ s.ctl.pdSt lane = 2) ∧
    (∃ (lane : Nat) (s : State), lane < s.ctl.pd.lanes.length ∧ (s.ctl.pdLane lane).inLoad = true ∧ s.ctl.pdSt lane = 2) ∧
    (∃ (dt : Nat) (lane : Nat) (t0 : Nat) (s : State), lane < s.ctl.pd.lanes.length ∧ (s.ctl.pdLane lane).probFrom = some t0 ∧ s.ctl.pdSt lane = 4 ∧ t0 + tS 1 ≤ s.ctl.up + dt) ∧
    (∃ (dt : Nat) (lane : Nat) (t0 : Nat) (s : State), lane < s.ctl.pd.lanes.length ∧ lane / 8 < s.ctl.pd.rets.length ∧ (s.ctl.pdLane lane).lockAt = some t0 ∧ t0 + tMs 2 ≤ s.ctl.up + dt ∧ s.ctl.laneSt (18 + lane) ≠ 5 ∧ s.ctl.ea 0x4411 lane ≠ 0 ∧ (s.ctl.pdRet (lane / 8)).queue = []) ∧
    (∃ (s : State), s.ctl.pd.linking = true ∧ (∀ r ∈ s.ctl.pd.rets, r.queue = []) ∧ (∀ k:Nat, k < 32 → s.ctl.pdSt k ≠ 1)) :=
  ⟨⟨0, 0, panel fun c => (c.setPd (fun p => { p with loading := some 0, began := some 0 })).updPd 0 (fun x => { x with complete := true }), by decide +kernel⟩,
    ⟨0, 0, panel fun c => c.setPd (fun p => { p with began := some 0 }), by decide +kernel⟩,
    ⟨0, 0, 0x30C3, panel fun c => c.setFm (fun f => { f with frameHold := some 0x30C3 }), by decide +kernel⟩,
    ⟨0, 0, panel fun c => c.setFm (fun f => { f with causes := [⟨.compound, 0x05C1, 2, 0, 0⟩] }), by decide +kernel⟩,
    ⟨31, panel fun c => (c.setPd (fun p => { p with loading := some 0 })).updPd 31 (fun x => { x with inLoad := true }), by decide⟩,
    ⟨31, panel fun c => (c.updPd 31 (fun x => { x with inLoad := true })).setEa 0x4412 31 2, by decide⟩,
    ⟨31, panel fun c => (c.updPd 31 (fun x => { x with inLoad := true, full := true })).setEa 0x4412 31 2, by decide⟩,
    ⟨tS 1, 31, 0, wit fun c => (c.updPd 31 (fun x => { x with probFrom := some 0 })).setEa 0x4412 31 4, by decide⟩,
    ⟨tMs 2, 31, 0, wit fun c => (c.updPd 31 (fun x => { x with lockAt := some 0 })).setEa 0x4411 31 7, by decide⟩,
    ⟨wit fun c => c.setPd (fun p => { p with linking := true }), by decide⟩⟩

/-- The hypotheses of ReturnLanesAskAndAnswer can be met. -/
theorem met_ReturnLanesAskAndAnswer :
    (∃ (dt : Nat) (r : Nat) (q : PdReq) (s : State), r < s.ctl.pd.rets.length ∧ (s.ctl.pdRet r).queue = [] ∧ (s.ctl.pdRet r).out = none ∧ (s.ctl.advance dt).pdQuiet = false ∧ (s.ctl.pdRet r).pollAt + tUs (s.ctl.e 0x440004) ≤ s.ctl.up + dt ∧ s.ctl.pd.access = some q ∧ q.lane / 8 = r) ∧
    (∃ (dt : Nat) (r : Nat) (i : Nat) (ic : Nat) (s : State), r < s.ctl.pd.rets.length ∧ (s.ctl.pdRet r).queue = [] ∧ (s.ctl.pdRet r).out = none ∧ (s.ctl.advance dt).pdQuiet = false ∧ (s.ctl.pdRet r).pollAt + tUs (s.ctl.e 0x440004) ≤ s.ctl.up + dt ∧ s.ctl.pd.access = none ∧ s.ctl.pdTurn r = some (i, ic)) ∧
    (∃ (dt : Nat) (r : Nat) (bytes : List Byte) (q : PdReq) (s : State), r < s.ctl.pd.rets.length ∧ (s.ctl.pdRet r).out = some q ∧ (s.ctl.pdRet r).queue = [] ∧ q.kind = .access ∧ q.reg ≠ 1 ∧ s.ctl.laneSt (50 + r) = 2 ∧ bytes.length = 16 ∧ u8At bytes 2 = (s.ctl.pdRet r).seq ∧ leAt bytes 14 2 = crc16 (bytes.take 14) ∧ bit (u8At bytes 3) 0 = false ∧ s.ctl.up + dt ≤ (s.ctl.pdRet r).sentAt + tNs (s.ctl.e 0x440005)) ∧
    (∃ (dt : Nat) (r : Nat) (q : PdReq) (s : State), r < s.ctl.pd.rets.length ∧ (s.ctl.pdRet r).out = some q ∧ (s.ctl.pdRet r).queue = [] ∧ q.kind = .poll ∧ (s.ctl.pdRet r).sentAt + tNs (s.ctl.e 0x440005) ≤ s.ctl.up + dt) ∧
    (∃ (s : State), s.ctl.e 0x442006 ≠ 1) ∧
    (∃ (s : State), s.ctl.e 0x442006 ≠ 1) :=
  ⟨⟨tS 1, 3, { kind := .access, lane := 31, ic := 0, reg := 4 }, wit fun c => c.setPd (fun p => { p with access := some { kind := .access, lane := 31, ic := 0, reg := 4 } }), by decide +kernel⟩,
    ⟨tS 1, 3, 7, 0, wit fun c => (c.setEa 0x4412 31 2).updPd 31 (fun x => { x with len := 3 }), by decide +kernel⟩,
    ⟨0, 3, answer16, { kind := .access, lane := 31, ic := 0, reg := 4 }, wit fun c => ((c.setEa 0x2010 53 2)).updRet 3 (fun x => { x with out := some { kind := .access, lane := 31, ic := 0, reg := 4 } }), by decide +kernel⟩,
    ⟨tS 1, 3, { kind := .poll, lane := 31, ic := 0, reg := 1 }, wit fun c => c.updRet 3 (fun x => { x with out := some { kind := .poll, lane := 31, ic := 0, reg := 1 } }), by decide +kernel⟩,
    ⟨wit id, by decide⟩,
    ⟨wit id, by decide⟩⟩

/-- The hypotheses of PicturesAreCodedAndSent can be met. -/
theorem met_PicturesAreCodedAndSent :
    (∃ (p : EnPic) (s : State), s.ctl.e 0x310008 ≠ 1 ∧ s.ctl.en.cur = none ∧ enBest s.ctl.en.ready = some p ∧ p.started = false ∧ (p.cfg.archival = true ∨ s.ctl.en.outq.any (fun o => o.stream = p.stream && !o.cfg.archival) = false)) ∧
    (∃ (p : EnPic) (s : State), s.ctl.e 0x310008 ≠ 1 ∧ s.ctl.en.cur = some p ∧ p.stream < s.ctl.en.streams.length) ∧
    (∃ (stream : Nat) (sent : Nat) (o : EnOut) (rest : List EnOut) (s : State), s.ctl.en.outq = o :: rest ∧ o.stream = stream ∧ o.cfg.dest ≠ 0 ∧ o.off + 1440 < o.bytes.length ∧ (s.ctl.egressSent o.cfg.dest sent).egressRoom (o.cfg.dest - 1) 1456 = true) ∧
    (∃ (stream : Nat) (sent : Nat) (o : EnOut) (rest : List EnOut) (s : State), s.ctl.en.outq = o :: rest ∧ o.stream = stream ∧ stream < 16 ∧ o.cfg.dest ≠ 0 ∧ o.bytes.length ≤ o.off + 1440 ∧ (s.ctl.egressSent o.cfg.dest sent).egressRoom (o.cfg.dest - 1) (16 + (o.bytes.length - o.off)) = true) ∧
    (∃ (stream : Nat) (sent : Nat) (o : EnOut) (rest : List EnOut) (s : State), s.ctl.en.outq = o :: rest ∧ o.stream = stream ∧ stream < s.ctl.en.streams.length ∧ o.cfg.dest ≠ 0 ∧ o.cfg.archival = false ∧ (s.ctl.egressSent o.cfg.dest sent).egressRoom (o.cfg.dest - 1) (16 + ((o.bytes.drop o.off).take 1440).length) = false) ∧
    (∃ (sent : Nat) (r : List Byte) (rest : List (List Byte)) (s : State), s.ctl.en.pop = r :: rest ∧ s.ctl.e 0x310004 ≠ 0 ∧ (s.ctl.egressSent (s.ctl.e 0x310004) sent).egressRoom (s.ctl.e 0x310004 - 1) 144 = true) ∧
    (∃ (r : List Byte) (rest : List (List Byte)) (s : State), s.ctl.en.pop = r :: rest ∧ s.ctl.e 0x310004 = 0) ∧
    (∃ (stream : Nat) (s : State), stream < 16 ∧ s.ctl.en.outq = []) ∧
    (∃ (stream : Nat) (s : State), stream < s.ctl.en.streams.length) ∧
    (∃ (s : State), s.ctl.e 0x310008 ≠ 1) :=
  ⟨⟨picture, wit fun c => c.setEn (fun e => { e with ready := [picture] }), by decide⟩,
    ⟨picture, wit fun c => c.setEn (fun e => { e with cur := some picture }), by decide⟩,
    ⟨15, 0, { stream := 15, order := 2, cfg := setting, flags := 4, bits := 11528, bytes := List.replicate 1441 7 }, [], wit fun c => c.setEn (fun e => { e with outq := [{ stream := 15, order := 2, cfg := setting, flags := 4, bits := 11528, bytes := List.replicate 1441 7 }] }), by decide +kernel⟩,
    ⟨15, 0, { stream := 15, order := 2, cfg := setting, flags := 4, bits := 16, bytes := [1, 2] }, [], wit fun c => c.setEn (fun e => { e with outq := [{ stream := 15, order := 2, cfg := setting, flags := 4, bits := 16, bytes := [1, 2] }] }), by decide⟩,
    ⟨15, 0, { stream := 15, order := 2, cfg := setting, flags := 4, bits := 16, bytes := [1, 2] }, [], wit fun c => c.setEn (fun e => { e with egress := [262144, 262144, 262144], outq := [{ stream := 15, order := 2, cfg := setting, flags := 4, bits := 16, bytes := [1, 2] }] }), by decide +kernel⟩,
    ⟨0, [1, 2], [], wit fun c => (c.setEn (fun e => { e with pop := [[1, 2]] })).setE 0x310004 1, by decide⟩,
    ⟨[1, 2], [], wit fun c => (c.setEn (fun e => { e with pop := [[1, 2]] })).setE 0x310004 0, by decide⟩,
    ⟨15, wit id, by decide⟩,
    ⟨15, wit id, by decide⟩,
    ⟨wit id, by decide⟩⟩

/-- The hypotheses of EaselMakesAFrame can be met. -/
theorem met_EaselMakesAFrame :
    (∃ (dt : Nat) (f : EsFrame) (s : State), s.ctl.es.fr = some f ∧ f.started = false ∧ f.lost = false ∧ s.ctl.es.stallAt = none ∧ f.flipUp + tUs f.rayStart ≤ s.ctl.up + dt) ∧
    (∃ (f : EsFrame) (s : State), s.ctl.es.fr = some f ∧ s.ctl.esRuns f = true ∧ f.group s.ctl.img s.ctl.brushes ≠ [] ∧ f.pending s.ctl.img f.shedNow (f.group s.ctl.img s.ctl.brushes) = [] ∧ f.pos + (f.group s.ctl.img s.ctl.brushes).length < (phaseRays s.ctl.img f.phase).length) ∧
    (∃ (f : EsFrame) (s : State), s.ctl.es.fr = some f ∧ s.ctl.esRuns f = true ∧ f.pending s.ctl.img f.shedNow (f.group s.ctl.img s.ctl.brushes) ≠ []) ∧
    (∃ (f : EsFrame) (i : Nat) (ph : Nat) (e : Nat) (s : State), s.ctl.es.fr = some f ∧ (fetchFills s.ctl.img)[f.issued]? = some (i, ph, e) ∧ f.lost = false ∧ s.ctl.es.reload.any (fun r => r.1 = 3) = false ∧ (ph < 2 ∨ f.left s.ctl.img (ph - 2) = 0)) ∧
    (∃ (f : EsFrame) (i : Nat) (ph : Nat) (e : Nat) (s : State), s.ctl.es.fr = some f ∧ (fetchFills s.ctl.img)[f.issued]? = some (i, ph, e) ∧ f.lost = false ∧ s.ctl.es.reload.any (fun r => r.1 = 3) = false ∧ (ph < 2 ∨ f.left s.ctl.img (ph - 2) = 0)) ∧
    (∃ (entry : Nat) (f : EsFrame) (tag : EsTag) (a : Nat) (s : State), s.ctl.es.fr = some f ∧ f.tags.find? (fun t => t.entry = entry && t.st = .filling) = some tag ∧ a = f.fillAddr (schedEntry (imgSec s.ctl.img 3) entry)) ∧
    (∃ (f : EsFrame) (s : State), s.ctl.es.fr = some f ∧ f.rest s.ctl.img = 0 ∧ f.endNs = none ∧ f.lost = false ∧ f.started = true) ∧
    (∃ (dt : Nat) (view : Bool) (index : Nat) (ue : List DramErr) (slot : Nat) (s : State), s.ctl.xz.active = some slot ∧ s.ctl.es.reload.contains (b2n view, index) = true ∧ (slotReadAt slot (reloadAt s.ctl.img (b2n view) index).1 (reloadAt s.ctl.img (b2n view) index).2 (s.mem.found ue) ((s.ctl.advance dt).setXz (fun x => { x with parityLost := false }))).2.xz.parityLost = false) ∧
    (∃ (dt : Nat) (fetch : Bool) (block : Nat) (ue : List DramErr) (slot : Nat) (s : State), s.ctl.xz.active = some slot ∧ s.ctl.es.reload.contains (2 + b2n fetch, block) = true ∧ (slotReadAt slot (reloadAt s.ctl.img (2 + b2n fetch) block).1 (reloadAt s.ctl.img (2 + b2n fetch) block).2 (s.mem.found ue) ((s.ctl.advance dt).setXz (fun x => { x with parityLost := false }))).2.xz.parityLost = false) ∧
    (∃ (brush : Nat) (s : State), brush < 32 ∧ s.ctl.ea 0x4001 brush ≠ 1) :=
  ⟨⟨0, { frame0 with started := false }, easel { frame0 with started := false } id, by decide⟩,
    ⟨{ frame0 with probed := [0] }, easel { frame0 with probed := [0] } fun c => c.setE 0x400005 1, by decide +kernel⟩,
    ⟨frame0, easel frame0 id, by decide +kernel⟩,
    ⟨frame0, 1, 0, 8192, easel frame0 id, by decide +kernel⟩,
    ⟨frame0, 1, 0, 8192, easel frame0 id, by decide +kernel⟩,
    ⟨1, { frame0 with tags := [⟨1, 0, 0, 0, 0, 0, 0, .filling, 0⟩] }, ⟨1, 0, 0, 0, 0, 0, 0, .filling, 0⟩, EsFrame.fillAddr { frame0 with tags := [⟨1, 0, 0, 0, 0, 0, 0, .filling, 0⟩] } (schedEntry (imgSec tiny 3) 1), easel { frame0 with tags := [⟨1, 0, 0, 0, 0, 0, 0, .filling, 0⟩] } id, ⟨rfl, by decide, rfl⟩⟩,
    ⟨{ frame0 with pos := 2 }, easel { frame0 with pos := 2 } id, by decide +kernel⟩,
    ⟨0, true, 255, [], 0, easel frame0 fun c => c.setEs (fun e => { e with reload := [(1, 255)] }), by decide +kernel⟩,
    ⟨0, true, 3, [], 0, easel frame0 fun c => c.setEs (fun e => { e with reload := [(3, 3)] }), by decide +kernel⟩,
    ⟨31, wit id, by decide⟩⟩

/-- The hypotheses of PaletteWorksAheadOfItsFrame can be met. -/
theorem met_PaletteWorksAheadOfItsFrame :
    (∃ (s : State), s.ctl.tb.issuing = true ∧ s.ctl.dc.cutFor = some s.ctl.tb.nextIndex ∧ s.ctl.pl.planned ≠ some (s.ctl.tb.nextIndex + 1) ∧ s.ctl.cullOn = false) ∧
    (∃ (ue : List DramErr) (f : Nat) (s : State), s.mem.wf = true ∧ f = s.ctl.tb.nextIndex + 1 ∧ s.ctl.tb.issuing = true ∧ s.ctl.dc.cutFor = some s.ctl.tb.nextIndex ∧ s.ctl.pl.planned ≠ some f ∧ s.ctl.cullOn = true ∧ (s.mem.found ue).poisoned (s.ctl.e 0x420004 + (f % 2) * s.ctl.gridBytes) s.ctl.gridBytes = false) ∧
    (∃ (slot : Nat) (ue : List DramErr) (ps : PlPass) (s : State), (s.ctl.plSlot slot).pass = some ps ∧ ps.failed = false ∧ ps.done = false ∧ s.ctl.src slot = 2 ∧ ps.row < (s.ctl.plan slot).h ∧ ps.frame = s.ctl.tb.nextIndex + 1 ∧ s.ctl.tb.issuing = true ∧ (∀ b, (s.mem.found ue).bad b = false)) ∧
    (∃ (slot : Nat) (ps : PlPass) (s : State), (s.ctl.plSlot slot).pass = some ps ∧ ps.failed = false ∧ ps.done = false ∧ ps.row = s.ctl.passRows slot ps.frame ∧ ps.row ≠ 0) ∧
    (∃ (slot : Nat) (ps : PlPass) (s : State), (s.ctl.plSlot slot).pass = some ps ∧ ps.failed = false ∧ ps.done = false) ∧
    (∃ (s : State), s.ctl.pl.syncing = true) :=
  ⟨⟨wit fun c => (c.setTb (fun t => { t with issuing := true })).setDc (fun d => { d with cutFor := some 0 }), by decide⟩,
    ⟨[], 1, easel frame0 fun c => ((c.setTb (fun t => { t with issuing := true })).setDc (fun d => { d with cutFor := some 0 })).setE 0x420005 1000, by decide +kernel⟩,
    ⟨0, [], { frame := 1 }, easel frame0 fun c => ((c.setTb (fun t => { t with issuing := true })).setEa 0x4210 0 2).updPl 0 (fun x => { x with pass := some { frame := 1 } }), ⟨by decide +kernel, rfl, rfl, by decide +kernel, by decide +kernel, by decide +kernel, by decide +kernel, fun _ => rfl⟩⟩,
    ⟨0, { frame := 1, row := 2 }, easel frame0 fun c => (c.setEa 0x4210 0 2).updPl 0 (fun x => { x with pass := some { frame := 1, row := 2 } }), by decide +kernel⟩,
    ⟨15, { frame := 1, row := 2 }, wit fun c => c.updPl 15 (fun x => { x with pass := some { frame := 1, row := 2 } }), by decide⟩,
    ⟨wit fun c => c.setPl (fun p => { p with syncing := true, waiting := [(0x430101, [5])] }), by decide⟩⟩

/-- The hypotheses of UnitsAreDecodedOrConcealed can be met. -/
theorem met_UnitsAreDecodedOrConcealed :
    (∃ (u : List Byte) (w : List Byte) (rest : List (List Byte)) (ty : Nat) (s : State), s.mem.wf = true ∧ s.ctl.dc.arriving = u :: rest ∧ w = (u.reverse.dropWhile (fun b => b = 0)).reverse ∧ unitKind w = .good ty ∧ ty ≠ 4 ∧ s.ctl.tileIndex ≤ 127 ∧ 18 ≤ (unitRaw w).length ∧ bit (unitMask (unitRaw w)) s.ctl.tileIndex = true ∧ s.ctl.dc.units = [] ∧ w.length ≤ s.ctl.e 0x300102 ∧ s.ctl.ctxState (unitStream (unitRaw w)) ≠ 0) ∧
    (∃ (u : List Byte) (rest : List (List Byte)) (s : State), s.ctl.dc.arriving = u :: rest ∧ 127 < s.ctl.tileIndex) ∧
    (∃ (u : List Byte) (w : List Byte) (rest : List (List Byte)) (s : State), s.ctl.dc.arriving = u :: rest ∧ w = (u.reverse.dropWhile (fun b => b = 0)).reverse ∧ unitKind w ≠ .ignored ∧ s.ctl.tileIndex ≤ 127 ∧ 18 ≤ (unitRaw w).length ∧ bit (unitMask (unitRaw w)) s.ctl.tileIndex = true ∧ s.ctl.e 0x300102 < s.ctl.dc.fill + w.length) ∧
    (∃ (dt : Nat) (engine : Nat) (ue : List DramErr) (u : DcUnit) (s : State), engine ≤ 3 ∧ (s.ctl.eng engine).out = false ∧ s.ctl.engUnit engine = none ∧ (s.ctl.advance dt).nextUnit = some u ∧ u.bad (s.mem.found ue) = false ∧ u.ty = 4) ∧
    (∃ (dt : Nat) (engine : Nat) (ue : List DramErr) (u : DcUnit) (s : State), engine ≤ 3 ∧ engine < s.ctl.dc.engs.length ∧ (s.ctl.eng engine).out = false ∧ s.ctl.engUnit engine = none ∧ (s.ctl.advance dt).nextUnit = some u ∧ u.bad (s.mem.found ue) = false ∧ u.ty ≠ 4) ∧
    (∃ (dt : Nat) (engine : Nat) (ue : List DramErr) (u : DcUnit) (s : State), engine ≤ 3 ∧ (s.ctl.eng engine).out = false ∧ s.ctl.engUnit engine = none ∧ (s.ctl.advance dt).nextUnit = some u ∧ u.bad (s.mem.found ue) = true) ∧
    (∃ (dt : Nat) (engine : Nat) (ue : List DramErr) (u : DcUnit) (p : DcPic) (hd : SliceHdr) (s : State), s.ctl.engUnit engine = some u ∧ u.pic.bind (s.ctl.pic u.ctx) = some p ∧ hd = sliceHdr u.head ∧ u.ctx < 1024 ∧ engine < s.ctl.dc.engs.length ∧ (sliceEnd engine (hd.w * hd.h) u p (s.mem.found ue) (s.ctl.advance dt)).2.2.2 = false) ∧
    (∃ (dt : Nat) (s : State), s.ctl.tb.issuing = true ∧ s.ctl.dc.cutFor ≠ some s.ctl.tb.nextIndex ∧ tickD (s.ctl.tn s.ctl.tb.nextIndex) ((s.ctl.advance dt).now) ≤ tUs (s.ctl.e 0x300103)) ∧
    (∃ (n : Nat) (id : Nat) (kk : Nat) (b : Nat) (p : DcPic) (rest : List (Nat×Nat×Nat×Nat)) (s : State), s.ctl.tb.issuing = true ∧ s.ctl.dc.cutFor = some s.ctl.tb.nextIndex ∧ s.ctl.dc.engs.all DcEng.out = false ∧ s.ctl.owedList (s.ctl.tb.nextIndex + 1) = (n, id, kk, b) :: rest ∧ s.ctl.pic n id = some p ∧ kk < p.cov.length) ∧
    (∃ (ctx : Nat) (s : State), s.ctl.ctxState (ctx % 1024) ≠ 0) ∧
    (∃ (engine : Nat) (s : State), engine ≤ 3 ∧ engine < s.ctl.dc.engs.length ∧ (s.ctl.eng engine).out = false ∧ s.ctl.engUnit engine = none) ∧
    (∃ (ctx : Nat) (n : Nat), n = ctx % 1024) :=
  ⟨⟨unit1, unit1, [], 1, tile127 fun c => (((c.setDc (fun d => { d with arriving := [unit1], wr := 50 })).setE 0x300102 64).setE (ctxKey 0 2) 1), by decide +kernel⟩,
    ⟨unit1, [], wit fun c => c.setDc (fun d => { d with arriving := [unit1] }), by decide +kernel⟩,
    ⟨unit1, unit1, [], tile127 fun c => ((c.setDc (fun d => { d with arriving := [unit1] })).setE 0x300102 20), by decide +kernel⟩,
    ⟨0, 3, [], { unit7 none with ext := [(64, 8)] }, decoder [{ unit7 none with ext := [(64, 8)] }] id, by decide +kernel⟩,
    ⟨0, 3, [], { unit7 none with ty := 5, pic := none }, decoder [{ unit7 none with ty := 5, pic := none }] id, by decide +kernel⟩,
    ⟨0, 3, [.fail 1 true], { unit7 none with ext := [(64, 8)] }, decoder [{ unit7 none with ext := [(64, 8)] }] id, by decide +kernel⟩,
    ⟨0, 3, [], { unit7 (some 3) with ext := [(0, 39)] }, pic7, sliceHdr [], { decoder [{ unit7 (some 3) with ext := [(0, 39)] }] id with mem := Mem.write {} 0 ([0, 0, 1, 4] ++ List.replicate 31 0 ++ [255, 255, 255, 128]) }, by decide +kernel⟩,
    ⟨0, decoder [unit7 none] id, by decide +kernel⟩,
    ⟨3, 7, 0, 0, pic7, [], decoder [] fun c => c.setDc (fun d => { d with cutFor := some 0 }), by decide +kernel⟩,
    ⟨1027, decoder [unit7 none] id, by decide +kernel⟩,
    ⟨3, wit id, by decide +kernel⟩,
    ⟨1027, 3, by decide⟩⟩

/-- The hypotheses of StencilDrawsItsCommands can be met. -/
theorem met_StencilDrawsItsCommands :
    (∃ (s : State), s.ctl.stList = false ∧ s.ctl.st.cmd = none ∧ s.ctl.stCheck s.ctl.stRegs = 0) ∧
    (∃ (code : Nat) (s : State), s.ctl.stList = false ∧ s.ctl.st.cmd = none ∧ code = s.ctl.stCheck s.ctl.stRegs ∧ code ≠ 0) ∧
    (∃ (s : State), s.ctl.stList = true) ∧
    (∃ (s : State), s.ctl.stList = false ∧ s.ctl.st.cmd ≠ none) ∧
    (∃ (mode : Nat) (s : State), s.ctl.st.cmd = none ∧ (s.ctl.stList = true → s.ctl.st.head = s.ctl.stTail) ∧ s.ctl.e 0x450001 ≠ mode % 2) ∧
    (∃ (mode : Nat) (s : State), s.ctl.st.cmd ≠ none ∧ s.ctl.e 0x450001 ≠ mode % 2) ∧
    (∃ (value : Nat) (ue : List DramErr) (a : Nat) (s : State), s.ctl.stList = true ∧ s.ctl.st.cmd = none ∧ s.ctl.st.halted = false ∧ s.ctl.st.head ≠ value % 4096 ∧ a = s.ctl.reg64 .stListBaseLo .stListBaseHi + 64 * s.ctl.st.head ∧ s.ctl.dramOk a 64 = true ∧ (s.mem.found ue).poisoned a 64 = false ∧ s.ctl.stCheck (descriptor ((s.mem.found ue).read a 64)) = 0) ∧
    (∃ (s : State), s.ctl.stList = false) ∧
    (∃ (s : State), s.ctl.st.halted = true ∧ s.ctl.st.cmd = none ∧ (s.ctl.st.head + 1) % s.ctl.stEntries = s.ctl.stTail) ∧
    (∃ (ue : List DramErr) (a : Nat) (s : State), s.ctl.stList = true ∧ s.ctl.st.halted = true ∧ s.ctl.st.cmd = none ∧ s.ctl.st.head ≠ s.ctl.stTail ∧ a = s.ctl.reg64 .stListBaseLo .stListBaseHi + 64 * s.ctl.st.head ∧ s.ctl.dramOk a 64 = true ∧ (s.mem.found ue).poisoned a 64 = false ∧ s.ctl.stCheck (descriptor ((s.mem.found ue).read a 64)) = 0) ∧
    (∃ (dt : Nat) (ue : List DramErr) (q : StCmd) (s : State), s.ctl.st.cmd = some q ∧ s.ctl.st.waitFrom = none ∧ (q.run q.h (s.mem.found ue) (s.ctl.advance dt)).2.2 = false ∧ q.list = false) ∧
    (∃ (dt : Nat) (ue : List DramErr) (q : StCmd) (s : State), s.ctl.st.cmd = some q ∧ s.ctl.st.waitFrom = none ∧ (q.run q.h (s.mem.found ue) (s.ctl.advance dt)).2.2 = false ∧ q.list = true) ∧
    (∃ (dt : Nat) (ue : List DramErr) (q : StCmd) (s : State), s.ctl.st.cmd = some q ∧ s.ctl.st.waitFrom = none ∧ (q.run q.h (s.mem.found ue) (s.ctl.advance dt)).2.2 = true) ∧
    (∃ (q : StCmd) (a : Nat), fmtOk q.dst.fmt = true ∧ q.dst.pitchOk = true ∧ a < q.dst.base ∨ q.dst.base + q.dst.bytes ≤ a) ∧
    (∃ (q : StCmd) (t0 : Nat) (s : State), s.ctl.st.cmd = some q ∧ s.ctl.st.waitFrom = some t0 ∧ s.ctl.stReached q.waitRow = true) ∧
    (∃ (dt : Nat) (q : StCmd) (t0 : Nat) (s : State), s.ctl.st.cmd = some q ∧ s.ctl.st.waitFrom = some t0 ∧ t0 + 2 * s.ctl.period ≤ s.ctl.up + dt) ∧
    (∃ (q : StCmd) (t0 : Nat) (s : State), s.ctl.st.cmd = some q ∧ s.ctl.st.waitFrom = some t0) :=
  ⟨⟨stencil none none fillRegs, by decide +kernel⟩,
    ⟨2, stencil none none fun c => (fillRegs c).setReg .stFmt 0 8 0x14, by decide +kernel⟩,
    ⟨lister id, by decide⟩,
    ⟨stencil (some (fill1 false)) none id, by decide⟩,
    ⟨1, wit id, by decide⟩,
    ⟨1, stencil (some (fill1 false)) none id, by decide⟩,
    ⟨4097, [], 0, lister id, by decide +kernel⟩,
    ⟨wit id, by decide⟩,
    ⟨lister fun c => (c.setSt (fun s => { s with halted := true })).setReg .stListTail 0 0 1, by decide +kernel⟩,
    ⟨[], 0, lister fun c => (c.setSt (fun s => { s with halted := true })).setReg .stListTail 0 0 1, by decide +kernel⟩,
    ⟨0, [], fill1 false, stencil (some (fill1 false)) none id, by decide +kernel⟩,
    ⟨0, [], fill1 true, stencil (some (fill1 true)) none id, by decide +kernel⟩,
    ⟨0, [.flip 2 1, .flip 2 2], { fill1 false with op := 3, h := 2, dy := 0, flags := 1 }, stencil (some { fill1 false with op := 3, h := 2, dy := 0, flags := 1 }) none id, by decide +kernel⟩,
    ⟨fill1 false, 127, by decide +kernel⟩,
    ⟨{ fill1 false with waitRow := 0 }, 0, stencil (some { fill1 false with waitRow := 0 }) (some 0) fun c => (c.setE 0x440007 0).setPd (fun p => { p with began := some 1 }), by decide +kernel⟩,
    ⟨tS 1, fill1 false, 0, stencil (some (fill1 false)) (some 0) id, by decide +kernel⟩,
    ⟨fill1 false, 0, stencil (some (fill1 false)) (some 0) id, by decide⟩⟩

/-- The hypotheses of CompressionJobsRun can be met. -/
theorem met_CompressionJobsRun :
    (∃ (g : Nat×Nat) (gs : List (Nat×Nat)) (l : XzLoad) (img : List Byte) (s : State), s.ctl.cpaUp = true ∧ s.ctl.cx.inflate = none ∧ s.ctl.e 0x510007 = 0 ∧ (s.ctl.pm.throttle = false ∨ s.ctl.cx.deflate = none) ∧ s.ctl.cx.imgJobs = g :: gs ∧ s.ctl.xz.load = some l ∧ img = (l.image l.raw).1 ∧ img.length ≤ 11534336 ∧ (l.image l.raw).2 < 0x10 ∧ ((l.image l.raw).2 = 3 ∨ l.raw.length < l.size)) ∧
    (∃ (pipe : Nat) (i : Nat) (d : List Byte) (s : State), s.ctl.cpaUp = true ∧ pipe < 2 ∧ s.ctl.cx.inflate = none ∧ s.ctl.cx.deflate = none ∧ s.ctl.e 0x510007 = 0 ∧ s.ctl.cx.imgJobs = [] ∧ s.ctl.reg .hiJqCfg 0 0 ≠ 0 ∧ s.ctl.memReady = true ∧ (s.ctl.jqOpen 0).find? (fun j => !s.ctl.cx.doneSlots.contains j && cxPipeOf (s.mem.read (s.ctl.jqAddr 0 j) 64) = pipe) = some i ∧ d = s.mem.read (s.ctl.jqAddr 0 i) 64 ∧ s.ctl.cxDescError d = 0 ∧ s.mem.poisoned (s.ctl.jqAddr 0 i) 64 = false ∧ cxEmptyJob d = false ∧ bit (u8At d 2) 0 = true) ∧
    (∃ (pipe : Nat) (i : Nat) (d : List Byte) (s : State), s.ctl.cpaUp = true ∧ pipe < 2 ∧ s.ctl.cx.inflate = none ∧ s.ctl.cx.deflate = none ∧ s.ctl.e 0x510007 = 0 ∧ s.ctl.cx.imgJobs = [] ∧ s.ctl.reg .hiJqCfg 0 0 ≠ 0 ∧ s.ctl.memReady = true ∧ (s.ctl.jqOpen 0).find? (fun j => !s.ctl.cx.doneSlots.contains j && cxPipeOf (s.mem.read (s.ctl.jqAddr 0 j) 64) = pipe) = some i ∧ d = s.mem.read (s.ctl.jqAddr 0 i) 64 ∧ s.ctl.cxDescError d ≠ 0) ∧
    (∃ (g : Nat×Nat) (job : CxJob) (l : XzLoad) (s : State), s.ctl.cx.inflate = some job ∧ job.img = some g ∧ s.ctl.xz.load = some l ∧ l.closed = true ∧ l.slot < s.ctl.xz.slots.length) ∧
    (∃ (pipe : Nat) (job : CxJob) (s : State), s.ctl.cxJob pipe = some job ∧ job.img = none ∧ 0x10 ≤ job.early) ∧
    (∃ (ue : List DramErr) (job : CxJob) (d : List Byte) (x : List Byte) (m : Mem) (r : CxOut) (s : State), s.ctl.cx.inflate = some job ∧ job.img = none ∧ job.early = 0 ∧ d = job.desc ∧ cxEmptyJob d = false ∧ u8At d 0 = 1 ∧ m = s.mem.found ue ∧ m.poisoned (leAt d 8 8) (leAt d 16 4) = false ∧ x = m.read (leAt d 32 8 + 64) 36800 ∧ r = cxInflate (u8At d 1) (bit (u8At d 2) 0) (x.take 4032) (x.drop 4032) (m.read (leAt d 8 8) (leAt d 16 4)) (bit (u8At d 2) 1) (leAt d 20 4)) ∧
    (∃ (ue : List DramErr) (job : CxJob) (d : List Byte) (m : Mem) (r : CxOut) (s : State), s.ctl.cx.deflate = some job ∧ job.img = none ∧ job.early = 0 ∧ d = job.desc ∧ cxEmptyJob d = false ∧ u8At d 0 = 2 ∧ bit (u8At d 2) 0 = true ∧ m = s.mem.found ue ∧ m.poisoned (leAt d 8 8) (leAt d 16 4) = false ∧ r = (cxDeflate (u8At d 1) (u8At d 3) (DfPipe.start (u8At d 1)) 0 (m.read (leAt d 8 8) (leAt d 16 4)) (bit (u8At d 2) 1) (leAt d 20 4)).1) :=
  ⟨⟨(1, 1), [], ⟨1, 1, 4, [], false, 0, false, none⟩, [], wit fun c => { c.setXz (fun x => { x with load := some ⟨1, 1, 4, [], false, 0, false, none⟩ }) with cx := { c.cx with imgJobs := [(1, 1)] } }, by decide +kernel⟩,
    ⟨0, 0, inflateDesc, jobQueue inflateDesc id, by decide +kernel⟩,
    ⟨0, 0, 7 :: inflateDesc.drop 1, jobQueue (7 :: inflateDesc.drop 1) id, by decide +kernel⟩,
    ⟨(1, 1), ⟨0, [], 0, some (1, 1)⟩, ⟨1, 1, 4, [], false, 0, true, none⟩, wit fun c => (c.setCxJob 0 (some ⟨0, [], 0, some (1, 1)⟩)).setXz (fun x => { x with load := some ⟨1, 1, 4, [], false, 0, true, none⟩ }), by decide +kernel⟩,
    ⟨1, ⟨0, [], 0x31, none⟩, wit fun c => c.setCxJob 1 (some ⟨0, [], 0x31, none⟩), by decide⟩,
    ⟨[], ⟨0, inflateDesc, 0, none⟩, inflateDesc, ((((jobQueue inflateDesc fun c => { c with cx := { c.cx with inflate := some ⟨0, inflateDesc, 0, none⟩ } }) : State).mem.found ([] : List DramErr)).read (leAt inflateDesc 32 8 + 64) 36800), ((jobQueue inflateDesc fun c => { c with cx := { c.cx with inflate := some ⟨0, inflateDesc, 0, none⟩ } }) : State).mem.found ([] : List DramErr), cxInflate (u8At inflateDesc 1) (bit (u8At inflateDesc 2) 0) (((((jobQueue inflateDesc fun c => { c with cx := { c.cx with inflate := some ⟨0, inflateDesc, 0, none⟩ } }) : State).mem.found ([] : List DramErr)).read (leAt inflateDesc 32 8 + 64) 36800).take 4032) (((((jobQueue inflateDesc fun c => { c with cx := { c.cx with inflate := some ⟨0, inflateDesc, 0, none⟩ } }) : State).mem.found ([] : List DramErr)).read (leAt inflateDesc 32 8 + 64) 36800).drop 4032) ((((jobQueue inflateDesc fun c => { c with cx := { c.cx with inflate := some ⟨0, inflateDesc, 0, none⟩ } }) : State).mem.found ([] : List DramErr)).read (leAt inflateDesc 8 8) (leAt inflateDesc 16 4)) (bit (u8At inflateDesc 2) 1) (leAt inflateDesc 20 4), (jobQueue inflateDesc fun c => { c with cx := { c.cx with inflate := some ⟨0, inflateDesc, 0, none⟩ } }), ⟨by decide +kernel, by decide +kernel, by decide +kernel, by decide +kernel, by decide +kernel, by decide +kernel, rfl, by decide +kernel, rfl, rfl⟩⟩,
    ⟨[], ⟨0, deflateDesc, 0, none⟩, deflateDesc, ((jobQueue deflateDesc fun c => { c with cx := { c.cx with deflate := some ⟨0, deflateDesc, 0, none⟩, streams := [⟨0, .start 0⟩] } }) : State).mem.found ([] : List DramErr), (cxDeflate 0 0 (DfPipe.start 0) 0 [3, 0] true 16).1, (jobQueue deflateDesc fun c => { c with cx := { c.cx with deflate := some ⟨0, deflateDesc, 0, none⟩, streams := [⟨0, .start 0⟩] } }), ⟨by decide +kernel, by decide +kernel, by decide +kernel, by decide +kernel, by decide +kernel, by decide +kernel, by decide +kernel, rfl, by decide +kernel, by decide +kernel⟩⟩⟩

/-- The hypotheses of CrcUnitsFold can be met. -/
theorem met_CrcUnitsFold :
    (∃ (u : Nat) (s : State), u < 8 ∧ s.ctl.ckHeld u = false) ∧
    (∃ (u : Nat) (s : State), u < 8 ∧ s.ctl.ckBit u 9 = false ∧ s.ctl.ckBit u 8 = true) ∧
    (∃ (u : Nat) (s : State), u < 8 ∧ s.ctl.ckHeld u = false ∧ s.ctl.ckBit u 1 = true ∧ s.ctl.reg .ckSnoopCount u 0 = 0 ∧ s.ctl.ckInItem u = false) ∧
    (∃ (u : Nat) (s : State), u < 8 ∧ s.ctl.ckHeld u = false ∧ s.ctl.ckBit u 1 = true ∧ s.ctl.reg .ckSnoopCount u 0 = 0 ∧ s.ctl.ckInItem u = true) ∧
    (∃ (u : Nat) (s : State), u < 8 ∧ s.ctl.ckHeld u = false) ∧
    (∃ (u : Nat) (s : State), u < 8 ∧ s.ctl.ckHeld u = false ∧ s.ctl.ckSnoop u = false) ∧
    (∃ (u : Nat) (s : State), u < 8 ∧ s.ctl.ckHeld u = false ∧ s.ctl.ckSnoop u = true) ∧
    (∃ (u : Nat) (s : State), u < 8 ∧ s.ctl.ckHeld u = false ∧ s.ctl.ckBit u 1 = false ∧ s.ctl.ckBit u 0 = false) ∧
    (∃ (u : Nat) (s : State), u < 8 ∧ s.ctl.ckHeld u = false ∧ s.ctl.ckBit u 1 = true) ∧
    (∃ (point : Nat) (u : Nat) (r : SnoopRec) (s : State), u < 8 ∧ s.ctl.cx.passed.find? (fun x => x.point = point) = some r ∧ s.ctl.ckBit u 1 = true ∧ s.ctl.ckHeld u = false ∧ s.ctl.ckPoint u = point ∧ snoopTakes point (bits (s.ctl.ea 0x5210 u) 31 24) r.tag = true) ∧
    (∃ (point : Nat) (u : Nat) (r : SnoopRec) (s : State), u < 8 ∧ s.ctl.cx.passed.find? (fun x => x.point = point) = some r ∧ s.ctl.ckBit u 1 = true ∧ s.ctl.ckHeld u = false ∧ s.ctl.ckPoint u = point ∧ snoopTakes point (bits (s.ctl.ea 0x5210 u) 31 24) r.tag = true) ∧
    (∃ (point : Nat) (s : State), s.ctl.cx.passed.find? (fun r => r.point = point) = none) ∧
    (∃ (u : Nat), u < 8) :=
  ⟨⟨7, wit id, by decide⟩,
    ⟨7, wit fun c => c.setCkBit 7 8 true, by decide⟩,
    ⟨7, wit fun c => c.setCkBit 7 1 true, by decide⟩,
    ⟨7, wit fun c => { c.setCkBit 7 1 true with cx := { c.cx with passed := [⟨0, 0, [1]⟩] } }, by decide⟩,
    ⟨7, wit id, by decide⟩,
    ⟨7, wit id, by decide⟩,
    ⟨7, wit fun c => c.setEa 0x5210 7 4096, by decide⟩,
    ⟨7, wit id, by decide⟩,
    ⟨7, wit fun c => c.setCkBit 7 1 true, by decide⟩,
    ⟨11, 7, ⟨11, 0, [1]⟩, wit fun c => { (c.setCkBit 7 1 true).setEa 0x5210 7 (11 * 65536 + 4096 + 32) with cx := { c.cx with passed := [⟨11, 0, [1]⟩] } }, by decide⟩,
    ⟨11, 7, ⟨11, 0, [1]⟩, wit fun c => { (c.setCkBit 7 1 true).setEa 0x5210 7 (11 * 65536 + 4096 + 32) with cx := { c.cx with passed := [⟨11, 0, [1]⟩] } }, by decide⟩,
    ⟨11, wit id, by decide⟩,
    ⟨7, by decide⟩⟩

/-- The hypotheses of ImagesComeIntoTheirSlot can be met. -/
theorem met_ImagesComeIntoTheirSlot :
    (∃ (k : Nat) (s : State), s.ctl.cpaUp = true ∧ k = s.ctl.loadTarget ∧ k < s.ctl.xz.slots.length ∧ s.ctl.loadBusy = false ∧ s.ctl.e 0x410201 ≤ 2 ∧ (s.ctl.e 0x410201 ≠ 0 ∨ s.ctl.e 0x410202 ≤ 11534336)) ∧
    (∃ (s : State), s.ctl.cpaUp = true ∧ s.ctl.loadBusy = true ∧ s.ctl.e 0x410201 ≤ 2) ∧
    (∃ (bytes : List Byte) (raw : List Byte) (k : Nat) (img : List Byte) (l : XzLoad) (s : State), s.ctl.cpaUp = true ∧ s.ctl.xz.load = some l ∧ l.dma = false ∧ l.closed = false ∧ (l.enc = 0 ∨ s.ctl.loadInPipe = true) ∧ raw = l.raw ++ bytes ∧ raw.length ≤ l.size ∧ img = (l.image raw).1 ∧ img.length ≤ 11534336 ∧ (l.image raw).2 < 0x10 ∧ (l.enc = 0 ∨ (l.image raw).2 = 3 ∨ raw.length < l.size) ∧ k = (l.image l.raw).1.length) ∧
    (∃ (bytes : List Byte) (raw : List Byte) (l : XzLoad) (s : State), s.ctl.cpaUp = true ∧ s.ctl.xz.load = some l ∧ l.dma = false ∧ l.closed = false ∧ l.enc ≠ 0 ∧ s.ctl.loadInPipe = false ∧ raw = l.raw ++ bytes ∧ raw.length ≤ l.size) ∧
    (∃ (l : XzLoad) (s : State), s.ctl.cpaUp = true ∧ s.ctl.xz.load = some l ∧ l.dma = false ∧ l.closed = false ∧ l.slot < s.ctl.xz.slots.length ∧ l.size ≤ l.raw.length ∧ l.enc = 0) ∧
    (∃ (l : XzLoad) (s : State), s.ctl.cpaUp = true ∧ s.ctl.xz.load = some l ∧ l.dma = false ∧ l.closed = false ∧ l.size ≤ l.raw.length ∧ l.enc ≠ 0) ∧
    (∃ (l : XzLoad) (s : State), s.ctl.cpaUp = true ∧ s.ctl.xz.load = some l ∧ l.dma = false ∧ l.closed = false ∧ l.slot < s.ctl.xz.slots.length ∧ l.raw.length < l.size) ∧
    (∃ (l : XzLoad) (s : State), s.ctl.cpaUp = true ∧ s.ctl.xz.load = some l ∧ l.dma = false ∧ l.slot < s.ctl.xz.slots.length) ∧
    (∃ (dt : Nat) (l : XzLoad) (s : State), s.ctl.cpaUp = true ∧ s.ctl.xz.load = some l ∧ l.closed = false ∧ l.slot < s.ctl.xz.slots.length ∧ l.lastAt + tS 10 ≤ s.ctl.up + dt) ∧
    (∃ (k : Nat) (enc : Nat) (size : Nat) (s : State), s.ctl.cpaUp = true ∧ k = s.ctl.loadTarget ∧ k < s.ctl.xz.slots.length ∧ s.ctl.loadBusy = false ∧ enc = s.ctl.reg .xzLoadCtrl 0 4 ∧ size = s.ctl.reg .xzLoadLen 0 0 ∧ enc ≤ 2 ∧ (enc ≠ 0 ∨ size ≤ 11534336) ∧ s.ctl.hi.j1.running = false) ∧
    (∃ (k : Nat) (enc : Nat) (size : Nat) (s : State), s.ctl.cpaUp = true ∧ k = s.ctl.loadTarget ∧ k < s.ctl.xz.slots.length ∧ s.ctl.loadBusy = false ∧ enc = s.ctl.reg .xzLoadCtrl 0 4 ∧ size = s.ctl.reg .xzLoadLen 0 0 ∧ enc ≤ 2 ∧ (enc ≠ 0 ∨ size ≤ 11534336) ∧ s.ctl.hi.j1.running = true) ∧
    (∃ (l : XzLoad) (s : State), s.ctl.cpaUp = true ∧ s.ctl.xz.load = some l ∧ l.dma = true ∧ l.slot < s.ctl.xz.slots.length) ∧
    (∃ (l : XzLoad) (s : State), s.ctl.xz.load = some l ∧ l.dma = true ∧ l.closed = false ∧ l.waits = none ∧ l.slot < s.ctl.xz.slots.length) ∧
    (∃ (bytes : List Byte) (l : XzLoad) (s : State), s.ctl.cpaUp = true ∧ s.ctl.xz.load = some l ∧ l.dma = true ∧ l.closed = false ∧ l.waits = none ∧ l.slot < s.ctl.xz.slots.length ∧ l.enc = 0 ∧ (l.raw ++ bytes).length = l.size ∧ l.size ≤ 11534336) ∧
    (∃ (slot : Nat) (s : State), s.ctl.cpaUp = true ∧ slot < s.ctl.xz.slots.length ∧ (s.ctl.slot slot).st = 2 ∧ s.ctl.xz.boot = false) :=
  ⟨⟨0, wit fun c => c.setE 0x410202 11534336, by decide⟩,
    ⟨loading (load3 false), by decide⟩,
    ⟨[4], [1, 2, 3, 4], 3, [1, 2, 3, 4], load3 false, loading (load3 false), by decide⟩,
    ⟨[4], [4], ⟨1, 1, 4, [], false, 0, false, none⟩, loading ⟨1, 1, 4, [], false, 0, false, none⟩, by decide +kernel⟩,
    ⟨{ load3 false with size := 3 }, loading { load3 false with size := 3 }, by decide⟩,
    ⟨{ load3 false with enc := 2, size := 3 }, loading { load3 false with enc := 2, size := 3 }, by decide⟩,
    ⟨load3 false, loading (load3 false), by decide⟩,
    ⟨load3 false, loading (load3 false), by decide⟩,
    ⟨tS 10, load3 true, loading (load3 true), by decide⟩,
    ⟨0, 0, 0, wit id, by decide⟩,
    ⟨0, 0, 0, wit fun c => c.setHi (fun h => { h with j1 := { running := true } }), by decide⟩,
    ⟨load3 true, loading (load3 true), by decide⟩,
    ⟨load3 true, loading (load3 true), by decide⟩,
    ⟨[4], load3 true, loading (load3 true), by decide⟩,
    ⟨1, wit fun c => c.setXz (fun x => { x with slots := [{}, { st := 2, img := [1] }] }), by decide +kernel⟩⟩

/-- The hypotheses of ImagesAreActivatedAndStored can be met. -/
theorem met_ImagesAreActivatedAndStored :
    (∃ (dt : Nat) (k : Nat) (at_ : Nat) (s : State), s.ctl.cpaUp = true ∧ k = s.ctl.e 0x410301 ∧ (s.ctl.advance dt).actResult = (0, 0) ∧ at_ = (s.ctl.advance dt).actTarget) ∧
    (∃ (dt : Nat) (s : State), s.ctl.cpaUp = true ∧ (s.ctl.advance dt).actResult.1 ≠ 0) ∧
    (∃ (dt : Nat) (p : XzPend) (s : State), s.ctl.cpaUp = true ∧ s.ctl.xz.pend = some p ∧ p.slot < s.ctl.xz.slots.length ∧ tUs 100 < tickD ((s.ctl.advance dt).pendTick p) ((s.ctl.advance dt).now)) ∧
    (∃ (dt : Nat) (p : XzPend) (s : State), s.ctl.cpaUp = true ∧ s.ctl.xz.pend = some p ∧ tickD ((s.ctl.advance dt).pendTick p) ((s.ctl.advance dt).now) ≤ tUs 100) ∧
    (∃ (dt : Nat) (ue : List DramErr) (k : Nat) (s : State), s.ctl.xz.copying = true ∧ s.ctl.xz.active = some k ∧ k < s.ctl.xz.slots.length ∧ (slotRead k (s.mem.found ue) ((s.ctl.advance dt).setXz (fun x => { x with parityLost := false }))).2.xz.parityLost = false) ∧
    (∃ (k : Nat) (s : State), s.ctl.cpaUp = true ∧ (List.range 2).find? (fun i => (s.ctl.slot i).st = 6) = some k ∧ s.ctl.xz.storing = none) ∧
    (∃ (s : State), s.ctl.cpaUp = true ∧ ((List.range 2).find? (fun i => (s.ctl.slot i).st = 6) = none ∨ s.ctl.xz.storing ≠ none)) ∧
    (∃ (ue : List DramErr) (k : Nat) (s : State), s.ctl.cpaUp = true ∧ s.ctl.xz.storing = some k ∧ s.ctl.bt.mramStopped = false ∧ (∀ b, (s.mem.found ue).bad b = false)) ∧
    (∃ (n : Nat) (s : State), s.ctl.xz.query = none ∧ n < s.ctl.e 0x410016) ∧
    (∃ (n : Nat) (s : State), s.ctl.xz.query = none ∧ s.ctl.e 0x410016 ≤ n) ∧
    (∃ (n : Nat) (q : RayGeo) (s : State), s.ctl.xz.query = some n ∧ q = rayGeo s.ctl.img n) :=
  ⟨⟨0, 1, tUs 100, wit fun c => ((c.setE 0x410301 1).setE 0x230006 60000).setXz (fun x => { x with slots := [{}, { st := 3, img := List.replicate 64 0 ++ toLE 4 60000 }] }), by decide +kernel⟩,
    ⟨0, wit id, by decide +kernel⟩,
    ⟨0, ⟨1, some (tS 1), false⟩, waiting (tS 1), by decide +kernel⟩,
    ⟨0, ⟨1, some 0, false⟩, waiting 0, by decide +kernel⟩,
    ⟨0, [], 1, wit fun c => c.setXz (fun x => { x with slots := [{ st := 6 }, { st := 5, img := [1] }], active := some 1, prev := some 0, copying := true }), by decide +kernel⟩,
    ⟨1, wit fun c => c.setXz (fun x => { x with slots := [{}, { st := 6, img := [1] }] }), by decide⟩,
    ⟨wit id, by decide⟩,
    ⟨[], 1, wit fun c => c.setXz (fun x => { x with slots := [{}, { st := 6, img := [1] }], storing := some 1 }), ⟨by decide, by decide, by decide, fun _ => rfl⟩⟩,
    ⟨9, wit fun c => c.setE 0x410016 10, by decide⟩,
    ⟨10, wit fun c => c.setE 0x410016 10, by decide⟩,
    ⟨1, rayGeo tiny 1, wit fun c => c.setXz (fun x => { x with query := some 1, img := tiny, active := some 0 }), ⟨rfl, rfl⟩⟩⟩

/-- The hypotheses of MemoryIsKept can be met. -/
theorem met_MemoryIsKept :
    (∃ (dt : Nat) (port : Nat) (ch : Nat) (rank : Nat) (rate : Nat) (lim : Nat) (x : McChan) (y : McChan) (r : Ctl) (s : State), r = (s.ctl.advance dt).mcRun ∧ r.mc.chan port ch rank = some x ∧ s.ctl.memReady = true ∧ s.ctl.mc.selfRefresh = false ∧ x.mr4At + tMs 1 ≤ s.ctl.up + dt ∧ lim = (refreshRow rate).2 ∧ y = { x with rate := rate, limit := lim, mr4At := s.ctl.up + dt, catchup := (decide (x.rate < rate) && decide (3 ≤ rate) && decide (lim < x.owed)) || (x.catchup && decide (lim < x.owed)) }) ∧
    (∃ (dt : Nat) (port : Nat) (ch : Nat) (rank : Nat) (rate : Nat) (lim : Nat) (x : McChan) (r : Ctl) (s : State), r = (s.ctl.advance dt).mcRun ∧ r.mc.chan port ch rank = some x ∧ s.ctl.memReady = true ∧ s.ctl.mc.selfRefresh = false ∧ x.mr4At + tMs 1 ≤ s.ctl.up + dt ∧ lim = (refreshRow rate).2 ∧ x.rate < rate ∧ 3 ≤ rate ∧ lim < x.owed ∧ port < 6) ∧
    (∃ (dt : Nat) (port : Nat) (ch : Nat) (rank : Nat) (x : McChan) (r : Ctl) (s : State), r = (s.ctl.advance dt).mcRun ∧ r.mc.chan port ch rank = some x ∧ s.ctl.memReady = true ∧ s.ctl.mc.selfRefresh = false ∧ x.dueAt + tNs (refreshRow x.rate).1 ≤ s.ctl.up + dt) ∧
    (∃ (dt : Nat) (port : Nat) (ch : Nat) (rank : Nat) (x : McChan) (r : Ctl) (s : State), r = (s.ctl.advance dt).mcRun ∧ r.mc.chan port ch rank = some x ∧ (s.ctl.mc.selfRefresh = true ∨ s.ctl.up + dt < x.dueAt + tNs (refreshRow x.rate).1)) ∧
    (∃ (v : McView) (q : McQ) (p : Nat×Nat), q.idleRefresh v q.ranTo = some p) ∧
    (∃ (v : McView) (q : McQ) (p : Nat×Nat), q.idleRefresh v q.ranTo = none ∧ q.going v q.ranTo = none ∧ v.forced q.ranTo (fun x => decide (x.owed ≥ x.limit)) = some p) ∧
    (∃ (v : McView) (q : McQ) (r : McReq), q.idleRefresh v q.ranTo = none ∧ q.going v q.ranTo = some r) ∧
    (∃ (dt : Nat) (port : Nat) (ch : Nat) (r : Ctl) (s : State), s.ctl.memReady = true ∧ s.ctl.mc.selfRefresh = false ∧ r = (s.ctl.advance dt).mcRun ∧ s.ctl.mc.chans.any (fun x => x.port = port && x.ch = ch && decide (x.zqAt + tMs 32 ≤ s.ctl.up + dt)) = true) ∧
    (∃ (dt : Nat) (port : Nat) (ch : Nat) (r : Ctl) (s : State), s.ctl.memReady = true ∧ s.ctl.mc.selfRefresh = false ∧ r = (s.ctl.advance dt).mcRun ∧ s.ctl.mc.chans.any (fun x => x.port = port && x.ch = ch && decide (x.trackAt + tMs 100 ≤ s.ctl.up + dt)) = true) ∧
    (∃ (dt : Nat) (port : Nat) (ch : Nat) (s : State), s.ctl.mc.chans.any (fun x => x.port = port && x.ch = ch && decide (x.zqAt + tMs 32 ≤ s.ctl.up + dt)) = false) ∧
    (∃ (dt : Nat) (port : Nat) (ch : Nat) (rank : Nat) (now : Nat) (x : McChan) (r : Ctl) (s : State), r = (s.ctl.advance dt).mcRun ∧ now = ckOf (s.ctl.up + dt) ∧ r.mc.chan port ch rank = some x ∧ s.ctl.memReady = true ∧ s.ctl.mc.selfRefresh = false ∧ r.mc.qs.any (fun q => q.port = port && q.ch = ch && !q.wants rank && (aGet q.used rank).any (fun u => decide (u.1 + u.2 ≤ now)) && !(r.mcView port ch).reservedIn now now) = true) ∧
    (∃ (dt : Nat) (ue : List DramErr) (k : Nat) (n : Nat×Nat) (m : Mem) (s : State), s.ctl.memReady = true ∧ s.ctl.mc.selfRefresh = false ∧ (s.ctl.advance dt).scrubDue = true ∧ k = s.ctl.mc.scrubAt ∧ n = s.ctl.scrubSizes ∧ m = s.mem.found ue ∧ m.errOf k = 0 ∧ aGet m.link k = none) ∧
    (∃ (dt : Nat) (ue : List DramErr) (k : Nat) (i : Nat) (p : Nat) (m : Mem) (s : State), s.ctl.memReady = true ∧ s.ctl.mc.selfRefresh = false ∧ (s.ctl.advance dt).scrubDue = true ∧ k = s.ctl.mc.scrubAt ∧ k < s.ctl.scrubSizes.1 ∧ m = s.mem.found ue ∧ burstRead (m.errOf k) = .fixed i ∧ aGet m.link k = none ∧ p = (dramMap (max 1 s.ctl.np) (64 * k)).1 ∧ p < 6) ∧
    (∃ (dt : Nat) (ue : List DramErr) (k : Nat) (p : Nat) (m : Mem) (s : State), s.ctl.memReady = true ∧ s.ctl.mc.selfRefresh = false ∧ s.ctl.mc.fixes = [] ∧ (s.ctl.advance dt).scrubDue = true ∧ k = s.ctl.mc.scrubAt ∧ k < s.ctl.scrubSizes.1 ∧ m = s.mem.found ue ∧ burstRead (m.errOf k) = .bad ∧ aGet m.link k = none ∧ p = (dramMap (max 1 s.ctl.np) (64 * k)).1 ∧ p < 6) ∧
    (∃ (dt : Nat) (s : State), (s.ctl.memReady = false ∨ s.ctl.mc.selfRefresh = true ∨ (s.ctl.advance dt).scrubDue = false)) ∧
    (∃ (words : List (Nat×Nat×Nat)) (k : Nat), k = (words.filter (fun p => decide (sramRead p.2.2 ≠ .clean) && decide (sramRead p.2.2 ≠ .bad))).length) :=
  ⟨⟨tMs 1, 5, 3, 1, 1, 64, { port := 5, ch := 3, rank := 1 }, { port := 5, ch := 3, rank := 1, rate := 1, mr4At := tMs 1 }, ((wit fun c => (((c.setE 0x500003 2).setE 0x500002 67108864).setMc (fun s => { s with chans := [{ port := 5, ch := 3, rank := 1 }], qs := [{ port := 5, ch := 3 }] })) : State).ctl.advance (tMs 1 : Nat)).mcRun, wit fun c => (((c.setE 0x500003 2).setE 0x500002 67108864).setMc (fun s => { s with chans := [{ port := 5, ch := 3, rank := 1 }], qs := [{ port := 5, ch := 3 }] })), ⟨rfl, by decide +kernel, by decide +kernel, by decide +kernel, by decide +kernel, by decide +kernel, by decide +kernel⟩⟩,
    ⟨tMs 1, 5, 3, 1, 5, 16, { port := 5, ch := 3, rank := 1, owed := 17, powerDown := true }, ((wit fun c => (((c.setE 0x500003 2).setE 0x500002 67108864).setMc (fun s => { s with chans := [{ port := 5, ch := 3, rank := 1, owed := 17, powerDown := true }], qs := [{ port := 5, ch := 3 }] })) : State).ctl.advance (tMs 1 : Nat)).mcRun, wit fun c => (((c.setE 0x500003 2).setE 0x500002 67108864).setMc (fun s => { s with chans := [{ port := 5, ch := 3, rank := 1, owed := 17, powerDown := true }], qs := [{ port := 5, ch := 3 }] })), ⟨rfl, by decide +kernel, by decide +kernel, by decide +kernel, by decide +kernel, by decide +kernel, by decide +kernel, by decide +kernel, by decide +kernel, by decide +kernel⟩⟩,
    ⟨tNs 488, 5, 3, 1, { port := 5, ch := 3, rank := 1 }, ((wit fun c => (((c.setE 0x500003 2).setE 0x500002 67108864).setMc (fun s => { s with chans := [{ port := 5, ch := 3, rank := 1 }], qs := [{ port := 5, ch := 3 }] })) : State).ctl.advance (tNs 488 : Nat)).mcRun, wit fun c => (((c.setE 0x500003 2).setE 0x500002 67108864).setMc (fun s => { s with chans := [{ port := 5, ch := 3, rank := 1 }], qs := [{ port := 5, ch := 3 }] })), ⟨rfl, by decide +kernel, by decide +kernel, by decide +kernel, by decide +kernel⟩⟩,
    ⟨0, 5, 3, 1, { port := 5, ch := 3, rank := 1 }, ((wit fun c => (((c.setE 0x500003 2).setE 0x500002 67108864).setMc (fun s => { s with chans := [{ port := 5, ch := 3, rank := 1 }], qs := [{ port := 5, ch := 3 }] })) : State).ctl.advance (0 : Nat)).mcRun, wit fun c => (((c.setE 0x500003 2).setE 0x500002 67108864).setMc (fun s => { s with chans := [{ port := 5, ch := 3, rank := 1 }], qs := [{ port := 5, ch := 3 }] })), ⟨rfl, by decide +kernel, by decide +kernel⟩⟩,
    ⟨⟨none, [], [{ port := 5, ch := 3, rank := 1, owed := 1 }]⟩, { port := 5, ch := 3, ranTo := 108 }, (1, 0), by decide +kernel⟩,
    ⟨⟨none, [], [{ port := 5, ch := 3, rank := 1, owed := 64, round := [1, 2, 3, 4, 5, 6, 7] }]⟩, { port := 5, ch := 3, ranTo := 108, reads := [⟨9, false, 1, 0, 0, 0, 0, false⟩] }, (1, 0), by decide +kernel⟩,
    ⟨⟨some 0, [2], []⟩, { port := 5, ch := 3, ranTo := 4, burst := some 0, reads := [⟨2, false, 1, 0, 0, 0, 0, false⟩] }, ⟨2, false, 1, 0, 0, 0, 0, false⟩, by decide +kernel⟩,
    ⟨tMs 32, 5, 3, ((wit fun c => ((c.setE 0x500003 2).setE 0x500002 67108864).setMc (fun s => { s with chans := [{ port := 5, ch := 3, rank := 1 }], qs := [{ port := 5, ch := 3 }] }) : State).ctl.advance (tMs 32 : Nat)).mcRun, wit fun c => ((c.setE 0x500003 2).setE 0x500002 67108864).setMc (fun s => { s with chans := [{ port := 5, ch := 3, rank := 1 }], qs := [{ port := 5, ch := 3 }] }), ⟨by decide +kernel, by decide +kernel, rfl, by decide +kernel⟩⟩,
    ⟨tMs 100, 5, 3, ((wit fun c => ((c.setE 0x500003 2).setE 0x500002 67108864).setMc (fun s => { s with chans := [{ port := 5, ch := 3, rank := 1 }], qs := [{ port := 5, ch := 3 }] }) : State).ctl.advance (tMs 100 : Nat)).mcRun, wit fun c => ((c.setE 0x500003 2).setE 0x500002 67108864).setMc (fun s => { s with chans := [{ port := 5, ch := 3, rank := 1 }], qs := [{ port := 5, ch := 3 }] }), ⟨by decide +kernel, by decide +kernel, rfl, by decide +kernel⟩⟩,
    ⟨0, 5, 0, ranked { port := 5, ch := 3, rank := 1 }, by decide⟩,
    ⟨0, 5, 3, 1, 0, { port := 5, ch := 3, rank := 1 }, ((wit fun c => ((c.setE 0x500003 2).setE 0x500002 67108864).setMc (fun s => { s with chans := [{ port := 5, ch := 3, rank := 1 }], qs := [{ port := 5, ch := 3, used := [(1, 0, 0)] }] }) : State).ctl.advance (0 : Nat)).mcRun, wit fun c => ((c.setE 0x500003 2).setE 0x500002 67108864).setMc (fun s => { s with chans := [{ port := 5, ch := 3, rank := 1 }], qs := [{ port := 5, ch := 3, used := [(1, 0, 0)] }] }), ⟨rfl, by decide +kernel, by decide +kernel, by decide +kernel, by decide +kernel, by decide +kernel⟩⟩,
    ⟨0, [], 0, (ranked { port := 5, ch := 3, rank := 1 }).ctl.scrubSizes, (ranked { port := 5, ch := 3, rank := 1 } : State).mem.found ([] : List DramErr), ranked { port := 5, ch := 3, rank := 1 }, ⟨by decide +kernel, by decide +kernel, by decide +kernel, by decide +kernel, by decide +kernel, rfl, by decide +kernel, by decide +kernel⟩⟩,
    ⟨0, [.flip 0 3], 0, 3, 0, (ranked { port := 5, ch := 3, rank := 1 } : State).mem.found ([.flip 0 3] : List DramErr), ranked { port := 5, ch := 3, rank := 1 }, ⟨by decide +kernel, by decide +kernel, by decide +kernel, by decide +kernel, by decide +kernel, rfl, by decide +kernel, by decide +kernel, by decide +kernel, by decide +kernel⟩⟩,
    ⟨0, [.flip 0 3, .flip 0 4], 0, 0, (ranked { port := 5, ch := 3, rank := 1 } : State).mem.found ([.flip 0 3, .flip 0 4] : List DramErr), ranked { port := 5, ch := 3, rank := 1 }, ⟨by decide +kernel, by decide +kernel, by decide +kernel, by decide +kernel, by decide +kernel, by decide +kernel, rfl, by decide +kernel, by decide +kernel, by decide +kernel, by decide +kernel⟩⟩,
    ⟨0, wit id, by decide⟩,
    ⟨[(2, 5, 1), (2, 6, 3)], 1, by decide +kernel⟩⟩


end Sys2Proof.Machine
end

section
/-! PROOFS. The registers of the host (00 R7 to R11, 17 R479): a write that puts nothing into DRAM, the field of HI_WIN_BASE, and what PF1 is
not shown. -/
namespace Sys2Proof.Machine

/-! ### A write that leaves the image slots alone -/

/-- Without octets for an image slot, nothing reaches DRAM. -/
theorem flushFills_of_fills_eq_nil (m : Mem) (c : Ctl) (h : c.xz.fills = []) : flushFills m c = (m, c.setXz (fun x => { x with fills := [] })) := by
  unfold flushFills
  rw [h]
  rfl

@[simp] theorem Mem.found_nil (m : Mem) : m.found [] = m := rfl

/-- The state that a meaning over memory and the part leaves. -/
theorem runM_eq_next {f : Mem → Ctl → Mem × Ctl} {s : State} {q : Mem × Ctl} (h : f s.mem s.ctl = q) :
    runM f s = .next { s with mem := (mended q).1, ctl := (mended q).2 } := by
  subst h
  rfl

/-- A command that changes the part only leaves DRAM, its errors and the queue. -/
theorem leaves_of_exec_eq_runC {i : Instr} {f : Ctl → Ctl} {s : State} {P : Ctl → Prop} (h : exec i s = runC f s) (hP : P (f s.ctl)) :
    leaves i s P := ⟨_, h, rfl, fun _ hb => hb, rfl, hP⟩

theorem exec_registerWrite (dt : Nat) (fn : Fn) (at_ : RegAt) (value : Nat) (store : Bool) (ue : List DramErr) (s : State) :
    exec (.registerWrite dt fn at_ value store ue) s =
      runM (fun m c => flushFills (m.found ue) (regWrite store (fnNum fn) at_ value (m.found ue) (c.advance dt).noFills)) s := rfl

theorem exec_registerRead (dt : Nat) (fn : Fn) (at_ : RegAt) (s : State) :
    exec (.registerRead dt fn at_) s = runC (fun c => (c.advance dt).readAt (fnNum fn) at_) s := rfl

/-- A register write that fills no image slot leaves DRAM and the queue, and the registers and entries as the write made them. -/
theorem registerWrite_completes {dt value : Nat} {fn : Fn} {at_ : RegAt} {store : Bool} {s : State} {d : Ctl} {P : State → Prop}
    (hd : regWrite store (fnNum fn) at_ value s.mem (s.ctl.advance dt).noFills = d) (hf : d.xz.fills = [])
    (hP : ∀ t : State, t.mem.dram = s.mem.dram → t.pending = s.pending → t.ctl.regs = d.regs → t.ctl.ent = d.ent → t.ctl.shadow = d.shadow → P t) :
    completes (.registerWrite dt fn at_ value store []) s P := by
  have hr : flushFills (s.mem.found []) (regWrite store (fnNum fn) at_ value (s.mem.found []) (s.ctl.advance dt).noFills) =
      (s.mem, d.setXz (fun x => { x with fills := [] })) := by
    rw [Mem.found_nil, hd, flushFills_of_fills_eq_nil _ _ hf]
  exact ⟨_, (exec_registerWrite ..).trans (runM_eq_next hr), hP _ rfl rfl rfl rfl rfl⟩

/-! ### What a write and a read of each function do -/

/-- A write of PF1 outside its blocks counts in PF1_DENIED and does nothing else (17 R479). -/
theorem regWrite_pf1_denied (store : Bool) (at_ : RegAt) (w : Nat) (m : Mem) (c : Ctl) (h : pf1Writes (blockAt 1 at_) = false) :
    regWrite store 1 at_ w m c = c.incE 0x530002 := by
  simp [regWrite, h]

/-- PF1_DENIED counts in 32 bits. -/
theorem Ctl.e_incE_pf1Denied (c : Ctl) : (c.incE 0x530002).e 0x530002 = satAdd 32 (c.e 0x530002) 1 := by
  have hw : entWidth 0x530002 = 32 := by decide +kernel
  unfold Ctl.incE Ctl.addE
  rw [Ctl.e_setE, if_pos rfl, hw]

/-- The part's registers decide what a register field reads as. -/
theorem Ctl.reg_congr {c d : Ctl} (h : c.regs = d.regs) (r : RegName) (i l : Nat) : c.reg r i l = d.reg r i l := by unfold Ctl.reg; rw [h]

/-- HI_WIN_BASE holds one field, of 8 bits (17 R494). -/
theorem fieldsOf_hiWinBase : fieldsOf .hiWinBase = [⟨.hiWinBase, 7, 0, .rw, 0, .own⟩] := by decide +kernel

/-- A write of HI_WIN_BASE sets its field. -/
theorem Ctl.plainWrite_hiWinBase (c : Ctl) (store : Bool) (i w : Nat) :
    c.plainWrite store .hiWinBase i w = c.setReg .hiWinBase i 0 (bits w 7 0) := by
  unfold Ctl.plainWrite
  rw [fieldsOf_hiWinBase]
  rfl

/-- PF0 writes HI_WIN_BASE. -/
theorem regWrite_pf0_hiWinBase (store : Bool) (w : Nat) (m : Mem) (c : Ctl) (hw : w < 2 ^ 32) :
    regWrite store 0 (.named .hiWinBase 0 false) w m c = c.setReg .hiWinBase 0 0 (bits w 7 0) := by
  have happly : c.regApply store 0 .hiWinBase 0 w = c.plainWrite store .hiWinBase 0 w := rfl
  rw [← Ctl.plainWrite_hiWinBase c store, ← happly]
  unfold regWrite
  rw [Nat.mod_eq_of_lt hw]
  rfl

/-- HI_WIN_BASE reads as its field. -/
theorem Ctl.regValue_hiWinBase (c : Ctl) : c.regValue 0 .hiWinBase 0 false = c.reg .hiWinBase 0 0 % 256 := by
  have h : c.regValue 0 .hiWinBase 0 false =
      ((fieldsOf .hiWinBase).filter (fun f => !false || f.acc = .rws)).foldl (fun v f => v + c.fieldVal f 0 false * 2 ^ f.lo) 0 := rfl
  rw [h, fieldsOf_hiWinBase]
  simp [Ctl.fieldVal]

/-- With no half of a pair latched, PF0 reads HI_WIN_BASE and changes nothing but the data read. -/
theorem Ctl.readAt_pf0_hiWinBase (c : Ctl) (h : c.hiLatch = []) :
    c.readAt 0 (.named .hiWinBase 0 false) = { c with readData := c.reg .hiWinBase 0 0 % 256 } := by
  have hb : regBlock .hiWinBase ≠ regBlock .mcStatus := by decide +kernel
  have hp : pairHi .hiWinBase = none := rfl
  have hrc : (fieldsOf .hiWinBase).filter (fun f => decide (f.acc = .rc)) = [] := by rw [fieldsOf_hiWinBase]; rfl
  have hl : { c with hiLatch := [] } = c := by rw [← h]
  simp [Ctl.readAt, regPick, regCount, hb, Ctl.regRead, hiInst, h, firstSome, hp, hrc, Ctl.regValue_hiWinBase, hl]

/-- What PF1 is not shown is no register of the memory controller. -/
theorem regBlock_ne_mc_of_pf1Hidden (r : RegName) (h : pf1Hidden r = true) : regBlock r ≠ regBlock .mcStatus := by
  have hmc : regBlock .mcStatus = 32 := by decide +kernel
  rw [hmc]
  rcases Bool.or_eq_true_iff.1 h with hblock | hjq
  · have hm : regBlock r ∈ [1, 6, 25] := by simpa using hblock
    intro he
    rw [he] at hm
    exact absurd hm (by decide)
  · have hall : ∀ q ∈ [RegName.hiJqCfg, .hiJqBaseLo, .hiJqBaseHi, .hiJqPtr], regBlock q ≠ 32 := by decide +kernel
    exact hall r (by simpa using hjq)

/-- A register that PF1 is not shown reads 0 (17 R479). -/
theorem Ctl.readAt_pf1_hidden (c : Ctl) (r : RegName) (i : Nat) (hi : i < regCount r) (h : pf1Hidden r = true) :
    c.readAt 1 (.named r i false) = { c with readData := 0 } := by
  simp [Ctl.readAt, regPick, hi, regBlock_ne_mc_of_pf1Hidden r h, Ctl.regRead, h]

end Sys2Proof.Machine

open Sys2Proof Sys2Proof.Machine

/-- Settles O33: a denied write only counts, HI_WIN_BASE is one field of 8 bits, and a hidden register reads 0 before anything else is done. -/
theorem registersKeepTheirAccess : Obligations.RegistersKeepTheirAccess := by
  unfold Obligations.RegistersKeepTheirAccess
  refine ⟨fun dt at_ value s hblock => ?deniedWrite, fun dt value s hvalue => ?winBaseWrite, fun dt r inst s hinst hhidden => ?hiddenRead,
    fun dt s hlatch => ?winBaseRead⟩
  case deniedWrite =>
    refine registerWrite_completes (regWrite_pf1_denied true at_ value _ _ hblock) rfl fun t hmem hpending hregs hent hshadow =>
      ⟨hmem, hpending, hregs, ?_, hshadow⟩
    rw [Ctl.e_congr hent, Ctl.e_incE_pf1Denied]
    rfl
  case winBaseWrite =>
    refine registerWrite_completes (regWrite_pf0_hiWinBase true value _ _ hvalue) rfl fun t hmem hpending hregs hent _ =>
      ⟨hmem, hpending, ?_, hent⟩
    rw [Ctl.reg_congr hregs, Ctl.reg_setReg, if_pos rfl]
  case hiddenRead =>
    exact leaves_of_exec_eq_runC (exec_registerRead ..) (Ctl.readAt_pf1_hidden (s.ctl.advance dt) r inst hinst hhidden)
  case winBaseRead =>
    refine leaves_of_exec_eq_runC (exec_registerRead ..) ?_
    have hread := Ctl.readAt_pf0_hiWinBase (s.ctl.advance dt) hlatch
    exact ⟨congrArg Ctl.readData hread, (congrArg Ctl.regs hread).trans rfl, (congrArg Ctl.ent hread).trans rfl⟩

end

section
/-! PROOFS. A flip at which a commit record orders a restart (00 R15, 13 R380, 18 R510): the part starts again within the flip, so that flips
are no longer issued. -/
namespace Sys2Proof.Machine

/-- What FRAME_FLIP leaves in the time base is what its operation leaves there. -/
theorem exec_frameFlip_tb {dt reached : Nat} {store : Bool} {cut : Option MramCut} {bad : List Nat} {ue : List DramErr} {s t : State}
    (h : exec (.frameFlip dt reached store cut bad ue) s = .next t) :
    t.ctl.tb = (frameFlip reached store cut bad (s.mem.found ue) (s.ctl.advance dt)).2.tb := by
  injection h with h
  rw [← h]
  rfl

/-- While flips are not issued, FLIP_INDEX reads 0. -/
theorem Ctl.calcEnt_flipIndex_of_not_issuing (c : Ctl) (h : c.tb.issuing = false) : c.calcEnt 0x230008 = some 0 := by
  simp [Ctl.calcEnt, h]

/-- A record of Tick 0 whose one value is RESTART in BOOT_CMD (18 R515). The entry is write-only and never staged, so no COMMIT makes such
a record, but a state can hold it. -/
def restartRecord : CommitRec := ⟨1, 0, [(0x110005, .num 1)]⟩

/-- The part after reset with flip 1 next in the series and the record waiting. -/
def restartRecorded : State :=
  let c := State.reset.ctl.setTb (fun t => { t with issuing := true, nextIndex := 1 })
  { State.reset with ctl := c.setDy (fun d => { d with commits := [restartRecord] }) }

/-- One second later flip 1 is due. -/
theorem restartRecorded_due :
    tickD (restartRecorded.ctl.tn restartRecorded.ctl.tb.nextIndex) (restartRecorded.ctl.advance (tS 1)).now ≤ 0 := by decide +kernel

/-- The flip applies the record, and the restart that it orders ends the series. -/
theorem frameFlip_restartRecorded_not_issuing :
    (frameFlip 0 true none [] (restartRecorded.mem.found []) (restartRecorded.ctl.advance (tS 1))).2.tb.issuing = false := by decide +kernel

end Sys2Proof.Machine

open Sys2Proof Sys2Proof.Machine

/-- Refutes O37: its first clause asks nothing of the commit records, and one that holds BOOT_CMD = RESTART starts the part again at the
flip, after which flips are not issued and FLIP_INDEX reads 0, not 2. -/
theorem not_flipsAndCompareEventsFire : ¬ Obligations.FlipsAndCompareEventsFire := by
  unfold Obligations.FlipsAndCompareEventsFire
  rintro ⟨hflip, -⟩
  obtain ⟨t, ht, -, -, hnext, -⟩ := hflip (tS 1) 0 true none [] [] restartRecorded rfl restartRecorded_due rfl rfl
  have hstops : t.ctl.tb.issuing = false :=
    (congrArg TbState.issuing (exec_frameFlip_tb ht)).trans frameFlip_restartRecorded_not_issuing
  rw [Ctl.calcEnt_flipIndex_of_not_issuing _ hstops] at hnext
  exact absurd hnext (by decide)

end

section
/-! PROOFS. Enumeration of the ring (01 R20 to R27): what a message of the side channel leaves, the tile indices that a part takes and
shows, and when the head starts. -/
namespace Sys2Proof.Machine

/-! ### The side channel leaves all but its queues and its drop counters (12 R367, R376) -/

/-- The part without what sending over the side channel changes: entries, what the part has sent, and of the ports all but `up`. -/
def Ctl.offSide (c : Ctl) : Ctl :=
  { c with ent := [], out := [], rg := { c.rg with ports := c.rg.ports.map (fun q => { up := q.up }) } }

/-- A change of a port that leaves `up` is the side channel's own. -/
theorem Ctl.offSide_setRgPort (c : Ctl) (p : Nat) (f : RgPort → RgPort) (hf : ∀ q, (f q).up = q.up) :
    (c.setRgPort p f).offSide = c.offSide := by
  have hports : (updAt c.rg.ports p f).map (fun q => ({ up := q.up } : RgPort)) = c.rg.ports.map (fun q => { up := q.up }) := by
    refine List.ext_getElem (by simp [updAt]) fun i _ _ => ?_
    simp only [updAt, List.getElem_map, List.getElem_modify]
    split <;> simp [hf]
  unfold Ctl.offSide Ctl.setRgPort Ctl.setRg
  rw [← hports]

/-- A fold whose steps keep a reading keeps it. -/
theorem foldl_keeps {α β σ : Type} (g : σ → β) (f : σ → α → σ) (l : List α) (s : σ) (h : ∀ s, ∀ a ∈ l, g (f s a) = g s) :
    g (l.foldl f s) = g s :=
  List.foldlRecOn (motive := fun t => g t = g s) l f rfl fun t ht a ha => (h t a ha).trans ht

theorem Ctl.offSide_drainPort (c : Ctl) (p : Nat) : (c.drainPort p).offSide = c.offSide :=
  (foldl_keeps Ctl.offSide (fun d x => d.sideBegin p x) _ _ fun _ _ _ => rfl).trans (Ctl.offSide_setRgPort c p _ fun _ => rfl)

theorem Ctl.drainPort_ent (c : Ctl) (p : Nat) : (c.drainPort p).ent = c.ent :=
  foldl_keeps Ctl.ent (fun d x => d.sideBegin p x) _ _ fun _ _ _ => rfl

/-- A message that is sent or dropped leaves everything off the side channel. -/
theorem Ctl.offSide_sideQueue (c : Ctl) (p n ty dst : Nat) (m : List Byte) : (c.sideQueue p n ty dst m).offSide = c.offSide := by
  have hjoin : ∀ (d : Ctl) (x : SideItem), (d.setRgPort p (fun q => { q with side := sideInsert x q.side })).offSide = d.offSide :=
    fun d x => Ctl.offSide_setRgPort d p _ fun _ => rfl
  simp only [Ctl.sideQueue]
  split
  · rfl
  · split
    · exact Ctl.offSide_drainPort c p
    · split
      · exact (hjoin _ _).trans (Ctl.offSide_drainPort c p)
      · exact (hjoin _ _).trans (Ctl.offSide_drainPort c p)

/-- SC_DROPS is the only entry that a message changes. -/
theorem Ctl.e_sideQueue (c : Ctl) (p n ty dst : Nat) (m : List Byte) {k : Nat} (hk : k < 0x211C00) :
    (c.sideQueue p n ty dst m).e k = c.e k := by
  have hdrops : ¬ ekey 0x211C (n + 1) = k := by unfold ekey; omega
  simp only [Ctl.sideQueue]
  split
  · rfl
  · split
    · unfold Ctl.incEa Ctl.incE Ctl.addE
      rw [Ctl.e_setE, if_neg hdrops, Ctl.e_congr (c.drainPort_ent p)]
    · split <;> exact Ctl.e_congr (c.drainPort_ent p) k

theorem Ctl.offSide_sideSend (c : Ctl) (p ty dst : Nat) (body : List Byte) : (c.sideSend p ty dst body).offSide = c.offSide := by
  unfold Ctl.sideSend
  split
  · exact Ctl.offSide_sideQueue ..
  · rfl

theorem Ctl.e_sideSend (c : Ctl) (p ty dst : Nat) (body : List Byte) {k : Nat} (hk : k < 0x211C00) :
    (c.sideSend p ty dst body).e k = c.e k := by
  unfold Ctl.sideSend
  split
  · exact Ctl.e_sideQueue _ _ _ _ _ _ hk
  · rfl

theorem Ctl.offSide_sidePass (c : Ctl) (port ty dst src : Nat) (body : List Byte) : (c.sidePass port ty dst src body).offSide = c.offSide := by
  unfold Ctl.sidePass
  split
  · exact Ctl.offSide_sideQueue ..
  · rfl

theorem Ctl.e_sidePass (c : Ctl) (port ty dst src : Nat) (body : List Byte) {k : Nat} (hk : k < 0x211C00) :
    (c.sidePass port ty dst src body).e k = c.e k := by
  unfold Ctl.sidePass
  split
  · exact Ctl.e_sideQueue _ _ _ _ _ _ hk
  · rfl

/-- What is off the side channel decides the reports, the tile index and the course of an enumeration. -/
theorem Ctl.of_offSide {α : Type} {c d : Ctl} (f : Ctl → α) (hf : ∀ x : Ctl, f x.offSide = f x) (h : d.offSide = c.offSide) : f d = f c := by
  rw [← hf d, h, hf c]

/-- Reading a mapped list with a mapped default maps what is read. -/
theorem getD_map_apply {α β : Type} (g : α → β) (l : List α) (n : Nat) (d : α) : (l.map g).getD n (g d) = g (l.getD n d) := by
  rw [List.getD_eq_getElem?_getD, List.getD_eq_getElem?_getD, List.getElem?_map, Option.getD_map]

theorem Ctl.portUp_offSide (c : Ctl) (p : Nat) : c.offSide.portUp p = c.portUp p := by
  have hup := congrArg RgPort.up (getD_map_apply (fun q => ({ up := q.up } : RgPort)) c.rg.ports p {})
  exact hup

/-! ### The events of an enumeration leave no fault report -/

/-- An event that the fault sequencer takes (20 R549). -/
def isFault (code : Nat) : Bool := (code % 256 ≥ 0xC0 || code = 0x1182) && code ≠ 0x05C1 && code ≠ 0x05C3

theorem Ctl.fm_enqueue (c : Ctl) (q : Nat) (r : EvRec) : (c.enqueue q r).fm = c.fm := by
  unfold Ctl.enqueue
  split
  · rfl
  · split <;> rfl

theorem Ctl.fm_raiseIrq (c : Ctl) (b : Nat) : (c.raiseIrq b).fm = c.fm := by
  simp only [Ctl.raiseIrq]
  split
  · rfl
  · split <;> rfl

theorem Ctl.fm_tell (c : Ctl) (code : Nat) (r : EvRec) : (c.tell code r).fm = c.fm := by
  have hbit : ∀ d : Ctl, (d.eventBit code).fm = d.fm := fun d => by unfold Ctl.eventBit; split <;> rfl
  simp only [Ctl.tell]
  rw [hbit, Ctl.fm_raiseIrq, Ctl.fm_enqueue, Ctl.fm_enqueue]
  rfl

theorem Ctl.reports_log (c : Ctl) (lg h w : List LogRec) (n v : Nat) :
    (Ctl.fm { c with fm := { c.fm with log := lg, nextSeq := n, savedSeq := v, history := h, histWait := w } }).reports = c.fm.reports := rfl

theorem Ctl.reports_logAdd (c : Ctl) (r : EvRec) (a b w : Nat) (h : Bool) : (c.logAdd r a b w h).fm.reports = c.fm.reports := by
  unfold Ctl.logAdd Ctl.logCount Ctl.addE
  rw [Ctl.setE_fm, Ctl.setE_fm, Ctl.setE_fm]
  unfold Ctl.logPut
  exact Ctl.reports_log c _ _ _ _ _

theorem Ctl.reports_sequence (c : Ctl) (code : Nat) (r : EvRec) (h : isFault code = false) :
    (c.sequence code r).fm.reports = c.fm.reports := by
  simp only [Ctl.sequence]
  split
  · next hfault => exact absurd (hfault.symm.trans h) (by decide)
  · split
    · exact Ctl.reports_logAdd ..
    · rfl

theorem Ctl.reports_postOne (c : Ctl) (code : Nat) (items : List (Nat × Nat)) (h : isFault code = false) :
    (c.postOne code items).fm.reports = c.fm.reports := by
  simp only [Ctl.postOne]
  rw [Ctl.reports_sequence _ _ _ h, Ctl.fm_tell]

theorem Ctl.reports_postDrops (c : Ctl) (q : Nat) : (c.postDrops q).fm.reports = c.fm.reports := by
  simp only [Ctl.postDrops]
  split
  · split
    · rfl
    · exact Ctl.reports_postOne _ _ _ (by decide)
  · split
    · rfl
    · exact Ctl.reports_postOne _ _ _ (by decide)

/-- Posting an event that is no fault leaves the fault sequencer's reports. -/
theorem Ctl.reports_post (c : Ctl) (code : Nat) (items : List (Nat × Nat)) (h : isFault code = false) :
    (c.post code items).fm.reports = c.fm.reports := by
  unfold Ctl.post
  rw [Ctl.reports_postDrops, Ctl.reports_postDrops, Ctl.reports_postOne _ _ _ h]

/-! ### ENUM_DONE (01 R23 to R25, 12 R363) -/

/-- A part takes the tile indices and CLOSED of an ENUM_DONE and shows them. -/
def Ctl.enumShown (c : Ctl) (tiles : List Nat) (closed : Nat) : Ctl :=
  (((c.setE 0x210004 tiles.length).setE 0x210006 closed).setRg (fun r => { r with
    tileIndices := tiles, enumerated := true,
    downEast := some (maskFor (tiles.drop (c.e 0x210003 + 1))), downWest := some (maskFor (tiles.take (c.e 0x210003))) })).showMasks

/-- The head's events at the end of an enumeration (01 R23 to R25). -/
def Ctl.enumEvents (c : Ctl) (tiles : List Nat) (closed : Nat) : Ctl :=
  let c := c.post 0x1101 [i8 tiles.length, i8 closed]
  (dupTiles tiles).foldl (fun c q => c.post 0x1181 [i8 q.1, i8 q.2]) (if tiles.length > 1 && closed = 0 then c.post 0x1141 [] else c)

theorem Ctl.enumDone_eq (c : Ctl) (tiles : List Nat) (closed : Nat) (h : c.cpaUp = true) :
    c.enumDone tiles closed =
      if (c.enumShown tiles closed).e 0x210002 ≠ 1 || !(c.enumShown tiles closed).rg.enumerating then c.enumShown tiles closed
      else ((c.enumShown tiles closed).setRg (fun r => { r with enumerating := false })).enumEvents tiles closed := by
  unfold Ctl.enumDone
  rw [h]
  rfl

/-- The events keep whatever each of the three keeps. -/
theorem Ctl.enumEvents_keeps {β : Type} (g : Ctl → β)
    (hg : ∀ (c : Ctl) (code : Nat) (items : List (Nat × Nat)), code ∈ [0x1101, 0x1141, 0x1181] → g (c.post code items) = g c)
    (c : Ctl) (tiles : List Nat) (closed : Nat) : g (c.enumEvents tiles closed) = g c := by
  unfold Ctl.enumEvents
  rw [foldl_keeps g _ _ _ fun d q _ => hg d _ _ (by decide)]
  split
  · rw [hg _ _ _ (by decide), hg _ _ _ (by decide)]
  · exact hg _ _ _ (by decide)

theorem Ctl.e_enumEvents (c : Ctl) (tiles : List Nat) (closed : Nat) {k : Nat} (hk : postKey k = false) :
    (c.enumEvents tiles closed).e k = c.e k :=
  Ctl.enumEvents_keeps (fun d => d.e k) (fun d _ _ hcode => Ctl.e_post d _ _ k hk (by
    simp only [List.mem_cons, List.not_mem_nil, or_false] at hcode
    omega)) c tiles closed

theorem Ctl.rg_enumEvents (c : Ctl) (tiles : List Nat) (closed : Nat) : (c.enumEvents tiles closed).rg = c.rg :=
  Ctl.enumEvents_keeps Ctl.rg (fun d _ _ _ => Ctl.post_rg d _ _) c tiles closed

theorem Ctl.reports_enumEvents (c : Ctl) (tiles : List Nat) (closed : Nat) : (c.enumEvents tiles closed).fm.reports = c.fm.reports :=
  Ctl.enumEvents_keeps (fun d => d.fm.reports) (fun d _ _ hcode => Ctl.reports_post d _ _ (by
    simp only [List.mem_cons, List.not_mem_nil, or_false] at hcode
    rcases hcode with rfl | rfl | rfl <;> decide)) c tiles closed

/-- RING_SIZE, CLOSED and the masks are the entries that an ENUM_DONE sets. -/
theorem Ctl.e_enumShown (c : Ctl) (tiles : List Nat) (closed k : Nat) (hk : k < 0x210008) :
    (c.enumShown tiles closed).e k = if k = 0x210004 then tiles.length else if k = 0x210006 then closed else c.e k := by
  have hwest : ¬ 0x210009 = k := by omega
  have heast : ¬ 0x210008 = k := by omega
  unfold Ctl.enumShown Ctl.showMasks
  rw [Ctl.e_setEv, if_neg hwest, Ctl.e_setEv, if_neg heast, Ctl.e_setRg, Ctl.e_setE, Ctl.e_setE]
  grind

/-- An ENUM_DONE sets RING_SIZE and CLOSED, and of the entries below the masks no other. -/
theorem Ctl.e_enumDone (c : Ctl) (tiles : List Nat) (closed k : Nat) (h : c.cpaUp = true) (hk : k < 0x210008) :
    (c.enumDone tiles closed).e k = if k = 0x210004 then tiles.length else if k = 0x210006 then closed else c.e k := by
  have hpost : postKey k = false := by
    simp only [postKey, Bool.or_eq_false_iff, Bool.and_eq_false_iff, decide_eq_false_iff_not]
    omega
  rw [Ctl.enumDone_eq c tiles closed h, ← Ctl.e_enumShown c tiles closed k hk]
  split
  · rfl
  · exact Ctl.e_enumEvents _ _ _ hpost

/-- The ring part after an ENUM_DONE: the tile indices are those it carried, and the head's enumeration is over. -/
theorem Ctl.rg_enumDone (c : Ctl) (tiles : List Nat) (closed : Nat) (h : c.cpaUp = true) :
    (c.enumDone tiles closed).rg.tileIndices = tiles ∧ (c.enumDone tiles closed).rg.enumAgain = c.rg.enumAgain ∧
      (c.e 0x210002 = 1 → (c.enumDone tiles closed).rg.enumerating = false) := by
  have hrole : (c.enumShown tiles closed).e 0x210002 = c.e 0x210002 := Ctl.e_enumShown c tiles closed 0x210002 (by decide)
  rw [Ctl.enumDone_eq c tiles closed h, hrole]
  split
  · next hskip => exact ⟨rfl, rfl, fun hhead => by simpa [hhead] using hskip⟩
  · rw [Ctl.rg_enumEvents]
    exact ⟨rfl, rfl, fun _ => rfl⟩

theorem Ctl.reports_enumDone (c : Ctl) (tiles : List Nat) (closed : Nat) (h : c.cpaUp = true) :
    (c.enumDone tiles closed).fm.reports = c.fm.reports := by
  rw [Ctl.enumDone_eq c tiles closed h]
  split
  · rfl
  · exact Ctl.reports_enumEvents ..

/-! ### ENUM (01 R23) -/

/-- CP-A still runs after a message of the side channel. -/
theorem Ctl.cpaUp_congr {c d : Ctl} (h : d.e 0x158001 = c.e 0x158001) : d.cpaUp = c.cpaUp := by
  unfold Ctl.cpaUp Ctl.ea
  rw [show ekey 0x1580 (0 + 1) = 0x158001 from rfl, h]

/-- The part with its position set. -/
def Ctl.positioned (c : Ctl) (tiles : List Nat) : Ctl := c.setE 0x210003 tiles.length

/-- The last part of the ring returns ENUM_DONE and takes it itself. -/
def Ctl.enumReturn (c : Ctl) (tiles : List Nat) (closed : Nat) : Ctl :=
  (c.sideSend 1 2 0xFD (tiles.map byteOf ++ [byteOf closed])).enumDone tiles closed

theorem Ctl.enumPass_eq (c : Ctl) (tiles : List Nat) (h : c.cpaUp = true) :
    c.enumPass tiles =
      if c.portUp 0 && (c.positioned tiles).facesPart 0 then (c.positioned tiles).sideSend 0 1 0xFE ((tiles ++ [c.tileIndex]).map byteOf)
      else (c.positioned tiles).enumReturn (tiles ++ [c.tileIndex]) (b2n (c.portUp 0 && (c.positioned tiles).facesFeeder 0)) := by
  have hpos : c.setE 0x210003 ((tiles ++ [c.tileIndex]).length - 1) = c.positioned tiles := by
    rw [List.length_append, List.length_singleton, Nat.add_sub_cancel]
    rfl
  unfold Ctl.enumPass
  rw [h, ← hpos]
  rfl

theorem Ctl.cpaUp_positioned_sideSend (c : Ctl) (tiles : List Nat) (p ty dst : Nat) (body : List Byte) :
    ((c.positioned tiles).sideSend p ty dst body).cpaUp = c.cpaUp :=
  Ctl.cpaUp_congr ((Ctl.e_sideSend _ _ _ _ _ (by decide)).trans (by simp [Ctl.positioned]))

/-- The entries below the masks after the last part has returned ENUM_DONE. -/
theorem Ctl.e_enumReturn (c : Ctl) (tiles ts : List Nat) (closed k : Nat) (h : c.cpaUp = true) (hk : k < 0x210008) :
    ((c.positioned tiles).enumReturn ts closed).e k =
      if k = 0x210004 then ts.length else if k = 0x210006 then closed else (c.positioned tiles).e k := by
  unfold Ctl.enumReturn
  rw [Ctl.e_enumDone _ _ _ _ ((Ctl.cpaUp_positioned_sideSend ..).trans h) hk, Ctl.e_sideSend _ _ _ _ _ (by omega)]

/-- A part takes the place behind the parts that the ENUM names. -/
theorem Ctl.enumPass_position (c : Ctl) (tiles : List Nat) (h : c.cpaUp = true) : (c.enumPass tiles).e 0x210003 = tiles.length := by
  have hset : (c.positioned tiles).e 0x210003 = tiles.length := by simp [Ctl.positioned]
  rw [Ctl.enumPass_eq c tiles h]
  split
  · exact (Ctl.e_sideSend _ _ _ _ _ (by decide)).trans hset
  · rw [Ctl.e_enumReturn _ _ _ _ _ h (by decide)]
    exact hset

theorem Ctl.reports_enumPass (c : Ctl) (tiles : List Nat) (h : c.cpaUp = true) : (c.enumPass tiles).fm.reports = c.fm.reports := by
  have hsend : ∀ (p ty dst : Nat) (body : List Byte), ((c.positioned tiles).sideSend p ty dst body).fm.reports = c.fm.reports :=
    fun p ty dst body => Ctl.of_offSide (fun d => d.fm.reports) (fun _ => rfl) (Ctl.offSide_sideSend (c.positioned tiles) p ty dst body)
  rw [Ctl.enumPass_eq c tiles h]
  split
  · exact hsend ..
  · exact (Ctl.reports_enumDone _ _ _ ((Ctl.cpaUp_positioned_sideSend ..).trans h)).trans (hsend ..)

/-! ### The head starts an enumeration (01 R23) -/

theorem Ctl.enumerate_of_not_head (c : Ctl) (h : c.e 0x210002 ≠ 1) : c.enumerate = c := if_pos h

/-- A part that is not the head starts nothing. -/
theorem Ctl.enumFollow_of_not_head (c : Ctl) (h : c.e 0x210002 ≠ 1) : c.enumFollow = c := by
  unfold Ctl.enumFollow
  rw [Ctl.enumerate_of_not_head c h, ite_self]

/-- Without a further cause nothing follows. -/
theorem Ctl.enumFollow_of_not_again (c : Ctl) (h : c.rg.enumAgain = false) : c.enumFollow = c := by
  unfold Ctl.enumFollow
  rw [h]
  rfl

/-- While an enumeration runs, a cause asks for one more (assumption log 56). -/
theorem Ctl.enumerate_while_enumerating (c : Ctl) (hcpa : c.cpaUp = true) (hhead : c.e 0x210002 = 1) (hrun : c.rg.enumerating = true) :
    c.enumerate.enumFollow = c.setRg (fun r => { r with enumAgain := true }) := by
  have hask : c.enumerate = c.setRg (fun r => { r with enumAgain := true }) := by simp [Ctl.enumerate, hhead, hcpa, hrun]
  rw [hask]
  unfold Ctl.enumFollow
  rw [show (c.setRg (fun r => { r with enumAgain := true })).rg.enumerating = true from hrun]
  rfl

theorem Ctl.enumerate_of_idle (c : Ctl) (hcpa : c.cpaUp = true) (hhead : c.e 0x210002 = 1) (hidle : c.rg.enumerating = false) :
    c.enumerate = (c.setRg (fun r => { r with enumerating := true, enumAgain := false })).enumPass [] := by
  simp [Ctl.enumerate, hhead, hcpa, hidle]

/-- A head with no part to the East is a ring of its own: position 0, one part, open, and its own tile index alone. -/
theorem Ctl.enumerate_alone (c : Ctl) (hcpa : c.cpaUp = true) (hhead : c.e 0x210002 = 1) (hidle : c.rg.enumerating = false)
    (heast : c.portUp 0 = false) :
    c.enumerate.enumFollow.e 0x210003 = 0 ∧ c.enumerate.enumFollow.e 0x210004 = 1 ∧ c.enumerate.enumFollow.e 0x210006 = 0 ∧
      c.enumerate.enumFollow.rg.tileIndices = [c.tileIndex] ∧ c.enumerate.enumFollow.rg.enumerating = false := by
  generalize hd : c.setRg (fun r => { r with enumerating := true, enumAgain := false }) = d
  have hdcpa : d.cpaUp = true := by rw [← hd]; exact hcpa
  have hdagain : d.rg.enumAgain = false := by rw [← hd]; rfl
  have hdtile : d.tileIndex = c.tileIndex := by rw [← hd]; rfl
  have hdeast : d.portUp 0 = false := by rw [← hd]; exact heast
  have hpos0 : (d.positioned []).e 0x210002 = 1 := by rw [← hd]; simpa [Ctl.positioned] using hhead
  have hlast : c.enumerate = (d.positioned []).enumReturn [c.tileIndex] 0 := by
    rw [Ctl.enumerate_of_idle c hcpa hhead hidle, hd, Ctl.enumPass_eq d [] hdcpa, hdeast, hdtile]
    rfl
  have hsent := (Ctl.cpaUp_positioned_sideSend d [] 1 2 0xFD ([c.tileIndex].map byteOf ++ [byteOf 0])).trans hdcpa
  obtain ⟨htiles, hagain, hover⟩ := Ctl.rg_enumDone _ [c.tileIndex] 0 hsent
  have hfollow : c.enumerate.enumFollow = c.enumerate := by
    refine Ctl.enumFollow_of_not_again _ ?_
    rw [hlast]
    exact hagain.trans ((Ctl.of_offSide (fun x => x.rg.enumAgain) (fun _ => rfl) (Ctl.offSide_sideSend ..)).trans hdagain)
  rw [hfollow, hlast]
  refine ⟨?_, ?_, ?_, htiles, hover ((Ctl.e_sideSend _ _ _ _ _ (by decide)).trans hpos0)⟩
  · rw [Ctl.e_enumReturn _ _ _ _ _ hdcpa (by decide)]
    simp [Ctl.positioned]
  · rw [Ctl.e_enumReturn _ _ _ _ _ hdcpa (by decide)]
    rfl
  · rw [Ctl.e_enumReturn _ _ _ _ _ hdcpa (by decide)]
    rfl

end Sys2Proof.Machine
end

section
/-! PROOFS. Counts of the line code (12 R359): FEC_CORRECTED and FEC_UNCORRECTABLE change only where the results of a frame are taken. One
equation for each operation that a frame can lead to, in the order of the model's definitions. -/
namespace Sys2Proof.Machine

/-! ### The counts, and what an entry elsewhere leaves -/

/-- FEC_CORRECTED and FEC_UNCORRECTABLE of both ports. -/
def Ctl.fecCounts (c : Ctl) : List Nat := [c.ea 0x2119 0, c.ea 0x2119 1, c.ea 0x211A 0, c.ea 0x211A 1]

/-- The entries of the counts. -/
def fecKey (k : Nat) : Bool := decide (0x211900 ≤ k) && decide (k < 0x211B00)

theorem fecKey_eq_false {k : Nat} (h : k < 0x211900 ∨ 0x211B00 ≤ k) : fecKey k = false := by
  rw [fecKey, Bool.and_eq_false_iff, decide_eq_false_iff_not, decide_eq_false_iff_not]
  omega

theorem bounds_of_fecKey {k : Nat} (h : fecKey k = true) : 0x211900 ≤ k ∧ k < 0x211B00 := by simpa [fecKey] using h

/-- The counts of one port are among those of both. -/
theorem Ctl.ea_of_fecCounts {c d : Ctl} (h : d.fecCounts = c.fecCounts) {p : Nat} (hp : p < 2) :
    d.ea 0x2119 p = c.ea 0x2119 p ∧ d.ea 0x211A p = c.ea 0x211A p := by
  simp only [Ctl.fecCounts, List.cons.injEq, and_true] at h
  obtain ⟨hc0, hc1, hu0, hu1⟩ := h
  obtain rfl | rfl : p = 0 ∨ p = 1 := by omega
  · exact ⟨hc0, hu0⟩
  · exact ⟨hc1, hu1⟩

/-- Whatever leaves the entries of the counts leaves the counts. -/
theorem Ctl.fecCounts_congr {c d : Ctl} (h : ∀ k, fecKey k = true → d.e k = c.e k) : d.fecCounts = c.fecCounts := by
  unfold Ctl.fecCounts Ctl.ea
  rw [h _ (by decide), h _ (by decide), h _ (by decide), h _ (by decide)]

theorem Ctl.fecCounts_setEv (c : Ctl) (k : Nat) (v : EVal) (hk : fecKey k = false) : (c.setEv k v).fecCounts = c.fecCounts :=
  Ctl.fecCounts_congr fun k' hk' => by
    rw [Ctl.e_setEv, if_neg]
    rintro rfl
    exact absurd (hk'.symm.trans hk) (by decide)

theorem Ctl.fecCounts_setE (c : Ctl) (k n : Nat) (hk : fecKey k = false) : (c.setE k n).fecCounts = c.fecCounts :=
  c.fecCounts_setEv k _ hk

/-- The tables of the lanes lie below the counts. -/
@[simp] theorem Ctl.fecCounts_setEa_lane (c : Ctl) (idx l n : Nat) (hidx : idx ≤ 0x2020) (hl : l < 512) :
    (c.setEa idx l n).fecCounts = c.fecCounts :=
  c.fecCounts_setE (ekey idx (l + 1)) n (fecKey_eq_false (by unfold ekey; omega))

/-- The other tables of the ports lie beside the counts. -/
@[simp] theorem Ctl.fecCounts_setEa_port (c : Ctl) (idx p n : Nat) (hp : p < 2) (hcorr : idx ≠ 0x2119) (hunc : idx ≠ 0x211A) :
    (c.setEa idx p n).fecCounts = c.fecCounts :=
  c.fecCounts_setE (ekey idx (p + 1)) n (fecKey_eq_false (by unfold ekey; omega))

@[simp] theorem Ctl.fecCounts_incEa_lane (c : Ctl) (idx l : Nat) (hidx : idx ≤ 0x2020) (hl : l < 512) :
    (c.incEa idx l).fecCounts = c.fecCounts := c.fecCounts_setEa_lane idx l _ hidx hl

@[simp] theorem Ctl.fecCounts_incEa_port (c : Ctl) (idx p : Nat) (hp : p < 2) (hcorr : idx ≠ 0x2119) (hunc : idx ≠ 0x211A) :
    (c.incEa idx p).fecCounts = c.fecCounts := c.fecCounts_setEa_port idx p _ hp hcorr hunc

@[simp] theorem Ctl.fecCounts_emit (c : Ctl) (x : Emit) : (c.emit x).fecCounts = c.fecCounts := rfl
@[simp] theorem Ctl.fecCounts_setRg (c : Ctl) (f : RgState → RgState) : (c.setRg f).fecCounts = c.fecCounts := rfl
@[simp] theorem Ctl.fecCounts_setRgPort (c : Ctl) (p : Nat) (f : RgPort → RgPort) : (c.setRgPort p f).fecCounts = c.fecCounts := rfl
@[simp] theorem Ctl.fecCounts_setLane (c : Ctl) (l : Nat) (f : Lane → Lane) : (c.setLane l f).fecCounts = c.fecCounts := rfl
@[simp] theorem Ctl.fecCounts_setPort (c : Ctl) (p : Nat) (f : Port → Port) : (c.setPort p f).fecCounts = c.fecCounts := rfl
@[simp] theorem Ctl.fecCounts_setReg (c : Ctl) (r : RegName) (i l v : Nat) : (c.setReg r i l v).fecCounts = c.fecCounts := rfl
@[simp] theorem Ctl.fecCounts_addReg (c : Ctl) (r : RegName) (i l w n : Nat) : (c.addReg r i l w n).fecCounts = c.fecCounts := rfl

@[simp] theorem Ctl.fecCounts_ite (b : Prop) [Decidable b] (c d : Ctl) :
    (if b then c else d).fecCounts = if b then c.fecCounts else d.fecCounts := apply_ite Ctl.fecCounts b c d

theorem foldl_keeps_fecCounts {α : Type} (f : Ctl → α → Ctl) (l : List α) (c : Ctl) (h : ∀ d, ∀ a ∈ l, (f d a).fecCounts = d.fecCounts) :
    (l.foldl f c).fecCounts = c.fecCounts := foldl_keeps Ctl.fecCounts f l c h

/-! ### Events -/

@[simp] theorem Ctl.fecCounts_post (c : Ctl) (code : Nat) (items : List (Nat × Nat)) (hc : code < 65536) :
    (c.post code items).fecCounts = c.fecCounts :=
  Ctl.fecCounts_congr fun k hk => Ctl.e_post c code items k (by
    obtain ⟨hlo, hhi⟩ := bounds_of_fecKey hk
    simp only [postKey, Bool.or_eq_false_iff, Bool.and_eq_false_iff, decide_eq_false_iff_not]
    omega) hc

@[simp] theorem Ctl.fecCounts_ringWarn (c : Ctl) (code p : Nat) (items : List (Nat × Nat)) (hc : code < 65536) :
    (c.ringWarn code p items).fecCounts = c.fecCounts := by
  have hbit : (c.eventBit code).fecCounts = c.fecCounts := by unfold Ctl.eventBit; split <;> rfl
  simp only [Ctl.ringWarn]
  split
  · exact hbit
  · exact Ctl.fecCounts_post _ _ _ hc

/-! ### The side channel and the lane maps -/

@[simp] theorem Ctl.fecCounts_sideQueue (c : Ctl) (p n ty dst : Nat) (m : List Byte) : (c.sideQueue p n ty dst m).fecCounts = c.fecCounts :=
  Ctl.fecCounts_congr fun k hk => Ctl.e_sideQueue c p n ty dst m (by
    obtain ⟨-, hhi⟩ := bounds_of_fecKey hk
    omega)

@[simp] theorem Ctl.fecCounts_sideSend (c : Ctl) (p ty dst : Nat) (body : List Byte) : (c.sideSend p ty dst body).fecCounts = c.fecCounts := by
  simp [Ctl.sideSend]

@[simp] theorem Ctl.fecCounts_setLaneSt (c : Ctl) (l st : Nat) (hl : l < 512) : (c.setLaneSt l st).fecCounts = c.fecCounts := by
  have hport : l < 18 → ∀ (d : Ctl) (n : Nat), (d.setEa 0x2003 (l / 9) n).fecCounts = d.fecCounts :=
    fun h d n => d.fecCounts_setEa_lane _ _ _ (by decide) (by omega)
  simp only [Ctl.setLaneSt]
  split
  · next h => rw [hport h, Ctl.fecCounts_setEa_lane _ _ _ _ (by decide) hl]
  · exact Ctl.fecCounts_setEa_lane _ _ _ _ (by decide) hl

@[simp] theorem Ctl.fecCounts_drainPort (c : Ctl) (p : Nat) : (c.drainPort p).fecCounts = c.fecCounts :=
  Ctl.fecCounts_congr fun k _ => Ctl.e_congr (c.drainPort_ent p) k

theorem mapIdx_ne_fec (tx : Bool) : mapIdx tx ≠ 0x2119 ∧ mapIdx tx ≠ 0x211A := by cases tx <;> decide

@[simp] theorem Ctl.fecCounts_setMap (c : Ctl) (p : Nat) (tx : Bool) (failed base : Nat) (hp : p < 2) :
    (c.setMap p tx failed base).fecCounts = c.fecCounts := by
  obtain ⟨hcorr, hunc⟩ := mapIdx_ne_fec tx
  unfold Ctl.setMap
  rw [Ctl.fecCounts_setEa_port _ _ _ _ hp hcorr hunc]
  simp

@[simp] theorem Ctl.fecCounts_refreshKeep (c : Ctl) : c.refreshKeep.fecCounts = c.fecCounts := by
  have hports : ∀ (d : Ctl), ((List.range 2).foldl (fun c p => (c.setEa 0x2112 p (c.keepIn p)).setEa 0x2113 p
      (c.keepFor (c.stripes p true) &&& c.keepIn p)) d).fecCounts = d.fecCounts :=
    fun d => foldl_keeps_fecCounts _ _ _ fun x p hp => by simp [List.mem_range.1 hp]
  have hkeep : ∀ (d : Ctl) (n : Nat), (d.setE 0x210007 n).fecCounts = d.fecCounts := fun d n => d.fecCounts_setE _ n (by decide)
  simp only [Ctl.refreshKeep]
  split <;> split <;> simp [hports, hkeep]

@[simp] theorem Ctl.fecCounts_sendMaps (c : Ctl) (p : Nat) : (c.sendMaps p).fecCounts = c.fecCounts := by simp [Ctl.sendMaps]

@[simp] theorem Ctl.fecCounts_askChange (c : Ctl) (p add : Nat) : (c.askChange p add).fecCounts = c.fecCounts := rfl

@[simp] theorem Ctl.fecCounts_switchMap (c : Ctl) (p : Nat) (tx : Bool) (failed base : Nat) (hp : p < 2) :
    (c.switchMap p tx failed base).fecCounts = c.fecCounts := by
  simp only [Ctl.switchMap]
  rw [foldl_keeps_fecCounts _ _ _ fun d n _ => by simp]
  simp [hp]

@[simp] theorem Ctl.fecCounts_linkReduced (c : Ctl) (p was : Nat) : (c.linkReduced p was).fecCounts = c.fecCounts := by
  simp [Ctl.linkReduced]

@[simp] theorem Ctl.fecCounts_wakeSpare (c : Ctl) (p : Nat) (taken : List Nat) (hp : p < 2) (htaken : ∀ n ∈ taken, n < 256) :
    (c.wakeSpare p taken).fecCounts = c.fecCounts :=
  foldl_keeps_fecCounts _ _ _ fun d n hn => by
    have hlane : 9 * p + n < 512 := by have := htaken n hn; omega
    simp [hlane]

/-! ### Roles and enumeration -/

@[simp] theorem Ctl.fecCounts_showRole (c : Ctl) : c.showRole.fecCounts = c.fecCounts := by
  simp only [Ctl.showRole]
  rw [Ctl.fecCounts_setE _ _ _ (by decide)]
  simp

@[simp] theorem Ctl.fecCounts_enumShown (c : Ctl) (tiles : List Nat) (closed : Nat) : (c.enumShown tiles closed).fecCounts = c.fecCounts := by
  unfold Ctl.enumShown Ctl.showMasks
  rw [Ctl.fecCounts_setEv _ _ _ (by decide), Ctl.fecCounts_setEv _ _ _ (by decide), Ctl.fecCounts_setRg,
    Ctl.fecCounts_setE _ _ _ (by decide), Ctl.fecCounts_setE _ _ _ (by decide)]

@[simp] theorem Ctl.fecCounts_enumDone (c : Ctl) (tiles : List Nat) (closed : Nat) : (c.enumDone tiles closed).fecCounts = c.fecCounts := by
  cases hcpa : c.cpaUp with
  | false => simp [Ctl.enumDone, hcpa]
  | true =>
    rw [Ctl.enumDone_eq c tiles closed hcpa]
    split
    · exact Ctl.fecCounts_enumShown ..
    · rw [Ctl.enumEvents_keeps Ctl.fecCounts fun d code items hcode => Ctl.fecCounts_post d code items (by
        simp only [List.mem_cons, List.not_mem_nil, or_false] at hcode
        omega)]
      simp

@[simp] theorem Ctl.fecCounts_enumPass (c : Ctl) (tiles : List Nat) : (c.enumPass tiles).fecCounts = c.fecCounts := by
  have hpos : (c.positioned tiles).fecCounts = c.fecCounts := Ctl.fecCounts_setE _ _ _ (by decide)
  cases hcpa : c.cpaUp with
  | false => simp [Ctl.enumPass, hcpa]
  | true =>
    rw [Ctl.enumPass_eq c tiles hcpa]
    simp [Ctl.enumReturn, hpos]

@[simp] theorem Ctl.fecCounts_enumerate (c : Ctl) : c.enumerate.fecCounts = c.fecCounts := by simp [Ctl.enumerate]

@[simp] theorem Ctl.fecCounts_enumFollow (c : Ctl) : c.enumFollow.fecCounts = c.fecCounts := by simp [Ctl.enumFollow]

@[simp] theorem Ctl.fecCounts_enumSettled (c : Ctl) : c.enumSettled.fecCounts = c.fecCounts := by simp [Ctl.enumSettled]

/-! ### A port comes up and goes down -/

@[simp] theorem Ctl.fecCounts_ringUp (c : Ctl) (p code mask : Nat) (hp : p < 2) : (c.ringUp p code mask).fecCounts = c.fecCounts := by
  simp [Ctl.ringUp, hp]

@[simp] theorem Ctl.fecCounts_ringDown (c : Ctl) (p : Nat) (hp : p < 2) : (c.ringDown p).fecCounts = c.fecCounts := by
  simp [Ctl.ringDown, hp]

/-! ### The lanes -/

theorem lt_of_mem_bitsOf {n w i : Nat} (h : i ∈ bitsOf n w) : i < n := List.mem_range.1 (List.mem_filter.1 h).1

@[simp] theorem Ctl.fecCounts_laneBegin (c : Ctl) (l st : Nat) (solo : Bool) (hl : l < 512) :
    (c.laneBegin l st solo).fecCounts = c.fecCounts := by
  simp [Ctl.laneBegin, Ctl.latchEye, hl]

@[simp] theorem Ctl.fecCounts_laneSleep (c : Ctl) (l : Nat) (hl : l < 512) : (c.laneSleep l).fecCounts = c.fecCounts := by
  simp [Ctl.laneSleep, hl]

@[simp] theorem Ctl.fecCounts_laneAct (c : Ctl) (l code : Nat) (hl : l < 512) : (c.laneAct l code).fecCounts = c.fecCounts := by
  simp [Ctl.laneAct, Ctl.latchEye, hl]

@[simp] theorem Ctl.fecCounts_laneResume (c : Ctl) (l code : Nat) (hl : l < 512) : (c.laneResume l code).fecCounts = c.fecCounts := by
  simp [Ctl.laneResume, hl]

@[simp] theorem Ctl.fecCounts_markFailed (c : Ctl) (l cause : Nat) (hl : l < 512) : (c.markFailed l cause).fecCounts = c.fecCounts := by
  simp [Ctl.markFailed, hl]

@[simp] theorem Ctl.fecCounts_laneUp (c : Ctl) (l : Nat) (hl : l < 512) : (c.laneUp l).fecCounts = c.fecCounts := by
  simp [Ctl.laneUp, hl]

/-! ### Bring-up of a port -/

/-- What is done to each of the nine lanes of a port is done to lanes of the tables. -/
theorem fecCounts_foldl_lanes (p : Nat) (hp : p < 2) (lanes : List Nat) (hlanes : ∀ n ∈ lanes, n < 9) (f : Ctl → Nat → Ctl) (c : Ctl)
    (h : ∀ (d : Ctl) (n : Nat), 9 * p + n < 512 → (f d n).fecCounts = d.fecCounts) : (lanes.foldl f c).fecCounts = c.fecCounts :=
  foldl_keeps_fecCounts f lanes c fun d n hn => h d n (by have := hlanes n hn; omega)

@[simp] theorem Ctl.fecCounts_portStart (c : Ctl) (p : Nat) (hp : p < 2) : (c.portStart p).fecCounts = c.fecCounts := by
  simp only [Ctl.portStart]
  rw [Ctl.fecCounts_showRole, fecCounts_foldl_lanes p hp _ (fun _ => List.mem_range.1) _ _ fun d n hl => by simp [hl]]
  simp [Ctl.latchPort, hp]

@[simp] theorem Ctl.fecCounts_portUpAt (c : Ctl) (p code mask : Nat) (hp : p < 2) : (c.portUpAt p code mask).fecCounts = c.fecCounts := by
  simp only [Ctl.portUpAt]
  rw [Ctl.fecCounts_ringUp _ _ _ _ hp, Ctl.fecCounts_post _ _ _ (by decide), Ctl.fecCounts_setEa_port _ _ _ _ hp (by decide) (by decide),
    Ctl.fecCounts_setPort, fecCounts_foldl_lanes p hp _ (fun _ => lt_of_mem_bitsOf) _ _ fun d n hl => Ctl.fecCounts_laneUp d _ hl]

@[simp] theorem Ctl.fecCounts_startStep (c : Ctl) (p code mask : Nat) : (c.startStep p code mask).fecCounts = c.fecCounts :=
  foldl_keeps_fecCounts _ _ _ fun _ _ _ => rfl

@[simp] theorem Ctl.fecCounts_portContinue (c : Ctl) (p code mask : Nat) (hp : p < 2) :
    (c.portContinue p code mask).fecCounts = c.fecCounts := by
  simp [Ctl.portContinue, hp]

@[simp] theorem Ctl.fecCounts_pairedAll (c : Ctl) (p : Nat) (hp : p < 2) : (c.pairedAll p).fecCounts = c.fecCounts := by
  simp [Ctl.pairedAll, hp]

@[simp] theorem Ctl.fecCounts_soloNext (c : Ctl) (l code : Nat) (hl : l < 512) : (c.soloNext l code).fecCounts = c.fecCounts := by
  simp [Ctl.soloNext, hl]

@[simp] theorem Ctl.fecCounts_portSleep (c : Ctl) (p stage : Nat) (ask : Bool) (hp : p < 2) :
    (c.portSleep p stage ask).fecCounts = c.fecCounts := by
  simp only [Ctl.portSleep]
  rw [Ctl.fecCounts_enumSettled, Ctl.fecCounts_showRole, Ctl.fecCounts_setEa_port _ _ _ _ hp (by decide) (by decide),
    Ctl.fecCounts_setEa_port _ _ _ _ hp (by decide) (by decide), Ctl.fecCounts_setPort,
    fecCounts_foldl_lanes p hp _ (fun _ => List.mem_range.1) _ _ fun d n hl => by simp [hl], Ctl.fecCounts_ringDown _ _ hp]

/-! ### Lane control frames -/

@[simp] theorem Ctl.fecCounts_capability (c : Ctl) (l : Nat) (b : List Byte) (hl : l < 18) : (c.capability l b).fecCounts = c.fecCounts := by
  have hp : l / 9 < 2 := by omega
  have hl' : l < 512 := by omega
  unfold Ctl.capability
  extract_lets p n w feeder place misplaced mask asked run counted cls paired shown
  have hmisplaced : misplaced.fecCounts = c.fecCounts := by simp [misplaced]
  have hasked : asked.fecCounts = c.fecCounts := by simp [asked]
  have hshown : shown.fecCounts = c.fecCounts := by
    rw [Ctl.fecCounts_showRole, Ctl.fecCounts_setEa_port _ _ _ _ hp (by decide) (by decide)]
    exact hasked
  split
  · rfl
  · split
    · exact hmisplaced
    · split
      · exact hasked
      · split
        · exact hasked
        · split
          · exact hshown
          · split
            · exact (Ctl.fecCounts_soloNext _ _ _ hl').trans hshown
            · exact (Ctl.fecCounts_pairedAll _ _ hp).trans hshown

@[simp] theorem Ctl.fecCounts_tapRequests (c : Ctl) (l w : Nat) (hl : l < 512) : (c.tapRequests l w).fecCounts = c.fecCounts := by
  simp only [Ctl.tapRequests]
  split
  · simp [hl]
  · exact foldl_keeps_fecCounts _ _ _ fun d i _ => by simp [hl]

@[simp] theorem Ctl.fecCounts_tapsSettle (c : Ctl) (l : Nat) : (c.tapsSettle l).fecCounts = c.fecCounts := by
  simp only [Ctl.tapsSettle]
  split
  · rfl
  · split
    · rfl
    · split <;> rfl

@[simp] theorem Ctl.fecCounts_tapAnswers (c : Ctl) (l w : Nat) : (c.tapAnswers l w).fecCounts = c.fecCounts := by
  simp [Ctl.tapAnswers]

@[simp] theorem Ctl.fecCounts_changeFrame (c : Ctl) (l target count : Nat) (hl : l < 512) :
    (c.changeFrame l target count).fecCounts = c.fecCounts := by
  simp [Ctl.changeFrame, hl]

@[simp] theorem Ctl.fecCounts_refuseRest (c : Ctl) (p : Nat) : (c.refuseRest p).fecCounts = c.fecCounts :=
  foldl_keeps_fecCounts _ _ _ fun d n _ => by simp

@[simp] theorem Ctl.fecCounts_loopFrame (c : Ctl) (l arg : Nat) : (c.loopFrame l arg).fecCounts = c.fecCounts := by
  simp [Ctl.loopFrame]

@[simp] theorem Ctl.fecCounts_ctrlMsg (c : Ctl) (l ftype target arg : Nat) : (c.ctrlMsg l ftype target arg).fecCounts = c.fecCounts := by
  simp [Ctl.ctrlMsg]

@[simp] theorem Ctl.fecCounts_powerFrame (c : Ctl) (l arg : Nat) (hl : l < 18) : (c.powerFrame l arg).fecCounts = c.fecCounts := by
  have hp : l / 9 < 2 := by omega
  have hl' : l < 512 := by omega
  simp [Ctl.powerFrame, hp, hl']

/-- A lane control frame leaves the counts. -/
@[simp] theorem Ctl.fecCounts_laneFrame (c : Ctl) (l : Nat) (b : List Byte) : (c.laneFrame l b).fecCounts = c.fecCounts := by
  have hpass : ∀ (arg : Nat) (d : Ctl), ((List.range 9).foldl (fun c n =>
      if bit arg n then c.setLane (9 * (l / 9) + n) (fun x => { x with partnerPass := true }) else c) d).fecCounts = d.fecCounts :=
    fun arg d => foldl_keeps_fecCounts _ _ d fun d n _ => by simp
  simp only [Ctl.laneFrame]
  split
  · rfl
  · next hring =>
    have hl : l < 18 := by omega
    have hl' : l < 512 := by omega
    split
    · rfl
    · split
      · simp [hl]
      · simp [hl', Ctl.checkBegins]
      · simp [hl']
      · simp [hpass]
      · simp
      · simp [hl]

/-! ### A frame of the ring -/

/-- The lanes of an image's maps are octets. -/
theorem Ctl.normal_lt (c : Ctl) (p : Nat) (tx : Bool) : (c.normal p tx).spare < 256 ∧ ∀ n ∈ (c.normal p tx).stripe, n < 256 := by
  have hall : ∀ m ∈ laneMaps (imgSec c.img 5), m.spare < 256 ∧ ∀ n ∈ m.stripe, n < 256 := by
    intro m hm
    obtain ⟨k, -, rfl⟩ := List.mem_map.1 hm
    refine ⟨BitVec.isLt _, fun n hn => ?_⟩
    obtain ⟨i, -, rfl⟩ := List.mem_map.1 hn
    exact BitVec.isLt _
  have hfixed : (8 : Nat) < 256 ∧ ∀ n ∈ List.range 8, n < 256 := by decide
  unfold Ctl.normal Ctl.maps normalMap
  split
  · cases hfind : (laneMaps (imgSec c.img 5)).find? (fun m => m.dir = mapDir p tx && m.kind = 0) with
    | none => exact hfixed
    | some m => exact hall m (List.mem_of_find?_eq_some hfind)
  · exact hfixed

/-- Stripes that run are on lanes of the map. -/
theorem Ctl.stripeLanes_lt (c : Ctl) (p : Nat) (tx : Bool) (failed base : Nat) : ∀ n ∈ c.stripeLanes p tx failed base, n < 256 := by
  obtain ⟨hspare, hstripe⟩ := c.normal_lt p tx
  intro n hn
  have hmem := (List.mem_filter.1 hn).1
  split at hmem
  · obtain ⟨x, hx, rfl⟩ := List.mem_map.1 hmem
    split
    · exact hspare
    · exact hstripe x hx
  · exact hstripe n hmem

theorem Ctl.stripeLane_lt (c : Ctl) (p i : Nat) : c.stripeLane p i < 256 := by
  obtain ⟨hspare, hstripe⟩ := c.normal_lt p false
  have hget : (c.normal p false).stripe.getD i 0 < 256 := by
    rw [List.getD_eq_getElem?_getD]
    cases h : (c.normal p false).stripe[i]? with
    | none => decide
    | some n => exact hstripe n (List.mem_of_getElem? h)
  simp only [Ctl.stripeLane]
  split
  · exact hspare
  · exact hget

@[simp] theorem Ctl.fecCounts_transport (c : Ctl) (p stripe : Nat) (hp : p < 2) : (c.transport p stripe).fecCounts = c.fecCounts := by
  have hl : 9 * p + c.stripeLane p stripe < 512 := by have := c.stripeLane_lt p stripe; omega
  simp [Ctl.transport, hl]

@[simp] theorem Ctl.fecCounts_checkStripes (c : Ctl) (p : Nat) (hp : p < 2) : (c.checkStripes p).fecCounts = c.fecCounts := by
  simp [Ctl.checkStripes, Ctl.linkDown, hp]

@[simp] theorem Ctl.fecCounts_applyRx (c : Ctl) (p failed base : Nat) (hp : p < 2) : (c.applyRx p failed base).fecCounts = c.fecCounts := by
  simp only [Ctl.applyRx]
  rw [Ctl.fecCounts_checkStripes _ _ hp, Ctl.fecCounts_switchMap _ _ _ _ _ hp, Ctl.fecCounts_wakeSpare _ _ _ hp (Ctl.stripeLanes_lt _ _ _ _ _),
    foldl_keeps_fecCounts _ _ _ fun d n _ => Ctl.fecCounts_setLane d _ _, Ctl.fecCounts_setRgPort]

@[simp] theorem Ctl.fecCounts_frameLock (c : Ctl) (p good : Nat) (hp : p < 2) : (c.frameLock p good).fecCounts = c.fecCounts := by
  simp [Ctl.frameLock, hp]

@[simp] theorem Ctl.fecCounts_skewed (c : Ctl) (p : Nat) (ids skew : List Nat) (hp : p < 2) : (c.skewed p ids skew).fecCounts = c.fecCounts :=
  foldl_keeps_fecCounts _ _ _ fun d i _ => d.fecCounts_transport p i hp

@[simp] theorem Ctl.fecCounts_stripeFails (c : Ctl) (p : Nat) (ids : List Nat) (ok : List Bool) (hp : p < 2) :
    (c.stripeFails p ids ok).fecCounts = c.fecCounts := by
  simp only [Ctl.stripeFails]
  split
  · rfl
  · rw [foldl_keeps_fecCounts _ _ _ fun d i _ => (Ctl.fecCounts_transport _ p i hp).trans (Ctl.fecCounts_setRgPort d p _), Ctl.fecCounts_setRgPort]

@[simp] theorem Ctl.fecCounts_frameMap (c : Ctl) (p fseq w1 w2 : Nat) (hp : p < 2) : (c.frameMap p fseq w1 w2).fecCounts = c.fecCounts := by
  simp [Ctl.frameMap, hp]

@[simp] theorem Ctl.fecCounts_frameDue (c : Ctl) (p : Nat) (hp : p < 2) : (c.frameDue p).fecCounts = c.fecCounts := by
  unfold Ctl.frameDue
  split
  · simp [hp]
  · rfl

/-! ### Messages that a frame completes (12 R367) -/

@[simp] theorem Ctl.fecCounts_mapsMsg (c : Ctl) (p tx rx : Nat) : (c.mapsMsg p tx rx).fecCounts = c.fecCounts := by
  simp [Ctl.mapsMsg]

@[simp] theorem Ctl.fecCounts_mapReqMsg (c : Ctl) (p failed : Nat) (readmit : Bool) (id : Nat) :
    (c.mapReqMsg p failed readmit id).fecCounts = c.fecCounts := by
  simp [Ctl.mapReqMsg]

@[simp] theorem Ctl.fecCounts_mapAckMsg (c : Ctl) (p id : Nat) : (c.mapAckMsg p id).fecCounts = c.fecCounts := by
  simp [Ctl.mapAckMsg]

@[simp] theorem Ctl.fecCounts_sideForward (c : Ctl) (port : Nat) (m : List Byte) : (c.sideForward port m).fecCounts = c.fecCounts := by
  simp [Ctl.sideForward]

@[simp] theorem Ctl.fecCounts_sideTake (c : Ctl) (p : Nat) (m : List Byte) : (c.sideTake p m).fecCounts = c.fecCounts := by
  simp only [Ctl.sideTake]
  split
  · rfl
  · split
    · exact Ctl.fecCounts_sideForward ..
    · split <;> simp

@[simp] theorem Ctl.fecCounts_sideOctets (c : Ctl) (p w : Nat) : (c.sideOctets p w).fecCounts = c.fecCounts := by
  simp [Ctl.sideOctets]

/-- The header words of a frame in lock leave the counts. -/
@[simp] theorem Ctl.fecCounts_frameFieldsTake (c : Ctl) (p fseq : Nat) (hdr : List Nat) (ok : List Bool) (hp : p < 2) :
    (c.frameFieldsTake p fseq hdr ok).fecCounts = c.fecCounts := by
  have hside : ∀ d : Ctl, ([3, 4, 5, 6, 7].foldl (fun c k => if ok.getD k false then c.sideOctets p (hdr.getD k 0) else c) d).fecCounts = d.fecCounts :=
    fun d => foldl_keeps_fecCounts _ _ d fun d k _ => by simp
  unfold Ctl.frameFieldsTake
  simp only [Ctl.fecCounts_ite, Ctl.fecCounts_frameMap _ _ _ _ _ hp, hside, Ctl.fecCounts_refreshKeep, Ctl.fecCounts_setRgPort, ite_self]

end Sys2Proof.Machine
end

section
/-! PROOFS. A frame of the ring (12 R353 to R359): its parts, the counts of its line code, and a frame whose header words all fail. -/
namespace Sys2Proof.Machine

/-! ### The parts of a frame -/

/-- Which header words of a frame pass, by position (R356, R357). -/
def Ctl.headerOks (c : Ctl) (p : Nat) (ids hdr : List Nat) : List Bool :=
  let a := ids.length
  let w0 := if a = 0 then 0 else c.rxWord p % a
  (List.range 8).map (fun k => decide (a ≠ 0) && hdrOk (hdr.getD k 0) k (ids.getD ((w0 + k) % a) 0))

/-- FSEQ of a frame: that of its first good header word, else one on from the last (R357). -/
def Ctl.frameSeq (c : Ctl) (p : Nat) (hdr : List Nat) (ok : List Bool) : Nat :=
  match (List.range 8).find? (fun k => ok.getD k false) with
  | some k => bits (hdr.getD k 0) 47 32
  | none => ((c.rgPort p).fseq + 1) % 65536

/-- The frame counts, and frame lock follows its header words. -/
def Ctl.frameCounted (c : Ctl) (p : Nat) (ids : List Nat) (fseq : Nat) (ok : List Bool) : Ctl :=
  ((c.stripeFails p ids ok).setRgPort p (fun q => { q with fseq := fseq, rxFrames := q.rxFrames + 1, frames := q.frames + 1 })).frameLock p
    (ok.filter id).length

/-- What a frame's header words do once its line code is decoded. -/
def Ctl.frameTaken (c : Ctl) (p : Nat) (ids hdr : List Nat) (ok : List Bool) (fseq : Nat) : Ctl :=
  let c := c.frameCounted p ids fseq ok
  (if (c.rgPort p).lock then c.frameFieldsTake p fseq hdr ok else c).frameDue p

/-- The part after the skew and the line code of a frame, and the header words. -/
def Ctl.frameRead (c : Ctl) (p : Nat) (words skew : List Nat) : Ctl × List Nat :=
  (c.skewed p (c.stripeIds p) skew).frameHead p (c.stripeIds p) words

theorem Ctl.ringFrame_ignored (c : Ctl) (p : Nat) (words skew : List Nat)
    (h : c.portUp p = false ∨ words.length ≠ frameWords (c.rgPort p).code) : c.ringFrame p words skew = c := by
  simp only [Ctl.ringFrame]
  exact if_pos (by simpa using h)

theorem Ctl.ringFrame_eq (c : Ctl) (p : Nat) (words skew : List Nat) (hup : c.portUp p = true)
    (hlen : words.length = frameWords (c.rgPort p).code) :
    c.ringFrame p words skew =
      let r := c.frameRead p words skew
      let ok := r.1.headerOks p (c.stripeIds p) r.2
      r.1.frameTaken p (c.stripeIds p) r.2 ok (r.1.frameSeq p r.2 ok) := by
  have htaken : ¬ (!c.portUp p || decide (words.length ≠ frameWords (c.rgPort p).code)) = true := by simp [hup, hlen]
  exact if_neg htaken

/-! ### The counts of the line code (R359) -/

/-- After the results are taken, nothing in a frame changes the counts. -/
theorem Ctl.fecCounts_frameTaken (c : Ctl) (p : Nat) (ids hdr : List Nat) (ok : List Bool) (fseq : Nat) (hp : p < 2) :
    (c.frameTaken p ids hdr ok fseq).fecCounts = c.fecCounts := by
  have hcounted : (c.frameCounted p ids fseq ok).fecCounts = c.fecCounts := by simp [Ctl.frameCounted, hp]
  simp only [Ctl.frameTaken]
  rw [Ctl.fecCounts_frameDue _ _ hp, Ctl.fecCounts_ite, Ctl.fecCounts_frameFieldsTake _ _ _ _ _ hp, hcounted, ite_self]

/-- The corrected symbols of a frame count, and the stripes that carried them are noted and, when they are too many, reported. -/
def Ctl.fecCorrected (c : Ctl) (p : Nat) (stripes unc : List Nat) : Ctl :=
  let sum := stripes.length
  let c := (c.setEa 0x2119 p (satAdd 64 (c.ea 0x2119 p) sum)).addReg .rgFecErrors p 0 16 sum
  let c := c.setRgPort p (fun q => { q with
    fecLog := (q.fecLog ++ [(c.up, stripes)]).filter (fun r => decide (c.up < r.1 + tMs 1) && !r.2.isEmpty)
    badWords := (q.badWords ++ unc.map (fun k => (q.frames, k))).filter (fun r => decide (q.frames < r.1 + 1024)) })
  let of := fun (c : Ctl) (i : Nat) => ((c.rgPort p).fecLog.map (fun r => (r.2.filter (· = i)).length)).foldl (· + ·) 0
  ((List.range 8).filter (fun i => of c i > 1024)).foldl (fun c i =>
    (c.setRgPort p (fun q => { q with fecLog := q.fecLog.map (fun r => (r.1, r.2.filter (· ≠ i))) })).transport p i) c

theorem Ctl.fecResults_eq (c : Ctl) (p : Nat) (stripes unc : List Nat) :
    c.fecResults p stripes unc =
      let d := c.fecCorrected p stripes unc
      let n := unc.length
      if n = 0 then d else ((d.setEa 0x211A p (satAdd 32 (d.ea 0x211A p) n)).addReg .rgFecErrors p 16 16 n).ringWarn 0x1146 p [i8 p, i32 n] := rfl

theorem Ctl.ea_fecCorrected (c : Ctl) (p : Nat) (stripes unc : List Nat) (hp : p < 2) :
    (c.fecCorrected p stripes unc).ea 0x2119 p = satAdd 64 (c.ea 0x2119 p) stripes.length ∧
      (c.fecCorrected p stripes unc).ea 0x211A p = c.ea 0x211A p := by
  have hfec : (c.fecCorrected p stripes unc).fecCounts = (c.setEa 0x2119 p (satAdd 64 (c.ea 0x2119 p) stripes.length)).fecCounts :=
    foldl_keeps_fecCounts _ _ _ fun d i _ => Ctl.fecCounts_transport _ p i hp
  obtain ⟨hcorr, hunc⟩ := Ctl.ea_of_fecCounts hfec hp
  rw [hcorr, hunc]
  refine ⟨?_, ?_⟩
  · exact (Ctl.e_setE ..).trans (if_pos rfl)
  · exact (Ctl.e_setE ..).trans (if_neg (by unfold ekey; omega))

/-- The results of a frame: FEC_CORRECTED counts the corrected symbols, FEC_UNCORRECTABLE the codewords that were not. -/
theorem Ctl.ea_fecResults (c : Ctl) (p : Nat) (stripes unc : List Nat) (hp : p < 2) :
    (c.fecResults p stripes unc).ea 0x2119 p = satAdd 64 (c.ea 0x2119 p) stripes.length ∧
      (c.fecResults p stripes unc).ea 0x211A p = if unc = [] then c.ea 0x211A p else satAdd 32 (c.ea 0x211A p) unc.length := by
  obtain ⟨hcorr, hunc⟩ := c.ea_fecCorrected p stripes unc hp
  rw [Ctl.fecResults_eq]
  cases unc with
  | nil => exact ⟨hcorr, hunc⟩
  | cons u us =>
    simp only [List.length_cons, Nat.add_one_ne_zero, if_false, reduceCtorEq]
    obtain ⟨hcorr', hunc'⟩ := Ctl.ea_of_fecCounts (Ctl.fecCounts_ringWarn (((c.fecCorrected p stripes (u :: us)).setEa 0x211A p
      (satAdd 32 ((c.fecCorrected p stripes (u :: us)).ea 0x211A p) (us.length + 1))).addReg .rgFecErrors p 16 16 (us.length + 1))
      0x1146 p [i8 p, i32 (us.length + 1)] (by decide)) hp
    rw [hcorr', hunc', ← hcorr, ← hunc]
    refine ⟨?_, ?_⟩
    · exact (Ctl.e_setE ..).trans (if_neg (by unfold ekey; omega))
    · exact (Ctl.e_setE ..).trans (if_pos rfl)

/-! ### A frame whose header words all fail (R357) -/

/-- What a port knows of the frames that it receives (R356, R357). -/
structure Framing where
  code : Nat
  fseq : Nat
  lock : Bool
  goodRun : Nat
  frames : Nat
  keepRx : Nat
  pendRx : Option (Nat × Nat × Nat)

/-- The framing of a port. -/
def RgPort.framing (q : RgPort) : Framing := ⟨q.code, q.fseq, q.lock, q.goodRun, q.frames, q.keepRx, q.pendRx⟩

/-- The framing of the ports. -/
def Ctl.framing (c : Ctl) : List Framing := c.rg.ports.map RgPort.framing

theorem Ctl.framing_congr {c d : Ctl} (h : d.rg.ports = c.rg.ports) : d.framing = c.framing := by unfold Ctl.framing; rw [h]

theorem Ctl.framing_setRgPort (c : Ctl) (p : Nat) (f : RgPort → RgPort) (hf : ∀ q, (f q).framing = q.framing) :
    (c.setRgPort p f).framing = c.framing := by
  refine List.ext_getElem (by simp [Ctl.framing, Ctl.setRgPort, updAt]) fun i _ _ => ?_
  simp only [Ctl.framing, Ctl.setRgPort, Ctl.setRg_rg, updAt, List.getElem_map, List.getElem_modify]
  split <;> simp [hf]

/-- Ports of equal framing, one by one. -/
theorem Ctl.rgPort_framing {c d : Ctl} (h : d.framing = c.framing) (p : Nat) : (d.rgPort p).framing = (c.rgPort p).framing := by
  have hget : ∀ x : Ctl, (x.rgPort p).framing = x.framing.getD p (RgPort.framing {}) := fun x =>
    (getD_map_apply RgPort.framing x.rg.ports p {}).symm
  rw [hget, hget, h]

theorem Ctl.rg_markFailed (c : Ctl) (l cause : Nat) : (c.markFailed l cause).rg = c.rg := by
  have hst : (c.setLaneSt l 3).rg = c.rg := by simp only [Ctl.setLaneSt]; split <;> rfl
  simp only [Ctl.markFailed]
  rw [Ctl.post_rg]
  exact hst

theorem Ctl.framing_transport (c : Ctl) (p stripe : Nat) : (c.transport p stripe).framing = c.framing := by
  simp only [Ctl.transport]
  split
  · exact Ctl.framing_congr (congrArg RgState.ports (Ctl.rg_markFailed ..))
  · rfl

theorem Ctl.framing_ringWarn (c : Ctl) (code p : Nat) (items : List (Nat × Nat)) : (c.ringWarn code p items).framing = c.framing := by
  have hbit : (c.eventBit code).rg = c.rg := by unfold Ctl.eventBit; split <;> rfl
  simp only [Ctl.ringWarn]
  split
  · exact Ctl.framing_congr (congrArg RgState.ports hbit)
  · refine Ctl.framing_congr ?_
    rw [Ctl.post_rg]
    rfl

theorem Ctl.framing_fecCorrected (c : Ctl) (p : Nat) (stripes unc : List Nat) : (c.fecCorrected p stripes unc).framing = c.framing := by
  refine (foldl_keeps Ctl.framing _ _ _ fun d i _ => ?_).trans ?_
  · rw [Ctl.framing_transport, Ctl.framing_setRgPort]
    exact fun _ => rfl
  · rw [Ctl.framing_setRgPort]
    · rfl
    · exact fun _ => rfl

theorem Ctl.framing_fecResults (c : Ctl) (p : Nat) (stripes unc : List Nat) : (c.fecResults p stripes unc).framing = c.framing := by
  rw [Ctl.fecResults_eq, ← c.framing_fecCorrected p stripes unc]
  generalize c.fecCorrected p stripes unc = d
  extract_lets e n
  split
  · rfl
  · exact Ctl.framing_ringWarn ..

theorem Ctl.framing_skewed (c : Ctl) (p : Nat) (ids skew : List Nat) : (c.skewed p ids skew).framing = c.framing :=
  foldl_keeps Ctl.framing _ _ _ fun d i _ => d.framing_transport p i

theorem Ctl.framing_frameRead (c : Ctl) (p : Nat) (words skew : List Nat) : (c.frameRead p words skew).1.framing = c.framing := by
  unfold Ctl.frameRead Ctl.frameHead
  split
  · exact Ctl.framing_skewed ..
  · exact (Ctl.framing_fecResults ..).trans (Ctl.framing_skewed ..)

theorem Ctl.framing_stripeFails (c : Ctl) (p : Nat) (ids : List Nat) (ok : List Bool) : (c.stripeFails p ids ok).framing = c.framing := by
  simp only [Ctl.stripeFails]
  split
  · rfl
  · refine (foldl_keeps Ctl.framing _ _ _ fun d i _ => ?_).trans ?_
    · rw [Ctl.framing_transport, Ctl.framing_setRgPort]
      exact fun _ => rfl
    · rw [Ctl.framing_setRgPort]
      exact fun _ => rfl

/-- The header words that are read: as they came, or of the decoded frame. -/
theorem Ctl.frameRead_header (c : Ctl) (p : Nat) (words skew : List Nat) :
    (c.frameRead p words skew).2 = (if (c.rgPort p).code < 4 then words else (fecOpen words).1).take 8 := by
  have hcode : ((c.skewed p (c.stripeIds p) skew).rgPort p).code = (c.rgPort p).code :=
    congrArg Framing.code (Ctl.rgPort_framing (c.framing_skewed p _ skew) p)
  unfold Ctl.frameRead Ctl.frameHead
  rw [hcode]
  by_cases h : (c.rgPort p).code < 4
  · rw [if_pos h, if_pos h]
  · rw [if_neg h, if_neg h]

/-- A word without the mark 0xD5 is no header word. -/
theorem hdrOk_of_mark_ne {w : Nat} (pos stripe : Nat) (h : bits w 63 56 ≠ 0xD5) : hdrOk w pos stripe = false := by
  simp [hdrOk, h]

/-- Without the mark in any of them no header word passes. -/
theorem Ctl.headerOks_of_all_fail (c : Ctl) (p : Nat) (ids hdr : List Nat) (h : hdr.all (fun w => bits w 63 56 ≠ 0xD5) = true) :
    c.headerOks p ids hdr = List.replicate 8 false := by
  have hmark : ∀ k, bits (hdr.getD k 0) 63 56 ≠ 0xD5 := by
    intro k
    rw [List.getD_eq_getElem?_getD]
    cases hk : hdr[k]? with
    | none => decide
    | some w => simpa using List.all_eq_true.1 h w (List.mem_of_getElem? hk)
  simp only [Ctl.headerOks, hdrOk_of_mark_ne _ _ (hmark _), Bool.and_false]
  rfl

/-- A change that is not pending does not fall due. -/
theorem Ctl.frameDue_of_none (c : Ctl) (p : Nat) (h : (c.rgPort p).pendRx = none) : c.frameDue p = c := by
  unfold Ctl.frameDue
  rw [h]

/-- A port of the part that is changed reads as it was made. -/
theorem Ctl.rgPort_setRgPort (c : Ctl) (p : Nat) (f : RgPort → RgPort) (hp : p < c.rg.ports.length) :
    (c.setRgPort p f).rgPort p = f (c.rgPort p) := by
  simp [Ctl.rgPort, Ctl.setRgPort, updAt, hp]

theorem Ctl.setMap_rx_rg (c : Ctl) (p failed base : Nat) : (c.setMap p false failed base).rg = c.rg := rfl

/-- Out of lock, a frame without a good header word leaves the port out of lock, with no good frame in a row. -/
theorem Ctl.framing_frameLock_of_fail (c : Ctl) (p : Nat) (hp : p < c.rg.ports.length) (h : (c.rgPort p).lock = false) :
    ((c.frameLock p 0).rgPort p).framing = { (c.rgPort p).framing with goodRun := 0, lock := false } := by
  have hset : (c.frameLock p 0).rg = (c.setRgPort p (fun q => { q with goodRun := 0, lock := false, badRun := 0 })).rg := by
    simp only [Ctl.frameLock, h, Ctl.setMap_rx_rg]
    rfl
  have hport := Ctl.rgPort_setRgPort c p (fun q => { q with goodRun := 0, lock := false, badRun := 0 }) hp
  unfold Ctl.rgPort at hport ⊢
  rw [hset, hport]
  rfl

/-- A frame without a good header word, on a port out of lock with no change pending: FSEQ is set, the frame counts, and nothing else is
taken from it. -/
theorem Ctl.framing_frameTaken_of_fail (c : Ctl) (p : Nat) (ids hdr : List Nat) (fseq : Nat) (hp : p < c.rg.ports.length)
    (hlock : (c.rgPort p).lock = false) (hpend : (c.rgPort p).pendRx = none) :
    ((c.frameTaken p ids hdr (List.replicate 8 false) fseq).rgPort p).framing =
      { (c.rgPort p).framing with fseq := fseq, frames := (c.rgPort p).frames + 1, goodRun := 0, lock := false } := by
  have hframing := c.framing_stripeFails p ids (List.replicate 8 false)
  have hport := Ctl.rgPort_framing hframing p
  generalize hd : c.stripeFails p ids (List.replicate 8 false) = d at hframing hport
  have hpd : p < d.rg.ports.length := by
    have hlen := congrArg List.length hframing
    simp only [Ctl.framing, List.length_map] at hlen
    omega
  generalize he : d.setRgPort p (fun q => { q with fseq := fseq, rxFrames := q.rxFrames + 1, frames := q.frames + 1 }) = e
  have hporte : (e.rgPort p).framing = { (d.rgPort p).framing with fseq := fseq, frames := (d.rgPort p).frames + 1 } := by
    rw [← he, Ctl.rgPort_setRgPort d p _ hpd]
    rfl
  have hpe : p < e.rg.ports.length := by
    rw [← he]
    simpa [Ctl.setRgPort, updAt] using hpd
  have hlocke : (e.rgPort p).lock = false := (congrArg Framing.lock (hporte.trans (by rw [hport]))).trans hlock
  have hcounted : c.frameCounted p ids fseq (List.replicate 8 false) = e.frameLock p 0 := by
    rw [Ctl.frameCounted, hd, he]
    rfl
  have hresult : ((e.frameLock p 0).rgPort p).framing =
      { (c.rgPort p).framing with fseq := fseq, frames := (c.rgPort p).frames + 1, goodRun := 0, lock := false } := by
    rw [e.framing_frameLock_of_fail p hpe hlocke, hporte, show (d.rgPort p).frames = (c.rgPort p).frames from congrArg Framing.frames hport, hport]
  have hunlocked : ((e.frameLock p 0).rgPort p).lock = false := congrArg Framing.lock hresult
  have hnone : ((e.frameLock p 0).rgPort p).pendRx = none := (congrArg Framing.pendRx hresult).trans hpend
  simp only [Ctl.frameTaken]
  rw [hcounted, hunlocked]
  exact (congrArg (fun x => (Ctl.rgPort x p).framing) (Ctl.frameDue_of_none _ p hnone)).trans hresult

end Sys2Proof.Machine
end

section
/-! PROOFS. The commands of enumeration and RING_FRAME_RX: what each leaves, from the rules above. -/
namespace Sys2Proof.Machine

theorem exec_ringEnumerate (dt : Nat) (s : State) :
    exec (.ringEnumerate dt) s = runC (fun c => (c.advance dt).enumerate.enumFollow) s := rfl

theorem exec_enumMsg (dt port dst : Nat) (tiles : List Nat) (s : State) :
    exec (.enumMsg dt port dst tiles) s = runC (fun c => (c.advance dt).enumMsg port dst tiles) s := rfl

theorem exec_enumDone (dt port dst src : Nat) (tiles : List Nat) (closed : Nat) (s : State) :
    exec (.enumDone dt port dst src tiles closed) s = runC (fun c => (c.advance dt).enumDoneMsg port dst src tiles closed) s := rfl

theorem exec_indexChanged (dt port dst src old new : Nat) (s : State) :
    exec (.indexChanged dt port dst src old new) s = runC (fun c => (c.advance dt).indexMsg port dst src old new) s := rfl

theorem exec_ringFrameRx (dt port : Nat) (words skew : List Nat) (s : State) :
    exec (.ringFrameRx dt port words skew) s = runC (fun c => (c.advance dt).ringFrame port words skew) s := rfl

/-! ### Messages for this part (12 R367) -/

/-- A message for another part goes on before this part takes it, and is still for this part then. -/
theorem Ctl.sideMine_sidePass (c : Ctl) (port ty dst src : Nat) (body : List Byte) (d : Nat) :
    (c.sidePass port ty dst src body).sideMine d = c.sideMine d := by
  unfold Ctl.sideMine
  rw [Ctl.e_sidePass _ _ _ _ _ _ (by decide)]

theorem Ctl.cpaUp_sidePass (c : Ctl) (port ty dst src : Nat) (body : List Byte) : (c.sidePass port ty dst src body).cpaUp = c.cpaUp :=
  Ctl.cpaUp_congr (Ctl.e_sidePass _ _ _ _ _ _ (by decide))

theorem Ctl.enumMsg_mine (c : Ctl) (port dst : Nat) (tiles : List Nat) (hup : c.portUp port = true) (hmine : c.sideMine dst = true) :
    c.enumMsg port dst tiles = c.enumPass tiles := by
  unfold Ctl.enumMsg
  rw [hup, hmine]
  rfl

/-- An ENUM_DONE for this part goes on West, and its contents are taken. -/
theorem Ctl.enumDoneMsg_mine (c : Ctl) (port dst src : Nat) (tiles : List Nat) (closed : Nat) (hup : c.portUp port = true)
    (hmine : c.sideMine dst = true) :
    c.enumDoneMsg port dst src tiles closed =
      ((c.sidePass port 2 dst src (tiles.map byteOf ++ [byteOf closed])).enumDone tiles closed).enumFollow := by
  simp only [Ctl.enumDoneMsg, hup, Ctl.sideMine_sidePass, hmine]
  rfl

/-- An INDEX_CHANGED for this part is a cause for an enumeration. -/
theorem Ctl.indexMsg_mine (c : Ctl) (port dst src old new : Nat) (hup : c.portUp port = true) (hmine : c.sideMine dst = true) :
    c.indexMsg port dst src old new = (c.sidePass port 0x0A dst src [byteOf old, byteOf new]).enumerate.enumFollow := by
  simp only [Ctl.indexMsg, hup, Ctl.sideMine_sidePass, hmine]
  rfl

/-- An ENUM_DONE for a part that no further cause waits on: RING_SIZE, CLOSED and the tile indices are the message's, and the position stands. -/
theorem Ctl.enumDoneMsg_taken (c : Ctl) (port dst src : Nat) (tiles : List Nat) (closed : Nat) (hcpa : c.cpaUp = true)
    (hup : c.portUp port = true) (hmine : c.sideMine dst = true) (hagain : c.rg.enumAgain = false) :
    (c.enumDoneMsg port dst src tiles closed).e 0x210004 = tiles.length ∧ (c.enumDoneMsg port dst src tiles closed).e 0x210006 = closed ∧
      (c.enumDoneMsg port dst src tiles closed).rg.tileIndices = tiles ∧
      (c.enumDoneMsg port dst src tiles closed).e 0x210003 = c.e 0x210003 := by
  rw [Ctl.enumDoneMsg_mine c port dst src tiles closed hup hmine]
  generalize hd : c.sidePass port 2 dst src (tiles.map byteOf ++ [byteOf closed]) = d
  have hoff : d.offSide = c.offSide := by rw [← hd]; exact Ctl.offSide_sidePass ..
  have hpos : d.e 0x210003 = c.e 0x210003 := by rw [← hd]; exact Ctl.e_sidePass _ _ _ _ _ _ (by decide)
  have hdcpa : d.cpaUp = true := by rw [← hd]; exact (Ctl.cpaUp_sidePass ..).trans hcpa
  have hdagain : d.rg.enumAgain = false := (Ctl.of_offSide (fun x => x.rg.enumAgain) (fun _ => rfl) hoff).trans hagain
  obtain ⟨htiles, hkeepAgain, -⟩ := d.rg_enumDone tiles closed hdcpa
  rw [Ctl.enumFollow_of_not_again _ (hkeepAgain.trans hdagain)]
  exact ⟨d.e_enumDone tiles closed _ hdcpa (by decide), d.e_enumDone tiles closed _ hdcpa (by decide), htiles,
    (d.e_enumDone tiles closed _ hdcpa (by decide)).trans hpos⟩

/-- An INDEX_CHANGED while an enumeration runs asks for one more and leaves the position. -/
theorem Ctl.indexMsg_while_enumerating (c : Ctl) (port dst src old new : Nat) (hcpa : c.cpaUp = true) (hup : c.portUp port = true)
    (hmine : c.sideMine dst = true) (hhead : c.e 0x210002 = 1) (hrun : c.rg.enumerating = true) :
    (c.indexMsg port dst src old new).rg.enumAgain = true ∧ (c.indexMsg port dst src old new).rg.enumerating = true ∧
      (c.indexMsg port dst src old new).e 0x210003 = c.e 0x210003 := by
  rw [Ctl.indexMsg_mine c port dst src old new hup hmine]
  generalize hd : c.sidePass port 0x0A dst src [byteOf old, byteOf new] = d
  have hoff : d.offSide = c.offSide := by rw [← hd]; exact Ctl.offSide_sidePass ..
  have he : ∀ k, k < 0x211C00 → d.e k = c.e k := fun k hk => by rw [← hd]; exact Ctl.e_sidePass _ _ _ _ _ _ hk
  have hdrun : d.rg.enumerating = true := (Ctl.of_offSide (fun x => x.rg.enumerating) (fun _ => rfl) hoff).trans hrun
  rw [Ctl.enumerate_while_enumerating d ((Ctl.cpaUp_congr (he _ (by decide))).trans hcpa) ((he _ (by decide)).trans hhead) hdrun]
  exact ⟨rfl, hdrun, he _ (by decide)⟩

/-- An INDEX_CHANGED at an idle head with no part to the East: it enumerates itself alone. -/
theorem Ctl.indexMsg_alone (c : Ctl) (port dst src old new : Nat) (hcpa : c.cpaUp = true) (hup : c.portUp port = true)
    (hmine : c.sideMine dst = true) (hhead : c.e 0x210002 = 1) (hidle : c.rg.enumerating = false) (heast : c.portUp 0 = false) :
    (c.indexMsg port dst src old new).e 0x210003 = 0 ∧ (c.indexMsg port dst src old new).e 0x210004 = 1 ∧
      (c.indexMsg port dst src old new).rg.tileIndices = [c.tileIndex] := by
  rw [Ctl.indexMsg_mine c port dst src old new hup hmine]
  generalize hd : c.sidePass port 0x0A dst src [byteOf old, byteOf new] = d
  have hoff : d.offSide = c.offSide := by rw [← hd]; exact Ctl.offSide_sidePass ..
  have he : ∀ k, k < 0x211C00 → d.e k = c.e k := fun k hk => by rw [← hd]; exact Ctl.e_sidePass _ _ _ _ _ _ hk
  have htile : d.tileIndex = c.tileIndex := Ctl.of_offSide Ctl.tileIndex (fun _ => rfl) hoff
  obtain ⟨hpos, hsize, -, htiles, -⟩ := d.enumerate_alone ((Ctl.cpaUp_congr (he _ (by decide))).trans hcpa) ((he _ (by decide)).trans hhead)
    ((Ctl.of_offSide (fun x => x.rg.enumerating) (fun _ => rfl) hoff).trans hidle)
    ((Ctl.of_offSide (fun x => x.portUp 0) (fun x => x.portUp_offSide 0) hoff).trans heast)
  exact ⟨hpos, hsize, htiles.trans (by rw [htile])⟩

/-! ### Frames of a port (12 R356 to R359) -/

/-- At codes 4 and 5 the reading of a frame counts its corrected symbols and its uncorrectable codewords. -/
theorem Ctl.ea_frameRead (c : Ctl) (p : Nat) (words skew : List Nat) (hcode : 4 ≤ (c.rgPort p).code) (hp : p < 2) :
    (c.frameRead p words skew).1.ea 0x2119 p = satAdd 64 (c.ea 0x2119 p) (fecOpen words).2.1.length ∧
      (c.frameRead p words skew).1.ea 0x211A p =
        if (fecOpen words).2.2 = [] then c.ea 0x211A p else satAdd 32 (c.ea 0x211A p) (fecOpen words).2.2.length := by
  have hcoded : ¬ ((c.skewed p (c.stripeIds p) skew).rgPort p).code < 4 := by
    rw [show ((c.skewed p (c.stripeIds p) skew).rgPort p).code = (c.rgPort p).code from
      congrArg Framing.code (Ctl.rgPort_framing (c.framing_skewed p _ skew) p)]
    omega
  obtain ⟨hcorr, hunc⟩ := Ctl.ea_of_fecCounts (c.fecCounts_skewed p (c.stripeIds p) skew hp) hp
  unfold Ctl.frameRead Ctl.frameHead
  rw [if_neg hcoded]
  refine (Ctl.ea_fecResults _ p _ _ hp).imp (fun hsum => hsum.trans ?_) fun hbad => hbad.trans ?_
  · rw [List.length_map, hcorr]
  · rw [hunc]

/-- At codes 4 and 5 a frame counts its corrected symbols and its uncorrectable codewords, whatever else it leads to. -/
theorem Ctl.ringFrame_counts (c : Ctl) (p : Nat) (words skew : List Nat) (hup : c.portUp p = true)
    (hlen : words.length = frameWords (c.rgPort p).code) (hcode : 4 ≤ (c.rgPort p).code) (hp : p < 2) :
    (c.ringFrame p words skew).ea 0x2119 p = satAdd 64 (c.ea 0x2119 p) (fecOpen words).2.1.length ∧
      (c.ringFrame p words skew).ea 0x211A p =
        if (fecOpen words).2.2 = [] then c.ea 0x211A p else satAdd 32 (c.ea 0x211A p) (fecOpen words).2.2.length := by
  obtain ⟨hsum, hbad⟩ := c.ea_frameRead p words skew hcode hp
  rw [Ctl.ringFrame_eq c p words skew hup hlen]
  extract_lets r ok
  obtain ⟨hcorr, hunc⟩ := Ctl.ea_of_fecCounts (r.1.fecCounts_frameTaken p (c.stripeIds p) r.2 ok (r.1.frameSeq p r.2 ok) hp) hp
  exact ⟨hcorr.trans hsum, hunc.trans hbad⟩

/-- A frame whose header words all fail, on a port out of lock with no change pending: FSEQ moves on by one and nothing comes into lock. -/
theorem Ctl.ringFrame_fails (c : Ctl) (p : Nat) (words skew : List Nat) (hup : c.portUp p = true)
    (hlen : words.length = frameWords (c.rgPort p).code) (hlock : (c.rgPort p).lock = false) (hpend : (c.rgPort p).pendRx = none)
    (hp : p < c.rg.ports.length)
    (hfail : ((if (c.rgPort p).code < 4 then words else (fecOpen words).1).take 8).all (fun w => bits w 63 56 ≠ 0xD5) = true) :
    ((c.ringFrame p words skew).rgPort p).framing =
      { (c.rgPort p).framing with fseq := ((c.rgPort p).fseq + 1) % 65536, frames := (c.rgPort p).frames + 1, goodRun := 0, lock := false } := by
  have hframing := c.framing_frameRead p words skew
  have hport := Ctl.rgPort_framing hframing p
  have hheader := c.frameRead_header p words skew
  rw [Ctl.ringFrame_eq c p words skew hup hlen]
  generalize c.frameRead p words skew = r at hframing hport hheader
  have hpr : p < r.1.rg.ports.length := by
    have hlength := congrArg List.length hframing
    simp only [Ctl.framing, List.length_map] at hlength
    omega
  have hseq : r.1.frameSeq p r.2 (List.replicate 8 false) = ((c.rgPort p).fseq + 1) % 65536 :=
    congrArg (fun n => (n + 1) % 65536) (congrArg Framing.fseq hport)
  simp only
  rw [Ctl.headerOks_of_all_fail _ _ _ _ (by rw [hheader]; exact hfail), hseq,
    r.1.framing_frameTaken_of_fail p _ _ _ hpr ((congrArg Framing.lock hport).trans hlock) ((congrArg Framing.pendRx hport).trans hpend),
    show (r.1.rgPort p).frames = (c.rgPort p).frames from congrArg Framing.frames hport, hport]

end Sys2Proof.Machine

open Sys2Proof Sys2Proof.Machine

/-- Settles O47 (01 R23, 12 R357, R359, R363; assumption logs 56 and 57): the enumeration by what a lone head and an ENUM or ENUM_DONE for
the part set, the frames by the counts of their line code and by the framing that a frame of failing header words leaves. -/
theorem ringFramesAndEnumeration : Obligations.RingFramesAndEnumeration := by
  unfold Obligations.RingFramesAndEnumeration
  refine ⟨fun dt s hcpa hhead hidle heast => ?aloneHead, fun dt s hrole => ?notHead, fun dt port dst tiles s hcpa hup hmine => ?enum,
    fun dt port dst src tiles closed s hcpa hup hmine hagain => ?enumDone,
    fun dt port dst src old new s hcpa hup hmine hhead hrun => ?changedWhileRunning,
    fun dt port dst src old new s hcpa hup hmine hhead hidle heast => ?changedAlone,
    fun dt port words skew s hup hlen hcode hp => ?counts,
    fun dt port head words skew s hup hlen hlock hpend hp hhead hfail => ?failingFrame, fun dt port words skew s hno => ?ignored⟩
  case aloneHead => exact leaves_of_exec_eq_runC (exec_ringEnumerate ..) ((s.ctl.advance dt).enumerate_alone hcpa hhead hidle heast)
  case notHead =>
    refine leaves_of_exec_eq_runC (exec_ringEnumerate ..) ?_
    rw [Ctl.enumerate_of_not_head (s.ctl.advance dt) hrole, Ctl.enumFollow_of_not_head (s.ctl.advance dt) hrole]
  case enum =>
    refine leaves_of_exec_eq_runC (exec_enumMsg ..) ?_
    rw [Ctl.enumMsg_mine (s.ctl.advance dt) port dst tiles hup hmine]
    exact ⟨Ctl.enumPass_position _ tiles hcpa, Ctl.reports_enumPass _ tiles hcpa⟩
  case enumDone =>
    exact leaves_of_exec_eq_runC (exec_enumDone ..) ((s.ctl.advance dt).enumDoneMsg_taken port dst src tiles closed hcpa hup hmine hagain)
  case changedWhileRunning =>
    exact leaves_of_exec_eq_runC (exec_indexChanged ..) ((s.ctl.advance dt).indexMsg_while_enumerating port dst src old new hcpa hup hmine hhead hrun)
  case changedAlone =>
    exact leaves_of_exec_eq_runC (exec_indexChanged ..) ((s.ctl.advance dt).indexMsg_alone port dst src old new hcpa hup hmine hhead hidle heast)
  case counts => exact leaves_of_exec_eq_runC (exec_ringFrameRx ..) ((s.ctl.advance dt).ringFrame_counts port words skew hup hlen hcode hp)
  case failingFrame =>
    refine leaves_of_exec_eq_runC (exec_ringFrameRx ..) ?_
    have hframing := (s.ctl.advance dt).ringFrame_fails port words skew hup hlen hlock hpend hp (by rw [hhead] at hfail; exact hfail)
    exact ⟨congrArg Framing.fseq hframing, congrArg Framing.lock hframing, congrArg Framing.goodRun hframing, congrArg Framing.frames hframing,
      congrArg Framing.keepRx hframing⟩
  case ignored => exact leaves_of_exec_eq_runC (exec_ringFrameRx ..) (Ctl.ringFrame_ignored _ port words skew hno)

end

section
/-! PROOFS. The numbers of rays (02 R50): a pair of counters, the one inside the other, makes an index and is read back from it; twice over this
gives the hogel and the view of a ray. -/
namespace Sys2Proof.Machine

/-! ### Two counters in one index -/

/-- Place `b` of row `a`, in rows of `w` places, lies below the number of places. -/
theorem rowPlace_lt {a b w h : Nat} (ha : a < h) (hb : b < w) : a * w + b < w * h :=
  calc a * w + b < (a + 1) * w := by rw [Nat.succ_mul]; exact Nat.add_lt_add_left hb _
    _ ≤ w * h := by rw [Nat.mul_comm w h]; exact Nat.mul_le_mul_right w ha

/-- The row and the place are read back from the index. -/
theorem rowPlace_div_mod {a b w : Nat} (hb : b < w) : (a * w + b) / w = a ∧ (a * w + b) % w = b :=
  (Nat.div_mod_unique (Nat.zero_lt_of_lt hb)).2 ⟨by rw [Nat.mul_comm w a, Nat.add_comm], hb⟩

/-! ### Hogel and view of a ray -/

/-- The number of a ray: its hogel by rows, and in the hogel its view by rows. -/
def rayNumber (g : List Byte) (c r i j : Nat) : Nat := (r * imgCols g + c) * (imgVx g * imgVy g) + (j * imgVx g + i)

variable {g : List Byte} {c r i j : Nat}

/-- The numbers of the rays of an image lie below C × R × Vx × Vy. -/
theorem rayNumber_lt (hc : c < imgCols g) (hr : r < imgRows g) (hi : i < imgVx g) (hj : j < imgVy g) :
    rayNumber g c r i j < imgCols g * imgRows g * imgVx g * imgVy g :=
  calc rayNumber g c r i j < imgVx g * imgVy g * (imgCols g * imgRows g) := rowPlace_lt (rowPlace_lt hr hc) (rowPlace_lt hj hi)
    _ = imgCols g * imgRows g * imgVx g * imgVy g := by rw [Nat.mul_comm, Nat.mul_assoc _ (imgVx g)]

/-- The geometry of a ray is that of its hogel and its view. -/
theorem rayGeo_rayNumber (hc : c < imgCols g) (hi : i < imgVx g) (hj : j < imgVy g) :
    (rayGeo g (rayNumber g c r i j)).col = c ∧ (rayGeo g (rayNumber g c r i j)).row = r ∧
      (rayGeo g (rayNumber g c r i j)).i = i ∧ (rayGeo g (rayNumber g c r i j)).j = j := by
  have hview : j * imgVx g + i < imgVx g * imgVy g := rowPlace_lt hj hi
  have hmax : max 1 (imgVx g * imgVy g) = imgVx g * imgVy g := Nat.max_eq_right (Nat.zero_lt_of_lt hview)
  obtain ⟨hhogel, hv⟩ := rowPlace_div_mod (a := r * imgCols g + c) hview
  obtain ⟨hrow, hcol⟩ := rowPlace_div_mod (a := r) hc
  obtain ⟨hj', hi'⟩ := rowPlace_div_mod (a := j) hi
  simp only [rayGeo, rayNumber, hmax, hhogel, hv, hrow, hcol, hj', hi', and_self]

end Sys2Proof.Machine

open Sys2Proof Sys2Proof.Machine

/-- Settles O9 (02 R50). -/
theorem rayIndicesNameHogelAndView : Obligations.RayIndicesNameHogelAndView := by
  intro g c r i j n hc hr hi hj hn
  obtain rfl : n = rayNumber g c r i j := by rw [hn, Nat.add_assoc, rayNumber]
  exact ⟨rayNumber_lt hc hr hi hj, rayGeo_rayNumber hc hi hj⟩

end

section
/-! PROOFS. The image manager (03 R85 to R106): its state under a read of DRAM, the state of a slot, and the result of a request. -/
namespace Sys2Proof.Machine

/-! ### A read of DRAM and the image manager (14 R410) -/

theorem Ctl.xz_mcRun (c : Ctl) : c.mcRun.xz = c.xz := by
  unfold Ctl.mcRun
  split
  · rfl
  · extract_lets now woken d rs miss rank e
    split
    · rfl
    · refine (foldl_keeps Ctl.xz _ _ e fun d p _ => ?_).trans rfl
      split <;> rfl

theorem Ctl.xz_requests (c : Ctl) (client : Nat) (write : Bool) (l : List Nat) : (c.requests client write l).xz = c.xz := by
  unfold Ctl.requests Ctl.ask
  split
  · rfl
  · exact c.xz_mcRun

theorem Ctl.xz_eccUnc (c : Ctl) (client scrub b : Nat) : (c.eccUnc client scrub b).xz = c.xz := by
  unfold Ctl.eccUnc
  exact (Ctl.post_xz ..).trans rfl

theorem Ctl.xz_eccCorrected (c : Ctl) (p : Nat) : (c.eccCorrected p).xz = c.xz := by
  unfold Ctl.eccCorrected
  extract_lets d due
  split
  · exact Ctl.post_xz ..
  · rfl

theorem Ctl.xz_readBurst (c : Ctl) (m : Mem) (client scrub b : Nat) : (c.readBurst m client scrub b).xz = c.xz := by
  unfold Ctl.readBurst
  extract_lets d
  have hlink : d.xz = c.xz := by
    unfold d
    split
    · rfl
    · rfl
    · exact Ctl.xz_requests ..
  split
  · exact (Ctl.xz_eccUnc ..).trans hlink
  · split
    · exact hlink
    · exact (Ctl.xz_requests ..).trans ((d.xz_eccCorrected _).trans hlink)

/-- Whatever a read of DRAM finds and reports, the image manager stands. -/
theorem Ctl.xz_readBursts (c : Ctl) (m : Mem) (client : Nat) (l : List Nat) : (c.readBursts m client l).xz = c.xz := by
  unfold Ctl.readBursts
  split
  · exact Ctl.xz_requests ..
  · exact (foldl_keeps Ctl.xz _ l _ fun d b _ => d.xz_readBurst m client 0 b).trans (Ctl.xz_requests ..)

/-- A read of a slot leaves the image manager, but for the mark of a rebuild that failed (03 R85). -/
theorem xz_slotReadAt (i off n : Nat) (m : Mem) (c : Ctl) :
    (slotReadAt i off n m c).2.xz =
      if (slotReadAt i off n m c).1.poisoned (c.slotBase i + off) n then { c.xz with parityLost := true } else c.xz := by
  unfold slotReadAt
  extract_lets base m' d
  have hd : d.xz = c.xz := Ctl.xz_readBursts ..
  split
  · exact congrArg (fun x : XzState => { x with parityLost := true }) hd
  · exact hd

/-- No rebuild has failed after a read of a slot: the image manager stands. -/
theorem xz_slotRead_of_not_parityLost (i : Nat) (m : Mem) (c : Ctl) (h : (slotRead i m c).2.xz.parityLost = false) :
    (slotRead i m c).2.xz = c.xz := by
  unfold slotRead at h ⊢
  rw [xz_slotReadAt] at h ⊢
  split at h
  · cases h
  · exact if_neg ‹_›

theorem dram_slotRead (i : Nat) (m : Mem) (c : Ctl) : (slotRead i m c).1.dram = m.dram := rfl

theorem Mem.poisoned_of_none_bad (m : Mem) (a n : Nat) (h : ∀ b, m.bad b = false) : m.poisoned a n = false :=
  List.any_eq_false.2 fun b _ => by simp [h b]

/-- Where no burst reads poisoned nothing is rebuilt. -/
theorem slotRead_mem_of_none_bad (i : Nat) (m : Mem) (c : Ctl) (h : ∀ b, m.bad b = false) : (slotRead i m c).1 = m := by
  have hbad : ∀ l : List Nat, l.filter m.bad = [] := fun l => List.filter_eq_nil_iff.2 fun b _ => by simp [h b]
  have hall : ∀ l : List (Nat × Nat), l.filter (fun e => !([] : List Nat).contains e.1) = l := fun l => List.filter_eq_self.2 fun _ _ => rfl
  simp only [slotRead, slotReadAt, slotRepair, hbad, List.filter_nil, hall]

theorem xz_slotRead_of_none_bad (i : Nat) (m : Mem) (c : Ctl) (h : ∀ b, m.bad b = false) : (slotRead i m c).2.xz = c.xz := by
  have hmem := slotRead_mem_of_none_bad i m c h
  unfold slotRead at hmem ⊢
  rw [xz_slotReadAt, hmem, m.poisoned_of_none_bad _ _ h]
  rfl

/-! ### Slots (03 R86) -/

theorem Ctl.slot_congr {c d : Ctl} (h : d.xz.slots = c.xz.slots) (i : Nat) : d.slot i = c.slot i := by unfold Ctl.slot; rw [h]

theorem Ctl.xz_setSlot (c : Ctl) (i : Nat) (f : XzSlot → XzSlot) : (c.setSlot i f).xz = { c.xz with slots := updAt c.xz.slots i f } := rfl

theorem Ctl.slot_setSlot (c : Ctl) {i : Nat} (f : XzSlot → XzSlot) (hi : i < c.xz.slots.length) : (c.setSlot i f).slot i = f (c.slot i) := by
  simp [Ctl.slot, Ctl.xz_setSlot, updAt, List.getD, hi]

/-- A slot that is not EMPTY exists. -/
theorem Ctl.lt_length_of_slot_st (c : Ctl) {i : Nat} (h : (c.slot i).st ≠ 0) : i < c.xz.slots.length :=
  Decidable.byContradiction fun hi => h (by rw [Ctl.slot, List.getD_eq_getElem?_getD, List.getElem?_eq_none (Nat.le_of_not_lt hi)]; rfl)

/-- A slot's state shows in its own entry only. -/
theorem Ctl.e_setSlot (c : Ctl) (i : Nat) (f : XzSlot → XzSlot) {k : Nat} (hk : k < 0x410206) : (c.setSlot i f).e k = c.e k := by
  have hne : ¬ 0x410206 + i = k := by omega
  simp [Ctl.setSlot, hne]

/-! ### Results (03 R94, R106, R107) -/

theorem Ctl.xz_xzResult (c : Ctl) (code detail : Nat) : (c.xzResult code detail).xz = c.xz := rfl

theorem Ctl.e_xzResult (c : Ctl) (code detail k : Nat) :
    (c.xzResult code detail).e k = if 0x410209 = k then detail else if 0x410208 = k then code else c.e k := by
  simp only [Ctl.xzResult, Ctl.e_setE]

theorem resultEvent_lt {code : Nat} (h : code < 0x27) : resultEvent code < 65536 := by
  unfold resultEvent
  repeat' split
  all_goals omega

theorem Ctl.xz_xzRefuse (c : Ctl) (code detail : Nat) : (c.xzRefuse code detail).xz = c.xz := by
  rw [Ctl.xzRefuse, Ctl.post_xz, Ctl.xz_xzResult]

/-- A refusal shows its result. -/
theorem Ctl.e_xzRefuse (c : Ctl) {code : Nat} (detail : Nat) (h : code < 0x27) :
    (c.xzRefuse code detail).e 0x410208 = code ∧ (c.xzRefuse code detail).e 0x410209 = detail := by
  unfold Ctl.xzRefuse
  constructor
  · rw [Ctl.e_post _ _ _ _ (by decide) (resultEvent_lt h), Ctl.e_xzResult]; rfl
  · rw [Ctl.e_post _ _ _ _ (by decide) (resultEvent_lt h), Ctl.e_xzResult]; rfl

/-! ### Unit 7 of the CRC units (15 R440) -/

theorem Ctl.xz_ckOwner (c : Ctl) (held : Bool) : (c.ckOwner held).xz = c.xz := by
  have hparams : ∀ (l : List Nat) (d : Ctl), ((ckSavedIdx.zip l).foldl (fun c p => c.setEa p.1 7 p.2) d).xz = d.xz := fun l d =>
    foldl_keeps Ctl.xz _ _ d fun _ _ _ => rfl
  unfold Ctl.ckOwner
  split
  · rfl
  · split
    · exact hparams ..
    · exact hparams ..

/-- The entries below those of the CRC units stand as unit 7 changes hands. -/
theorem Ctl.e_ckOwner (c : Ctl) (held : Bool) {k : Nat} (hk : k < 0x521000) : (c.ckOwner held).e k = c.e k := by
  have hbit : ∀ (d : Ctl) (b : Nat) (v : Bool), (d.setCkBit 7 b v).e k = d.e k := fun d b v => by
    rw [Ctl.setCkBit, Ctl.e_setEa, if_neg (by unfold ekey; omega)]
  have hparams : ∀ (l : List Nat) (d : Ctl), ((ckSavedIdx.zip l).foldl (fun c p => c.setEa p.1 7 p.2) d).e k = d.e k := fun l d =>
    foldl_keeps (Ctl.e · k) _ _ d fun x p hp => by
      have hidx : ∀ idx ∈ ckSavedIdx, 0x5210 ≤ idx := by decide
      have hp1 := hidx p.1 (List.of_mem_zip hp).1
      rw [Ctl.e_setEa, if_neg (by unfold ekey; omega)]
  unfold Ctl.ckOwner
  split
  · rfl
  · split
    · exact (hbit ..).trans (hparams ..)
    · exact (hbit ..).trans (hparams ..)

/-! ### The end of a safe state (20 R558) -/

theorem Ctl.xz_settleSafe (c : Ctl) (was wasCode : Nat) : (c.settleSafe was wasCode).xz = c.xz := by
  unfold Ctl.settleSafe
  extract_lets s code d e
  have he : e.xz = c.xz := by
    unfold e
    split
    · exact Ctl.post_xz ..
    · rfl
  split
  · exact (Ctl.post_xz ..).trans he
  · exact he

theorem Ctl.xz_endSafe (c : Ctl) (f : SafeCause → Bool) : (c.endSafe f).xz = c.xz := by
  unfold Ctl.endSafe
  split
  · rfl
  · exact Ctl.xz_settleSafe ..

end Sys2Proof.Machine
end

section
/-! PROOFS. Activation, storing and ray queries (02 R68, 03 R96 to R105): what each command of the image manager leaves, from the rules above. -/
namespace Sys2Proof.Machine

/-! ### The commands -/

theorem exec_actRequest (dt : Nat) (s : State) : exec (.actRequest dt) s = runC (fun c => (c.advance dt).actRequest) s := rfl

theorem exec_actCancel (dt : Nat) (s : State) : exec (.actCancel dt) s = runC (fun c => (c.advance dt).actCancel) s := rfl

theorem exec_sramCopyDone (dt : Nat) (ue : List DramErr) (s : State) :
    exec (.sramCopyDone dt ue) s = runM (fun m c => sramCopyDone (m.found ue) (c.advance dt)) s := rfl

theorem exec_storeCmd (dt : Nat) (s : State) : exec (.storeCmd dt) s = runC (fun c => (c.advance dt).storeCmd) s := rfl

theorem exec_storeDone (dt : Nat) (ue : List DramErr) (s : State) :
    exec (.storeDone dt ue) s = runM (fun m c => storeDone (m.found ue) (c.advance dt)) s := rfl

theorem exec_rayQuery (dt n : Nat) (s : State) : exec (.rayQuery dt n) s = runC (fun c => (c.advance dt).rayQuery n) s := rfl

theorem exec_rayQueryDone (dt : Nat) (s : State) : exec (.rayQueryDone dt) s = runC (fun c => (c.advance dt).rayQueryDone) s := rfl

/-! ### The flips and PENDING_FLIP (03 R106, 13 R383) -/

section
variable {c d : Ctl} (htb : d.tb = c.tb) (hnow : d.now = c.now) (he : ∀ k, k < 0x410206 → d.e k = c.e k)

include htb he in
theorem Ctl.tn_congr (n : Nat) : d.tn n = c.tn n := by
  unfold Ctl.tn
  rw [htb, he 0x230006 (by decide), he 0x230007 (by decide), he 0x230015 (by decide)]

include htb hnow he in
theorem Ctl.flipAt_congr (t : Nat) : d.flipAt t = c.flipAt t := by
  unfold Ctl.flipAt Ctl.nextFlip
  rw [htb, hnow, he 0x230006 (by decide), he 0x230007 (by decide), he 0x230015 (by decide)]

include htb hnow he in
/-- The flip at or after a Tick stands with the time base and the entries below those of the image manager. -/
theorem Ctl.tn_flipAt_congr (t : Nat) : d.tn (d.flipAt t) = c.tn (c.flipAt t) := by
  rw [Ctl.tn_congr htb he, Ctl.flipAt_congr htb hnow he]

end

/-- PENDING_FLIP of a request for a known target is its flip. -/
theorem Ctl.pendShown_of_target (c : Ctl) {k t : Nat} (h : c.xz.pend = some ⟨k, some t, false⟩) : c.pendShown = c.tn (c.flipAt t) := by
  simp only [Ctl.pendShown, h]

theorem Ctl.pendShown_of_none (c : Ctl) (h : c.xz.pend = none) : c.pendShown = 0 := by simp only [Ctl.pendShown, h]

/-! ### ACT_REQUEST (03 R96, R97) -/

/-- Every result of an activation request has an event. -/
theorem Ctl.actResult_fst_lt (c : Ctl) : c.actResult.1 < 0x27 := by
  unfold Ctl.actResult Ctl.recheck
  extract_lets slot d
  repeat' split
  all_goals decide

/-- A request without a fault names a slot that is READY. -/
theorem Ctl.slot_of_actResult_ok (c : Ctl) (h : c.actResult = (0, 0)) : (c.slot (c.e 0x410301)).st = 3 := by
  refine Decidable.byContradiction fun hst => ?_
  rw [Ctl.actResult, if_pos hst] at h
  cases h

/-- The slot of a request waits for a target. -/
def Ctl.actPending (c : Ctl) (k t : Nat) : Ctl :=
  (c.setSlot k (fun x => { x with st := 5 })).setXz (fun x => { x with pend := some ⟨k, some t, false⟩ })

theorem Ctl.actRequest_of_ok (c : Ctl) (hcpa : c.cpaUp = true) (h : c.actResult = (0, 0)) :
    c.actRequest = ((c.actPending (c.e 0x410301) c.actTarget).xzResult 0 0).post 0x3102 [] := by
  simp [Ctl.actRequest, hcpa, h, Ctl.actPending]

theorem Ctl.actRequest_of_fault (c : Ctl) (hcpa : c.cpaUp = true) (h : c.actResult.1 ≠ 0) :
    c.actRequest = c.xzRefuse c.actResult.1 c.actResult.2 := by
  simp [Ctl.actRequest, hcpa, h]

/-- A request without a fault: its slot is PENDING, its flip shows, and its result is 0. -/
theorem Ctl.actRequest_pends (c : Ctl) (hcpa : c.cpaUp = true) (h : c.actResult = (0, 0)) :
    (c.actRequest.slot (c.e 0x410301)).st = 5 ∧ c.actRequest.xz.pend = some ⟨c.e 0x410301, some c.actTarget, false⟩ ∧
      c.actRequest.pendShown = c.tn (c.flipAt c.actTarget) ∧ c.actRequest.e 0x410208 = 0 := by
  have hk : c.e 0x410301 < c.xz.slots.length := c.lt_length_of_slot_st (by rw [c.slot_of_actResult_ok h]; decide)
  rw [c.actRequest_of_ok hcpa h]
  generalize c.e 0x410301 = k at hk
  generalize c.actTarget = t
  generalize hr : ((c.actPending k t).xzResult 0 0).post 0x3102 [] = r
  have hxz : r.xz = (c.actPending k t).xz := by rw [← hr, Ctl.post_xz, Ctl.xz_xzResult]
  have hpend : r.xz.pend = some ⟨k, some t, false⟩ := congrArg XzState.pend hxz
  refine ⟨?_, hpend, ?_, ?_⟩
  · rw [Ctl.slot_congr (congrArg XzState.slots hxz)]
    exact congrArg XzSlot.st (c.slot_setSlot _ hk)
  · rw [r.pendShown_of_target hpend]
    refine Ctl.tn_flipAt_congr ?_ ?_ (fun x hx => ?_) t
    · rw [← hr, Ctl.post_tb]; rfl
    · rw [← hr, Ctl.post_now]; rfl
    · rw [← hr, Ctl.e_post _ _ _ _ (by simp [postKey]; omega) (by decide), Ctl.e_xzResult, if_neg (by omega), if_neg (by omega)]
      exact c.e_setSlot k _ hx
  · rw [← hr, Ctl.e_post _ _ _ _ (by decide) (by decide), Ctl.e_xzResult]
    rfl

/-! ### ACT_CANCEL (03 R98) -/

theorem Ctl.actCancel_too_late (c : Ctl) {p : XzPend} (hcpa : c.cpaUp = true) (hp : c.xz.pend = some p)
    (h : tickD (c.pendTick p) c.now ≤ tUs 100) : c.actCancel = c.xzRefuse 0x26 0 := by
  simp [Ctl.actCancel, hcpa, hp, h]

/-- The slot of a request waits no more. -/
def Ctl.actWithdrawn (c : Ctl) (k : Nat) : Ctl := (c.setSlot k (fun x => { x with st := 3 })).setXz (fun x => { x with pend := none })

theorem Ctl.actCancel_in_time (c : Ctl) {p : XzPend} (hcpa : c.cpaUp = true) (hp : c.xz.pend = some p)
    (h : tUs 100 < tickD (c.pendTick p) c.now) : c.actCancel = ((c.actWithdrawn p.slot).xzResult 0 0).post 0x3104 [] := by
  simp [Ctl.actCancel, hcpa, hp, Int.not_le.2 h, Ctl.actWithdrawn]

/-- A cancel in time: the slot is READY again and nothing is pending. -/
theorem Ctl.actCancel_withdraws (c : Ctl) {p : XzPend} (hcpa : c.cpaUp = true) (hp : c.xz.pend = some p) (hk : p.slot < c.xz.slots.length)
    (h : tUs 100 < tickD (c.pendTick p) c.now) :
    c.actCancel.xz.pend = none ∧ (c.actCancel.slot p.slot).st = 3 ∧ c.actCancel.pendShown = 0 ∧ c.actCancel.e 0x410208 = 0 := by
  rw [c.actCancel_in_time hcpa hp h]
  generalize hr : ((c.actWithdrawn p.slot).xzResult 0 0).post 0x3104 [] = r
  have hxz : r.xz = (c.actWithdrawn p.slot).xz := by rw [← hr, Ctl.post_xz, Ctl.xz_xzResult]
  have hpend : r.xz.pend = none := congrArg XzState.pend hxz
  refine ⟨hpend, ?_, r.pendShown_of_none hpend, ?_⟩
  · rw [Ctl.slot_congr (congrArg XzState.slots hxz)]
    exact congrArg XzSlot.st (c.slot_setSlot _ hk)
  · rw [← hr, Ctl.e_post _ _ _ _ (by decide) (by decide), Ctl.e_xzResult]
    rfl

/-! ### SRAM_COPY_DONE (03 R99) -/

/-- The slot that an activation of slot `k` replaces is no longer ACTIVE. -/
def Ctl.replaced (c : Ctl) (k : Nat) : Ctl :=
  match c.xz.prev with
  | some q => if q = k then c else if (c.slot q).st = 6 then c.setSlot q (fun x => { x with st := 3 }) else c
  | none => c

theorem Ctl.replaced_xz (c : Ctl) (k : Nat) : ∃ l : List XzSlot, l.length = c.xz.slots.length ∧ (c.replaced k).xz = { c.xz with slots := l } := by
  unfold Ctl.replaced
  split
  · split
    · exact ⟨_, rfl, rfl⟩
    · split
      · exact ⟨_, List.length_modify .., rfl⟩
      · exact ⟨_, rfl, rfl⟩
  · exact ⟨_, rfl, rfl⟩

/-- The tables of slot `k` have been copied. -/
def Ctl.copied (c : Ctl) (k : Nat) : Ctl :=
  ((c.replaced k).setSlot k (fun x => { x with st := 6 })).setXz (fun x => { x with copying := false, prev := none })

/-- The slot whose tables have been copied is ACTIVE, and the activation over. -/
theorem Ctl.copied_active (c : Ctl) {k : Nat} (hk : k < c.xz.slots.length) :
    ((c.copied k).slot k).st = 6 ∧ (c.copied k).xz.copying = false ∧ (c.copied k).xz.prev = none ∧
      (c.copied k).xz.parityLost = c.xz.parityLost := by
  obtain ⟨l, hlen, hxz⟩ := c.replaced_xz k
  have hk' : k < (c.replaced k).xz.slots.length := by rw [hxz]; exact hlen.symm ▸ hk
  have hlost : (c.replaced k).xz.parityLost = c.xz.parityLost := by rw [hxz]
  exact ⟨congrArg XzSlot.st ((c.replaced k).slot_setSlot _ hk'), rfl, rfl, hlost⟩

/-- The mark of a rebuild that failed goes before the slot is read again (14 R410). -/
def Ctl.unmarked (c : Ctl) : Ctl := c.setXz (fun x => { x with parityLost := false })

theorem sramCopyDone_of_readable (m : Mem) (c : Ctl) {k : Nat} (hcopy : c.xz.copying = true) (hact : c.xz.active = some k)
    (hread : (slotRead k m c.unmarked).2.xz.parityLost = false) :
    sramCopyDone m c = ((slotRead k m c.unmarked).1,
      (((slotRead k m c.unmarked).2.copied k).post 0x3103 []).endSafe (fun x => x.kind = .parity)) := by
  unfold Ctl.unmarked at hread
  simp only [sramCopyDone, hcopy, hact, hread]
  rfl

/-- The copy has gone through: the slot is ACTIVE and the activation over; DRAM keeps its octets. -/
theorem sramCopyDone_activates (m : Mem) (c : Ctl) {k : Nat} (hcopy : c.xz.copying = true) (hact : c.xz.active = some k)
    (hk : k < c.xz.slots.length) (hread : (slotRead k m c.unmarked).2.xz.parityLost = false) :
    ((sramCopyDone m c).2.slot k).st = 6 ∧ (sramCopyDone m c).2.xz.copying = false ∧ (sramCopyDone m c).2.xz.prev = none ∧
      (sramCopyDone m c).2.xz.parityLost = false ∧ (sramCopyDone m c).1.dram = m.dram := by
  have hxz := xz_slotRead_of_not_parityLost k m _ hread
  have hdram := dram_slotRead k m c.unmarked
  rw [sramCopyDone_of_readable m c hcopy hact hread]
  generalize slotRead k m c.unmarked = r at hread hxz hdram
  have hend : (((r.2.copied k).post 0x3103 []).endSafe (fun x => x.kind = .parity)).xz = (r.2.copied k).xz := by
    rw [Ctl.xz_endSafe, Ctl.post_xz]
  obtain ⟨hst, hcopying, hprev, hlost⟩ := r.2.copied_active (k := k) (by rw [hxz]; exact hk)
  dsimp only
  rw [Ctl.slot_congr (congrArg XzState.slots hend), hend]
  exact ⟨hst, hcopying, hprev, hlost.trans hread, hdram⟩

/-! ### STORE_CMD and STORE_DONE (03 R105) -/

theorem Ctl.storeCmd_refused (c : Ctl) (hcpa : c.cpaUp = true)
    (h : (List.range 2).find? (fun i => (c.slot i).st = 6) = none ∨ c.xz.storing ≠ none) : c.storeCmd = c.xzRefuse 0x22 0 := by
  unfold Ctl.storeCmd
  rw [if_neg (by simp [hcpa])]
  split
  · rfl
  · next k hk => exact if_pos (Option.isSome_iff_ne_none.2 (h.resolve_left (by simp [hk])))

/-- A store begins: the active slot is being stored, and the stored image is void. -/
theorem Ctl.storeCmd_begins (c : Ctl) {k : Nat} (hcpa : c.cpaUp = true) (hk : (List.range 2).find? (fun i => (c.slot i).st = 6) = some k)
    (h : c.xz.storing = none) :
    c.storeCmd.xz = { c.xz with storing := some k, stored := [] } ∧ c.storeCmd.e 0x410401 = 2 ∧ c.storeCmd.e 0x410208 = 0 := by
  have heq : c.storeCmd = ((((c.setXz (fun x => { x with storing := some k, stored := [] })).setE 0x410401 2).ckOwner true).xzResult 0 0) := by
    simp only [Ctl.storeCmd, hcpa, hk, h]
    rfl
  rw [heq]
  refine ⟨?_, ?_, ?_⟩
  · rw [Ctl.xz_xzResult, Ctl.xz_ckOwner]; rfl
  · rw [Ctl.e_xzResult, if_neg (by decide), if_neg (by decide), Ctl.e_ckOwner _ _ (by decide), Ctl.e_setE]; rfl
  · rw [Ctl.e_xzResult]; rfl

/-- A store that reads no poisoned burst: the stored image is the slot's with its trailers, and DRAM stands. -/
theorem storeDone_stores (m : Mem) (c : Ctl) {k : Nat} (hcpa : c.cpaUp = true) (hk : c.xz.storing = some k) (hmram : c.bt.mramStopped = false)
    (hbad : ∀ b, m.bad b = false) :
    (storeDone m c).1.dram = m.dram ∧ (storeDone m c).2.xz = { c.xz with storing := none, stored := storedForm (c.slot k).img } ∧
      (storeDone m c).2.e 0x410401 = 1 ∧ (storeDone m c).2.e 0x410402 = imgId (storedForm (c.slot k).img) := by
  have hmem := slotRead_mem_of_none_bad k m c hbad
  have hxz := xz_slotRead_of_none_bad k m c hbad
  have himg : ((slotRead k m c).2.slot k).img = (c.slot k).img := by rw [Ctl.slot_congr (congrArg XzState.slots hxz)]
  unfold storeDone
  simp only [hk, hcpa, hmram, hmem, himg, Mem.poisoned_of_none_bad m _ _ hbad, Bool.not_true, Bool.false_eq_true, if_false]
  generalize (slotRead k m c).2 = d at hxz
  generalize storedForm (c.slot k).img = g
  refine ⟨trivial, ?_, ?_, ?_⟩
  · rw [Ctl.post_xz, Ctl.setE_xz, Ctl.setE_xz, Ctl.xz_ckOwner, Ctl.setXz_xz, hxz]
  · rw [Ctl.e_post _ _ _ _ (by decide) (by decide), Ctl.e_setE, if_neg (by decide), Ctl.e_setE, if_pos rfl]
  · rw [Ctl.e_post _ _ _ _ (by decide) (by decide), Ctl.e_setE, if_pos rfl]

/-! ### RAY_QUERY and RAY_QUERY_DONE (02 R68) -/

/-- The status of a query is cleared before it begins. -/
theorem Ctl.reg_queryClear_status (c : Ctl) : c.queryClear.reg .xzRayStatus 0 0 = 0 ∧ c.queryClear.reg .xzRayStatus 0 1 = 0 ∧
    c.queryClear.reg .xzRayStatus 0 2 = 0 := by
  simp [Ctl.queryClear, Ctl.reg_setReg]

theorem Ctl.xz_queryClear (c : Ctl) : c.queryClear.xz = c.xz := foldl_keeps Ctl.xz _ _ c fun _ _ _ => rfl

theorem Ctl.ent_queryClear (c : Ctl) : c.queryClear.ent = c.ent := foldl_keeps Ctl.ent _ _ c fun _ _ _ => rfl

theorem Ctl.rayQuery_of_idle (c : Ctl) (n : Nat) (hq : c.xz.query = none) :
    c.rayQuery n = if c.e 0x410016 ≤ n then (c.queryClear.setReg .xzRayStatus 0 2 1).setReg .xzRayStatus 0 1 1
      else (c.queryClear.setXz (fun x => { x with query := some n })).setReg .xzRayStatus 0 0 1 := by
  simp [Ctl.rayQuery, hq, Ctl.e_congr c.ent_queryClear]

/-- A query in range runs. -/
theorem Ctl.rayQuery_runs (c : Ctl) {n : Nat} (hq : c.xz.query = none) (hn : n < c.e 0x410016) :
    (c.rayQuery n).xz = { c.xz with query := some n } ∧ (c.rayQuery n).ent = c.ent ∧ (c.rayQuery n).reg .xzRayStatus 0 0 = 1 ∧
      (c.rayQuery n).reg .xzRayStatus 0 1 = 0 ∧ (c.rayQuery n).reg .xzRayStatus 0 2 = 0 := by
  obtain ⟨-, hdone, herr⟩ := c.reg_queryClear_status
  rw [c.rayQuery_of_idle n hq, if_neg (Nat.not_le.2 hn)]
  simp [Ctl.reg_setReg, hdone, herr, c.xz_queryClear, c.ent_queryClear]

/-- A query out of range ends at once. -/
theorem Ctl.rayQuery_out_of_range (c : Ctl) {n : Nat} (hq : c.xz.query = none) (hn : c.e 0x410016 ≤ n) :
    (c.rayQuery n).xz = c.xz ∧ (c.rayQuery n).ent = c.ent ∧ (c.rayQuery n).reg .xzRayStatus 0 0 = 0 ∧
      (c.rayQuery n).reg .xzRayStatus 0 1 = 1 ∧ (c.rayQuery n).reg .xzRayStatus 0 2 = 1 := by
  obtain ⟨hbusy, -, -⟩ := c.reg_queryClear_status
  rw [c.rayQuery_of_idle n hq, if_pos hn]
  simp [Ctl.reg_setReg, hbusy, c.xz_queryClear, c.ent_queryClear]

/-- A query that is answered shows the geometry of its ray. -/
theorem Ctl.rayQueryDone_shows (c : Ctl) {n : Nat} {q : RayGeo} (hn : c.xz.query = some n) (hq : q = rayGeo c.img n) :
    c.rayQueryDone.xz = { c.xz with query := none } ∧ c.rayQueryDone.ent = c.ent ∧
      c.rayQueryDone.reg .xzRayStatus 0 0 = 0 ∧ c.rayQueryDone.reg .xzRayStatus 0 1 = 1 ∧
      c.rayQueryDone.reg .xzRayHogel 0 16 = q.row ∧ c.rayQueryDone.reg .xzRayHogel 0 0 = q.col ∧
      c.rayQueryDone.reg .xzRayView 0 8 = q.j ∧ c.rayQueryDone.reg .xzRayView 0 0 = q.i ∧
      c.rayQueryDone.reg .xzRayLens 0 0 = q.rec_ ∧ c.rayQueryDone.reg .xzRaySx 0 0 = q.sx ∧ c.rayQueryDone.reg .xzRaySy 0 0 = q.sy := by
  subst hq
  simp [Ctl.rayQueryDone, hn, Ctl.reg_setReg]

end Sys2Proof.Machine

open Sys2Proof Sys2Proof.Machine

/-- Settles O59 (02 R68, 03 R96 to R106; assumption logs 100, 108 and 113): a request by the slot and the flip that it leaves, a copy and a store by
what a readable slot lets through, a query by the registers that it sets. -/
theorem imagesAreActivatedAndStored : Obligations.ImagesAreActivatedAndStored := by
  unfold Obligations.ImagesAreActivatedAndStored
  refine ⟨fun dt k at_ s hcpa hk hok hat => ?request, fun dt s hcpa hfault => ?requestRefused, fun dt p s hcpa hp hslot htime => ?cancel,
    fun dt p s hcpa hp htime => ?cancelTooLate, fun dt ue k s hcopy hact hk hread => ?copyDone, fun dt k s hcpa hk hidle => ?store,
    fun dt s hcpa hno => ?storeRefused, fun dt ue k s hcpa hk hmram hbad => ?storeDone, fun dt n s hidle hn => ?query,
    fun dt n s hidle hn => ?queryOutOfRange, fun dt n q s hn hq => ?queryDone⟩
  case request =>
    subst hk hat
    exact leaves_of_exec_eq_runC (exec_actRequest ..) ((s.ctl.advance dt).actRequest_pends hcpa hok)
  case requestRefused =>
    refine leaves_of_exec_eq_runC (exec_actRequest ..) ?_
    rw [(s.ctl.advance dt).actRequest_of_fault hcpa hfault]
    exact ⟨Ctl.xz_xzRefuse .., Ctl.e_xzRefuse _ _ (Ctl.actResult_fst_lt _)⟩
  case cancel => exact leaves_of_exec_eq_runC (exec_actCancel ..) ((s.ctl.advance dt).actCancel_withdraws hcpa hp hslot htime)
  case cancelTooLate =>
    refine leaves_of_exec_eq_runC (exec_actCancel ..) ?_
    rw [(s.ctl.advance dt).actCancel_too_late hcpa hp htime]
    exact ⟨Ctl.xz_xzRefuse .., (Ctl.e_xzRefuse _ 0 (by decide)).1⟩
  case copyDone =>
    obtain ⟨hst, hrest⟩ := sramCopyDone_activates (s.mem.found ue) (s.ctl.advance dt) hcopy hact hk hread
    exact ⟨_, exec_sramCopyDone .., rfl, hst, hrest⟩
  case store => exact leaves_of_exec_eq_runC (exec_storeCmd ..) ((s.ctl.advance dt).storeCmd_begins hcpa hk hidle)
  case storeRefused =>
    refine leaves_of_exec_eq_runC (exec_storeCmd ..) ?_
    rw [(s.ctl.advance dt).storeCmd_refused hcpa hno]
    exact ⟨Ctl.xz_xzRefuse .., (Ctl.e_xzRefuse _ 0 (by decide)).1⟩
  case storeDone =>
    obtain ⟨hdram, hxz, hstate, hid⟩ := storeDone_stores (s.mem.found ue) (s.ctl.advance dt) hcpa hk hmram hbad
    exact ⟨_, exec_storeDone .., hdram, rfl, congrArg XzState.storing hxz, congrArg XzState.stored hxz, hstate, hid⟩
  case query => exact leaves_of_exec_eq_runC (exec_rayQuery ..) ((s.ctl.advance dt).rayQuery_runs hidle hn)
  case queryOutOfRange => exact leaves_of_exec_eq_runC (exec_rayQuery ..) ((s.ctl.advance dt).rayQuery_out_of_range hidle hn)
  case queryDone => exact leaves_of_exec_eq_runC (exec_rayQueryDone ..) ((s.ctl.advance dt).rayQueryDone_shows hn hq)

end

section
/-! PROOFS. An image into a slot of DRAM that is out of form (03 R85, R88; assumption log 7): octets that enter it need not read back. -/
namespace Sys2Proof.Machine

/-- A load of one raw octet into slot 0. -/
def oneOctetLoad : XzLoad := ⟨0, 0, 1, [], false, 0, false, none⟩

/-- A part with memory up, whose load waits for its one octet; DRAM lists the first octet of slot 0 twice, which is not its canonical form. -/
def dramListedTwice : State :=
  { State.reset with
    ctl := (({} : Ctl).setE 0x500003 2).setXz (fun x => { x with load := some oneOctetLoad })
    mem := { dram := [(0, 1), (0, 1)] } }

/-- A zero that enters the slot takes one of the two listings away: the octet still reads as the other. -/
theorem imageLoadData_dramListedTwice {t : State} (h : exec (.imageLoadData 0 [0]) dramListedTwice = .next t) : t.mem.read 0 1 = [1] := by
  cases h
  decide +kernel

end Sys2Proof.Machine

open Sys2Proof Sys2Proof.Machine

/-- Refutes O58: the clause of IMAGE_LOAD_DATA says that the octets of an image read back from its slot, of any DRAM. It does not ask for DRAM in the
canonical form (`Mem.wf`; assumption log 7), and where DRAM lists an address twice a zero stored there does not read back. -/
theorem not_imagesComeIntoTheirSlot : ¬ Obligations.ImagesComeIntoTheirSlot := by
  unfold Obligations.ImagesComeIntoTheirSlot
  intro h
  obtain ⟨-, -, hdata, -⟩ := h
  obtain ⟨t, hexec, -, -, -, hread, -⟩ := hdata 0 [0] [0] 0 [0] oneOctetLoad dramListedTwice (by decide) rfl rfl rfl (.inl rfl) rfl (by decide) rfl
    (by decide) (by decide) (.inl rfl) rfl
  have hzero : t.mem.read 0 1 = [0] := hread (by decide)
  rw [imageLoadData_dramListedTwice hexec] at hzero
  exact absurd hzero (by decide)

end

section
/-! PROOFS. Where a load goes (03 R87 to R91): the slot that it takes, what it discards there, and when it is refused. -/
namespace Sys2Proof.Machine

/-! ### The commands -/

theorem exec_imageLoadBegin (dt : Nat) (s : State) : exec (.imageLoadBegin dt) s = runC (fun c => (c.advance dt).imageLoadBegin) s := rfl

theorem exec_dmaLoadStart (dt : Nat) (s : State) : exec (.dmaLoadStart dt) s = runC (fun c => (c.advance dt).dmaLoadStart) s := rfl

/-! ### A load that is refused (R87) -/

theorem Ctl.loadBusy_iff (c : Ctl) :
    c.loadBusy = true ↔ (c.slot c.loadTarget).st = 5 ∨ c.xz.storing = some c.loadTarget ∨ c.xz.load ≠ none := by
  simp [Ctl.loadBusy, Option.isSome_iff_ne_none, or_assoc]

theorem Ctl.loadBusy_eq_false (c : Ctl) (hst : (c.slot c.loadTarget).st ≠ 5) (hstoring : c.xz.storing ≠ some c.loadTarget)
    (hload : c.xz.load = none) : c.loadBusy = false :=
  Bool.eq_false_iff.2 fun h => (c.loadBusy_iff.1 h).elim hst fun h => h.elim hstoring fun h => h hload

theorem Ctl.loadBegin_busy (c : Ctl) {enc : Nat} (size : Nat) (dma : Bool) (hcpa : c.cpaUp = true) (henc : enc ≤ 2) (h : c.loadBusy = true) :
    c.loadBegin enc size dma = c.xzRefuse 0x22 0 := by
  simp [Ctl.loadBegin, hcpa, Nat.not_lt.2 henc, h]

theorem Ctl.imageLoadBegin_busy (c : Ctl) (hcpa : c.cpaUp = true) (henc : c.e 0x410201 ≤ 2) (h : c.loadBusy = true) :
    c.imageLoadBegin = c.xzRefuse 0x22 0 := c.loadBegin_busy _ _ hcpa henc h

/-- A refusal with SLOT_BUSY leaves the image manager and shows its result. -/
theorem Ctl.xzRefuse_slotBusy (c : Ctl) : (c.xzRefuse 0x22 0).xz = c.xz ∧ (c.xzRefuse 0x22 0).e 0x410208 = 0x22 :=
  ⟨Ctl.xz_xzRefuse .., (c.e_xzRefuse 0 (by decide)).1⟩

/-- A load by DMA that is refused asks nothing of the host. -/
theorem Ctl.dmaLoadStart_busy (c : Ctl) (hcpa : c.cpaUp = true) (henc : c.reg .xzLoadCtrl 0 4 ≤ 2) (h : c.loadBusy = true) :
    c.dmaLoadStart = c.xzRefuse 0x22 0 := by
  have hload : (c.xzRefuse 0x22 0).xz.load = c.xz.load := congrArg XzState.load (Ctl.xz_xzRefuse ..)
  unfold Ctl.dmaLoadStart
  rw [c.loadBegin_busy _ _ hcpa henc h]
  dsimp only
  rw [hload]
  exact if_neg (by cases c.xz.load <;> simp)

/-! ### A load that begins (R87 to R89) -/

/-- The image manager as a load has begun: the target slot is LOADING and empty. -/
def Ctl.loadBegun (c : Ctl) (enc size : Nat) (dma : Bool) : XzState :=
  { c.xz with
    slots := updAt c.xz.slots c.loadTarget (fun _ => { st := 1 })
    load := some ⟨c.loadTarget, enc, size, [], dma, c.up, false, none⟩
    boot := c.xz.boot && decide (c.loadTarget ≠ 0) }

theorem Ctl.xz_loadBegin (c : Ctl) {enc size : Nat} (dma : Bool) (hcpa : c.cpaUp = true) (henc : enc ≤ 2) (hfree : c.loadBusy = false)
    (hsize : enc ≠ 0 ∨ size ≤ 11534336) : (c.loadBegin enc size dma).xz = c.loadBegun enc size dma := by
  unfold Ctl.loadBegin
  simp only [hcpa, Nat.not_lt.2 henc, hfree, Bool.not_true, Bool.false_eq_true, if_false]
  by_cases hraw : enc = 0
  · have hfits : ¬ size > 11534336 := Nat.not_lt.2 (hsize.resolve_left (not_not_intro hraw))
    rw [if_neg (not_not_intro hraw), if_neg (by simpa using hfits), Ctl.xz_ckOwner]
    rfl
  · rw [if_pos hraw]
    exact (Ctl.xz_ckOwner ..).trans rfl

/-- A load that waits for the DMA engine, or goes on, keeps its slot. -/
theorem Ctl.dmaLoadGo_keeps (c : Ctl) :
    c.dmaLoadGo.xz.slots = c.xz.slots ∧ c.dmaLoadGo.xz.load.map XzLoad.slot = c.xz.load.map XzLoad.slot := by
  unfold Ctl.dmaLoadGo
  split
  · exact ⟨rfl, rfl⟩
  · split
    · exact ⟨rfl, rfl⟩
    · exact ⟨rfl, by simp [Function.comp_def]⟩

/-- A load by DMA takes the slot that any load takes. -/
theorem Ctl.dmaLoadStart_keeps (c : Ctl) {d : Ctl} (hd : c.loadBegin (c.reg .xzLoadCtrl 0 4) (c.reg .xzLoadLen 0 0) true = d) :
    c.dmaLoadStart.xz.slots = d.xz.slots ∧ c.dmaLoadStart.xz.load.map XzLoad.slot = d.xz.load.map XzLoad.slot := by
  unfold Ctl.dmaLoadStart
  rw [hd]
  dsimp only
  split
  · exact ⟨(Ctl.dmaLoadGo_keeps _).1, (Ctl.dmaLoadGo_keeps _).2.trans (by simp [Function.comp_def])⟩
  · exact ⟨rfl, rfl⟩

/-- Slot `k` of two is made anew, and the other stands. -/
theorem Ctl.slot_of_updAt {c d : Ctl} {k : Nat} {x : XzSlot} (h : d.xz.slots = updAt c.xz.slots k (fun _ => x)) (hk : k < c.xz.slots.length) :
    d.slot k = x ∧ ∀ i, i ≠ k → d.slot i = c.slot i := by
  unfold Ctl.slot
  rw [h]
  exact ⟨by simp [updAt, hk], fun i hi => by simp [updAt, hi.symm]⟩

/-- What a load that has begun says of the slots. -/
theorem Ctl.loadBegun_slots {c d : Ctl} {enc size : Nat} {dma : Bool} (hlen : c.xz.slots.length = 2)
    (hslots : d.xz.slots = (c.loadBegun enc size dma).slots) (hload : d.xz.load.map XzLoad.slot = (c.loadBegun enc size dma).load.map XzLoad.slot) :
    d.xz.load.map XzLoad.slot = some c.loadTarget ∧ d.slot c.loadTarget = { st := 1, img := [] } ∧
      d.slot (1 - c.loadTarget) = c.slot (1 - c.loadTarget) := by
  have htarget : c.loadTarget < 2 := by unfold Ctl.loadTarget; split <;> decide
  obtain ⟨hnew, hother⟩ := Ctl.slot_of_updAt hslots (hlen ▸ htarget)
  exact ⟨hload, hnew, hother _ (by omega)⟩

end Sys2Proof.Machine

open Sys2Proof Sys2Proof.Machine

/-- Settles O11 (03 R87; assumption log 100): both transports begin a load by one rule, `Ctl.loadBegin`, which refuses or takes the target slot. -/
theorem loadsChooseTheirSlot : Obligations.LoadsChooseTheirSlot := by
  unfold Obligations.LoadsChooseTheirSlot
  refine ⟨fun dt k s hcpa hk hlen hst hstoring hload henc hsize => ?begin, fun dt k s hcpa hk hlen hst hstoring hload henc hsize => ?dmaBegin,
    fun dt k s hcpa hk hbusy henc => ?beginRefused, fun dt k s hcpa hk hbusy henc => ?dmaRefused⟩
  case begin =>
    subst hk
    refine leaves_of_exec_eq_runC (exec_imageLoadBegin ..) ?_
    have hxz := (s.ctl.advance dt).xz_loadBegin false hcpa henc ((s.ctl.advance dt).loadBusy_eq_false hst hstoring hload) hsize
    exact Ctl.loadBegun_slots (c := s.ctl.advance dt) hlen (congrArg XzState.slots hxz) (congrArg (fun x => x.load.map XzLoad.slot) hxz)
  case dmaBegin =>
    subst hk
    refine leaves_of_exec_eq_runC (exec_dmaLoadStart ..) ?_
    have hxz := (s.ctl.advance dt).xz_loadBegin true hcpa henc ((s.ctl.advance dt).loadBusy_eq_false hst hstoring hload) hsize
    obtain ⟨hslots, hslot⟩ := (s.ctl.advance dt).dmaLoadStart_keeps rfl
    exact Ctl.loadBegun_slots (c := s.ctl.advance dt) hlen (hslots.trans (congrArg XzState.slots hxz))
      (hslot.trans (congrArg (fun x => x.load.map XzLoad.slot) hxz))
  case beginRefused =>
    subst hk
    refine leaves_of_exec_eq_runC (exec_imageLoadBegin ..) ?_
    rw [(s.ctl.advance dt).imageLoadBegin_busy hcpa henc ((s.ctl.advance dt).loadBusy_iff.2 hbusy)]
    exact (s.ctl.advance dt).xzRefuse_slotBusy
  case dmaRefused =>
    subst hk
    refine leaves_of_exec_eq_runC (exec_dmaLoadStart ..) ?_
    rw [(s.ctl.advance dt).dmaLoadStart_busy hcpa henc ((s.ctl.advance dt).loadBusy_iff.2 hbusy)]
    exact (s.ctl.advance dt).xzRefuse_slotBusy

end

section
/-! PROOFS. What stands while another unit works: the part under a read of DRAM (14 R410 to R414), under panel drive's walk through the scan
schedule (09 R278), and under an event of Easel (06 R208). -/
namespace Sys2Proof.Machine

/-! ### A read of DRAM -/

/-- The part without what events and the memory controller change. -/
def Ctl.offMc (c : Ctl) : Ctl := { c.kept with mc := {} }

theorem Ctl.offMc_of_kept {c d : Ctl} (h : d.kept = c.kept) : d.offMc = c.offMc := congrArg (fun x : Ctl => { x with mc := {} }) h

theorem Ctl.offMc_post (c : Ctl) (code : Nat) (items : List (Nat × Nat)) : (c.post code items).offMc = c.offMc :=
  Ctl.offMc_of_kept (c.kept_post code items)

theorem Ctl.offMc_mcRun (c : Ctl) : c.mcRun.offMc = c.offMc := by
  unfold Ctl.mcRun
  split
  · rfl
  · extract_lets now woken d rs miss rank e
    split
    · rfl
    · refine (foldl_keeps Ctl.offMc _ _ e fun d p _ => ?_).trans rfl
      split <;> rfl

theorem Ctl.offMc_requests (c : Ctl) (client : Nat) (write : Bool) (l : List Nat) : (c.requests client write l).offMc = c.offMc := by
  unfold Ctl.requests Ctl.ask
  split
  · rfl
  · exact c.offMc_mcRun

theorem Ctl.offMc_eccUnc (c : Ctl) (client scrub b : Nat) : (c.eccUnc client scrub b).offMc = c.offMc := by
  unfold Ctl.eccUnc
  exact (Ctl.offMc_post ..).trans rfl

theorem Ctl.offMc_eccCorrected (c : Ctl) (p : Nat) : (c.eccCorrected p).offMc = c.offMc := by
  unfold Ctl.eccCorrected
  extract_lets d due
  split
  · exact (Ctl.offMc_post ..).trans rfl
  · rfl

theorem Ctl.offMc_readBurst (c : Ctl) (m : Mem) (client scrub b : Nat) : (c.readBurst m client scrub b).offMc = c.offMc := by
  unfold Ctl.readBurst
  extract_lets d
  have hlink : d.offMc = c.offMc := by
    unfold d
    split
    · rfl
    · rfl
    · exact Ctl.offMc_requests ..
  split
  · exact (Ctl.offMc_eccUnc ..).trans hlink
  · split
    · exact hlink
    · exact (Ctl.offMc_requests ..).trans ((d.offMc_eccCorrected _).trans hlink)

/-- A read of DRAM changes the memory controller and what shows an event, whatever it finds. -/
theorem Ctl.offMc_readBursts (c : Ctl) (m : Mem) (client : Nat) (l : List Nat) : (c.readBursts m client l).offMc = c.offMc := by
  unfold Ctl.readBursts
  split
  · exact Ctl.offMc_requests ..
  · exact (foldl_keeps Ctl.offMc _ l _ fun d b _ => d.offMc_readBurst m client 0 b).trans (Ctl.offMc_requests ..)

theorem Ctl.es_readDram (c : Ctl) (m : Mem) (client a n : Nat) : (c.readDram m client a n).es = c.es :=
  (congrArg Ctl.es (c.offMc_readBursts m client (burstsOf a n)) :)

theorem es_slotReadAt (i off n : Nat) (m : Mem) (c : Ctl) : (slotReadAt i off n m c).2.es = c.es := by
  unfold slotReadAt
  extract_lets base m' d
  have hd : d.es = c.es := (congrArg Ctl.es (c.offMc_readBursts m 7 (slotReads base (c.slot i).img.length off n m)) :)
  split
  · exact hd
  · exact hd

/-! ### Panel drive's walk through the scan schedule -/

/-- The part without what panel drive changes as packets leave: its lanes, what the part has sent, and the items at the snoop points. -/
def Ctl.offPanel (c : Ctl) : Ctl := { c with pd := {}, out := [], cx := { c.cx with passed := [] } }

theorem Ctl.offPanel_setPd (c : Ctl) (f : PdState → PdState) : (c.setPd f).offPanel = c.offPanel := rfl

theorem Ctl.offPanel_snoopPass (c : Ctl) (point tag : Nat) (bs : List Byte) : (c.snoopPass point tag bs).offPanel = c.offPanel := by
  unfold Ctl.snoopPass
  split <;> rfl

theorem Ctl.offPanel_loadSend (c : Ctl) (k ptype ic spec : Nat) (data : List Byte) (bx : Bool) :
    (c.loadSend k ptype ic spec data bx).offPanel = c.offPanel := by
  unfold Ctl.loadSend
  split <;> rfl

theorem Ctl.offPanel_pdClose (c : Ctl) (k : Nat) : (c.pdClose k).offPanel = c.offPanel := by
  unfold Ctl.pdClose
  extract_lets x bx data c1 c2 c3
  have hsent : c1.offPanel = c.offPanel := Ctl.offPanel_loadSend ..
  have hsnooped : c2.offPanel = c1.offPanel := by
    unfold c2
    split
    · exact Ctl.offPanel_snoopPass ..
    · rfl
  have hrows : c3.offPanel = c.offPanel := (Ctl.offPanel_setPd ..).trans ((Ctl.offPanel_setPd ..).trans (hsnooped.trans hsent))
  split
  · rfl
  · split
    · exact (Ctl.offPanel_setPd ..).trans hrows
    · exact hrows

theorem Ctl.offPanel_pdSettle (ents : List (Nat × Nat)) (k n : Nat) (c : Ctl) : (Ctl.pdSettle ents k n c).offPanel = c.offPanel := by
  induction n generalizing c with
  | zero => rfl
  | succ n ih =>
    unfold Ctl.pdSettle
    extract_lets x next
    have hnext : ∀ d : Ctl, (next d).offPanel = d.offPanel := fun d => (ih _).trans rfl
    split
    · exact c.offPanel_pdClose k
    · split
      · rfl
      · split
        · split
          · rfl
          · exact hnext c
        · split
          · exact (hnext _).trans ((Ctl.offPanel_loadSend ..).trans (c.offPanel_pdClose k))
          · split
            · split
              · exact c.offPanel_pdClose k
              · exact (hnext _).trans (c.offPanel_pdClose k)
            · exact c.offPanel_pdClose k

theorem Ctl.offPanel_walkLane (c : Ctl) (k : Nat) : (c.walkLane k).offPanel = c.offPanel := Ctl.offPanel_pdSettle ..

/-- A ray that joins a packet leaves every unit but panel drive. -/
theorem Ctl.offPanel_pdPush (c : Ctl) (k : Nat) (r : PdRay) : (c.pdPush k r).offPanel = c.offPanel := by
  unfold Ctl.pdPush
  extract_lets x c1 c2
  have hclosed : c2.offPanel = c.offPanel := by
    unfold c2
    split
    · exact (c1.offPanel_pdClose k).trans rfl
    · rfl
  split
  · rfl
  · exact (Ctl.offPanel_walkLane ..).trans hclosed

theorem Ctl.es_showRow (c : Ctl) : c.showRow.es = c.es := by unfold Ctl.showRow; split <;> rfl

theorem Ctl.xz_showRow (c : Ctl) : c.showRow.xz = c.xz := by unfold Ctl.showRow; split <;> rfl

/-- Easel and the image manager stand while the lanes walk on. -/
theorem Ctl.walkOn_keeps (c : Ctl) : c.walkOn.es = c.es ∧ c.walkOn.xz = c.xz := by
  unfold Ctl.walkOn
  have hwalk : ((List.range 32).foldl Ctl.walkLane c).offPanel = c.offPanel :=
    foldl_keeps Ctl.offPanel _ _ c fun d k _ => d.offPanel_walkLane k
  generalize (List.range 32).foldl Ctl.walkLane c = d at hwalk
  split
  · exact ⟨rfl, rfl⟩
  · exact ⟨d.es_showRow.trans (congrArg Ctl.es hwalk :), d.xz_showRow.trans (congrArg Ctl.xz hwalk :)⟩

end Sys2Proof.Machine
end

section
/-! PROOFS. Easel makes a frame (06 R174 to R207): its rays group by group, its probes and fills, its reloads, and a Brush that is lost. -/
namespace Sys2Proof.Machine

/-! ### The commands -/

theorem exec_rayStartReached (dt : Nat) (s : State) : exec (.rayStartReached dt) s = runC (fun c => (c.advance dt).rayStart) s := rfl

theorem exec_rayGroup (dt : Nat) (faults : List (Nat × Nat)) (s : State) :
    exec (.rayGroup dt faults) s = runC (fun c => (c.advance dt).rayGroup faults) s := rfl

theorem exec_probeCycle (dt : Nat) (s : State) : exec (.probeCycle dt) s = runC (fun c => (c.advance dt).probeCycle) s := rfl

theorem exec_fillIssue (dt : Nat) (bad : Bool) (s : State) : exec (.fillIssue dt bad) s = runC (fun c => (c.advance dt).fillIssue bad) s := rfl

theorem exec_fillComplete (dt entry : Nat) (ue : List DramErr) (s : State) :
    exec (.fillComplete dt entry ue) s = runM (fun m c => fillComplete entry (m.found ue) (c.advance dt)) s := rfl

theorem exec_lastRayOut (dt : Nat) (s : State) : exec (.lastRayOut dt) s = runC (fun c => (c.advance dt).lastRay) s := rfl

theorem exec_tableReloadDone (dt : Nat) (view : Bool) (index : Nat) (ue : List DramErr) (s : State) :
    exec (.tableReloadDone dt view index ue) s = runM (fun m c => reloadDone (b2n view) index (m.found ue) (c.advance dt)) s := rfl

theorem exec_scheduleBlockReloaded (dt : Nat) (fetch : Bool) (block : Nat) (ue : List DramErr) (s : State) :
    exec (.scheduleBlockReloaded dt fetch block ue) s = runM (fun m c => reloadDone (2 + b2n fetch) block (m.found ue) (c.advance dt)) s := by
  cases fetch <;> rfl

theorem exec_brushFault (dt brush lost : Nat) (s : State) :
    exec (.brushFault dt brush lost) s = runC (fun c => (c.advance dt).brushFault brush lost) s := rfl

/-! ### The frame in production -/

@[simp] theorem Ctl.fr_setFr (c : Ctl) (f : EsFrame → EsFrame) : (c.setFr f).es.fr = c.es.fr.map f := rfl

/-- A change of the frame in production that a reading of it does not see. -/
theorem Ctl.map_fr_setFr {α : Type} (c : Ctl) (f : EsFrame → EsFrame) (g : EsFrame → α) (h : ∀ x, g (f x) = g x) :
    (c.setFr f).es.fr.map g = c.es.fr.map g := by
  rw [Ctl.fr_setFr, Option.map_map]
  exact congrArg (c.es.fr.map ·) (funext h)

/-! ### The array stalls and goes on (R200) -/

/-- Whether the array stalls decides of the stall's time and count only. -/
theorem Ctl.settleStall_eq (c : Ctl) : ∃ (n : EsFrame → Nat) (t : Option Nat), c.settleStall =
    c.setEs (fun e => { e with fr := e.fr.map (fun f => { f with stall := n f }), stallAt := t }) := by
  have hid : (fun f : EsFrame => { f with stall := f.stall }) = id := rfl
  have hsame : c = c.setEs (fun e => { e with fr := e.fr.map (fun f => { f with stall := f.stall }), stallAt := c.es.stallAt }) := by
    simp only [hid, Option.map_id_fun, id]
    rfl
  unfold Ctl.settleStall
  split
  next hfr => exact ⟨fun f => f.stall, none, by simp only [hid, Option.map_id_fun, id]⟩
  next f hfr hrun =>
    split
    · exact ⟨fun f => f.stall, some c.up, by simp only [hid, Option.map_id_fun, id]⟩
    · exact ⟨_, _, hsame⟩
  next f t hfr hstall =>
    split
    · exact ⟨_, _, hsame⟩
    · exact ⟨fun f => f.stall + cyclesOf (c.up - t), none, rfl⟩

theorem Ctl.reload_settleStall (c : Ctl) : c.settleStall.es.reload = c.es.reload := by
  obtain ⟨n, t, h⟩ := c.settleStall_eq
  rw [h]
  rfl

theorem Ctl.xz_settleStall (c : Ctl) : c.settleStall.xz = c.xz := by
  obtain ⟨n, t, h⟩ := c.settleStall_eq
  rw [h]
  rfl

/-- A reading of the frame in production that does not ask for its stall stands. -/
theorem Ctl.fr_settleStall {α : Type} (c : Ctl) (g : EsFrame → α) (hg : ∀ f n, g { f with stall := n } = g f) :
    c.settleStall.es.fr.map g = c.es.fr.map g := by
  obtain ⟨n, t, h⟩ := c.settleStall_eq
  rw [h]
  simp [Function.comp_def, hg]

/-! ### RAY_START_REACHED (R197) -/

theorem Ctl.rayStart_starts (c : Ctl) {f : EsFrame} (hfr : c.es.fr = some f) (hnew : f.started = false) (hlost : f.lost = false)
    (hrun : c.es.stallAt = none) (hdue : f.flipUp + tUs f.rayStart ≤ c.up) :
    c.rayStart.es.fr = some { f with started := true } ∧ c.rayStart.es.stallAt = (if c.esBlocked then some c.up else none) ∧ c.rayStart.ent = c.ent := by
  have hstart : c.rayStart = (c.setFr (fun f => { f with started := true })).settleStall := by
    simp [Ctl.rayStart, hfr, hnew, hlost, Nat.not_lt.2 hdue]
  have hblocked : (c.setFr (fun f => { f with started := true })).esBlocked = c.esBlocked := rfl
  have hnext : (c.setFr (fun f => { f with started := true })).es.fr = some { f with started := true } := by simp [hfr]
  have hstall : (c.setFr (fun f => { f with started := true })).es.stallAt = none := hrun
  rw [hstart, Ctl.settleStall, hnext, hstall]
  simp only [hblocked, Bool.true_and]
  split
  · exact ⟨hnext, rfl, rfl⟩
  · exact ⟨hnext, hstall, rfl⟩

/-! ### RAY_GROUP (R174, R175) -/

/-- Where a frame stands: its phase, the rays of it that have been taken, the array cycles spent, and what the next group sheds. -/
def EsFrame.place (f : EsFrame) : Nat × Nat × Nat × Nat := (f.phase, f.pos, f.cycles, f.shedNow)

/-- While the phase has rays left it is the current one. -/
theorem EsFrame.norm_of_lt (g : List Byte) (f : EsFrame) (h : f.pos < (phaseRays g f.phase).length) : f.norm g = f := by
  unfold EsFrame.norm
  refine List.foldlRecOn (motive := fun x => x = f) _ _ rfl fun x hx _ _ => ?_
  subst hx
  have hleft : decide (x.pos ≥ (phaseRays g x.phase).length) = false := decide_eq_false (Nat.not_le.2 h)
  exact if_neg (by rw [hleft, Bool.false_and]; exact Bool.false_ne_true)

theorem Ctl.fr_esPost (c : Ctl) (code : Nat) (items : List (Nat × Nat)) : (c.esPost code items).es.fr = c.es.fr := by
  unfold Ctl.esPost
  split
  · rfl
  · rw [Ctl.post_es]
    rfl

theorem Ctl.place_fillsLate (c : Ctl) (f : EsFrame) : (c.fillsLate f).es.fr.map EsFrame.place = c.es.fr.map EsFrame.place := by
  unfold Ctl.fillsLate
  extract_lets n
  split
  · rfl
  · rw [Ctl.fr_esPost]
    exact c.map_fr_setFr _ _ fun _ => rfl

theorem Ctl.es_enTake (c : Ctl) (n v : Nat) : (c.enTake n v).es = c.es := by
  unfold Ctl.enTake
  split <;> rfl

/-- A ray that leaves counts in the frame; the frame stands where it was. -/
theorem Ctl.place_rayLeaves (c : Ctl) (r : ScanRay) (v : Nat × List Nat) :
    (c.rayLeaves r v).es.fr.map EsFrame.place = c.es.fr.map EsFrame.place := by
  unfold Ctl.rayLeaves
  extract_lets g d
  have hd : d.es = c.es := (congrArg Ctl.es (Ctl.offPanel_pdPush (c.enTake r.n v.1) r.lane _) :).trans (c.es_enTake r.n v.1)
  split
  · rw [hd]
  · rw [Ctl.map_fr_setFr, hd]
    exact fun _ => rfl

theorem Ctl.fr_boundsPost (c : Ctl) : c.boundsPost.es.fr = c.es.fr := by
  unfold Ctl.boundsPost
  split
  · split
    · rfl
    · rw [Ctl.fr_esPost]
      rfl
  · rfl

/-- The rays of a group leave. -/
def Ctl.groupLeaves (c : Ctl) (f : EsFrame) (group : List ScanRay) : Ctl :=
  group.foldl (fun c r => c.rayLeaves r (c.rayValue f f.shedNow f.phase r.n)) c

theorem Ctl.place_groupLeaves (c : Ctl) (f : EsFrame) (group : List ScanRay) :
    (c.groupLeaves f group).es.fr.map EsFrame.place = c.es.fr.map EsFrame.place :=
  foldl_keeps (fun d : Ctl => d.es.fr.map EsFrame.place) _ _ c fun d _ _ => d.place_rayLeaves _ _

/-- A frame after a group of `n` rays. -/
def EsFrame.afterGroup (g : List Byte) (n : Nat) (x : EsFrame) : EsFrame :=
  EsFrame.norm g { x with pos := x.pos + n, cycles := x.cycles + groupCycles g x.shedNow, again := none }

theorem EsFrame.afterGroup_of_lt (g : List Byte) (n : Nat) (x : EsFrame) (h : x.pos + n < (phaseRays g x.phase).length) :
    x.afterGroup g n = { x with pos := x.pos + n, cycles := x.cycles + groupCycles g x.shedNow, again := none } :=
  EsFrame.norm_of_lt _ _ h

theorem Ctl.stallAt_of_esRuns (c : Ctl) {f : EsFrame} (h : c.esRuns f = true) : c.es.stallAt = none := by
  simp only [Ctl.esRuns, Bool.and_eq_true, Option.isNone_iff_eq_none] at h
  obtain ⟨⟨-, hstall⟩, -⟩ := h
  exact hstall

section
variable (c : Ctl) {f : EsFrame} (hfr : c.es.fr = some f) (hruns : c.esRuns f = true)
include hfr hruns

/-- A group that meets no error: its rays leave, and the frame goes on behind them. -/
theorem Ctl.rayGroup_of_runs (hgroup : f.group c.img c.brushes ≠ [])
    (hprobed : f.pending c.img f.shedNow (f.group c.img c.brushes) = []) :
    c.rayGroup [] = (((c.fillsLate f).groupLeaves ((c.fillsLate f).es.fr.getD f) (f.group c.img c.brushes)).setFr
      (EsFrame.afterGroup c.img (f.group c.img c.brushes).length)).boundsPost.showRow := by
  simp only [Ctl.rayGroup, hfr, hruns, hprobed, List.isEmpty_eq_false_iff.2 hgroup, List.foldl_nil, c.stallAt_of_esRuns hruns]
  rfl

/-- A group within its phase takes its rays, and its array cycles are spent. -/
theorem Ctl.rayGroup_takes (hgroup : f.group c.img c.brushes ≠ [])
    (hprobed : f.pending c.img f.shedNow (f.group c.img c.brushes) = [])
    (hleft : f.pos + (f.group c.img c.brushes).length < (phaseRays c.img f.phase).length) :
    ((c.rayGroup []).es.fr.map fun x => (x.phase, x.pos, x.cycles, x.again)) =
      some (f.phase, f.pos + (f.group c.img c.brushes).length, f.cycles + groupCycles c.img f.shedNow, none) := by
  rw [c.rayGroup_of_runs hfr hruns hgroup hprobed, Ctl.es_showRow, Ctl.fr_boundsPost]
  generalize (c.fillsLate f).es.fr.getD f = f'
  have hplace : ((c.fillsLate f).groupLeaves f' (f.group c.img c.brushes)).es.fr.map EsFrame.place = some f.place := by
    rw [Ctl.place_groupLeaves, Ctl.place_fillsLate, hfr]
    rfl
  generalize (c.fillsLate f).groupLeaves f' (f.group c.img c.brushes) = d at hplace
  obtain ⟨x, hx, hxplace⟩ := Option.map_eq_some_iff.1 hplace
  simp only [EsFrame.place, Prod.mk.injEq] at hxplace
  obtain ⟨hphase, hpos, hcycles, hshed⟩ := hxplace
  have hafter := x.afterGroup_of_lt c.img (f.group c.img c.brushes).length (by rw [hpos, hphase]; exact hleft)
  simp [hx, hafter, hphase, hpos, hcycles, hshed]

end

/-! ### PROBE_CYCLE (R176) -/

/-- A probe is made; its outcomes are kept. -/
theorem EsFrame.probe_eq (g : List Byte) (rays : List ScanRay) (f : EsFrame) (p : Nat) :
    ∃ l, f.probe g rays p = { f with probes := l, probed := p :: f.probed } := by
  unfold EsFrame.probe
  extract_lets h s mine one d
  have hd : ∃ l, d = { f with probes := l } :=
    List.foldlRecOn (motive := fun x : EsFrame => ∃ l, x = { f with probes := l }) mine one ⟨f.probes, rfl⟩ fun x ⟨l, hx⟩ r _ => by
      subst hx
      exact ⟨_, rfl⟩
  obtain ⟨l, hd⟩ := hd
  exact ⟨l, by rw [hd]⟩

/-- Probes are made one after another. -/
theorem EsFrame.probes_eq (g : List Byte) (rays : List ScanRay) (todo : List Nat) (f : EsFrame) :
    ∃ l, todo.foldl (EsFrame.probe g rays) f = { f with probes := l, probed := todo.reverse ++ f.probed } := by
  induction todo generalizing f with
  | nil => exact ⟨f.probes, rfl⟩
  | cons p todo ih =>
    obtain ⟨l, hp⟩ := f.probe_eq g rays p
    obtain ⟨l', htodo⟩ := ih { f with probes := l, probed := p :: f.probed }
    exact ⟨l', by rw [List.foldl_cons, hp, htodo]; simp⟩

/-- A frame after a cycle of probes. -/
def EsFrame.afterProbes (g : List Byte) (rays : List ScanRay) (todo : List Nat) (x : EsFrame) : EsFrame :=
  { todo.foldl (EsFrame.probe g rays) x with cycles := (todo.foldl (EsFrame.probe g rays) x).cycles + 1 }

/-- The probes that a cycle makes: as many as there are Brushes. -/
def Ctl.probesDue (c : Ctl) (f : EsFrame) : List Nat := (f.pending c.img f.shedNow (phaseRays c.img f.phase)).take c.brushes

/-- A cycle of probes makes those that are due, and is spent. -/
theorem Ctl.probeCycle_probes (c : Ctl) {f : EsFrame} (hfr : c.es.fr = some f) (hruns : c.esRuns f = true)
    (hdue : f.pending c.img f.shedNow (f.group c.img c.brushes) ≠ []) :
    c.probeCycle.ent = c.ent ∧ (c.probeCycle.es.fr.map fun x => (x.phase, x.pos, x.cycles)) = some (f.phase, f.pos, f.cycles + 1) ∧
      (c.probesDue f).all (fun p => c.probeCycle.es.fr.any (fun x => x.probed.contains p)) = true := by
  have heq : c.probeCycle = c.setFr (EsFrame.afterProbes c.img (phaseRays c.img f.phase) (c.probesDue f)) := by
    simp only [Ctl.probeCycle, hfr, hruns, List.isEmpty_eq_false_iff.2 hdue]
    rfl
  rw [heq]
  generalize c.probesDue f = todo
  obtain ⟨l, htodo⟩ := EsFrame.probes_eq c.img (phaseRays c.img f.phase) todo f
  refine ⟨rfl, ?_, ?_⟩
  · simp [hfr, EsFrame.afterProbes, htodo]
  · have hall : ∀ p ∈ todo, p ∈ todo.reverse ++ f.probed := fun p hp => List.mem_append_left _ (List.mem_reverse.2 hp)
    simpa [hfr, EsFrame.afterProbes, htodo, List.all_eq_true] using hall

/-! ### LAST_RAY_OUT (R197) -/

theorem Ctl.lastRay_ends (c : Ctl) {f : EsFrame} (hfr : c.es.fr = some f) (hrest : f.rest c.img = 0) (hend : f.endNs = none)
    (hlost : f.lost = false) (hstarted : f.started = true) :
    c.lastRay.ent = c.ent ∧ c.lastRay.es.fr = some { f with endNs := some ((c.up - f.flipUp) / 65536) } := by
  have heq : c.lastRay = c.setFr (fun f => { f with endNs := some ((c.up - f.flipUp) / 65536) }) := by
    simp [Ctl.lastRay, hfr, hrest, hend, hlost, hstarted]
  rw [heq]
  exact ⟨rfl, by simp [hfr]⟩

/-! ### FILL_ISSUE (R190) -/

theorem Ctl.es_postBlock (c : Ctl) (code : Nat) (items : List (Nat × Nat)) (block : Nat) : (c.postBlock code items block).es = c.es := by
  unfold Ctl.postBlock
  exact c.post_es code items

/-- What is to be reloaded waits for its reload, and the frame stands but for its stall. -/
theorem Ctl.esReload_waits (c : Ctl) (kind i : Nat) {α : Type} (g : EsFrame → α) (hg : ∀ f n, g { f with stall := n } = g f) :
    (c.esReload kind i).es.reload.contains (kind, i) = true ∧ (c.esReload kind i).es.fr.map g = c.es.fr.map g := by
  unfold Ctl.esReload
  rw [Ctl.reload_settleStall, Ctl.fr_settleStall _ g hg]
  exact ⟨by simp, rfl⟩

/-- The tag of a fetch entry as it is issued. -/
def EsFrame.newTag (g : List Byte) (i ph e : Nat) (f : EsFrame) : EsTag :=
  ⟨i, fetchFrame e, fetchSlot e, fetchKey e, fetchU e, fetchV e, ph, (f.fillState g i e).1, (f.fillState g i e).2⟩

section
variable (c : Ctl) {f : EsFrame} {i ph e : Nat} (hfr : c.es.fr = some f) (hnext : (fetchFills c.img)[f.issued]? = some (i, ph, e))
  (hlost : f.lost = false) (hreload : c.es.reload.any (fun r => r.1 = 3) = false) (hphase : ph < 2 ∨ f.left c.img (ph - 2) = 0)
include hfr hnext hlost hreload hphase

/-- An entry that may be issued gets its tag; where its schedule block fails the check the block is reloaded instead. -/
theorem Ctl.fillIssue_of_ready (bad : Bool) :
    c.fillIssue bad = if bad then (c.postBlock 0x31C1 [] (2 * 2 ^ 32 + i / 31)).esReload 3 (i / 31)
      else c.setFr (fun x => { x with
        issued := x.issued + 1
        tags := x.tags ++ [f.newTag c.img i ph e]
        fills := x.fills + b2n ((f.fillState c.img i e).1 = .filling)
        culls := x.culls + b2n ((f.fillState c.img i e).1 = .culled) }) := by
  have hopen : (decide (2 ≤ ph) && decide (f.left c.img (ph - 2) ≠ 0)) = false := by
    rcases hphase with hfirst | hnone
    · simp [Nat.not_le.2 hfirst]
    · simp [hnone]
  simp only [Ctl.fillIssue, hfr, hnext, hlost, hreload, hopen]
  rfl

theorem Ctl.fillIssue_issues :
    (c.fillIssue false).ent = c.ent ∧
      ((c.fillIssue false).es.fr.map fun x => (x.issued, x.tags, x.pos)) = some (f.issued + 1, f.tags ++ [f.newTag c.img i ph e], f.pos) := by
  rw [c.fillIssue_of_ready hfr hnext hlost hreload hphase false, if_neg (by decide)]
  exact ⟨rfl, by simp [hfr]⟩

theorem Ctl.fillIssue_reloads :
    (c.fillIssue true).es.reload.contains (3, i / 31) = true ∧
      ((c.fillIssue true).es.fr.map fun x => (x.issued, x.tags)) = some (f.issued, f.tags) := by
  rw [c.fillIssue_of_ready hfr hnext hlost hreload hphase true, if_pos rfl]
  generalize hd : c.postBlock 0x31C1 [] (2 * 2 ^ 32 + i / 31) = d
  have hes : d.es = c.es := hd ▸ Ctl.es_postBlock ..
  obtain ⟨hwaits, hstands⟩ := d.esReload_waits 3 (i / 31) (fun x => (x.issued, x.tags)) fun _ _ => rfl
  exact ⟨hwaits, hstands.trans (by rw [hes, hfr]; rfl)⟩

end

/-! ### FILL_COMPLETE (R190, 14 R410) -/

/-- The texel words of a tile. -/
def Mem.tileWords (m : Mem) (a : Nat) : List Nat := (List.range 1024).map (fun k => ofLE (m.read (a + 8 * k) 8))

/-- A fill that completes: its tag is VALID, or POISONED, and its cache frame holds what was read; DRAM stands. -/
theorem fillComplete_fills (entry : Nat) (m : Mem) (c : Ctl) {f : EsFrame} {tag : EsTag} (hfr : c.es.fr = some f)
    (htag : f.tags.find? (fun t => t.entry = entry && t.st = .filling) = some tag) {a : Nat} (ha : a = f.fillAddr (schedEntry (imgSec c.img 3) entry)) :
    (fillComplete entry m c).1 = m ∧
      ((fillComplete entry m c).2.es.fr.map EsFrame.tags) =
        some (f.tags.map (fun x => if x.entry = entry then { x with st := if m.poisoned a 8192 then .poisoned else .valid } else x)) ∧
      ((fillComplete entry m c).2.es.fr.bind fun x => aGet x.cache tag.frame) = some (m.tileWords a) := by
  have hread : (c.readDram m 1 a 8192).es.fr = some f := by rw [Ctl.es_readDram, hfr]
  have heq : fillComplete entry m c = (m, (c.readDram m 1 a 8192).setFr (fun x => { x with
      tags := x.tags.map (fun x => if x.entry = entry then { x with st := if m.poisoned a 8192 then .poisoned else .valid } else x)
      cache := aSet x.cache tag.frame (m.tileWords a) })) := by
    simp only [fillComplete, hfr, htag, ← ha]
    rfl
  rw [heq]
  exact ⟨rfl, by simp [hread], by simp [hread, aGet_aSet]⟩

/-! ### Reloads (03 R104, 06 R204) -/

/-- A reload that could be read is in place: it waits no more. -/
def Ctl.reloaded (c : Ctl) (was : Bool) (kind i : Nat) : Ctl :=
  ((c.setXz (fun x => { x with parityLost := was })).setEs (fun e => { e with reload := e.reload.filter (· ≠ (kind, i)) })).settleStall

theorem reloadDone_of_readable (kind i : Nat) (m : Mem) (c : Ctl) {slot : Nat} {r : Mem × Ctl} (hact : c.xz.active = some slot)
    (hwaits : c.es.reload.contains (kind, i) = true)
    (hr : slotReadAt slot (reloadAt c.img kind i).1 (reloadAt c.img kind i).2 m c.unmarked = r) (hread : r.2.xz.parityLost = false) :
    reloadDone kind i m c = (r.1, if kind = 2 then (r.2.reloaded c.xz.parityLost kind i).walkOn else r.2.reloaded c.xz.parityLost kind i) := by
  unfold Ctl.unmarked at hr
  simp only [reloadDone, hact, hwaits, hr, hread]
  rfl

/-- A reload from a slot that could be read leaves the list of what waits, and the mark of a failed rebuild as it was. -/
theorem reloadDone_reloads (kind i : Nat) (m : Mem) (c : Ctl) {slot : Nat} (hact : c.xz.active = some slot)
    (hwaits : c.es.reload.contains (kind, i) = true)
    (hread : (slotReadAt slot (reloadAt c.img kind i).1 (reloadAt c.img kind i).2 m c.unmarked).2.xz.parityLost = false) :
    (reloadDone kind i m c).2.es.reload = c.es.reload.filter (· ≠ (kind, i)) ∧ (reloadDone kind i m c).2.xz.parityLost = c.xz.parityLost := by
  have hes := es_slotReadAt slot (reloadAt c.img kind i).1 (reloadAt c.img kind i).2 m c.unmarked
  generalize hr : slotReadAt slot (reloadAt c.img kind i).1 (reloadAt c.img kind i).2 m c.unmarked = r at hread hes
  have hreload : (r.2.reloaded c.xz.parityLost kind i).es.reload = c.es.reload.filter (· ≠ (kind, i)) := by
    rw [Ctl.reloaded, Ctl.reload_settleStall, Ctl.setEs_es, Ctl.setXz_es, hes]
    rfl
  have hlost : (r.2.reloaded c.xz.parityLost kind i).xz.parityLost = c.xz.parityLost := by
    rw [Ctl.reloaded, Ctl.xz_settleStall]
    rfl
  rw [reloadDone_of_readable kind i m c hact hwaits hr hread]
  generalize r.2.reloaded c.xz.parityLost kind i = d at hreload hlost
  dsimp only
  split
  · rw [d.walkOn_keeps.1, d.walkOn_keeps.2]
    exact ⟨hreload, hlost⟩
  · exact ⟨hreload, hlost⟩

/-! ### BRUSH_FAULT (R206, R207) -/

/-- What is asked of a lost Brush: its own state, the Brushes in service, the units that are OUT, the Brushes of them, and the image manager. -/
def Ctl.brushView (c : Ctl) (b : Nat) : Nat × Nat × List Nat × List Nat × XzState := (c.ea 0x4001 b, c.brushes, c.fm.outNow, c.es.out, c.xz)

/-- An entry that the view of a Brush reads. -/
def brushKey (k : Nat) : Prop := k = 0x400005 ∨ 0x400101 ≤ k ∧ k ≤ 0x400120

theorem postKey_of_brushKey {k : Nat} (h : brushKey k) : postKey k = false := by
  unfold brushKey at h
  simp only [postKey, Bool.or_eq_false_iff, Bool.and_eq_false_iff, decide_eq_false_iff_not]
  omega

section
variable {b : Nat} (hb : b < 32)
include hb

theorem Ctl.brushView_congr {c d : Ctl} (he : ∀ k, brushKey k → d.e k = c.e k) (hout : d.fm.outNow = c.fm.outNow)
    (hes : d.es.out = c.es.out) (hxz : d.xz = c.xz) : d.brushView b = c.brushView b := by
  have hkey : brushKey (ekey 0x4001 (b + 1)) := by unfold brushKey ekey; omega
  unfold Ctl.brushView Ctl.ea Ctl.brushes
  rw [he _ hkey, he 0x400005 (.inl rfl), hout, hes, hxz]

theorem Ctl.brushView_setE (c : Ctl) (k n : Nat) (hk : ¬ brushKey k) : (c.setE k n).brushView b = c.brushView b :=
  Ctl.brushView_congr hb (fun k' hk' => by rw [Ctl.e_setE, if_neg (by rintro rfl; exact hk hk')]) rfl rfl rfl

theorem Ctl.brushView_post (c : Ctl) (code : Nat) (items : List (Nat × Nat)) (hcode : code < 65536) :
    (c.post code items).brushView b = c.brushView b :=
  Ctl.brushView_congr hb (fun k hk => Ctl.e_post _ _ _ _ (postKey_of_brushKey hk) hcode) (congrArg FmState.outNow (c.fmKept_post code items).1 :)
    (by rw [Ctl.post_es]) (by rw [Ctl.post_xz])

theorem Ctl.brushView_esPost (c : Ctl) (code : Nat) (items : List (Nat × Nat)) (hcode : code < 65536) :
    (c.esPost code items).brushView b = c.brushView b := by
  unfold Ctl.esPost
  split
  · rfl
  · exact (Ctl.brushView_post hb _ _ _ hcode).trans rfl

/-- Shedding slots leaves every Brush. -/
theorem Ctl.brushView_setShed (c : Ctl) (new : Nat) : (c.setShed new).brushView b = c.brushView b := by
  unfold Ctl.setShed
  extract_lets old d e
  have hd : d.brushView b = c.brushView b := c.brushView_setE hb _ _ (by unfold brushKey; omega)
  have he : e.brushView b = c.brushView b := by
    unfold e
    split
    · exact hd
    · exact (Ctl.brushView_esPost hb _ _ _ (by decide)).trans hd
  split
  · exact he
  · exact (Ctl.brushView_post hb _ _ _ (by decide)).trans he

end

/-- A Brush goes out of service. -/
def Ctl.brushLost (c : Ctl) (b : Nat) : Ctl :=
  ((((((c.setEa 0x4001 b 1).setE 0x400005 (c.brushes - 1)).orReg .esBrushFault 0 0 b).setEs
    (fun e => { e with out := insertRising e.out b, restore := e.restore.filter (· ≠ b) })).unitOut 0x30 b).post 0x30C1 [i8 b])

theorem Ctl.brushView_brushLost (c : Ctl) {b : Nat} (hb : b < 32) :
    (c.brushLost b).brushView b = (1, c.brushes - 1, insertRising c.fm.outNow (unitKey 0x30 b), insertRising c.es.out b, c.xz) := by
  have hkey : ¬ 0x400005 = ekey 0x4001 (b + 1) := by unfold ekey; omega
  have hbrush : ((c.setEa 0x4001 b 1).setE 0x400005 (c.brushes - 1)).ea 0x4001 b = 1 := by simp [Ctl.ea, hkey]
  have hcount : ((c.setEa 0x4001 b 1).setE 0x400005 (c.brushes - 1)).brushes = c.brushes - 1 := by simp [Ctl.brushes]
  unfold Ctl.brushLost
  rw [Ctl.brushView_post hb _ _ _ (by decide)]
  exact Prod.ext hbrush (Prod.ext hcount rfl)

/-- What the frame in production sheds for the loss leaves every Brush. -/
theorem Ctl.brushView_brushFault (c : Ctl) {b : Nat} (lost : Nat) (hb : b < 32) (hin : c.ea 0x4001 b ≠ 1) :
    (c.brushFault b lost).brushView b = (c.brushLost b).brushView b := by
  unfold Ctl.brushFault
  rw [if_neg (by simp [hin, hb])]
  extract_lets c1 c2 d d'
  have hsheds : d'.brushView b = d.brushView b := by
    clear_value d
    unfold d'
    split
    · rfl
    · split
      · rfl
      · exact (Ctl.brushView_setShed hb _ _).trans rfl
  rw [Ctl.predict, Ctl.brushView_setE hb _ _ _ (by unfold brushKey; omega), hsheds]
  rfl

theorem mem_insertRising (l : List Nat) (n : Nat) : n ∈ insertRising l n := by
  unfold insertRising
  split
  · exact List.contains_iff_mem.1 ‹_›
  · simp

/-- A Brush that is lost is OUT, and one fewer is in service; the image manager stands. -/
theorem Ctl.brushFault_out (c : Ctl) {b : Nat} (lost : Nat) (hb : b < 32) (hin : c.ea 0x4001 b ≠ 1) :
    (c.brushFault b lost).ea 0x4001 b = 1 ∧ (c.brushFault b lost).brushes = c.brushes - 1 ∧ (c.brushFault b lost).isOut 0x30 b = true ∧
      (c.brushFault b lost).es.out.contains b = true ∧ (c.brushFault b lost).xz = c.xz := by
  have hview : (c.brushFault b lost).brushView b =
      (1, c.brushes - 1, insertRising c.fm.outNow (unitKey 0x30 b), insertRising c.es.out b, c.xz) := by
    rw [c.brushView_brushFault lost hb hin, c.brushView_brushLost hb]
  simp only [Ctl.brushView, Prod.mk.injEq] at hview
  obtain ⟨hbrush, hcount, hunits, hout, hxz⟩ := hview
  refine ⟨hbrush, hcount, ?_, ?_, hxz⟩
  · rw [Ctl.isOut, hunits]
    exact List.contains_iff_mem.2 (mem_insertRising ..)
  · rw [hout]
    exact List.contains_iff_mem.2 (mem_insertRising ..)

end Sys2Proof.Machine

open Sys2Proof Sys2Proof.Machine

/-- Settles O52 (03 R104, 06 R174 to R206): each command from what it leaves of the frame in production, of the reloads, or of the Brushes; a read of
DRAM and panel drive's walk leave Easel alone. -/
theorem easelMakesAFrame : Obligations.EaselMakesAFrame := by
  unfold Obligations.EaselMakesAFrame
  refine ⟨fun dt f s hfr hnew hlost hrun hdue => ?rayStart, fun dt f s hfr hruns hgroup hprobed hleft => ?rayGroup,
    fun dt f s hfr hruns hdue => ?probeCycle, fun dt f i ph e s hfr hnext hlost hreload hphase => ?fillIssue,
    fun dt f i ph e s hfr hnext hlost hreload hphase => ?fillRefused, fun dt entry ue f tag a s hfr htag ha => ?fillComplete,
    fun dt f s hfr hrest hend hlost hstarted => ?lastRay, fun dt view index ue slot s hact hwaits hread => ?tableReload,
    fun dt fetch block ue slot s hact hwaits hread => ?blockReload, fun dt brush lost s hbrush hin => ?brushFault⟩
  case rayStart => exact leaves_of_exec_eq_runC (exec_rayStartReached ..) ((s.ctl.advance dt).rayStart_starts hfr hnew hlost hrun hdue)
  case rayGroup => exact leaves_of_exec_eq_runC (exec_rayGroup ..) ((s.ctl.advance dt).rayGroup_takes hfr hruns hgroup hprobed hleft)
  case probeCycle => exact leaves_of_exec_eq_runC (exec_probeCycle ..) ((s.ctl.advance dt).probeCycle_probes hfr hruns hdue)
  case fillIssue => exact leaves_of_exec_eq_runC (exec_fillIssue ..) ((s.ctl.advance dt).fillIssue_issues hfr hnext hlost hreload hphase)
  case fillRefused => exact leaves_of_exec_eq_runC (exec_fillIssue ..) ((s.ctl.advance dt).fillIssue_reloads hfr hnext hlost hreload hphase)
  case fillComplete =>
    obtain ⟨hmem, hfilled⟩ := fillComplete_fills entry (s.mem.found ue) (s.ctl.advance dt) hfr htag ha
    exact ⟨_, exec_fillComplete .., (congrArg Mem.dram hmem :), rfl, hfilled⟩
  case lastRay => exact leaves_of_exec_eq_runC (exec_lastRayOut ..) ((s.ctl.advance dt).lastRay_ends hfr hrest hend hlost hstarted)
  case tableReload =>
    exact ⟨_, exec_tableReloadDone .., rfl, reloadDone_reloads (b2n view) index (s.mem.found ue) (s.ctl.advance dt) hact hwaits hread⟩
  case blockReload =>
    exact ⟨_, exec_scheduleBlockReloaded .., rfl, reloadDone_reloads (2 + b2n fetch) block (s.mem.found ue) (s.ctl.advance dt) hact hwaits hread⟩
  case brushFault => exact leaves_of_exec_eq_runC (exec_brushFault ..) ((s.ctl.advance dt).brushFault_out lost hbrush hin)

end

section
/-! PROOFS. DRAM as Palette uses it: what a store leaves and what reads back from it, and the part and its entries under reads and writes (14 R409,
R410, R413). -/
namespace Sys2Proof.Machine

/-! ### Octets of DRAM under a store -/

/-- A cell set at one address leaves what the list, in form or not, holds at any other. -/
theorem cellFind_cellSet_ne (l : List Host.Cell) {a x : Nat} (b : Byte) (hne : a ≠ x) :
    (cellSet l a b).find? (fun p => p.1 = x) = l.find? (fun p => p.1 = x) := by
  induction l with
  | nil =>
    unfold cellSet
    split <;> simp [hne]
  | cons p l ih =>
    unfold cellSet
    split
    · split <;> simp [hne]
    · split
      · rename_i heq
        subst heq
        split <;> simp [hne]
      · rw [List.find?_cons, List.find?_cons, ih]

/-- A store of one octet leaves every other address, whatever the form of memory. -/
theorem Mem.get_set_ne (m : Mem) {a x : Nat} (b : Byte) (hne : a ≠ x) : (m.set a b).get x = m.get x := by
  unfold Mem.get Mem.set
  rw [cellFind_cellSet_ne m.dram b hne]

/-- Octets stored leave every address outside them, whatever the form of memory. -/
theorem Mem.get_store_off (bs : List Byte) (m : Mem) {a x : Nat} (hx : x < a ∨ a + bs.length ≤ x) : (m.store a bs).get x = m.get x := by
  suffices hwrite : (m.write a bs).get x = m.get x from hwrite
  induction bs generalizing m a with
  | nil => rfl
  | cons b bs ih =>
    rw [List.length_cons] at hx
    exact (ih (m.set a b) (by omega)).trans (m.get_set_ne b (by omega))

/-- An octet stored reads back. -/
theorem Mem.get_store (bs : List Byte) (m : Mem) (a : Nat) {j : Nat} (hwf : m.wf = true) (hj : j < bs.length) :
    (m.store a bs).get (a + j) = bs[j] := by
  suffices hwrite : (m.write a bs).get (a + j) = bs[j] from hwrite
  induction bs generalizing m a j with
  | nil => exact absurd hj (Nat.not_lt_zero j)
  | cons b bs ih =>
    cases j with
    | zero => exact (Mem.get_store_off bs (m.set a b) (by omega)).trans (by simp [Mem.get_set m a a b hwf])
    | succ j =>
      rw [List.length_cons, Nat.add_lt_add_iff_right] at hj
      rw [← Nat.add_assoc, Nat.add_right_comm]
      exact ih (m.set a b) (a + 1) (m.set_wf a b hwf) hj

/-- Octets inside those stored read back. -/
theorem Mem.read_store (bs : List Byte) (m : Mem) (a j n : Nat) (hwf : m.wf = true) (hn : j + n ≤ bs.length) :
    (m.store a bs).read (a + j) n = (bs.drop j).take n := by
  induction n generalizing j with
  | zero => rfl
  | succ n ih =>
    have hj : j < bs.length := by omega
    rw [Mem.read, m.get_store bs a hwf hj, Nat.add_assoc, ih (j + 1) (by omega), List.drop_eq_getElem_cons hj, List.take_succ_cons]

theorem length_flatMap_of_length_eq {α β : Type} (f : α → List β) {w : Nat} (hw : ∀ x, (f x).length = w) (l : List α) :
    (l.flatMap f).length = l.length * w := by
  induction l with
  | nil => rw [List.flatMap_nil, List.length_nil, List.length_nil, Nat.zero_mul]
  | cons x l ih => rw [List.flatMap_cons, List.length_append, hw, ih, List.length_cons, Nat.succ_mul, Nat.add_comm]

/-- Element `i` of a table whose elements have `w` octets each. -/
theorem take_drop_flatMap {α β : Type} (f : α → List β) {w : Nat} (hw : ∀ x, (f x).length = w) (l : List α) {i : Nat} (hi : i < l.length) :
    ((l.flatMap f).drop (w * i)).take w = f l[i] := by
  induction l generalizing i with
  | nil => exact absurd hi (Nat.not_lt_zero i)
  | cons x l ih =>
    cases i with
    | zero => simp [← hw x]
    | succ i =>
      rw [List.flatMap_cons, Nat.mul_succ, Nat.add_comm, ← List.drop_drop, ← hw x, List.drop_left, hw x]
      exact ih _

/-! ### Reads and writes of DRAM, and the rest of the part (14 R409, R410, R413) -/

theorem Ctl.offMc_ask (c : Ctl) (client : Nat) (write : Bool) (part : Nat → Bool) (l : List Nat) : (c.ask client write part l).offMc = c.offMc := by
  unfold Ctl.ask
  split
  · rfl
  · exact c.offMc_mcRun

/-- A write of DRAM changes the memory controller and what shows an event, as a read does. -/
theorem Ctl.offMc_writeDram (c : Ctl) (m : Mem) (client a n : Nat) : (c.writeDram m client a n).offMc = c.offMc := by
  unfold Ctl.writeDram Ctl.writeBursts
  extract_lets d
  have hask : d.offMc = c.offMc := Ctl.offMc_ask ..
  split
  · exact hask
  · exact (foldl_keeps Ctl.offMc _ _ d fun e b _ => e.offMc_readBurst m client 0 b).trans hask

theorem Ctl.offMc_readDram (c : Ctl) (m : Mem) (client a n : Nat) : (c.readDram m client a n).offMc = c.offMc := Ctl.offMc_readBursts ..

theorem Ctl.xz_of_offMc {c d : Ctl} (h : d.offMc = c.offMc) : d.xz = c.xz := (congrArg Ctl.xz h :)

theorem Ctl.pl_of_offMc {c d : Ctl} (h : d.offMc = c.offMc) : d.pl = c.pl := (congrArg Ctl.pl h :)

/-- A count of the memory controller is no entry below its own. -/
theorem Ctl.e_setEa_mc (c : Ctl) {idx : Nat} (i n : Nat) {k : Nat} (hidx : 0x5002 ≤ idx) (hk : k < 0x500200) : (c.setEa idx i n).e k = c.e k := by
  rw [Ctl.e_setEa, if_neg (by unfold ekey; omega)]

theorem postKey_of_lt_mc {k : Nat} (hk : k < 0x500200) : postKey k = false := by
  simp only [postKey, Bool.or_eq_false_iff, Bool.and_eq_false_iff, decide_eq_false_iff_not]
  omega

theorem Ctl.e_mcRun (c : Ctl) {k : Nat} (hk : k < 0x500200) : c.mcRun.e k = c.e k := by
  unfold Ctl.mcRun
  split
  · rfl
  · extract_lets now woken d rs miss rank e
    split
    · rfl
    · refine (foldl_keeps (Ctl.e · k) _ _ e fun d p _ => ?_).trans rfl
      split
      · rfl
      · exact d.e_setEa_mc p _ (by decide) hk

theorem Ctl.e_ask (c : Ctl) (client : Nat) (write : Bool) (part : Nat → Bool) (l : List Nat) {k : Nat} (hk : k < 0x500200) :
    (c.ask client write part l).e k = c.e k := by
  unfold Ctl.ask
  split
  · rfl
  · exact c.e_mcRun hk

theorem Ctl.e_eccUnc (c : Ctl) (client scrub b : Nat) {k : Nat} (hk : k < 0x500200) : (c.eccUnc client scrub b).e k = c.e k := by
  unfold Ctl.eccUnc
  exact (Ctl.e_post _ _ _ k (postKey_of_lt_mc hk) (by decide)).trans (c.e_setEa_mc (idx := 0x5003) _ _ (by decide) hk)

theorem Ctl.e_eccCorrected (c : Ctl) (p : Nat) {k : Nat} (hk : k < 0x500200) : (c.eccCorrected p).e k = c.e k := by
  unfold Ctl.eccCorrected
  extract_lets d due
  have hcount : d.e k = c.e k := c.e_setEa_mc (idx := 0x5002) p _ (by decide) hk
  split
  · exact (Ctl.e_post _ _ _ k (postKey_of_lt_mc hk) (by decide)).trans hcount
  · exact hcount

theorem Ctl.e_readBurst (c : Ctl) (m : Mem) (client scrub b : Nat) {k : Nat} (hk : k < 0x500200) : (c.readBurst m client scrub b).e k = c.e k := by
  unfold Ctl.readBurst
  extract_lets d
  have hlink : d.e k = c.e k := by
    unfold d
    split
    · rfl
    · exact c.e_setEa_mc (idx := 0x5004) _ _ (by decide) hk
    · exact c.e_ask _ _ _ _ hk
  split
  · exact (d.e_eccUnc _ _ _ hk).trans hlink
  · split
    · exact hlink
    · exact (Ctl.e_ask _ _ _ _ _ hk).trans ((d.e_eccCorrected _ hk).trans hlink)

/-- A read of DRAM leaves every entry below those of the memory controller. -/
theorem Ctl.e_readDram (c : Ctl) (m : Mem) (client a n : Nat) {k : Nat} (hk : k < 0x500200) : (c.readDram m client a n).e k = c.e k := by
  unfold Ctl.readDram Ctl.readBursts
  split
  · exact c.e_ask _ _ _ _ hk
  · exact (foldl_keeps (Ctl.e · k) _ _ _ fun d b _ => d.e_readBurst m client 0 b hk).trans (c.e_ask _ _ _ _ hk)

/-! ### Errors that a step mends -/

/-- An association list whose keys are sifted. -/
theorem aGet_filter {α : Type} (p : Nat → Bool) (l : List (Nat × α)) (k : Nat) :
    aGet (l.filter (fun e => p e.1)) k = if p k = true then aGet l k else none := by
  induction l with
  | nil => simp [aGet, firstSome]
  | cons e l ih =>
    unfold aGet at ih ⊢
    by_cases hkey : e.1 = k
    · subst hkey
      by_cases hp : p e.1 = true
      · simp [hp, firstSome]
      · simpa [hp] using ih
    · by_cases hp : p e.1 = true
      · simpa [hp, firstSome, hkey] using ih
      · simpa [hp, firstSome, hkey] using ih

/-- Errors that are mended leave no burst with an error that had none. -/
theorem mended_errOf (r : Mem × Ctl) {b : Nat} (h : r.1.errOf b = 0) : (mended r).1.errOf b = 0 := by
  unfold Mem.errOf mended at *
  dsimp only
  rw [aGet_filter (fun k => !r.2.mc.fixes.contains k)]
  split
  · exact h
  · rfl

/-- A command that puts nothing into DRAM leaves its octets, its errors and the queue. -/
theorem leaves_of_exec_eq_runM {i : Instr} {f : Mem → Ctl → Mem × Ctl} {s : State} {d : Ctl} {P : Ctl → Prop} (h : exec i s = runM f s)
    (hf : f s.mem s.ctl = (s.mem, d)) (hP : P (mended (s.mem, d)).2) : leaves i s P :=
  ⟨_, h.trans (runM_eq_next hf), rfl, fun _ hb => mended_errOf (s.mem, d) hb, rfl, hP⟩

end Sys2Proof.Machine
end

section
/-! PROOFS. Palette and Glaze (07 R220 to R235): the cull mask in DRAM, a row of a slot's pass, the end of a pass, and Glaze's copies. -/
namespace Sys2Proof.Machine

/-! ### The commands -/

theorem exec_cullPlanDone (dt : Nat) (ue : List DramErr) (s : State) :
    exec (.cullPlanDone dt ue) s = runM (fun m c => cullPlanDone (m.found ue) (c.advance dt)) s := rfl

theorem exec_ingestRowStart (dt slot : Nat) (ue : List DramErr) (s : State) :
    exec (.ingestRowStart dt slot ue) s = runM (fun m c => ingestRow slot (m.found ue) (c.advance dt)) s := rfl

theorem exec_ingestPassDone (dt slot : Nat) (ecc : Bool) (s : State) :
    exec (.ingestPassDone dt slot ecc) s = runC (fun c => (c.advance dt).ingestDone slot ecc) s := rfl

theorem exec_glazeSyncDone (dt : Nat) (s : State) : exec (.glazeSyncDone dt) s = runC (fun c => (c.advance dt).glazeSynced) s := rfl

theorem exec_glazeRestoreDone (dt table : Nat) (s : State) :
    exec (.glazeRestoreDone dt table) s = runC (fun c => (c.advance dt).glazeRestored table) s := rfl

/-! ### CULL_PLAN_DONE (R226, R227) -/

theorem Ctl.nextFlip_of_issuing (c : Ctl) (h : c.tb.issuing = true) : c.nextFlip = c.tb.nextIndex := if_pos h

theorem cullPlanDone_of_due (m : Mem) (c : Ctl) (hissue : c.tb.issuing = true) (hcut : c.dc.cutFor = some c.tb.nextIndex)
    (hnew : c.pl.planned ≠ some (c.tb.nextIndex + 1)) : cullPlanDone m c = planCull (c.tb.nextIndex + 1) c.fetchCount m c := by
  simp [cullPlanDone, c.nextFlip_of_issuing hissue, hissue, hcut, hnew]

/-- While the bounds area is too small the mask is empty (R226). -/
theorem planCull_of_off (frame limit : Nat) (m : Mem) (c : Ctl) (h : c.cullOn = false) :
    planCull frame limit m c = (m, c.setPl (fun p => { p with planned := some frame, mask := [] })) := by
  simp [planCull, h]

section
variable {c d : Ctl} (hxz : d.xz = c.xz) (hbase : d.e 0x420004 = c.e 0x420004)
include hxz

theorem Ctl.img_congr : d.img = c.img := by unfold Ctl.img; rw [hxz]

theorem Ctl.plan_congr (i : Nat) : d.plan i = c.plan i := by unfold Ctl.plan; rw [Ctl.img_congr hxz]

theorem Ctl.usedSlot_congr (i : Nat) : d.usedSlot i = c.usedSlot i := by
  unfold Ctl.usedSlot Ctl.hasImage
  rw [hxz, Ctl.plan_congr hxz]

theorem Ctl.fetchCount_congr : d.fetchCount = c.fetchCount := by unfold Ctl.fetchCount; rw [Ctl.img_congr hxz]

theorem Ctl.gridBytes_congr : d.gridBytes = c.gridBytes := by simp only [Ctl.gridBytes, Ctl.usedSlot_congr hxz, Ctl.plan_congr hxz]

theorem Ctl.zOf_congr (i depth : Nat) : d.zOf i depth = c.zOf i depth := by simp only [Ctl.zOf, Ctl.plan_congr hxz, Ctl.img_congr hxz]

include hbase

theorem Ctl.maskAddr_congr (frame i : Nat) : d.maskAddr frame i = c.maskAddr frame i := by
  simp only [Ctl.maskAddr, Ctl.gridBytes_congr hxz, Ctl.fetchCount_congr hxz, hbase]

theorem Ctl.fillCell_congr (m : Mem) (frame e : Nat) : d.fillCell m frame e = c.fillCell m frame e := by
  simp only [Ctl.fillCell, Ctl.cellAddr, Ctl.gridBytes_congr hxz, Ctl.usedSlot_congr hxz, Ctl.plan_congr hxz, hbase]

theorem Ctl.firstWalk_congr (m : Mem) (frame : Nat) (fills : List (Nat × Nat × Nat)) (p i : Nat) :
    d.firstWalk m frame fills p i = c.firstWalk m frame fills p i := by
  simp only [Ctl.firstWalk, Ctl.fillCell_congr hxz hbase, Ctl.zOf_congr hxz]

/-- The planner reads the image, BOUNDS_BASE and DRAM alone. -/
theorem Ctl.plannerMask_congr (m : Mem) (frame limit : Nat) : d.plannerMask m frame limit = c.plannerMask m frame limit := by
  have hused : d.usedSlot = c.usedSlot := funext (Ctl.usedSlot_congr hxz)
  simp only [Ctl.plannerMask, Ctl.firstWalk_congr hxz hbase, Ctl.fillCell_congr hxz hbase, Ctl.zOf_congr hxz, Ctl.plan_congr hxz,
    Ctl.img_congr hxz, hused]

end

theorem Ctl.fetchCount_advance (c : Ctl) (dt : Nat) : (c.advance dt).fetchCount = c.fetchCount := Ctl.fetchCount_congr (c.advance_xz dt)

theorem Ctl.maskAddr_advance (c : Ctl) (dt frame i : Nat) : (c.advance dt).maskAddr frame i = c.maskAddr frame i :=
  Ctl.maskAddr_congr (c.advance_xz dt) (Ctl.e_advance dt c _) frame i

theorem Ctl.plannerMask_advance (c : Ctl) (dt : Nat) (m : Mem) (frame limit : Nat) :
    (c.advance dt).plannerMask m frame limit = c.plannerMask m frame limit :=
  Ctl.plannerMask_congr (c.advance_xz dt) (Ctl.e_advance dt c _) m frame limit

/-- The four octets of an entry in the mask of a frame: its removal, or 0. -/
def maskOctets (mask : List (Nat × Nat × Nat)) (i : Nat) : List Byte :=
  match mask.find? (fun q => decide (q.1 = i)) with
  | some q => toLE 4 (maskWord q.2.1 q.2.2)
  | none => [0, 0, 0, 0]

theorem maskOctets_eq_elim (mask : List (Nat × Nat × Nat)) (i : Nat) :
    maskOctets mask i = (mask.find? (fun q => decide (q.1 = i))).elim [0, 0, 0, 0] (fun q => toLE 4 (maskWord q.2.1 q.2.2)) := by
  unfold maskOctets
  cases mask.find? (fun q => decide (q.1 = i)) <;> rfl

theorem maskOctets_length (mask : List (Nat × Nat × Nat)) (i : Nat) : (maskOctets mask i).length = 4 := by
  unfold maskOctets
  split
  · exact toLE_length 4 _
  · rfl

/-- The mask of all entries of the fetch schedule, as it stands in DRAM. -/
def maskTable (mask : List (Nat × Nat × Nat)) (n : Nat) : List Byte := (List.range n).flatMap (maskOctets mask)

theorem maskTable_length (mask : List (Nat × Nat × Nat)) (n : Nat) : (maskTable mask n).length = 4 * n := by
  rw [maskTable, length_flatMap_of_length_eq _ (maskOctets_length mask), List.length_range, Nat.mul_comm]

theorem take_drop_maskTable (mask : List (Nat × Nat × Nat)) {n i : Nat} (hi : i < n) :
    ((maskTable mask n).drop (4 * i)).take 4 = maskOctets mask i := by
  have hlen : i < (List.range n).length := by rwa [List.length_range]
  rw [maskTable, take_drop_flatMap _ (maskOctets_length mask) _ hlen, List.getElem_range]

/-- The planner over a grid that reads well: the mask of both walks is stored at its place and kept for the flip. -/
theorem planCull_of_clean (frame : Nat) (m : Mem) (c : Ctl) (hon : c.cullOn = true)
    (hclean : m.poisoned (c.e 0x420004 + (frame % 2) * c.gridBytes) c.gridBytes = false) :
    (planCull frame c.fetchCount m c).1 = m.store (c.maskAddr frame 0) (maskTable (c.plannerMask m frame c.fetchCount) c.fetchCount) ∧
      (planCull frame c.fetchCount m c).2.pl = { c.pl with planned := some frame, mask := c.plannerMask m frame c.fetchCount } := by
  generalize hd : c.readDram m 5 (c.e 0x420004 + (frame % 2) * c.gridBytes) c.gridBytes = d
  have hoff : d.offMc = c.offMc := hd ▸ c.offMc_readDram ..
  have hbase : d.e 0x420004 = c.e 0x420004 := hd ▸ c.e_readDram _ _ _ _ (by decide)
  have hxz : d.xz = c.xz := Ctl.xz_of_offMc hoff
  have hpl : d.pl = c.pl := Ctl.pl_of_offMc hoff
  have heq : planCull frame c.fetchCount m c =
      (m.store (c.maskAddr frame 0) (maskTable (c.plannerMask m frame c.fetchCount) c.fetchCount),
        (d.writeDram m 5 (c.maskAddr frame 0) (maskTable (c.plannerMask m frame c.fetchCount) c.fetchCount).length).setPl
          (fun p => { p with planned := some frame, mask := c.plannerMask m frame c.fetchCount })) := by
    simp only [planCull, hon, hclean, hd, Ctl.plannerMask_congr hxz hbase, Ctl.maskAddr_congr hxz hbase, Ctl.fetchCount_congr hxz,
      Bool.not_true, Bool.false_eq_true, if_false, dramStore, maskTable]
    generalize c.plannerMask m frame c.fetchCount = mask
    rfl
  have hwrite : ∀ n, (d.writeDram m 5 (c.maskAddr frame 0) n).pl = c.pl := fun n =>
    (Ctl.pl_of_offMc (d.offMc_writeDram m 5 (c.maskAddr frame 0) n)).trans hpl
  rw [heq]
  exact ⟨rfl, by rw [Ctl.setPl_pl, hwrite]⟩

/-- An entry of the mask lies behind the entries before it. -/
theorem Ctl.maskAddr_eq (c : Ctl) (frame i : Nat) : c.maskAddr frame i = c.maskAddr frame 0 + 4 * i := by
  unfold Ctl.maskAddr
  omega

/-- What the planner stores: each entry of the mask reads back from its own address, and DRAM stands outside the mask. -/
theorem planCull_stores (frame : Nat) (m : Mem) (c : Ctl) (hwf : m.wf = true) (hon : c.cullOn = true)
    (hclean : m.poisoned (c.e 0x420004 + (frame % 2) * c.gridBytes) c.gridBytes = false) :
    (∀ i < c.fetchCount, (planCull frame c.fetchCount m c).1.read (c.maskAddr frame i) 4 =
        maskOctets (c.plannerMask m frame c.fetchCount) i) ∧
      ∀ a, a < c.maskAddr frame 0 ∨ c.maskAddr frame 0 + 4 * c.fetchCount ≤ a → (planCull frame c.fetchCount m c).1.get a = m.get a := by
  rw [(planCull_of_clean frame m c hon hclean).1]
  have hlen := maskTable_length (c.plannerMask m frame c.fetchCount) c.fetchCount
  refine ⟨fun i hi => ?_, fun a ha => Mem.get_store_off _ m (by rwa [hlen])⟩
  rw [c.maskAddr_eq frame i, Mem.read_store _ m _ _ _ hwf (by omega), take_drop_maskTable _ hi]

/-! ### A slot's pass (R220 to R222) -/

theorem Ctl.plSlot_congr {c d : Ctl} (h : d.pl = c.pl) (i : Nat) : d.plSlot i = c.plSlot i := by unfold Ctl.plSlot; rw [h]

/-- A pass runs in one of the slots that Palette has. -/
theorem Ctl.lt_length_of_pass (c : Ctl) {i : Nat} {ps : PlPass} (h : (c.plSlot i).pass = some ps) : i < c.pl.slots.length := by
  refine Nat.lt_of_not_le fun hge => ?_
  rw [Ctl.plSlot, List.getD, List.getElem?_eq_none hge] at h
  cases h

theorem Ctl.plSlot_updPl (c : Ctl) {i : Nat} (f : PlSlot → PlSlot) (hi : i < c.pl.slots.length) : (c.updPl i f).plSlot i = f (c.plSlot i) := by
  simp [Ctl.plSlot, Ctl.updPl, updAt, List.getD, hi]

/-! ### INGEST_ROW_START (R221) -/

/-- A row that lies in a drawn surface lies in its tiles, tile by tile, in the row's place. -/
theorem blockTexel_row (base : Nat) {tw th bx v : Nat} (hbx : bx < tw) (hv : v / 32 < th) :
    base ≤ blockTexel base tw (32 * bx) v ∧ blockTexel base tw (32 * bx) v + 256 ≤ base + tw * th * 8192 := by
  have hplace : v / 32 * tw + bx < tw * th := rowPlace_lt hv hbx
  unfold blockTexel
  omega

/-- A scaled row leaves DRAM outside the buffer that it is scaled into. -/
theorem scaleRow_get_off (p : SlotPlan) (taps base v : Nat) (q : Nat × Nat × Nat × Nat) (get : Int → Int → Nat) (m : Mem) (hv : v < p.h) {a : Nat}
    (ha : a < base ∨ base + p.tw * p.th * 8192 ≤ a) : (scaleRow p taps base v q get m).get a = m.get a := by
  have htile : v / 32 < p.th := by
    unfold SlotPlan.th ceilDiv
    omega
  refine foldl_keeps (Mem.get · a) _ _ m fun m' bx hbx => Mem.get_store_off _ m' ?_
  have hin := blockTexel_row base (List.mem_range.1 hbx) htile
  have hlen : ((List.range (min 32 (p.w - 32 * bx))).flatMap
      (fun i => toLE 8 (scaleTexel get q taps p.w p.h (32 * bx + i) v))).length ≤ 256 := by
    rw [length_flatMap_of_length_eq _ (fun _ => toLE_length 8 _), List.length_range]
    omega
  omega

/-- Where a pass scales into stands while the image and Palette do. -/
theorem Ctl.scaledBase_congr {c d : Ctl} (hxz : d.xz = c.xz) (hpl : d.pl = c.pl) {i : Nat} {ps : PlPass} (hpass : (c.plSlot i).pass = some ps)
    (b kk : Nat) : d.scaledBase i b kk = c.scaledBase i b kk := by
  simp only [Ctl.scaledBase, Ctl.plan_congr hxz, Ctl.plSlot_congr hpl, hpass, Option.map_some, Option.getD_some]

/-- The reads of a row's source ranges and the writes of its tiles, with the source row that the slot shows. -/
def Ctl.rowTraffic (c : Ctl) (m : Mem) (i b kk v line : Nat) (ranges : List (Nat × Nat)) : Ctl :=
  let d := ranges.foldl (fun d r => d.readDram m 5 r.1 r.2) (c.setEa 0x4221 i line)
  (List.range (c.plan i).tw).foldl (fun e bx =>
    e.writeDram m 5 (blockTexel (d.scaledBase i b kk) (c.plan i).tw (32 * bx) v) (8 * min 32 ((c.plan i).w - 32 * bx))) d

theorem Ctl.offMc_rowTraffic (c : Ctl) (m : Mem) (i b kk v line : Nat) (ranges : List (Nat × Nat)) :
    (c.rowTraffic m i b kk v line ranges).offMc = c.offMc := by
  unfold Ctl.rowTraffic
  extract_lets d
  have hreads : d.offMc = c.offMc := foldl_keeps Ctl.offMc _ ranges (c.setEa 0x4221 i line) fun e _ _ => e.offMc_readDram ..
  exact (foldl_keeps Ctl.offMc _ _ d fun e _ _ => e.offMc_writeDram ..).trans hreads

section
variable (i : Nat) (m : Mem) (c : Ctl) {ps : PlPass} (hpass : (c.plSlot i).pass = some ps) (hgood : ps.failed = false)
  (hopen : ps.done = false) (hsrc : c.src i = 2) (hrow : ps.row < (c.plan i).h) (hframe : ps.frame = c.nextFlip + 1)
  (hclean : ∀ b, m.bad b = false)
include hpass hgood hopen hsrc hrow hframe hclean

/-- A row of a drawn surface that reads no poisoned burst is scaled, and the pass goes on by a row. -/
theorem ingestRow_of_surface :
    ∃ (taps line : Nat) (ranges : List (Nat × Nat)) (lines : List (Nat × List Nat)) (q : Nat × Nat × Nat × Nat) (get : Int → Int → Nat),
      ingestRow i m c =
        (scaleRow (c.plan i) taps ((c.rowTraffic m i (1 - (c.plSlot i).buf) 0 ps.row line ranges).scaledBase i (1 - (c.plSlot i).buf) 0)
            ps.row q get m,
          (c.rowTraffic m i (1 - (c.plSlot i).buf) 0 ps.row line ranges).updPl i
            (fun x => { x with pass := some { ps with row := ps.row + 1, lines := lines } })) := by
  have hrows : c.passRows i ps.frame = (c.plan i).h := by simp [Ctl.passRows, hsrc]
  have hmod : ps.row % (c.plan i).h = ps.row := Nat.mod_eq_of_lt hrow
  have hpoison : ∀ l : List (Nat × Nat), l.any (fun r => m.poisoned r.1 r.2) = false := fun l =>
    List.any_eq_false.2 fun r _ => by simp [m.poisoned_of_none_bad r.1 r.2 hclean]
  have hgo : (ps.failed || ps.done || decide (ps.row ≥ c.passRows i ps.frame) || decide ((c.plan i).h = 0) ||
      decide (ps.frame ≠ c.nextFlip + 1)) = false := by
    have hleft : decide (ps.row ≥ (c.plan i).h) = false := decide_eq_false (Nat.not_le_of_lt hrow)
    have hheight : decide ((c.plan i).h = 0) = false := decide_eq_false (Nat.ne_zero_of_lt hrow)
    have hnext : decide (ps.frame ≠ c.nextFlip + 1) = false := decide_eq_false (not_not_intro hframe)
    rw [hgood, hopen, hrows, hleft, hheight, hnext]
    rfl
  simp only [ingestRow, hpass, hgo, hmod, hsrc, hpoison, Bool.false_eq_true, if_false, if_true]
  exact ⟨_, _, _, _, _, _, rfl⟩

/-- Such a row leaves DRAM outside the buffer that no descriptor names. -/
theorem ingestRow_scales :
    ((ingestRow i m c).2.plSlot i).pass.map (fun x => (x.frame, x.row, x.done, x.failed)) = some (ps.frame, ps.row + 1, false, false) ∧
      ∀ a, a < c.scaledBase i (1 - (c.plSlot i).buf) 0 ∨
          c.scaledBase i (1 - (c.plSlot i).buf) 0 + (c.plan i).tw * (c.plan i).th * 8192 ≤ a →
        (ingestRow i m c).1.get a = m.get a := by
  obtain ⟨taps, line, ranges, lines, q, get, heq⟩ := ingestRow_of_surface i m c hpass hgood hopen hsrc hrow hframe hclean
  have hoff := c.offMc_rowTraffic m i (1 - (c.plSlot i).buf) 0 ps.row line ranges
  generalize c.rowTraffic m i (1 - (c.plSlot i).buf) 0 ps.row line ranges = d at heq hoff
  have hpl := Ctl.pl_of_offMc hoff
  rw [heq, Ctl.scaledBase_congr (Ctl.xz_of_offMc hoff) hpl hpass, Ctl.plSlot_updPl d _ (hpl ▸ c.lt_length_of_pass hpass)]
  exact ⟨by simp [hopen, hgood], fun a ha => scaleRow_get_off _ _ _ _ _ _ m hrow ha⟩

end

/-! ### INGEST_PASS_DONE (R222) -/

/-- A pass that has all its rows is done. -/
theorem Ctl.ingestDone_completes (c : Ctl) {i : Nat} {ps : PlPass} (hpass : (c.plSlot i).pass = some ps) (hgood : ps.failed = false)
    (hopen : ps.done = false) (hrows : ps.row = c.passRows i ps.frame) (hsome : ps.row ≠ 0) :
    ((c.ingestDone i false).plSlot i).pass = some { ps with done := true } ∧ (c.ingestDone i false).ent = c.ent := by
  have heq : c.ingestDone i false = c.updPl i (fun x => { x with pass := some { ps with done := true } }) := by
    simp [Ctl.ingestDone, hpass, hgood, hopen, ← hrows, hsome]
  rw [heq, c.plSlot_updPl _ (c.lt_length_of_pass hpass)]
  exact ⟨rfl, rfl⟩

/-- An uncorrectable error in the line buffer ends the pass. -/
theorem Ctl.ingestDone_fails (c : Ctl) {i : Nat} {ps : PlPass} (hpass : (c.plSlot i).pass = some ps) (hgood : ps.failed = false)
    (hopen : ps.done = false) : ((c.ingestDone i true).plSlot i).pass = some { ps with failed := true } := by
  have heq : c.ingestDone i true = (c.updPl i (fun x => { x with pass := some { ps with failed := true } })).post 0x32C1 [i8 i] := by
    simp [Ctl.ingestDone, hpass, hgood, hopen]
  rw [heq, Ctl.plSlot_congr (Ctl.post_pl ..), c.plSlot_updPl _ (c.lt_length_of_pass hpass)]

/-! ### GLAZE_SYNC_DONE (R235) -/

/-- A write that waited takes its place among the staged values, as `Ctl.stage` puts it there while Glaze copies nothing. -/
def Ctl.glazeStage (c : Ctl) (k : Nat) (v : EVal) : Ctl :=
  { c with shadow := aSet c.shadow k v, dy := { c.dy with staged := insertRising c.dy.staged k } }

/-- The value of a write that waited, by the type of its entry. -/
def waitedValue (p : Nat × List Byte) : EVal :=
  match dictRow p.1 with
  | some d => if d.ty.isOct then .oct p.2 else .num (ofLE p.2)
  | none => .oct p.2

/-- A value of the entry is staged, or stands in a commit record. -/
def Ctl.awaits (c : Ctl) (k : Nat) : Bool := c.dy.staged.contains k || c.dy.commits.any (fun r => (aGet r.vals k).isSome)

theorem Ctl.awaits_eq_false (c : Ctl) {k : Nat} (hstaged : c.dy.staged.contains k = false)
    (hcommits : (c.dy.commits.all fun r => (aGet r.vals k).isNone) = true) : c.awaits k = false := by
  refine Bool.or_eq_false_iff.2 ⟨hstaged, List.any_eq_false.2 fun r hr => ?_⟩
  simpa using List.all_eq_true.1 hcommits r hr

/-- Glaze's copies made equal, but where a value awaits its commit. -/
def Ctl.glazeEqual (c : Ctl) : Ctl :=
  (Ctl.setPl { c with shadow := c.shadow.filter (fun p => !glazeEntry p.1 || c.awaits p.1) }
    (fun p => { p with syncing := false, waiting := [] })).setE 0x430002 0

theorem Ctl.glazeSynced_eq (c : Ctl) (h : c.pl.syncing = true) :
    c.glazeSynced = c.pl.waiting.foldl (fun d p => d.glazeStage p.1 (waitedValue p)) c.glazeEqual := by
  simp only [Ctl.glazeSynced, h, Bool.not_true, Bool.false_eq_true, if_false]
  rfl

theorem mem_insertRising_iff (l : List Nat) (n k : Nat) : k ∈ insertRising l n ↔ k = n ∨ k ∈ l := by
  unfold insertRising
  split
  · rename_i hin
    exact ⟨.inr, fun h => h.elim (fun heq => heq ▸ List.contains_iff_mem.1 hin) id⟩
  · have htri : k < n ∨ k = n ∨ n < k := Nat.lt_trichotomy k n
    simp only [List.mem_append, List.mem_cons, List.mem_filter, decide_eq_true_eq]
    constructor
    · rintro (⟨hin, -⟩ | heq | ⟨hin, -⟩)
      · exact .inr hin
      · exact .inl heq
      · exact .inr hin
    · rintro (heq | hin)
      · exact .inr (.inl heq)
      · exact htri.imp (fun hlt => ⟨hin, hlt⟩) (Or.imp_right fun hgt => ⟨hin, hgt⟩)

/-- Values that are staged one after another: the part's own state and entries stand, each key is staged, and no other shadow changes. -/
theorem foldl_glazeStage (w : List (Nat × List Byte)) (v : Nat × List Byte → EVal) (c : Ctl) :
    (w.foldl (fun d p => d.glazeStage p.1 (v p)) c).pl = c.pl ∧ (w.foldl (fun d p => d.glazeStage p.1 (v p)) c).ent = c.ent ∧
      (∀ k ∈ c.dy.staged ++ w.map Prod.fst, k ∈ (w.foldl (fun d p => d.glazeStage p.1 (v p)) c).dy.staged) ∧
      ∀ k, (∀ p ∈ w, p.1 ≠ k) → aGet (w.foldl (fun d p => d.glazeStage p.1 (v p)) c).shadow k = aGet c.shadow k := by
  induction w generalizing c with
  | nil => simp
  | cons p w ih =>
    obtain ⟨hpl, hent, hstaged, hshadow⟩ := ih (c.glazeStage p.1 (v p))
    refine ⟨hpl, hent, fun k hk => hstaged k ?_, fun k hk => ?_⟩
    · simp only [List.map_cons, List.mem_append, List.mem_cons] at hk
      simp only [Ctl.glazeStage, List.mem_append, mem_insertRising_iff]
      rcases hk with hin | heq | hrest
      · exact .inl (.inr hin)
      · exact .inl (.inl heq)
      · exact .inr hrest
    · obtain ⟨hne, hrest⟩ := List.forall_mem_cons.1 hk
      exact (hshadow k hrest).trans ((aGet_aSet ..).trans (if_neg hne))

/-- The copies are equal, nothing is copied any more, and what waited is staged. -/
theorem Ctl.glazeSynced_syncs (c : Ctl) (h : c.pl.syncing = true) :
    c.glazeSynced.pl.syncing = false ∧ c.glazeSynced.pl.waiting = [] ∧ c.glazeSynced.e 0x430002 = 0 ∧
      (∀ p ∈ c.pl.waiting, p.1 ∈ c.glazeSynced.dy.staged) ∧
      ∀ k, glazeEntry k = true → c.awaits k = false → (∀ p ∈ c.pl.waiting, p.1 ≠ k) → c.glazeSynced.sh k = c.glazeSynced.ev k := by
  obtain ⟨hpl, hent, hstaged, hshadow⟩ := foldl_glazeStage c.pl.waiting waitedValue c.glazeEqual
  rw [← c.glazeSynced_eq h] at hpl hent hstaged hshadow
  refine ⟨by rw [hpl]; rfl, by rw [hpl]; rfl, ?_, fun p hp => hstaged _ ?_, fun k hglaze hfree hwait => ?_⟩
  · rw [Ctl.e_congr hent, Ctl.glazeEqual, Ctl.e_setE, if_pos rfl]
  · exact List.mem_append_right _ (List.mem_map_of_mem hp)
  · have hnone : aGet c.glazeSynced.shadow k = none := by
      rw [hshadow k hwait]
      exact (aGet_filter (fun k => !glazeEntry k || c.awaits k) c.shadow k).trans (if_neg (by simp [hglaze, hfree]))
    rw [Ctl.sh, hnone]
    rfl

end Sys2Proof.Machine

open Sys2Proof Sys2Proof.Machine

/-- Settles O53 (07 R221, R222, R226, R227, R235): the mask reads back from its place because its entries lie one after another there; a scaled row
lies inside its buffer; a shadow is dropped where nothing awaits a commit. What reads and writes of DRAM report leaves the image, Palette and
BOUNDS_BASE as they were. -/
theorem paletteWorksAheadOfItsFrame : Obligations.PaletteWorksAheadOfItsFrame := by
  unfold Obligations.PaletteWorksAheadOfItsFrame
  refine ⟨fun dt s hissue hcut hnew hoff => ?planOff, fun dt ue f s hwf hf hissue hcut hnew hon hclean => ?plan,
    fun dt slot ue ps s hpass hgood hopen hsrc hrow hframe hissue hclean => ?row, fun dt slot ps s hpass hgood hopen hrows hsome => ?pass,
    fun dt slot ps s hpass hgood hopen => ?passEcc, fun dt s hsync => ?sync, fun dt table s => ?restore⟩
  case planOff =>
    have hplan := (cullPlanDone_of_due s.mem (s.ctl.advance dt) hissue hcut hnew).trans (planCull_of_off _ _ _ _ hoff)
    exact leaves_of_exec_eq_runM (exec_cullPlanDone ..) hplan ⟨rfl, rfl⟩
  case plan =>
    subst hf
    have hdue := cullPlanDone_of_due (s.mem.found ue) (s.ctl.advance dt) hissue hcut hnew
    have hpl := (planCull_of_clean (s.ctl.tb.nextIndex + 1) (s.mem.found ue) (s.ctl.advance dt) hon hclean).2
    obtain ⟨hmask, hrest⟩ :=
      planCull_stores (s.ctl.tb.nextIndex + 1) (s.mem.found ue) (s.ctl.advance dt) (Mem.found_wf ue s.mem hwf) hon hclean
    simp only [Ctl.fetchCount_advance, Ctl.maskAddr_advance, Ctl.plannerMask_advance, maskOctets_eq_elim] at hdue hpl hmask hrest
    exact ⟨_, (exec_cullPlanDone ..).trans (runM_eq_next hdue), rfl, hpl, hmask, hrest⟩
  case row =>
    refine ⟨_, exec_ingestRowStart .., rfl, ?_⟩
    exact ingestRow_scales slot (s.mem.found ue) (s.ctl.advance dt) hpass hgood hopen hsrc hrow
      (hframe.trans (congrArg (· + 1) ((s.ctl.advance dt).nextFlip_of_issuing hissue).symm)) hclean
  case pass => exact leaves_of_exec_eq_runC (exec_ingestPassDone ..) ((s.ctl.advance dt).ingestDone_completes hpass hgood hopen hrows hsome)
  case passEcc => exact leaves_of_exec_eq_runC (exec_ingestPassDone ..) ((s.ctl.advance dt).ingestDone_fails hpass hgood hopen)
  case sync =>
    obtain ⟨hdone, hwaiting, hshown, hstaged, hequal⟩ := (s.ctl.advance dt).glazeSynced_syncs hsync
    exact leaves_of_exec_eq_runC (exec_glazeSyncDone ..) ⟨hdone, hwaiting, hshown, hstaged, fun k hglaze hfree hcommits hwait =>
      hequal k hglaze ((s.ctl.advance dt).awaits_eq_false hfree hcommits) fun p hp => of_decide_eq_true (List.all_eq_true.1 hwait p hp)⟩
  case restore => exact leaves_of_exec_eq_runC (exec_glazeRestoreDone ..) ⟨rfl, rfl⟩

end

section
/-! PROOFS. BLEND_COPY (08 R242, R244): a colour word by its four octets, each blended as one formula says. -/
namespace Sys2Proof.Machine

/-- One octet of BLEND_COPY's result: `s` over `d` under the alpha `a` (08 R244). -/
def blendOctet (a s d : Nat) : Nat := (s * a + d * (255 - a) + 127) / 255

/-- The alpha `a` that BLEND_COPY gives a source word under GALPHA (08 R244). -/
def blendAlpha (ga s : Nat) : Nat := (s / 2 ^ 24 % 256 * ga + 127) / 255

/-- BLEND_COPY's word in octets: Ao, then Co of R, G and B. -/
theorem blendWord_eq (ga s d : Nat) :
    blendWord ga s d = (blendAlpha ga s + (d / 2 ^ 24 % 256 * (255 - blendAlpha ga s) + 127) / 255) * 2 ^ 24 +
      blendOctet (blendAlpha ga s) (s / 2 ^ 16 % 256) (d / 2 ^ 16 % 256) * 2 ^ 16 +
      blendOctet (blendAlpha ga s) (s / 2 ^ 8 % 256) (d / 2 ^ 8 % 256) * 2 ^ 8 + blendOctet (blendAlpha ga s) (s % 256) (d % 256) := by
  simp only [blendWord, bits, Nat.shiftRight_eq_div_pow, Nat.pow_zero, Nat.div_one]
  rfl

/-- With a = 255 the source stands for itself. -/
theorem blendOctet_maxAlpha {s : Nat} (_ : s < 256) (d : Nat) : blendOctet 255 s d = s := by
  unfold blendOctet
  omega

/-- With a = 0 the destination stands. -/
theorem blendOctet_zeroAlpha (s d : Nat) : blendOctet 0 s d = d := by
  unfold blendOctet
  omega

/-- The alpha of a word of 32 bits is its top octet. -/
theorem blendAlpha_of_lt {ga s : Nat} (hs : s < 2 ^ 32) : blendAlpha ga s = (s / 2 ^ 24 * ga + 127) / 255 := by
  rw [blendAlpha, Nat.mod_eq_of_lt (by omega)]

/-- Only As = 255 gives a = 255: GALPHA raises no alpha. -/
theorem alpha_of_blendAlpha_eq_max {ga s : Nat} (hga : ga ≤ 255) (h : blendAlpha ga s = 255) : s / 2 ^ 24 % 256 = 255 := by
  have hoct : s / 2 ^ 24 % 256 < 256 := Nat.mod_lt _ (by decide)
  have hle : s / 2 ^ 24 % 256 * ga ≤ s / 2 ^ 24 % 256 * 255 := Nat.mul_le_mul_left _ hga
  unfold blendAlpha at h
  omega

/-- With a = 255 the result is the source. -/
theorem blendWord_maxAlpha {ga s d : Nat} (hs : s < 2 ^ 32) (hga : ga ≤ 255) (h : blendAlpha ga s = 255) : blendWord ga s d = s := by
  have htop := alpha_of_blendAlpha_eq_max hga h
  rw [blendWord_eq, h, blendOctet_maxAlpha (Nat.mod_lt _ (by decide)), blendOctet_maxAlpha (Nat.mod_lt _ (by decide)),
    blendOctet_maxAlpha (Nat.mod_lt _ (by decide))]
  omega

/-- With a = 0 the result is the destination. -/
theorem blendWord_zeroAlpha {ga s d : Nat} (hd : d < 2 ^ 32) (h : blendAlpha ga s = 0) : blendWord ga s d = d := by
  rw [blendWord_eq, h, blendOctet_zeroAlpha, blendOctet_zeroAlpha, blendOctet_zeroAlpha]
  omega

/-- What BLEND_COPY stores at a pixel: the blended word in the destination's format. -/
theorem StCmd.pixel_blendCopy (m : Mem) (q : StCmd) (i j : Nat) (hop : q.op = 3) :
    q.pixel m i j = some (toPixel q.dst.fmt (blendWord q.galpha (toColour q.src.fmt q.fg (q.src.get m (q.sx + i) (q.sy + j)))
      (toColour q.dst.fmt 0 (q.dst.get m (q.dx + i) (q.dy + j))))) := by
  unfold StCmd.pixel
  rw [hop]
  rfl

/-- An RGB565 pixel widens to a word of alpha 0xFF (08 R242). -/
theorem toColour_rgb565_alpha (fg v : Nat) : toColour 0x11 fg v / 2 ^ 24 = 0xFF := by
  have hr : bits v 15 11 < 32 := Nat.mod_lt _ (by decide)
  have hg : bits v 10 5 < 64 := Nat.mod_lt _ (by decide)
  have hb : bits v 4 0 < 32 := Nat.mod_lt _ (by decide)
  have heq : toColour 0x11 fg v = 0xFF000000 + (bits v 15 11 * 8 + bits v 15 11 / 4) * 65536 + (bits v 10 5 * 4 + bits v 10 5 / 16) * 256 +
    (bits v 4 0 * 8 + bits v 4 0 / 4) := rfl
  omega

/-- An A8 destination has D = 0 (08 R244). -/
theorem toColour_a8_rgb (v : Nat) : toColour 0x12 0 v % 2 ^ 24 = 0 := by simp [toColour]

end Sys2Proof.Machine

open Sys2Proof Sys2Proof.Machine

/-- Settles O10 (08 R242, R244): the word by its octets, and the two ends of `a`, where each octet is the source's or the destination's. -/
theorem blendCopyFollowsItsFormula : Obligations.BlendCopyFollowsItsFormula := by
  unfold Obligations.BlendCopyFollowsItsFormula
  refine ⟨fun m q i j ga a sw dw hop hga hsw hdw ha => ?formula, fun v _ => toColour_rgb565_alpha 0 v, toColour_a8_rgb,
    fun ga sw dw hsw _ ha hga => ?maxAlpha, fun ga sw dw hsw hdw ha _ => ?zeroAlpha⟩
  case formula =>
    subst hga hsw hdw ha
    rw [q.pixel_blendCopy m i j hop, blendWord_eq]
    rfl
  case maxAlpha => exact blendWord_maxAlpha hsw hga ((blendAlpha_of_lt hsw).trans ha)
  case zeroAlpha => exact blendWord_zeroAlpha hdw ((blendAlpha_of_lt hsw).trans ha)

end

section
/-! PROOFS. The watermark line in a part out of shape (08 R255, R256): LINE of a slot is read by its key, and past the last of the 16 slots the keys run
on into the entries of later chapters. -/
namespace Sys2Proof.Machine

/-! ### What WATERMARK_REACHED does -/

/-- What WATERMARK_REACHED leaves of the part is what its operation leaves. -/
theorem exec_watermarkReached_ctl {dt : Nat} {s t : State} (h : exec (.watermarkReached dt) s = .next t) :
    t.ctl = (s.ctl.advance dt).stWatermark := by
  injection h with h
  rw [← h]

/-- The progress of a slot of Palette is its LINE, once its pass has come to a row (08 R255). -/
theorem Ctl.stProgress_of_slot {c : Ctl} {p : PlPass} (hsource : c.e 0x450004 ≠ 0) (hpass : (c.plSlot (c.e 0x450006)).pass = some p)
    (hrow : p.row ≠ 0) : c.stProgress = some ((1, c.e 0x450006, p.frame), c.ea 0x4221 (c.e 0x450006)) := by
  unfold Ctl.stProgress
  rw [if_neg hsource, hpass]
  exact if_neg hrow

/-- The part after it has posted WATERMARK_PASSED for the pass `p` (08 R255). -/
def Ctl.watermarkPassed (c : Ctl) (p : Nat × Nat × Nat) : Ctl :=
  (c.setSt (fun s => { s with passed := s.passed.filter (fun (x : Nat × Nat × Nat) => decide (p.2.2 ≤ x.2.2 + 2)) ++ [p] })).post 0x3503
    [i8 p.1, i16 (c.e 0x450005)]

/-- WATERMARK_PASSED leaves the command and its wait. -/
theorem Ctl.cmd_watermarkPassed (c : Ctl) (p : Nat × Nat × Nat) :
    (c.watermarkPassed p).st.cmd = c.st.cmd ∧ (c.watermarkPassed p).st.waitFrom = c.st.waitFrom := by
  unfold Ctl.watermarkPassed
  rw [Ctl.post_st]
  exact ⟨rfl, rfl⟩

theorem Ctl.pl_watermarkPassed (c : Ctl) (p : Nat × Nat × Nat) : (c.watermarkPassed p).pl = c.pl := by
  unfold Ctl.watermarkPassed
  rw [Ctl.post_pl, Ctl.setSt_pl]

/-- A command waits on where the progress, read after WATERMARK_PASSED, has not reached its row. -/
theorem Ctl.stWatermark_of_not_reached {c : Ctl} {p : (Nat × Nat × Nat) × Nat} (hp : c.stProgress = some p) (hon : c.e 0x450003 = 1)
    (hrow : c.e 0x450005 ≤ p.2) (hnew : p.1 ∉ c.st.passed) {q : StCmd} (hcmd : c.st.cmd = some q)
    (hnot : (c.watermarkPassed p.1).stReached q.waitRow = false) : c.stWatermark = c.watermarkPassed p.1 := by
  have hposts : (c.e 0x450003 = 1 && decide (c.e 0x450005 ≤ p.2) && !c.st.passed.contains p.1) = true := by simp [hon, hrow, hnew]
  have hsame := (c.cmd_watermarkPassed p.1).1.trans hcmd
  generalize hd : c.watermarkPassed p.1 = d at hnot hsame ⊢
  unfold Ctl.watermarkPassed at hd
  unfold Ctl.stWatermark
  rw [hp]
  dsimp only
  rw [if_pos hposts, hd]
  split
  · next q' _ hcmd' _ =>
    obtain rfl : q' = q := Option.some.inj (hcmd'.symm.trans hsame)
    rw [hnot]
    rfl
  · rfl

/-! ### A slot whose LINE is IRQ_STATE -/

/-- The slot number at which the key of LINE is that of IRQ_STATE (17 R493). -/
def irqStateSlot : Nat := 0x530005 - 0x422101

theorem ekey_irqStateSlot : ekey 0x4221 (irqStateSlot + 1) = 0x530005 := by decide

/-- A NOP that waits for row 8. -/
def nopForRow8 : StCmd :=
  { op := 0, flags := 2, w := 0, h := 0, src := ⟨0, 0, 0, 0, 0⟩, sx := 0, sy := 0, dst := ⟨0, 0, 0, 0, 0⟩, dx := 0, dy := 0, fg := 0, bg := 0,
    galpha := 0, waitRow := 8, tag := 0, list := false, clean := true, clips := [] }

/-- The watermark line is on and looks at that slot, IRQ_STATE reads 8, and Stencil's events go to IRQ pin 0. -/
def irqStateWatched : Ctl :=
  ((((({} : Ctl).setE 0x450003 1).setE 0x450004 1).setE 0x450006 irqStateSlot).setE 0x530005 8).setE 0x53111E 0

/-- The part whose Palette has slots up to that one, each with a pass at its first row, and whose Stencil has a command that waits for row 8. -/
def irqStateAsLine : State :=
  { State.reset with
    ctl := (irqStateWatched.setPl (fun p => { p with slots := List.replicate (irqStateSlot + 1) { pass := some { frame := 0, row := 1 } } })).setSt
      (fun s => { s with cmd := some nopForRow8, waitFrom := some 0 }) }

theorem irqStateAsLine_pass : (irqStateAsLine.ctl.plSlot irqStateSlot).pass = some { frame := 0, row := 1 } := by
  have hslot : irqStateAsLine.ctl.plSlot irqStateSlot =
    (List.replicate (irqStateSlot + 1) ({ pass := some { frame := 0, row := 1 } } : PlSlot)).getD irqStateSlot {} := rfl
  rw [hslot, List.getD_eq_getElem?_getD, List.getElem?_replicate, if_pos (Nat.lt_succ_self irqStateSlot), Option.getD_some]

/-- The progress of a part with these slots is its IRQ_STATE. -/
theorem stProgress_of_irqStateAsLine {c : Ctl} (hsource : c.e 0x450004 = 1) (hslot : c.e 0x450006 = irqStateSlot)
    (hpl : c.pl = irqStateAsLine.ctl.pl) : c.stProgress = some ((1, irqStateSlot, 0), c.e 0x530005) := by
  have hpass : (c.plSlot (c.e 0x450006)).pass = some { frame := 0, row := 1 } := by
    rw [hslot, Ctl.plSlot_congr hpl, irqStateAsLine_pass]
  rw [Ctl.stProgress_of_slot (by omega) hpass (by decide), hslot, Ctl.ea, ekey_irqStateSlot]

/-- WATERMARK_PASSED asserts IRQ pin 0, and what reads as LINE falls from 8 to 1: row 8 is no longer reached. -/
theorem irqStateAsLine_passed_not_reached :
    ((irqStateAsLine.ctl.advance 0).watermarkPassed (1, irqStateSlot, 0)).stReached nopForRow8.waitRow = false := by
  have hfalls : ((irqStateAsLine.ctl.advance 0).watermarkPassed (1, irqStateSlot, 0)).e 0x530005 = 1 := by decide +kernel
  have hpl : ((irqStateAsLine.ctl.advance 0).watermarkPassed (1, irqStateSlot, 0)).pl = irqStateAsLine.ctl.pl := Ctl.pl_watermarkPassed ..
  rw [Ctl.stReached, stProgress_of_irqStateAsLine (by decide +kernel) (by decide +kernel) hpl, hfalls]
  rfl

/-- So the command of that part still waits after WATERMARK_REACHED. -/
theorem watermarkReached_irqStateAsLine {t : State} (h : exec (.watermarkReached 0) irqStateAsLine = .next t) : t.ctl.st.waitFrom = some 0 := by
  have hprogress : (irqStateAsLine.ctl.advance 0).stProgress = some ((1, irqStateSlot, 0), 8) :=
    stProgress_of_irqStateAsLine (by decide +kernel) (by decide +kernel) rfl
  rw [exec_watermarkReached_ctl h, Ctl.stWatermark_of_not_reached hprogress (by decide +kernel) (by decide +kernel) List.not_mem_nil rfl
    irqStateAsLine_passed_not_reached]
  exact ((irqStateAsLine.ctl.advance 0).cmd_watermarkPassed _).2

end Sys2Proof.Machine

open Sys2Proof Sys2Proof.Machine

/-- Refutes O55 (08 R255, R256): its clause of WATERMARK_REACHED does not ask for a part in shape (`Ctl.shaped`: 16 slots of Palette). LINE of a slot
0x10DF04 would have the key of IRQ_STATE, so that posting WATERMARK_PASSED takes the progress back behind the row that it had reached, and the command
waits on. -/
theorem not_stencilDrawsItsCommands : ¬ Obligations.StencilDrawsItsCommands := by
  unfold Obligations.StencilDrawsItsCommands
  intro h
  obtain ⟨-, -, -, -, -, -, -, -, -, -, -, -, -, -, hwatermark, -⟩ := h
  have hreached : irqStateAsLine.ctl.stReached nopForRow8.waitRow = true := by
    rw [Ctl.stReached, stProgress_of_irqStateAsLine (by decide +kernel) (by decide +kernel) rfl]
    decide +kernel
  obtain ⟨t, hexec, -, -, -, -, hstarts⟩ := hwatermark 0 nopForRow8 0 irqStateAsLine rfl rfl hreached
  rw [watermarkReached_irqStateAsLine hexec] at hstarts
  exact absurd hstarts (by decide)

end

section
/-! PROOFS. Panel drive's own state (09): its lanes and return lanes under a change of one of them, what a packet or a request leaves, and a return
lane on which nothing waits. -/
namespace Sys2Proof.Machine

theorem getD_updAt {α : Type} (l : List α) {i : Nat} (f : α → α) (d : α) (hi : i < l.length) : (updAt l i f).getD i d = f (l.getD i d) := by
  simp [updAt, List.getD, hi]

/-- A counter entry that counts one; every other entry stands. -/
theorem Ctl.e_incE (c : Ctl) (k k' : Nat) : (c.incE k).e k' = if k = k' then satAdd (entWidth k) (c.e k) 1 else c.e k' := Ctl.e_setE ..

/-! ### Lanes and return lanes -/

@[simp] theorem Ctl.access_updRet (c : Ctl) (r : Nat) (f : PdRet → PdRet) : (c.updRet r f).pd.access = c.pd.access := rfl
@[simp] theorem Ctl.rets_length_updRet (c : Ctl) (r : Nat) (f : PdRet → PdRet) : (c.updRet r f).pd.rets.length = c.pd.rets.length := by
  simp [Ctl.updRet, updAt]

theorem Ctl.pdLane_congr {c d : Ctl} (h : d.pd.lanes = c.pd.lanes) (k : Nat) : d.pdLane k = c.pdLane k := by unfold Ctl.pdLane; rw [h]

theorem Ctl.pdRet_congr {c d : Ctl} (h : d.pd.rets = c.pd.rets) (r : Nat) : d.pdRet r = c.pdRet r := by unfold Ctl.pdRet; rw [h]

theorem Ctl.pdLane_updPd (c : Ctl) {k : Nat} (f : PdLane → PdLane) (hk : k < c.pd.lanes.length) : (c.updPd k f).pdLane k = f (c.pdLane k) :=
  getD_updAt _ f {} hk

theorem Ctl.pdRet_updRet (c : Ctl) {r : Nat} (f : PdRet → PdRet) (hr : r < c.pd.rets.length) : (c.updRet r f).pdRet r = f (c.pdRet r) :=
  getD_updAt _ f {} hr

/-! ### What panel drive reports and asks -/

/-- A warning or error of a lane leaves panel drive but for what it has posted in the frame. -/
theorem Ctl.pd_pdPost (c : Ctl) (code lane ic : Nat) (items : List (Nat × Nat)) :
    ∃ posted, (c.pdPost code lane ic items).pd = { c.pd with posted := posted } := by
  unfold Ctl.pdPost
  extract_lets key
  split
  · exact ⟨c.pd.posted, rfl⟩
  · exact ⟨_, Ctl.post_pd ..⟩

theorem Ctl.e_pdPost (c : Ctl) {code : Nat} (lane ic : Nat) (items : List (Nat × Nat)) {k : Nat} (hk : postKey k = false) (hcode : code < 65536) :
    (c.pdPost code lane ic items).e k = c.e k := by
  unfold Ctl.pdPost
  extract_lets key
  split
  · rfl
  · exact Ctl.e_post _ _ _ _ hk hcode

/-- The return lane of a request that goes out: the request outstanding, with the next SEQ, from now on (R288). -/
def Ctl.asked (c : Ctl) (q : PdReq) : Ctl :=
  c.updRet (q.lane / 8) (fun x => { x with out := some q, seq := ((c.pdRet (q.lane / 8)).seq + 1) % 256, sentAt := c.up })

/-- Beside its return lane, a request that goes out only sends. -/
theorem Ctl.pdRequest_eq (c : Ctl) (q : PdReq) : ∃ out, c.pdRequest q = { c.asked q with out := out } := by
  unfold Ctl.pdRequest
  extract_lets r seq d e
  split
  · exact ⟨_, rfl⟩
  · have hconfig : ∃ out, e = { d with out := out } := by
      unfold e
      split <;> exact ⟨_, rfl⟩
    obtain ⟨out, he⟩ := hconfig
    rw [he]
    exact ⟨_, rfl⟩

/-! ### A return lane goes on (R284, R288) -/

theorem Ctl.pdGo_of_queue_nil (c : Ctl) {r : Nat} (h : (c.pdRet r).queue = []) : c.pdGo r = c := by
  unfold Ctl.pdGo Ctl.pdPump
  simp only [h]
  split <;> rfl

/-- A request, other than for PANEL_INIT, on a return lane where nothing waits: it goes out or waits, and the lanes and entries stand. -/
theorem Ctl.pdGo_pdAsk (c : Ctl) {q : PdReq} (hr : q.lane / 8 < c.pd.rets.length) (hqueue : (c.pdRet (q.lane / 8)).queue = [])
    (hkind : q.kind ≠ .linkInit) : ((c.pdAsk q).pdGo (q.lane / 8)).pd.lanes = c.pd.lanes ∧ ((c.pdAsk q).pdGo (q.lane / 8)).ent = c.ent := by
  have hwaits : ((c.pdAsk q).pdRet (q.lane / 8)).queue = [q] := by
    rw [Ctl.pdAsk, c.pdRet_updRet _ hr, hqueue]
    rfl
  unfold Ctl.pdGo Ctl.pdPump
  simp only [hwaits, hkind, if_false]
  split
  · exact ⟨rfl, rfl⟩
  · obtain ⟨out, hreq⟩ := ((c.pdAsk q).updRet (q.lane / 8) fun y => { y with queue := [] }).pdRequest_eq q
    rw [hreq]
    exact ⟨rfl, rfl⟩

theorem Ctl.queue_of_all_nil (c : Ctl) (h : ∀ x ∈ c.pd.rets, x.queue = []) (r : Nat) : (c.pdRet r).queue = [] := by
  unfold Ctl.pdRet
  rw [List.getD_eq_getElem?_getD]
  cases hr : c.pd.rets[r]? with
  | none => rfl
  | some x => exact h x (List.mem_of_getElem? hr)

theorem Ctl.pdPumpAll_of_queues_nil (c : Ctl) (h : ∀ x ∈ c.pd.rets, x.queue = []) : c.pdPumpAll = c :=
  List.foldlRecOn (motive := (· = c)) _ _ rfl fun d hd r _ => by
    subst hd
    exact d.pdGo_of_queue_nil (d.queue_of_all_nil h r)

end Sys2Proof.Machine
end

section
/-! PROOFS. The decision point (09 R282, R283, 20 R552): the load that ends there, the flip that is sent, and the flip that is held. -/
namespace Sys2Proof.Machine

/-- The part without panel drive, Easel and what the part has sent. -/
def Ctl.offDrive (c : Ctl) : Ctl := { c with pd := {}, es := {}, out := [] }

theorem Ctl.offDrive_setPd (c : Ctl) (f : PdState → PdState) : (c.setPd f).offDrive = c.offDrive := rfl

theorem Ctl.offDrive_sendFlip (c : Ctl) (ptype : Nat) : (c.sendFlip ptype).offDrive = c.offDrive := foldl_keeps Ctl.offDrive _ _ _ fun _ _ _ => rfl

theorem Ctl.pd_sendFlip (c : Ctl) (ptype : Nat) : (c.sendFlip ptype).pd = c.pd := foldl_keeps Ctl.pd _ _ _ fun _ _ _ => rfl

theorem Ctl.e_of_offDrive {c d : Ctl} (h : d.offDrive = c.offDrive) (k : Nat) : d.e k = c.e k := (congrArg (Ctl.e · k) h :)

/-! ### The load ends -/

theorem Ctl.loadStops_eq (c : Ctl) : ∃ lanes, c.loadStops.pd = { c.pd with loading := none, lanes := lanes } ∧ c.loadStops.offDrive = c.offDrive := by
  unfold Ctl.loadStops
  generalize hd : c.setPd _ = d
  obtain ⟨n, t, h⟩ := d.settleStall_eq
  rw [h, ← hd]
  exact ⟨_, rfl, rfl⟩

/-- The load of frame `f` is decided: it has stopped, and a BLANK that was sent counts only while the BLANK state holds. -/
def Ctl.loadDecided (c : Ctl) (f : Nat) : Ctl :=
  let d := c.loadStops.setPd (fun p => { p with decided := some f })
  if d.fm.safe = 2 then d else d.setPd (fun p => { p with blanked := false })

theorem Ctl.offDrive_loadDecided (c : Ctl) (f : Nat) : (c.loadDecided f).offDrive = c.offDrive := by
  obtain ⟨lanes, -, hrest⟩ := c.loadStops_eq
  unfold Ctl.loadDecided
  extract_lets d
  have hd : d.offDrive = c.offDrive := (Ctl.offDrive_setPd ..).trans hrest
  split
  · exact hd
  · exact (Ctl.offDrive_setPd ..).trans hd

theorem Ctl.pd_loadDecided (c : Ctl) (f : Nat) : ∃ lanes, (c.loadDecided f).pd =
    { c.pd with loading := none, lanes := lanes, decided := some f, blanked := decide (c.fm.safe = 2) && c.pd.blanked } := by
  obtain ⟨lanes, hpd, hrest⟩ := c.loadStops_eq
  have hfm : c.loadStops.fm = c.fm := (congrArg Ctl.fm hrest :)
  refine ⟨lanes, ?_⟩
  unfold Ctl.loadDecided
  by_cases hsafe : c.fm.safe = 2 <;> simp [hfm, hsafe, hpd]

/-! ### A flip that is sent -/

/-- No hold of R283 stands at frame `f`, whose load ran. -/
def Ctl.flipOpen (c : Ctl) (f : Nat) (ran : Bool) : Bool :=
  c.fm.safe = 0 && c.hasImage && c.xz.heldFlip ≠ some f && c.pd.linked && !c.pdService.isEmpty && ran

/-- FLIP of frame `f` is sent and counted, and the chains are checked (R282, R289). -/
def Ctl.flipped (c : Ctl) (f : Nat) : Ctl :=
  let d := (c.sendFlip 4).setPd (fun p => { p with sent := some f, dark := false })
  ((d.setE 0x440008 d.nextTick).incE 0x440009).chainChecks

theorem Ctl.chainChecks_eq (c : Ctl) : ∃ rets, c.chainChecks = c.setPd (fun p => { p with rets := rets }) := by
  unfold Ctl.chainChecks
  refine List.foldlRecOn (motive := fun d : Ctl => ∃ rets, d = c.setPd (fun p => { p with rets := rets })) _ _ ⟨c.pd.rets, rfl⟩ fun d hd k _ => ?_
  obtain ⟨rets, rfl⟩ := hd
  extract_lets n
  split <;> exact ⟨_, rfl⟩

theorem Ctl.pd_flipped (c : Ctl) (f : Nat) : ∃ rets, (c.flipped f).pd = { c.pd with sent := some f, dark := false, rets := rets } := by
  unfold Ctl.flipped
  extract_lets d
  obtain ⟨rets, hcheck⟩ := ((d.setE 0x440008 d.nextTick).incE 0x440009).chainChecks_eq
  refine ⟨rets, ?_⟩
  rw [hcheck, Ctl.setPd_pd, Ctl.incE_pd, Ctl.setE_pd, Ctl.setPd_pd, Ctl.pd_sendFlip]

/-- The entries after a flip: its Tick, and one more flip sent. -/
theorem Ctl.e_flipped (c : Ctl) (f k : Nat) : (c.flipped f).e k =
    if 0x440009 = k then satAdd (entWidth 0x440009) (c.e 0x440009) 1 else if 0x440008 = k then c.nextTick else c.e k := by
  unfold Ctl.flipped
  extract_lets d
  have hd : d.offDrive = c.offDrive := (Ctl.offDrive_setPd ..).trans (c.offDrive_sendFlip 4)
  have htick : d.nextTick = c.nextTick := (congrArg Ctl.nextTick hd :)
  obtain ⟨rets, hcheck⟩ := ((d.setE 0x440008 d.nextTick).incE 0x440009).chainChecks_eq
  rw [hcheck, Ctl.e_setPd, Ctl.e_incE, Ctl.e_setE, Ctl.e_setE, htick, Ctl.e_of_offDrive hd, Ctl.e_of_offDrive hd,
    if_neg (by decide : ¬ 0x440008 = 0x440009)]

/-! ### A flip that is held -/

/-- The flip is held: BLANK is sent once under the BLANK state, and the flip counts as held (R283). -/
def Ctl.flipHeld (c : Ctl) : Ctl :=
  let d := if c.fm.safe = 2 && !c.pd.blanked && c.pd.linked then (c.sendFlip 5).setPd (fun p => { p with blanked := true, dark := true }) else c
  (d.incE 0x44000A).setReg .pdEvents 0 1 1

theorem Ctl.pd_flipHeld (c : Ctl) : ∃ dark, c.flipHeld.pd =
    { c.pd with blanked := c.pd.blanked || (decide (c.fm.safe = 2) && c.pd.linked), dark := dark } := by
  unfold Ctl.flipHeld
  rw [Ctl.setReg_pd, Ctl.incE_pd]
  split
  next hblank =>
    simp only [Bool.and_eq_true] at hblank
    obtain ⟨⟨hsafe, -⟩, hlinked⟩ := hblank
    exact ⟨true, by simp [Ctl.pd_sendFlip, hsafe, hlinked]⟩
  next hblank =>
    have hstays : (c.pd.blanked || (decide (c.fm.safe = 2) && c.pd.linked)) = c.pd.blanked := by
      cases hb : c.pd.blanked <;> simp_all
    exact ⟨c.pd.dark, by rw [hstays]⟩

theorem Ctl.fm_flipHeld (c : Ctl) : c.flipHeld.fm = c.fm := by
  unfold Ctl.flipHeld
  rw [Ctl.setReg_fm, Ctl.incE_fm]
  split
  · exact (Ctl.setPd_fm ..).trans (congrArg Ctl.fm (c.offDrive_sendFlip 5) :)
  · rfl

theorem Ctl.e_flipHeld (c : Ctl) (k : Nat) :
    c.flipHeld.e k = if 0x44000A = k then satAdd (entWidth 0x44000A) (c.e 0x44000A) 1 else c.e k := by
  unfold Ctl.flipHeld
  extract_lets d
  have hd : ∀ j, d.e j = c.e j := by
    intro j
    unfold d
    split
    · exact (Ctl.e_setPd ..).trans (Ctl.e_of_offDrive (c.offDrive_sendFlip 5) j)
    · rfl
  rw [Ctl.e_setReg, Ctl.e_incE, hd, hd]

/-! ### A frame that is withheld (20 R552) -/

/-- What SAFE_STATE, SAFE_CAUSE and events leave stands when the safe state settles. -/
theorem Ctl.settleSafe_keeps {β : Type} (g : Ctl → β) (hstate : ∀ (d : Ctl) n, g (d.setE 0x150001 n) = g d)
    (hcause : ∀ (d : Ctl) n, g (d.setE 0x150002 n) = g d) (hpost : ∀ (d : Ctl) code items, code < 65536 → g (d.post code items) = g d)
    (c : Ctl) (was wasCode : Nat) : g (c.settleSafe was wasCode) = g c := by
  unfold Ctl.settleSafe
  extract_lets s code d e
  have hd : g d = g c := (hcause _ _).trans (hstate _ _)
  have he : g e = g c := by
    unfold e
    split
    · exact (hpost _ _ _ (by decide)).trans hd
    · exact hd
  split
  · exact (hpost _ _ _ (by decide)).trans he
  · exact he

theorem Ctl.pd_settleSafe (c : Ctl) (was wasCode : Nat) : (c.settleSafe was wasCode).pd = c.pd :=
  Ctl.settleSafe_keeps Ctl.pd (fun _ _ => rfl) (fun _ _ => rfl) (fun d code items _ => d.post_pd code items) c was wasCode

theorem Ctl.fmKept_settleSafe (c : Ctl) (was wasCode : Nat) : (c.settleSafe was wasCode).fmKept = c.fmKept :=
  Ctl.settleSafe_keeps Ctl.fmKept (fun _ _ => rfl) (fun _ _ => rfl) (fun d code items _ => (d.fmKept_post code items).1) c was wasCode

theorem Ctl.e_settleSafe (c : Ctl) (was wasCode : Nat) {k : Nat} (hpost : postKey k = false) (hk : 0x150002 < k) :
    (c.settleSafe was wasCode).e k = c.e k :=
  Ctl.settleSafe_keeps (Ctl.e · k) (fun d n => (d.e_setE _ _ n).trans (if_neg (by omega))) (fun d n => (d.e_setE _ _ n).trans (if_neg (by omega)))
    (fun d code items hcode => d.e_post code items k hpost hcode) c was wasCode

theorem Ctl.safe_of_fmKept {c d : Ctl} (h : d.fmKept = c.fmKept) : d.fm.safe = c.fm.safe := (congrArg FmState.safe h :)

theorem Ctl.frameHold_of_fmKept {c d : Ctl} (h : d.fmKept = c.fmKept) : d.fm.frameHold = c.fm.frameHold := (congrArg FmState.frameHold h :)

/-- The last cause's state is in force, or a higher one. -/
theorem FmState.le_safe_of_causes {f : FmState} {l : List SafeCause} {x : SafeCause} (h : f.causes = l ++ [x]) : x.state ≤ f.safe := by
  rw [FmState.safe, h, List.foldl_append]
  exact Nat.le_max_right ..

theorem Ctl.withhold_of_none (c : Ctl) (h : c.fm.frameHold = none) : c.withhold = c := by
  unfold Ctl.withhold
  rw [h]

/-- HOLD as its cause begins, before it is shown and reported. -/
def Ctl.holdBegun (c : Ctl) (code : Nat) : Ctl :=
  let others := c.fm.causes.filter (fun x => !(x.kind = .frameHold && x.arg = 0))
  { c with fm := { c.fm with frameHold := none, causes := others ++ [⟨.frameHold, code, 1, c.up, 0⟩], cleared := false } }

theorem Ctl.withhold_of_some (c : Ctl) {code : Nat} (h : c.fm.frameHold = some code) :
    ∃ was wasCode, c.withhold = ((c.holdBegun code).settleSafe was wasCode).post 0x0542 [i16 code] := by
  unfold Ctl.withhold Ctl.enterSafe
  simp only [h, Nat.one_ne_zero, if_false]
  exact ⟨_, _, rfl⟩

/-- A frame that is withheld brings HOLD, and changes neither panel drive nor its entries. -/
theorem Ctl.withhold_holds (c : Ctl) {code : Nat} (h : c.fm.frameHold = some code) :
    c.withhold.fm.frameHold = none ∧ 1 ≤ c.withhold.fm.safe ∧ c.withhold.pd = c.pd ∧
      ∀ k, 0x440000 ≤ k → k < 0x441000 → c.withhold.e k = c.e k := by
  obtain ⟨was, wasCode, hd⟩ := c.withhold_of_some h
  have hfm : c.withhold.fmKept = (c.holdBegun code).fmKept := by
    rw [hd]
    exact (Ctl.fmKept_post ..).1.trans (Ctl.fmKept_settleSafe ..)
  refine ⟨Ctl.frameHold_of_fmKept hfm, ?_, ?_, fun k hlow hhigh => ?_⟩
  · rw [Ctl.safe_of_fmKept hfm]
    exact FmState.le_safe_of_causes (x := ⟨.frameHold, code, 1, c.up, 0⟩) rfl
  · rw [hd, Ctl.post_pd, Ctl.pd_settleSafe]
    rfl
  · have hpost : postKey k = false := postKey_of_lt_mc (by omega)
    rw [hd, Ctl.e_post _ _ _ _ hpost (by decide), Ctl.e_settleSafe _ _ _ hpost (by omega)]
    rfl

/-! ### DECISION_POINT -/

section
variable (c : Ctl) {f : Nat} (hnext : f = c.tb.nextIndex) (hissue : c.tb.issuing = true) (hnew : c.pd.decided ≠ some f)
  (hdue : tickD (c.tn f) c.now ≤ tNs (c.e 0x440002))

include hnext hissue in
theorem Ctl.nextFlip_eq : c.nextFlip = f := (c.nextFlip_of_issuing hissue).trans hnext.symm

include hnext hissue hnew hdue

/-- A decision point that is due decides by the holds of R283, then by the lanes whose load is missing. -/
theorem Ctl.decisionPoint_of_due {d : Ctl} {go : Bool} (hd : c.withhold.loadDecided f = d) (hgo : d.flipOpen f (c.pd.began = some f) = go) :
    c.decisionPoint = if go && c.loadMissing.isEmpty then d.flipped f
      else if go then (d.flipHeld.incE 0x44000B).pdPost 0x3441 0 0 [i32 (maskOf c.loadMissing)] else d.flipHeld := by
  subst hd hgo
  have hflip := c.nextFlip_eq hnext hissue
  have hdue' : ¬ tickD (c.tn f) c.now > (tNs (c.e 0x440002) : Nat) := Int.not_lt.2 hdue
  unfold Ctl.decisionPoint Ctl.nextTick
  simp only [hflip, hissue, hnew, hdue', Bool.not_true, decide_false, Bool.or_false, Bool.false_eq_true, if_false]
  rfl

section
variable (hbegan : c.pd.began = some f) (hsafe : c.fm.safe = 0) (hhold : c.fm.frameHold = none) (himage : c.hasImage = true)
  (hheld : c.xz.heldFlip ≠ some f) (hlinked : c.pd.linked = true) (hservice : c.pdService ≠ [])
include hbegan hsafe hhold himage hheld hlinked hservice

/-- Where no hold of R283 stands, the lanes whose load is missing decide. -/
theorem Ctl.decisionPoint_of_open : c.decisionPoint = if c.loadMissing.isEmpty then (c.loadDecided f).flipped f
    else ((c.loadDecided f).flipHeld.incE 0x44000B).pdPost 0x3441 0 0 [i32 (maskOf c.loadMissing)] := by
  have hrest := c.offDrive_loadDecided f
  obtain ⟨lanes, hpd⟩ := c.pd_loadDecided f
  have hfm : (c.loadDecided f).fm = c.fm := (congrArg Ctl.fm hrest :)
  have hxz : (c.loadDecided f).xz = c.xz := (congrArg Ctl.xz hrest :)
  have himg : (c.loadDecided f).hasImage = c.hasImage := (congrArg Ctl.hasImage hrest :)
  have hserv : (c.loadDecided f).pdService = c.pdService := (congrArg Ctl.pdService hrest :)
  have hopen : (c.loadDecided f).flipOpen f (c.pd.began = some f) = true := by
    simp [Ctl.flipOpen, hfm, hxz, himg, hserv, hpd, hsafe, himage, hheld, hlinked, hservice, hbegan]
  exact c.decisionPoint_of_due hnext hissue hnew hdue (by rw [c.withhold_of_none hhold]) hopen

/-- A frame whose load is complete is flipped. -/
theorem Ctl.decisionPoint_flips (hfull : c.loadMissing = []) :
    c.decisionPoint.pd.sent = some f ∧ c.decisionPoint.pd.decided = some f ∧ c.decisionPoint.pd.loading = none ∧
      c.decisionPoint.e 0x440008 = c.tn f ∧ c.decisionPoint.e 0x440009 = satAdd (entWidth 0x440009) (c.e 0x440009) 1 ∧
      c.decisionPoint.e 0x44000A = c.e 0x44000A := by
  have hpoint : c.decisionPoint = (c.loadDecided f).flipped f := by
    rw [c.decisionPoint_of_open hnext hissue hnew hdue hbegan hsafe hhold himage hheld hlinked hservice, hfull]
    rfl
  obtain ⟨lanes, hpd⟩ := c.pd_loadDecided f
  obtain ⟨rets, hflip⟩ := (c.loadDecided f).pd_flipped f
  have hrest := c.offDrive_loadDecided f
  have htick : (c.loadDecided f).nextTick = c.tn f :=
    (congrArg Ctl.nextTick hrest :).trans (congrArg c.tn (c.nextFlip_eq hnext hissue))
  have hent := Ctl.e_of_offDrive hrest
  rw [hpoint, hflip, hpd]
  refine ⟨rfl, rfl, rfl, ?_, ?_, ?_⟩ <;> simp [Ctl.e_flipped, htick, hent]

/-- A frame whose load is incomplete is held, and counted and reported as incomplete. -/
theorem Ctl.decisionPoint_incomplete (hmissing : c.loadMissing ≠ []) :
    c.decisionPoint.pd.sent = c.pd.sent ∧ c.decisionPoint.pd.decided = some f ∧ c.decisionPoint.e 0x440009 = c.e 0x440009 ∧
      c.decisionPoint.e 0x44000A = satAdd (entWidth 0x44000A) (c.e 0x44000A) 1 ∧
      c.decisionPoint.e 0x44000B = satAdd (entWidth 0x44000B) (c.e 0x44000B) 1 := by
  have hpoint : c.decisionPoint = ((c.loadDecided f).flipHeld.incE 0x44000B).pdPost 0x3441 0 0 [i32 (maskOf c.loadMissing)] := by
    rw [c.decisionPoint_of_open hnext hissue hnew hdue hbegan hsafe hhold himage hheld hlinked hservice]
    simp [hmissing]
  obtain ⟨lanes, hpd⟩ := c.pd_loadDecided f
  obtain ⟨dark, hhide⟩ := (c.loadDecided f).pd_flipHeld
  obtain ⟨posted, hpost⟩ := ((c.loadDecided f).flipHeld.incE 0x44000B).pd_pdPost 0x3441 0 0 [i32 (maskOf c.loadMissing)]
  have hent := Ctl.e_of_offDrive (c.offDrive_loadDecided f)
  have hcounts : ∀ k, postKey k = false → c.decisionPoint.e k = ((c.loadDecided f).flipHeld.incE 0x44000B).e k := fun k hk => by
    rw [hpoint, Ctl.e_pdPost _ _ _ _ hk (by decide)]
  have hdrive : c.decisionPoint.pd.sent = c.pd.sent ∧ c.decisionPoint.pd.decided = some f := by
    rw [hpoint, hpost, Ctl.incE_pd, hhide, hpd]
    exact ⟨rfl, rfl⟩
  refine ⟨hdrive.1, hdrive.2, ?_, ?_, ?_⟩ <;> rw [hcounts _ (by decide)] <;> simp [Ctl.e_incE, Ctl.e_flipHeld, hent]

end

/-- A frame that is withheld is held from its decision point, in HOLD. -/
theorem Ctl.decisionPoint_withheld {code : Nat} (hhold : c.fm.frameHold = some code) :
    c.decisionPoint.pd.sent = c.pd.sent ∧ c.decisionPoint.pd.decided = some f ∧ c.decisionPoint.pd.loading = none ∧
      c.decisionPoint.fm.frameHold = none ∧ 1 ≤ c.decisionPoint.fm.safe ∧
      c.decisionPoint.e 0x44000A = satAdd (entWidth 0x44000A) (c.e 0x44000A) 1 ∧ c.decisionPoint.e 0x440009 = c.e 0x440009 := by
  obtain ⟨hnone, hone, hdrive, hcounts⟩ := c.withhold_holds hhold
  have hrest := c.withhold.offDrive_loadDecided f
  have hfm : (c.withhold.loadDecided f).fm = c.withhold.fm := (congrArg Ctl.fm hrest :)
  have hshut : (c.withhold.loadDecided f).flipOpen f (c.pd.began = some f) = false := by
    simp [Ctl.flipOpen, hfm, Nat.one_le_iff_ne_zero.1 hone]
  have hpoint : c.decisionPoint = (c.withhold.loadDecided f).flipHeld := c.decisionPoint_of_due hnext hissue hnew hdue rfl hshut
  obtain ⟨lanes, hpd⟩ := c.withhold.pd_loadDecided f
  obtain ⟨dark, hhide⟩ := (c.withhold.loadDecided f).pd_flipHeld
  have hent := Ctl.e_of_offDrive hrest
  rw [hpoint, hhide, hpd, hdrive, Ctl.fm_flipHeld, hfm]
  refine ⟨rfl, rfl, rfl, hnone, hone, ?_, ?_⟩ <;> simp [Ctl.e_flipHeld, hent, hcounts]

/-- Under the BLANK state a linked panel is blank after the decision point. -/
theorem Ctl.decisionPoint_blanks (hhold : c.fm.frameHold = none) (hsafe : c.fm.safe = 2) (hlinked : c.pd.linked = true) :
    c.decisionPoint.pd.sent = c.pd.sent ∧ c.decisionPoint.pd.blanked = true ∧
      c.decisionPoint.e 0x44000A = satAdd (entWidth 0x44000A) (c.e 0x44000A) 1 := by
  have hrest := c.offDrive_loadDecided f
  have hfm : (c.loadDecided f).fm = c.fm := (congrArg Ctl.fm hrest :)
  have hshut : (c.loadDecided f).flipOpen f (c.pd.began = some f) = false := by simp [Ctl.flipOpen, hfm, hsafe]
  have hpoint : c.decisionPoint = (c.loadDecided f).flipHeld :=
    c.decisionPoint_of_due hnext hissue hnew hdue (by rw [c.withhold_of_none hhold]) hshut
  obtain ⟨lanes, hpd⟩ := c.pd_loadDecided f
  obtain ⟨dark, hhide⟩ := (c.loadDecided f).pd_flipHeld
  rw [hpoint, hhide, hpd, Ctl.e_flipHeld, if_pos rfl, Ctl.e_of_offDrive hrest]
  exact ⟨rfl, by simp [hfm, hsafe, hlinked], rfl⟩

end

end Sys2Proof.Machine
end

section
/-! PROOFS. The lanes of the panel (09 R278, R279, R292, R294), and the settlement of O49. -/
namespace Sys2Proof.Machine

/-! ### The commands -/

theorem exec_decisionPoint (dt : Nat) (s : State) : exec (.decisionPoint dt) s = runC (fun c => (c.advance dt).decisionPoint) s := rfl

theorem exec_laneLoadComplete (dt lane : Nat) (s : State) :
    exec (.laneLoadComplete dt lane) s = runC (fun c => (c.advance dt).laneComplete lane) s := rfl

theorem exec_panelBufferFull (dt lane : Nat) (s : State) :
    exec (.panelBufferFull dt lane) s = runC (fun c => (c.advance dt).laneFull lane true) s := rfl

theorem exec_panelBufferDrained (dt lane : Nat) (s : State) :
    exec (.panelBufferDrained dt lane) s = runC (fun c => (c.advance dt).laneFull lane false) s := rfl

theorem exec_probationExpiry (dt lane : Nat) (s : State) :
    exec (.probationExpiry dt lane) s = runC (fun c => (c.advance dt).probationEnds lane) s := rfl

theorem exec_panelLockTimer (dt lane : Nat) (s : State) :
    exec (.panelLockTimer dt lane) s = runC (fun c => (c.advance dt).lockTimer lane) s := rfl

theorem exec_panelLinkupDone (dt : Nat) (s : State) : exec (.panelLinkupDone dt) s = runC (fun c => (c.advance dt).linkupDone) s := rfl

/-! ### A lane in a load (R278, R279) -/

theorem Ctl.pdAtEnd_advance (c : Ctl) (dt k : Nat) : (c.advance dt).pdAtEnd k = c.pdAtEnd k := by
  unfold Ctl.pdAtEnd
  rw [Ctl.img_congr (c.advance_xz dt), Ctl.pdLane_congr (congrArg PdState.lanes (c.advance_pd dt))]

theorem Ctl.laneComplete_completes (c : Ctl) {k : Nat} (hk : k < c.pd.lanes.length) (hload : c.pd.loading ≠ none)
    (hin : (c.pdLane k).inLoad = true) (hgood : (c.pdLane k).bad = false) (hsent : (c.pdLane k).pkt = []) (hend : c.pdAtEnd k = true) :
    ((c.laneComplete k).pdLane k).complete = true ∧ (c.laneComplete k).ent = c.ent := by
  have hlane : c.laneComplete k = c.updPd k (fun y => { y with complete := true }) := by
    simp [Ctl.laneComplete, Option.isSome_iff_ne_none.2 hload, hin, hgood, hsent, hend]
  rw [hlane, c.pdLane_updPd _ hk]
  exact ⟨rfl, rfl⟩

/-- A lane's transmit buffer is as its command says, whether the array stalls or not. -/
theorem Ctl.laneFull_shows (c : Ctl) {k : Nat} (full : Bool) (hk : k < c.pd.lanes.length) (hin : (c.pdLane k).inLoad = true) (hst : c.pdSt k = 2) :
    ((c.laneFull k full).pdLane k).full = full ∧ (c.laneFull k full).ent = c.ent := by
  have hlane : c.laneFull k full = (c.updPd k (fun x => { x with full := full })).settleStall := by simp [Ctl.laneFull, hin, hst]
  obtain ⟨n, t, hstall⟩ := (c.updPd k (fun x => { x with full := full })).settleStall_eq
  have hshown : (c.laneFull k full).pdLane k = (c.updPd k (fun x => { x with full := full })).pdLane k :=
    Ctl.pdLane_congr (by rw [hlane, hstall]; rfl) k
  rw [hshown, c.pdLane_updPd _ hk, hlane, hstall]
  exact ⟨rfl, rfl⟩

/-! ### A lane that links up (R292, R294) -/

theorem Ctl.probationEnds_readies (c : Ctl) {k t0 : Nat} (hk : k < c.pd.lanes.length) (hfrom : (c.pdLane k).probFrom = some t0) (hst : c.pdSt k = 4)
    (hdue : t0 + tS 1 ≤ c.up) :
    ((c.probationEnds k).pdLane k).ready = true ∧ (c.probationEnds k).pdSt k = 4 ∧ (c.probationEnds k).ent = c.ent := by
  have hlane : c.probationEnds k = c.updPd k (fun x => { x with ready := true }) := by simp [Ctl.probationEnds, hfrom, hst, hdue]
  rw [hlane, c.pdLane_updPd _ hk]
  exact ⟨rfl, hst, rfl⟩

/-- Block lock is over: the lane runs its steps over the chain that is set for it, and ASSIGN goes out (R294 step 2). -/
def Ctl.assigned (c : Ctl) (k : Nat) : Ctl :=
  (c.updPd k (fun x => { x with lockAt := none, linking := true, len := c.ea 0x4411 k, gather := 0 })).pdSend k 6 0 0 [] false

theorem Ctl.lockTimer_assigns (c : Ctl) {k t0 : Nat} (hk : k < c.pd.lanes.length) (hr : k / 8 < c.pd.rets.length)
    (hlock : (c.pdLane k).lockAt = some t0) (hdue : t0 + tMs 2 ≤ c.up) (htest : c.laneSt (18 + k) ≠ 5) (hlen : c.ea 0x4411 k ≠ 0)
    (hqueue : (c.pdRet (k / 8)).queue = []) :
    ((c.lockTimer k).pdLane k).lockAt = none ∧ ((c.lockTimer k).pdLane k).linking = true ∧ ((c.lockTimer k).pdLane k).len = c.ea 0x4411 k ∧
      (c.lockTimer k).ent = c.ent := by
  have htimer : c.lockTimer k = ((c.assigned k).pdAsk { kind := .linkLast, lane := k, ic := c.ea 0x4411 k - 1, reg := 7 }).pdGo (k / 8) := by
    simp [Ctl.lockTimer, Ctl.assigned, hlock, Nat.not_lt.2 hdue, htest, hlen]
  obtain ⟨hlanes, hent⟩ := (c.assigned k).pdGo_pdAsk (q := { kind := .linkLast, lane := k, ic := c.ea 0x4411 k - 1, reg := 7 }) hr hqueue (by simp)
  have hlane : (c.assigned k).pdLane k = { c.pdLane k with lockAt := none, linking := true, len := c.ea 0x4411 k, gather := 0 } := c.pdLane_updPd _ hk
  rw [htimer, Ctl.pdLane_congr hlanes, hent, hlane]
  exact ⟨rfl, rfl, rfl, rfl⟩

theorem Ctl.pd_setBoot (c : Ctl) (f : BootRec → BootRec) : (c.setBoot f).pd = c.pd := by
  unfold Ctl.setBoot
  extract_lets r
  split
  · rfl
  · split <;> rfl

/-- Link-up ends when no lane trains any more and nothing waits to be asked. -/
theorem Ctl.linkupDone_links (c : Ctl) (hlinking : c.pd.linking = true) (hqueues : ∀ r ∈ c.pd.rets, r.queue = [])
    (hlanes : ∀ k, k < 32 → c.pdSt k ≠ 1) : c.linkupDone.pd = { c.pd with linking := false, linked := true } := by
  have hnone : (List.range 32).any (fun k => c.pdSt k = 1) = false := by simpa using hlanes
  unfold Ctl.linkupDone
  simp only [c.pdPumpAll_of_queues_nil hqueues, hlinking, hnone, Bool.not_true, Bool.or_false, Bool.false_eq_true, if_false]
  rw [Ctl.post_pd]
  split
  · rfl
  · exact Ctl.pd_setBoot ..

end Sys2Proof.Machine

open Sys2Proof Sys2Proof.Machine

/-- Settles O49 (09 R278, R279, R282, R283, R292, R294, 20 R552): the decision point by what it leaves where the flip is open, where the load is
missing, where the frame is withheld and in BLANK; the commands of a lane by the lane that each leaves. -/
theorem panelFlipsACompleteLoad : Obligations.PanelFlipsACompleteLoad := by
  unfold Obligations.PanelFlipsACompleteLoad
  refine ⟨fun dt f s hnext hissue hnew hdue hbegan hfull hsafe hhold himage hheld hlinked hservice => ?flips,
    fun dt f s hnext hissue hnew hdue hbegan hmissing hsafe hhold himage hheld hlinked hservice => ?incomplete,
    fun dt f code s hnext hissue hnew hdue hhold => ?withheld, fun dt f s hnext hissue hnew hdue hhold hsafe _ hlinked => ?blanks,
    fun dt lane s hlane hload hin hgood hsent hend => ?complete, fun dt lane s hlane hin hst => ?full, fun dt lane s hlane hin hst => ?drained,
    fun dt lane t0 s hlane hfrom hst hdue => ?probation, fun dt lane t0 s hlane hret hlock hdue htest hlen hqueue => ?lock,
    fun dt s hlinking hqueues hlanes => ?linkup⟩
  case flips =>
    exact leaves_of_exec_eq_runC (exec_decisionPoint ..)
      ((s.ctl.advance dt).decisionPoint_flips hnext hissue hnew hdue hbegan hsafe hhold himage hheld hlinked hservice hfull)
  case incomplete =>
    exact leaves_of_exec_eq_runC (exec_decisionPoint ..)
      ((s.ctl.advance dt).decisionPoint_incomplete hnext hissue hnew hdue hbegan hsafe hhold himage hheld hlinked hservice hmissing)
  case withheld =>
    exact leaves_of_exec_eq_runC (exec_decisionPoint ..) ((s.ctl.advance dt).decisionPoint_withheld hnext hissue hnew hdue hhold)
  case blanks =>
    exact leaves_of_exec_eq_runC (exec_decisionPoint ..) ((s.ctl.advance dt).decisionPoint_blanks hnext hissue hnew hdue hhold hsafe hlinked)
  case complete =>
    rw [← s.ctl.pdAtEnd_advance dt] at hend
    exact leaves_of_exec_eq_runC (exec_laneLoadComplete ..) ((s.ctl.advance dt).laneComplete_completes hlane hload hin hgood hsent hend)
  case full => exact leaves_of_exec_eq_runC (exec_panelBufferFull ..) ((s.ctl.advance dt).laneFull_shows true hlane hin hst)
  case drained => exact leaves_of_exec_eq_runC (exec_panelBufferDrained ..) ((s.ctl.advance dt).laneFull_shows false hlane hin hst)
  case probation => exact leaves_of_exec_eq_runC (exec_probationExpiry ..) ((s.ctl.advance dt).probationEnds_readies hlane hfrom hst hdue)
  case lock =>
    exact leaves_of_exec_eq_runC (exec_panelLockTimer ..) ((s.ctl.advance dt).lockTimer_assigns hlane hret hlock hdue htest hlen hqueue)
  case linkup => exact leaves_of_exec_eq_runC (exec_panelLinkupDone ..) ((s.ctl.advance dt).linkupDone_links hlinking hqueues hlanes)

end

section
/-! PROOFS. Requests on the return lanes and their answers (09 R288, R290). -/
namespace Sys2Proof.Machine

/-! ### The commands -/

theorem exec_statusPoll (dt r : Nat) (s : State) : exec (.statusPoll dt r) s = runC (fun c => (c.advance dt).statusPoll r) s := rfl

theorem exec_statusResponse (dt r : Nat) (bytes : List Byte) (s : State) :
    exec (.statusResponse dt r bytes) s = runC (fun c => (c.advance dt).statusResponse r bytes) s := rfl

theorem exec_statusReqTimeout (dt r : Nat) (s : State) :
    exec (.statusReqTimeout dt r) s = runC (fun c => (c.advance dt).statusTimeout r) s := rfl

theorem exec_icAccRead (dt : Nat) (s : State) : exec (.icAccRead dt) s = runC (fun c => (c.advance dt).icAccess false) s := rfl

theorem exec_icAccWrite (dt : Nat) (s : State) : exec (.icAccWrite dt) s = runC (fun c => (c.advance dt).icAccess true) s := rfl

/-! ### A request that goes out (R288) -/

theorem Ctl.pdRequest_asks (c : Ctl) {q : PdReq} {r : Nat} (hlane : q.lane / 8 = r) (hr : r < c.pd.rets.length) :
    (c.pdRequest q).pdRet r = { c.pdRet r with out := some q, seq := ((c.pdRet r).seq + 1) % 256, sentAt := c.up } ∧
      (c.pdRequest q).pd.access = c.pd.access ∧ (c.pdRequest q).ent = c.ent := by
  subst hlane
  obtain ⟨out, hreq⟩ := c.pdRequest_eq q
  have hret : (c.pdRequest q).pdRet (q.lane / 8) = (c.asked q).pdRet (q.lane / 8) := Ctl.pdRet_congr (by rw [hreq]) _
  rw [hret, Ctl.asked, c.pdRet_updRet _ hr, hreq]
  exact ⟨rfl, rfl, rfl⟩

/-! ### STATUS_POLL (R288, R290) -/

/-- The turn is one of the eight transmit lanes of its return lane. -/
theorem Ctl.fst_pdTurn_lt (c : Ctl) {r : Nat} {t : Nat × Nat} (h : c.pdTurn r = some t) : t.1 < 8 := by
  obtain ⟨d, -, rfl⟩ := List.mem_map.1 (List.mem_of_find?_eq_some h)
  exact Nat.mod_lt _ (by decide)

/-- The poll of return lane `r` begins: its next slot counts from now. -/
def Ctl.polled (c : Ctl) (r : Nat) : Ctl := c.updRet r (fun y => { y with pollAt := c.up })

section
variable (c : Ctl) {r : Nat} (hr : r < c.pd.rets.length) (hqueue : (c.pdRet r).queue = []) (hout : (c.pdRet r).out = none)
  (hopen : c.pdQuiet = false) (hdue : (c.pdRet r).pollAt + tUs (c.e 0x440004) ≤ c.up)

include hr in
theorem Ctl.pdTurn_polled : (c.polled r).pdTurn r = c.pdTurn r := by
  have hturn : ((c.polled r).pdRet r).turn = (c.pdRet r).turn := by rw [Ctl.polled, c.pdRet_updRet _ hr]
  unfold Ctl.pdTurn
  rw [hturn]
  rfl

include hr hqueue hout hopen hdue

/-- An IC access that waits for this return lane takes the slot. -/
theorem Ctl.statusPoll_accesses {q : PdReq} (haccess : c.pd.access = some q) (hlane : q.lane / 8 = r) :
    ((c.statusPoll r).pdRet r).out = some q ∧ ((c.statusPoll r).pdRet r).seq = ((c.pdRet r).seq + 1) % 256 ∧
      ((c.statusPoll r).pdRet r).sentAt = c.up ∧ (c.statusPoll r).pd.access = none ∧ (c.statusPoll r).ent = c.ent := by
  have hpoll : c.statusPoll r = ((c.polled r).setPd (fun p => { p with access := none })).pdRequest q := by
    unfold Ctl.polled
    simp [Ctl.statusPoll, c.pdGo_of_queue_nil hqueue, hout, hopen, Nat.not_lt.2 hdue, haccess, hlane]
  have hret : ((c.polled r).setPd (fun p => { p with access := none })).pdRet r = { c.pdRet r with pollAt := c.up } :=
    c.pdRet_updRet _ hr
  obtain ⟨hasked, haccessed, hent⟩ := ((c.polled r).setPd (fun p => { p with access := none })).pdRequest_asks hlane (by simpa [Ctl.polled] using hr)
  rw [hpoll, hasked, haccessed, hent, hret]
  exact ⟨rfl, rfl, rfl, rfl, rfl⟩

/-- Without an IC access, the IC whose turn it is takes the slot, and the turn moves on. -/
theorem Ctl.statusPoll_turns {i ic : Nat} (haccess : c.pd.access = none) (hturn : c.pdTurn r = some (i, ic)) :
    ((c.statusPoll r).pdRet r).out = some { kind := .poll, lane := 8 * r + i, ic := ic, reg := 1 } ∧ ((c.statusPoll r).pdRet r).turn = (i, ic + 1) ∧
      (c.statusPoll r).ent = c.ent := by
  have hpoll : c.statusPoll r = ((c.polled r).updRet r (fun y => { y with turn := (i, ic + 1) })).pdRequest
      { kind := .poll, lane := 8 * r + i, ic := ic, reg := 1 } := by
    have hnext : (c.polled r).pdTurn r = some (i, ic) := (c.pdTurn_polled hr).trans hturn
    unfold Ctl.polled at hnext ⊢
    simp [Ctl.statusPoll, c.pdGo_of_queue_nil hqueue, hout, hopen, Nat.not_lt.2 hdue, haccess, hnext]
  have hi : i < 8 := c.fst_pdTurn_lt hturn
  have hlen : r < (c.polled r).pd.rets.length := by simpa [Ctl.polled] using hr
  have hlane : (8 * r + i) / 8 = r := by omega
  obtain ⟨hasked, -, hent⟩ := ((c.polled r).updRet r (fun y => { y with turn := (i, ic + 1) })).pdRequest_asks
    (q := { kind := .poll, lane := 8 * r + i, ic := ic, reg := 1 }) hlane (by simpa using hlen)
  rw [hpoll, hasked, hent, Ctl.pdRet_updRet _ _ hlen]
  exact ⟨rfl, rfl, rfl⟩

end

/-! ### STATUS_RESPONSE (R276, R288, R290) -/

theorem aGet_aDel_same {α : Type} (l : List (Nat × α)) (k : Nat) : aGet (aDel l k) k = none := by
  have hdel := aGet_filter (fun j => decide (j ≠ k)) l k
  simpa [aDel] using hdel

theorem Ctl.pd_pdAnswers (c : Ctl) (q : PdReq) : ∃ silent, (c.pdAnswers q).pd =
    { c.pd with misses := aDel c.pd.misses (q.lane * 256 + q.ic), silent := silent } := by
  unfold Ctl.pdAnswers
  extract_lets key was d
  split <;> exact ⟨_, rfl⟩

/-- IC access `q` has its answer `v` on return lane `r`: IC_ACC_VALUE and OK (R290). -/
def Ctl.answered (c : Ctl) (r : Nat) (q : PdReq) (v : Nat) : Ctl :=
  (((c.updRet r (fun y => { y with out := none })).pdAnswers q).setE 0x442004 v).setE 0x442006 2

theorem Ctl.pdRet_answered (c : Ctl) {r : Nat} (q : PdReq) (v : Nat) (hr : r < c.pd.rets.length) :
    (c.answered r q v).pdRet r = { c.pdRet r with out := none } ∧ (c.answered r q v).pd.misses = aDel c.pd.misses (q.lane * 256 + q.ic) := by
  obtain ⟨silent, hpd⟩ := (c.updRet r (fun y => { y with out := none })).pd_pdAnswers q
  have hanswered : (c.answered r q v).pd = ((c.updRet r (fun y => { y with out := none })).pdAnswers q).pd := rfl
  have hrets : (c.answered r q v).pd.rets = (c.updRet r (fun y => { y with out := none })).pd.rets := by rw [hanswered, hpd]
  rw [Ctl.pdRet_congr hrets, c.pdRet_updRet _ hr, hanswered, hpd]
  exact ⟨rfl, rfl⟩

theorem Ctl.pdResult_access (c : Ctl) {q : PdReq} (v : Nat) (hkind : q.kind = .access) (hreg : q.reg ≠ 1) :
    c.pdResult q false v = (c.setE 0x442004 v).setE 0x442006 2 := by
  simp [Ctl.pdResult, hkind, hreg]

/-- The good answer of an IC access: its value and OK, and no misses of that IC. -/
theorem Ctl.statusResponse_answers (c : Ctl) {r : Nat} {bytes : List Byte} {q : PdReq} (hr : r < c.pd.rets.length)
    (hout : (c.pdRet r).out = some q) (hqueue : (c.pdRet r).queue = []) (hkind : q.kind = .access) (hreg : q.reg ≠ 1)
    (hrun : c.laneSt (50 + r) = 2) (hlen : bytes.length = 16) (hseq : u8At bytes 2 = (c.pdRet r).seq) (hcrc : leAt bytes 14 2 = crc16 (bytes.take 14))
    (hknown : bit (u8At bytes 3) 0 = false) (hdue : c.up ≤ (c.pdRet r).sentAt + tNs (c.e 0x440005)) :
    (c.statusResponse r bytes).e 0x442004 = leAt bytes 4 4 ∧ (c.statusResponse r bytes).e 0x442006 = 2 ∧
      ((c.statusResponse r bytes).pdRet r).out = none ∧ aGet (c.statusResponse r bytes).pd.misses (q.lane * 256 + q.ic) = none := by
  obtain ⟨hret, hmisses⟩ := c.pdRet_answered q (leAt bytes 4 4) hr
  have hdone : c.statusResponse r bytes = c.answered r q (leAt bytes 4 4) := by
    simp only [Ctl.statusResponse, hout]
    rw [if_neg (by simp [hrun, hlen, hseq, hcrc, hdue]), hknown, Ctl.pdResult_access _ _ hkind hreg]
    exact Ctl.pdGo_of_queue_nil _ ((congrArg PdRet.queue hret).trans hqueue)
  rw [hdone, hret, hmisses, aGet_aDel_same]
  exact ⟨by simp [Ctl.answered], by simp [Ctl.answered], rfl, rfl⟩

/-! ### STATUS_REQ_TIMEOUT (R288) -/

/-- A miss is counted, and leaves the return lanes. -/
theorem Ctl.pdMiss_counts (c : Ctl) (q : PdReq) : (c.pdMiss q).pd.rets = c.pd.rets ∧ (c.pdMiss q).pd.misses =
    aSet c.pd.misses (q.lane * 256 + q.ic) ((aGet c.pd.misses (q.lane * 256 + q.ic)).getD 0 + 1) := by
  unfold Ctl.pdMiss
  extract_lets key n d e
  split
  · exact ⟨rfl, rfl⟩
  · obtain ⟨posted, hpd⟩ := (e.setReg .pdEvents 0 4 1).pd_pdPost 0x3443 q.lane q.ic [i8 q.lane, i8 q.ic]
    rw [hpd]
    exact ⟨rfl, rfl⟩

/-- A poll without an answer is a miss of its IC. -/
theorem Ctl.statusTimeout_misses (c : Ctl) {r : Nat} {q : PdReq} (hr : r < c.pd.rets.length) (hout : (c.pdRet r).out = some q)
    (hqueue : (c.pdRet r).queue = []) (hkind : q.kind = .poll) (hdue : (c.pdRet r).sentAt + tNs (c.e 0x440005) ≤ c.up) :
    ((c.statusTimeout r).pdRet r).out = none ∧
      aGet (c.statusTimeout r).pd.misses (q.lane * 256 + q.ic) = some ((aGet c.pd.misses (q.lane * 256 + q.ic)).getD 0 + 1) := by
  obtain ⟨hrets, hmisses⟩ := (c.updRet r (fun y => { y with out := none })).pdMiss_counts q
  have hret : ((c.updRet r (fun y => { y with out := none })).pdMiss q).pdRet r = { c.pdRet r with out := none } :=
    (Ctl.pdRet_congr hrets r).trans (c.pdRet_updRet _ hr)
  have hdone : c.statusTimeout r = (c.updRet r (fun y => { y with out := none })).pdMiss q := by
    simp only [Ctl.statusTimeout, hout, Nat.not_lt.2 hdue, if_false, Ctl.pdNoAnswer, hkind]
    exact Ctl.pdGo_of_queue_nil _ (by rw [hret]; exact hqueue)
  rw [hdone, hret, hmisses, aGet_aSet, if_pos rfl]
  exact ⟨rfl, rfl⟩

/-! ### IC_ACC_CMD (R290) -/

theorem Ctl.icAccess_waits (c : Ctl) (write : Bool) (hidle : c.e 0x442006 ≠ 1) :
    (c.icAccess write).e 0x442006 = 1 ∧ (c.icAccess write).pd.access =
      some ⟨.access, c.e 0x442001, c.e 0x442002, c.e 0x442003, if write then some (c.e 0x442004) else none⟩ := by
  simp [Ctl.icAccess, hidle]

end Sys2Proof.Machine

open Sys2Proof Sys2Proof.Machine

/-- Settles O50 (09 R276, R288, R290): a slot goes to the IC access that waits or to the turn; an answer and a miss by what each leaves of the
return lane and of the misses of its IC. -/
theorem returnLanesAskAndAnswer : Obligations.ReturnLanesAskAndAnswer := by
  unfold Obligations.ReturnLanesAskAndAnswer
  refine ⟨fun dt r q s hr hqueue hout hopen hdue haccess hlane => ?access, fun dt r i ic s hr hqueue hout hopen hdue haccess hturn => ?turn,
    fun dt r bytes q s hr hout hqueue hkind hreg hrun hlen hseq hcrc hknown hdue => ?answer, fun dt r q s hr hout hqueue hkind hdue => ?miss,
    fun dt s hidle => ?read, fun dt s hidle => ?write⟩
  case access => exact leaves_of_exec_eq_runC (exec_statusPoll ..) ((s.ctl.advance dt).statusPoll_accesses hr hqueue hout hopen hdue haccess hlane)
  case turn => exact leaves_of_exec_eq_runC (exec_statusPoll ..) ((s.ctl.advance dt).statusPoll_turns hr hqueue hout hopen hdue haccess hturn)
  case answer =>
    exact leaves_of_exec_eq_runC (exec_statusResponse ..)
      ((s.ctl.advance dt).statusResponse_answers hr hout hqueue hkind hreg hrun hlen hseq hcrc hknown hdue)
  case miss => exact leaves_of_exec_eq_runC (exec_statusReqTimeout ..) ((s.ctl.advance dt).statusTimeout_misses hr hout hqueue hkind hdue)
  case read => exact leaves_of_exec_eq_runC (exec_icAccRead ..) ((s.ctl.advance dt).icAccess_waits false hidle)
  case write => exact leaves_of_exec_eq_runC (exec_icAccWrite ..) ((s.ctl.advance dt).icAccess_waits true hidle)

end

section
/-! PROOFS. A picture whose capture reads poisoned in staging (10 R318, 14 R410): the encoder discards it when it is coded, and no fragment
of it comes to wait. -/
namespace Sys2Proof.Machine

/-! ### What the engine's reads of staging and the backlog leave of the encoder -/

/-- What PICTURE_CODED leaves in the encoder is what its operation leaves there. -/
theorem exec_pictureCoded_en {dt : Nat} {ue : List DramErr} {s t : State} (h : exec (.pictureCoded dt ue) s = .next t) :
    t.ctl.en = (pictureCoded (s.mem.found ue) (s.ctl.advance dt)).2.en := by
  injection h with h
  rw [← h]
  rfl

theorem Ctl.en_readDram (c : Ctl) (m : Mem) (client a n : Nat) : (c.readDram m client a n).en = c.en :=
  (congrArg Ctl.en (c.offMc_readDram m client a n) :)

theorem Ctl.en_stageRead (c : Ctl) (m : Mem) (s kind i len : Nat) : (c.stageRead m s kind i len).1.en = c.en := by
  unfold Ctl.stageRead
  split
  · rfl
  · exact c.en_readDram ..

theorem Ctl.en_picRead (c : Ctl) (m : Mem) (p : EnPic) : (c.picRead m p).1.en = c.en := by
  unfold Ctl.picRead
  extract_lets capture reference
  split
  · exact c.en_stageRead ..
  · exact (Ctl.en_stageRead ..).trans (c.en_stageRead ..)

/-- A warning leaves the fragments that wait. -/
theorem Ctl.outq_enPost (c : Ctl) (code s : Nat) (items : List (Nat × Nat)) : (c.enPost code s items).en.outq = c.en.outq := by
  unfold Ctl.enPost
  extract_lets k
  split
  · rfl
  · rw [Ctl.post_en]
    rfl

/-- BACKLOG leaves the fragments that wait. -/
theorem Ctl.outq_showBacklog (c : Ctl) (s : Nat) : (c.showBacklog s).en.outq = c.en.outq := by
  unfold Ctl.showBacklog
  extract_lets n shown tooMany was marked
  split
  · exact marked.outq_enPost ..
  · rfl

/-! ### A poisoned capture -/

/-- Staging of just the octets asked for has one place for them, its base. -/
theorem Ctl.stagePlace_of_full (c : Ctl) (s kind i : Nat) {len : Nat} (hroom : c.e 0x310002 = len) (hdram : c.dramOk (c.e 0x310001) len = true) :
    c.stagePlace s kind i len = some (c.e 0x310001) := by
  simp [Ctl.stagePlace, hroom, hdram, Nat.mod_one]

/-- A capture that reads poisoned makes the picture's read poisoned, whatever its reference is. -/
theorem Ctl.picRead_of_poisoned (c : Ctl) (m : Mem) (p : EnPic) {a : Nat} (hplace : c.stagePlace p.stream 0 p.order p.size = some a)
    (hbad : m.poisoned a p.size = true) : (c.picRead m p).2 = true := by
  have hcapture : (c.stageRead m p.stream 0 p.order p.size).2 = true := by simp [Ctl.stageRead, hplace, hbad]
  unfold Ctl.picRead
  extract_lets capture reference
  split
  · exact hcapture
  · exact Bool.or_eq_true_iff.2 (.inl hcapture)

/-- A picture whose read is poisoned adds nothing to the fragments that wait. -/
theorem outq_pictureCoded_of_poisoned (m : Mem) (c : Ctl) {p : EnPic} (hrun : c.enOut = false) (hcur : c.en.cur = some p)
    (hbad : (c.picRead m p).2 = true) : (pictureCoded m c).2.en.outq = c.en.outq := by
  unfold pictureCoded
  simp only [hrun, hcur, hbad, if_true, Bool.false_eq_true, if_false, Ctl.outq_showBacklog]
  exact (congrArg EnState.outq (c.en_picRead m p) :)

/-! ### The counterexample -/

/-- A RAP picture of stream 0, with a capture of one burst. -/
def burstPicture : EnPic :=
  { stream := 0, order := 0, flip := 0, tick := 0, cfg := State.reset.ctl.enSet 0, samples := [], size := 64, started := true, rap := true }

/-- The engine codes it, with 64 MiB of DRAM and its capture in burst 0, two bits of which have flipped since it was written. -/
def captureDecayed : State :=
  let c := (State.reset.ctl.setE 0x500002 67108864).setE 0x310002 64
  { State.reset with ctl := c.setEn (fun e => { e with cur := some burstPicture }), mem := { errs := [(0, 3)] } }

/-- The flipped bits are more than the check word corrects. -/
theorem captureDecayed_poisoned : captureDecayed.mem.poisoned 0 64 = true := by decide +kernel

theorem captureDecayed_stagePlace : captureDecayed.ctl.stagePlace 0 0 0 64 = some 0 :=
  Ctl.stagePlace_of_full _ 0 0 0 (by decide +kernel) (by decide +kernel)

/-- PICTURE_CODED leaves nothing to send of it. -/
theorem outq_pictureCoded_captureDecayed : (pictureCoded captureDecayed.mem (captureDecayed.ctl.advance 0)).2.en.outq = [] :=
  outq_pictureCoded_of_poisoned _ _ (by decide +kernel) rfl
    (Ctl.picRead_of_poisoned _ _ burstPicture captureDecayed_stagePlace captureDecayed_poisoned)

end Sys2Proof.Machine

open Sys2Proof Sys2Proof.Machine

/-- Refutes O51: its clause on PICTURE_CODED asks nothing of the bits that have flipped in staging before the step. Where the capture reads
poisoned, the picture is discarded (14 R410), so that it is not the last of the coded pictures, as the clause says. -/
theorem not_picturesAreCodedAndSent : ¬ Obligations.PicturesAreCodedAndSent := by
  unfold Obligations.PicturesAreCodedAndSent
  rintro ⟨-, hcoded, -⟩
  obtain ⟨t, ht, -, -, -, -, -, hlast, -⟩ := hcoded 0 burstPicture captureDecayed (by decide +kernel) rfl (by decide +kernel)
  have hnone : t.ctl.en.outq = [] := (congrArg EnState.outq (exec_pictureCoded_en ht)).trans outq_pictureCoded_captureDecayed
  rw [hnone] at hlast
  exact absurd hlast (by simp)

end

section
/-! PROOFS. The serial lanes (11): lanes and ports under a change of one of them, and what the operations beside the lanes leave of them. -/
namespace Sys2Proof.Machine

/-- What a command that changes the part only leaves is what its operation leaves. -/
theorem of_leaves_of_exec_eq_runC {i : Instr} {f : Ctl → Ctl} {s : State} {P : Ctl → Prop} (h : exec i s = runC f s) (hleaves : leaves i s P) :
    P (f s.ctl) := by
  obtain ⟨t, ht, -, -, -, hP⟩ := hleaves
  injection h.symm.trans ht with hst
  rw [← hst] at hP
  exact hP

/-! ### Lanes and ports -/

theorem Ctl.lane_setLane (c : Ctl) {l : Nat} (f : Lane → Lane) (hl : l < c.ln.lanes.length) : (c.setLane l f).lane l = f (c.lane l) :=
  getD_updAt _ f {} hl

theorem Ctl.lane_setLane_ne (c : Ctl) {l l' : Nat} (f : Lane → Lane) (hne : l ≠ l') : (c.setLane l f).lane l' = c.lane l' := by
  simp [Ctl.lane, updAt, List.getD, hne]

theorem Ctl.port_setPort (c : Ctl) {p : Nat} (f : Port → Port) (hp : p < c.ln.ports.length) : (c.setPort p f).port p = f (c.port p) :=
  getD_updAt _ f {} hp

@[simp] theorem Ctl.lanes_length_setLane (c : Ctl) (l : Nat) (f : Lane → Lane) : (c.setLane l f).ln.lanes.length = c.ln.lanes.length := by
  simp [updAt]

@[simp] theorem Ctl.ports_length_setPort (c : Ctl) (p : Nat) (f : Port → Port) : (c.setPort p f).ln.ports.length = c.ln.ports.length := by
  simp [updAt]

@[simp] theorem Ctl.setLaneSt_ln (c : Ctl) (l st : Nat) : (c.setLaneSt l st).ln = c.ln := by
  simp only [Ctl.setLaneSt]
  split <;> rfl

@[simp] theorem Ctl.setLaneSt_up (c : Ctl) (l st : Nat) : (c.setLaneSt l st).up = c.up := by
  simp only [Ctl.setLaneSt]
  split <;> rfl

@[simp] theorem Ctl.setLaneSt_rg (c : Ctl) (l st : Nat) : (c.setLaneSt l st).rg = c.rg := by
  simp only [Ctl.setLaneSt]
  split <;> rfl

@[simp] theorem Ctl.port_advance (c : Ctl) (dt p : Nat) : (c.advance dt).port p = c.port p := rfl
@[simp] theorem Ctl.ringOn_advance (c : Ctl) (dt : Nat) : (c.advance dt).ringOn = c.ringOn := rfl

/-! ### A lane by itself: its state, its rate and what the part holds of it -/

/-- LANE_STATE and LANE_RATE of a lane, what the part holds of it, and how many lanes it holds. -/
def Ctl.laneView (c : Ctl) (l : Nat) : Nat × Nat × Lane × Nat := (c.laneSt l, c.ea 0x2012 l, c.lane l, c.ln.lanes.length)

/-- The entries of the tables of the lanes (R351). -/
def laneKey (k : Nat) : Prop := 0x201000 ≤ k ∧ k < 0x202100

theorem postKey_of_laneKey {k : Nat} (hk : laneKey k) : postKey k = false := by
  obtain ⟨hlo, hhi⟩ := hk
  simp only [postKey, Bool.or_eq_false_iff, Bool.and_eq_false_iff, decide_eq_false_iff_not]
  omega

/-- Whatever leaves the lanes and the entries of their tables leaves every lane. -/
theorem Ctl.laneView_congr {c d : Ctl} {l : Nat} (hl : l < 255) (hlanes : d.ln.lanes = c.ln.lanes) (he : ∀ k, laneKey k → d.e k = c.e k) :
    d.laneView l = c.laneView l := by
  have hstate : d.laneSt l = c.laneSt l := he _ (by unfold laneKey ekey; omega)
  have hrate : d.ea 0x2012 l = c.ea 0x2012 l := he _ (by unfold laneKey ekey; omega)
  simp only [Ctl.laneView, Ctl.lane, hstate, hrate, hlanes]

section Beside
variable (c : Ctl) {l : Nat}

/-- An entry beside the tables of the lanes leaves the lanes. -/
theorem Ctl.laneView_setE (k n : Nat) (hk : ¬ laneKey k) (hl : l < 255) : (c.setE k n).laneView l = c.laneView l :=
  Ctl.laneView_congr hl rfl fun k' hk' => by
    rw [Ctl.e_setE, if_neg]
    rintro rfl
    exact hk hk'

/-- A table of the ports lies beside those of the lanes. -/
theorem Ctl.laneView_setEa_port (idx p n : Nat) (hp : p < 2) (hidx : idx < 0x2010 ∨ 0x2020 < idx) (hl : l < 255) :
    (c.setEa idx p n).laneView l = c.laneView l :=
  c.laneView_setE (ekey idx (p + 1)) n (by unfold laneKey ekey; omega) hl

/-- In the tables of the lanes the entries of one lane leave every other lane. -/
theorem Ctl.laneView_setEa_ne (idx n : Nat) {l' : Nat} (hne : l' ≠ l) (hl' : l' < 255) (hl : l < 255) :
    (c.setEa idx l' n).laneView l = c.laneView l := by
  have hkey : ∀ x, ekey idx (l' + 1) ≠ ekey x (l + 1) := by intro x; unfold ekey; omega
  simp [Ctl.laneView, Ctl.laneSt, Ctl.ea, Ctl.lane, hkey]

theorem Ctl.laneView_setLane_ne (f : Lane → Lane) {l' : Nat} (hne : l' ≠ l) : (c.setLane l' f).laneView l = c.laneView l := by
  have hlane := c.lane_setLane_ne f hne
  have hlength := c.lanes_length_setLane l' f
  unfold Ctl.laneView
  rw [hlane, hlength]
  rfl

theorem Ctl.laneView_setLaneSt_ne (st : Nat) {l' : Nat} (hne : l' ≠ l) (hl' : l' < 255) (hl : l < 255) :
    (c.setLaneSt l' st).laneView l = c.laneView l := by
  simp only [Ctl.setLaneSt]
  split
  · rw [Ctl.laneView_setEa_port _ _ _ _ (by omega) (by omega) hl, Ctl.laneView_setEa_ne _ _ _ hne hl' hl]
  · exact Ctl.laneView_setEa_ne _ _ _ hne hl' hl

@[simp] theorem Ctl.laneView_setRg (f : RgState → RgState) : (c.setRg f).laneView l = c.laneView l := rfl
@[simp] theorem Ctl.laneView_setRgPort (p : Nat) (f : RgPort → RgPort) : (c.setRgPort p f).laneView l = c.laneView l := rfl
@[simp] theorem Ctl.laneView_setPort (p : Nat) (f : Port → Port) : (c.setPort p f).laneView l = c.laneView l := rfl

/-! ### Ring transport leaves the lanes -/

theorem Ctl.laneView_post (code : Nat) (items : List (Nat × Nat)) (hcode : code < 65536) (hl : l < 255) :
    (c.post code items).laneView l = c.laneView l :=
  Ctl.laneView_congr hl (by rw [Ctl.post_ln]) fun k hk => Ctl.e_post c code items k (postKey_of_laneKey hk) hcode

theorem Ctl.laneView_ringWarn (code p : Nat) (items : List (Nat × Nat)) (hcode : code < 65536) (hl : l < 255) :
    (c.ringWarn code p items).laneView l = c.laneView l := by
  have hbit : (c.eventBit code).laneView l = c.laneView l := by unfold Ctl.eventBit; split <;> rfl
  simp only [Ctl.ringWarn]
  split
  · exact hbit
  · exact Ctl.laneView_post _ _ _ hcode hl

theorem Ctl.laneView_refreshKeep (hl : l < 255) : c.refreshKeep.laneView l = c.laneView l := by
  have hports : ∀ d : Ctl, ((List.range 2).foldl (fun c p => (c.setEa 0x2112 p (c.keepIn p)).setEa 0x2113 p
      (c.keepFor (c.stripes p true) &&& c.keepIn p)) d).laneView l = d.laneView l :=
    fun d => foldl_keeps (fun x => x.laneView l) _ _ d fun x p hp => by
      have hp2 := List.mem_range.1 hp
      rw [Ctl.laneView_setEa_port _ _ _ _ hp2 (by omega) hl, Ctl.laneView_setEa_port _ _ _ _ hp2 (by omega) hl]
  have hkeep : ∀ (d : Ctl) (n : Nat), (d.setE 0x210007 n).laneView l = d.laneView l :=
    fun d n => d.laneView_setE _ n (by unfold laneKey; omega) hl
  have hwarn : ∀ (d : Ctl) (items : List (Nat × Nat)), (d.ringWarn 0x1143 2 items).laneView l = d.laneView l :=
    fun d items => d.laneView_ringWarn _ _ _ (by decide) hl
  have hpost : ∀ (d : Ctl) (items : List (Nat × Nat)), (d.post 0x1104 items).laneView l = d.laneView l :=
    fun d items => d.laneView_post _ _ (by decide) hl
  simp only [Ctl.refreshKeep]
  split <;> split <;> simp only [hpost, hwarn, hkeep, hports]

theorem Ctl.laneView_ringDown {p : Nat} (hp : p < 2) (hl : l < 255) : (c.ringDown p).laneView l = c.laneView l := by
  unfold Ctl.ringDown
  split
  · rfl
  · rw [Ctl.laneView_refreshKeep _ hl, Ctl.laneView_setEa_port _ _ _ _ hp (by omega) hl, Ctl.laneView_setEa_port _ _ _ _ hp (by omega) hl,
      Ctl.laneView_setEa_port _ _ _ _ hp (by omega) hl, Ctl.laneView_setRgPort]

theorem Ctl.laneView_showRole (hl : l < 255) : c.showRole.laneView l = c.laneView l := by
  simp only [Ctl.showRole]
  rw [Ctl.laneView_setE _ _ _ (by unfold laneKey; omega) hl, Ctl.laneView_setRg]
  split
  · exact Ctl.laneView_post _ _ _ (by decide) hl
  · rfl

end Beside

/-! ### A port by itself: its bring-up, and whether it is up -/

/-- A port's bring-up, whether ring transport has it up, how many ports the part holds, and the uptime. -/
def Ctl.portView (c : Ctl) (p : Nat) : Port × Bool × Nat × Nat := (c.port p, c.portUp p, c.ln.ports.length, c.up)

theorem Ctl.portView_congr {c d : Ctl} (p : Nat) (hln : d.ln.ports = c.ln.ports) (hrg : d.rg.ports = c.rg.ports) (hup : d.up = c.up) :
    d.portView p = c.portView p := by
  simp only [Ctl.portView, Ctl.port, Ctl.portUp, Ctl.rgPort, hln, hrg, hup]

section Port
variable (c : Ctl) (p : Nat)

@[simp] theorem Ctl.portView_setE (k n : Nat) : (c.setE k n).portView p = c.portView p := rfl
@[simp] theorem Ctl.portView_setEa (idx i n : Nat) : (c.setEa idx i n).portView p = c.portView p := rfl
@[simp] theorem Ctl.portView_setLane (l : Nat) (f : Lane → Lane) : (c.setLane l f).portView p = c.portView p := rfl
@[simp] theorem Ctl.portView_incEa (idx i : Nat) : (c.incEa idx i).portView p = c.portView p := rfl

@[simp] theorem Ctl.portView_setLaneSt (l st : Nat) : (c.setLaneSt l st).portView p = c.portView p :=
  Ctl.portView_congr p (by rw [Ctl.setLaneSt_ln]) (by rw [Ctl.setLaneSt_rg]) (by rw [Ctl.setLaneSt_up])

@[simp] theorem Ctl.portView_post (code : Nat) (items : List (Nat × Nat)) : (c.post code items).portView p = c.portView p :=
  Ctl.portView_congr p (by rw [Ctl.post_ln]) (by rw [Ctl.post_rg]) (by rw [Ctl.post_up])

@[simp] theorem Ctl.portView_ringWarn (code q : Nat) (items : List (Nat × Nat)) : (c.ringWarn code q items).portView p = c.portView p := by
  have hbit : (c.eventBit code).portView p = c.portView p := by unfold Ctl.eventBit; split <;> rfl
  simp only [Ctl.ringWarn]
  split
  · exact hbit
  · exact Ctl.portView_post ..

@[simp] theorem Ctl.portView_refreshKeep : c.refreshKeep.portView p = c.portView p := by
  have hports : ∀ d : Ctl, ((List.range 2).foldl (fun c p => (c.setEa 0x2112 p (c.keepIn p)).setEa 0x2113 p
      (c.keepFor (c.stripes p true) &&& c.keepIn p)) d).portView p = d.portView p := fun d => rfl
  simp only [Ctl.refreshKeep]
  split <;> split <;> simp only [Ctl.portView_post, Ctl.portView_ringWarn, Ctl.portView_setE, hports]

@[simp] theorem Ctl.portView_showRole : c.showRole.portView p = c.portView p := by
  have hrole : ∀ (d : Ctl) (bad : Bool) (n : Nat), ((d.setRg (fun r => { r with roleConflict := bad })).setE 0x210002 n).portView p = d.portView p :=
    fun _ _ _ => rfl
  simp only [Ctl.showRole, hrole]
  split
  · exact Ctl.portView_post ..
  · rfl

/-- A port of ring transport that starts afresh is down. -/
theorem Ctl.portUp_setRgPort_afresh : (c.setRgPort p (fun q => { nextReq := q.nextReq })).portUp p = false := by
  by_cases hp : p < c.rg.ports.length
  · rw [Ctl.portUp, Ctl.rgPort_setRgPort _ _ _ hp]
  · simp [Ctl.portUp, Ctl.rgPort, Ctl.setRgPort, Ctl.setRg, updAt, List.getD, hp]

/-- A port that leaves ring transport is down, and its bring-up stands. -/
theorem Ctl.portView_ringDown : (c.ringDown p).portView p = (c.port p, false, c.ln.ports.length, c.up) := by
  unfold Ctl.ringDown
  split
  · next hdown => rw [Ctl.portView, show c.portUp p = false by simpa using hdown]
  · have hport : (c.setRgPort p (fun q => { nextReq := q.nextReq })).port p = c.port p := rfl
    rw [Ctl.portView_refreshKeep, Ctl.portView_setEa, Ctl.portView_setEa, Ctl.portView_setEa, Ctl.portView, hport, Ctl.portUp_setRgPort_afresh]
    rfl

@[simp] theorem Ctl.portView_laneBegin (l st : Nat) (solo : Bool) : (c.laneBegin l st solo).portView p = c.portView p := by
  simp only [Ctl.laneBegin, Ctl.latchEye, Ctl.portView_setEa, Ctl.portView_incEa, Ctl.portView_setLaneSt, Ctl.portView_setLane]

end Port

/-! ### A lane begins at code 0 (R329) -/

theorem Ctl.laneSt_setLaneSt (c : Ctl) (l st : Nat) : (c.setLaneSt l st).laneSt l = st := by
  simp only [Ctl.setLaneSt, Ctl.laneSt, Ctl.ea]
  split
  · rw [Ctl.e_setEa, if_neg (by unfold ekey; omega), Ctl.e_setEa, if_pos rfl]
  · rw [Ctl.e_setEa, if_pos rfl]

/-- An entry of another table of the lanes leaves LANE_STATE. -/
theorem Ctl.laneSt_setEa (c : Ctl) (idx l n : Nat) (hidx : idx ≠ 0x2010) : (c.setEa idx l n).laneSt l = c.laneSt l := by
  unfold Ctl.laneSt Ctl.ea
  rw [Ctl.e_setEa, if_neg (by unfold ekey; omega)]

theorem Ctl.laneSt_incEa (c : Ctl) (idx l : Nat) (hidx : idx ≠ 0x2010) : (c.incEa idx l).laneSt l = c.laneSt l :=
  c.laneSt_setEa idx l _ hidx

/-- The lane that begins is in the state asked for, at the rate of code 0, with the taps that it had. -/
theorem Ctl.laneBegin_starts (c : Ctl) {l : Nat} (st : Nat) (solo : Bool) (hl : l < c.ln.lanes.length) :
    (c.laneBegin l st solo).laneSt l = st ∧ (c.laneBegin l st solo).ea 0x2012 l = 1250000 ∧ ((c.laneBegin l st solo).lane l).code = 0 ∧
      ((c.laneBegin l st solo).lane l).taps = (c.lane l).taps := by
  generalize hbegun : c.setLane l (fun x => { x.kept with phase := .pairing, code := 0, solo := solo, startedAt := c.up }) = d
  have hd : d.lane l = { (c.lane l).kept with phase := .pairing, code := 0, solo := solo, startedAt := c.up } := by
    rw [← hbegun, Ctl.lane_setLane _ _ hl]
  have hdl : l < d.ln.lanes.length := by rw [← hbegun, Ctl.lanes_length_setLane]; exact hl
  have hlane : (c.laneBegin l st solo).lane l = { d.lane l with minH := d.e 0x200003, minW := d.e 0x200004 } := by
    have hln : (c.laneBegin l st solo).ln = (d.latchEye l).ln := by
      rw [← hbegun]
      simp only [Ctl.laneBegin, Ctl.setEa_ln, Ctl.incEa_ln, Ctl.setLaneSt_ln]
    rw [Ctl.lane, hln]
    exact Ctl.lane_setLane d _ hdl
  refine ⟨?_, ?_, by rw [hlane, hd], by rw [hlane, hd]; rfl⟩
  · unfold Ctl.laneBegin
    rw [Ctl.laneSt_setEa _ _ _ _ (by decide), Ctl.laneSt_setEa _ _ _ _ (by decide), Ctl.laneSt_setEa _ _ _ _ (by decide),
      Ctl.laneSt_setEa _ _ _ _ (by decide), Ctl.laneSt_incEa _ _ _ (by decide), Ctl.laneSt_setLaneSt]
  · unfold Ctl.laneBegin Ctl.ea
    rw [Ctl.e_setEa, if_neg (by unfold ekey; omega), Ctl.e_setEa, if_neg (by unfold ekey; omega), Ctl.e_setEa, if_pos rfl]
    rfl

/-- A lane that begins leaves every other lane. -/
theorem Ctl.laneView_laneBegin_ne (c : Ctl) {l l' : Nat} (st : Nat) (solo : Bool) (hne : l' ≠ l) (hl' : l' < 255) (hl : l < 255) :
    (c.laneBegin l' st solo).laneView l = c.laneView l := by
  have hset : ∀ (d : Ctl) (idx n : Nat), (d.setEa idx l' n).laneView l = d.laneView l := fun d idx n => d.laneView_setEa_ne idx n hne hl' hl
  have hcount : ∀ (d : Ctl) (idx : Nat), (d.incEa idx l').laneView l = d.laneView l := fun d idx => hset d idx _
  unfold Ctl.laneBegin Ctl.latchEye
  rw [hset, hset, hset, hset, hcount, Ctl.laneView_setLaneSt_ne _ _ hne hl' hl, Ctl.laneView_setLane_ne _ _ hne, Ctl.laneView_setLane_ne _ _ hne]

/-! ### A port starts at code 0 (R329, R331) -/

/-- Where the steps of a fold for other elements keep a reading, it is read behind the one step for `a`. -/
theorem foldl_reads_at {α σ β : Type} (g : σ → β) (f : σ → α → σ) {l : List α} {a : α} (hnodup : l.Nodup) (ha : a ∈ l) (s : σ)
    (hother : ∀ t, ∀ b ∈ l, b ≠ a → g (f t b) = g t) : ∃ t, g t = g s ∧ g (l.foldl f s) = g (f t a) := by
  obtain ⟨before, behind, rfl⟩ := List.append_of_mem ha
  obtain ⟨-, hrest, happart⟩ := List.nodup_append.1 hnodup
  have hbefore : ∀ b ∈ before, b ≠ a := fun b hb => happart b hb a List.mem_cons_self
  have hbehind : ∀ b ∈ behind, b ≠ a := by
    rintro b hb rfl
    exact (List.nodup_cons.1 hrest).1 hb
  refine ⟨before.foldl f s, foldl_keeps g f _ _ fun t b hb => hother t b (List.mem_append_left _ hb) (hbefore b hb), ?_⟩
  rw [List.foldl_append, List.foldl_cons]
  exact foldl_keeps g f _ _ fun t b hb => hother t b (List.mem_append_right _ (List.mem_cons_of_mem _ hb)) (hbehind b hb)

/-- A lane of a port that starts: it begins at code 0, or stays in TEST. -/
def Ctl.laneStarts (p : Nat) (c : Ctl) (n : Nat) : Ctl := if c.laneSt (9 * p + n) = 5 then c else c.laneBegin (9 * p + n) 1 false

/-- The part before the lanes of a port that starts begin: the port is out of ring transport, and pairs. -/
def Ctl.portPairs (c : Ctl) (p : Nat) : Ctl :=
  let d := c.ringDown p
  (((d.setPort p (fun _ => { stage := 1, startedAt := d.up, seenAt := d.up })).latchPort p).setEa 0x2002 p 0xFF).setEa 0x2004 p 0xFF

theorem Ctl.portStart_eq (c : Ctl) (p : Nat) : c.portStart p = ((List.range 9).foldl (Ctl.laneStarts p) (c.portPairs p)).showRole := rfl

theorem Ctl.laneView_portPairs (c : Ctl) {p l : Nat} (hp : p < 2) (hl : l < 255) : (c.portPairs p).laneView l = c.laneView l := by
  unfold Ctl.portPairs Ctl.latchPort
  rw [Ctl.laneView_setEa_port _ _ _ _ hp (by omega) hl, Ctl.laneView_setEa_port _ _ _ _ hp (by omega) hl, Ctl.laneView_setPort, Ctl.laneView_setPort,
    Ctl.laneView_ringDown _ hp hl]

/-- The port pairs from now on, and is down. -/
theorem Ctl.portPairs_port (c : Ctl) {p : Nat} (hp : p < c.ln.ports.length) :
    ((c.portPairs p).port p).stage = 1 ∧ ((c.portPairs p).port p).startedAt = c.up ∧ (c.portPairs p).portUp p = false := by
  obtain ⟨-, hdown, hports, hup⟩ : (c.ringDown p).port p = c.port p ∧ (c.ringDown p).portUp p = false ∧
      (c.ringDown p).ln.ports.length = c.ln.ports.length ∧ (c.ringDown p).up = c.up := by simpa [Ctl.portView] using c.portView_ringDown p
  have hset : ∀ (d : Ctl) (i n m : Nat), ((d.setEa 0x2002 i n).setEa 0x2004 i m).port p = d.port p := fun _ _ _ _ => rfl
  unfold Ctl.portPairs Ctl.latchPort
  rw [hset, Ctl.port_setPort _ _ (by rw [Ctl.ports_length_setPort, hports]; exact hp), Ctl.port_setPort _ _ (by rw [hports]; exact hp)]
  exact ⟨rfl, hup, hdown⟩

theorem Ctl.portView_laneStarts (c : Ctl) (p q n : Nat) : (Ctl.laneStarts p c n).portView q = c.portView q := by
  unfold Ctl.laneStarts
  split
  · rfl
  · exact Ctl.portView_laneBegin ..

/-- The lanes that begin and the role leave the port as it pairs. -/
theorem Ctl.portView_portStart (c : Ctl) (p : Nat) : (c.portStart p).portView p = (c.portPairs p).portView p := by
  rw [Ctl.portStart_eq, Ctl.portView_showRole]
  exact foldl_keeps (fun d : Ctl => d.portView p) _ _ _ fun d n _ => d.portView_laneStarts p p n

/-- A port that starts pairs from now on, and is down until its lanes have come up. -/
theorem Ctl.portStart_port (c : Ctl) {p : Nat} (hp : p < c.ln.ports.length) :
    ((c.portStart p).port p).stage = 1 ∧ ((c.portStart p).port p).startedAt = c.up ∧ (c.portStart p).portUp p = false := by
  obtain ⟨hport, hup, -⟩ : (c.portStart p).port p = (c.portPairs p).port p ∧ (c.portStart p).portUp p = (c.portPairs p).portUp p ∧
      (c.portStart p).ln.ports.length = (c.portPairs p).ln.ports.length ∧ (c.portStart p).up = (c.portPairs p).up := by
    simpa [Ctl.portView] using c.portView_portStart p
  rw [hport, hup]
  exact c.portPairs_port hp

/-- Every lane of a port that starts, but those in TEST, trains at code 0 with the taps that it had. -/
theorem Ctl.portStart_lane (c : Ctl) {p n : Nat} (hp : p < 2) (hn : n < 9) (hlanes : c.ln.lanes.length = 56) (hst : c.laneSt (9 * p + n) ≠ 5) :
    (c.portStart p).laneSt (9 * p + n) = 1 ∧ (c.portStart p).ea 0x2012 (9 * p + n) = 1250000 ∧ ((c.portStart p).lane (9 * p + n)).code = 0 ∧
      ((c.portStart p).lane (9 * p + n)).taps = (c.lane (9 * p + n)).taps := by
  have hl : 9 * p + n < 255 := by omega
  obtain ⟨d, hd, hfold⟩ := foldl_reads_at (fun x => x.laneView (9 * p + n)) (Ctl.laneStarts p) List.nodup_range (List.mem_range.2 hn) (c.portPairs p)
    fun x b hb hne => by
      have hb9 := List.mem_range.1 hb
      unfold Ctl.laneStarts
      split
      · rfl
      · exact x.laneView_laneBegin_ne 1 false (by omega) (by omega) hl
  rw [Ctl.laneView_portPairs _ hp hl] at hd
  rw [← Ctl.laneView_showRole _ hl, ← Ctl.portStart_eq] at hfold
  simp only [Ctl.laneView, Prod.mk.injEq] at hd
  obtain ⟨hdst, -, hdlane, hdlength⟩ := hd
  have hbegin : d.laneStarts p n = d.laneBegin (9 * p + n) 1 false := if_neg (by rw [hdst]; exact hst)
  obtain ⟨hstate, hrate, hcode, htaps⟩ := d.laneBegin_starts 1 false (l := 9 * p + n) (by omega)
  simp only [Ctl.laneView, hbegin, Prod.mk.injEq] at hfold
  obtain ⟨hfst, hfrate, hflane, -⟩ := hfold
  rw [hfst, hfrate, hflane, ← hdlane]
  exact ⟨hstate, hrate, hcode, htaps⟩

/-! ### The commands -/

theorem exec_portBringupStart (dt port : Nat) (s : State) :
    exec (.portBringupStart dt port) s = runC (fun c => if (c.advance dt).ringOn && (c.advance dt).ea 0x2001 port = 1 && ((c.advance dt).port port).stage = 0
      then (c.advance dt).portStart port else c.advance dt) s := rfl

theorem exec_portRetrain (dt port : Nat) (s : State) : exec (.portRetrain dt port) s = runC (fun c => (c.advance dt).portRetrain port) s := rfl

theorem exec_trainRetry (dt port : Nat) (s : State) :
    exec (.trainRetry dt port) s = runC (fun c => if ((c.advance dt).port port).stage = 4 && (c.advance dt).up ≥ ((c.advance dt).port port).retryAt
      then (c.advance dt).portStart port else c.advance dt) s := rfl

end Sys2Proof.Machine

open Sys2Proof Sys2Proof.Machine

/-- Settles O42: each of the three commands, where its conditions hold, starts the port, and each lane of the port is reached once. -/
theorem portsStartAtCodeZero : Obligations.PortsStartAtCodeZero := by
  unfold Obligations.PortsStartAtCodeZero
  refine ⟨fun dt port n s hp hn hports hlanes hring henable hstage hst => ?bringupStart,
    fun dt port n s hp hn hports hlanes hring henable hst => ?retrain, fun dt port n s hp hn hports hlanes hstage hdue hst => ?retry⟩
  all_goals
    obtain ⟨hpairs, hfrom, hdown⟩ := (s.ctl.advance dt).portStart_port (p := port) (by rw [Ctl.advance_ln, hports]; exact hp)
    obtain ⟨htrains, hrate, hcode, htaps⟩ := (s.ctl.advance dt).portStart_lane hp hn hlanes hst
  case bringupStart =>
    refine leaves_of_exec_eq_runC (exec_portBringupStart ..) ?_
    rw [if_pos (by simp [hring, henable, hstage])]
    exact ⟨hpairs, hfrom, htrains, hrate, hcode, htaps⟩
  case retrain =>
    refine leaves_of_exec_eq_runC (exec_portRetrain ..) ?_
    rw [Ctl.portRetrain, if_pos (by simp [hring, henable])]
    exact ⟨hpairs, hfrom, htrains, hdown⟩
  case retry =>
    refine leaves_of_exec_eq_runC (exec_trainRetry ..) ?_
    rw [if_pos (by simp [hstage, hdue])]
    exact ⟨hpairs, hfrom, htrains⟩

end

section
/-! PROOFS. Three cases that the statements on the serial lanes leave in (11 R336, R338, R347): a lane in NEAR_SERIAL hears no frame, an adaptation
waits for its last request, and the eye figures of a lane under recalibration are stale. -/
namespace Sys2Proof.Machine

theorem exec_laneControlFrame (dt lane : Nat) (bytes : List Byte) (s : State) :
    exec (.laneControlFrame dt lane bytes) s = runC (fun c => (c.advance dt).laneFrame lane bytes) s := rfl

theorem exec_adaptationDone (dt lane h w : Nat) (s : State) :
    exec (.adaptationDone dt lane h w) s = runC (fun c => (c.advance dt).adaptationDone lane h w) s := rfl

theorem exec_quietCheckPeriod (dt lane h w : Nat) (s : State) :
    exec (.quietCheckPeriod dt lane h w) s = runC (fun c => (c.advance dt).quietCheck lane h w) s := rfl

/-! ### A frame on a lane in NEAR_SERIAL (R347) -/

/-- The serialiser of the lane feeds its own receiver, so that a frame from outside changes no lane. -/
theorem Ctl.lane_laneFrame_of_nearSerial (c : Ctl) {l : Nat} (b : List Byte) (htest : c.laneSt l = 5) (hloop : c.ea 0x201E l % 4 = 1) :
    (c.laneFrame l b).lane l = c.lane l := by
  unfold Ctl.laneFrame
  split
  · rfl
  · extract_lets d
    have hst : d.laneSt l = 5 := htest
    have hcfg : d.ea 0x201E l % 4 = 1 := hloop
    rw [if_pos (Bool.or_eq_true_iff.2 (.inr (Bool.and_eq_true_iff.2 ⟨decide_eq_true hst, decide_eq_true hcfg⟩)))]
    rfl

/-- A CAPABILITY frame of a part for lane 8 of a West port, in the 13 octets of the side channel (R328). -/
def capabilityFrame : List Byte := [0x11, 0x48, 63, 0, 0, 0, 0, 0, 0, 0, 0, 0, 0]

/-- The part after reset with lane 8 pairing, and in TEST in a NEAR_SERIAL loop. -/
def nearSerialPairing : State :=
  let c := (State.reset.ctl.setLaneSt 8 5).setEa 0x201E 8 1
  { State.reset with ctl := (c.setLane 8 (fun x => { x with phase := .pairing })).setPort 0 (fun q => { q with partnerMask := some 63 }) }

/-! ### An adaptation that ends with a request standing (R335, R336) -/

/-- The best taps are restored once no request stands. -/
theorem Ctl.tapsSettle_of_request (c : Ctl) {l : Nat} (h : (c.lane l).quietTaps = false) : c.tapsSettle l = c := by
  simp [Ctl.tapsSettle, h]

/-- Until then the lane still adapts. -/
theorem Ctl.phase_adaptationDone_of_request (c : Ctl) {l : Nat} (h w : Nat) (hl : l < c.ln.lanes.length) (hphase : (c.lane l).phase = .adapt)
    (hrequest : (c.lane l).quietTaps = false) : ((c.adaptationDone l h w).lane l).phase = .adapt := by
  simp only [Ctl.adaptationDone]
  split
  · exact hphase
  · have hending := Ctl.lane_setLane ((c.setEa 0x2016 l h).setEa 0x2017 l w) (fun x => { x with ending := true }) hl
    rw [Ctl.tapsSettle_of_request _ (by rw [hending]; exact hrequest), hending]
    exact hphase

/-- A lane after three trials without a gain, whose request of a step on PRE has not been answered. -/
def requestingLane : Lane := { phase := .adapt, noGain := 3, req := [1, 0, 0] }

/-- The part after reset with the lane as its lane 17. -/
def adaptationRequests : State := { State.reset with ctl := State.reset.ctl.setLane 17 (fun _ => requestingLane) }

/-! ### A lane in QUIET under recalibration (R345, 19 R540) -/

/-- EYE_STALE says whether the lane is under recalibration. -/
theorem Ctl.ea_stale_eyeFigures (c : Ctl) {l : Nat} (h w : Nat) (hl : l < 56) : (c.eyeFigures l h w).ea 0x2018 l = b2n (c.eyeCal l) := by
  have hset : (((c.setEa 0x2016 l h).setEa 0x2017 l w).setEa 0x2018 l (b2n (c.eyeCal l))).ea 0x2018 l = b2n (c.eyeCal l) := by
    rw [Ctl.ea, Ctl.e_setEa, if_pos rfl]
  simp only [Ctl.eyeFigures]
  split
  · rw [Ctl.ea_post _ _ _ _ _ (postKey_of_laneKey (by unfold laneKey ekey; omega)) (by decide)]
    exact hset
  · exact hset

/-- So does the check of a lane that rests in QUIET. -/
theorem Ctl.ea_stale_quietCheck (c : Ctl) {l : Nat} (h w : Nat) (hl : l < 18) (hquiet : c.ea 0x2011 l = 1) :
    (c.quietCheck l h w).ea 0x2018 l = b2n (c.eyeCal l) := by
  rw [Ctl.quietCheck, if_pos (by simp [hl, hquiet])]
  exact c.ea_stale_eyeFigures h w (by omega)

/-- The part after reset with lane 17 in QUIET while its EYE_SCALE recalibrates. -/
def quietRecalibrates : State :=
  { State.reset with ctl := (State.reset.ctl.setEa 0x2011 17 1).setPm (fun p => { p with cal := [{ item := 7, idx := 17, running := true }] }) }

end Sys2Proof.Machine

open Sys2Proof Sys2Proof.Machine

/-- Refutes O43: its second clause leaves in a lane in TEST. One in NEAR_SERIAL hears nothing from outside (R347), so that a CAPABILITY frame does
not count in its row, as the clause says. -/
theorem not_controlFramesPairAndChange : ¬ Obligations.ControlFramesPairAndChange := by
  unfold Obligations.ControlFramesPairAndChange
  rintro ⟨-, hpair, -⟩
  obtain ⟨hcounts, -, -⟩ := of_leaves_of_exec_eq_runC (exec_laneControlFrame ..) (hpair 0 8 capabilityFrame nearSerialPairing (by decide)
    (by decide +kernel) (by decide +kernel) (by decide +kernel) (by decide +kernel) (by decide +kernel) (by decide +kernel) (by decide +kernel)
    (by decide +kernel) (by decide +kernel) (by decide +kernel))
  have hstands := (nearSerialPairing.ctl.advance 0).lane_laneFrame_of_nearSerial (l := 8) capabilityFrame (by decide +kernel) (by decide +kernel)
  rw [hstands] at hcounts
  exact Nat.succ_ne_self _ hcounts.symm

/-- Refutes O44: its fourth clause does not ask that no request stands. After three trials without a gain a lane that waits for the answer to its
last request still adapts, and is not ready. -/
theorem not_bringUpSteps : ¬ Obligations.BringUpSteps := by
  unfold Obligations.BringUpSteps
  rintro ⟨-, -, -, hready, -⟩
  obtain ⟨hphase, -⟩ := of_leaves_of_exec_eq_runC (exec_adaptationDone ..) (hready 0 17 0 0 requestingLane adaptationRequests (by decide +kernel)
    (by decide +kernel) rfl (.inl (by decide)) fun _ _ => rfl)
  have hadapts := (adaptationRequests.ctl.advance 0).phase_adaptationDone_of_request (l := 17) 0 0 (by decide +kernel) (by decide +kernel)
    (by decide +kernel)
  exact absurd (hadapts.symm.trans hphase) (by decide)

/-- Refutes O45: its clause on QUIET_CHECK_PERIOD does not ask that the lane is not under recalibration, whose eye figures are stale (19 R540). -/
theorem not_lanesFailReturnAndAreTested : ¬ Obligations.LanesFailReturnAndAreTested := by
  unfold Obligations.LanesFailReturnAndAreTested
  rintro ⟨-, -, -, -, -, -, -, hquiet, -⟩
  obtain ⟨-, -, hfresh, -⟩ := of_leaves_of_exec_eq_runC (exec_quietCheckPeriod ..) (hquiet 0 17 0 0 quietRecalibrates (by decide) (by decide +kernel))
  have hstale := (quietRecalibrates.ctl.advance 0).ea_stale_quietCheck (l := 17) 0 0 (by decide) (by decide +kernel)
  have hcal : (quietRecalibrates.ctl.advance 0).eyeCal 17 = true := by decide +kernel
  rw [hcal] at hstale
  exact absurd (hstale.symm.trans hfresh) (by decide)

end

section
/-! PROOFS. The ports of ring transport (12): what forwarding, the side channel, a snoop point and an event leave, and that nothing that was
sent is taken back. -/
namespace Sys2Proof.Machine

/-! ### A port beside its egress -/

/-- A port without its egress: the FIFO and the side-channel queue (12 R365, R367). -/
def RgPort.offEgress (q : RgPort) : RgPort := { q with fifo := 0, side := [], fifoRem := 0, sideRem := 0, drainAt := 0 }

/-- The part without what an event, a snoop point and the egress of the ports change. -/
def Ctl.offEgress (c : Ctl) : Ctl :=
  { c.kept with cx := { c.cx with passed := [] }, rg := { c.rg with ports := c.rg.ports.map RgPort.offEgress, posted := [] } }

theorem Ctl.offEgress_of_kept {c d : Ctl} (h : d.kept = c.kept) : d.offEgress = c.offEgress := by
  have hkept : ∀ x : Ctl, x.offEgress = x.kept.offEgress := fun _ => rfl
  rw [hkept, h, ← hkept]

/-- What reads nothing of the egress is the same where the rest is. -/
theorem Ctl.of_offEgress {α : Type} {c d : Ctl} (f : Ctl → α) (hf : ∀ x : Ctl, f x.offEgress = f x) (h : d.offEgress = c.offEgress) :
    f d = f c := by
  rw [← hf d, h, hf c]

/-- A port beside its egress, one by one. -/
theorem Ctl.rgPort_of_offEgress {c d : Ctl} (h : d.offEgress = c.offEgress) (p : Nat) :
    (d.rgPort p).offEgress = (c.rgPort p).offEgress := by
  have hread : ∀ x : Ctl, x.offEgress.rgPort p = (x.rgPort p).offEgress := fun x => getD_map_apply RgPort.offEgress x.rg.ports p {}
  rw [← hread, ← hread, h]

theorem Ctl.portUp_of_offEgress {c d : Ctl} (h : d.offEgress = c.offEgress) (p : Nat) : d.portUp p = c.portUp p :=
  (congrArg RgPort.up (Ctl.rgPort_of_offEgress h p) :)

theorem Ctl.ports_length_of_offEgress {c d : Ctl} (h : d.offEgress = c.offEgress) : d.rg.ports.length = c.rg.ports.length :=
  Ctl.of_offEgress (fun x => x.rg.ports.length) (fun _ => List.length_map _) h

theorem Ctl.offEgress_setRgPort (c : Ctl) (p : Nat) (f : RgPort → RgPort) (hf : ∀ q, (f q).offEgress = q.offEgress) :
    (c.setRgPort p f).offEgress = c.offEgress := by
  have hports : (updAt c.rg.ports p f).map RgPort.offEgress = c.rg.ports.map RgPort.offEgress := by
    refine List.ext_getElem (by simp [updAt]) fun i _ _ => ?_
    simp only [updAt, List.getElem_map, List.getElem_modify]
    split <;> simp [hf]
  unfold Ctl.offEgress Ctl.setRgPort Ctl.setRg
  rw [← hports]
  rfl

@[simp] theorem Ctl.offEgress_incEa (c : Ctl) (idx i : Nat) : (c.incEa idx i).offEgress = c.offEgress := rfl
@[simp] theorem Ctl.offEgress_emit (c : Ctl) (x : Emit) : (c.emit x).offEgress = c.offEgress := rfl

@[simp] theorem Ctl.offEgress_post (c : Ctl) (code : Nat) (items : List (Nat × Nat)) : (c.post code items).offEgress = c.offEgress :=
  Ctl.offEgress_of_kept (c.kept_post code items)

@[simp] theorem Ctl.offEgress_ringWarn (c : Ctl) (code p : Nat) (items : List (Nat × Nat)) :
    (c.ringWarn code p items).offEgress = c.offEgress := by
  simp only [Ctl.ringWarn]
  split
  · exact Ctl.offEgress_of_kept (c.kept_eventBit code)
  · exact (Ctl.offEgress_post ..).trans rfl

@[simp] theorem Ctl.offEgress_snoopPass (c : Ctl) (point tag : Nat) (bs : List Byte) : (c.snoopPass point tag bs).offEgress = c.offEgress := by
  unfold Ctl.snoopPass
  split <;> rfl

/-- What a port's egress holds once it has emptied for as long as it could (assumption log 57). -/
def RgPort.emptied (q : RgPort) (fifo fifoRem : Nat) (side : List SideItem) (sideRem at_ : Nat) : RgPort :=
  { q with fifo := fifo, fifoRem := fifoRem, side := side, sideRem := sideRem, drainAt := at_ }

theorem RgPort.offEgress_emptied (q : RgPort) (fifo fifoRem : Nat) (side : List SideItem) (sideRem at_ : Nat) :
    (q.emptied fifo fifoRem side sideRem at_).offEgress = q.offEgress := rfl

/-- Octets that have left the egress FIFO of a port since it was last drained, in parts of an octet. -/
def Ctl.fifoSent (c : Ctl) (p : Nat) : Nat :=
  drained (c.rgPort p).code (c.stripes p true) (8 * contentWords (c.rgPort p).code) (c.up - (c.rgPort p).drainAt) + (c.rgPort p).fifoRem

/-- The same of its side channel. -/
def Ctl.sideSent (c : Ctl) (p : Nat) : Nat :=
  drained (c.rgPort p).code (c.stripes p true) 10 (c.up - (c.rgPort p).drainAt) + (c.rgPort p).sideRem

/-- What is left of the side-channel queue, and the messages whose sending has begun. -/
def Ctl.sideLeft (c : Ctl) (p : Nat) : List SideItem × List SideItem :=
  sideDrain (c.sideSent p / drainUnit (c.rgPort p).code) (c.rgPort p).side

/-- The part with the queues of a port as they are now. -/
def Ctl.drained (c : Ctl) (p : Nat) : Ctl :=
  c.setRgPort p (fun q => q.emptied (q.fifo - c.fifoSent p / drainUnit (c.rgPort p).code)
    (if q.fifo ≤ c.fifoSent p / drainUnit (c.rgPort p).code then 0 else c.fifoSent p % drainUnit (c.rgPort p).code) (c.sideLeft p).1
    (if (c.sideLeft p).1.isEmpty then 0 else c.sideSent p % drainUnit (c.rgPort p).code) c.up)

/-- The queues of a port empty, and the messages that have come to their turn begin. -/
theorem Ctl.drainPort_eq (c : Ctl) (p : Nat) : c.drainPort p = (c.sideLeft p).2.foldl (fun d x => d.sideBegin p x) (c.drained p) := rfl

theorem Ctl.offEgress_drained (c : Ctl) (p : Nat) : (c.drained p).offEgress = c.offEgress :=
  c.offEgress_setRgPort p _ fun q => q.offEgress_emptied ..

@[simp] theorem Ctl.offEgress_drainPort (c : Ctl) (p : Nat) : (c.drainPort p).offEgress = c.offEgress := by
  rw [Ctl.drainPort_eq]
  exact (foldl_keeps Ctl.offEgress _ _ _ fun d _ _ => d.offEgress_emit _).trans (c.offEgress_drained p)

@[simp] theorem Ctl.offEgress_sideQueue (c : Ctl) (p n ty dst : Nat) (m : List Byte) : (c.sideQueue p n ty dst m).offEgress = c.offEgress := by
  have hjoin : ∀ (d : Ctl) (x : SideItem), (d.setRgPort p (fun q => { q with side := sideInsert x q.side })).offEgress = d.offEgress :=
    fun d x => Ctl.offEgress_setRgPort d p _ fun _ => rfl
  simp only [Ctl.sideQueue]
  split
  · rfl
  · split
    · exact Ctl.offEgress_drainPort c p
    · split
      · exact (hjoin _ _).trans (Ctl.offEgress_drainPort c p)
      · exact (hjoin _ _).trans (Ctl.offEgress_drainPort c p)

@[simp] theorem Ctl.offEgress_sideSend (c : Ctl) (p ty dst : Nat) (body : List Byte) : (c.sideSend p ty dst body).offEgress = c.offEgress := by
  unfold Ctl.sideSend
  split
  · exact Ctl.offEgress_sideQueue ..
  · rfl

/-! ### One port by itself -/

/-- The part holds every port that is up. -/
theorem Ctl.lt_of_portUp {c : Ctl} {p : Nat} (h : c.portUp p = true) : p < c.rg.ports.length := by
  by_contra hp
  simp [Ctl.portUp, Ctl.rgPort, List.getD, hp] at h

/-- A reading of the ports that a change leaves. -/
theorem Ctl.rgPort_setRgPort_reads {β : Type} (c : Ctl) (p p' : Nat) (f : RgPort → RgPort) (g : RgPort → β) (hg : ∀ q, g (f q) = g q) :
    g ((c.setRgPort p f).rgPort p') = g (c.rgPort p') := by
  simp only [Ctl.rgPort, Ctl.setRgPort, Ctl.setRg_rg, updAt, List.getD, List.getElem?_modify]
  split <;> cases c.rg.ports[p']? <;> simp [hg]

theorem Ctl.rgPort_setRgPort_ne (c : Ctl) {p p' : Nat} (f : RgPort → RgPort) (hne : p ≠ p') : (c.setRgPort p f).rgPort p' = c.rgPort p' := by
  simp [Ctl.rgPort, Ctl.setRgPort, updAt, List.getD, hne]

/-! ### Entries of the ports' tables -/

theorem postKey_eq_false_of_lt {k : Nat} (h : k < 0x530000) : postKey k = false := by
  simp only [postKey, Bool.or_eq_false_iff, Bool.and_eq_false_iff, decide_eq_false_iff_not]
  omega

theorem Ctl.e_ringWarn (c : Ctl) (code p : Nat) (items : List (Nat × Nat)) {k : Nat} (hk : k < 0x530000) (hc : code < 65536) :
    (c.ringWarn code p items).e k = c.e k := by
  have hbit : (c.eventBit code).e k = c.e k := congrArg EVal.toNum (c.ev_eventBit code k)
  simp only [Ctl.ringWarn]
  split
  · exact hbit
  · exact Ctl.e_post _ _ _ _ (postKey_eq_false_of_lt hk) hc

theorem Ctl.e_snoopPass (c : Ctl) (point tag : Nat) (bs : List Byte) (k : Nat) : (c.snoopPass point tag bs).e k = c.e k := by
  unfold Ctl.snoopPass
  split <;> rfl

/-- Tables of the ports are told apart by their index. -/
theorem ekey_ne_of_ports {a b i j : Nat} (hab : a ≠ b) (hi : i < 2) (hj : j < 2) : ekey a (i + 1) ≠ ekey b (j + 1) := by
  unfold ekey
  omega

/-- A count in one table of the ports leaves the other tables. -/
theorem Ctl.ea_incEa_ne (c : Ctl) {a b i j : Nat} (hab : a ≠ b) (hi : i < 2) (hj : j < 2) : (c.incEa a i).ea b j = c.ea b j :=
  (Ctl.e_setE ..).trans (if_neg (ekey_ne_of_ports hab hi hj))

theorem Ctl.ea_incEa (c : Ctl) (a i : Nat) : (c.incEa a i).ea a i = satAdd (entWidth (ekey a (i + 1))) (c.ea a i) 1 :=
  (Ctl.e_setE ..).trans (if_pos rfl)

/-! ### Nothing that was sent is taken back -/

/-- The part has sent at least what it had sent. -/
def Ctl.SentOn (c d : Ctl) : Prop := c.out <+: d.out

theorem Ctl.SentOn.refl (c : Ctl) : c.SentOn c := List.prefix_rfl
theorem Ctl.SentOn.trans {c d e : Ctl} (h : c.SentOn d) (h' : d.SentOn e) : c.SentOn e := List.IsPrefix.trans h h'
theorem Ctl.SentOn.of_eq {c d : Ctl} (h : d.out = c.out) : c.SentOn d := by rw [Ctl.SentOn, h]
theorem Ctl.SentOn.after {b c d : Ctl} (h : c.SentOn d) (hout : c.out = b.out) : b.SentOn d := (Ctl.SentOn.of_eq hout).trans h
theorem Ctl.sentOn_emit (c : Ctl) (x : Emit) : c.SentOn (c.emit x) := List.prefix_append ..

theorem Ctl.sentOn_foldl {α : Type} (f : Ctl → α → Ctl) (l : List α) (c : Ctl) (h : ∀ (d : Ctl), ∀ a ∈ l, d.SentOn (f d a)) :
    c.SentOn (l.foldl f c) :=
  List.foldlRecOn (motive := fun d => c.SentOn d) l f (Ctl.SentOn.refl c) fun d hd a ha => hd.trans (h d a ha)

theorem Ctl.out_enqueue (c : Ctl) (q : Nat) (r : EvRec) : (c.enqueue q r).out = c.out := by
  unfold Ctl.enqueue
  split
  · rfl
  · split <;> rfl

theorem Ctl.sentOn_raiseIrq (c : Ctl) (b : Nat) : c.SentOn (c.raiseIrq b) := by
  simp only [Ctl.raiseIrq]
  split
  · exact Ctl.SentOn.refl c
  · split
    · exact Ctl.SentOn.refl c
    · exact c.sentOn_emit _

theorem Ctl.out_eventBit (c : Ctl) (code : Nat) : (c.eventBit code).out = c.out := by
  unfold Ctl.eventBit
  split <;> rfl

theorem Ctl.sentOn_tell (c : Ctl) (code : Nat) (r : EvRec) : c.SentOn (c.tell code r) := by
  simp only [Ctl.tell]
  refine Ctl.SentOn.trans ?_ (Ctl.SentOn.of_eq (Ctl.out_eventBit _ _))
  refine Ctl.SentOn.trans ?_ (Ctl.sentOn_raiseIrq _ _)
  exact Ctl.SentOn.of_eq (by rw [Ctl.out_enqueue, Ctl.out_enqueue]; rfl)

theorem Ctl.out_logAdd (c : Ctl) (r : EvRec) (a b w : Nat) (h : Bool) : (c.logAdd r a b w h).out = c.out := by
  unfold Ctl.logAdd Ctl.logCount Ctl.addE
  rw [Ctl.setE_out, Ctl.setE_out, Ctl.setE_out]
  unfold Ctl.logPut
  rfl

theorem Ctl.out_sequence (c : Ctl) (code : Nat) (r : EvRec) : (c.sequence code r).out = c.out := by
  simp only [Ctl.sequence]
  split
  · rfl
  · split
    · exact Ctl.out_logAdd ..
    · rfl

theorem Ctl.sentOn_postOne (c : Ctl) (code : Nat) (items : List (Nat × Nat)) : c.SentOn (c.postOne code items) := by
  simp only [Ctl.postOne]
  exact (c.sentOn_tell code _).trans (Ctl.SentOn.of_eq (Ctl.out_sequence ..))

theorem Ctl.sentOn_postDrops (c : Ctl) (q : Nat) : c.SentOn (c.postDrops q) := by
  simp only [Ctl.postDrops]
  split
  · split
    · exact Ctl.SentOn.refl c
    · exact (Ctl.sentOn_postOne _ _ _).after rfl
  · split
    · exact Ctl.SentOn.refl c
    · exact (Ctl.sentOn_postOne _ _ _).after rfl

theorem Ctl.sentOn_post (c : Ctl) (code : Nat) (items : List (Nat × Nat)) : c.SentOn (c.post code items) := by
  unfold Ctl.post
  exact ((c.sentOn_postOne code items).trans (Ctl.sentOn_postDrops _ _)).trans (Ctl.sentOn_postDrops _ _)

theorem Ctl.sentOn_ringWarn (c : Ctl) (code p : Nat) (items : List (Nat × Nat)) : c.SentOn (c.ringWarn code p items) := by
  simp only [Ctl.ringWarn]
  split
  · exact Ctl.SentOn.of_eq (c.out_eventBit code)
  · exact (Ctl.sentOn_post _ _ _).after rfl

theorem Ctl.sentOn_drainPort (c : Ctl) (p : Nat) : c.SentOn (c.drainPort p) := by
  have hbegin : (c.drained p).SentOn (c.drainPort p) := by
    rw [Ctl.drainPort_eq]
    exact Ctl.sentOn_foldl _ _ _ fun d _ _ => d.sentOn_emit _
  exact hbegin.after rfl

end Sys2Proof.Machine
end

section
/-! PROOFS. A lane that is to be readmitted (12 R370): a request repeated. -/
namespace Sys2Proof.Machine

/-- A MAP_REQ with READMIT adds the lanes that it gives back and that do not wait yet (R370). -/
theorem Ctl.readmit_mapReqMsg (c : Ctl) {p : Nat} (failed id : Nat) (hp : p < 2) (hup : c.portUp p = true) (hcpa : c.cpaUp = true) :
    ((c.mapReqMsg p failed true id).rgPort p).readmit = (c.rgPort p).readmit ++
      ((bitsOf 9 (c.failedSet p true &&& (511 - failed % 512))).filter
        (fun n => !((c.rgPort p).readmit.any (fun r => r.1 = n)))).map (fun n => (n, c.up)) := by
  have hoff := c.offEgress_sideSend p 5 0xFE [byteOf id]
  have hset : (c.sideSend p 5 0xFE [byteOf id]).failedSet p true = c.failedSet p true :=
    congrArg (fun w => bits w 8 0) (c.e_sideSend p 5 0xFE [byteOf id] (k := ekey 0x2111 (p + 1)) (by unfold ekey; omega))
  have hlen : p < (c.sideSend p 5 0xFE [byteOf id]).rg.ports.length := by
    rw [Ctl.ports_length_of_offEgress hoff]
    exact Ctl.lt_of_portUp hup
  have hwaits := congrArg RgPort.readmit (Ctl.rgPort_of_offEgress hoff p)
  have htime : (c.sideSend p 5 0xFE [byteOf id]).up = c.up := (congrArg Ctl.up hoff :)
  simp only [Ctl.mapReqMsg, hup, hcpa, Bool.not_true, Bool.or_self, Bool.false_eq_true, if_false, if_true]
  rw [Ctl.rgPort_setRgPort _ p _ hlen, hset, htime]
  simp only [RgPort.offEgress] at hwaits
  rw [hwaits]

/-- A lane that waits to be readmitted keeps the time of its first request: a request repeated changes nothing (assumption log 56). -/
theorem Ctl.readmit_mapReqMsg_of_waits (c : Ctl) {p n t : Nat} (failed id : Nat) (hp : p < 2) (hup : c.portUp p = true) (hcpa : c.cpaUp = true)
    (hwaits : (c.rgPort p).readmit.any (fun r => r.1 = n) = true) (hmem : (n, t) ∈ ((c.mapReqMsg p failed true id).rgPort p).readmit) :
    (n, t) ∈ (c.rgPort p).readmit := by
  rw [c.readmit_mapReqMsg failed id hp hup hcpa, List.mem_append] at hmem
  refine hmem.resolve_right fun hnew => ?_
  obtain ⟨m, hm, hmn⟩ := List.mem_map.1 hnew
  obtain rfl : m = n := congrArg Prod.fst hmn
  have hfresh := (List.mem_filter.1 hm).2
  rw [hwaits] at hfresh
  exact absurd hfresh (by decide)

/-- The part after reset with port 1 up, lanes 0, 1 and 8 in FAILED_SET of TX_MAP, and the readmission of lane 8 asked for at uptime 0. -/
def readmitAsked : State :=
  let c := (State.reset.ctl.setRgPort 1 (fun q => { q with up := true, readmit := [(8, 0)] })).setEa 0x2111 1 0x103
  { State.reset with ctl := c }

theorem exec_mapReq (dt port failed : Nat) (readmit : Bool) (id : Nat) (s : State) :
    exec (.mapReq dt port failed readmit id) s = runC (fun c => (c.advance dt).mapReqMsg port failed readmit id) s := rfl

end Sys2Proof.Machine

open Sys2Proof Sys2Proof.Machine

/-- Refutes O48: its clause on READMIT does not ask that the lane does not wait yet. A partner whose MAP_ACK was lost repeats its MAP_REQ 10 µs
later (R367), and the lane keeps the time of the first (assumption log 56). -/
theorem not_mapsAndSideChannelMessages : ¬ Obligations.MapsAndSideChannelMessages := by
  unfold Obligations.MapsAndSideChannelMessages
  rintro ⟨-, -, hreadmit, -⟩
  obtain ⟨hmem, -⟩ := of_leaves_of_exec_eq_runC (exec_mapReq ..) (hreadmit (tUs 10) 1 3 7 8 readmitAsked (by decide) (by decide) (by decide)
    (by decide) (by decide))
  have hfirst := (readmitAsked.ctl.advance (tUs 10)).readmit_mapReqMsg_of_waits (p := 1) 3 7 (by decide) (by decide) (by decide) (by decide) hmem
  exact absurd hfirst (by decide)

end

section
/-! PROOFS. Ring slices (12 R360 to R365): what forwarding leaves, the slice that goes on, and the units that reach decode. -/
namespace Sys2Proof.Machine

/-! ### Forwarding (R364, R365) -/

/-- Forwarding leaves the part beside its egress. -/
theorem Ctl.offEgress_sliceForward (c : Ctl) (port : Nat) (x : RingSlice) : (c.sliceForward port x).offEgress = c.offEgress := by
  unfold Ctl.sliceForward
  extract_lets out d fifo keep through room
  have hdrained : d.offEgress = c.offEgress := c.offEgress_drainPort out
  have hqueued : ∀ (e : Ctl) (n : RgPort → Nat), (e.setRgPort out (fun q => { q with fifo := n q })).offEgress = e.offEgress :=
    fun e n => e.offEgress_setRgPort out _ fun _ => rfl
  split
  · rfl
  · split
    · rw [Ctl.offEgress_emit, Ctl.offEgress_incEa, hqueued, Ctl.offEgress_snoopPass, hdrained]
    · split
      · exact hdrained
      · split
        · exact (Ctl.offEgress_ringWarn ..).trans hdrained
        · exact hdrained

theorem Ctl.ea_drainPort (c : Ctl) (p idx i : Nat) : (c.drainPort p).ea idx i = c.ea idx i := Ctl.ea_congr (c.drainPort_ent p) idx i

/-- Forwarding counts in SLICES_FORWARDED, CUT_THROUGH_DROPS and KEEP_DROPS only. -/
theorem Ctl.ea_sliceForward (c : Ctl) {port idx i : Nat} (x : RingSlice) (hidx : idx < 0x2115 ∨ idx = 0x2116) (hi : i < 2) :
    (c.sliceForward port x).ea idx i = c.ea idx i := by
  have hcount : ∀ (d : Ctl) {a : Nat}, a ≠ idx → (d.incEa a (1 - port)).ea idx i = d.ea idx i := fun d a ha => d.ea_incEa_ne ha (by omega) hi
  have hwarn : ∀ (d : Ctl) (items : List (Nat × Nat)), (d.ringWarn 0x1144 (1 - port) items).ea idx i = d.ea idx i :=
    fun d items => d.e_ringWarn _ _ _ (by unfold ekey; omega) (by decide)
  have hemit : ∀ (d : Ctl) (e : Emit), (d.emit e).ea idx i = d.ea idx i := fun _ _ => rfl
  have hport : ∀ (d : Ctl) (f : RgPort → RgPort), (d.setRgPort (1 - port) f).ea idx i = d.ea idx i := fun _ _ => rfl
  have hsnoop : ∀ (d : Ctl) (n m : Nat) (bs : List Byte), (d.snoopPass n m bs).ea idx i = d.ea idx i := fun d n m bs => d.e_snoopPass n m bs _
  have hdrain := c.ea_drainPort (1 - port) idx i
  unfold Ctl.sliceForward
  extract_lets out d fifo keep through room
  split
  · rfl
  · split
    · rw [hemit, hcount _ (by omega), hport, hsnoop, hdrain]
    · split
      · rw [hcount _ (by omega), hdrain]
      · split
        · rw [hwarn, hcount _ (by omega), hdrain]
        · exact hdrain

/-- Octets in the egress FIFO of a port now. -/
def Ctl.fifoNow (c : Ctl) (p : Nat) : Nat := (c.rgPort p).fifo - c.fifoSent p / drainUnit (c.rgPort p).code

theorem Ctl.rg_drainPort (c : Ctl) (p : Nat) : (c.drainPort p).rg = (c.drained p).rg := by
  rw [Ctl.drainPort_eq]
  exact foldl_keeps Ctl.rg _ _ _ fun _ _ _ => rfl

theorem Ctl.fifo_drainPort (c : Ctl) {p : Nat} (hp : p < c.rg.ports.length) : ((c.drainPort p).rgPort p).fifo = c.fifoNow p := by
  have hport : (c.drainPort p).rgPort p = (c.drained p).rgPort p := by unfold Ctl.rgPort; rw [Ctl.rg_drainPort]
  rw [hport, Ctl.drained, Ctl.rgPort_setRgPort c p _ hp]
  rfl

theorem Ctl.stripes_congr {c d : Ctl} (h : d.ent = c.ent) (p : Nat) (tx : Bool) : d.stripes p tx = c.stripes p tx := by
  unfold Ctl.stripes
  rw [Ctl.ea_congr h]

/-- The rates of the ports are those of their codes and stripes. -/
theorem Ctl.fastEnough_congr {c d : Ctl} (hcode : ∀ q, (d.rgPort q).code = (c.rgPort q).code) (hent : d.ent = c.ent) (out inp : Nat) :
    d.fastEnough out inp = c.fastEnough out inp := by
  have hstripes := Ctl.stripes_congr hent
  simp only [Ctl.fastEnough, hcode, hstripes]

theorem Ctl.fifoNow_congr {c d : Ctl} {p : Nat} (hport : d.rgPort p = c.rgPort p) (hent : d.ent = c.ent) (hup : d.up = c.up) :
    d.fifoNow p = c.fifoNow p := by
  have hstripes := Ctl.stripes_congr hent
  simp only [Ctl.fifoNow, Ctl.fifoSent, hport, hup, hstripes]

/-- A slice of another kind than DEXSIA's that is forwarded where there is room: it counts, and goes out of the other port. -/
theorem Ctl.sliceForward_of_room (c : Ctl) {port : Nat} (x : RingSlice) (hlen : x.badLength = false) (hup : c.portUp (1 - port) = true)
    (hmask : x.mask &&& c.downMask (decide (1 - port = 0)) ≠ 0) (hkind : x.kind ≠ 1)
    (hroom : c.fifoNow (1 - port) + x.length + 40 ≤ 65536 ∨ c.fifoNow (1 - port) = 0 ∧ c.fastEnough (1 - port) port = true) :
    (c.sliceForward port x).ea 0x2115 (1 - port) = satAdd (entWidth (ekey 0x2115 (1 - port + 1))) (c.ea 0x2115 (1 - port)) 1 ∧
      ({ kind := .ringSlice, a := 1 - port, bytes := x.octets } : Emit) ∈ (c.sliceForward port x).out := by
  have hfifo := c.fifo_drainPort (Ctl.lt_of_portUp hup)
  have hoff := c.offEgress_drainPort (1 - port)
  have hfast : (c.drainPort (1 - port)).fastEnough (1 - port) port = c.fastEnough (1 - port) port :=
    Ctl.fastEnough_congr (fun q => (congrArg RgPort.code (Ctl.rgPort_of_offEgress hoff q) :)) (c.drainPort_ent (1 - port)) _ _
  have hdrain := c.ea_drainPort (1 - port) 0x2115 (1 - port)
  have hgoes : ¬ (x.badLength || !c.portUp (1 - port) || decide (x.mask &&& c.downMask (decide (1 - port = 0)) = 0)) = true := by
    simp [hlen, hup, hmask]
  unfold Ctl.sliceForward
  extract_lets out d fifo keep through room
  have hadmit : (keep && room) = true := by
    simp only [keep, room, through, fifo, d, out, hfifo, hfast]
    simpa [hkind] using hroom
  rw [if_neg hgoes, if_pos hadmit]
  refine ⟨?_, List.mem_append_right _ List.mem_cons_self⟩
  refine (Ctl.ea_incEa _ 0x2115 out).trans ?_
  have hbefore : ∀ f : RgPort → RgPort, ((d.snoopPass (2 + out) 0 x.covered).setRgPort out f).ea 0x2115 out = c.ea 0x2115 out :=
    fun f => (d.e_snoopPass (2 + out) 0 x.covered _).trans hdrain
  rw [hbefore]

/-! ### The units of a slice (R361) -/

/-- One unit reaches the decode input; one whose own mask lacks this tile is counted. -/
def Ctl.unitTaken (port : Nat) (c : Ctl) (u : List Byte) : Ctl :=
  let raw := unitRaw u
  let c := if decide (raw.length ≥ 18) && !bit (unitMask raw) c.tileIndex
    then (c.incEa 0x2116 port).ringWarn 0x1147 port [i16 (unitStream raw)] else c
  c.setDc (fun d => { d with arriving := d.arriving ++ [u] })

theorem Ctl.sliceUnits_eq (c : Ctl) (port : Nat) (x : RingSlice) :
    c.sliceUnits port x = (splitUnits (x.payload.take x.length)).foldl (Ctl.unitTaken port) c := rfl

theorem Ctl.arriving_unitTaken (c : Ctl) (port : Nat) (u : List Byte) : (c.unitTaken port u).dc.arriving = c.dc.arriving ++ [u] := by
  unfold Ctl.unitTaken
  extract_lets raw d
  have hd : d.dc = c.dc := by
    unfold d
    split
    · exact (congrArg Ctl.dc (Ctl.offEgress_ringWarn ..) :)
    · rfl
  rw [Ctl.setDc_dc, hd]

/-- The units arrive in their order. -/
theorem Ctl.arriving_foldl_unitTaken (port : Nat) (us : List (List Byte)) (c : Ctl) :
    (us.foldl (Ctl.unitTaken port) c).dc.arriving = c.dc.arriving ++ us := by
  induction us generalizing c with
  | nil => exact (List.append_nil _).symm
  | cons u us ih => rw [List.foldl_cons, ih, Ctl.arriving_unitTaken, List.append_assoc, List.singleton_append]

theorem Ctl.ea_unitTaken (c : Ctl) {port : Nat} (u : List Byte) (hp : port < 2) : (c.unitTaken port u).ea 0x2114 port = c.ea 0x2114 port := by
  have hset : ∀ (d : Ctl) (f : DcState → DcState), (d.setDc f).ea 0x2114 port = d.ea 0x2114 port := fun _ _ => rfl
  unfold Ctl.unitTaken
  extract_lets raw d
  rw [hset]
  unfold d
  split
  · exact (Ctl.e_ringWarn _ _ _ _ (by unfold ekey; omega) (by decide)).trans (c.ea_incEa_ne (by decide) hp hp)
  · rfl

/-! ### A slice that is found (R362, R364) -/

/-- The port looks for the next FIRST, or not (R362). -/
def RgPort.seeking (seek : Bool) (q : RgPort) : RgPort := { q with seek := seek }

/-- The part once a slice has passed the snoop point and gone on, and the receiver looks for the next FIRST if its LENGTH is bad. -/
def Ctl.slicePassed (c : Ctl) (port : Nat) (mine : Bool) (x : RingSlice) : Ctl :=
  ((c.snoopPass port (b2n mine) x.covered).setRgPort port (RgPort.seeking x.badLength)).sliceForward port x

/-- A slice is for this tile and of a kind that it takes. -/
def Ctl.sliceMine (c : Ctl) (x : RingSlice) : Bool := decide (c.tileIndex < 128) && bit x.mask c.tileIndex && decide (x.kind ≤ 2)

theorem Ctl.ringSlice_eq (c : Ctl) {port back : Nat} (x : RingSlice) (bad : List Nat) (hup : c.portUp port = true)
    (hseek : (c.rgPort port).seek = false) :
    c.ringSlice port x back bad =
      let d := c.slicePassed port (c.sliceMine x) x
      let d := if x.reason (c.sliceBad port back x) = 0 then d.incEa 0x2114 port else d
      if !c.sliceMine x then d
      else if x.reason (c.sliceBad port back x) ≠ 0 then
        (d.incEa 0x2116 port).ringWarn 0x1145 port [i8 port, i8 (x.reason (c.sliceBad port back x))]
      else if x.kind = 1 then d.sliceUnits port x
      else Ctl.ctSlice bad d (bits x.h3 31 0) (bit x.h0 55) (x.payload.take x.length) := by
  have hfound : ¬ (!c.portUp port || (c.rgPort port).seek) = true := by simp [hup, hseek]
  exact if_neg hfound

/-- While the port is down, and while the next FIRST is sought, no slice is found. -/
theorem Ctl.ringSlice_not_found (c : Ctl) (port back : Nat) (x : RingSlice) (bad : List Nat)
    (h : c.portUp port = false ∨ (c.rgPort port).seek = true) : c.ringSlice port x back bad = c := by
  refine if_pos ?_
  obtain h | h := h <;> simp [h]

/-- A slice that passes leaves decode, panel drive and the counts of its own port but SLICES_FORWARDED and the drops; SEEK follows its LENGTH. -/
theorem Ctl.slicePassed_keeps (c : Ctl) {port : Nat} (mine : Bool) (x : RingSlice) (hp : port < 2) (hup : c.portUp port = true) :
    (c.slicePassed port mine x).dc = c.dc ∧ (c.slicePassed port mine x).pd = c.pd ∧
      (c.slicePassed port mine x).ea 0x2114 port = c.ea 0x2114 port ∧ (c.slicePassed port mine x).ea 0x2116 port = c.ea 0x2116 port ∧
      ((c.slicePassed port mine x).rgPort port).seek = x.badLength := by
  have hsnoop := c.offEgress_snoopPass port (b2n mine) x.covered
  have hent := c.e_snoopPass port (b2n mine) x.covered
  generalize hd : c.snoopPass port (b2n mine) x.covered = d at hsnoop hent
  have hoff := (d.setRgPort port (RgPort.seeking x.badLength)).offEgress_sliceForward port x
  have hpd : port < d.rg.ports.length := by rw [Ctl.ports_length_of_offEgress hsnoop]; exact Ctl.lt_of_portUp hup
  have hseek := congrArg RgPort.seek (Ctl.rgPort_of_offEgress hoff port)
  rw [Ctl.rgPort_setRgPort d port _ hpd] at hseek
  have hea : ∀ {idx : Nat}, idx < 0x2115 ∨ idx = 0x2116 → (c.slicePassed port mine x).ea idx port = c.ea idx port := by
    intro idx hidx
    rw [Ctl.slicePassed, hd, Ctl.ea_sliceForward _ x hidx hp]
    exact hent _
  refine ⟨?_, ?_, hea (by decide), hea (by decide), ?_⟩
  · rw [Ctl.slicePassed, hd]
    exact ((congrArg Ctl.dc hoff :).trans (congrArg Ctl.dc hsnoop :) :)
  · rw [Ctl.slicePassed, hd]
    exact ((congrArg Ctl.pd hoff :).trans (congrArg Ctl.pd hsnoop :) :)
  · rw [Ctl.slicePassed, hd]
    exact hseek

/-- A snoop point keeps an item or does not, and nothing else changes (15 R438). -/
theorem Ctl.snoopPass_passed (c : Ctl) (point tag : Nat) (bs : List Byte) :
    ∃ l, c.snoopPass point tag bs = { c with cx := { c.cx with passed := l } } := by
  unfold Ctl.snoopPass
  split
  · exact ⟨_, rfl⟩
  · exact ⟨_, rfl⟩

/-- A slice that passes and that the other side needs goes on where there is room. -/
theorem Ctl.slicePassed_goes_on (c : Ctl) {port : Nat} (mine : Bool) (x : RingSlice) (hp : port < 2) (hlen : x.badLength = false)
    (hup : c.portUp (1 - port) = true) (hmask : x.mask &&& c.downMask (decide (1 - port = 0)) ≠ 0) (hkind : x.kind ≠ 1)
    (hroom : c.fifoNow (1 - port) + x.length + 40 ≤ 65536 ∨ c.fifoNow (1 - port) = 0 ∧ c.fastEnough (1 - port) port = true) :
    (c.slicePassed port mine x).ea 0x2115 (1 - port) = satAdd (entWidth (ekey 0x2115 (1 - port + 1))) (c.ea 0x2115 (1 - port)) 1 ∧
      ({ kind := .ringSlice, a := 1 - port, bytes := x.octets } : Emit) ∈ (c.slicePassed port mine x).out := by
  obtain ⟨l, hl⟩ := c.snoopPass_passed port (b2n mine) x.covered
  unfold Ctl.slicePassed
  rw [hl]
  generalize hd : ({ c with cx := { c.cx with passed := l } } : Ctl) = d
  have hent : d.ent = c.ent := by rw [← hd]
  have hrg : ∀ q, d.rgPort q = c.rgPort q := fun q => by rw [← hd]; rfl
  have hother : (d.setRgPort port (RgPort.seeking x.badLength)).rgPort (1 - port) = c.rgPort (1 - port) := by
    rw [d.rgPort_setRgPort_ne _ (by omega), hrg]
  have hcode : ∀ q, ((d.setRgPort port (RgPort.seeking x.badLength)).rgPort q).code = (c.rgPort q).code := fun q => by
    rw [d.rgPort_setRgPort_reads port q (RgPort.seeking x.badLength) RgPort.code fun _ => rfl, hrg]
  have hfifo := Ctl.fifoNow_congr hother hent (by rw [← hd]; rfl)
  have hfast := Ctl.fastEnough_congr hcode hent (1 - port) port
  have hgoes := (d.setRgPort port (RgPort.seeking x.badLength)).sliceForward_of_room (port := port) x hlen
    (by rw [Ctl.portUp, hother]; exact hup) (by rw [← hd]; exact hmask) hkind (by rw [hfifo, hfast]; exact hroom)
  obtain ⟨hcount, hsent⟩ := hgoes
  exact ⟨hcount.trans (by rw [← hd]; rfl), hsent⟩

end Sys2Proof.Machine
end

section
/-! PROOFS. Lane sparing (12 R368 to R370): the orders and requests of a port, and a change of its transmit map. -/
namespace Sys2Proof.Machine

/-! ### Requests to the partner -/

/-- A request waits for its answer until MAP_ACK names it, and the message that carries it leaves what waits (R367). -/
theorem Ctl.rgPort_sendMapReq (c : Ctl) {p : Nat} (failed : Nat) (readmit : Bool) (hp : p < c.rg.ports.length) :
    ((c.sendMapReq p failed readmit).rgPort p).reqs = (c.rgPort p).reqs ++ [⟨(c.rgPort p).nextReq, failed, readmit, c.up⟩] ∧
      ((c.sendMapReq p failed readmit).rgPort p).change = (c.rgPort p).change := by
  unfold Ctl.sendMapReq
  extract_lets id d
  have hd : d.rgPort p = _ := c.rgPort_setRgPort p _ hp
  have hport := Ctl.rgPort_of_offEgress (d.offEgress_sideSend p 4 0xFE (toLE 2 failed ++ [byteOf (b2n readmit), byteOf id])) p
  rw [hd] at hport
  exact ⟨(congrArg RgPort.reqs hport :), (congrArg RgPort.change hport :)⟩

/-- What is off the side channel is as it was. -/
theorem Ctl.offSide_sendMapReq (c : Ctl) (p failed : Nat) (readmit : Bool) : (c.sendMapReq p failed readmit).offSide = c.offSide := by
  unfold Ctl.sendMapReq
  extract_lets id d
  exact (d.offSide_sideSend ..).trans (c.offSide_setRgPort p _ fun _ => rfl)

/-- A change that is asked for takes the lanes to those that wait, and the requests to the partner stand (R369). -/
theorem Ctl.rgPort_askChange (c : Ctl) {p : Nat} (add : Nat) (hp : p < c.rg.ports.length) :
    ((c.askChange p add).rgPort p).change.map MapChange.failed =
        some ((((c.rgPort p).change.map MapChange.failed).getD (c.failedSet p true)) ||| add) ∧
      ((c.askChange p add).rgPort p).reqs = (c.rgPort p).reqs ∧ ((c.askChange p add).rgPort p).nextReq = (c.rgPort p).nextReq := by
  unfold Ctl.askChange
  rw [c.rgPort_setRgPort p _ hp]
  exact ⟨rfl, rfl, rfl⟩

/-! ### What leaves the maps in force -/

/-- The entries of RX_MAP and TX_MAP (R376). -/
def mapKey (k : Nat) : Prop := 0x211000 ≤ k ∧ k < 0x211200

/-- Between `c` and `d` the ports beside their egress and the maps in force stand, and nothing that was sent is taken back. -/
structure Ctl.MapsStand (c d : Ctl) : Prop where
  offEgress : d.offEgress = c.offEgress
  e : ∀ k, mapKey k → d.e k = c.e k
  sentOn : c.SentOn d

theorem Ctl.MapsStand.refl (c : Ctl) : c.MapsStand c := ⟨rfl, fun _ _ => rfl, Ctl.SentOn.refl c⟩

theorem Ctl.MapsStand.trans {c d e : Ctl} (h : c.MapsStand d) (h' : d.MapsStand e) : c.MapsStand e :=
  ⟨h'.offEgress.trans h.offEgress, fun k hk => (h'.e k hk).trans (h.e k hk), h.sentOn.trans h'.sentOn⟩

theorem Ctl.mapsStand_foldl {α : Type} (f : Ctl → α → Ctl) (l : List α) (c : Ctl) (h : ∀ (d : Ctl), ∀ a ∈ l, d.MapsStand (f d a)) :
    c.MapsStand (l.foldl f c) :=
  List.foldlRecOn (motive := fun d => c.MapsStand d) l f (Ctl.MapsStand.refl c) fun d hd a ha => hd.trans (h d a ha)

theorem Ctl.mapsStand_post (c : Ctl) (code : Nat) (items : List (Nat × Nat)) (hc : code < 65536) : c.MapsStand (c.post code items) :=
  ⟨c.offEgress_post .., fun k ⟨_, hhi⟩ => c.e_post _ _ k (postKey_eq_false_of_lt (by omega)) hc, c.sentOn_post ..⟩

theorem Ctl.mapsStand_ringWarn (c : Ctl) (code p : Nat) (items : List (Nat × Nat)) (hc : code < 65536) :
    c.MapsStand (c.ringWarn code p items) :=
  ⟨c.offEgress_ringWarn .., fun _ ⟨_, hhi⟩ => c.e_ringWarn _ _ _ (by omega) hc, c.sentOn_ringWarn ..⟩

theorem Ctl.mapsStand_setE (c : Ctl) (k n : Nat) (hk : ¬ mapKey k) : c.MapsStand (c.setE k n) :=
  ⟨rfl, fun k' hk' => by
    rw [Ctl.e_setE, if_neg]
    rintro rfl
    exact hk hk', Ctl.SentOn.of_eq rfl⟩

/-- The tables of the ports beside RX_MAP and TX_MAP. -/
theorem Ctl.mapsStand_setEa (c : Ctl) (idx p n : Nat) (hp : p < 2) (hidx : 0x2112 ≤ idx) : c.MapsStand (c.setEa idx p n) :=
  c.mapsStand_setE _ n (by unfold mapKey ekey; omega)

theorem Ctl.mapsStand_drainPort (c : Ctl) (p : Nat) : c.MapsStand (c.drainPort p) :=
  ⟨c.offEgress_drainPort p, fun k _ => Ctl.e_congr (c.drainPort_ent p) k, c.sentOn_drainPort p⟩

/-- A spare that wakes changes its LANE_POWER only. -/
theorem Ctl.mapsStand_wakeSpare (c : Ctl) {p : Nat} (taken : List Nat) (hp : p < 2) (htaken : ∀ n ∈ taken, n < 256) :
    c.MapsStand (c.wakeSpare p taken) :=
  Ctl.mapsStand_foldl _ _ _ fun d n hn => by
    have hn256 := htaken n hn
    split
    · exact d.mapsStand_setE _ 0 (by unfold mapKey ekey; omega)
    · exact Ctl.MapsStand.refl d

theorem Ctl.mapsStand_refreshKeep (c : Ctl) : c.MapsStand c.refreshKeep := by
  unfold Ctl.refreshKeep
  extract_lets shown was k set warned
  have hshown : c.MapsStand shown := Ctl.mapsStand_foldl _ _ _ fun d p hp => by
    have hp2 := List.mem_range.1 hp
    exact (d.mapsStand_setEa 0x2112 p _ hp2 (by decide)).trans (Ctl.mapsStand_setEa _ 0x2113 p _ hp2 (by decide))
  have hset : c.MapsStand set := hshown.trans (shown.mapsStand_setE _ k (by unfold mapKey; omega))
  have hwarned : c.MapsStand warned := by
    unfold warned
    split
    · exact hset.trans (set.mapsStand_ringWarn _ _ _ (by decide))
    · exact hset
  split
  · exact hwarned.trans (warned.mapsStand_post _ _ (by decide))
  · exact hwarned

theorem Ctl.mapsStand_linkReduced (c : Ctl) (p was : Nat) : c.MapsStand (c.linkReduced p was) := by
  unfold Ctl.linkReduced
  extract_lets a
  split
  · exact c.mapsStand_post _ _ (by decide)
  · exact Ctl.MapsStand.refl c

/-- Once the map is set, its count and its events leave it. -/
theorem Ctl.mapsStand_switchMap (c : Ctl) {p : Nat} (tx : Bool) (failed base : Nat) (hp : p < 2) :
    (c.setMap p tx failed base).MapsStand (c.switchMap p tx failed base) := by
  unfold Ctl.switchMap
  extract_lets back counted switched
  have hcounted : (c.setMap p tx failed base).MapsStand counted := Ctl.mapsStand_setEa _ 0x211B p _ hp (by decide)
  exact (hcounted.trans (counted.mapsStand_post _ _ (by decide))).trans
    (Ctl.mapsStand_foldl _ _ _ fun d n _ => d.mapsStand_post _ _ (by decide))

/-! ### A transmit map that changes (R369) -/

/-- The word of a map holds its stripe count, BASE and FAILED_SET (R377). -/
theorem bits_mapWord (lock : Bool) {a base failed : Nat} (ha : a < 16) (hbase : base < 16) (hfailed : failed < 512) :
    bits (mapWord lock a base failed) 8 0 = failed ∧ bits (mapWord lock a base failed) 15 12 = base ∧
      bits (mapWord lock a base failed) 19 16 = a := by
  unfold mapWord bits b2n
  simp only [Nat.shiftRight_eq_div_pow]
  split <;> omega

/-- The stripes of a map are those of the image. -/
theorem Ctl.stripeLanes_of_offEgress {c d : Ctl} (h : d.offEgress = c.offEgress) (p : Nat) (tx : Bool) (failed base : Nat) :
    d.stripeLanes p tx failed base = c.stripeLanes p tx failed base :=
  Ctl.of_offEgress (fun x => x.stripeLanes p tx failed base) (fun _ => rfl) h

/-- A port that is up sends on the stripes of its new transmit map; its receive map stands. -/
theorem Ctl.setMap_tx (c : Ctl) {p : Nat} (failed base : Nat) (hp : p < 2) (hup : c.portUp p = true) :
    (c.setMap p true failed base).offEgress = c.offEgress ∧ c.SentOn (c.setMap p true failed base) ∧
      (c.setMap p true failed base).ea 0x2111 p = mapWord true (c.stripeLanes p true failed base).length base failed ∧
      (c.setMap p true failed base).ea 0x2110 p = c.ea 0x2110 p := by
  have hdrain := c.mapsStand_drainPort p
  have hup' : (c.drainPort p).portUp p = true := by
    rw [Ctl.portUp_of_offEgress hdrain.offEgress, hup]
  have hset : c.setMap p true failed base =
      (c.drainPort p).setEa 0x2111 p (mapWord true (c.stripeLanes p true failed base).length base failed) := by
    unfold Ctl.setMap
    simp only [if_true, hup', Ctl.stripeLanes_of_offEgress hdrain.offEgress]
    rfl
  rw [hset]
  refine ⟨hdrain.offEgress, hdrain.sentOn.trans (.of_eq rfl), (Ctl.e_setE ..).trans (if_pos rfl), ?_⟩
  exact ((Ctl.e_setE ..).trans (if_neg (ekey_ne_of_ports (by decide) hp hp))).trans (hdrain.e _ (by unfold mapKey ekey; omega))

/-- What a port sends ahead of a new transmit map: MAP_CD 3, 2 and 1 (R369). -/
def Ctl.mapCdSent (c : Ctl) (p failed : Nat) : Emit :=
  { kind := .mapCd, a := p, b := failed, c := c.chooseBase p failed
    wire := [3, 2, 1].flatMap (fun cd => frameFields (c.ea 0x2113 p) cd (c.rgPort p).code failed (c.chooseBase p failed)) }

/-- The transmit map changes behind its MAP_CD frames; beside the egress the port stands. -/
theorem Ctl.switchTx_switches (c : Ctl) {p : Nat} (failed : Nat) (hp : p < 2) (hup : c.portUp p = true) :
    (c.switchTx p failed).offEgress = c.offEgress ∧ (c.emit (c.mapCdSent p failed)).SentOn (c.switchTx p failed) ∧
      (c.switchTx p failed).ea 0x2111 p =
        mapWord true (c.stripeLanes p true failed (c.chooseBase p failed)).length (c.chooseBase p failed) failed ∧
      (c.switchTx p failed).ea 0x2110 p = c.ea 0x2110 p := by
  unfold Ctl.switchTx
  extract_lets base was sent awake
  have hawake : sent.MapsStand awake := sent.mapsStand_wakeSpare _ hp (sent.stripeLanes_lt p true failed base)
  have hstripes := Ctl.stripeLanes_of_offEgress hawake.offEgress p true failed base
  have hup' : awake.portUp p = true := by
    rw [Ctl.portUp_of_offEgress hawake.offEgress]
    exact hup
  obtain ⟨hoff, hsent, htx, hrx⟩ := awake.setMap_tx failed base hp hup'
  have hafter := ((awake.mapsStand_switchMap true failed base hp).trans (Ctl.mapsStand_refreshKeep _)).trans (Ctl.mapsStand_linkReduced _ p was)
  refine ⟨(hafter.offEgress.trans hoff).trans hawake.offEgress, (hawake.sentOn.trans hsent).trans hafter.sentOn, ?_, ?_⟩
  · rw [Ctl.ea, hafter.e _ (by unfold mapKey ekey; omega), ← Ctl.ea, htx, hstripes]
    rfl
  · rw [Ctl.ea, hafter.e _ (by unfold mapKey ekey; omega), ← Ctl.ea, hrx]
    exact hawake.e _ (by unfold mapKey ekey; omega)

/-! ### MAP_CHANGE_SEND (R369) -/

/-- The base that the transmitter chooses follows the entries, the image and the partner's maps. -/
theorem Ctl.chooseBase_congr {c d : Ctl} {p : Nat} (hent : d.ent = c.ent) (hxz : d.xz = c.xz)
    (hmaps : (d.rgPort p).partnerMaps = (c.rgPort p).partnerMaps) (want : Nat) : d.chooseBase p want = c.chooseBase p want := by
  have hall : d.maps = c.maps := by
    unfold Ctl.maps Ctl.hasImage Ctl.img
    rw [hxz]
  have hnormal : d.normal p true = c.normal p true := by
    unfold Ctl.normal
    rw [hall]
  have hboth : d.bothMask p true = c.bothMask p true := by
    unfold Ctl.bothMask Ctl.mapsMask
    rw [hall, hmaps]
  have hlane : ∀ l, d.laneSt l = c.laneSt l := Ctl.ea_congr hent 0x2010
  have hbase : d.mapBase p true = c.mapBase p true := congrArg (fun w => bits w 15 12) (Ctl.ea_congr hent 0x2111 p)
  simp only [Ctl.chooseBase, hnormal, hboth, hlane, hbase]

/-- No change of a port's transmit map waits any more. -/
def RgPort.unasked (q : RgPort) : RgPort := { q with change := none }

/-- The octets of a slice that are cut off leave the egress FIFO. -/
def RgPort.cut (left : Nat) (q : RgPort) : RgPort := { q with fifo := q.fifo - left }

/-- The port takes up the change that waits; what is left of a slice in progress is cut off, TRUNCATED. -/
def Ctl.changeTaken (c : Ctl) (p left : Nat) : Ctl :=
  let c := c.setRgPort p RgPort.unasked
  if left = 0 then c else (c.setRgPort p (RgPort.cut left)).emit { kind := .ringSlice, a := p, b := 1, c := left }

theorem Ctl.mapChangeSend_waits (c : Ctl) {p left : Nat} {ch : MapChange} (hch : (c.rgPort p).change = some ch) (hleft : left ≠ 0)
    (hwait : c.up < ch.askedAt + tUs 180) : c.mapChangeSend p left = c := by
  unfold Ctl.mapChangeSend
  rw [hch]
  exact if_pos (by simp [hleft, hwait])

theorem Ctl.mapChangeSend_due (c : Ctl) {p left : Nat} {ch : MapChange} (hch : (c.rgPort p).change = some ch) (hup : c.portUp p = true)
    (hdue : left = 0 ∨ ch.askedAt + tUs 180 ≤ c.up) (hnew : ch.failed ≠ (c.changeTaken p left).failedSet p true) :
    c.mapChangeSend p left = ((c.changeTaken p left).switchTx p ch.failed).checkStripes p := by
  have hgoes : ¬ (!c.portUp p || (decide (left ≠ 0) && decide (c.up < ch.askedAt + tUs 180))) = true := by
    simp only [hup, Bool.not_true, Bool.false_or, Bool.and_eq_true, decide_eq_true_eq]
    omega
  unfold Ctl.mapChangeSend
  rw [hch]
  refine (if_neg hgoes).trans (if_neg ?_)
  intro hsame
  exact hnew (of_decide_eq_true (Bool.and_eq_true_iff.1 hsame).1)

theorem Ctl.changeTaken_keeps (c : Ctl) {p : Nat} (left : Nat) (hp : p < c.rg.ports.length) :
    (c.changeTaken p left).ent = c.ent ∧ (c.changeTaken p left).xz = c.xz ∧ (c.changeTaken p left).ln = c.ln ∧
      ((c.changeTaken p left).rgPort p).offEgress = (c.rgPort p).offEgress.unasked ∧
      (left ≠ 0 → ({ kind := .ringSlice, a := p, b := 1, c := left } : Emit) ∈ (c.changeTaken p left).out) := by
  unfold Ctl.changeTaken
  extract_lets d
  have hd : (d.rgPort p).offEgress = (c.rgPort p).offEgress.unasked := by
    rw [show d.rgPort p = _ from c.rgPort_setRgPort p _ hp]
    rfl
  by_cases hleft : left = 0
  · rw [if_pos hleft]
    exact ⟨rfl, rfl, rfl, hd, fun h => absurd hleft h⟩
  · rw [if_neg hleft]
    refine ⟨rfl, rfl, rfl, ?_, fun _ => List.mem_append_right _ List.mem_cons_self⟩
    exact (d.rgPort_setRgPort_reads p p (RgPort.cut left) RgPort.offEgress fun _ => rfl).trans hd

/-- A port with as many stripes as PORT_MIN_LANES asks for in both directions stays up (R368). -/
theorem Ctl.checkStripes_of_enough (c : Ctl) {p : Nat} (htx : (c.port p).minLanes ≤ c.stripes p true)
    (hrx : (c.port p).minLanes ≤ c.stripes p false) : c.checkStripes p = c := by
  refine if_neg ?_
  simp only [Bool.and_eq_true, Bool.or_eq_true, decide_eq_true_eq]
  omega

/-- A change that is due is in force after its MAP_CD frames, the port stays up where stripes enough are left, and the octets that were cut off
are told. -/
theorem Ctl.mapChangeSend_changes (c : Ctl) {p left : Nat} {ch : MapChange} (hp : p < 2) (hch : (c.rgPort p).change = some ch)
    (hup : c.portUp p = true) (hfailed : ch.failed < 512) (hnew : ch.failed ≠ c.failedSet p true) (hbase : c.chooseBase p ch.failed < 16)
    (hmin : (c.port p).minLanes ≤ (c.stripeLanes p true ch.failed (c.chooseBase p ch.failed)).length)
    (hstripes : (c.stripeLanes p true ch.failed (c.chooseBase p ch.failed)).length < 16) (hrx : (c.port p).minLanes ≤ c.stripes p false)
    (hdue : left = 0 ∨ ch.askedAt + tUs 180 ≤ c.up) :
    ((c.mapChangeSend p left).rgPort p).change = none ∧ (c.mapChangeSend p left).failedSet p true = ch.failed ∧
      (c.mapChangeSend p left).mapBase p true = c.chooseBase p ch.failed ∧ (c.mapChangeSend p left).portUp p = true ∧
      c.mapCdSent p ch.failed ∈ (c.mapChangeSend p left).out ∧
      (left ≠ 0 → ({ kind := .ringSlice, a := p, b := 1, c := left } : Emit) ∈ (c.mapChangeSend p left).out) := by
  obtain ⟨hent, hxz, hln, hport, hcut⟩ := c.changeTaken_keeps left (Ctl.lt_of_portUp hup)
  have hset : (c.changeTaken p left).failedSet p true = c.failedSet p true := congrArg (fun w => bits w 8 0) (Ctl.ea_congr hent 0x2111 p)
  rw [c.mapChangeSend_due hch hup hdue (by rw [hset]; exact hnew)]
  have hupd : (c.changeTaken p left).portUp p = true := (congrArg RgPort.up hport :).trans hup
  have hchoose := Ctl.chooseBase_congr hent hxz (congrArg RgPort.partnerMaps hport :) ch.failed
  have hcd : (c.changeTaken p left).mapCdSent p ch.failed = c.mapCdSent p ch.failed := by
    have hcode : ((c.changeTaken p left).rgPort p).code = (c.rgPort p).code := (congrArg RgPort.code hport :)
    simp only [Ctl.mapCdSent, hchoose, hcode, Ctl.ea_congr hent]
  have hlanes : ∀ base, (c.changeTaken p left).stripeLanes p true ch.failed base = c.stripeLanes p true ch.failed base := fun base => by
    unfold Ctl.stripeLanes Ctl.normal Ctl.maps Ctl.hasImage Ctl.img
    rw [hxz]
  obtain ⟨hoff, hsent, htx, hrxMap⟩ := (c.changeTaken p left).switchTx_switches ch.failed hp hupd
  rw [hchoose, hlanes] at htx
  rw [hcd] at hsent
  generalize (c.changeTaken p left).switchTx p ch.failed = d at hoff hsent htx hrxMap
  obtain ⟨hbitsFailed, hbitsBase, hbitsCount⟩ := bits_mapWord true hstripes hbase hfailed
  have hminLanes : (d.port p).minLanes = (c.port p).minLanes := by
    have hlnd : d.ln = c.ln := (congrArg Ctl.ln hoff :).trans hln
    unfold Ctl.port
    rw [hlnd]
  have hcount : d.stripes p true = (c.stripeLanes p true ch.failed (c.chooseBase p ch.failed)).length :=
    (congrArg (fun w => bits w 19 16) htx).trans hbitsCount
  have hcountRx : d.stripes p false = c.stripes p false := congrArg (fun w => bits w 19 16) (hrxMap.trans (Ctl.ea_congr hent 0x2110 p))
  rw [d.checkStripes_of_enough (by rw [hminLanes, hcount]; exact hmin) (by rw [hminLanes, hcountRx]; exact hrx)]
  have hportd := Ctl.rgPort_of_offEgress hoff p
  rw [hport] at hportd
  refine ⟨(congrArg RgPort.change hportd :), (congrArg (fun w => bits w 8 0) htx).trans hbitsFailed,
    (congrArg (fun w => bits w 15 12) htx).trans hbitsBase, (Ctl.portUp_of_offEgress hoff p).trans hupd,
    hsent.subset (List.mem_append_right _ List.mem_cons_self), fun hleft => ?_⟩
  exact (((c.changeTaken p left).sentOn_emit _).trans hsent).subset (hcut hleft)

/-! ### LANE_OUT_ORDER and LANE_CLEAN (R368, R370) -/

/-- The part once the fault manager's order for a lane is taken: it waits no more, and the lane does not run clean. -/
def Ctl.orderTaken (c : Ctl) (l : Nat) : Ctl :=
  ({ c with fm := { c.fm with ordersOut := c.fm.ordersOut.filter (· ≠ l) } } : Ctl).setLane l (fun x => { x with cleanFrom := none })

theorem Ctl.laneOutOrder_eq (c : Ctl) {l : Nat} (horder : c.fm.ordersOut.contains l = true) (hup : c.portUp (l / 9) = true) :
    c.laneOutOrder l = ((c.orderTaken l).askChange (l / 9) (2 ^ (l % 9))).sendMapReq (l / 9) (c.rxWanted (l / 9) ||| 2 ^ (l % 9)) false := by
  have hgoes : ¬ (!c.fm.ordersOut.contains l) = true := by rw [horder]; decide
  have hring : ¬ (!c.portUp (l / 9)) = true := by rw [hup]; decide
  exact (if_neg hgoes).trans (if_neg hring)

/-- The lane's order is gone, the lane is to leave the stripes of both directions, and the partner is asked for its own. -/
theorem Ctl.laneOutOrder_asks (c : Ctl) {l : Nat} (horder : c.fm.ordersOut.contains l = true) (hup : c.portUp (l / 9) = true) :
    (c.laneOutOrder l).fm.ordersOut.contains l = false ∧
      ((c.laneOutOrder l).rgPort (l / 9)).change.map MapChange.failed =
        some ((((c.rgPort (l / 9)).change.map MapChange.failed).getD (c.failedSet (l / 9) true)) ||| 2 ^ (l % 9)) ∧
      ((c.laneOutOrder l).rgPort (l / 9)).reqs = (c.rgPort (l / 9)).reqs ++
        [⟨(c.rgPort (l / 9)).nextReq, c.rxWanted (l / 9) ||| 2 ^ (l % 9), false, c.up⟩] := by
  have hp := Ctl.lt_of_portUp hup
  have hlen : ((c.orderTaken l).askChange (l / 9) (2 ^ (l % 9))).rg.ports.length = c.rg.ports.length := List.length_modify ..
  obtain ⟨hchange, hreqs, hnext⟩ := (c.orderTaken l).rgPort_askChange (2 ^ (l % 9)) hp
  obtain ⟨hsentReqs, hsentChange⟩ := ((c.orderTaken l).askChange (l / 9) (2 ^ (l % 9))).rgPort_sendMapReq (p := l / 9)
    (c.rxWanted (l / 9) ||| 2 ^ (l % 9)) false (by rw [hlen]; exact hp)
  have hfm := Ctl.of_offSide (fun x => x.fm.ordersOut) (fun _ => rfl)
    (((c.orderTaken l).askChange (l / 9) (2 ^ (l % 9))).offSide_sendMapReq (l / 9) (c.rxWanted (l / 9) ||| 2 ^ (l % 9)) false)
  rw [c.laneOutOrder_eq horder hup, hsentReqs, hsentChange, hchange, hreqs, hnext, hfm]
  have hgone : (c.fm.ordersOut.filter (· ≠ l)).contains l = false := by simp
  exact ⟨hgone, rfl, rfl⟩

/-- LANE_CLEAN where the lane may return: its clean time ends, and the partner is asked to take it back. -/
theorem Ctl.laneClean_eq (c : Ctl) {l errors t : Nat} (hclean : (c.lane l).cleanFrom = some t) (hup : c.portUp (l / 9) = true)
    (hst : c.laneSt l = 2) (hout : bit (c.failedSet (l / 9) false) (l % 9) = true) (htime : t + tS 1 ≤ c.up)
    (hfree : c.fm.withheld.contains l = false) (herrors : errors ≤ if (c.rgPort (l / 9)).code < 4 then 0 else 4000000) :
    c.laneClean l errors = (c.setLane l (fun x => { x with cleanFrom := none })).sendMapReq (l / 9)
      (c.failedSet (l / 9) false &&& (511 - 2 ^ (l % 9))) true := by
  have hmay : ¬ (!c.portUp (l / 9) || decide (c.laneSt l ≠ 2) || !bit (c.failedSet (l / 9) false) (l % 9) || decide (c.up < t + tS 1) ||
      c.fm.withheld.contains l) = true := by
    simp only [hup, hst, hout, hfree]
    simpa using htime
  unfold Ctl.laneClean
  rw [hclean]
  exact (if_neg hmay).trans (if_neg (by omega))

/-- The lane asks to return. -/
theorem Ctl.laneClean_asks (c : Ctl) {l errors t : Nat} (hclean : (c.lane l).cleanFrom = some t) (hup : c.portUp (l / 9) = true)
    (hst : c.laneSt l = 2) (hout : bit (c.failedSet (l / 9) false) (l % 9) = true) (htime : t + tS 1 ≤ c.up)
    (hfree : c.fm.withheld.contains l = false) (herrors : errors ≤ if (c.rgPort (l / 9)).code < 4 then 0 else 4000000) :
    ((c.laneClean l errors).lane l).cleanFrom = none ∧
      ((c.laneClean l errors).rgPort (l / 9)).reqs = (c.rgPort (l / 9)).reqs ++
        [⟨(c.rgPort (l / 9)).nextReq, c.failedSet (l / 9) false &&& (511 - 2 ^ (l % 9)), true, c.up⟩] := by
  have hl : l < c.ln.lanes.length := by
    by_contra h
    simp [Ctl.lane, List.getD, h] at hclean
  rw [c.laneClean_eq hclean hup hst hout htime hfree herrors]
  generalize hd : c.setLane l (fun x => { x with cleanFrom := none }) = d
  have hrg : d.rg = c.rg := by rw [← hd]; rfl
  have hupt : d.up = c.up := by rw [← hd]; rfl
  have hport : d.rgPort (l / 9) = c.rgPort (l / 9) := by unfold Ctl.rgPort; rw [hrg]
  obtain ⟨hreqs, -⟩ := d.rgPort_sendMapReq (p := l / 9) (c.failedSet (l / 9) false &&& (511 - 2 ^ (l % 9))) true
    (by rw [hrg]; exact Ctl.lt_of_portUp hup)
  have hlane := Ctl.of_offSide (fun x => x.lane l) (fun _ => rfl)
    (d.offSide_sendMapReq (l / 9) (c.failedSet (l / 9) false &&& (511 - 2 ^ (l % 9))) true)
  refine ⟨?_, hreqs.trans (by rw [hport, hupt])⟩
  rw [hlane, ← hd, c.lane_setLane _ hl]

end Sys2Proof.Machine
end

section
/-! PROOFS. The commands of ring slices and stripes. -/
namespace Sys2Proof.Machine

theorem exec_ringSliceRx (dt port back : Nat) (x : RingSlice) (bad : List Nat) (s : State) :
    exec (.ringSliceRx dt port x.h0 x.h1 x.h2 x.h3 x.payload x.trailer back bad) s = runC (fun c => (c.advance dt).ringSlice port x back bad) s := rfl

theorem exec_laneOutOrder (dt lane : Nat) (s : State) : exec (.laneOutOrder dt lane) s = runC (fun c => (c.advance dt).laneOutOrder lane) s := rfl

theorem exec_mapChangeSend (dt port left : Nat) (s : State) :
    exec (.mapChangeSend dt port left) s = runC (fun c => (c.advance dt).mapChangeSend port left) s := rfl

theorem exec_laneClean (dt lane errors : Nat) (s : State) :
    exec (.laneClean dt lane errors) s = runC (fun c => (c.advance dt).laneClean lane errors) s := rfl

/-! ### A slice for this tile -/

/-- A slice for this tile that is not intact counts in SLICES_DISCARDED, and neither decode nor panel drive sees it (R362). -/
theorem Ctl.ringSlice_discards (c : Ctl) {port back : Nat} (x : RingSlice) (bad : List Nat) (hp : port < 2) (hup : c.portUp port = true)
    (hseek : (c.rgPort port).seek = false) (hmine : c.sliceMine x = true) (hreason : x.reason (c.sliceBad port back x) ≠ 0) :
    (c.ringSlice port x back bad).dc = c.dc ∧ (c.ringSlice port x back bad).pd = c.pd ∧
      (c.ringSlice port x back bad).ea 0x2114 port = c.ea 0x2114 port ∧
      (c.ringSlice port x back bad).ea 0x2116 port = satAdd (entWidth (ekey 0x2116 (port + 1))) (c.ea 0x2116 port) 1 ∧
      ((c.ringSlice port x back bad).rgPort port).seek = x.badLength := by
  obtain ⟨hdc, hpd, hreceived, hdiscarded, hsought⟩ := c.slicePassed_keeps (c.sliceMine x) x hp hup
  rw [c.ringSlice_eq x bad hup hseek]
  simp only [if_neg hreason, hmine, Bool.not_true, Bool.false_eq_true, if_false, if_pos hreason] at hdc hpd hreceived hdiscarded hsought ⊢
  generalize c.slicePassed port true x = d at hdc hpd hreceived hdiscarded hsought
  generalize x.reason (c.sliceBad port back x) = reason
  have hoff := ((d.incEa 0x2116 port).offEgress_ringWarn 0x1145 port [i8 port, i8 reason]).trans (d.offEgress_incEa 0x2116 port)
  have hcounts : ∀ idx < 0x3000,
      ((d.incEa 0x2116 port).ringWarn 0x1145 port [i8 port, i8 reason]).ea idx port = (d.incEa 0x2116 port).ea idx port :=
    fun idx hidx => Ctl.e_ringWarn _ _ _ _ (by unfold ekey; omega) (by decide)
  refine ⟨(congrArg Ctl.dc hoff :).trans hdc, (congrArg Ctl.pd hoff :).trans hpd, ?_, ?_,
    (congrArg RgPort.seek (Ctl.rgPort_of_offEgress hoff port) :).trans hsought⟩
  · rw [hcounts _ (by decide), d.ea_incEa_ne (by decide) hp hp, hreceived]
  · rw [hcounts _ (by decide), d.ea_incEa, hdiscarded]

/-- An intact DEXSIA slice for this tile counts in SLICES_RECEIVED, and its units reach decode in their order (R361). -/
theorem Ctl.ringSlice_arrives (c : Ctl) {port back : Nat} (x : RingSlice) (bad : List Nat) (hp : port < 2) (hup : c.portUp port = true)
    (hseek : (c.rgPort port).seek = false) (hmine : c.sliceMine x = true) (hkind : x.kind = 1) (hreason : x.reason (c.sliceBad port back x) = 0) :
    (c.ringSlice port x back bad).dc.arriving = c.dc.arriving ++ splitUnits (x.payload.take x.length) ∧
      (c.ringSlice port x back bad).ea 0x2114 port = satAdd (entWidth (ekey 0x2114 (port + 1))) (c.ea 0x2114 port) 1 := by
  obtain ⟨hdc, -, hreceived, -, -⟩ := c.slicePassed_keeps (c.sliceMine x) x hp hup
  rw [c.ringSlice_eq x bad hup hseek]
  simp only [hreason, hmine, hkind, Bool.not_true, Bool.false_eq_true, ne_eq, not_true_eq_false, if_false, if_true] at hdc hreceived ⊢
  rw [Ctl.sliceUnits_eq]
  refine ⟨(Ctl.arriving_foldl_unitTaken ..).trans ?_, ?_⟩
  · rw [Ctl.incEa_dc, hdc]
  · rw [foldl_keeps (fun d : Ctl => d.ea 0x2114 port) _ _ _ fun d u _ => d.ea_unitTaken u hp, Ctl.ea_incEa, hreceived]

/-- A slice that this tile does not take, and that the other side needs, goes out of the other port where there is room (R364, R365). -/
theorem Ctl.ringSlice_forwards (c : Ctl) {port back : Nat} (x : RingSlice) (bad : List Nat) (hp : port < 2) (hup : c.portUp port = true)
    (hseek : (c.rgPort port).seek = false) (hmine : c.sliceMine x = false) (hlen : x.badLength = false) (hout : c.portUp (1 - port) = true)
    (hmask : x.mask &&& c.downMask (decide (1 - port = 0)) ≠ 0) (hkind : x.kind ≠ 1)
    (hroom : c.fifoNow (1 - port) + x.length + 40 ≤ 65536 ∨ c.fifoNow (1 - port) = 0 ∧ c.fastEnough (1 - port) port = true) :
    (c.ringSlice port x back bad).dc = c.dc ∧
      (c.ringSlice port x back bad).ea 0x2115 (1 - port) = satAdd (entWidth (ekey 0x2115 (1 - port + 1))) (c.ea 0x2115 (1 - port)) 1 ∧
      ({ kind := .ringSlice, a := 1 - port, bytes := x.octets } : Emit) ∈ (c.ringSlice port x back bad).out := by
  obtain ⟨hdc, -⟩ := c.slicePassed_keeps (c.sliceMine x) x hp hup
  obtain ⟨hcount, hsent⟩ := c.slicePassed_goes_on (c.sliceMine x) x hp hlen hout hmask hkind hroom
  rw [c.ringSlice_eq x bad hup hseek]
  simp only [hmine, Bool.not_false, if_true] at hdc hcount hsent ⊢
  split
  · exact ⟨hdc, (Ctl.ea_incEa_ne _ (by decide) hp (by omega)).trans hcount, hsent⟩
  · exact ⟨hdc, hcount, hsent⟩

end Sys2Proof.Machine

open Sys2Proof Sys2Proof.Machine

/-- Settles O46: the three fates of a slice that is found, a failed lane's order and its map change, and a clean lane's request. -/
theorem ringSlicesAndStripes : Obligations.RingSlicesAndStripes := by
  unfold Obligations.RingSlicesAndStripes
  refine ⟨fun dt port back x bad s hp hup hseek htile hmask hkind hreason => ?discarded,
    fun dt port back x bad s hp hup hseek htile hmask hkind hreason => ?arrives,
    fun dt port back out fifo x bad s hp hout hup hseek hupOut hkind hlen hmask hfifo hroom hother => ?forwarded,
    fun dt port back x bad s hnone => ?notFound, fun dt lane s horder hup => ?order,
    fun dt port left n base ch s hp hch hup hfailed hnew hbase hbase16 hn hmin hn16 hrx hdue => ?change,
    fun dt port left ch s hch hleft hwait => ?waits,
    fun dt lane errors t0 s _ hclean hup hst hset htime hfree herrors => ?clean⟩
  case discarded =>
    have hmine : s.ctl.sliceMine x = true := by simp [Ctl.sliceMine, htile, hmask, hkind]
    exact leaves_of_exec_eq_runC (exec_ringSliceRx ..) ((s.ctl.advance dt).ringSlice_discards x bad hp hup hseek hmine hreason)
  case arrives =>
    have hmine : s.ctl.sliceMine x = true := by simp [Ctl.sliceMine, htile, hmask, hkind]
    exact leaves_of_exec_eq_runC (exec_ringSliceRx ..) ((s.ctl.advance dt).ringSlice_arrives x bad hp hup hseek hmine hkind hreason)
  case forwarded =>
    subst hout
    have hmine : s.ctl.sliceMine x = false := by
      rw [Ctl.sliceMine, Bool.and_eq_false_iff, Bool.and_eq_false_iff, decide_eq_false_iff_not]
      exact .inl (not_or_of_imp hother)
    rw [(s.ctl.advance dt).fifo_drainPort (Ctl.lt_of_portUp hupOut)] at hfifo
    subst hfifo
    exact leaves_of_exec_eq_runC (exec_ringSliceRx ..)
      ((s.ctl.advance dt).ringSlice_forwards x bad hp hup hseek hmine hlen hupOut hmask (by omega) hroom)
  case notFound =>
    exact leaves_of_exec_eq_runC (exec_ringSliceRx ..) ((s.ctl.advance dt).ringSlice_not_found port back x bad hnone)
  case order => exact leaves_of_exec_eq_runC (exec_laneOutOrder ..) ((s.ctl.advance dt).laneOutOrder_asks horder hup)
  case change =>
    subst hbase hn
    obtain ⟨hnone, hset, hbaseNow, hstays, hcd, hcut⟩ :=
      (s.ctl.advance dt).mapChangeSend_changes hp hch hup hfailed hnew hbase16 hmin hn16 hrx hdue
    refine leaves_of_exec_eq_runC (exec_mapChangeSend ..) ⟨hnone, hset, hbaseNow, hstays, ?_, fun hleft => ?_⟩
    · exact List.mem_map.2 ⟨_, List.mem_filter.2 ⟨hcd, decide_eq_true rfl⟩, rfl⟩
    · exact List.mem_map.2 ⟨_, List.mem_filter.2 ⟨hcut hleft, decide_eq_true rfl⟩, rfl⟩
  case waits => exact leaves_of_exec_eq_runC (exec_mapChangeSend ..) ((s.ctl.advance dt).mapChangeSend_waits hch hleft hwait)
  case clean => exact leaves_of_exec_eq_runC (exec_laneClean ..) ((s.ctl.advance dt).laneClean_asks hclean hup hst hset htime hfree herrors)

end

section
/-! PROOFS. The step, the part after reset, and DRAM: a store and the address map (14 R405 to R410). -/
namespace Sys2Proof.Machine

/-- A command answers the state that its meaning makes of the part alone, or of DRAM and the part: the queue stands. -/
theorem exec_completes (i : Instr) (s : State) : ∃ t, exec i s = .next t ∧ t.pending = s.pending := by
  cases i <;> exact ⟨_, rfl, rfl⟩

/-- The octets stored are those that read back. -/
theorem Mem.read_store_same (m : Mem) (a : Nat) (bs : List Byte) (hwf : m.wf = true) : (m.store a bs).read a bs.length = bs :=
  (Mem.read_store bs m a 0 bs.length hwf (Nat.zero_add _).le).trans (by rw [List.drop_zero, List.take_length])

/-- Storing octets leaves the flipped bits. -/
theorem Mem.errs_write (bs : List Byte) (m : Mem) (a : Nat) : (m.write a bs).errs = m.errs := by
  induction bs generalizing m a with
  | nil => rfl
  | cons b bs ih => exact ih (m.set a b) (a + 1)

/-- A store mends the bursts that it covers and no other. -/
theorem Mem.errOf_store (m : Mem) (a : Nat) (bs : List Byte) (b : Nat) :
    (m.store a bs).errOf b = if a ≤ 64 * b ∧ 64 * b + 64 ≤ a + bs.length then 0 else m.errOf b := by
  show (aGet ((m.write a bs).errs.filter fun e => !wholeIn a bs.length e.1) b).getD 0 = _
  rw [Mem.errs_write, aGet_filter (fun k => !wholeIn a bs.length k)]
  by_cases hin : a ≤ 64 * b ∧ 64 * b + 64 ≤ a + bs.length
  · simp [wholeIn, hin]
  · rw [if_neg hin, if_pos (by simp [wholeIn]; omega)]
    rfl

/-- Two addresses at one place of one port are one address. -/
theorem dramMap_injective {np a b : Nat} (h : dramMap np a = dramMap np b) : a = b := by
  obtain ⟨hport, hplace⟩ := Prod.mk.inj h
  have hlow : a % 128 = b % 128 := by omega
  have hrow : a / 128 / np = b / 128 / np := by omega
  have hrem : a / 128 % np = b / 128 % np := by
    rw [hrow] at hport
    have hmod : a / 128 % np ≡ b / 128 % np [MOD np] := Nat.ModEq.add_right_cancel' _ hport
    rwa [Nat.ModEq, Nat.mod_mod, Nat.mod_mod] at hmod
  have hquot : a / 128 = b / 128 := by
    rw [← Nat.div_add_mod (a / 128) np, ← Nat.div_add_mod (b / 128) np, hrow, hrem]
  omega

end Sys2Proof.Machine

open Sys2Proof Sys2Proof.Machine

/-- Settles O1: the step is `exec` on the rest of the queue, by its definition. -/
theorem stepTakesTheFrontCommand : Obligations.StepTakesTheFrontCommand := by
  unfold Obligations.StepTakesTheFrontCommand
  refine ⟨fun i s => rfl, fun s hidle => ?_, exec_completes⟩
  unfold step
  rw [hidle]

/-- Settles O2: the entries hold nothing after reset, so that each reads as its table's default. -/
theorem resetLeavesTheDefaults : Obligations.ResetLeavesTheDefaults := by
  unfold Obligations.ResetLeavesTheDefaults
  refine ⟨rfl, rfl, ⟨rfl, rfl⟩, ?shaped, ?entries, by decide, rfl, by decide⟩
  case shaped => exact ⟨rfl, rfl, rfl, rfl, rfl, rfl, rfl, rfl, rfl, rfl, rfl, rfl, rfl, rfl, fun u hu => absurd hu List.not_mem_nil⟩
  case entries => decide +kernel

/-- Settles O7: a store is a write of each octet, and takes the flipped bits of the bursts that it covers away. -/
theorem dramReadsBackWhatWasStored : Obligations.DramReadsBackWhatWasStored := by
  unfold Obligations.DramReadsBackWhatWasStored
  exact fun m a bs hwf => ⟨m.store_wf a bs hwf, m.read_store_same a bs hwf, fun x hx => Mem.get_store_off bs m hx, m.errOf_store a bs⟩

/-- Settles O8: a place keeps the address but for the port's number, and the port differs from that number by what the place fixes. -/
theorem dramAddressesMapOneToOne : Obligations.DramAddressesMapOneToOne := by
  unfold Obligations.DramAddressesMapOneToOne
  exact fun np a b hnp => ⟨Nat.mod_lt _ hnp, dramMap_injective⟩

end

section
/-! PROOFS. DRAM keeps its canonical form through every step: what each unit's operation does to the two lists (14 R405 to R411). -/
namespace Sys2Proof.Machine

/-! ### How an operation is built -/

section
variable {m : Mem} (c : Ctl) (h : m.wf = true)

/-- A pair is in form where its DRAM is. -/
theorem pair_wf {σ : Type} {a : Mem} {x : σ} (ha : a.wf = true) : (a, x).1.wf = true := ha

/-- A choice keeps the form where both of its branches do. -/
theorem ite_wf {σ : Type} {g : σ → Mem} {p : Prop} [Decidable p] {a b : σ} (ha : (g a).wf = true) (hb : (g b).wf = true) :
    (g (if p then a else b)).wf = true := by
  split
  · exact ha
  · exact hb

/-- The same where each branch gives DRAM and the part. -/
theorem ite_pair_wf {σ : Type} {p : Prop} [Decidable p] {a b : Mem} {x y : σ} (ha : a.wf = true) (hb : b.wf = true) :
    (if p then (a, x) else (b, y)).1.wf = true := ite_wf (g := Prod.fst) ha hb

/-- A fold keeps the form where each of its turns does. -/
theorem foldl_wf {α σ : Type} (g : σ → Mem) (f : σ → α → σ) (l : List α) (s : σ) (hs : (g s).wf = true)
    (hf : ∀ s a, (g s).wf = true → (g (f s a)).wf = true) : (g (l.foldl f s)).wf = true :=
  List.foldlRecOn (motive := fun t => (g t).wf = true) l f hs fun t ht a _ => hf t a ht

include h

theorem flushFills_wf : (flushFills m c).1.wf = true :=
  foldl_wf Prod.fst _ c.xz.fills (m, c) h fun r w hr => Mem.store_wf r.1 w.1 w.2 hr

/-! ### The image manager and the compression engine -/

theorem slotReadAt_wf (i off n : Nat) : (slotReadAt i off n m c).1.wf = true := m.filter_wf _ _ h

theorem slotRead_wf (i : Nat) : (slotRead i m c).1.wf = true := slotReadAt_wf c h _ _ _

theorem sramCopyDone_wf : (sramCopyDone m c).1.wf = true := by
  unfold sramCopyDone
  split
  · exact ite_pair_wf (slotRead_wf _ h _) (slotRead_wf _ h _)
  · exact h

theorem storeDone_wf : (storeDone m c).1.wf = true := by
  unfold storeDone
  split
  · exact h
  · exact ite_wf (g := Prod.fst) h (ite_wf (g := Prod.fst) h
      (ite_pair_wf (slotRead_wf _ h _) (slotRead_wf _ h _)))

theorem scrubReload_wf (p : Nat × Nat) : (scrubReload (m, c) p).1.wf = true := by
  unfold scrubReload
  split
  · exact h
  · exact ite_wf (g := Prod.fst) h (slotReadAt_wf _ h _ _ _)

theorem reloadDone_wf (kind i : Nat) : (reloadDone kind i m c).1.wf = true := by
  unfold reloadDone
  split
  · exact h
  · exact ite_wf (g := Prod.fst) h (ite_pair_wf (slotReadAt_wf _ h _ _ _) (slotReadAt_wf _ h _ _ _))

theorem cxStart_wf (pipe : Nat) : (cxStart pipe m c).1.wf = true := by
  refine ite_wf (g := Prod.fst) h ?_
  split
  · exact flushFills_wf _ h
  · refine ite_wf (g := Prod.fst) h ?_
    dsimp only
    split
    · exact h
    · exact ite_wf (g := Prod.fst) h (Mem.store_wf _ _ _ h)

theorem cxFinish_wf (pipe : Nat) (job : CxJob) (taken made result check total : Nat) :
    (cxFinish pipe job taken made result check total m c).1.wf = true := Mem.store_wf _ _ _ h

theorem cxFail_wf (pipe : Nat) (job : CxJob) (code : Nat) : (cxFail pipe job code m c).1.wf = true :=
  cxFinish_wf _ (ite_wf (g := Prod.fst) (Mem.store_wf _ _ _ h) h) _ _ _ _ _ _ _

theorem cxWrite_wf (pipe : Nat) (job : CxJob) (id result : Nat) (r : CxOut) : (cxWrite pipe job id result r m c).1.wf = true :=
  cxFinish_wf _ (Mem.store_wf _ _ _ (Mem.store_wf _ _ _ h)) _ _ _ _ _ _ _

theorem cxEndAt_wf (pipe : Nat) (cut : Option (Nat × Nat)) : (cxEndAt pipe cut m c).1.wf = true := by
  unfold cxEndAt
  split
  · exact h
  · exact ite_wf (g := Prod.fst) h (ite_wf (g := Prod.fst) (cxFail_wf _ h _ _ _)
      (ite_wf (g := Prod.fst) (cxFinish_wf _ h _ _ _ _ _ _ _) (cxWrite_wf _ h _ _ _ _ _)))

theorem cxEnd_wf (pipe : Nat) (verify : Option Nat) : (cxEnd pipe verify m c).1.wf = true :=
  ite_wf (g := Prod.fst) h (cxEndAt_wf c h _ _)

end

/-- CX_FAULT stops the job of a pipe, having put out its octets of `made`. -/
def cxStop (made : List Nat) (p : Nat) (x : Mem × Ctl) : Mem × Ctl :=
  match x.2.cxJob p with
  | none => x
  | some job => if job.early ≠ 0 || cxEmptyJob job.desc then cxFail p job 0x34 x.1 x.2 else cxEndAt p (some (made.getD p 0, 0x34)) x.1 x.2

theorem cxStop_wf (made : List Nat) (p : Nat) (x : Mem × Ctl) (h : x.1.wf = true) : (cxStop made p x).1.wf = true := by
  unfold cxStop
  split
  · exact h
  · exact ite_wf (g := Prod.fst) (cxFail_wf _ h _ _ _) (cxEndAt_wf _ h _ _)

theorem cxFault_wf {m : Mem} (c : Ctl) (h : m.wf = true) (pipe : Nat) (made : List Nat) : (cxFault pipe made m c).1.wf = true := by
  refine pair_wf ?_
  exact cxStop_wf made 1 _ (cxStop_wf made 0 _ h)

section
variable {m : Mem} (c : Ctl) (h : m.wf = true)
include h

/-! ### Palette: the grids, the planner, ingest and the mask -/

theorem cellsWrite_wf (f : Nat → Nat) (cells : List Nat) : (cellsWrite f cells m c).1.wf = true :=
  foldl_wf id _ cells m h fun _ _ hm => Mem.store_wf _ _ _ hm

theorem boundsMerge_wf (frame s key w hh x0 y0 x1 y1 dlo dhi : Nat) (op : Bool) :
    (boundsMerge frame s key w hh x0 y0 x1 y1 dlo dhi op m c).1.wf = true :=
  ite_wf (g := Prod.fst) h (ite_wf (g := Prod.fst) h (cellsWrite_wf _ h _ _))

theorem boundsUnknown_wf (frame s key w hh x0 y0 x1 y1 : Nat) : (boundsUnknown frame s key w hh x0 y0 x1 y1 m c).1.wf = true :=
  ite_wf (g := Prod.fst) h (cellsWrite_wf _ h _ _)

theorem gridClear_wf (frame : Nat) : (gridClear frame m c).1.wf = true := Mem.store_wf _ _ _ h

theorem gridsFlip_wf (n : Nat) : (gridsFlip n m c).1.wf = true := by
  refine ite_wf (g := Prod.fst) h (foldl_wf Prod.fst _ _ _ ?_ fun q s hq => ite_wf (g := Prod.fst) (cellsWrite_wf _ hq _ _) hq)
  exact ite_wf (g := Prod.fst) (gridClear_wf _ (gridClear_wf _ h _) _) (gridClear_wf _ h _)

theorem planCull_wf (frame limit : Nat) : (planCull frame limit m c).1.wf = true := ite_wf (g := Prod.fst) h (Mem.store_wf _ _ _ h)

theorem cullPlanDone_wf : (cullPlanDone m c).1.wf = true := ite_wf (g := Prod.fst) h (planCull_wf c h _ _)

theorem settleMask_wf (f reached shed : Nat) : (settleMask f reached shed m c).1.wf = true := by
  refine ite_wf (g := Prod.fst) h (foldl_wf Prod.fst _ _ _ ?_ fun q r hq => Mem.store_wf _ _ _ hq)
  exact ite_wf (g := Prod.fst) h (planCull_wf c h _ _)

theorem scaleRow_wf (p : SlotPlan) (taps base v : Nat) (q : Nat × Nat × Nat × Nat) (get : Int → Int → Nat) :
    (scaleRow p taps base v q get m).wf = true := foldl_wf id _ _ m h fun _ _ hm => Mem.store_wf _ _ _ hm

theorem ingestRow_wf (s : Nat) : (ingestRow s m c).1.wf = true := by
  unfold ingestRow
  split
  · exact h
  · refine ite_wf (g := Prod.fst) h ?_
    dsimp only
    refine ite_wf (g := Prod.fst) (ite_wf (g := Prod.fst) h (scaleRow_wf h _ _ _ _ _ _)) ?_
    split
    · exact h
    · exact ite_wf (g := Prod.fst) h (ite_wf (g := Prod.fst) h (scaleRow_wf h _ _ _ _ _ _))

/-! ### The decoder -/

theorem concealBlock_wf (n id kk b : Nat) : (concealBlock n id kk b m c).1.wf = true := by
  unfold concealBlock
  split
  · exact h
  · exact Mem.store_wf _ _ _ h

theorem concealAll_wf (l : List (Nat × Nat × Nat × Nat)) : (concealAll l m c).1.wf = true :=
  foldl_wf Prod.fst _ l (m, c) h fun q _ hq => concealBlock_wf q.2 hq _ _ _ _

theorem takeSlice_wf (u : DcUnit) : (takeSlice u m c).1.wf = true := by
  refine ite_wf (g := Prod.fst) h (ite_wf (g := Prod.fst) h (ite_wf (g := Prod.fst) h ?_))
  split
  · exact h
  · exact h
  · split
    · exact h
    · refine ite_wf (g := Prod.fst) h ?_
      dsimp only
      split
      · exact h
      · exact ite_wf (g := Prod.fst) h (boundsMerge_wf _ h _ _ _ _ _ _ _ _ _ _ _ _)

theorem resolveCtx_wf (n : Nat) : (resolveCtx n m c).1.wf = true :=
  foldl_wf Prod.fst _ _ (m, c) h fun q u hq => takeSlice_wf q.2 hq u

end

theorem storeExt_wf (l : List (Nat × Nat)) (bs : List Byte) (q : Mem × Ctl) (h : q.1.wf = true) : (storeExt l bs q).1.wf = true := by
  induction l generalizing bs q with
  | nil => exact h
  | cons e l ih => exact ih _ _ (Mem.store_wf _ _ _ h)

theorem storeRuns_wf (l : List (Nat × List Byte)) (m : Mem) (cur : Nat × List Byte) (h : m.wf = true) : (storeRuns m cur l).wf = true := by
  induction l generalizing m cur with
  | nil => exact Mem.store_wf _ _ _ h
  | cons q l ih => exact ite_wf (g := id) (ih _ _ h) (ih _ _ (Mem.store_wf _ _ _ h))

section
variable {m : Mem} (c : Ctl) (h : m.wf = true)
include h

theorem unitArrival_wf : (unitArrival m c).1.wf = true := by
  unfold unitArrival
  split
  · exact h
  · refine ite_wf (g := Prod.fst) h (ite_wf (g := Prod.fst) h (ite_wf (g := Prod.fst) h (ite_wf (g := Prod.fst) h
      (ite_wf (g := Prod.fst) h ?_))))
    split
    · exact h
    · exact h
    · exact h
    · exact h
    · exact resolveCtx_wf _ (storeExt_wf _ _ _ h) _

theorem engineDispatch_wf (e : Nat) : (engineDispatch e m c).1.wf = true := by
  refine ite_wf (g := Prod.fst) h ?_
  split
  · exact h
  · exact ite_wf (g := Prod.fst) (resolveCtx_wf _ h _) (ite_wf (g := Prod.fst) h (resolveCtx_wf _ h _))

theorem writeCb_wf (n : Nat) (p : DcPic) (e : SliceEnv) (s : DecSt) (kk cx cy : Nat) : (writeCb n p e s kk cx cy m c).1.wf = true :=
  ite_wf (g := Prod.fst) h (foldl_wf Prod.fst _ _ (m, c) h fun _ _ hr => Mem.store_wf _ _ _ hr)

theorem sliceEnd_wf (e limit : Nat) (u : DcUnit) (p : DcPic) : (sliceEnd e limit u p m c).1.wf = true :=
  foldl_wf Prod.fst _ _ (m, c) h fun q _ hq => writeCb_wf q.2 hq _ _ _ _ _ _ _

theorem sliceDone_wf (e : Nat) : (sliceDone e m c).1.wf = true := by
  unfold sliceDone
  split
  · exact h
  · split
    · exact h
    · exact ite_pair_wf (concealAll_wf _ (sliceEnd_wf c h e _ _ _) _) (sliceEnd_wf c h e _ _ _)

theorem dcCutoff_wf (f : Nat) (done : List Nat) : (dcCutoff f done m c).1.wf = true := by
  unfold dcCutoff
  dsimp only
  refine foldl_wf Prod.fst _ _ _ ?_ fun q x hq => ?_
  · exact foldl_wf Prod.fst _ _ (m, c) h fun q x hq => sliceEnd_wf q.2 hq x.1 (done.getD x.1 0) x.2.1 x.2.2
  · split
    · exact hq
    · refine foldl_wf Prod.fst _ _ _ hq fun q kk hq => ?_
      refine foldl_wf Prod.fst _ _ _ hq fun q b hq => ?_
      exact boundsUnknown_wf q.2 hq _ _ _ _ _ _ _ _ _

theorem cutoff_wf (done : List Nat) : (cutoff done m c).1.wf = true := ite_wf (g := Prod.fst) (dcCutoff_wf c h _ _) h

theorem concealDone_wf (k : Nat) : (concealDone k m c).1.wf = true := ite_wf (g := Prod.fst) h (concealAll_wf c h _)

theorem dcFlip_wf (n : Nat) : (dcFlip n m c).1.wf = true :=
  show (if c.dc.cutFor = some n then (m, c) else dcCutoff (n + 1) [] m c).1.wf = true from
    ite_wf (g := Prod.fst) h (dcCutoff_wf c h _ _)

theorem engineFault_wf (e done : Nat) : (engineFault e done m c).1.wf = true := by
  refine ite_wf (g := Prod.fst) h ?_
  dsimp only
  split
  · exact h
  · split
    · exact sliceEnd_wf c h e done _ _
    · exact concealAll_wf _ (sliceEnd_wf c h e done _ _) _

/-! ### Easel, the return encoder and Stencil -/

theorem fillComplete_wf (entry : Nat) : (fillComplete entry m c).1.wf = true := by
  unfold fillComplete
  split
  · exact h
  · split
    · exact h
    · exact h

theorem stageWrite_wf (s kind i : Nat) (b : List Byte) : (stageWrite s kind i b m c).1.wf = true := by
  unfold stageWrite
  split
  · exact h
  · exact Mem.store_wf _ _ _ h

theorem stageFree_wf (s kind i len : Nat) : (stageFree s kind i len m c).1.wf = true := stageWrite_wf _ h _ _ _ _

theorem capture_wf (n : Nat) (sent missed : Bool) (s : Nat) : (capture n sent (m, c, missed) s).1.wf = true :=
  ite_wf (g := Prod.fst) h (ite_wf (g := Prod.fst) h (ite_wf (g := Prod.fst) h (ite_wf (g := Prod.fst) h (stageFree_wf _ h _ _ _ _))))

theorem popMake_wf (n : Nat) (missed : Bool) : (popMake n missed m c).1.wf = true :=
  ite_wf (g := Prod.fst) h (ite_wf (g := Prod.fst) h (stageWrite_wf _ h _ _ _ _))

theorem enFlip_wf (n : Nat) : (enFlip n m c).1.wf = true := by
  refine pair_wf ?_
  refine popMake_wf _ ?_ _ _
  exact foldl_wf Prod.fst _ _ (m, _, false) h fun q s hq => capture_wf q.2.1 hq n _ q.2.2 s

theorem pictureCoded_wf : (pictureCoded m c).1.wf = true := by
  refine ite_wf (g := Prod.fst) h ?_
  split
  · exact h
  · exact ite_wf (g := Prod.fst) h (stageFree_wf _ h _ _ _ _)

theorem StCmd.draw_wf (q : StCmd) (j : Nat) : (q.draw j m).wf = true := storeRuns_wf _ _ _ h

theorem StCmd.run_wf (q : StCmd) (limit : Nat) : (q.run limit m c).1.wf = true := by
  refine foldl_wf Prod.fst _ _ (m, c, false, []) h fun p j hp => ite_wf (g := Prod.fst) hp ?_
  split
  · exact hp
  · exact q.draw_wf hp j

theorem stCommandDone_wf : (stCommandDone m c).1.wf = true := by
  unfold stCommandDone
  split
  · exact ite_wf (g := Prod.fst) (StCmd.run_wf c h _ _) (StCmd.run_wf c h _ _)
  · exact h

theorem stSramError_wf (word rows : Nat) : (stSramError word rows m c).1.wf = true := by
  unfold stSramError
  split
  · exact ite_wf (g := Prod.fst) (StCmd.run_wf c h _ _) h
  · exact h

/-! ### The flip, the start and the host -/

theorem paletteTurn_wf (n reached : Nat) : (paletteTurn n reached m c).1.wf = true := by
  refine pair_wf ?_
  refine gridsFlip_wf _ ?_ _
  exact settleMask_wf _ h _ _ _

theorem flipAll_wf (n reached : Nat) (store : Bool) (cut : Option MramCut) (bad : List Nat) : (flipAll n reached store cut bad m c).1.wf = true := by
  have hen := enFlip_wf c h n
  unfold flipAll
  refine ite_pair_wf hen ?_
  exact paletteTurn_wf _ (dcFlip_wf _ hen _) _ _

theorem frameFlip_wf (reached : Nat) (store : Bool) (cut : Option MramCut) (bad : List Nat) : (frameFlip reached store cut bad m c).1.wf = true :=
  ite_wf (g := Prod.fst) h (flipAll_wf c h _ _ _ _ _)

theorem trainingDone_wf (devs : List (List Nat)) (fail : Option (Nat × Nat × Nat)) : (trainingDone devs fail m c).1.wf = true := by
  refine ite_wf (g := Prod.fst) h ?_
  dsimp only
  split
  · exact h
  · split
    · exact h
    · exact flushFills_wf _ rfl

theorem dmaEnd_wf (d : List Byte) (moved result : Nat) : (dmaEnd d moved result m c).1.wf = true := Mem.store_wf _ _ _ h

theorem dmaJobDone_wf (moved : Nat) (bytes : List Byte) (err : Bool) : (dmaJobDone moved bytes err m c).1.wf = true :=
  ite_wf (g := Prod.fst) h (ite_wf (g := Prod.fst) (dmaEnd_wf _ h _ _ _)
    (ite_wf (g := Prod.fst) (dmaEnd_wf _ (Mem.store_wf _ _ _ h) _ _ _) (dmaEnd_wf _ h _ _ _)))

theorem winWrite_wf (off : Nat) (bs : List Byte) : (winWrite off bs m c).1.wf = true := ite_wf (g := Prod.fst) (Mem.store_wf _ _ _ h) h

theorem scrubStep_wf : (scrubStep m c).1.wf = true := ite_wf (g := Prod.fst) h h

end

/-! ### The step -/

/-- What a command makes of DRAM and the part is in form, and the link is quiet, where its meaning keeps the form. -/
theorem wf_of_mended {r : Mem × Ctl} (p : List Instr) (h : r.1.wf = true) :
    State.wf { ctl := (mended r).2, mem := (mended r).1, pending := p } := ⟨mended_wf r h, rfl⟩

/-- Every command keeps the form of DRAM. -/
theorem exec_wf (i : Instr) (s t : State) (hs : s.wf) (ht : exec i s = .next t) : t.wf := by
  cases i <;> (injection ht with ht; subst ht)
  case powerOn => exact wf_of_mended _ rfl
  case dramTrainingComplete => exact wf_of_mended _ (trainingDone_wf _ hs.1 _ _)
  case patrolScrub => exact wf_of_mended _ (scrubStep_wf _ (Mem.found_wf _ _ hs.1))
  case sramCopyDone => exact wf_of_mended _ (sramCopyDone_wf _ (Mem.found_wf _ _ hs.1))
  case storeDone => exact wf_of_mended _ (storeDone_wf _ (Mem.found_wf _ _ hs.1))
  case cxJobStart => exact wf_of_mended _ (cxStart_wf _ hs.1 _)
  case cxJobEnd => exact wf_of_mended _ (cxEnd_wf _ (Mem.found_wf _ _ hs.1) _ _)
  case cxFault => exact wf_of_mended _ (cxFault_wf _ (Mem.found_wf _ _ hs.1) _ _)
  case unitArrival => exact wf_of_mended _ (unitArrival_wf _ hs.1)
  case engineDispatch => exact wf_of_mended _ (engineDispatch_wf _ (Mem.found_wf _ _ hs.1) _)
  case sliceDecodeDone => exact wf_of_mended _ (sliceDone_wf _ (Mem.found_wf _ _ hs.1) _)
  case cutoff => exact wf_of_mended _ (cutoff_wf _ hs.1 _)
  case concealDone => exact wf_of_mended _ (concealDone_wf _ (Mem.found_wf _ _ hs.1) _)
  case engineFault => exact wf_of_mended _ (engineFault_wf _ hs.1 _ _)
  case cullPlanDone => exact wf_of_mended _ (cullPlanDone_wf _ (Mem.found_wf _ _ hs.1))
  case ingestRowStart => exact wf_of_mended _ (ingestRow_wf _ (Mem.found_wf _ _ hs.1) _)
  case sramScrub =>
    exact wf_of_mended _ (foldl_wf Prod.fst _ _ (s.mem, _) hs.1 fun r p hr => scrubReload_wf r.2 hr _)
  case scheduleBlockReloaded => exact wf_of_mended _ (reloadDone_wf _ (Mem.found_wf _ _ hs.1) _ _)
  case tableReloadDone => exact wf_of_mended _ (reloadDone_wf _ (Mem.found_wf _ _ hs.1) _ _)
  case fillComplete => exact wf_of_mended _ (fillComplete_wf _ (Mem.found_wf _ _ hs.1) _)
  case pictureCoded => exact wf_of_mended _ (pictureCoded_wf _ (Mem.found_wf _ _ hs.1))
  case popRecordWrite => exact wf_of_mended _ (Mem.found_wf _ _ hs.1)
  case listTailWrite => exact wf_of_mended _ (Mem.found_wf _ _ hs.1)
  case listResumeSkip => exact wf_of_mended _ (Mem.found_wf _ _ hs.1)
  case listResumeRetry => exact wf_of_mended _ (Mem.found_wf _ _ hs.1)
  case stencilCommandDone => exact wf_of_mended _ (stCommandDone_wf _ (Mem.found_wf _ _ hs.1))
  case stencilEcc => exact wf_of_mended _ (stSramError_wf _ (Mem.found_wf _ _ hs.1) _ _)
  case frameFlip => exact wf_of_mended _ (frameFlip_wf _ (Mem.found_wf _ _ hs.1) _ _ _ _)
  case dmaJobDone => exact wf_of_mended _ (dmaJobDone_wf _ (Mem.found_wf _ _ hs.1) _ _ _)
  case windowAccess =>
    exact wf_of_mended _ (ite_wf (g := Prod.fst) (winWrite_wf _ (Mem.found_wf _ _ hs.1) _ _) (Mem.found_wf _ _ hs.1))
  case registerWrite => exact wf_of_mended _ (flushFills_wf _ (Mem.found_wf _ _ hs.1))
  case imageLoadData => exact wf_of_mended _ (flushFills_wf _ hs.1)
  case dmaLoadEnd => exact wf_of_mended _ (flushFills_wf _ hs.1)
  case vostanWrite => exact wf_of_mended _ (flushFills_wf _ hs.1)
  case blockWrite => exact wf_of_mended _ (flushFills_wf _ hs.1)
  case mailboxGo => exact wf_of_mended _ (flushFills_wf _ hs.1)
  all_goals exact ⟨hs.1, hs.2⟩

end Sys2Proof.Machine

open Sys2Proof Sys2Proof.Machine

/-- Settles O3: the form holds after the command at the front of the queue, and an idle step leaves the state. -/
theorem stepsKeepTheFormOfDram : Obligations.StepsKeepTheFormOfDram := by
  unfold Obligations.StepsKeepTheFormOfDram
  intro s t hs ht
  unfold step at ht
  split at ht
  next =>
    injection ht with ht
    exact ht ▸ hs
  next i rest _ => exact exec_wf i { s with pending := rest } t ⟨hs.1, hs.2⟩ ht

end

section
/-! PROOFS. A load's job into a slot of DRAM that is out of form (15 R425, 03 R85; assumption log 7). -/
namespace Sys2Proof.Machine

/-- A load of two raw octets into slot 0, of which the first has come. -/
def firstOctetLoad : XzLoad := ⟨0, 0, 2, [0], false, 0, false, none⟩

/-- A part with memory up, whose load waits for the inflate pipe; DRAM lists the first octet of slot 0 twice, which is not its canonical form. -/
def jobOverDramListedTwice : State :=
  { State.reset with
    ctl := { (({} : Ctl).setE 0x500003 2).setXz (fun x => { x with load := some firstOctetLoad }) with cx := { imgJobs := [(0, 0)] } }
    mem := { dram := [(0, 1), (0, 1)] } }

/-- The zero that enters with the job takes one of the two listings away: the octet still reads as the other. -/
theorem cxJobStart_jobOverDramListedTwice {t : State} (h : exec (.cxJobStart 0 0) jobOverDramListedTwice = .next t) : t.mem.read 0 1 = [1] := by
  cases h
  decide +kernel

end Sys2Proof.Machine

open Sys2Proof Sys2Proof.Machine

/-- Refutes O56: the first clause of CX_JOB_START says that the octets of a load read back from its slot, of any DRAM. As in O58 it does not ask for
DRAM in the canonical form (`Mem.wf`; assumption log 7), and where DRAM lists an address twice a zero stored there does not read back. -/
theorem not_compressionJobsRun : ¬ Obligations.CompressionJobsRun := by
  unfold Obligations.CompressionJobsRun
  intro h
  obtain ⟨hload, -⟩ := h
  obtain ⟨t, hexec, -, -, -, hread, -⟩ := hload 0 (0, 0) [] firstOctetLoad [0] jobOverDramListedTwice (by decide) rfl (by decide) (.inl rfl) rfl rfl rfl
    (by decide) (by decide) (.inr (by decide))
  have hzero : t.mem.read 0 1 = [0] := hread (by decide)
  rw [cxJobStart_jobOverDramListedTwice hexec] at hzero
  exact absurd hzero (by decide)

end

section
/-! PROOFS. The CRC units (15 R434 to R442): a unit's entries, what a write, a command and an item of its snoop point do to them, and that no unit touches
another's. -/
namespace Sys2Proof.Machine

/-! ### The commands -/

theorem exec_crcStart (dt u : Nat) (s : State) : exec (.crcStart dt u) s = runC (fun c => (c.advance dt).when (decide (u < 8)) (·.ckStart u)) s := rfl
theorem exec_crcStop (dt u : Nat) (s : State) : exec (.crcStop dt u) s = runC (fun c => (c.advance dt).when (decide (u < 8)) (·.ckStop u)) s := rfl
theorem exec_crcCompare (dt u : Nat) (s : State) :
    exec (.crcCompare dt u) s = runC (fun c => (c.advance dt).when (decide (u < 8)) (·.ckCompareCmd u)) s := rfl
theorem exec_crcFeed (dt u : Nat) (bytes : List Byte) (s : State) :
    exec (.crcFeed dt u bytes) s = runC (fun c => (c.advance dt).when (decide (u < 8)) (·.ckFeed u bytes)) s := rfl
theorem exec_crcValueWrite (dt u v : Nat) (s : State) :
    exec (.crcValueWrite dt u v) s = runC (fun c => (c.advance dt).when (decide (u < 8)) (·.ckValueWrite u v)) s := rfl
theorem exec_snoopItem (dt point : Nat) (overflow : Bool) (s : State) :
    exec (.snoopItem dt point overflow) s = runC (fun c => (c.advance dt).snoopItem point overflow) s := rfl
theorem exec_crcUnitFault (dt u : Nat) (s : State) :
    exec (.crcUnitFault dt u) s = runC (fun c => (c.advance dt).when (decide (u < 8)) (·.ckFault u)) s := rfl

/-- A command of a unit that the part has. -/
theorem Ctl.when_unit (c : Ctl) (f : Ctl → Ctl) {u n : Nat} (hu : u < n) : c.when (decide (u < n)) f = f c := by
  rw [decide_eq_true hu]
  rfl

/-! ### Bits -/

/-- One bit is set or cleared, and the others stand. -/
theorem bit_setBit (w i j : Nat) (v : Bool) : bit (setBit w i v) j = if i = j then v else bit w j := by
  have hsplit : setBit w i v = 2 ^ i * (w / 2 ^ i - w / 2 ^ i % 2 + b2n v) + w % 2 ^ i := by
    have hw := Nat.div_add_mod w (2 ^ i)
    have hle : w / 2 ^ i % 2 * 2 ^ i ≤ 2 ^ i * (w / 2 ^ i) := by
      rw [Nat.mul_comm]
      exact Nat.mul_le_mul_left _ (Nat.mod_le _ _)
    have hv : (if v then 1 else 0) % 2 = b2n v := by cases v <;> rfl
    simp only [setBit, setBits, bits, Nat.sub_self, Nat.zero_add, pow_one, Nat.shiftRight_eq_div_pow, hv]
    rw [Nat.mul_add, Nat.mul_sub, Nat.mul_comm (2 ^ i) (b2n v), Nat.mul_comm (2 ^ i) (w / 2 ^ i % 2)]
    omega
  unfold bit
  rw [hsplit, Nat.testBit_two_pow_mul_add _ (Nat.mod_lt _ (Nat.two_pow_pos i))]
  rcases Nat.lt_trichotomy i j with h | h | h
  · obtain ⟨k, rfl⟩ : ∃ k, j = i + k + 1 := ⟨j - i - 1, by omega⟩
    have hk : i + k + 1 - i = k + 1 := by omega
    have hb : b2n v ≤ 1 := by cases v <;> decide
    have hhalf : (w / 2 ^ i - w / 2 ^ i % 2 + b2n v) / 2 = w / 2 ^ i / 2 := by generalize w / 2 ^ i = q; omega
    rw [if_neg (by omega), if_neg (by omega), hk, Nat.testBit_add_one, hhalf, ← Nat.testBit_add_one, Nat.testBit_div_two_pow,
      Nat.add_comm (k + 1) i, Nat.add_assoc]
  · subst h
    rw [if_neg (Nat.lt_irrefl i), if_pos rfl, Nat.sub_self, Nat.testBit_zero]
    cases v <;> simp only [b2n] <;> simp <;> omega
  · rw [if_pos h, if_neg (by omega), Nat.testBit_mod_two_pow]
    simp [h]

/-! ### A unit's entries -/

/-- The indices of a unit's entries. -/
abbrev ckIdx (x : Nat) : Prop := 0x5210 ≤ x ∧ x ≤ 0x521B

theorem postKey_ckIdx {x u : Nat} (hx : ckIdx x) (hu : u < 8) : postKey (ekey x (u + 1)) = false := by
  obtain ⟨hlo, hhi⟩ := hx
  unfold postKey ekey
  rw [decide_eq_false (p := (x * 256 + (u + 1)) / 256 = 0x5310) (by omega), decide_eq_false (p := x * 256 + (u + 1) = 0x530005) (by omega),
    decide_eq_false (p := 0x700001 ≤ x * 256 + (u + 1)) (by omega)]
  rfl

@[simp] theorem Ctl.ea_setEa_same (c : Ctl) (x i n : Nat) : (c.setEa x i n).ea x i = n := (c.e_setEa x i _ n).trans (if_pos rfl)

/-- An element of an array is its own: of another index, or of another unit, it stands. -/
theorem Ctl.ea_setEa_ne (c : Ctl) {x i n y j : Nat} (hi : i < 8) (hj : j < 8) (h : x ≠ y ∨ i ≠ j) : (c.setEa x i n).ea y j = c.ea y j :=
  (c.e_setEa x i _ n).trans (if_neg (by unfold ekey; omega))

/-- Another entry of the same unit. -/
theorem Ctl.ea_setEa_idx (c : Ctl) {x u n y : Nat} (hu : u < 8) (h : x ≠ y) : (c.setEa x u n).ea y u = c.ea y u := c.ea_setEa_ne hu hu (.inl h)

theorem Ctl.ea_post_ck (c : Ctl) {code : Nat} (items : List (Nat × Nat)) {x u : Nat} (hcode : code < 65536) (hx : ckIdx x) (hu : u < 8) :
    (c.post code items).ea x u = c.ea x u := c.ea_post code items x u (postKey_ckIdx hx hu) hcode

theorem Ctl.ckBit_congr {c d : Ctl} {u : Nat} (h : d.ea 0x5219 u = c.ea 0x5219 u) (b : Nat) : d.ckBit u b = c.ckBit u b := by
  unfold Ctl.ckBit
  rw [h]

/-- A CK_STATUS bit is set or cleared, and the others stand. -/
theorem Ctl.ckBit_setCkBit (c : Ctl) (u i j : Nat) (v : Bool) : (c.setCkBit u i v).ckBit u j = if i = j then v else c.ckBit u j := by
  unfold Ctl.ckBit Ctl.setCkBit
  rw [Ctl.ea_setEa_same, bit_setBit]

theorem Ctl.ea_setCkBit (c : Ctl) {u i x : Nat} (v : Bool) (hu : u < 8) (hx : x ≠ 0x5219) : (c.setCkBit u i v).ea x u = c.ea x u :=
  c.ea_setEa_ne hu hu (.inl hx.symm)

/-- A unit that takes no command, without being OUT, is not held by the image manager either. -/
theorem Ctl.ckHeld_eq_false {c : Ctl} {u : Nat} (h : c.ckHeld u = false) : c.ckBit u 9 = false ∧ c.ckBit u 8 = false := Bool.or_eq_false_iff.1 h

/-- A unit that is not OUT shows a refused write. -/
theorem Ctl.ckRefuse_of_in {c : Ctl} {u : Nat} (h : c.ckBit u 9 = false) : c.ckRefuse u = c.setCkBit u 5 true := by
  unfold Ctl.ckRefuse
  rw [h]
  rfl

/-- RESULT that follows VALUE, or stands. -/
theorem Ctl.ea_ckFollow (c : Ctl) (u : Nat) : (c.ckFollow u).ea 0x5216 u = if c.ckSnoop u then c.ea 0x5216 u else c.ckResult u := by
  unfold Ctl.ckFollow
  split
  · rfl
  · exact c.ea_setEa_same ..

/-- What follows VALUE is RESULT alone. -/
theorem Ctl.ea_ckFollow_ne (c : Ctl) {u x : Nat} (hu : u < 8) (hx : x ≠ 0x5216) : (c.ckFollow u).ea x u = c.ea x u := by
  unfold Ctl.ckFollow
  split
  · rfl
  · exact c.ea_setEa_ne hu hu (.inl hx.symm)

/-- The result that a unit's entries give. -/
theorem Ctl.ckResult_congr {c d : Ctl} {u : Nat} (hcfg : d.ea 0x5210 u = c.ea 0x5210 u) (hxor : d.ea 0x5213 u = c.ea 0x5213 u)
    (hval : d.ea 0x5215 u = c.ea 0x5215 u) : d.ckResult u = c.ckResult u := by
  simp only [Ctl.ckResult, Ctl.ckVal, Ctl.ckWidth, Ctl.ckRefout, hcfg, hxor, hval]

theorem Ctl.ckResult_ckFollow (c : Ctl) {u : Nat} (hu : u < 8) : (c.ckFollow u).ckResult u = c.ckResult u :=
  Ctl.ckResult_congr (c.ea_ckFollow_ne hu (by decide)) (c.ea_ckFollow_ne hu (by decide)) (c.ea_ckFollow_ne hu (by decide))

theorem Ctl.regs_ckFollow (c : Ctl) (u : Nat) : (c.ckFollow u).regs = c.regs := by
  unfold Ctl.ckFollow
  split <;> rfl

/-! ### Writes (15 R435, R437) -/

/-- A write while the unit runs is refused; EXPECT alone may be written then. -/
theorem Ctl.ckWrite_busy (c : Ctl) {idx u : Nat} (v : Nat) (hidx : idx ≠ 0x5214) (hheld : c.ckHeld u = false)
    (hbusy : c.ckBit u 0 = true ∨ c.ckBit u 1 = true) : c.ckWrite idx u v = c.setCkBit u 5 true := by
  have hidle : (idx ≠ 0x5214 && (c.ckBit u 1 || c.ckBit u 0)) = true := by
    rcases hbusy with h | h <;> simp [hidx, h]
  unfold Ctl.ckWrite
  rw [hheld, if_neg (by decide), if_pos hidle]
  exact Ctl.ckRefuse_of_in (Ctl.ckHeld_eq_false hheld).1

/-- A write of a parameter or of VALUE while the unit is idle, cut to its WIDTH. -/
theorem Ctl.ckWrite_idle (c : Ctl) {idx u : Nat} (v : Nat) (hidx : idx ≠ 0x5210) (hheld : c.ckHeld u = false) (h0 : c.ckBit u 0 = false)
    (h1 : c.ckBit u 1 = false) : c.ckWrite idx u v = (c.setEa idx u (v % 2 ^ c.ckWidth u)).ckFollow u := by
  unfold Ctl.ckWrite
  rw [hheld, h0, h1, if_neg (by decide), if_neg (by simp), if_neg hidx]

/-- CK_CFG as a write of allowed fields leaves it. -/
def ckCfgOf (v : Nat) : Nat :=
  bits v 31 24 * 2 ^ 24 + bits v 19 16 * 2 ^ 16 + b2n (bit v 14) * 2 ^ 14 + b2n (bit v 12) * 2 ^ 12 + bits v 9 8 * 2 ^ 8 + bits v 6 0

/-- A write of CK_CFG while the unit is idle, of a width and a snoop point that there are. -/
theorem Ctl.ckWrite_cfg (c : Ctl) {u v : Nat} (hheld : c.ckHeld u = false) (h0 : c.ckBit u 0 = false) (h1 : c.ckBit u 1 = false)
    (hpos : 1 ≤ bits v 6 0) (hmax : bits v 6 0 ≤ 64) (hpoint : bits v 19 16 ≤ 11) :
    c.ckWrite 0x5210 u v = (c.setEa 0x5210 u (ckCfgOf v)).ckFollow u := by
  have hw : ¬(bits v 6 0 = 0 ∨ bits v 6 0 > 64) := by omega
  have hp : ¬(bits v 19 16 > 11) := by omega
  unfold Ctl.ckWrite
  rw [hheld, h0, h1, if_neg (by decide), if_neg (by simp), if_pos rfl]
  simp only [if_neg hw, if_neg hp, ckCfgOf]

theorem b2n_bit (w i : Nat) : b2n (bit w i) = w / 2 ^ i % 2 := by
  simp only [bit, Nat.testBit_eq_decide_div_mod_eq, b2n, decide_eq_true_eq]
  split <;> omega

/-- What stands in the places of CK_CFG: SNOOP_ARG and SNOOP_POINT, two flags, REFIN with REFOUT, and WIDTH. -/
theorem cfg_places {arg point stop mode ref width : Nat} (hmode : mode < 2) (href : ref < 4) (hwidth : width < 128) :
    (arg * 16777216 + point * 65536 + stop * 16384 + mode * 4096 + ref * 256 + width) % 128 = width ∧
    (arg * 16777216 + point * 65536 + stop * 16384 + mode * 4096 + ref * 256 + width) / 256 % 2 = ref % 2 ∧
    (arg * 16777216 + point * 65536 + stop * 16384 + mode * 4096 + ref * 256 + width) / 512 % 2 = ref / 2 ∧
    (arg * 16777216 + point * 65536 + stop * 16384 + mode * 4096 + ref * 256 + width) / 4096 % 2 = mode := by
  refine ⟨?_, ?_, ?_, ?_⟩ <;> omega

/-- The fields that a write of CK_CFG puts in its places. -/
theorem ckCfgOf_fields (v : Nat) :
    bits (ckCfgOf v) 6 0 = bits v 6 0 ∧ bit (ckCfgOf v) 8 = bit v 8 ∧ bit (ckCfgOf v) 9 = bit v 9 ∧ bit (ckCfgOf v) 12 = bit v 12 := by
  have hhalf : v / 256 % 4 / 2 = v / 512 % 2 := by omega
  have hcfg : ckCfgOf v = v / 16777216 % 256 * 16777216 + v / 65536 % 16 * 65536 + v / 16384 % 2 * 16384 + v / 4096 % 2 * 4096 +
      v / 256 % 4 * 256 + v % 128 := by simp [ckCfgOf, b2n_bit, bits, Nat.shiftRight_eq_div_pow]
  obtain ⟨hwidth, hrefin, hrefout, hmode⟩ := cfg_places (arg := v / 16777216 % 256) (point := v / 65536 % 16) (stop := v / 16384 % 2)
    (mode := v / 4096 % 2) (ref := v / 256 % 4) (width := v % 128) (Nat.mod_lt _ (by decide)) (Nat.mod_lt _ (by decide))
    (Nat.mod_lt _ (by decide))
  rw [hcfg]
  simp only [bit, Nat.testBit_eq_decide_div_mod_eq, bits, Nat.shiftRight_eq_div_pow, decide_eq_decide]
  refine ⟨?_, ?_, ?_, ?_⟩
  · rw [show (2 : Nat) ^ (6 - 0 + 1) = 128 from rfl, pow_zero, Nat.div_one, Nat.div_one, hwidth]
  · rw [show (2 : Nat) ^ 8 = 256 from rfl, hrefin, Nat.mod_mod_of_dvd _ (by decide)]
  · rw [show (2 : Nat) ^ 9 = 512 from rfl, hrefout, hhalf]
  · rw [show (2 : Nat) ^ 12 = 4096 from rfl, hmode]

/-! ### Commands of a unit (15 R435, R436, R438, R445) -/

/-- SNOOP mode stands in CK_CFG. -/
theorem Ctl.ckSnoop_congr {c d : Ctl} {u : Nat} (h : d.ea 0x5210 u = c.ea 0x5210 u) : d.ckSnoop u = c.ckSnoop u := congrArg (bit · 12) h

/-- START forgets what has passed at the unit's point, where no other unit is armed there, and a STOP that waits. -/
def Ctl.ckForget (c : Ctl) (u : Nat) : Ctl :=
  let others := (List.range 8).any (fun v => v ≠ u && c.ckBit v 1 && c.ckPoint v = c.ckPoint u)
  { c with cx := { c.cx with
    stopping := c.cx.stopping.filter (· ≠ u), passed := c.cx.passed.filter (fun r => others || r.point ≠ c.ckPoint u) } }

/-- A unit's counters and VALUE as START leaves them. -/
def Ctl.ckLoaded (c : Ctl) (u : Nat) : Ctl := ((c.setEa 0x5215 u (c.ckVal 0x5212 u)).setEa 0x521A u 0).setEa 0x521B u 0

theorem Ctl.ckStart_eq (c : Ctl) {u : Nat} (hheld : c.ckHeld u = false) :
    c.ckStart u = (((c.ckForget u).ckLoaded u).setCkBit u 1 (((c.ckForget u).ckLoaded u).ckSnoop u)).ckFollow u := by
  unfold Ctl.ckStart
  rw [hheld, if_neg (by decide)]
  rfl

theorem Ctl.ent_ckForget (c : Ctl) (u : Nat) : (c.ckForget u).ent = c.ent := rfl

/-- START changes VALUE and the two counters. -/
theorem Ctl.ea_ckLoaded (c : Ctl) {u : Nat} (hu : u < 8) :
    (c.ckLoaded u).ea 0x5215 u = c.ckVal 0x5212 u ∧ (c.ckLoaded u).ea 0x521A u = 0 ∧ (c.ckLoaded u).ea 0x521B u = 0 ∧
      (c.ckLoaded u).ea 0x5210 u = c.ea 0x5210 u ∧ (c.ckLoaded u).ea 0x5216 u = c.ea 0x5216 u := by
  unfold Ctl.ckLoaded
  refine ⟨?_, ?_, Ctl.ea_setEa_same .., ?_, ?_⟩
  · rw [Ctl.ea_setEa_idx _ hu (by decide), Ctl.ea_setEa_idx _ hu (by decide), Ctl.ea_setEa_same]
  · rw [Ctl.ea_setEa_idx _ hu (by decide), Ctl.ea_setEa_same]
  · rw [Ctl.ea_setEa_idx _ hu (by decide), Ctl.ea_setEa_idx _ hu (by decide), Ctl.ea_setEa_idx _ hu (by decide)]
  · rw [Ctl.ea_setEa_idx _ hu (by decide), Ctl.ea_setEa_idx _ hu (by decide), Ctl.ea_setEa_idx _ hu (by decide)]

/-- START: VALUE is INIT, the counters are 0, and in SNOOP mode the unit is armed. -/
theorem Ctl.ckStart_runs (c : Ctl) {u : Nat} (hu : u < 8) (hheld : c.ckHeld u = false) :
    (c.ckStart u).ea 0x5215 u = c.ckVal 0x5212 u ∧ (c.ckStart u).ea 0x521A u = 0 ∧ (c.ckStart u).ea 0x521B u = 0 ∧
      (c.ckStart u).ckBit u 1 = c.ckSnoop u ∧ (c.ckStart u).ea 0x5216 u = (if c.ckSnoop u then c.ea 0x5216 u else (c.ckStart u).ckResult u) ∧
      (c.ckStart u).ea 0x5210 u = c.ea 0x5210 u := by
  obtain ⟨hval, hitems, hmissed, hcfg, hresult⟩ := (c.ckForget u).ea_ckLoaded hu
  have hsnoop : ((c.ckForget u).ckLoaded u).ckSnoop u = c.ckSnoop u := Ctl.ckSnoop_congr hcfg
  have hstands : ∀ x, x ≠ 0x5219 → x ≠ 0x5216 → (c.ckStart u).ea x u = ((c.ckForget u).ckLoaded u).ea x u := fun x hx hx' => by
    rw [c.ckStart_eq hheld, Ctl.ea_ckFollow_ne _ hu hx', Ctl.ea_setCkBit _ _ hu hx]
  refine ⟨(hstands _ (by decide) (by decide)).trans hval, (hstands _ (by decide) (by decide)).trans hitems,
    (hstands _ (by decide) (by decide)).trans hmissed, ?_, ?_, (hstands _ (by decide) (by decide)).trans hcfg⟩
  · rw [c.ckStart_eq hheld, Ctl.ckBit_congr (Ctl.ea_ckFollow_ne _ hu (by decide)), Ctl.ckBit_setCkBit, if_pos rfl, hsnoop]
  · rw [c.ckStart_eq hheld, Ctl.ea_ckFollow, Ctl.ckSnoop_congr (Ctl.ea_setCkBit _ _ hu (by decide)), hsnoop, Ctl.ckResult_ckFollow _ hu,
      Ctl.ea_setCkBit _ _ hu (by decide), hresult]
    rfl

/-- COMPARE shows MATCH, or MISMATCH for good, and leaves the unit's other entries. -/
theorem Ctl.ckCompare_shows (c : Ctl) {u : Nat} (hu : u < 8) :
    (c.ckCompare u).ckBit u 2 = decide (c.ckVal 0x5216 u = c.ckVal 0x5214 u) ∧
      (c.ckVal 0x5216 u ≠ c.ckVal 0x5214 u → (c.ckCompare u).ckBit u 3 = true) := by
  unfold Ctl.ckCompare
  by_cases h : c.ckVal 0x5216 u = c.ckVal 0x5214 u
  · rw [if_pos h, Ctl.ckBit_setCkBit, if_pos rfl]
    exact ⟨(decide_eq_true h).symm, fun hne => absurd h hne⟩
  · have hbit := fun b => Ctl.ckBit_congr (Ctl.ea_post_ck ((c.setCkBit u 2 false).setCkBit u 3 true) (code := 0x4241) (x := 0x5219) [i8 u] (by decide)
      (by decide) hu) b
    rw [if_neg h, hbit, hbit, Ctl.ckBit_setCkBit, Ctl.ckBit_setCkBit, if_neg (by decide), if_pos rfl]
    exact ⟨(decide_eq_false h).symm, fun _ => by rw [Ctl.ckBit_setCkBit, if_pos rfl]⟩

/-- COMPARE changes the unit's status alone, and of it MATCH and MISMATCH. -/
theorem Ctl.ea_ckCompare (c : Ctl) {u x v : Nat} (hu : u < 8) (hv : v < 8) (hx : ckIdx x) (h : x ≠ 0x5219 ∨ v ≠ u) :
    (c.ckCompare u).ea x v = c.ea x v := by
  have hset : ∀ (d : Ctl) (i : Nat) (b : Bool), (d.setCkBit u i b).ea x v = d.ea x v := fun d i b =>
    d.ea_setEa_ne hu hv (h.imp Ne.symm Ne.symm)
  unfold Ctl.ckCompare
  split
  · exact hset ..
  · rw [Ctl.ea_post_ck _ _ (by decide) hx hv, hset, hset]

theorem Ctl.ckBit_ckCompare (c : Ctl) {u b : Nat} (hu : u < 8) (h2 : b ≠ 2) (h3 : b ≠ 3) : (c.ckCompare u).ckBit u b = c.ckBit u b := by
  unfold Ctl.ckCompare
  split
  · rw [Ctl.ckBit_setCkBit, if_neg h2.symm]
  · rw [Ctl.ckBit_congr (Ctl.ea_post_ck _ _ (by decide) (by decide) hu), Ctl.ckBit_setCkBit, if_neg h3.symm, Ctl.ckBit_setCkBit, if_neg h2.symm]

/-- A unit whose run has stopped, before the event: RESULT is latched, the unit is done. -/
def Ctl.ckDone (c : Ctl) (u : Nat) : Ctl :=
  let c := { c with cx := { c.cx with stopping := c.cx.stopping.filter (· ≠ u) } }
  ((c.setEa 0x5216 u (c.ckResult u)).setCkBit u 1 false).setCkBit u 7 true

theorem Ctl.ckStopRun_eq (c : Ctl) (u : Nat) :
    c.ckStopRun u = if bit (((c.ckDone u).post 0x4201 [i8 u]).ea 0x5210 u) 14 then ((c.ckDone u).post 0x4201 [i8 u]).ckCompare u
      else (c.ckDone u).post 0x4201 [i8 u] := rfl

theorem Ctl.ea_ckDone (c : Ctl) {u x v : Nat} (hu : u < 8) (hv : v < 8) (h : (x ≠ 0x5219 ∧ x ≠ 0x5216) ∨ v ≠ u) : (c.ckDone u).ea x v = c.ea x v := by
  have hset : ∀ (d : Ctl) (i : Nat) (b : Bool), (d.setCkBit u i b).ea x v = d.ea x v := fun d i b =>
    d.ea_setEa_ne hu hv (h.imp (fun h => h.1.symm) Ne.symm)
  unfold Ctl.ckDone
  dsimp only
  rw [hset, hset, Ctl.ea_setEa_ne _ hu hv (h.imp (fun h => h.2.symm) Ne.symm)]
  rfl

theorem Ctl.ckDone_shows (c : Ctl) {u : Nat} (hu : u < 8) :
    (c.ckDone u).ea 0x5216 u = c.ckResult u ∧ ∀ b, (c.ckDone u).ckBit u b = if 7 = b then true else if 1 = b then false else c.ckBit u b := by
  unfold Ctl.ckDone
  dsimp only
  refine ⟨?_, fun b => ?_⟩
  · rw [Ctl.ea_setCkBit _ _ hu (by decide), Ctl.ea_setCkBit _ _ hu (by decide), Ctl.ea_setEa_same]
    rfl
  · rw [Ctl.ckBit_setCkBit, Ctl.ckBit_setCkBit, Ctl.ckBit_congr (Ctl.ea_setEa_idx _ hu (by decide))]
    rfl

/-- A run that stops latches RESULT and shows that it is done. -/
theorem Ctl.ckStopRun_shows (c : Ctl) {u : Nat} (hu : u < 8) :
    (c.ckStopRun u).ea 0x5216 u = c.ckResult u ∧ (c.ckStopRun u).ckBit u 1 = false ∧ (c.ckStopRun u).ckBit u 7 = true ∧
      ((c.ckStopRun u).ckBit u 4 = c.ckBit u 4) := by
  obtain ⟨hres, hbit⟩ := c.ckDone_shows hu
  have hpost : ∀ b, ((c.ckDone u).post 0x4201 [i8 u]).ckBit u b = (c.ckDone u).ckBit u b :=
    Ctl.ckBit_congr (Ctl.ea_post_ck _ _ (by decide) (by decide) hu)
  have hpostRes : ((c.ckDone u).post 0x4201 [i8 u]).ea 0x5216 u = (c.ckDone u).ea 0x5216 u := Ctl.ea_post_ck _ _ (by decide) (by decide) hu
  have hrun : (c.ckStopRun u).ea 0x5216 u = c.ckResult u ∧ ∀ b, b ≠ 2 → b ≠ 3 → (c.ckStopRun u).ckBit u b = (c.ckDone u).ckBit u b := by
    rw [Ctl.ckStopRun_eq]
    split
    · exact ⟨(Ctl.ea_ckCompare _ hu hu (by decide) (.inl (by decide))).trans (hpostRes.trans hres), fun b h2 h3 =>
        (Ctl.ckBit_ckCompare _ hu h2 h3).trans (hpost b)⟩
    · exact ⟨hpostRes.trans hres, fun b _ _ => hpost b⟩
  obtain ⟨hresult, hstatus⟩ := hrun
  refine ⟨hresult, ?_, ?_, ?_⟩
  · exact (hstatus 1 (by decide) (by decide)).trans (hbit 1)
  · exact (hstatus 7 (by decide) (by decide)).trans (hbit 7)
  · exact (hstatus 4 (by decide) (by decide)).trans (hbit 4)

/-- A run that stops changes the unit's RESULT and status, and no other unit. -/
theorem Ctl.ea_ckStopRun (c : Ctl) {u x v : Nat} (hu : u < 8) (hv : v < 8) (hx : ckIdx x) (h : (x ≠ 0x5219 ∧ x ≠ 0x5216) ∨ v ≠ u) :
    (c.ckStopRun u).ea x v = c.ea x v := by
  rw [Ctl.ckStopRun_eq]
  split
  · rw [Ctl.ea_ckCompare _ hu hv hx (h.imp And.left id), Ctl.ea_post_ck _ _ (by decide) hx hv, Ctl.ea_ckDone _ hu hv h]
  · rw [Ctl.ea_post_ck _ _ (by decide) hx hv, Ctl.ea_ckDone _ hu hv h]

theorem Ctl.cx_ckCompare (c : Ctl) (u : Nat) : (c.ckCompare u).cx = c.cx := by
  unfold Ctl.ckCompare
  split
  · rfl
  · rw [Ctl.post_cx]
    rfl

theorem Ctl.passed_ckStopRun (c : Ctl) (u : Nat) : (c.ckStopRun u).cx.passed = c.cx.passed := by
  rw [Ctl.ckStopRun_eq]
  split
  · rw [Ctl.cx_ckCompare, Ctl.post_cx]
    rfl
  · rw [Ctl.post_cx]
    rfl

theorem Ctl.outNow_fmKept (c : Ctl) : c.fmKept.outNow = c.fm.outNow := rfl

/-- An event takes no unit out of service. -/
theorem Ctl.outNow_post (c : Ctl) (code : Nat) (items : List (Nat × Nat)) : (c.post code items).fm.outNow = c.fm.outNow := by
  rw [← Ctl.outNow_fmKept, (c.fmKept_post code items).1, Ctl.outNow_fmKept]

/-- A unit that fails stops and is OUT; its VALUE stands. -/
theorem Ctl.ckFault_out (c : Ctl) {u : Nat} (hu : u < 8) :
    (c.ckFault u).ckBit u 1 = false ∧ (c.ckFault u).ckBit u 9 = true ∧ (c.ckFault u).isOut 0x42 u = true ∧
      (c.ckFault u).ea 0x5215 u = c.ea 0x5215 u := by
  generalize hd : (c.setCkBit u 1 false).setCkBit u 9 true = d
  have hbit : ∀ b, d.ckBit u b = if 9 = b then true else if 1 = b then false else c.ckBit u b := fun b => by
    rw [← hd, Ctl.ckBit_setCkBit, Ctl.ckBit_setCkBit]
  have hval : d.ea 0x5215 u = c.ea 0x5215 u := by
    rw [← hd, Ctl.ea_setCkBit _ _ hu (by decide), Ctl.ea_setCkBit _ _ hu (by decide)]
  have hfault : c.ckFault u = (d.unitOut 0x42 u).post 0x42C1 [i8 u] := by
    rw [← hd]
    rfl
  have hstatus : ∀ b, (c.ckFault u).ckBit u b = d.ckBit u b := Ctl.ckBit_congr (hfault ▸ Ctl.ea_post_ck _ _ (by decide) (by decide) hu)
  have hout : (c.ckFault u).fm.outNow = insertRising d.fm.outNow (unitKey 0x42 u) := by
    rw [hfault, Ctl.outNow_post]
    rfl
  refine ⟨(hstatus 1).trans (hbit 1), (hstatus 9).trans (hbit 9), ?_, ?_⟩
  · unfold Ctl.isOut
    rw [hout]
    exact List.contains_iff_mem.2 ((mem_insertRising_iff ..).2 (.inl rfl))
  · rw [hfault, Ctl.ea_post_ck _ _ (by decide) (by decide) hu, ← hval]
    rfl

/-! ### Items of a snoop point (15 R438, R439) -/

/-- A unit that sees an item changes no other unit. -/
theorem Ctl.ea_ckItem_other (c : Ctl) (point tag : Nat) (bs : List Byte) (overflow : Bool) {u x v : Nat} (hu : u < 8) (hv : v < 8) (hx : ckIdx x)
    (hne : v ≠ u) : (c.ckItem point tag bs overflow u).ea x v = c.ea x v := by
  have hset : ∀ (d : Ctl) (y n : Nat), (d.setEa y u n).ea x v = d.ea x v := fun d y n => d.ea_setEa_ne hu hv (.inr hne.symm)
  have hstop : ∀ d : Ctl, (d.ckStopRun u).ea x v = d.ea x v := fun d => d.ea_ckStopRun hu hv hx (.inr hne)
  unfold Ctl.ckItem
  dsimp only
  split
  · rfl
  · split
    · exact hset ..
    · split
      · rfl
      · split
        · split
          · rw [hstop, Ctl.ea_post_ck _ _ (by decide) hx hv]
            exact (hset ..).trans (hset ..)
          · rw [Ctl.ea_post_ck _ _ (by decide) hx hv]
            exact (hset ..).trans (hset ..)
        · split
          · rw [hstop]
            exact (hset ..).trans (hset ..)
          · exact (hset ..).trans (hset ..)

/-- A unit that sees an item keeps what has passed. -/
theorem Ctl.passed_ckItem (c : Ctl) (point tag : Nat) (bs : List Byte) (overflow : Bool) (u : Nat) :
    (c.ckItem point tag bs overflow u).cx.passed = c.cx.passed := by
  unfold Ctl.ckItem
  dsimp only
  split
  · rfl
  · split
    · rfl
    · split
      · rfl
      · split
        · split
          · rw [Ctl.passed_ckStopRun, Ctl.post_cx]
            rfl
          · rw [Ctl.post_cx]
            rfl
        · split
          · rw [Ctl.passed_ckStopRun]
            rfl
          · rfl

/-- The unit looks at an item: it is armed, free, and set to the item's point and kind. -/
def Ctl.ckTakes (c : Ctl) (u point tag : Nat) : Prop :=
  c.ckBit u 1 = true ∧ c.ckHeld u = false ∧ c.ckPoint u = point ∧ snoopTakes point (bits (c.ea 0x5210 u) 31 24) tag = true

/-- An item that a unit looks at is folded into VALUE and counted. -/
theorem Ctl.ckItem_folds (c : Ctl) {u point tag : Nat} (bs : List Byte) (hu : u < 8) (h : c.ckTakes u point tag) :
    (c.ckItem point tag bs false u).ea 0x5215 u = crcFold (c.ckWidth u) (c.ckVal 0x5211 u) (c.ckRefin u) (c.ckVal 0x5215 u) bs ∧
      (c.ckItem point tag bs false u).ea 0x521A u = satAdd 32 (c.ea 0x521A u) 1 := by
  obtain ⟨harmed, hheld, hpoint, htakes⟩ := h
  obtain ⟨h9, h8⟩ := Ctl.ckHeld_eq_false hheld
  unfold Ctl.ckItem
  dsimp only
  rw [if_neg (by simp [h9, hpoint]), if_neg (by simp [h8]), if_neg (by simp [harmed, htakes]), if_neg (by decide)]
  generalize hd : (c.ckFold u bs).setEa 0x521A u (satAdd 32 (c.ea 0x521A u) 1) = d
  have hval : d.ea 0x5215 u = crcFold (c.ckWidth u) (c.ckVal 0x5211 u) (c.ckRefin u) (c.ckVal 0x5215 u) bs := by
    rw [← hd, Ctl.ea_setEa_idx _ hu (by decide)]
    exact Ctl.ea_setEa_same ..
  have hitems : d.ea 0x521A u = satAdd 32 (c.ea 0x521A u) 1 := by
    rw [← hd, Ctl.ea_setEa_same]
  clear hd
  split
  · rw [Ctl.ea_ckStopRun _ hu hu (by decide) (.inl (by decide)), Ctl.ea_ckStopRun _ hu hu (by decide) (.inl (by decide))]
    exact ⟨hval, hitems⟩
  · exact ⟨hval, hitems⟩

/-- An item on which the buffer overflowed is counted as missed and shown. -/
theorem Ctl.ckItem_misses (c : Ctl) {u point tag : Nat} (bs : List Byte) (hu : u < 8) (h : c.ckTakes u point tag) :
    (c.ckItem point tag bs true u).ea 0x5215 u = c.ea 0x5215 u ∧ (c.ckItem point tag bs true u).ea 0x521A u = c.ea 0x521A u ∧
      (c.ckItem point tag bs true u).ea 0x521B u = satAdd (entWidth (ekey 0x521B (u + 1))) (c.ea 0x521B u) 1 ∧
      (c.ckItem point tag bs true u).ckBit u 4 = true := by
  obtain ⟨harmed, hheld, hpoint, htakes⟩ := h
  obtain ⟨h9, h8⟩ := Ctl.ckHeld_eq_false hheld
  unfold Ctl.ckItem
  dsimp only
  rw [if_neg (by simp [h9, hpoint]), if_neg (by simp [h8]), if_neg (by simp [harmed, htakes]), if_pos rfl]
  generalize hd : (((c.incEa 0x521B u).setCkBit u 4 true).post 0x4242 [i8 u, i32 (((c.incEa 0x521B u).setCkBit u 4 true).ea 0x521B u)]) = d
  have hinc : ∀ x, x ≠ 0x521B → (c.incEa 0x521B u).ea x u = c.ea x u := fun x hx => Ctl.ea_setEa_idx _ hu hx.symm
  have hval : d.ea 0x5215 u = c.ea 0x5215 u := by
    rw [← hd, Ctl.ea_post_ck _ _ (by decide) (by decide) hu, Ctl.ea_setCkBit _ _ hu (by decide), hinc _ (by decide)]
  have hitems : d.ea 0x521A u = c.ea 0x521A u := by
    rw [← hd, Ctl.ea_post_ck _ _ (by decide) (by decide) hu, Ctl.ea_setCkBit _ _ hu (by decide), hinc _ (by decide)]
  have hmissed : d.ea 0x521B u = satAdd (entWidth (ekey 0x521B (u + 1))) (c.ea 0x521B u) 1 := by
    rw [← hd, Ctl.ea_post_ck _ _ (by decide) (by decide) hu, Ctl.ea_setCkBit _ _ hu (by decide), Ctl.ea_incEa]
  have hover : d.ckBit u 4 = true := by
    rw [← hd, Ctl.ckBit_congr (Ctl.ea_post_ck _ _ (by decide) (by decide) hu), Ctl.ckBit_setCkBit, if_pos rfl]
  clear hd
  split
  · rw [Ctl.ea_ckStopRun _ hu hu (by decide) (.inl (by decide)), Ctl.ea_ckStopRun _ hu hu (by decide) (.inl (by decide)),
      Ctl.ea_ckStopRun _ hu hu (by decide) (.inl (by decide)), (d.ckStopRun_shows hu).2.2.2]
    exact ⟨hval, hitems, hmissed, hover⟩
  · exact ⟨hval, hitems, hmissed, hover⟩

/-- Units that see an item change none that is not among them. -/
theorem Ctl.ea_foldl_ckItem (l : List Nat) (c : Ctl) (r : SnoopRec) (overflow : Bool) {u x : Nat} (hl : ∀ v ∈ l, v < 8 ∧ u ≠ v) (hu : u < 8) (hx : ckIdx x) :
    (l.foldl (fun c v => c.ckItem r.point r.tag r.bytes overflow v) c).ea x u = c.ea x u :=
  foldl_keeps (Ctl.ea · x u) _ l c fun d v hv => d.ea_ckItem_other _ _ _ _ (hl v hv).1 hu hx (hl v hv).2

/-- An item that has passed is taken. -/
def Ctl.takeItem (c : Ctl) (r : SnoopRec) : Ctl := { c with cx := { c.cx with passed := c.cx.passed.erase r } }

/-- SNOOP_ITEM takes the oldest item of the point. -/
theorem Ctl.snoopItem_eq (c : Ctl) {point : Nat} {r : SnoopRec} (overflow : Bool) (h : c.cx.passed.find? (fun x => x.point = point) = some r) :
    c.snoopItem point overflow = (c.takeItem r).snoopFold r overflow := by
  unfold Ctl.snoopItem
  rw [h]
  rfl

/-- What unit `u` sees as the oldest item of its point is taken: the item's own effect on it, whatever the other units do. -/
theorem Ctl.snoopFold_unit (c : Ctl) (r : SnoopRec) (overflow : Bool) {u : Nat} (hu : u < 8) :
    ∃ d : Ctl, (∀ x, ckIdx x → d.ea x u = c.ea x u) ∧
      ∀ x, ckIdx x → (c.snoopFold r overflow).ea x u = (d.ckItem r.point r.tag r.bytes overflow u).ea x u := by
  obtain ⟨before, after, hrange⟩ := List.append_of_mem (List.mem_range.2 hu)
  have hnodup : (before ++ u :: after).Nodup := hrange ▸ List.nodup_range
  have hmem : ∀ v ∈ before ++ u :: after, v < 8 := fun v hv => List.mem_range.1 (hrange ▸ hv)
  obtain ⟨-, hafter, hdisj⟩ := List.nodup_append.1 hnodup
  have hu_after := (List.nodup_cons.1 hafter).1
  refine ⟨before.foldl (fun c v => c.ckItem r.point r.tag r.bytes overflow v) c, fun x hx => ?_, fun x hx => ?_⟩
  · exact Ctl.ea_foldl_ckItem before c r overflow
      (fun v hv => ⟨hmem v (List.mem_append_left _ hv), (hdisj v hv u List.mem_cons_self).symm⟩) hu hx
  · unfold Ctl.snoopFold
    rw [hrange, List.foldl_append, List.foldl_cons]
    exact Ctl.ea_foldl_ckItem after _ r overflow
      (fun v hv => ⟨hmem v (List.mem_append_right _ (List.mem_cons_of_mem _ hv)), fun h => hu_after (h ▸ hv)⟩) hu hx

theorem Ctl.passed_snoopFold (c : Ctl) (r : SnoopRec) (overflow : Bool) : (c.snoopFold r overflow).cx.passed = c.cx.passed :=
  foldl_keeps (fun d => d.cx.passed) _ _ c fun d _ _ => d.passed_ckItem ..

/-- What a unit looks at stands in its entries. -/
theorem Ctl.ckTakes_congr {c d : Ctl} {u point tag : Nat} (h : ∀ x, ckIdx x → d.ea x u = c.ea x u) (hc : c.ckTakes u point tag) :
    d.ckTakes u point tag := by
  have hbit : ∀ b, d.ckBit u b = c.ckBit u b := Ctl.ckBit_congr (h _ (by decide))
  unfold Ctl.ckTakes Ctl.ckHeld Ctl.ckPoint
  rw [hbit, hbit, hbit, h _ (by decide)]
  exact hc

end Sys2Proof.Machine

open Sys2Proof Sys2Proof.Machine

/-- Settles O12: a write of an idle unit goes in cut to its width, one of a busy unit is refused, and START loads the unit. -/
theorem crcUnitsTakeWritesWhileIdle : Obligations.CrcUnitsTakeWritesWhileIdle := by
  unfold Obligations.CrcUnitsTakeWritesWhileIdle
  refine ⟨fun c idx u v hu hidx hheld hbusy => ?busy, fun c idx u v hu hidx hheld h0 h1 => ?idle,
    fun c u v hu hheld h0 h1 hpos hmax hpoint => ?cfg, fun dt u s hu hheld => ?start⟩
  case busy =>
    refine c.ckWrite_busy v (fun h => ?_) hheld hbusy
    rw [h] at hidx
    exact absurd hidx (by decide)
  case idle =>
    have hcfg : idx ≠ 0x5210 := fun h => absurd (h ▸ hidx) (by decide)
    have hstatus : idx ≠ 0x5219 := fun h => absurd (h ▸ hidx) (by decide)
    have hresult : idx ≠ 0x5216 := fun h => absurd (h ▸ hidx) (by decide)
    rw [c.ckWrite_idle v hcfg hheld h0 h1]
    refine ⟨?_, Ctl.ckBit_congr ?_ 5⟩
    · rw [Ctl.ea_ckFollow_ne _ hu hresult, Ctl.ea_setEa_same]
    · rw [Ctl.ea_ckFollow_ne _ hu (by decide), Ctl.ea_setEa_idx _ hu hstatus]
  case cfg =>
    have hwritten : (c.ckWrite 0x5210 u v).ea 0x5210 u = ckCfgOf v := by
      rw [c.ckWrite_cfg hheld h0 h1 hpos hmax hpoint, Ctl.ea_ckFollow_ne _ hu (by decide), Ctl.ea_setEa_same]
    obtain ⟨hwidth, hrefin, hrefout, hsnoop⟩ := ckCfgOf_fields v
    unfold Ctl.ckWidth Ctl.ckRefin Ctl.ckRefout Ctl.ckSnoop
    rw [hwritten]
    exact ⟨hwidth, hrefin, hrefout, hsnoop⟩
  case start =>
    refine leaves_of_exec_eq_runC (exec_crcStart ..) ?_
    rw [Ctl.when_unit _ _ hu]
    obtain ⟨hval, hitems, hmissed, harmed, -, hcfg⟩ := (s.ctl.advance dt).ckStart_runs hu hheld
    refine ⟨?_, hitems, hmissed, harmed⟩
    unfold Ctl.ckVal Ctl.ckWidth
    rw [hval, hcfg]
    exact Nat.mod_mod ..

/-- Settles O57: each command of a unit, and each item of its point, by the unit's entries. -/
theorem crcUnitsFold : Obligations.CrcUnitsFold := by
  unfold Obligations.CrcUnitsFold
  refine ⟨fun dt u s hu hheld => ?start, fun dt u s hu h9 h8 => ?startHeld, fun dt u s hu hheld harmed hcount hitem => ?stop,
    fun dt u s hu hheld harmed hcount hitem => ?stopWaits, fun dt u s hu hheld => ?compare, fun dt u bytes s hu hheld hmode => ?feed,
    fun dt u bytes s hu hheld hmode => ?feedWrong, fun dt u v s hu hheld h1 h0 => ?value, fun dt u v s hu hheld h1 => ?valueBusy,
    fun dt point u r s hu hr harmed hheld hpoint htakes => ?item, fun dt point u r s hu hr harmed hheld hpoint htakes => ?missed,
    fun dt point overflow s hnone => ?noItem, fun dt u s hu => ?fault⟩
  case start =>
    refine leaves_of_exec_eq_runC (exec_crcStart ..) ?_
    rw [Ctl.when_unit _ _ hu]
    obtain ⟨hval, hitems, hmissed, harmed, hresult, -⟩ := (s.ctl.advance dt).ckStart_runs hu hheld
    exact ⟨hval, hitems, hmissed, harmed, hresult⟩
  case startHeld =>
    refine leaves_of_exec_eq_runC (exec_crcStart ..) ?_
    have hheld : (s.ctl.advance dt).ckHeld u = true := Bool.or_eq_true_iff.2 (.inr h8)
    rw [Ctl.when_unit _ _ hu]
    unfold Ctl.ckStart
    rw [if_pos hheld]
    exact Ctl.ckRefuse_of_in h9
  case stop =>
    refine leaves_of_exec_eq_runC (exec_crcStop ..) ?_
    have hstop : (s.ctl.advance dt).ckStop u = (s.ctl.advance dt).ckStopRun u := by
      unfold Ctl.ckStop
      rw [show (s.ctl.advance dt).ckHeld u = false from hheld, show (s.ctl.advance dt).ckBit u 1 = true from harmed,
        Ctl.reg_advance, hcount, show (s.ctl.advance dt).ckInItem u = false from hitem]
      rfl
    obtain ⟨hresult, h1, h7, -⟩ := (s.ctl.advance dt).ckStopRun_shows hu
    rw [Ctl.when_unit _ _ hu, hstop]
    exact ⟨hresult, Ctl.ea_ckStopRun _ hu hu (by decide) (.inl (by decide)), h1, h7⟩
  case stopWaits =>
    refine leaves_of_exec_eq_runC (exec_crcStop ..) ?_
    rw [Ctl.when_unit _ _ hu]
    unfold Ctl.ckStop
    rw [show (s.ctl.advance dt).ckHeld u = false from hheld, show (s.ctl.advance dt).ckBit u 1 = true from harmed,
      Ctl.reg_advance, hcount, show (s.ctl.advance dt).ckInItem u = true from hitem]
    exact ⟨List.contains_iff_mem.2 ((mem_insertRising_iff ..).2 (.inl rfl)), rfl⟩
  case compare =>
    refine leaves_of_exec_eq_runC (exec_crcCompare ..) ?_
    rw [Ctl.when_unit _ _ hu]
    unfold Ctl.ckCompareCmd
    rw [show (s.ctl.advance dt).ckHeld u = false from hheld, if_neg (by decide)]
    obtain ⟨hmatch, hmismatch⟩ := (s.ctl.advance dt).ckCompare_shows hu
    exact ⟨hmatch, hmismatch, Ctl.ea_ckCompare _ hu hu (by decide) (.inl (by decide))⟩
  case feed =>
    refine leaves_of_exec_eq_runC (exec_crcFeed ..) ?_
    rw [Ctl.when_unit _ _ hu]
    unfold Ctl.ckFeed
    have hmode' : ((s.ctl.advance dt).ckFold u bytes).ckSnoop u = false := (Ctl.ckSnoop_congr (Ctl.ea_setEa_idx _ hu (by decide))).trans hmode
    rw [show (s.ctl.advance dt).ckHeld u = false from hheld, show (s.ctl.advance dt).ckSnoop u = false from hmode, if_neg (by decide), if_neg (by decide)]
    refine ⟨?_, ?_, Ctl.regs_ckFollow .., ?_⟩
    · rw [Ctl.ea_ckFollow_ne _ hu (by decide)]
      exact Ctl.ea_setEa_same ..
    · rw [Ctl.ea_ckFollow, hmode', if_neg (by decide), Ctl.ckResult_ckFollow _ hu]
    · rw [Ctl.ea_ckFollow_ne _ hu (by decide)]
      exact Ctl.ea_setEa_idx _ hu (by decide)
  case feedWrong =>
    refine leaves_of_exec_eq_runC (exec_crcFeed ..) ?_
    rw [Ctl.when_unit _ _ hu]
    unfold Ctl.ckFeed
    rw [show (s.ctl.advance dt).ckHeld u = false from hheld, show (s.ctl.advance dt).ckSnoop u = true from hmode, if_neg (by decide), if_pos rfl]
  case value =>
    refine leaves_of_exec_eq_runC (exec_crcValueWrite ..) ?_
    rw [Ctl.when_unit _ _ hu]
    unfold Ctl.ckValueWrite
    rw [(s.ctl.advance dt).ckWrite_idle v (by decide) hheld h0 h1]
    refine ⟨?_, fun hmode => ?_, ?_⟩
    · rw [Ctl.ea_ckFollow_ne _ hu (by decide), Ctl.ea_setEa_same]
      rfl
    · have hmode' : ((s.ctl.advance dt).setEa 0x5215 u (v % 2 ^ (s.ctl.advance dt).ckWidth u)).ckSnoop u = false :=
        (Ctl.ckSnoop_congr (Ctl.ea_setEa_idx _ hu (by decide))).trans hmode
      rw [Ctl.ea_ckFollow, hmode', if_neg (by decide), Ctl.ckResult_ckFollow _ hu]
    · rw [Ctl.ea_ckFollow_ne _ hu (by decide), Ctl.ea_setEa_idx _ hu (by decide)]
      rfl
  case valueBusy =>
    refine leaves_of_exec_eq_runC (exec_crcValueWrite ..) ?_
    rw [Ctl.when_unit _ _ hu]
    exact (s.ctl.advance dt).ckWrite_busy v (by decide) hheld (.inr h1)
  case item =>
    have hat : r.point = point := by simpa using List.find?_some hr
    subst hat
    refine leaves_of_exec_eq_runC (exec_snoopItem ..) ?_
    rw [(s.ctl.advance dt).snoopItem_eq false hr]
    obtain ⟨d, hd, hfold⟩ := ((s.ctl.advance dt).takeItem r).snoopFold_unit r false hu
    have hd' : ∀ x, ckIdx x → d.ea x u = s.ctl.ea x u := hd
    obtain ⟨hval, hitems⟩ := d.ckItem_folds r.bytes hu (Ctl.ckTakes_congr hd' ⟨harmed, hheld, hpoint, htakes⟩)
    refine ⟨?_, ?_, Ctl.passed_snoopFold ..⟩
    · rw [hfold _ (by decide), hval]
      simp only [Ctl.ckWidth, Ctl.ckVal, Ctl.ckRefin, hd' 0x5210 (by decide), hd' 0x5211 (by decide), hd' 0x5215 (by decide)]
    · rw [hfold _ (by decide), hitems, hd' _ (by decide)]
  case missed =>
    have hat : r.point = point := by simpa using List.find?_some hr
    subst hat
    refine leaves_of_exec_eq_runC (exec_snoopItem ..) ?_
    rw [(s.ctl.advance dt).snoopItem_eq true hr]
    obtain ⟨d, hd, hfold⟩ := ((s.ctl.advance dt).takeItem r).snoopFold_unit r true hu
    have hd' : ∀ x, ckIdx x → d.ea x u = s.ctl.ea x u := hd
    obtain ⟨hval, hitems, hmissed, hover⟩ := d.ckItem_misses r.bytes hu (Ctl.ckTakes_congr hd' ⟨harmed, hheld, hpoint, htakes⟩)
    refine ⟨?_, ?_, ?_, ?_⟩
    · rw [hfold _ (by decide), hval, hd' _ (by decide)]
    · rw [hfold _ (by decide), hitems, hd' _ (by decide)]
    · rw [hfold _ (by decide), hmissed, hd' _ (by decide)]
    · rw [Ctl.ckBit_congr (hfold _ (by decide)), hover]
  case noItem =>
    refine leaves_of_exec_eq_runC (exec_snoopItem ..) ?_
    unfold Ctl.snoopItem
    rw [show (s.ctl.advance dt).cx.passed.find? (fun r => r.point = point) = none from hnone]
  case fault =>
    refine leaves_of_exec_eq_runC (exec_crcUnitFault ..) ?_
    rw [Ctl.when_unit _ _ hu]
    exact (s.ctl.advance dt).ckFault_out hu

end

section
/-! PROOFS. How memory is kept (14 R406, R410 to R420): the memory controller's own part under its channels' work, a rank's record, and the two scrubbers. -/
namespace Sys2Proof.Machine

/-! ### The commands -/

theorem exec_mr4Read (dt port ch rank rate : Nat) (s : State) :
    exec (.mr4Read dt port ch rank rate) s = runC (fun c => (c.advance dt).mr4Read port ch rank rate) s := rfl
theorem exec_refreshDue (dt port ch rank : Nat) (s : State) :
    exec (.refreshDue dt port ch rank) s = runC (fun c => (c.advance dt).refreshDue port ch rank) s := rfl
theorem exec_zqLatch (dt port ch : Nat) (s : State) : exec (.zqLatch dt port ch) s = runC (fun c => (c.advance dt).zqLatch port ch) s := rfl
theorem exec_wckTrack (dt port ch : Nat) (s : State) : exec (.wckTrack dt port ch) s = runC (fun c => (c.advance dt).wckTrack port ch) s := rfl
theorem exec_powerDownEntry (dt port ch rank : Nat) (s : State) :
    exec (.powerDownEntry dt port ch rank) s = runC (fun c => (c.advance dt).powerDownEntry port ch rank) s := rfl
theorem exec_patrolScrub (dt : Nat) (ue : List DramErr) (s : State) :
    exec (.patrolScrub dt ue) s = runM (fun m c => scrubStep (m.found ue) (c.advance dt)) s := rfl
theorem exec_sramScrub (dt fixed : Nat) (words : List (Nat × Nat × Nat)) (s : State) :
    exec (.sramScrub dt fixed words) s = runM (fun m c => (words.filter (fun p => sramRead p.2.2 = .bad)).foldl (fun r p => scrubReload r (p.1, p.2.1))
      (m, (c.advance dt).sramScrub fixed words)) s := rfl

/-- No entry below the host's counts of dropped records shows an event. -/
theorem postKey_of_below {k : Nat} (hk : k < 0x530005) : postKey k = false := by
  unfold postKey
  rw [decide_eq_false (p := k / 256 = 0x5310) (by omega), decide_eq_false (p := k = 0x530005) (by omega), decide_eq_false (p := 0x700001 ≤ k) (by omega)]
  rfl

/-! ### What the channels' work keeps (R413 to R418) -/

/-- The memory controller without its channels and their queues. -/
def Ctl.mcRest (c : Ctl) : McState := { c.mc with qs := [], chans := [] }

theorem Ctl.mcRest_mcRun (c : Ctl) : c.mcRun.mcRest = c.mcRest := by
  unfold Ctl.mcRun
  split
  · rfl
  · extract_lets now woken d rs miss rank e
    split
    · rfl
    · refine (foldl_keeps Ctl.mcRest _ _ e fun d p _ => ?_).trans rfl
      split <;> rfl

theorem Ctl.mcRest_requests (c : Ctl) (client : Nat) (write : Bool) (l : List Nat) : (c.requests client write l).mcRest = c.mcRest := by
  unfold Ctl.requests Ctl.ask
  split
  · rfl
  · exact c.mcRest_mcRun

theorem Ctl.up_mcRun (c : Ctl) : c.mcRun.up = c.up := (congrArg Ctl.up c.offMc_mcRun :)
theorem Ctl.selfRefresh_mcRun (c : Ctl) : c.mcRun.mc.selfRefresh = c.mc.selfRefresh := (congrArg McState.selfRefresh c.mcRest_mcRun :)

theorem Ctl.memReady_congr {c d : Ctl} (h : d.e 0x500003 = c.e 0x500003) : d.memReady = c.memReady := by
  unfold Ctl.memReady
  rw [h]

theorem Ctl.memReady_mcRun (c : Ctl) : c.mcRun.memReady = c.memReady := Ctl.memReady_congr (c.e_mcRun (by decide))

/-- The channels' work changes no entry but the counts of slots that were not free. -/
theorem Ctl.ea_mcRun (c : Ctl) {x i : Nat} (hx : x ≠ 0x5008) (hi : i < 8) : c.mcRun.ea x i = c.ea x i := by
  unfold Ctl.mcRun
  split
  · rfl
  · extract_lets now woken d rs miss rank e
    split
    · rfl
    · refine (foldl_keeps (Ctl.ea · x i) _ _ e fun d p hp => ?_).trans rfl
      split
      · rfl
      · exact d.ea_setEa_ne (Nat.lt_of_lt_of_le (List.mem_range.1 hp) (by decide)) hi (.inl hx.symm)

theorem Ctl.ea_requests (c : Ctl) (client : Nat) (write : Bool) (l : List Nat) {x i : Nat} (hx : x ≠ 0x5008) (hi : i < 8) :
    (c.requests client write l).ea x i = c.ea x i := by
  unfold Ctl.requests Ctl.ask
  split
  · rfl
  · exact c.ea_mcRun hx hi

/-! ### A rank's record (R415 to R419) -/

/-- What is changed where it is found, and found still, is found changed. -/
theorem find?_map_where {α : Type} {P : α → Bool} {f : α → α} {x : α} (l : List α) (hf : ∀ y, P (f y) = P y) (h : l.find? P = some x) :
    (l.map (fun y => if P y = true then f y else y)).find? P = some (f x) := by
  induction l with
  | nil => exact absurd h (by simp)
  | cons y l ih =>
    by_cases hy : P y = true
    · rw [List.find?_cons_of_pos hy] at h
      injection h with h
      rw [List.map_cons, if_pos hy, List.find?_cons_of_pos ((hf y).trans hy), h]
    · rw [List.find?_cons_of_neg hy] at h
      rw [List.map_cons, if_neg hy, List.find?_cons_of_neg hy]
      exact ih h

/-- A record that is changed where it stands, its place kept, is found changed. -/
theorem McState.chan_upd {s : McState} {p ch rk : Nat} {f : McChan → McChan} {x : McChan} (h : s.chan p ch rk = some x)
    (hf : ∀ y, (f y).port = y.port ∧ (f y).ch = y.ch ∧ (f y).rank = y.rank) : (s.upd p ch rk f).chan p ch rk = some (f x) :=
  find?_map_where s.chans (fun y => by obtain ⟨hp, hc, hr⟩ := hf y; rw [hp, hc, hr]) h

theorem Ctl.mc_mcShow (c : Ctl) (p : Nat) : (c.mcShow p).mc = c.mc := rfl

theorem Ctl.ea_mcShow (c : Ctl) (p : Nat) {x i : Nat} (hp : p < 8) (hi : i < 8) (h5 : x ≠ 0x5005) (h6 : x ≠ 0x5006) : (c.mcShow p).ea x i = c.ea x i := by
  unfold Ctl.mcShow
  dsimp only
  rw [Ctl.ea_setEa_ne _ hp hi (.inl h6.symm), Ctl.ea_setEa_ne _ hp hi (.inl h5.symm)]

/-- The record of a rank after MR4 is read: the rate, its limit, and whether a catch-up begins or goes on (R415, R418). -/
def McChan.readRate (rate : Nat) (start : Bool) (up : Nat) (y : McChan) : McChan :=
  { y with rate := rate, limit := (refreshRow rate).2, catchup := start || (y.catchup && decide (y.owed > (refreshRow rate).2)), mr4At := up }

/-- A catch-up begins: the rate rises to 3 or more, and the rank owes more than its limit (R418). -/
def McChan.catchupStarts (x : McChan) (rate : Nat) : Bool := decide (rate > x.rate) && decide (rate ≥ 3) && decide (x.owed > (refreshRow rate).2)

/-- The part once MR4_READ has changed the record and shown it. -/
def Ctl.rateRead (c : Ctl) (p ch rk rate : Nat) (x : McChan) : Ctl :=
  (c.setMc (fun s => s.upd p ch rk (McChan.readRate rate (x.catchupStarts rate) c.up))).mcShow p

theorem Ctl.mr4Read_eq (c : Ctl) {p ch rk : Nat} (rate : Nat) {x : McChan} (hx : c.mcRun.mc.chan p ch rk = some x) (hready : c.memReady = true)
    (hself : c.mc.selfRefresh = false) (hdue : x.mr4At + tMs 1 ≤ c.up) :
    c.mr4Read p ch rk rate =
      let d := c.mcRun.rateRead p ch rk rate x
      let d := if rate ≠ x.rate then d.post 0x4002 [i8 p, i8 ch, i8 rk, i8 rate] else d
      let d := if x.catchupStarts rate then (d.incEa 0x5007 p).post 0x4041 [i8 p, i8 ch, i8 rk, i8 x.owed] else d
      if rate ≥ 5 ∧ x.rate < 5 then d.post 0x40C2 [i8 p, i8 ch, i8 rk] else d := by
  have hup : decide (c.mcRun.up < x.mr4At + tMs 1) = false := by
    rw [c.up_mcRun]
    exact decide_eq_false (Nat.not_lt.2 hdue)
  unfold Ctl.mr4Read
  dsimp only
  rw [hx]
  dsimp only
  rw [c.memReady_mcRun, hready, c.selfRefresh_mcRun, hself, hup, if_neg (by decide)]
  rfl

/-- MR4_READ changes the record of its rank, whatever it reports. -/
theorem Ctl.mr4Read_chan (c : Ctl) {p ch rk : Nat} (rate : Nat) {x : McChan} (hx : c.mcRun.mc.chan p ch rk = some x) (hready : c.memReady = true)
    (hself : c.mc.selfRefresh = false) (hdue : x.mr4At + tMs 1 ≤ c.up) :
    (c.mr4Read p ch rk rate).mc.chan p ch rk = some (x.readRate rate (x.catchupStarts rate) c.up) := by
  have hmc : (c.mr4Read p ch rk rate).mc = (c.mcRun.rateRead p ch rk rate x).mc := by
    rw [c.mr4Read_eq rate hx hready hself hdue]
    extract_lets d1 d2 d3
    have h2 : d2.mc = d1.mc := by
      unfold d2
      split
      · rw [Ctl.post_mc]
      · rfl
    have h3 : d3.mc = d2.mc := by
      unfold d3
      split
      · rw [Ctl.post_mc]
        rfl
      · rfl
    split
    · rw [Ctl.post_mc, h3, h2]
    · rw [h3, h2]
  rw [hmc, ← c.up_mcRun]
  exact McState.chan_upd hx fun y => ⟨rfl, rfl, rfl⟩

/-- A catch-up that begins counts at its port. -/
theorem Ctl.mr4Read_counts (c : Ctl) {p ch rk : Nat} (rate : Nat) {x : McChan} (hx : c.mcRun.mc.chan p ch rk = some x) (hready : c.memReady = true)
    (hself : c.mc.selfRefresh = false) (hdue : x.mr4At + tMs 1 ≤ c.up) (hstart : x.catchupStarts rate = true) (hp : p < 6) :
    (c.mr4Read p ch rk rate).ea 0x5007 p = satAdd (entWidth (ekey 0x5007 (p + 1))) (c.mcRun.ea 0x5007 p) 1 := by
  have hp8 : p < 8 := by omega
  have hpost : ∀ (d : Ctl) (code : Nat) (items : List (Nat × Nat)), code < 65536 → (d.post code items).ea 0x5007 p = d.ea 0x5007 p :=
    fun d code items hcode => d.ea_post code items _ _ (postKey_of_below (by unfold ekey; omega)) hcode
  rw [c.mr4Read_eq rate hx hready hself hdue]
  extract_lets d1 d2 d3
  have h1 : d1.ea 0x5007 p = c.mcRun.ea 0x5007 p := Ctl.ea_mcShow _ p hp8 hp8 (by decide) (by decide)
  have h2 : d2.ea 0x5007 p = d1.ea 0x5007 p := by
    unfold d2
    split
    · exact hpost _ _ _ (by decide)
    · rfl
  have h3 : d3.ea 0x5007 p = satAdd (entWidth (ekey 0x5007 (p + 1))) (d2.ea 0x5007 p) 1 := by
    unfold d3
    rw [if_pos hstart, hpost _ _ _ (by decide), Ctl.ea_incEa]
  split
  · rw [hpost _ _ _ (by decide), h3, h2, h1]
  · rw [h3, h2, h1]

/-- An interval that has passed: the rank owes one refresh more, and at half its limit it leaves power-down (R415, R417). -/
def McChan.dueAgain (stop : Nat) (y : McChan) : McChan :=
  { y with owed := y.owed + 1, dueAt := stop, powerDown := y.powerDown && decide (y.owed + 1 < y.limit / 2) }

theorem Ctl.refreshDue_owes (c : Ctl) {p ch rk : Nat} {x : McChan} (hx : c.mcRun.mc.chan p ch rk = some x) (hready : c.memReady = true)
    (hself : c.mc.selfRefresh = false) (hdue : x.dueAt + tNs (refreshRow x.rate).1 ≤ c.up) :
    (c.refreshDue p ch rk).mc.chan p ch rk = some (x.dueAgain (x.dueAt + tNs (refreshRow x.rate).1)) := by
  have hup : decide (c.mcRun.up < x.dueAt + tNs (refreshRow x.rate).1) = false := by
    rw [c.up_mcRun]
    exact decide_eq_false (Nat.not_lt.2 hdue)
  unfold Ctl.refreshDue
  dsimp only
  rw [hx]
  dsimp only
  rw [c.memReady_mcRun, hready, c.selfRefresh_mcRun, hself, hup, if_neg (by decide)]
  exact McState.chan_upd (f := McChan.dueAgain _) hx fun y => ⟨rfl, rfl, rfl⟩

theorem Ctl.refreshDue_waits (c : Ctl) {p ch rk : Nat} {x : McChan} (hx : c.mcRun.mc.chan p ch rk = some x)
    (h : c.mc.selfRefresh = true ∨ c.up < x.dueAt + tNs (refreshRow x.rate).1) : c.refreshDue p ch rk = c.mcRun := by
  unfold Ctl.refreshDue
  dsimp only
  rw [hx]
  dsimp only
  rw [c.up_mcRun, c.selfRefresh_mcRun, if_pos]
  rcases h with h | h
  · simp [h]
  · simp [h]

/-- A rank enters power-down when its channel has been idle (R419). -/
theorem Ctl.powerDownEntry_enters (c : Ctl) {p ch rk : Nat} {x : McChan} (hx : c.mcRun.mc.chan p ch rk = some x) (hready : c.memReady = true)
    (hself : c.mc.selfRefresh = false)
    (hidle : c.mcRun.mc.qs.any (fun q => q.port = p && q.ch = ch && !q.wants rk && (aGet q.used rk).any (fun u => decide (u.1 + u.2 ≤ ckOf c.up)) &&
      !(c.mcRun.mcView p ch).reservedIn (ckOf c.up) (ckOf c.up)) = true) :
    (c.powerDownEntry p ch rk).ent = c.mcRun.ent ∧ (c.powerDownEntry p ch rk).mc.chan p ch rk = some { x with powerDown := true } := by
  unfold Ctl.powerDownEntry
  dsimp only
  rw [c.memReady_mcRun, hready, c.selfRefresh_mcRun, hself, c.up_mcRun, hidle, if_neg (by decide)]
  exact ⟨rfl, McState.chan_upd (f := fun y => { y with powerDown := true }) hx fun y => ⟨rfl, rfl, rfl⟩⟩

/-- A training action keeps the channel for 1 µs and changes the records of its ranks (R406, R413). -/
theorem Ctl.mcAction_holds (c : Ctl) (p ch : Nat) (f : McChan → McChan) :
    (c.mcAction p ch f).ent = c.mcRun.ent ∧
      (c.mcAction p ch f).mc.chans = c.mcRun.mc.chans.map (fun x => if x.port = p && x.ch = ch then { f x with actAt := some c.up } else x) ∧
      (c.mcAction p ch f).mc.qs.map McQ.hold =
        c.mcRun.mc.qs.map (fun q => if q.port = p && q.ch = ch then max q.hold (ckOf c.up + 1200) else q.hold) := by
  unfold Ctl.mcAction
  dsimp only
  rw [c.up_mcRun]
  refine ⟨rfl, rfl, ?_⟩
  refine (List.map_map ..).trans (List.map_congr_left fun q _ => ?_)
  dsimp only [Function.comp]
  split <;> rfl

/-- A training action is due that a rank of the channel waits for. -/
theorem Ctl.zqLatch_due (c : Ctl) {p ch : Nat} (hready : c.memReady = true) (hself : c.mc.selfRefresh = false)
    (hdue : c.mc.chans.any (fun x => x.port = p && x.ch = ch && decide (x.zqAt + tMs 32 ≤ c.up)) = true) :
    c.zqLatch p ch = c.mcAction p ch (fun x => { x with zqAt := c.up }) := by
  unfold Ctl.zqLatch
  rw [hready, hself, hdue]
  rfl

theorem Ctl.zqLatch_waits (c : Ctl) {p ch : Nat} (hdue : c.mc.chans.any (fun x => x.port = p && x.ch = ch && decide (x.zqAt + tMs 32 ≤ c.up)) = false) :
    c.zqLatch p ch = c := by
  unfold Ctl.zqLatch
  rw [hdue, if_pos (by simp)]

theorem Ctl.wckTrack_due (c : Ctl) {p ch : Nat} (hready : c.memReady = true) (hself : c.mc.selfRefresh = false)
    (hdue : c.mc.chans.any (fun x => x.port = p && x.ch = ch && decide (x.trackAt + tMs 100 ≤ c.up)) = true) :
    c.wckTrack p ch = c.mcAction p ch (fun x => { x with trackAt := c.up }) := by
  unfold Ctl.wckTrack
  rw [hready, hself, hdue]
  rfl

/-! ### What a channel does next (R414, R416) -/

theorem McQ.next_idleRefresh (v : McView) (q : McQ) (idle : Nat) {p : Nat × Nat} (h : q.idleRefresh v q.ranTo = some p) :
    q.next v idle = some (mcRefresh v q p) := by
  unfold McQ.next
  dsimp only
  rw [h]

theorem McQ.next_forced (v : McView) (q : McQ) (idle : Nat) {p : Nat × Nat} (hidle : q.idleRefresh v q.ranTo = none) (hgoing : q.going v q.ranTo = none)
    (h : v.forced q.ranTo (fun x => decide (x.owed ≥ x.limit)) = some p) : q.next v idle = some (mcRefresh v q p) := by
  unfold McQ.next
  dsimp only
  rw [hidle, hgoing, h]

theorem McQ.next_going (v : McView) (q : McQ) (idle : Nat) {r : McReq} (hidle : q.idleRefresh v q.ranTo = none) (h : q.going v q.ranTo = some r) :
    q.next v idle = some (v, q.serve v idle r) := by
  unfold McQ.next
  dsimp only
  rw [hidle, h]

/-- The pages of a bank pair close with its refresh. -/
theorem mcRefresh_closes (v : McView) (q : McQ) (p : Nat × Nat) :
    (mcRefresh v q p).2.pages.all (fun g => !(g.1 / 16 = p.1 && g.1 % 8 = p.2)) = true :=
  List.all_eq_true.2 fun _ hg => (List.mem_filter.1 hg).2

theorem McQ.ranTo_enter (q : McQ) : q.enter.ranTo = q.ranTo := by
  unfold McQ.enter
  split
  · rfl
  · dsimp only
    split <;> rfl

theorem McQ.ranTo_serve (v : McView) (idle : Nat) (q : McQ) (r : McReq) : (q.serve v idle r).ranTo = q.ranTo + 4 * q.columns r := by
  unfold McQ.serve
  exact McQ.ranTo_enter _

/-! ### The patrol scrubber (R410 to R412) -/

theorem burstRead_zero : burstRead 0 = .clean := by
  unfold burstRead
  exact if_pos rfl

/-- A burst without a link error reads bad when its code says so. -/
theorem Mem.bad_eq (m : Mem) {b : Nat} (hlink : aGet m.link b = none) : m.bad b = decide (burstRead (m.errOf b) = .bad) := by
  unfold Mem.bad
  rw [hlink]
  simp

theorem Ctl.readBurst_clean (c : Ctl) (m : Mem) (client scrub : Nat) {b : Nat} (hlink : aGet m.link b = none) (herr : m.errOf b = 0) :
    c.readBurst m client scrub b = c := by
  have hbad : ¬ m.bad b = true := by
    rw [m.bad_eq hlink, herr, burstRead_zero]
    decide
  unfold Ctl.readBurst
  rw [hlink]
  dsimp only
  rw [if_neg hbad, if_pos herr]

theorem Ctl.readBurst_bad (c : Ctl) (m : Mem) (client scrub : Nat) {b : Nat} (hlink : aGet m.link b = none) (h : burstRead (m.errOf b) = .bad) :
    c.readBurst m client scrub b = c.eccUnc client scrub b := by
  have hbad : m.bad b = true := by
    rw [m.bad_eq hlink, h]
    decide
  unfold Ctl.readBurst
  rw [hlink]
  dsimp only
  rw [if_pos hbad]

theorem Ctl.readBurst_fixed (c : Ctl) (m : Mem) (client scrub : Nat) {b i : Nat} (hlink : aGet m.link b = none) (h : burstRead (m.errOf b) = .fixed i) :
    c.readBurst m client scrub b = ((c.eccCorrected (c.portOf b)).setMc (fun s => { s with fixes := b :: s.fixes })).requests 0 true [b] := by
  have hbad : ¬ m.bad b = true := by
    rw [m.bad_eq hlink, h]
    simp
  have hne : m.errOf b ≠ 0 := fun h0 => by
    rw [h0, burstRead_zero] at h
    exact absurd h (by simp)
  unfold Ctl.readBurst
  rw [hlink]
  dsimp only
  rw [if_neg hbad, if_neg hne]

/-- The scrubber's place after its read of burst or check block `k`: the next, or the first of a new pass. -/
def McState.scrubbed (s : McState) (k last up : Nat) : McState :=
  if k + 1 ≥ last then { s with scrubAt := 0, scrubFrom := up } else { s with scrubAt := k + 1 }

theorem McState.scrubAt_scrubbed (s : McState) (k last up : Nat) : (s.scrubbed k last up).scrubAt = if last ≤ k + 1 then 0 else k + 1 := by
  unfold McState.scrubbed
  split <;> rfl

theorem McState.fixes_scrubbed (s : McState) (k last up : Nat) : (s.scrubbed k last up).fixes = s.fixes := by
  unfold McState.scrubbed
  split <;> rfl

/-- The part after the scrubber's read. -/
def Ctl.scrubReads (c : Ctl) (m : Mem) : Ctl :=
  if c.mc.scrubAt < c.scrubSizes.1 then (c.requests 0 false [c.mc.scrubAt]).readBurst m 0 1 c.mc.scrubAt else c

theorem scrubStep_due (m : Mem) (c : Ctl) (hready : c.memReady = true) (hself : c.mc.selfRefresh = false) (hdue : c.scrubDue = true) :
    scrubStep m c = (m, (c.scrubReads m).setMc
      (fun s => s.scrubbed c.mc.scrubAt (c.scrubSizes.1 + c.scrubSizes.2) (c.scrubReads m).up)) := by
  unfold scrubStep
  rw [hready, hself, hdue, if_neg (by decide)]
  rfl

theorem scrubStep_rests (m : Mem) (c : Ctl) (h : c.memReady = false ∨ c.mc.selfRefresh = true ∨ c.scrubDue = false) : scrubStep m c = (m, c) := by
  unfold scrubStep
  rw [if_pos]
  rcases h with h | h | h <;> simp [h]

/-- A burst that was corrected in the step is without flipped bits after it, and the others are as they were. -/
theorem errOf_mended (r : Mem × Ctl) (b : Nat) : (mended r).1.errOf b = if r.2.mc.fixes.contains b then 0 else r.1.errOf b := by
  unfold Mem.errOf mended
  dsimp only
  rw [aGet_filter (fun k => !r.2.mc.fixes.contains k)]
  cases r.2.mc.fixes.contains b <;> rfl

/-- What a scrubber's step leaves: DRAM's octets, its place, and the entries that its read left. -/
theorem patrolScrub_due (dt : Nat) (ue : List DramErr) (s : State) (hready : s.ctl.memReady = true) (hself : s.ctl.mc.selfRefresh = false)
    (hdue : (s.ctl.advance dt).scrubDue = true) :
    ∃ t, exec (.patrolScrub dt ue) s = .next t ∧ t.pending = s.pending ∧ t.mem.dram = (s.mem.found ue).dram ∧
      t.ctl.mc.scrubAt = (if s.ctl.scrubSizes.1 + s.ctl.scrubSizes.2 ≤ s.ctl.mc.scrubAt + 1 then 0 else s.ctl.mc.scrubAt + 1) ∧
      (∀ x i, t.ctl.ea x i = ((s.ctl.advance dt).scrubReads (s.mem.found ue)).ea x i) ∧
      ∀ b, t.mem.errOf b = if ((s.ctl.advance dt).scrubReads (s.mem.found ue)).mc.fixes.contains b then 0 else (s.mem.found ue).errOf b := by
  refine ⟨_, (exec_patrolScrub ..).trans (runM_eq_next (scrubStep_due (s.mem.found ue) (s.ctl.advance dt) hready hself hdue)), rfl, rfl, ?_,
    fun x i => rfl, fun b => ?_⟩
  · exact McState.scrubAt_scrubbed ..
  · refine (errOf_mended ..).trans ?_
    exact congrArg (fun l : List Nat => if l.contains b then 0 else (s.mem.found ue).errOf b) (McState.fixes_scrubbed ..)

/-- The counts of corrected and of uncorrectable errors of a port. -/
abbrev eccIdx (x : Nat) : Prop := x = 0x5002 ∨ x = 0x5003

theorem postKey_eccIdx {x p : Nat} (hx : eccIdx x) (hp : p < 8) : postKey (ekey x (p + 1)) = false :=
  postKey_of_below (by unfold ekey; omega)

/-- The scrubber's read of a burst finds what stands there (R410, R412). -/
theorem Ctl.scrubReads_clean (c : Ctl) (m : Mem) (hlink : aGet m.link c.mc.scrubAt = none) (herr : m.errOf c.mc.scrubAt = 0) {x p : Nat}
    (hx : eccIdx x) (hp : p < 8) : (c.scrubReads m).ea x p = c.ea x p := by
  unfold Ctl.scrubReads
  split
  · rw [Ctl.readBurst_clean _ m 0 1 hlink herr, Ctl.ea_requests _ _ _ _ (by omega) hp]
  · rfl

theorem Ctl.portOf_requests (c : Ctl) (client : Nat) (write : Bool) (l : List Nat) (b : Nat) : (c.requests client write l).portOf b = c.portOf b := by
  have hnp : (c.requests client write l).mc.np = c.mc.np := (congrArg McState.np (c.mcRest_requests client write l) :)
  unfold Ctl.portOf Ctl.np
  rw [hnp]

/-- A corrected error counts at its port, and is no uncorrectable one. -/
theorem Ctl.eccCorrected_counts (c : Ctl) {p : Nat} (hp : p < 8) :
    (c.eccCorrected p).ea 0x5002 p = satAdd (entWidth (ekey 0x5002 (p + 1))) (c.ea 0x5002 p) 1 ∧ (c.eccCorrected p).ea 0x5003 p = c.ea 0x5003 p := by
  have hpost : ∀ (d : Ctl) (code : Nat) (items : List (Nat × Nat)) (x : Nat), eccIdx x → code < 65536 → (d.post code items).ea x p = d.ea x p :=
    fun d code items x hx hcode => d.ea_post code items _ _ (postKey_eccIdx hx hp) hcode
  unfold Ctl.eccCorrected
  extract_lets d due
  have h2 : d.ea 0x5002 p = satAdd (entWidth (ekey 0x5002 (p + 1))) (c.ea 0x5002 p) 1 := c.ea_incEa ..
  have h3 : d.ea 0x5003 p = c.ea 0x5003 p := Ctl.ea_setEa_ne _ hp hp (.inl (by decide))
  split
  · exact ⟨(hpost _ _ _ _ (.inl rfl) (by decide)).trans h2, (hpost _ _ _ _ (.inr rfl) (by decide)).trans h3⟩
  · exact ⟨h2, h3⟩

theorem Ctl.scrubReads_fixed (c : Ctl) (m : Mem) {i p : Nat} (hk : c.mc.scrubAt < c.scrubSizes.1) (hlink : aGet m.link c.mc.scrubAt = none)
    (herr : burstRead (m.errOf c.mc.scrubAt) = .fixed i) (hport : p = c.portOf c.mc.scrubAt) (hp : p < 8) :
    (c.scrubReads m).ea 0x5002 p = satAdd (entWidth (ekey 0x5002 (p + 1))) (c.ea 0x5002 p) 1 ∧ (c.scrubReads m).ea 0x5003 p = c.ea 0x5003 p ∧
      (c.scrubReads m).mc.fixes.contains c.mc.scrubAt = true := by
  unfold Ctl.scrubReads
  rw [if_pos hk, Ctl.readBurst_fixed _ m 0 1 hlink herr, Ctl.portOf_requests, ← hport]
  obtain ⟨h2, h3⟩ := (c.requests 0 false [c.mc.scrubAt]).eccCorrected_counts hp
  refine ⟨?_, ?_, ?_⟩
  · rw [Ctl.ea_requests _ _ _ _ (by decide) hp, Ctl.ea_setMc, h2, Ctl.ea_requests _ _ _ _ (by decide) hp]
  · rw [Ctl.ea_requests _ _ _ _ (by decide) hp, Ctl.ea_setMc, h3, Ctl.ea_requests _ _ _ _ (by decide) hp]
  · refine (congrArg (fun r : McState => r.fixes.contains c.mc.scrubAt) (Ctl.mcRest_requests _ 0 true [c.mc.scrubAt]) :).trans ?_
    exact List.contains_iff_mem.2 List.mem_cons_self

theorem Ctl.scrubReads_bad (c : Ctl) (m : Mem) {p : Nat} (hk : c.mc.scrubAt < c.scrubSizes.1) (hlink : aGet m.link c.mc.scrubAt = none)
    (herr : burstRead (m.errOf c.mc.scrubAt) = .bad) (hport : p = c.portOf c.mc.scrubAt) (hp : p < 8) :
    (c.scrubReads m).ea 0x5003 p = satAdd (entWidth (ekey 0x5003 (p + 1))) (c.ea 0x5003 p) 1 ∧ (c.scrubReads m).ea 0x5002 p = c.ea 0x5002 p ∧
      (c.scrubReads m).mc.fixes = c.mc.fixes := by
  have hpost : ∀ (d : Ctl) (code : Nat) (items : List (Nat × Nat)) (x : Nat), eccIdx x → code < 65536 → (d.post code items).ea x p = d.ea x p :=
    fun d code items x hx hcode => d.ea_post code items _ _ (postKey_eccIdx hx hp) hcode
  unfold Ctl.scrubReads
  rw [if_pos hk, Ctl.readBurst_bad _ m 0 1 hlink herr]
  unfold Ctl.eccUnc
  rw [Ctl.portOf_requests, ← hport]
  refine ⟨?_, ?_, ?_⟩
  · refine (hpost _ _ _ _ (.inr rfl) (by decide)).trans ((Ctl.ea_incEa ..).trans ?_)
    rw [Ctl.ea_requests _ _ _ _ (by decide) hp]
  · refine (hpost _ _ _ _ (.inl rfl) (by decide)).trans ((Ctl.ea_setEa_ne _ hp hp (.inl (by decide))).trans ?_)
    rw [Ctl.ea_requests _ _ _ _ (by decide) hp]
  · rw [Ctl.post_mc]
    exact (congrArg McState.fixes (Ctl.mcRest_requests c 0 false [c.mc.scrubAt]) :)

/-! ### The scrubber of the on-chip SRAM (R420) -/

theorem Ctl.e_readBursts (c : Ctl) (m : Mem) (client : Nat) (l : List Nat) {k : Nat} (hk : k < 0x500200) : (c.readBursts m client l).e k = c.e k := by
  unfold Ctl.readBursts
  split
  · exact c.e_ask _ _ _ _ hk
  · exact (foldl_keeps (Ctl.e · k) _ _ _ fun d b _ => d.e_readBurst m client 0 b hk).trans (c.e_ask _ _ _ _ hk)

/-- A read of part of a slot leaves the entries below the memory controller's counts. -/
theorem e_slotReadAt (i off n : Nat) (m : Mem) (c : Ctl) {k : Nat} (hk : k < 0x500200) : (slotReadAt i off n m c).2.e k = c.e k := by
  unfold slotReadAt
  extract_lets base m' d
  have hd : d.e k = c.e k := c.e_readBursts m 7 _ hk
  split
  · exact hd
  · exact hd

/-- A reload that the scrubber asks for: the octets of DRAM stand, no burst takes an error, and the count of corrected words stands. -/
theorem scrubReload_keeps (r : Mem × Ctl) (p : Nat × Nat) :
    (scrubReload r p).1.dram = r.1.dram ∧ (∀ b, r.1.errOf b = 0 → (scrubReload r p).1.errOf b = 0) ∧ (scrubReload r p).2.e 0x500007 = r.2.e 0x500007 := by
  unfold scrubReload
  split
  · exact ⟨rfl, fun _ h => h, rfl⟩
  · split
    · exact ⟨rfl, fun _ h => h, rfl⟩
    · refine ⟨rfl, fun b hb => ?_, e_slotReadAt _ _ _ _ _ (by decide)⟩
      unfold Mem.errOf slotReadAt slotRepair at *
      dsimp only
      generalize List.filter _ (List.filter _ _) = good
      rw [aGet_filter (fun k => !good.contains k)]
      split
      · exact hb
      · rfl

theorem foldl_scrubReload_keeps (l : List (Nat × Nat × Nat)) (r : Mem × Ctl) :
    (l.foldl (fun r p => scrubReload r (p.1, p.2.1)) r).1.dram = r.1.dram ∧
      (∀ b, r.1.errOf b = 0 → (l.foldl (fun r p => scrubReload r (p.1, p.2.1)) r).1.errOf b = 0) ∧
      (l.foldl (fun r p => scrubReload r (p.1, p.2.1)) r).2.e 0x500007 = r.2.e 0x500007 := by
  induction l generalizing r with
  | nil => exact ⟨rfl, fun _ h => h, rfl⟩
  | cons p l ih =>
    obtain ⟨hdram, herr, he⟩ := scrubReload_keeps r (p.1, p.2.1)
    obtain ⟨hdram', herr', he'⟩ := ih (scrubReload r (p.1, p.2.1))
    exact ⟨hdram'.trans hdram, fun b hb => herr' b (herr b hb), he'.trans he⟩

/-- The words that the pass finds with one flipped bit, and those that owners have corrected, are counted. -/
theorem Ctl.sramScrub_counts (c : Ctl) (fixed : Nat) (words : List (Nat × Nat × Nat)) :
    (c.sramScrub fixed words).e 0x500007 = satAdd (entWidth 0x500007) (c.e 0x500007)
      (fixed + (words.filter (fun p => decide (sramRead p.2.2 ≠ .clean) && decide (sramRead p.2.2 ≠ .bad))).length) := by
  unfold Ctl.sramScrub
  refine (foldl_keeps (Ctl.e · 0x500007) _ _ _ fun d p _ => d.e_post _ _ _ (postKey_of_below (by decide)) (by decide)).trans ?_
  unfold Ctl.addE
  rw [Ctl.e_setE, if_pos rfl]
  refine congrArg (fun l : List (Nat × Nat × Nat) => satAdd (entWidth 0x500007) (c.e 0x500007) (fixed + l.length)) (List.filter_congr fun p _ => ?_)
  cases sramRead p.2.2 <;> rfl

end Sys2Proof.Machine

open Sys2Proof Sys2Proof.Machine

/-- Settles O60: a rank's record by its commands, what a channel does next, and the two scrubbers. -/
theorem memoryIsKept : Obligations.MemoryIsKept := by
  unfold Obligations.MemoryIsKept
  refine ⟨fun dt port ch rank rate lim x y r s hr hx hready hself hdue hlim hy => ?mr4,
    fun dt port ch rank rate lim x r s hr hx hready hself hdue hlim hrise hthree howed hport => ?catchup,
    fun dt port ch rank x r s hr hx hready hself hdue => ?due, fun dt port ch rank x r s hr hx hrest => ?notDue,
    fun v q idle p hidle => ?idle, fun v q idle p hidle hgoing hforced => ?forced, fun v q idle r hidle hgoing => ?burst,
    fun dt port ch r s hready hself hr hdue => ?zq, fun dt port ch r s hready hself hr hdue => ?wck, fun dt port ch s hdue => ?zqWaits,
    fun dt port ch rank now x r s hr hnow hx hready hself hidle => ?powerDown,
    fun dt ue k n m s hready hself hdue hk hn hm herr hlink => ?clean,
    fun dt ue k i p m s hready hself hdue hk hlt hm herr hlink hp hp6 => ?fixed,
    fun dt ue k p m s hready hself hfixes hdue hk hlt hm herr hlink hp hp6 => ?bad, fun dt s hrest => ?rests,
    fun dt fixed s => ?sramNone, fun dt fixed words k s hk => ?sram⟩
  case mr4 =>
    subst hr hlim hy
    exact leaves_of_exec_eq_runC (exec_mr4Read ..) ((s.ctl.advance dt).mr4Read_chan rate hx hready hself hdue)
  case catchup =>
    subst hr hlim
    have hstart : x.catchupStarts rate = true := by simp [McChan.catchupStarts, hrise, hthree, howed]
    exact leaves_of_exec_eq_runC (exec_mr4Read ..) ((s.ctl.advance dt).mr4Read_counts rate hx hready hself hdue hstart hport)
  case due =>
    subst hr
    exact leaves_of_exec_eq_runC (exec_refreshDue ..) ((s.ctl.advance dt).refreshDue_owes hx hready hself hdue)
  case notDue =>
    subst hr
    exact leaves_of_exec_eq_runC (exec_refreshDue ..) ((s.ctl.advance dt).refreshDue_waits hx hrest)
  case idle =>
    rw [q.next_idleRefresh v idle hidle, Option.map_some, mcRefresh_closes]
    rfl
  case forced =>
    rw [q.next_forced v idle hidle hgoing hforced]
    rfl
  case burst =>
    rw [q.next_going v idle hidle hgoing, Option.map_some, McQ.ranTo_serve]
  case zq =>
    subst hr
    refine leaves_of_exec_eq_runC (exec_zqLatch ..) ?_
    rw [(s.ctl.advance dt).zqLatch_due hready hself hdue]
    exact Ctl.mcAction_holds ..
  case wck =>
    subst hr
    refine leaves_of_exec_eq_runC (exec_wckTrack ..) ?_
    rw [(s.ctl.advance dt).wckTrack_due hready hself hdue]
    exact Ctl.mcAction_holds ..
  case zqWaits => exact leaves_of_exec_eq_runC (exec_zqLatch ..) ((s.ctl.advance dt).zqLatch_waits hdue)
  case powerDown =>
    subst hr hnow
    exact leaves_of_exec_eq_runC (exec_powerDownEntry ..) ((s.ctl.advance dt).powerDownEntry_enters hx hready hself hidle)
  case clean =>
    subst hk hn hm
    obtain ⟨t, ht, hpending, hdram, hat, hea, -⟩ := patrolScrub_due dt ue s hready hself hdue
    have hstand : ∀ x p, eccIdx x → p < 6 → t.ctl.ea x p = s.ctl.ea x p := fun x p hx hp =>
      (hea x p).trans ((s.ctl.advance dt).scrubReads_clean _ hlink herr hx (by omega))
    exact ⟨t, ht, hpending, hdram, hat, fun p hp => ⟨hstand _ p (.inl rfl) hp, hstand _ p (.inr rfl) hp⟩⟩
  case fixed =>
    subst hk hm
    obtain ⟨t, ht, hpending, hdram, -, hea, herrs⟩ := patrolScrub_due dt ue s hready hself hdue
    obtain ⟨hcorrected, hunc, hfix⟩ := (s.ctl.advance dt).scrubReads_fixed _ hlt hlink herr hp (by omega)
    exact ⟨t, ht, hpending, hdram, (herrs _).trans (if_pos hfix), (hea _ _).trans hcorrected, (hea _ _).trans hunc⟩
  case bad =>
    subst hk hm
    obtain ⟨t, ht, hpending, hdram, -, hea, herrs⟩ := patrolScrub_due dt ue s hready hself hdue
    obtain ⟨hunc, hcorrected, hfix⟩ := (s.ctl.advance dt).scrubReads_bad _ hlt hlink herr hp (by omega)
    refine ⟨t, ht, hpending, hdram, (herrs _).trans (if_neg ?_), (hea _ _).trans hunc, (hea _ _).trans hcorrected⟩
    rw [hfix, show (s.ctl.advance dt).mc.fixes = [] from hfixes]
    exact Bool.false_ne_true
  case rests => exact leaves_of_exec_eq_runM (exec_patrolScrub ..) (scrubStep_rests _ _ hrest) rfl
  case sramNone => exact leaves_of_exec_eq_runM (exec_sramScrub ..) rfl rfl
  case sram =>
    subst hk
    obtain ⟨hdram, herr, he⟩ := foldl_scrubReload_keeps (words.filter (fun p => sramRead p.2.2 = .bad)) (s.mem, (s.ctl.advance dt).sramScrub fixed words)
    exact ⟨_, exec_sramScrub .., hdram, fun b hb => mended_errOf _ (herr b hb), rfl, he.trans (Ctl.sramScrub_counts ..)⟩

end

section
/-! PROOFS. The delay request of a MASTER port whose domain is LOST (13 R389, R391). -/
namespace Sys2Proof.Machine

/-- Domain 1 is LOST, and north (port 3) is its MASTER; north is up and its side link's queue is empty. -/
def lostDomainMasterNorth : State :=
  { State.reset with ctl := (((State.reset.ctl.setEa 0x2303 1 4).setEa 0x2307 2 0x600).setRgPort 0 fun q => { q with up := true }) }

/-- A MASTER port of a domain that is LOST sends nothing, and SEQUENCE is not counted. -/
theorem ptpSendTimer_lostDomainMasterNorth {t : State} (h : exec (.ptpSendTimer 0 3 1 2) lostDomainMasterNorth = .next t) : t.ctl.tb.ptpSeq = 0 := by
  cases h
  decide +kernel

end Sys2Proof.Machine

open Sys2Proof Sys2Proof.Machine

/-- Refutes O34: its clause on the delay request of a ring port lets the domain be LOST and the port be its MASTER. From such a port nothing leaves
(13 R393; assumption log 40), and SEQUENCE stays, where the clause counts it. -/
theorem not_ptpMessagesAndTheirTimeouts : ¬ Obligations.PtpMessagesAndTheirTimeouts := by
  unfold Obligations.PtpMessagesAndTheirTimeouts
  intro h
  obtain ⟨-, -, -, -, -, -, hask, -⟩ := h
  obtain ⟨t, hexec, -, -, -, htb, -⟩ := hask 0 0 1 lostDomainMasterNorth (by decide) (by decide) (by decide) (by decide) (by decide) (by decide)
  have hcounted : t.ctl.tb.ptpSeq = 1 := (congrArg TbState.ptpSeq htb).trans (by decide)
  rw [ptpSendTimer_lostDomainMasterNorth hexec] at hcounted
  exact absurd hcounted (by decide)

end

section
/-! PROOFS. Rate changes, steps and slews (13 R385, R394, R395): how long a slew takes, and what it moves. -/
namespace Sys2Proof.Machine

/-! ### The root that a ramp's time is taken from (R394) -/

/-- One binary digit of the root: it is taken where the square stays within the number. -/
def rootStep (n r digit : Nat) : Nat := if (r + 2 ^ digit) * (r + 2 ^ digit) ≤ n then r + 2 ^ digit else r

/-- The root is taken digit by digit from the highest. -/
theorem rootFloor_eq (n : Nat) : rootFloor n = (List.range 60).reverse.foldl (rootStep n) 0 := by
  have hdigits : (List.range 60).reverse = (List.range 60).map (59 - ·) := by decide
  rw [hdigits, List.foldl_map]
  rfl

/-- What lies below the square of one unit more at the highest digit does so at the lowest. -/
theorem lt_square_of_rootSteps (n k r : Nat) (h : n < (r + 2 ^ k) * (r + 2 ^ k)) :
    n < ((List.range k).reverse.foldl (rootStep n) r + 1) * ((List.range k).reverse.foldl (rootStep n) r + 1) := by
  induction k generalizing r with
  | zero => exact h
  | succ k ih =>
    have hunit : r + 2 ^ (k + 1) = r + 2 ^ k + 2 ^ k := by omega
    rw [hunit] at h
    rw [List.range_succ, List.reverse_append, List.reverse_singleton, List.singleton_append, List.foldl_cons]
    refine ih _ ?_
    unfold rootStep
    split
    case isTrue => exact h
    case isFalse hover => exact Nat.lt_of_not_le hover

/-- No number above the root has a square as small. -/
theorem lt_square_rootFloor (n : Nat) (h : n < 2 ^ 120) : n < (rootFloor n + 1) * (rootFloor n + 1) := by
  rw [rootFloor_eq]
  exact lt_square_of_rootSteps n 60 0 (by norm_num at h ⊢; exact h)

/-- A slew takes at least as long as the offset that it removes. -/
theorem le_slewTime (d : Nat) : d ≤ slewTime d := by
  unfold slewTime slewRamp slewHold
  split
  case isTrue hshort =>
    have hbound : d ≤ 16384000 := hshort
    by_contra hlong
    have hroot := lt_square_rootFloor (d * 65536 * 100000000000) (by omega)
    generalize rootFloor (d * 65536 * 100000000000) = r at hlong hroot
    have hr : r + 1 ≤ d := by omega
    have hsquare : (r + 1) * (r + 1) ≤ d * d := Nat.mul_le_mul hr hr
    have hless : d * d ≤ d * 16384000 := Nat.mul_le_mul_left d hbound
    omega
  case isFalse hlong =>
    have hbound : ¬ d ≤ 16384000 := hlong
    have hhold : tNs 250 = 16384000 := by decide
    have hramp : tMs 5 = 327680000000 := by decide
    rw [hhold, hramp]
    omega

/-- A slew has moved nothing when it begins. -/
theorem slewMoved_zero (o : Int) : slewMoved o 0 = 0 := by
  have hphase : slewPhase o.natAbs 0 = 0 := by
    have hle := le_slewTime o.natAbs
    unfold slewPhase
    split
    case isTrue hdone =>
      have hzero : o.natAbs = 0 := by omega
      rw [hzero]
      rfl
    case isFalse => simp [rampPhase]
  simp [slewMoved, hphase]

/-- After its time a slew has moved its whole offset. -/
theorem slewMoved_slewTime (o : Int) : slewMoved o (slewTime o.natAbs) = o * 2 ^ 32 := by
  have hphase : slewPhase o.natAbs (slewTime o.natAbs) = o.natAbs * 2 ^ 32 := by simp [slewPhase]
  unfold slewMoved
  rw [hphase]
  split <;> omega

/-- With the time clock at its nominal rate, from the beginning of a slew to its end the Tick moves by the time and the offset (R394). -/
theorem Ctl.advance_slewTime (c : Ctl) (o : Int) (hslew : c.clk.slew = some (o, 0)) (hfreq : c.clk.freq = 0) (hrem : c.clk.rem = 0) :
    (c.advance (slewTime o.natAbs)).now = ofSigned 64 ((c.now : Int) + (slewTime o.natAbs : Nat) + o) ∧
    ∀ d, (c.advance (slewTime o.natAbs)).domOffset d = c.domOffset d - o := by
  have hnominal : clampI (-500000) 500000 0 = 0 := by decide
  have hle := le_slewTime o.natAbs
  constructor
  · simp only [Ctl.advance, hslew, hfreq, hrem, Nat.zero_add, slewMoved_zero, slewMoved_slewTime, clockAdds, hnominal, tickAdd, ofSigned]
    omega
  · intro d
    simp only [Ctl.domOffset, Ctl.advance, hslew, Nat.zero_add, slewMoved_zero, slewMoved_slewTime]
    split <;> omega

/-! ### The commands -/

theorem exec_rateSchedule (dt : Nat) (s : State) : exec (.rateSchedule dt) s = runC (fun c => (c.advance dt).rateSchedule) s := rfl
theorem exec_rateCancel (dt : Nat) (s : State) : exec (.rateCancel dt) s = runC (fun c => (c.advance dt).rateCancel) s := rfl
theorem exec_timeStep (dt : Nat) (s : State) : exec (.timeStep dt) s = runC (fun c => (c.advance dt).timeStep) s := rfl
theorem exec_slewComplete (dt : Nat) (s : State) : exec (.slewComplete dt) s = runC (fun c => (c.advance dt).slewDone) s := rfl

/-- A change of the rate that is accepted is pending from the first flip at or after its Tick. -/
theorem Ctl.rateSchedule_accepted (c : Ctl) (h : c.rateStatus = 0) :
    c.rateSchedule = (c.setE 0x23000D (c.tn (c.flipAt (c.e 0x23000B)))).setTb
      (fun t => { t with rateChange := some ⟨c.flipAt (c.e 0x23000B), c.tn (c.flipAt (c.e 0x23000B)), c.e 0x23000A⟩ }) := by
  unfold Ctl.rateSchedule
  rw [if_neg (not_not.2 h)]

/-- A pending change that is far enough ahead is cleared. -/
theorem Ctl.rateCancel_accepted (c : Ctl) {r : RateChange} (hpending : c.tb.rateChange = some r) (hahead : tUs 100 ≤ tickD r.fcTick c.now) :
    c.rateCancel = c.clearRate := by
  have hok : c.rateCancelOk = true := by
    unfold Ctl.rateCancelOk
    rw [hpending]
    exact decide_eq_true hahead
  unfold Ctl.rateCancel
  rw [if_pos hok]

/-- Entering LOCKED moves nothing that runs with the Tick. -/
theorem Ctl.enterLocked_runs (c : Ctl) : c.enterLocked.now = c.now ∧ c.enterLocked.clk = c.clk := by
  unfold Ctl.enterLocked
  exact ⟨Ctl.post_now .., Ctl.post_clk ..⟩

theorem Ctl.checkLock_runs (c : Ctl) : c.checkLock.now = c.now ∧ c.checkLock.clk = c.clk := by
  unfold Ctl.checkLock
  split
  · exact c.enterLocked_runs
  · exact ⟨rfl, rfl⟩

/-- The state LOCKED is not entered but from ACQUIRING. -/
theorem Ctl.checkLock_of_not_acquiring (c : Ctl) (h : c.timeState ≠ 1) : c.checkLock = c := by
  simp [Ctl.checkLock, h]

/-- A step moves the Tick and brings the offsets of the domains down by as much; a slew ends. -/
theorem Ctl.stepTick_runs (c : Ctl) (delta : Int) :
    (c.stepTick delta).now = ofSigned 64 (c.now + delta) ∧
    (c.stepTick delta).clk = { c.clk with offA := c.clk.offA - delta, offB := c.clk.offB - delta, slew := none } := by
  unfold Ctl.stepTick
  extract_lets d
  split <;> exact ⟨rfl, rfl⟩

/-- TIME_STEP where it may be written: the Tick takes the active domain's time. -/
theorem Ctl.timeStep_allowed (c : Ctl) (h : c.stepAllowed = true) :
    c.timeStep.now = ofSigned 64 (c.now + c.domOffset c.activeDom) ∧ c.timeStep.domOffset c.activeDom = 0 ∧ c.timeStep.clk.slew = none := by
  unfold Ctl.timeStep
  rw [if_neg (by simp [h])]
  extract_lets o d
  obtain ⟨hnow, hclk⟩ := c.stepTick_runs o
  have hdnow : d.now = ofSigned 64 (c.now + o) := (Ctl.post_now ..).trans hnow
  have hdclk : d.clk = { c.clk with offA := c.clk.offA - o, offB := c.clk.offB - o, slew := none } := (Ctl.post_clk ..).trans hclk
  obtain ⟨hlnow, hlclk⟩ := d.checkLock_runs
  refine ⟨hlnow.trans hdnow, ?_, by rw [hlclk, hdclk]⟩
  have hzero : (if c.activeDom = 0 then c.clk.offA - o else c.clk.offB - o) = 0 := by
    unfold o Ctl.domOffset
    split <;> exact Int.sub_self _
  rw [Ctl.domOffset, hlclk, hdclk]
  exact hzero

/-- SLEW_COMPLETE after the slew's time: it ends, and nothing moves. -/
theorem Ctl.slewDone_ends (c : Ctl) {o : Int} {t : Nat} (hslew : c.clk.slew = some (o, t)) (hdone : slewTime o.natAbs ≤ t) :
    c.slewDone.clk = { c.clk with slew := none } ∧ c.slewDone.now = c.now := by
  unfold Ctl.slewDone
  rw [hslew]
  dsimp only
  rw [if_neg (by omega)]
  obtain ⟨hnow, hclk⟩ := c.slewOff.checkLock_runs
  exact ⟨hclk.trans rfl, hnow.trans rfl⟩

end Sys2Proof.Machine

open Sys2Proof Sys2Proof.Machine

/-- Settles O35, from what each operation of the Tick moves; a slew takes at least as long as its offset, so that the Tick never stands back (R394). -/
theorem rateChangesAndSteps : Obligations.RateChangesAndSteps := by
  unfold Obligations.RateChangesAndSteps
  refine ⟨fun dt n s hstatus hn => ?schedule, fun dt r s hpending hahead => ?cancel, fun dt s hallowed => ?step,
    fun dt o t0 s hslew hdone => ?slewEnds, fun dt d o c hslew hfreq hrem hdt => ?slewMoves⟩
  case schedule =>
    refine leaves_of_exec_eq_runC (exec_rateSchedule dt s) ?_
    subst hn
    rw [Ctl.rateSchedule_accepted _ hstatus]
    refine ⟨rfl, ?_, ?_⟩ <;> simp
  case cancel =>
    refine leaves_of_exec_eq_runC (exec_rateCancel dt s) ?_
    rw [Ctl.rateCancel_accepted (s.ctl.advance dt) hpending hahead]
    refine ⟨rfl, ?_, ?_⟩ <;> simp [Ctl.clearRate]
  case step =>
    exact leaves_of_exec_eq_runC (exec_timeStep dt s) ((s.ctl.advance dt).timeStep_allowed hallowed)
  case slewEnds =>
    refine leaves_of_exec_eq_runC (exec_slewComplete dt s) ?_
    have hrun : (s.ctl.advance dt).clk.slew = some (o, t0 + dt) := by rw [Ctl.advance_slew, hslew]; rfl
    obtain ⟨hclk, hnow⟩ := (s.ctl.advance dt).slewDone_ends hrun hdone
    exact ⟨congrArg Clock.slew hclk, hnow, fun d => by rw [Ctl.domOffset, hclk]; rfl⟩
  case slewMoves =>
    obtain ⟨hnow, hoff⟩ := c.advance_slewTime o hslew hfreq hrem
    rw [hdt]
    exact ⟨hnow, hoff d⟩

end

section
/-! PROOFS. A switch back to a domain that is none of the two (13 R399; dictionary 0x2300). -/
namespace Sys2Proof.Machine

/-- The part follows domain A on a field port; B is LOCKED and more than the limit away from A. PREFERRED_DOMAIN stands outside its values 0 and 1, so
that DOMAIN_STATE of that domain is the count of the log's records, which is 3. -/
def preferringTheLogCount : State :=
  { State.reset with
    ctl := ((((((((((({} : Ctl).setE 0x230001 2).setE 0x230002 0).setE 0x230003 0x4CFD00).setE 0x230004 1).setEa 0x2303 0 3).setEa 0x2303 1 3).setEa 0x2306 0 2).setE
      0x700001 3).setOffset 0 (tS 1)).setRg fun r => { r with ports := [{ up := true }, { up := true }] }) }

theorem exec_revertTimer (dt : Nat) (s : State) :
    exec (.revertTimer dt) s = runC (fun c => (c.advance dt).when (c.advance dt).servosRun (·.revert)) s := rfl

/-- The report that the domains disagree counts in the log, the domain no longer reads as LOCKED, and no switch is decided. -/
theorem revertTimer_preferringTheLogCount {t : State} (h : exec (.revertTimer (tS 60)) preferringTheLogCount = .next t) : t.ctl.tb.switchTick = none := by
  obtain rfl := Host.Outcome.next.inj ((exec_revertTimer ..).symm.trans h)
  decide +kernel

end Sys2Proof.Machine

open Sys2Proof Sys2Proof.Machine

/-- Refutes O36: its clause on REVERT_TIMER does not bound PREFERRED_DOMAIN to the two domains. Where it names none of them, the domain's state can be an
entry that the report DOMAINS_DISAGREE of the same step changes, and the part does not decide to switch back. -/
theorem not_theDomainSwitches : ¬ Obligations.TheDomainSwitches := by
  unfold Obligations.TheDomainSwitches
  intro h
  obtain ⟨-, -, -, -, hrevert, -⟩ := h
  obtain ⟨t, hexec, -, -, -, hswitch, -⟩ := hrevert (tS 60) 0x4CFD00 preferringTheLogCount (by decide) (by decide) (by decide) (by decide) (by decide) (by decide)
    (by decide) (by decide) (by decide) (by decide +kernel) fun q hq => match q, hq with
      | 0, _ => ⟨rfl, by decide⟩
      | 1, _ => ⟨rfl, by decide⟩
  rw [revertTimer_preferringTheLogCount hexec] at hswitch
  exact absurd hswitch (by simp)

end

section
/-! PROOFS. Messages and rings of the host at states that the statements allow: a counter past its width, a full side-channel queue, a HEAD past its ring. -/
namespace Sys2Proof.Machine

/-! ### A corrected-words counter past its 32 bits (18 R499, 00 R10) -/

/-- One word of the dictionary store has two flipped bits; the counter of corrected words stands past its width. -/
def countPastWidth : Ctl := (({} : Ctl).setE 0x110007 (2 ^ 33)).setBt fun b => { b with mramErrs := [(0x70000, 3)] }

/-- To add nothing to the counter brings it down to its width. -/
theorem mramUse_countPastWidth : (countPastWidth.mramUse fun y => decide (y = 0x70000)).e 0x110007 = 2 ^ 32 - 1 := by decide +kernel

/-! ### A session over the ring whose port has no room for the reply (12 R376, 16 R451) -/

/-- An Operator's session over the ring, from position 9 by East. -/
def ringSession : Sess := { fixedSess 2 with num := 3, src := ⟨1, 9, 0⟩ }

/-- The part serves that session, and East's side-channel queue is full. -/
def ringServer : State :=
  { State.reset with
    ctl := (({ dy := { serving := true, sessions := [ringSession] } } : Ctl).setRg fun r => { r with
      ports := [{ up := true, side := [⟨2, 9, 0, 1, List.replicate 16384 0⟩] }] }) }

/-- A request of that session with SEQUENCE 7. -/
def ringRequest (mtype : Nat) (body : List Byte) : List Byte := vosMsg mtype 0 0 3 7 0xFE body []

/-- COMMIT. -/
def ringCommit : List Byte := ringRequest 6 [1, 0, 0, 0]
/-- SUBSCRIBE of kind 0, which cancels subscription 0. -/
def ringCancel : List Byte := ringRequest 5 [0, 0, 0, 0, 0, 0, 0, 0]

theorem exec_commit (dt : Nat) (src : VAddr) (msg : List Byte) (s : State) :
    exec (.commit dt src msg) s = runC (fun c => (c.advance dt).vosRun 6 true src msg) s := rfl
theorem exec_subscribe (dt : Nat) (src : VAddr) (msg : List Byte) (s : State) :
    exec (.subscribe dt src msg) s = runC (fun c => (c.advance dt).vosRun 5 true src msg) s := rfl

/-- The reply that the queue does not take counts in SC_DROPS. -/
theorem commit_ringServer {t : State} (h : exec (.commit 0 ringSession.src ringCommit) ringServer = .next t) : t.ctl.e 0x211C01 = 1 := by
  obtain rfl := Host.Outcome.next.inj ((exec_commit ..).symm.trans h)
  decide +kernel

theorem subscribe_ringServer {t : State} (h : exec (.subscribe 0 ringSession.src ringCancel) ringServer = .next t) : t.ctl.e 0x211C01 = 1 := by
  obtain rfl := Host.Outcome.next.inj ((exec_subscribe ..).symm.trans h)
  decide +kernel

theorem e_ringServer : ringServer.ctl.e 0x211C01 = 0 := by decide +kernel

/-! ### A ring whose HEAD is past its entries (17 R485; assumption log 65) -/

/-- Host ring 0 of 16 entries has a record written; HEAD was written as 16, which the ring takes as entry 0, where TAIL stands. -/
def headPastRing : State :=
  { State.reset with
    ctl := (((({} : Ctl).setReg .hiEqCfg 0 1 5).setReg .hiEqCfg 0 16 4).setReg .hiEqPtr 0 0 16).setHi fun h => { h with eqWritten := [0], msix := [(msixKey 0 3, 0)] } }

theorem exec_msixCoalesce (dt queue : Nat) (s : State) :
    exec (.msixCoalesce dt queue) s = runC (fun c => (c.advance dt).when (decide (queue < 128)) (·.eqCoalesce queue)) s := rfl

theorem msixCoalesce_headPastRing {t : State} (h : exec (.msixCoalesce 0 0) headPastRing = .next t) : t.ctl.hi.eqWritten.contains 0 = true := by
  obtain rfl := Host.Outcome.next.inj ((exec_msixCoalesce ..).symm.trans h)
  decide +kernel

end Sys2Proof.Machine

open Sys2Proof Sys2Proof.Machine

/-- Refutes O22: its last clause says that the counter of corrected words stands where a word is lost, of a part whose counter is any number. Past its
32 bits the counter saturates (00 R10) also where nothing is added. -/
theorem not_readsAreAnswered : ¬ Obligations.ReadsAreAnswered := by
  unfold Obligations.ReadsAreAnswered
  intro h
  obtain ⟨-, -, -, -, hlost⟩ := h
  obtain ⟨⟨k, d, i⟩, hentry⟩ := Option.isSome_iff_exists.1 (show (entryOf 0x70000).isSome = true by decide +kernel)
  obtain ⟨hcount, -, -⟩ := hlost 0x70000 3 k d i countPastWidth rfl (by decide +kernel) (by decide) (by decide) (by decide) hentry
  rw [mramUse_countPastWidth] at hcount
  exact absurd hcount (by decide +kernel)

/-- Refutes O23: its clause that cancels a subscription admits a session over the ring, and says that every entry stands. The reply that the side channel
has no room for counts in SC_DROPS (12 R376). -/
theorem not_sessionsWriteAndSubscribe : ¬ Obligations.SessionsWriteAndSubscribe := by
  unfold Obligations.SessionsWriteAndSubscribe
  intro h
  obtain ⟨-, -, -, -, -, -, hcancel, -⟩ := h
  obtain ⟨t, hexec, -, -, -, hent, -⟩ := hcancel 0 ringSession.src ringCancel ringSession ringServer (by decide +kernel) (by decide) (by decide) (by decide +kernel)
  have hdrops := Ctl.e_congr hent 0x211C01
  rw [subscribe_ringServer hexec, e_ringServer] at hdrops
  exact absurd hdrops (by decide)

/-- Refutes O24: its clause on COMMIT admits a session over the ring, and says that every entry stands. The reply that the side channel has no room for
counts in SC_DROPS (12 R376). -/
theorem not_commitsFreezeTheStagedSet : ¬ Obligations.CommitsFreezeTheStagedSet := by
  unfold Obligations.CommitsFreezeTheStagedSet
  intro h
  obtain ⟨hcommit, -⟩ := h
  obtain ⟨t, hexec, -, -, -, -, hent, -⟩ := hcommit 0 ringSession.src ringCommit ringSession ringServer (by decide +kernel) (by decide) (by decide) (by decide)
  have hdrops := Ctl.e_congr hent 0x211C01
  rw [commit_ringServer hexec, e_ringServer] at hdrops
  exact absurd hdrops (by decide)

/-- Refutes O30: its clause on MSIX_COALESCE asks that HEAD and TAIL differ as they were written; where HEAD is past the ring's entries the two are one
entry all the same, no record waits for the host, and no message is due. -/
theorem not_hostRingsTakeRecords : ¬ Obligations.HostRingsTakeRecords := by
  unfold Obligations.HostRingsTakeRecords
  intro h
  obtain ⟨-, -, -, hcoalesce⟩ := h
  obtain ⟨t, hexec, -, -, -, hwritten, -⟩ := hcoalesce 0 0 headPastRing (by decide) (by decide +kernel) (by decide) (by decide) (by decide +kernel) (by decide +kernel)
  rw [msixCoalesce_headPastRing hexec] at hwritten
  exact absurd hwritten (by decide)

end

section
/-! PROOFS. Registers over the accesses to DRAM, the DRAM window and the DMA engine (14 R410, 17 R480, R487, R488, R490). -/
namespace Sys2Proof.Machine

/-! ### Registers that no access to DRAM changes -/

/-- The registers that an access to DRAM may change: those of an event, and those that show an ECC error (14 R410). -/
def dramReg (r : RegName) : Bool := postReg r || decide (r = .mcEccStatus) || decide (r = .mcErrAddrLo) || decide (r = .mcErrAddrHi)

/-- A field that is set leaves every other register. -/
theorem Ctl.reg_setReg_ne (c : Ctl) {r r' : RegName} (i i' l l' v : Nat) (h : r ≠ r') : (c.setReg r i l v).reg r' i' l' = c.reg r' i' l' := by
  rw [Ctl.reg_setReg, if_neg (by simp [h])]

theorem Ctl.regs_mcRun (c : Ctl) : c.mcRun.regs = c.regs := by
  unfold Ctl.mcRun
  split
  · rfl
  · extract_lets now woken d rs miss rank e
    split
    · rfl
    · refine (foldl_keeps Ctl.regs _ _ e fun d p _ => ?_).trans rfl
      split <;> rfl

theorem Ctl.regs_ask (c : Ctl) (client : Nat) (write : Bool) (part : Nat → Bool) (l : List Nat) : (c.ask client write part l).regs = c.regs := by
  unfold Ctl.ask
  split
  · rfl
  · exact c.regs_mcRun

section
variable {r : RegName} (h : dramReg r = false)
include h

theorem dramReg_ne : postReg r = false ∧ RegName.mcEccStatus ≠ r ∧ RegName.mcErrAddrLo ≠ r ∧ RegName.mcErrAddrHi ≠ r := by
  simp only [dramReg, Bool.or_eq_false_iff, decide_eq_false_iff_not] at h
  obtain ⟨⟨⟨hpost, hstatus⟩, hlo⟩, hhi⟩ := h
  exact ⟨hpost, fun e => hstatus e.symm, fun e => hlo e.symm, fun e => hhi e.symm⟩

theorem Ctl.reg_eccUnc (c : Ctl) (client scrub b i l : Nat) : (c.eccUnc client scrub b).reg r i l = c.reg r i l := by
  obtain ⟨hpost, hstatus, hlo, hhi⟩ := dramReg_ne h
  unfold Ctl.eccUnc
  rw [Ctl.reg_post _ _ _ _ _ _ hpost, Ctl.reg_setReg_ne _ _ _ _ _ _ hhi, Ctl.reg_setReg_ne _ _ _ _ _ _ hlo]
  exact Ctl.reg_setReg_ne _ _ _ _ _ _ hstatus

theorem Ctl.reg_eccCorrected (c : Ctl) (p i l : Nat) : (c.eccCorrected p).reg r i l = c.reg r i l := by
  obtain ⟨hpost, hstatus, -, -⟩ := dramReg_ne h
  unfold Ctl.eccCorrected
  extract_lets d due
  have hd : d.reg r i l = c.reg r i l := Ctl.reg_setReg_ne _ _ _ _ _ _ hstatus
  split
  · exact (Ctl.reg_post _ _ _ _ _ _ hpost).trans hd
  · exact hd

theorem Ctl.reg_readBurst (c : Ctl) (m : Mem) (client scrub b i l : Nat) : (c.readBurst m client scrub b).reg r i l = c.reg r i l := by
  have hask : ∀ (d : Ctl) (client : Nat) (write : Bool) (l' : List Nat), (d.requests client write l').reg r i l = d.reg r i l :=
    fun d _ _ _ => Ctl.reg_congr (d.regs_ask ..) r i l
  unfold Ctl.readBurst
  extract_lets d
  have hd : d.reg r i l = c.reg r i l := by
    unfold d
    split
    · rfl
    · rfl
    · exact hask ..
  split
  · exact (Ctl.reg_eccUnc h ..).trans hd
  · split
    · exact hd
    · exact (hask ..).trans ((Ctl.reg_eccCorrected h d _ i l).trans hd)

theorem Ctl.reg_readDram (c : Ctl) (m : Mem) (client a n i l : Nat) : (c.readDram m client a n).reg r i l = c.reg r i l := by
  have hask : (c.requests client false (burstsOf a n)).reg r i l = c.reg r i l := Ctl.reg_congr (c.regs_ask ..) r i l
  unfold Ctl.readDram Ctl.readBursts
  split
  · exact hask
  · exact (foldl_keeps (Ctl.reg · r i l) _ _ _ fun d b _ => Ctl.reg_readBurst h d m client 0 b i l).trans hask

theorem Ctl.reg_writeDram (c : Ctl) (m : Mem) (client a n i l : Nat) : (c.writeDram m client a n).reg r i l = c.reg r i l := by
  unfold Ctl.writeDram Ctl.writeBursts
  extract_lets d
  have hask : d.reg r i l = c.reg r i l := Ctl.reg_congr (c.regs_ask ..) r i l
  split
  · exact hask
  · exact (foldl_keeps (Ctl.reg · r i l) _ _ _ fun d b _ => Ctl.reg_readBurst h d m client 0 b i l).trans hask

end

/-! ### The window (17 R480) -/

theorem exec_windowAccess (dt offset : Nat) (write : Bool) (len : Nat) (bytes : List Byte) (ue : List DramErr) (s : State) :
    exec (.windowAccess dt offset write len bytes ue) s = runM (fun m c =>
      if write then winWrite offset bytes (m.found ue) (c.advance dt) else (m.found ue, winRead offset len (m.found ue) (c.advance dt))) s := rfl

/-- A command over memory and the part completes with what its operation left, and the queue as it was. -/
theorem completes_of_exec_eq_runM {i : Instr} {f : Mem → Ctl → Mem × Ctl} {s : State} {P : State → Prop} (h : exec i s = runM f s)
    (hP : P { s with mem := (mended (f s.mem s.ctl)).1, ctl := (mended (f s.mem s.ctl)).2 }) : completes i s P := ⟨_, h, hP⟩

theorem Ctl.winAddr_advance (c : Ctl) (dt off : Nat) : (c.advance dt).winAddr off = c.reg .hiWinBase 0 0 * 268435456 + off := by
  rw [Ctl.winAddr, Ctl.reg_advance]

/-- A window read within DRAM returns its octets, poisoned where a burst is. -/
theorem winRead_within {off a : Nat} (len : Nat) (m : Mem) {c : Ctl} (ha : c.winAddr off = a) (h : c.dramOk a len = true) :
    winRead off len m c = (c.readDram m 10 a len).complete a (m.poisoned a len) (m.read a len) := by
  subst ha
  unfold winRead
  rw [if_neg (by simp [h])]

/-- A window write within DRAM stores its octets. -/
theorem winWrite_within {off a : Nat} (bs : List Byte) (m : Mem) {c : Ctl} (ha : c.winAddr off = a) (h : c.dramOk a bs.length = true) :
    winWrite off bs m c = (m.store a bs, c.writeDram m 10 a bs.length) := by
  subst ha
  unfold winWrite
  rw [if_pos h]
  rfl

/-- A window write outside DRAM is dropped and counted. -/
theorem winWrite_outside {off a : Nat} (bs : List Byte) (m : Mem) {c : Ctl} (ha : c.winAddr off = a) (h : c.dramOk a bs.length = false) :
    winWrite off bs m c = (m, c.incE 0x530003) := by
  subst ha
  unfold winWrite
  rw [if_neg (by simp [h])]

/-- WINDOW_DENIED counts in 32 bits. -/
theorem Ctl.e_incE_windowDenied (c : Ctl) : (c.incE 0x530003).e 0x530003 = satAdd 32 (c.e 0x530003) 1 := by
  have hwidth : entWidth 0x530003 = 32 := by decide +kernel
  unfold Ctl.incE Ctl.addE
  rw [Ctl.e_setE, if_pos rfl, hwidth]

/-- What was just sent is among what the part has sent. -/
theorem Ctl.mem_out_complete (c : Ctl) (a : Nat) (poisoned : Bool) (bs : List Byte) :
    ({ kind := .completion, a := a, b := b2n poisoned, bytes := bs } : Emit) ∈ (c.complete a poisoned bs).out := by
  simp [Ctl.complete, Ctl.emit]

/-! ### The job queues and the interrupt pins (17 R487, R490) -/

theorem exec_jqTailWrite (dt queue value : Nat) (s : State) :
    exec (.jqTailWrite dt queue value) s = runC (fun c => (c.advance dt).when (decide (queue < 2)) (·.jqTailWrite queue value)) s := rfl
theorem exec_jqDisable (dt queue : Nat) (s : State) :
    exec (.jqDisable dt queue) s = runC (fun c => (c.advance dt).when (decide (queue < 2)) (·.jqDisable queue)) s := rfl
theorem exec_irqAck (dt mask : Nat) (s : State) : exec (.irqAck dt mask) s = runC (fun c => (c.advance dt).irqAck mask) s := rfl
theorem exec_dmaJobDone (dt moved : Nat) (bytes : List Byte) (err : Bool) (ue : List DramErr) (s : State) :
    exec (.dmaJobDone dt moved bytes err ue) s = runM (fun m c => dmaJobDone moved bytes err (m.found ue) (c.advance dt)) s := rfl

theorem Ctl.when_true {c : Ctl} {b : Bool} (h : b = true) (f : Ctl → Ctl) : c.when b f = f c := by
  rw [h]
  rfl

/-- To start the DMA engine changes its job queue's state only. -/
theorem Ctl.dmaStart_keeps (c : Ctl) : c.dmaStart.regs = c.regs ∧ c.dmaStart.ent = c.ent := by
  unfold Ctl.dmaStart
  split <;> exact ⟨rfl, rfl⟩

/-- While a job runs the engine takes no other. -/
theorem Ctl.dmaStart_of_running (c : Ctl) (h : c.hi.j1.running = true) : c.dmaStart = c := by simp [Ctl.dmaStart, h]

theorem Ctl.regs_dmaLoadGo (c : Ctl) : c.dmaLoadGo.regs = c.regs := by
  unfold Ctl.dmaLoadGo
  split
  · rfl
  · split <;> rfl

/-- Only a write of TAIL of the DMA queue can start the engine. -/
theorem Ctl.jqTailWrite_keeps (c : Ctl) (q v : Nat) :
    (c.jqTailWrite q v).regs = (c.setReg .hiJqPtr q 16 (v % 65536)).regs ∧ (c.jqTailWrite q v).ent = c.ent ∧ (q = 0 → (c.jqTailWrite q v).hi = c.hi) := by
  unfold Ctl.jqTailWrite
  extract_lets d
  split
  next hq =>
    obtain ⟨hregs, hent⟩ := d.dmaStart_keeps
    exact ⟨hregs, hent, fun h0 => absurd (h0.symm.trans hq) (by decide)⟩
  next => exact ⟨rfl, rfl, fun _ => rfl⟩

/-- A queue is disabled; the job that runs goes on, and HEAD stands. -/
theorem Ctl.jqDisable_keeps (c : Ctl) (q : Nat) :
    (c.jqDisable q).reg .hiJqCfg q 0 = 0 ∧ (c.hi.j1.running = true → (c.jqDisable q).hi = c.hi) ∧
    (c.jqDisable q).reg .hiJqPtr q 0 = c.reg .hiJqPtr q 0 := by
  have hstart : (if q = 1 then c.dmaStart else c).regs = c.regs := by
    split
    · exact c.dmaStart_keeps.1
    · rfl
  unfold Ctl.jqDisable
  refine ⟨by rw [Ctl.reg_setReg, if_pos rfl], fun hrun => ?_, ?_⟩
  · rw [Ctl.dmaStart_of_running c hrun]
    split <;> rfl
  · rw [Ctl.reg_setReg_ne _ _ _ _ _ _ (by decide)]
    exact Ctl.reg_congr hstart ..

/-- A number without a bit that it has. -/
theorem testBit_sub_two_pow {v p : Nat} (h : v.testBit p = true) (j : Nat) : (v - 2 ^ p).testBit j = (v.testBit j && decide (j ≠ p)) := by
  have hodd : v / 2 ^ p % 2 = 1 := by simpa [Nat.testBit_eq_decide_div_mod_eq] using h
  have hrest : v % 2 ^ p < 2 ^ p := Nat.mod_lt _ (Nat.two_pow_pos p)
  have hparts : v = 2 ^ p * (v / 2 ^ p) + v % 2 ^ p := (Nat.div_add_mod v (2 ^ p)).symm
  generalize v / 2 ^ p = q at hodd hparts
  generalize v % 2 ^ p = r at hrest hparts
  have hless : v - 2 ^ p = 2 ^ p * (2 * (q / 2)) + r := by
    have hq : q = 2 * (q / 2) + 1 := by omega
    rw [hparts, hq, Nat.mul_add, Nat.mul_one, ← hq]
    omega
  rw [hless, hparts, Nat.testBit_two_pow_mul_add _ hrest, Nat.testBit_two_pow_mul_add _ hrest]
  rcases Nat.lt_trichotomy j p with hj | rfl | hj
  · simp [hj, hj.ne]
  · simp
  · obtain ⟨n, hn⟩ : ∃ n, j - p = n + 1 := ⟨j - p - 1, by omega⟩
    simp [hn, Nat.not_lt_of_gt hj, hj.ne', Nat.testBit_succ]

/-- A number without some of its bits, each of which it has. -/
theorem testBit_sub_bits (l : List Nat) (hnodup : l.Nodup) (v : Nat) (hset : ∀ p ∈ l, v.testBit p = true) (i : Nat) :
    (l.foldl (fun v p => v - 2 ^ p) v).testBit i = (v.testBit i && !l.contains i) := by
  induction l generalizing v with
  | nil => simp
  | cons p l ih =>
    obtain ⟨hp, hnodup⟩ := List.nodup_cons.1 hnodup
    have hclear := testBit_sub_two_pow (hset p (List.mem_cons_self ..))
    rw [List.foldl_cons, ih hnodup _ fun q hq => by
      rw [hclear, hset q (List.mem_cons_of_mem p hq)]
      exact decide_eq_true fun e => hp (e ▸ hq), hclear]
    by_cases hi : i = p <;> simp [hi]

/-- IRQ_ACK takes the named pins back, and IRQ_STATE shows what is left. -/
theorem Ctl.irqAck_clears (c : Ctl) (mask : Nat) {p : Nat} (hp : p < 8) :
    (c.irqAck mask).irq.testBit p = (c.irq.testBit p && !bit mask p) ∧ (c.irqAck mask).e 0x530005 = (c.irqAck mask).irq := by
  unfold Ctl.irqAck
  extract_lets off d e
  have hd : d.irq = c.irq := foldl_keeps Ctl.irq _ _ _ fun _ _ _ => rfl
  refine ⟨?_, (Ctl.e_setE ..).trans (if_pos rfl)⟩
  have hset : ∀ q ∈ off, d.irq.testBit q = true := fun q hq => by
    rw [hd]
    have hboth := (List.mem_filter.1 hq).2
    rw [Bool.and_eq_true] at hboth
    exact hboth.2
  have hbits := testBit_sub_bits off (List.nodup_range.filter _) d.irq hset p
  show (off.foldl (fun v p => v - 2 ^ p) d.irq).testBit p = _
  rw [hbits, hd]
  have hoff : off.contains p = (bit mask p && c.irq.testBit p) := by
    rw [Bool.eq_iff_iff, List.contains_iff_mem, List.mem_filter, List.mem_range]
    exact ⟨fun h => h.2, fun h => ⟨hp, h⟩⟩
  rw [hoff]
  cases c.irq.testBit p <;> cases bit mask p <;> rfl

/-! ### The DMA engine (17 R488) -/

/-- The end of a job stores its result in the descriptor's octets 40 to 48, and HEAD goes on. -/
theorem dmaEnd_leaves (d : List Byte) (moved result : Nat) (m : Mem) (c : Ctl) :
    (dmaEnd d moved result m c).1 = m.store (c.jqAddr 1 (c.jqHead 1) + 40) (toLE 4 moved ++ [0, 0, 0, 0, byteOf result]) ∧
    (dmaEnd d moved result m c).2.jqHead 1 = (c.jqHead 1 + 1) % c.jqEntries 1 := by
  unfold dmaEnd
  extract_lets q m' e f tag g
  refine ⟨rfl, ?_⟩
  have he : ∀ r i l, dramReg r = false → e.reg r i l = c.reg r i l := fun r i l hr => Ctl.reg_writeDram hr c m 9 _ _ i l
  have hg : g.jqHead 1 = f.jqHead 1 := by
    unfold g
    split
    · exact Ctl.reg_post _ _ _ _ _ _ (by decide)
    · split
      · exact Ctl.reg_post _ _ _ _ _ _ (by decide)
      · rfl
  have hstart : g.dmaLoadGo.dmaStart.jqHead 1 = g.jqHead 1 := Ctl.reg_congr (g.dmaLoadGo.dmaStart_keeps.1.trans g.regs_dmaLoadGo) ..
  have hf : f.jqHead 1 = (e.jqHead 1 + 1) % e.jqEntries 1 := (Ctl.reg_setReg ..).trans (if_pos rfl)
  rw [hstart, hg, hf]
  unfold Ctl.jqHead Ctl.jqEntries
  rw [he _ _ _ (by decide), he _ _ _ (by decide)]

/-- The same of a part whose registers stand but for those of events and ECC errors. -/
theorem dmaEnd_leaves_of_reg (d : List Byte) (moved result : Nat) (m : Mem) {c e : Ctl} (h : ∀ r i l, dramReg r = false → e.reg r i l = c.reg r i l) :
    (dmaEnd d moved result m e).1 = m.store (c.jqAddr 1 (c.jqHead 1) + 40) (toLE 4 moved ++ [0, 0, 0, 0, byteOf result]) ∧
    (dmaEnd d moved result m e).2.jqHead 1 = (c.jqHead 1 + 1) % c.jqEntries 1 := by
  obtain ⟨hmem, hhead⟩ := dmaEnd_leaves d moved result m e
  rw [hmem, hhead]
  unfold Ctl.jqAddr Ctl.jqHead Ctl.jqEntries
  rw [h _ _ _ (by decide), h _ _ _ (by decide), h _ _ _ (by decide), h _ _ _ (by decide)]
  exact ⟨rfl, rfl⟩

theorem Ctl.dmaCheck_readDram (c : Ctl) (m : Mem) (client a n : Nat) (d : List Byte) : (c.readDram m client a n).dmaCheck d = c.dmaCheck d := by
  have hcap : (c.readDram m client a n).capacity = c.capacity := c.e_readDram m client a n (by decide)
  unfold Ctl.dmaCheck Ctl.dramOk Ctl.imgBase
  rw [hcap]

theorem Ctl.regs_snoopPass (c : Ctl) (point tag : Nat) (bs : List Byte) : (c.snoopPass point tag bs).regs = c.regs := by
  unfold Ctl.snoopPass
  split <;> rfl

/-- A running job whose descriptor is refused ends with the result, and nothing moves. -/
theorem dmaJobDone_refused (moved : Nat) (bytes : List Byte) (err : Bool) (m : Mem) (c : Ctl) (hrun : c.hi.j1.running = true)
    (hclean : m.poisoned (c.jqAddr 1 (c.jqHead 1)) 64 = false) (hst : c.dmaCheck (m.read (c.jqAddr 1 (c.jqHead 1)) 64) ≠ 0) :
    dmaJobDone moved bytes err m c = dmaEnd (m.read (c.jqAddr 1 (c.jqHead 1)) 64) 0 (c.dmaCheck (m.read (c.jqAddr 1 (c.jqHead 1)) 64)) m
      (c.readDram m 9 (c.jqAddr 1 (c.jqHead 1)) 64) := by
  unfold dmaJobDone
  rw [Ctl.dmaStart_of_running c hrun]
  dsimp only
  rw [if_neg (by simp [hrun]), hclean]
  simp only [Bool.false_eq_true, if_false, Ctl.dmaCheck_readDram]
  rw [if_pos hst]

/-- The part while a job from the host stores its octets: it has asked the host for them, and they have passed the snoop point. -/
def Ctl.dmaTaking (c : Ctl) (d bytes : List Byte) : Ctl := (c.emit { kind := .hostRead, a := leAt d 8 8, b := bytes.length }).snoopPass 6 0 bytes

/-- A running job from the host whose octets have all come stores them and ends. -/
theorem dmaJobDone_fromHost (moved : Nat) (bytes : List Byte) (m : Mem) (c : Ctl) (hrun : c.hi.j1.running = true)
    (hclean : m.poisoned (c.jqAddr 1 (c.jqHead 1)) 64 = false) (hst : c.dmaCheck (m.read (c.jqAddr 1 (c.jqHead 1)) 64) = 0)
    (hop : u8At (m.read (c.jqAddr 1 (c.jqHead 1)) 64) 0 = 1) (hlen : bytes.length = leAt (m.read (c.jqAddr 1 (c.jqHead 1)) 64) 24 4) :
    dmaJobDone moved bytes false m c =
      dmaEnd (m.read (c.jqAddr 1 (c.jqHead 1)) 64) bytes.length 0 (m.store (leAt (m.read (c.jqAddr 1 (c.jqHead 1)) 64) 16 8) bytes)
        (((c.readDram m 9 (c.jqAddr 1 (c.jqHead 1)) 64).dmaTaking (m.read (c.jqAddr 1 (c.jqHead 1)) 64) bytes).writeDram m 9
          (leAt (m.read (c.jqAddr 1 (c.jqHead 1)) 64) 16 8) bytes.length) := by
  unfold dmaJobDone
  rw [Ctl.dmaStart_of_running c hrun]
  dsimp only
  rw [if_neg (by simp [hrun]), hclean]
  simp only [Bool.false_eq_true, if_false, Ctl.dmaCheck_readDram]
  rw [if_neg (not_not.2 hst), if_pos hop, ← hlen, List.take_length, if_neg (by simp)]
  rfl

/-- A refused job leaves its result in the descriptor, and HEAD goes on. -/
theorem dmaJobDone_refused_leaves (moved : Nat) (bytes : List Byte) (err : Bool) (m : Mem) (c : Ctl) (hrun : c.hi.j1.running = true)
    (hclean : m.poisoned (c.jqAddr 1 (c.jqHead 1)) 64 = false) (hst : c.dmaCheck (m.read (c.jqAddr 1 (c.jqHead 1)) 64) ≠ 0) :
    (dmaJobDone moved bytes err m c).1 =
      m.store (c.jqAddr 1 (c.jqHead 1) + 40) (toLE 4 0 ++ [0, 0, 0, 0, byteOf (c.dmaCheck (m.read (c.jqAddr 1 (c.jqHead 1)) 64))]) ∧
    (dmaJobDone moved bytes err m c).2.jqHead 1 = (c.jqHead 1 + 1) % c.jqEntries 1 := by
  rw [dmaJobDone_refused moved bytes err m c hrun hclean hst]
  exact dmaEnd_leaves_of_reg _ _ _ _ fun r i l hr => Ctl.reg_readDram hr ..

/-- A job from the host leaves its octets in DRAM and their number in the descriptor, and HEAD goes on. -/
theorem dmaJobDone_fromHost_leaves (moved : Nat) (bytes : List Byte) (m : Mem) (c : Ctl) (hrun : c.hi.j1.running = true)
    (hclean : m.poisoned (c.jqAddr 1 (c.jqHead 1)) 64 = false) (hst : c.dmaCheck (m.read (c.jqAddr 1 (c.jqHead 1)) 64) = 0)
    (hop : u8At (m.read (c.jqAddr 1 (c.jqHead 1)) 64) 0 = 1) (hlen : bytes.length = leAt (m.read (c.jqAddr 1 (c.jqHead 1)) 64) 24 4) :
    (dmaJobDone moved bytes false m c).1 = (m.store (leAt (m.read (c.jqAddr 1 (c.jqHead 1)) 64) 16 8) bytes).store (c.jqAddr 1 (c.jqHead 1) + 40)
      (toLE 4 bytes.length ++ [0, 0, 0, 0, 0]) ∧
    (dmaJobDone moved bytes false m c).2.jqHead 1 = (c.jqHead 1 + 1) % c.jqEntries 1 := by
  rw [dmaJobDone_fromHost moved bytes m c hrun hclean hst hop hlen]
  refine dmaEnd_leaves_of_reg _ _ _ _ fun r i l hr => ?_
  rw [Ctl.reg_writeDram hr]
  exact (Ctl.reg_congr (Ctl.regs_snoopPass ..) r i l).trans (Ctl.reg_readDram hr c m 9 _ 64 i l)

theorem mended_dram (r : Mem × Ctl) : (mended r).1.dram = r.1.dram := rfl
theorem mended_jqHead (r : Mem × Ctl) (q : Nat) : (mended r).2.jqHead q = r.2.jqHead q := rfl

end Sys2Proof.Machine

open Sys2Proof Sys2Proof.Machine

/-- Settles O32, from what a window access leaves: a write changes no octet beside its own, and one outside DRAM only counts. -/
theorem windowReachesDram : Obligations.WindowReachesDram := by
  unfold Obligations.WindowReachesDram
  refine ⟨fun dt offset len ue a m s ha hin hm => ?read, fun dt offset len a bytes ue s ha hin => ?write, fun dt offset len bytes s hout => ?refused⟩
  case read =>
    refine completes_of_exec_eq_runM (exec_windowAccess dt offset false len [] ue s) ?_
    rw [if_neg Bool.false_ne_true, winRead_within len (s.mem.found ue) ((s.ctl.winAddr_advance dt offset).trans ha.symm) hin]
    subst hm
    exact ⟨rfl, rfl, rfl, Ctl.mem_out_complete ..⟩
  case write =>
    refine completes_of_exec_eq_runM (exec_windowAccess dt offset true len bytes ue s) ?_
    rw [if_pos rfl, winWrite_within bytes (s.mem.found ue) ((s.ctl.winAddr_advance dt offset).trans ha.symm) hin]
    exact ⟨rfl, rfl, fun z hz => Mem.get_store_off bytes (s.mem.found ue) hz⟩
  case refused =>
    refine completes_of_exec_eq_runM (exec_windowAccess dt offset true len bytes [] s) ?_
    rw [if_pos rfl, winWrite_outside bytes (s.mem.found []) (s.ctl.winAddr_advance dt offset) hout]
    exact ⟨rfl, rfl, Ctl.e_incE_windowDenied (s.ctl.advance dt)⟩

/-- Settles O31, from what each operation of the job queues leaves: no access to DRAM changes the registers that the DMA engine goes by. -/
theorem jobQueuesAndDma : Obligations.JobQueuesAndDma := by
  unfold Obligations.JobQueuesAndDma
  refine ⟨fun dt queue value s hq => ?tail, fun dt queue s hq => ?disable, fun dt mask p s hp => ?ack,
    fun dt bytes ue a dram len m s hrun ha hm hclean hst hop hdram hlen hbytes => ?fromHost, fun dt bytes moved ue a st m s hrun ha hm hclean hst hrefused => ?refused⟩
  case tail =>
    refine leaves_of_exec_eq_runC (exec_jqTailWrite dt queue value s) ?_
    rw [Ctl.when_true (decide_eq_true hq)]
    exact (s.ctl.advance dt).jqTailWrite_keeps queue value
  case disable =>
    refine leaves_of_exec_eq_runC (exec_jqDisable dt queue s) ?_
    rw [Ctl.when_true (decide_eq_true hq)]
    exact (s.ctl.advance dt).jqDisable_keeps queue
  case ack =>
    refine leaves_of_exec_eq_runC (exec_irqAck dt mask s) ?_
    obtain ⟨hbits, hshown⟩ := (s.ctl.advance dt).irqAck_clears mask hp
    exact ⟨fun h => by simp [hbits, h], fun h => by simp [hbits, h], hshown⟩
  case fromHost =>
    refine completes_of_exec_eq_runM (exec_dmaJobDone dt 0 bytes false ue s) ?_
    subst ha hm hdram hlen
    obtain ⟨hmem, hhead⟩ := dmaJobDone_fromHost_leaves 0 bytes (s.mem.found ue) (s.ctl.advance dt) hrun hclean hst hop hbytes
    refine ⟨rfl, ?_, (mended_jqHead ..).trans hhead⟩
    rw [mended_dram, hmem, ← hbytes]
    rfl
  case refused =>
    refine completes_of_exec_eq_runM (exec_dmaJobDone dt moved bytes false ue s) ?_
    subst ha hm hst
    obtain ⟨hmem, hhead⟩ := dmaJobDone_refused_leaves moved bytes false (s.mem.found ue) (s.ctl.advance dt) hrun hclean hrefused
    refine ⟨rfl, ?_, (mended_jqHead ..).trans hhead⟩
    rw [mended_dram, hmem]
    rfl

end

section
/-! PROOFS. Resets of the host interface (17 R477, R492): what an event and the end of a session leave of the host's side, and what a reset clears. -/
namespace Sys2Proof.Machine

/-! ### What posting an event leaves of the host's side (17 R484) -/

/-- The host's part without the event buffers and the drops that they count. -/
def Ctl.hiKept (c : Ctl) : HiState := { c.hi with buf := [], dropPosted := [], dropCount := [] }

theorem Ctl.hiKept_enqueue (c : Ctl) (q : Nat) (x : EvRec) : (c.enqueue q x).hiKept = c.hiKept := by
  unfold Ctl.enqueue
  split
  · rfl
  · split <;> rfl

theorem Ctl.hiKept_raiseIrq (c : Ctl) (b : Nat) : (c.raiseIrq b).hiKept = c.hiKept := by
  simp only [Ctl.raiseIrq]
  split
  · rfl
  · split <;> rfl

theorem Ctl.hiKept_eventBit (c : Ctl) (code : Nat) : (c.eventBit code).hiKept = c.hiKept := by
  unfold Ctl.eventBit
  split <;> rfl

theorem Ctl.hiKept_tell (c : Ctl) (code : Nat) (x : EvRec) : (c.tell code x).hiKept = c.hiKept := by
  simp only [Ctl.tell]
  rw [Ctl.hiKept_eventBit, Ctl.hiKept_raiseIrq, Ctl.hiKept_enqueue, Ctl.hiKept_enqueue]
  rfl

theorem Ctl.hiKept_logAdd (c : Ctl) (x : EvRec) (a b w : Nat) (h : Bool) : (c.logAdd x a b w h).hiKept = c.hiKept := by
  unfold Ctl.logAdd Ctl.logCount Ctl.addE Ctl.hiKept
  rw [Ctl.setE_hi, Ctl.setE_hi, Ctl.setE_hi]
  unfold Ctl.logPut
  rfl

theorem Ctl.hiKept_sequence (c : Ctl) (code : Nat) (x : EvRec) : (c.sequence code x).hiKept = c.hiKept := by
  simp only [Ctl.sequence]
  split
  · rfl
  · split
    · exact Ctl.hiKept_logAdd ..
    · rfl

theorem Ctl.hiKept_postOne (c : Ctl) (code : Nat) (items : List (Nat × Nat)) : (c.postOne code items).hiKept = c.hiKept := by
  simp only [Ctl.postOne]
  rw [Ctl.hiKept_sequence, Ctl.hiKept_tell]

theorem Ctl.hiKept_postDrops (c : Ctl) (q : Nat) : (c.postDrops q).hiKept = c.hiKept := by
  simp only [Ctl.postDrops]
  split
  · split
    · rfl
    · rw [Ctl.hiKept_postOne]; rfl
  · split
    · rfl
    · rw [Ctl.hiKept_postOne]; rfl

/-- Posting an event leaves the host's side but for the event buffers. -/
theorem Ctl.hiKept_post (c : Ctl) (code : Nat) (items : List (Nat × Nat)) : (c.post code items).hiKept = c.hiKept := by
  unfold Ctl.post
  simp only [Ctl.hiKept_postDrops, Ctl.hiKept_postOne]

/-! ### What the end of a session leaves of the host's side (16 R463) -/

/-- The host's part without its event buffers, and one register. -/
def Ctl.hostView (c : Ctl) (r : RegName) : HiState × (Nat → Nat → Nat) := (c.hiKept, fun i l => c.reg r i l)

theorem Ctl.hostView_congr {c d : Ctl} (hhi : d.hi = c.hi) (hregs : d.regs = c.regs) (r : RegName) : d.hostView r = c.hostView r := by
  unfold Ctl.hostView Ctl.hiKept
  rw [hhi, funext fun i => funext fun l => Ctl.reg_congr hregs r i l]

theorem Ctl.hostView_post (c : Ctl) (code : Nat) (items : List (Nat × Nat)) {r : RegName} (h : postReg r = false) :
    (c.post code items).hostView r = c.hostView r := by
  unfold Ctl.hostView
  rw [Ctl.hiKept_post, funext fun i => funext fun l => Ctl.reg_post c code items r i l h]

theorem Ctl.hostView_ckOwner (c : Ctl) (held : Bool) (r : RegName) : (c.ckOwner held).hostView r = c.hostView r := by
  have hparams : ∀ (l : List Nat) (d : Ctl), ((ckSavedIdx.zip l).foldl (fun c p => c.setEa p.1 7 p.2) d).hostView r = d.hostView r := fun l d =>
    foldl_keeps (Ctl.hostView · r) _ _ d fun _ _ _ => rfl
  unfold Ctl.ckOwner
  split
  · rfl
  · split
    · exact hparams ..
    · exact hparams ..

theorem Ctl.hostView_loadJobEnds (c : Ctl) (res : Option (Nat × Nat × Nat)) (r : RegName) : (c.loadJobEnds res).hostView r = c.hostView r := by
  unfold Ctl.loadJobEnds
  extract_lets d
  split
  · rfl
  · split <;> rfl

/-- A load by DMA that ends shows it in XZ_LOAD_CTRL. -/
theorem Ctl.hostView_loadEnds (c : Ctl) (failed : Bool) {r : RegName} (h : RegName.xzLoadCtrl ≠ r) : (c.loadEnds failed).hostView r = c.hostView r := by
  have hset : ∀ (d : Ctl) (l : Nat), (d.setReg .xzLoadCtrl 0 l 1).hostView r = d.hostView r := fun d l => by
    unfold Ctl.hostView
    rw [funext fun i => funext fun l' => d.reg_setReg_ne 0 i l l' 1 h]
    rfl
  unfold Ctl.loadEnds
  split
  · rfl
  · dsimp only
    split
    · split
      · exact (hset ..).trans ((hset ..).trans rfl)
      · exact (hset ..).trans rfl
    · rfl

theorem Ctl.hostView_loadFail (c : Ctl) (code detail : Nat) {r : RegName} (hpost : postReg r = false) (h : RegName.xzLoadCtrl ≠ r) :
    (c.loadFail code detail).hostView r = c.hostView r := by
  unfold Ctl.loadFail
  split
  · rfl
  · extract_lets err d
    have hd : d.hostView r = c.hostView r :=
      (Ctl.hostView_congr rfl rfl r : d.hostView r = _).trans ((Ctl.hostView_loadEnds _ true h).trans (Ctl.hostView_loadJobEnds ..))
    unfold Ctl.xzRefuse
    exact (Ctl.hostView_post _ _ _ hpost).trans ((Ctl.hostView_congr rfl rfl r).trans ((Ctl.hostView_ckOwner ..).trans hd))

/-- The boot record changes entries and the boot unit alone. -/
theorem Ctl.hostView_writeBoot (c : Ctl) (f : BootRec → BootRec) (r : RegName) : (c.writeBoot f).hostView r = c.hostView r := by
  have hboot : (c.setBoot f).hostView r = c.hostView r := by
    unfold Ctl.setBoot
    split
    · rfl
    · dsimp only
      split <;> rfl
  unfold Ctl.writeBoot Ctl.showBoot
  extract_lets b d e
  have he : e.hostView r = d.hostView r := foldl_keeps (Ctl.hostView · r) _ _ d fun _ _ _ => rfl
  refine (foldl_keeps (Ctl.hostView · r) _ _ e fun _ _ _ => ?_).trans (he.trans hboot)
  rfl

theorem Ctl.hostView_fwEnds (c : Ctl) (l : FwLoad) (code : Nat) {r : RegName} (hpost : postReg r = false) : (c.fwEnds l code).hostView r = c.hostView r := by
  unfold Ctl.fwEnds
  extract_lets d e
  have he : e.hostView r = c.hostView r := Ctl.hostView_writeBoot ..
  split <;> exact (Ctl.hostView_post _ _ _ hpost).trans he

theorem Ctl.hostView_xferLost (c : Ctl) (x : Xfer) {r : RegName} (hpost : postReg r = false) (h : RegName.xzLoadCtrl ≠ r) :
    (c.xferLost x).hostView r = c.hostView r := by
  unfold Ctl.xferLost
  split
  · exact Ctl.hostView_loadFail _ _ _ hpost h
  · split
    · split
      · split
        · rfl
        · exact Ctl.hostView_fwEnds _ _ _ hpost
      · rfl
    · rfl

/-- A session that closes leaves the host's side but for the event buffers. -/
theorem Ctl.hostView_closeSess (c : Ctl) (n cause : Nat) {r : RegName} (hpost : postReg r = false) (h : RegName.xzLoadCtrl ≠ r) :
    (c.closeSess n cause).hostView r = c.hostView r := by
  unfold Ctl.closeSess
  split
  · rfl
  · extract_lets d
    have hd : d.hostView r = c.hostView r := by
      unfold d
      split
      · exact Ctl.hostView_xferLost _ _ hpost h
      · rfl
    split
    · exact hd
    · exact (Ctl.hostView_post _ _ _ hpost).trans hd

/-! ### The reset of one function (17 R477) -/

/-- ENABLE of some host rings is cleared. -/
theorem Ctl.reg_clearRings (c : Ctl) (qs : List Nat) (r : RegName) (i l : Nat) :
    (qs.foldl (fun c q => c.setReg .hiEqCfg q 0 0) c).reg r i l = if r = .hiEqCfg ∧ l = 0 ∧ i ∈ qs then 0 else c.reg r i l := by
  induction qs generalizing c with
  | nil => simp
  | cons q qs ih =>
    rw [List.foldl_cons, ih, Ctl.reg_setReg]
    by_cases hfield : r = .hiEqCfg ∧ l = 0
    · obtain ⟨rfl, rfl⟩ := hfield
      by_cases hq : i = q <;> simp [hq, Ne.symm]
    · have hne : ¬ (RegName.hiEqCfg, q, 0) = (r, i, l) := fun e => by
        cases e
        exact hfield ⟨rfl, rfl⟩
      simp [hfield, hne, ← and_assoc]

theorem Ctl.hi_clearRings (c : Ctl) (qs : List Nat) : (qs.foldl (fun c q => c.setReg .hiEqCfg q 0 0) c).hi = c.hi :=
  foldl_keeps Ctl.hi _ _ _ fun _ _ _ => rfl

/-- The host rings of a function that are enabled. -/
def Ctl.ringsOn (c : Ctl) (fn : Nat) : List Nat := ((List.range 64).map (· + 64 * fn)).filter fun q => c.reg .hiEqCfg q 0 = 1

theorem Ctl.mem_ringsOn (c : Ctl) (fn q : Nat) : q ∈ c.ringsOn fn ↔ q / 64 = fn ∧ c.reg .hiEqCfg q 0 = 1 := by
  simp only [Ctl.ringsOn, List.mem_filter, List.mem_map, List.mem_range, decide_eq_true_eq]
  refine and_congr_left fun _ => ⟨fun ⟨i, hi, hq⟩ => by omega, fun hq => ⟨q % 64, by omega, by omega⟩⟩

/-- The part with a function's registers cleared, before its session ends. -/
def Ctl.fnCleared (c : Ctl) (fn : Nat) : Ctl :=
  let c := (c.ringsOn fn).foldl (fun c q => c.setReg .hiEqCfg q 0 0) c
  let c := if fn = 0 then (c.setReg .hiJqCfg 0 0 0).setReg .hiJqCfg 1 0 0 else c
  ((c.setReg .hiMbxCtrl fn 2 0).setReg .hiMbxCtrl fn 3 0).setReg .hiMbxCtrl fn 4 0

/-- What a reset of a function leaves of the host's buffers and messages. -/
def HiState.resetFn (h : HiState) (fn : Nat) : HiState :=
  { h with mbxReq := setAt h.mbxReq fn [], mbxReply := setAt h.mbxReply fn [], mbxNote := setAt h.mbxNote fn [],
           msix := h.msix.filter (fun p => p.1 / 1024 ≠ fn), pba := h.pba.filter (fun b => b / 65 ≠ fn),
           eqWritten := h.eqWritten.filter (fun q => q / 64 ≠ fn) }

theorem Ctl.fnReset_eq (c : Ctl) (fn : Nat) : c.fnReset fn = ((c.fnCleared fn).setHi (·.resetFn fn)).closeSess (fn + 1) 2 := rfl

theorem Ctl.hi_fnCleared (c : Ctl) (fn : Nat) : (c.fnCleared fn).hi = c.hi := by
  unfold Ctl.fnCleared
  extract_lets d e
  have he : e.hi = d.hi := by
    unfold e
    split <;> rfl
  exact he.trans (c.hi_clearRings _)

/-- The enabled host rings of the function are off, and every other ring stands. -/
theorem Ctl.eqCfg_fnCleared (c : Ctl) (fn q l : Nat) :
    (c.fnCleared fn).reg .hiEqCfg q l = if l = 0 ∧ q / 64 = fn ∧ c.reg .hiEqCfg q 0 = 1 then 0 else c.reg .hiEqCfg q l := by
  unfold Ctl.fnCleared
  extract_lets d e
  have he : e.reg .hiEqCfg q l = d.reg .hiEqCfg q l := by
    unfold e
    split
    · rw [Ctl.reg_setReg_ne _ _ _ _ _ _ (by decide), Ctl.reg_setReg_ne _ _ _ _ _ _ (by decide)]
    · rfl
  rw [Ctl.reg_setReg_ne _ _ _ _ _ _ (by decide), Ctl.reg_setReg_ne _ _ _ _ _ _ (by decide), Ctl.reg_setReg_ne _ _ _ _ _ _ (by decide), he,
    Ctl.reg_clearRings]
  simp only [Ctl.mem_ringsOn, true_and]

/-- The mailbox of the function is ready for nothing, and that of the other stands. -/
theorem Ctl.mbxCtrl_fnCleared (c : Ctl) (fn k l : Nat) :
    (c.fnCleared fn).reg .hiMbxCtrl k l = if k = fn ∧ (l = 2 ∨ l = 3 ∨ l = 4) then 0 else c.reg .hiMbxCtrl k l := by
  unfold Ctl.fnCleared
  extract_lets d e
  have he : e.reg .hiMbxCtrl k l = c.reg .hiMbxCtrl k l := by
    have hd : d.reg .hiMbxCtrl k l = c.reg .hiMbxCtrl k l := (c.reg_clearRings ..).trans (if_neg (by simp))
    unfold e
    split
    · rw [Ctl.reg_setReg_ne _ _ _ _ _ _ (by decide), Ctl.reg_setReg_ne _ _ _ _ _ _ (by decide), hd]
    · exact hd
  rw [Ctl.reg_setReg, Ctl.reg_setReg, Ctl.reg_setReg, he]
  by_cases hk : k = fn
  · subst hk
    by_cases h4 : l = 4
    · simp [h4]
    · by_cases h3 : l = 3
      · simp [h3]
      · by_cases h2 : l = 2 <;> simp [h2, h3, h4, Ne.symm]
  · simp [hk, Ne.symm hk, eq_comm]

/-- A reset leaves of the host's side what its session's end does. -/
theorem Ctl.hostView_fnReset (c : Ctl) (fn : Nat) {r : RegName} (hpost : postReg r = false) (h : RegName.xzLoadCtrl ≠ r) :
    (c.fnReset fn).hostView r = ((c.fnCleared fn).setHi (·.resetFn fn)).hostView r := by
  rw [Ctl.fnReset_eq]
  exact Ctl.hostView_closeSess _ _ _ hpost h

theorem Ctl.hi_of_hiKept {α : Type} {c d : Ctl} (f : HiState → α) (hf : ∀ x : Ctl, f x.hiKept = f x.hi) (h : d.hiKept = c.hiKept) : f d.hi = f c.hi := by
  rw [← hf d, h, hf c]

/-- The host's side after a reset of a function, but for the event buffers. -/
theorem Ctl.hiKept_fnReset (c : Ctl) (fn : Nat) : (c.fnReset fn).hiKept = c.hiKept.resetFn fn := by
  have hview := congrArg Prod.fst (c.hostView_fnReset fn (r := .hiWinBase) (by decide) (by decide))
  refine hview.trans ?_
  unfold Ctl.hostView Ctl.hiKept
  rw [Ctl.setHi_hi, Ctl.hi_fnCleared]
  rfl

theorem Ctl.eqCfg_fnReset (c : Ctl) (fn q l : Nat) :
    (c.fnReset fn).reg .hiEqCfg q l = if l = 0 ∧ q / 64 = fn ∧ c.reg .hiEqCfg q 0 = 1 then 0 else c.reg .hiEqCfg q l :=
  (congrFun (congrFun (congrArg Prod.snd (c.hostView_fnReset fn (by decide) (by decide))) q) l).trans (c.eqCfg_fnCleared fn q l)

theorem Ctl.mbxCtrl_fnReset (c : Ctl) (fn k l : Nat) :
    (c.fnReset fn).reg .hiMbxCtrl k l = if k = fn ∧ (l = 2 ∨ l = 3 ∨ l = 4) then 0 else c.reg .hiMbxCtrl k l :=
  (congrFun (congrFun (congrArg Prod.snd (c.hostView_fnReset fn (by decide) (by decide))) k) l).trans (c.mbxCtrl_fnCleared fn k l)

/-! ### The commands -/

theorem exec_pcieLinkReset (dt : Nat) (s : State) : exec (.pcieLinkReset dt) s = runC (fun c => (c.advance dt).linkReset) s := rfl
theorem exec_functionLevelReset (dt : Nat) (fn : Fn) (s : State) :
    exec (.functionLevelReset dt fn) s = runC (fun c => (c.advance dt).fnReset (fnNum fn)) s := by
  cases fn <;> rfl
theorem exec_hostLinkUp (dt width speed : Nat) (s : State) :
    exec (.hostLinkUp dt width speed) s = runC (fun c => (c.advance dt).hostLinkUp width speed) s := rfl

/-- Both functions are reset, and the link is down. -/
def Ctl.hostLinkDown (c : Ctl) : Ctl := (((c.fnReset 0).fnReset 1).setHi fun h => { h with linkUp := false }).setE 0x530001 0

theorem Ctl.reg_hostLinkDown (c : Ctl) (r : RegName) (i l : Nat) : c.hostLinkDown.reg r i l = ((c.fnReset 0).fnReset 1).reg r i l := by
  rw [Ctl.hostLinkDown, Ctl.reg_setE, Ctl.reg_setHi]

theorem Ctl.hiKept_hostLinkDown (c : Ctl) : c.hostLinkDown.hiKept = { (c.hiKept.resetFn 0).resetFn 1 with linkUp := false } := by
  have hboth : ((c.fnReset 0).fnReset 1).hiKept = (c.hiKept.resetFn 0).resetFn 1 := by rw [Ctl.hiKept_fnReset, Ctl.hiKept_fnReset]
  rw [← hboth]
  unfold Ctl.hostLinkDown
  generalize (c.fnReset 0).fnReset 1 = d
  rfl

/-- A reset of the link; the host is told where the link was up. -/
theorem Ctl.linkReset_leaves (c : Ctl) : c.linkReset.hiKept = c.hostLinkDown.hiKept ∧ c.linkReset.e 0x530001 = 0 ∧
    ∀ r i l, postReg r = false → c.linkReset.reg r i l = c.hostLinkDown.reg r i l := by
  have heq : c.linkReset = if c.hi.linkUp then c.hostLinkDown.post 0x4341 [] else c.hostLinkDown := rfl
  have hdown : c.hostLinkDown.e 0x530001 = 0 := (Ctl.e_setE ..).trans (if_pos rfl)
  rw [heq]
  split
  · exact ⟨Ctl.hiKept_post .., (Ctl.e_post _ _ _ _ (by decide) (by decide)).trans hdown, fun r i l h => Ctl.reg_post _ _ _ _ _ _ h⟩
  · exact ⟨rfl, hdown, fun _ _ _ _ => rfl⟩

/-- The link trains at a width and speed that it supports. -/
theorem Ctl.hostLinkUp_trains (c : Ctl) {width speed : Nat} (hmode : c.tadpole = false) (hwidth : [1, 2, 4, 8].contains width = true) (hlo : 1 ≤ speed)
    (hhi : speed ≤ 4) : (c.hostLinkUp width speed).hi.linkUp = true ∧ (c.hostLinkUp width speed).e 0x530001 = width + 16 * speed := by
  have htrains : linkTrains width speed = true := by simp [linkTrains, hlo, hhi] at hwidth ⊢; exact hwidth
  have hsmall : width < 16 := by
    simp at hwidth
    omega
  unfold Ctl.hostLinkUp
  rw [if_neg (by simp [hmode, htrains])]
  constructor
  · exact (Ctl.hi_of_hiKept HiState.linkUp (fun _ => rfl) (Ctl.hiKept_post ..)).trans rfl
  · rw [Ctl.e_post _ _ _ _ (by decide) (by decide), Ctl.e_setE, if_pos rfl]
    omega

end Sys2Proof.Machine

open Sys2Proof Sys2Proof.Machine

/-- Settles O29, from what the reset of one function clears: its rings, its mailbox and its vectors; the session that ends and the events that are
posted leave these registers and vectors. -/
theorem hostResetsClearTheirFunction : Obligations.HostResetsClearTheirFunction := by
  unfold Obligations.HostResetsClearTheirFunction
  refine ⟨fun dt q s hq => ?link, fun dt fn k q s hk hq hother => ?function, fun dt width speed s hmode hwidth hlo hhi => ?up⟩
  case link =>
    refine leaves_of_exec_eq_runC (exec_pcieLinkReset dt s) ?_
    generalize hc : s.ctl.advance dt = c
    obtain ⟨hhi, hlink, hreg⟩ := c.linkReset_leaves
    rw [Ctl.hiKept_hostLinkDown] at hhi
    have hfn : q / 64 = 0 ∨ q / 64 = 1 := by omega
    have hbefore : ∀ l, c.reg .hiEqCfg q l = s.ctl.reg .hiEqCfg q l := fun l => hc ▸ Ctl.reg_advance ..
    refine ⟨congrArg HiState.linkUp hhi, hlink, ?_, ?_, ?_, ?_⟩
    · rw [hreg _ _ _ (by decide), Ctl.reg_hostLinkDown, Ctl.eqCfg_fnReset, Ctl.eqCfg_fnReset, hbefore]
      rcases hfn with h | h <;> simp [h]
    · rw [hreg _ _ _ (by decide), Ctl.reg_hostLinkDown, Ctl.mbxCtrl_fnReset, Ctl.mbxCtrl_fnReset]
      rcases hfn with h | h <;> simp [h]
    · rw [hreg _ _ _ (by decide), Ctl.reg_hostLinkDown, Ctl.mbxCtrl_fnReset, Ctl.mbxCtrl_fnReset]
      rcases hfn with h | h <;> simp [h]
    · have hat := congrArg HiState.msixAt hhi
      exact hat.trans (hc ▸ rfl)
  case function =>
    refine leaves_of_exec_eq_runC (exec_functionLevelReset dt fn s) ?_
    have hfn : fnNum fn = k := by
      rw [hk]
      cases fn <;> rfl
    rw [hfn]
    have hhi := (s.ctl.advance dt).hiKept_fnReset k
    have hmbx := (s.ctl.advance dt).mbxCtrl_fnReset k k
    have heq := (s.ctl.advance dt).eqCfg_fnReset k q 0
    generalize (s.ctl.advance dt).fnReset k = d at hhi hmbx heq
    have hmsix : d.hi.msix = s.ctl.hi.msix.filter (fun p => p.1 / 1024 ≠ k) := congrArg HiState.msix hhi
    have hpba : d.hi.pba = s.ctl.hi.pba.filter (fun b => b / 65 ≠ k) := congrArg HiState.pba hhi
    refine ⟨(hmbx 2).trans (if_pos (by simp)), (hmbx 3).trans (if_pos (by simp)), heq.trans (if_neg (by simp [hother])),
      (congrArg HiState.linkUp hhi :), fun p hp => ?_, fun b hb => ?_⟩
    · rw [hmsix] at hp
      simpa using (List.mem_filter.1 hp).2
    · rw [hpba] at hb
      simpa using (List.mem_filter.1 hb).2
  case up =>
    exact leaves_of_exec_eq_runC (exec_hostLinkUp dt width speed s) ((s.ctl.advance dt).hostLinkUp_trains hmode hwidth hlo hhi)

end

section
/-! PROOFS. A control pair that restarts, relays and the settings (16 R458, R471, 18 R497, R515). -/
namespace Sys2Proof.Machine

/-! ### What shows the control pairs (18 R515), and the relays that wait, over the duties of CP-A -/

/-- CP_STATE and CP_RESTARTS of both pairs, the relays that wait for their reply, and the load that runs. -/
def Ctl.pairView (c : Ctl) : List Nat × List Relay × Option XzLoad :=
  ([c.e 0x158001, c.e 0x158002, c.e 0x158101, c.e 0x158102], c.dy.relays, c.xz.load)

theorem Ctl.pairView_of {c d : Ctl} (he : ∀ k, 0x158000 ≤ k → k < 0x158200 → d.e k = c.e k) (hdy : d.dy.relays = c.dy.relays)
    (hxz : d.xz.load = c.xz.load) : d.pairView = c.pairView := by
  simp only [Ctl.pairView, hxz, he _ (by decide : 0x158000 ≤ 0x158001) (by decide), he _ (by decide : 0x158000 ≤ 0x158002) (by decide),
    he _ (by decide : 0x158000 ≤ 0x158101) (by decide), he _ (by decide : 0x158000 ≤ 0x158102) (by decide), hdy]

/-- An entry of another index is set. -/
theorem Ctl.pairView_setE (c : Ctl) {k : Nat} (n : Nat) (hk : k < 0x158000 ∨ 0x158200 ≤ k) : (c.setE k n).pairView = c.pairView :=
  Ctl.pairView_of (fun j hlo hhi => (c.e_setE k j n).trans (if_neg (by omega))) rfl rfl

theorem Ctl.pairView_setEa (c : Ctl) {x : Nat} (i n : Nat) (hk : x < 0x1580 ∧ i < 255 ∨ 0x1582 ≤ x) : (c.setEa x i n).pairView = c.pairView :=
  c.pairView_setE n (by unfold ekey; omega)

theorem Ctl.pairView_post (c : Ctl) (code : Nat) (items : List (Nat × Nat)) (hc : code < 65536) : (c.post code items).pairView = c.pairView :=
  Ctl.pairView_of (fun _ _ hhi => Ctl.e_post _ _ _ _ (postKey_of_below (by omega)) hc) (congrArg DyState.relays (c.fmKept_post code items).2 :)
    (congrArg XzState.load (Ctl.post_xz ..))

/-- A message over the side channel. -/
theorem Ctl.pairView_sideSend (c : Ctl) (p ty dst : Nat) (body : List Byte) : (c.sideSend p ty dst body).pairView = c.pairView :=
  Ctl.pairView_of (fun _ _ hhi => Ctl.e_sideSend _ _ _ _ _ (by omega))
    (congrArg DyState.relays (Ctl.of_offSide Ctl.dy (fun _ => rfl) (c.offSide_sideSend p ty dst body)))
    (congrArg XzState.load (Ctl.of_offSide Ctl.xz (fun _ => rfl) (c.offSide_sideSend p ty dst body)))

theorem Ctl.pairView_ckOwner (c : Ctl) (held : Bool) : (c.ckOwner held).pairView = c.pairView := by
  have hdy : (c.ckOwner held).dy = c.dy := by
    have hparams : ∀ (l : List Nat) (d : Ctl), ((ckSavedIdx.zip l).foldl (fun c p => c.setEa p.1 7 p.2) d).dy = d.dy := fun l d =>
      foldl_keeps Ctl.dy _ _ d fun _ _ _ => rfl
    unfold Ctl.ckOwner
    split
    · rfl
    · split
      · exact hparams ..
      · exact hparams ..
  exact Ctl.pairView_of (fun _ _ hhi => c.e_ckOwner held (by omega)) (congrArg DyState.relays hdy)
    (congrArg XzState.load (c.xz_ckOwner held))

/-- No load runs after its end. -/
theorem Ctl.pairView_loadEnds (c : Ctl) (failed : Bool) : (c.loadEnds failed).pairView = (c.pairView.1, c.pairView.2.1, none) := by
  unfold Ctl.loadEnds
  split
  next h => simp only [Ctl.pairView, h]
  next =>
    dsimp only
    split
    · split <;> rfl
    · rfl

/-- A load's job that leaves the pipe without a result. -/
theorem Ctl.pairView_loadJobEnds_none (c : Ctl) : (c.loadJobEnds none).pairView = c.pairView := by
  unfold Ctl.loadJobEnds
  extract_lets d
  split <;> rfl

theorem Ctl.pairView_writeBoot (c : Ctl) (f : BootRec → BootRec) : (c.writeBoot f).pairView = c.pairView := by
  have hboot : (c.setBoot f).pairView = c.pairView := by
    unfold Ctl.setBoot
    split
    · rfl
    · dsimp only
      split <;> rfl
  unfold Ctl.writeBoot Ctl.showBoot
  extract_lets b d e
  have hd : d.pairView = c.pairView := by
    unfold d
    rw [Ctl.pairView_setE _ _ (by decide), Ctl.pairView_setE _ _ (by decide), Ctl.pairView_setE _ _ (by decide), hboot]
  have he : e.pairView = d.pairView :=
    foldl_keeps Ctl.pairView _ _ d fun x i hi => x.pairView_setEa i _ (.inl ⟨by decide, by have := List.mem_range.1 hi; omega⟩)
  refine (foldl_keeps Ctl.pairView _ _ e fun x i hi => ?_).trans (he.trans hd)
  have hlt : i < 2 := List.mem_range.1 hi
  rw [Ctl.pairView_setEa _ _ _ (.inl ⟨by decide, by omega⟩), Ctl.pairView_setEa _ _ _ (.inl ⟨by decide, by omega⟩)]

theorem Ctl.pairView_fwEnds (c : Ctl) (l : FwLoad) (code : Nat) : (c.fwEnds l code).pairView = c.pairView := by
  unfold Ctl.fwEnds
  extract_lets d e
  have he : e.pairView = c.pairView := (Ctl.pairView_writeBoot ..).trans (Ctl.pairView_setE _ _ (by decide))
  split <;> exact (Ctl.pairView_post _ _ _ (by decide)).trans he

/-- A session that closes while no load runs. -/
theorem Ctl.pairView_closeSess (c : Ctl) (n cause : Nat) (h : c.xz.load = none) : (c.closeSess n cause).pairView = c.pairView := by
  have hlost : ∀ x : Xfer, (c.xferLost x).pairView = c.pairView := fun x => by
    have hload : c.vosLoading = false := by simp [Ctl.vosLoading, h]
    unfold Ctl.xferLost
    rw [if_neg (by simp [hload])]
    split
    · split
      · split
        · rfl
        · exact Ctl.pairView_fwEnds ..
      · rfl
    · rfl
  unfold Ctl.closeSess
  split
  · rfl
  · extract_lets d
    have hd : d.pairView = c.pairView := by
      unfold d
      split
      · exact hlost _
      · rfl
    split
    · exact hd
    · exact (Ctl.pairView_post _ _ _ (by decide)).trans hd

theorem Ctl.pairView_setSlot (c : Ctl) (i : Nat) (f : XzSlot → XzSlot) : (c.setSlot i f).pairView = c.pairView :=
  Ctl.pairView_of (fun _ _ hhi => c.e_setSlot i f (by omega)) rfl rfl

theorem Ctl.pairView_storeFails (c : Ctl) : c.storeFails.pairView = c.pairView := by
  unfold Ctl.storeFails
  split
  · rfl
  · extract_lets d
    exact (Ctl.pairView_ckOwner ..).trans (Ctl.pairView_setE _ _ (by decide))

/-! ### Enumeration (01 R23) -/

theorem Ctl.pairView_showMasks (c : Ctl) : c.showMasks.pairView = c.pairView :=
  Ctl.pairView_of (fun _ _ hhi => (Ctl.e_setEv ..).trans ((if_neg (by omega)).trans ((Ctl.e_setEv ..).trans (if_neg (by omega))))) rfl rfl

theorem Ctl.pairView_enumDone (c : Ctl) (tiles : List Nat) (closed : Nat) : (c.enumDone tiles closed).pairView = c.pairView := by
  unfold Ctl.enumDone
  split
  · rfl
  · extract_lets pos d e f g
    have hd : d.pairView = c.pairView := (Ctl.pairView_setE _ _ (by decide)).trans (Ctl.pairView_setE _ _ (by decide))
    have he : e.pairView = c.pairView := d.pairView_showMasks.trans hd
    have hf : f.pairView = c.pairView := (Ctl.pairView_post _ _ _ (by decide)).trans he
    have hg : g.pairView = c.pairView := by
      unfold g
      split
      · exact (Ctl.pairView_post _ _ _ (by decide)).trans hf
      · exact hf
    split
    · exact he
    · exact (foldl_keeps Ctl.pairView _ _ g fun x _ _ => x.pairView_post _ _ (by decide)).trans hg

theorem Ctl.pairView_enumPass (c : Ctl) (tiles : List Nat) : (c.enumPass tiles).pairView = c.pairView := by
  unfold Ctl.enumPass
  split
  · rfl
  · extract_lets ts d body
    have hd : d.pairView = c.pairView := Ctl.pairView_setE _ _ (by decide)
    split
    · exact (Ctl.pairView_sideSend ..).trans hd
    · exact (Ctl.pairView_enumDone ..).trans ((Ctl.pairView_sideSend ..).trans hd)

theorem Ctl.pairView_enumerate (c : Ctl) : c.enumerate.pairView = c.pairView := by
  unfold Ctl.enumerate
  split
  · rfl
  · split
    · rfl
    · split
      · rfl
      · exact (Ctl.pairView_enumPass ..).trans rfl

theorem Ctl.pairView_enumFollow (c : Ctl) : c.enumFollow.pairView = c.pairView := by
  unfold Ctl.enumFollow
  split
  · exact c.pairView_enumerate
  · rfl

theorem Ctl.pairView_tileChanged (c : Ctl) (was : Nat) : (c.tileChanged was).pairView = c.pairView := by
  unfold Ctl.tileChanged
  extract_lets d
  have hd : d.pairView = c.pairView := c.pairView_showMasks
  split
  · exact hd
  · split
    · exact (Ctl.pairView_enumFollow _).trans (d.pairView_enumerate.trans hd)
    · split
      · exact hd
      · exact (Ctl.pairView_sideSend ..).trans hd

theorem Ctl.pairView_enumCatchUp (c : Ctl) : c.enumCatchUp.pairView = c.pairView := by
  unfold Ctl.enumCatchUp
  split
  · rfl
  · extract_lets d
    split
    · exact (Ctl.pairView_enumFollow _).trans d.pairView_enumerate
    · exact d.pairView_tileChanged _

/-! ### CP_RESTART_DONE (18 R497) -/

/-- The sessions that a restart of CP-A closes, while no load runs. -/
theorem Ctl.pairView_closeAll (l : List Sess) (c : Ctl) (h : c.xz.load = none) :
    (l.foldl (fun c s => c.closeSess s.num 2) c).pairView = c.pairView :=
  List.foldlRecOn (motive := fun (x : Ctl) => x.pairView = c.pairView) l _ rfl fun (x : Ctl) hx y _ => by
    have hload : x.xz.load = none := (congrArg (fun v : List Nat × List Relay × Option XzLoad => v.2.2) hx).trans h
    exact (x.pairView_closeSess y.num 2 hload).trans hx

/-- CP-A that runs again leaves what shows the pairs, and no relay waits. -/
theorem Ctl.pairView_cpaBack (c : Ctl) : c.cpaBack.pairView = (c.pairView.1, [], none) := by
  unfold Ctl.cpaBack
  extract_lets d e f g k l
  have hd : d.pairView = (c.pairView.1, c.pairView.2.1, none) := by
    unfold d
    rw [Ctl.pairView_loadEnds, Ctl.pairView_loadJobEnds_none]
  have hload : d.xz.load = none := congrArg (fun v : List Nat × List Relay × Option XzLoad => v.2.2) hd
  have he : e.pairView = (c.pairView.1, c.pairView.2.1, none) := (d.pairView_closeAll _ hload).trans hd
  have hf : f.pairView = (c.pairView.1, [], none) :=
    congrArg (fun v : List Nat × List Relay × Option XzLoad => (v.1, ([] : List Relay), v.2.2)) he
  have hg : g.pairView = f.pairView := foldl_keeps Ctl.pairView _ _ f fun x i _ => by
    split
    · exact x.pairView_setSlot i _
    · rfl
  clear_value g
  have hk : k.pairView = g.pairView := by
    unfold k
    split
    · rfl
    · exact (Ctl.pairView_writeBoot ..).trans rfl
  clear_value k
  have hl : l.pairView = k.pairView := (k.storeFails.pairView_ckOwner false).trans k.pairView_storeFails
  rw [Ctl.pairView_enumCatchUp, hl, hk, hg, hf]

/-- The reload of a pair's code, with no error in MRAM: no word is lost. -/
theorem Ctl.mramUse_clean (c : Ctl) (f : Nat → Bool) (h : c.bt.mramErrs = []) :
    c.mramUse f = (c.addE 0x110007 0).setBt (fun b => { b with mramErrs := [] }) := by
  have hwords : c.mramWords f = ((c.addE 0x110007 0).setBt (fun b => { b with mramErrs := [] }), []) := by
    unfold Ctl.mramWords
    have hset : ∀ d : Ctl, d.bt.mramErrs = [] →
        d.setBt (fun b => { b with mramErrs := b.mramErrs.filter (fun e => !f e.1) }) = d.setBt (fun b => { b with mramErrs := [] }) := fun d hd => by
      simp only [Ctl.setBt, hd, List.filter_nil]
    simp only [h, List.filter_nil, List.length_nil, List.map_nil]
    exact congrArg (fun d : Ctl => (d, ([] : List Nat))) (hset (c.addE 0x110007 0) h)
  unfold Ctl.mramUse
  rw [hwords]
  rfl

/-- Whether the code has its hash rests on BOOT_STATE and the stored slots. -/
theorem Ctl.codeOk_congr {c d : Ctl} (he : d.e 0x110001 = c.e 0x110001) (hA : d.bt.slotA = c.bt.slotA) (hB : d.bt.slotB = c.bt.slotB)
    (hr : d.bt.running = c.bt.running) : d.codeOk = c.codeOk := by
  have hslot : d.fwSlot d.bt.running = c.fwSlot c.bt.running := by
    unfold Ctl.fwSlot
    rw [hA, hB, hr]
  have htadpole : d.tadpole = c.tadpole := by
    unfold Ctl.tadpole
    rw [he]
  unfold Ctl.codeOk
  rw [hslot, htadpole]

theorem Ctl.e_histCopy (c : Ctl) (k : Nat) : c.histCopy.e k = c.e k := by
  unfold Ctl.histCopy
  split <;> rfl

/-- CP_STATE and CP_RESTARTS of a pair, from what shows the pairs. -/
theorem Ctl.pair_of_pairView {c d : Ctl} {p : Nat} (hp : p ≤ 1) (h : d.pairView.1 = c.pairView.1) :
    d.ea 0x1580 p = c.ea 0x1580 p ∧ d.ea 0x1581 p = c.ea 0x1581 p := by
  obtain ⟨h0, h1, h2, h3, -⟩ : d.e 0x158001 = c.e 0x158001 ∧ d.e 0x158002 = c.e 0x158002 ∧ d.e 0x158101 = c.e 0x158101 ∧
      d.e 0x158102 = c.e 0x158102 ∧ True := by simpa [Ctl.pairView] using h
  obtain rfl | rfl : p = 0 ∨ p = 1 := by omega
  · exact ⟨h0, h2⟩
  · exact ⟨h1, h3⟩

/-- A pair whose code has its hash runs again, and its restart is counted (18 R497). -/
theorem Ctl.cpBack_shows (c : Ctl) (p : Nat) (hp : p ≤ 1) (hst : c.ea 0x1580 p = 1) (hcode : c.codeOk = true) (herrs : c.bt.mramErrs = []) :
    (c.cpBack p).ea 0x1580 p = 0 ∧ (c.cpBack p).ea 0x1581 p = satAdd (entWidth (ekey 0x1581 (p + 1))) (c.ea 0x1581 p) 1 ∧
      (p = 0 → (c.cpBack p).dy.relays = []) := by
  unfold Ctl.cpBack
  rw [if_neg (by simp [hst]; omega), Ctl.mramUse_clean _ _ herrs]
  generalize hd : (c.addE 0x110007 0).setBt (fun b => { b with mramErrs := [] }) = d
  have hread : ∀ k, 0x158000 ≤ k → d.e k = c.e k := fun k hk => by
    rw [← hd]
    exact (c.e_setE 0x110007 k _).trans (if_neg (by omega))
  have hok : d.codeOk = c.codeOk := by
    rw [← hd]
    exact Ctl.codeOk_congr ((c.e_setE 0x110007 0x110001 _).trans (if_neg (by decide))) rfl rfl rfl
  clear hd
  dsimp only
  rw [hok, hcode]
  generalize hg : ((d.setEa 0x1580 p 0).incEa 0x1581 p).post 0x0531 [i8 p] = g
  have hpost : ∀ k, 0x158000 ≤ k → k < 0x158200 → g.e k = ((d.setEa 0x1580 p 0).incEa 0x1581 p).e k := fun k _ hhi => hg ▸
    Ctl.e_post _ _ _ _ (postKey_of_below (by omega)) (by decide)
  have hkeys : 0x158000 ≤ ekey 0x1580 (p + 1) ∧ ekey 0x1580 (p + 1) < 0x158200 ∧ 0x158000 ≤ ekey 0x1581 (p + 1) ∧ ekey 0x1581 (p + 1) < 0x158200 := by
    unfold ekey; omega
  obtain ⟨hlo, hhi, hlo', hhi'⟩ := hkeys
  have hrun : g.ea 0x1580 p = 0 := by
    refine (hpost _ hlo hhi).trans ?_
    exact (Ctl.ea_incEa_ne (d.setEa 0x1580 p 0) (by decide : 0x1581 ≠ 0x1580) (by omega) (by omega)).trans (d.ea_setEa_same 0x1580 p 0)
  have hcount : g.ea 0x1581 p = satAdd (entWidth (ekey 0x1581 (p + 1))) (c.ea 0x1581 p) 1 := by
    refine (hpost _ hlo' hhi').trans ?_
    refine (Ctl.ea_incEa (d.setEa 0x1580 p 0) 0x1581 p).trans ?_
    rw [d.ea_setEa_ne (by omega) (by omega) (.inl (by decide)), show d.ea 0x1581 p = c.ea 0x1581 p from hread _ hlo']
  clear hg hpost
  rw [if_neg (show ¬((!true) = true) by decide)]
  split
  next hzero =>
    have hview := g.pairView_cpaBack
    have hshown : g.cpaBack.pairView.1 = g.pairView.1 := by rw [hview]
    obtain ⟨hst', hn'⟩ := Ctl.pair_of_pairView hp hshown
    exact ⟨hst'.trans hrun, hn'.trans hcount, fun _ => congrArg (fun v : List Nat × List Relay × Option XzLoad => v.2.1) hview⟩
  next hne => exact ⟨(g.e_histCopy _).trans hrun, (g.e_histCopy _).trans hcount, fun h => absurd h hne⟩

/-! ### Relays (16 R471) and transfers (16 R458) -/

/-- A reply to a relay that waits goes to its source, which no longer waits. -/
theorem Ctl.relayReply_found (c : Ctl) {pos : Nat} {m : List Byte} {r : Relay} (hlen : 16 ≤ m.length) (hlen' : m.length ≤ 240) (hop : u8At m 1 ≠ 8)
    (hlogin : u8At m 1 ≠ 7) (hrep : bit (u8At m 2) 0 = true) (hsrc : r.src.tr = 0)
    (hfind : c.dy.relays.find? (fun r => decide (r.target = pos) && decide (r.seq = leAt m 8 4) && decide (r.session = vosSess m) &&
      decide (c.up < r.since + tS 1)) = some r) :
    (c.relayReply pos m).out = c.out ++ [c.datagram r.src m] ∧ (c.relayReply pos m).dy.relays = c.dy.relays.filter (fun x => x ≠ r) ∧
      (c.relayReply pos m).dy.sessions = c.dy.sessions := by
  unfold Ctl.relayReply
  rw [if_neg (by omega), if_neg hop, if_neg (by simp [hrep])]
  simp only [hlogin, decide_false, Bool.false_or]
  rw [hfind]
  simp only [Ctl.vosSend, if_pos hsrc]
  exact ⟨rfl, rfl, rfl⟩

/-- A session that is changed is found by its number still. -/
theorem Ctl.sess_updSess (c : Ctl) (n : Nat) (f : Sess → Sess) (hf : ∀ x, (f x).num = x.num) : (c.updSess n f).sess n = (c.sess n).map f := by
  show (c.dy.sessions.map (fun x => if x.num = n then f x else x)).find? (fun x => x.num = n) = (c.dy.sessions.find? (fun x => x.num = n)).map f
  induction c.dy.sessions with
  | nil => rfl
  | cons x l ih =>
    rw [List.map_cons]
    by_cases hx : x.num = n
    · rw [if_pos hx, List.find?_cons_of_pos (by simpa [hf] using hx), List.find?_cons_of_pos (by simpa using hx)]
      rfl
    · rw [if_neg hx, List.find?_cons_of_neg (by simpa using hx), List.find?_cons_of_neg (by simpa using hx), ih]

/-- A transfer of an entry that is no stream is let go with nothing written. -/
theorem Ctl.xferLost_of_not_isStream (c : Ctl) (x : Xfer) (h : isStream x.key = false) : c.xferLost x = c := by
  unfold isStream at h
  obtain ⟨⟨hload, -⟩, hfw⟩ : (x.key ≠ 0x410204 ∧ x.key / 256 ≠ 0x5218) ∧ x.key ≠ 0x110503 := by simpa using h
  unfold Ctl.xferLost
  rw [if_neg (by simp [hload]), if_neg hfw]

/-! ### The settings return to their defaults (18 R515) -/

/-- An entry that stands at its default: no value, no shadow and no stored copy of it is kept. -/
def Ctl.atDefault (c : Ctl) (k : Nat) : Prop := aGet c.ent k = none ∧ aGet c.shadow k = none ∧ aGet c.nv k = none

theorem Ctl.ev_of_atDefault {c : Ctl} {k : Nat} (h : c.atDefault k) : c.ev k = dfltVal k := by
  unfold Ctl.ev
  rw [h.1, Option.getD_none]

theorem Ctl.sh_of_atDefault {c : Ctl} {k : Nat} (h : c.atDefault k) : c.sh k = dfltVal k := by
  unfold Ctl.sh
  rw [h.2.1, Option.getD_none, Ctl.ev_of_atDefault h]

/-- To delete a key leaves any other absent key absent. -/
theorem aGet_aDel_none {α : Type} {l : List (Nat × α)} {k : Nat} (j : Nat) (h : aGet l k = none) : aGet (aDel l j) k = none := by
  by_cases hkj : k = j
  · exact hkj ▸ aGet_aDel_same l k
  · have hp := aGet_filter (fun x => decide (x ≠ j)) l k
    rw [if_pos (by simpa using hkj)] at hp
    exact hp.trans h

theorem Ctl.toDefault_of_writing (c : Ctl) (k : Nat) (h : c.bt.mramStopped = false) :
    c.toDefault k = { c with ent := aDel c.ent k, shadow := aDel c.shadow k, nv := aDel c.nv k } := by
  unfold Ctl.toDefault
  exact if_neg (by simp [h])

/-- Entries that return to their defaults while MRAM is written stand there. -/
theorem Ctl.atDefault_toDefaults {c : Ctl} {l : List Nat} {k : Nat} (h : c.bt.mramStopped = false) (hk : k ∈ l ∨ c.atDefault k) :
    (l.foldl Ctl.toDefault c).atDefault k := by
  induction l generalizing c with
  | nil => exact hk.resolve_left (List.not_mem_nil)
  | cons j l ih =>
    rw [List.foldl_cons, Ctl.toDefault_of_writing c j h]
    refine ih h ?_
    obtain hmem | ⟨hent, hshadow, hnv⟩ := hk
    · obtain rfl | hl := List.mem_cons.1 hmem
      · exact .inr ⟨aGet_aDel_same .., aGet_aDel_same .., aGet_aDel_same ..⟩
      · exact .inl hl
    · exact .inr ⟨aGet_aDel_none j hent, aGet_aDel_none j hshadow, aGet_aDel_none j hnv⟩

/-- Writes of defaults that have no effect leave the machine as it is. -/
theorem Ctl.written_defaults {c : Ctl} {l : List Nat} (hval : ∀ k ∈ l, c.ev k = dfltVal k) (hnone : ∀ k ∈ l, ∀ d : Ctl, d.written k (dfltVal k) = d) :
    l.foldl (fun c k => c.written k (c.ev k)) c = c := by
  induction l with
  | nil => rfl
  | cons k l ih =>
    rw [List.foldl_cons, hval k List.mem_cons_self, hnone k List.mem_cons_self]
    exact ih (fun j hj => hval j (List.mem_cons_of_mem k hj)) fun j hj => hnone j (List.mem_cons_of_mem k hj)

theorem Ctl.mramStopped_journalled (c : Ctl) (l : List (Nat × EVal)) : (c.journalled l).bt.mramStopped = c.bt.mramStopped := by
  unfold Ctl.journalled
  split
  · rfl
  · extract_lets homes w d
    unfold Ctl.snoopPass
    split <;> rfl

/-- Every setting stands at its default after CLEAR_SETTINGS. -/
theorem Ctl.clearSettings_atDefault (c : Ctl) (h : c.bt.mramStopped = false)
    (hnone : ∀ k ∈ settingKeys, c.ev k ≠ dfltVal k → ∀ d : Ctl, d.written k (dfltVal k) = d) {k : Nat} (hk : k ∈ settingKeys) :
    c.clearSettings.atDefault k := by
  unfold Ctl.clearSettings
  extract_lets changed
  have hstop : (c.journalled (changed.map (fun k => (k, dfltVal k)))).bt.mramStopped = false := (c.mramStopped_journalled _).trans h
  generalize c.journalled (changed.map (fun k => (k, dfltVal k))) = d at hstop ⊢
  have hall : ∀ j ∈ settingKeys, (settingKeys.foldl Ctl.toDefault d).atDefault j := fun j hj => Ctl.atDefault_toDefaults hstop (.inl hj)
  have hchanged : ∀ j ∈ changed, j ∈ settingKeys ∧ c.ev j ≠ dfltVal j := fun j hj => by simpa [changed] using hj
  rw [Ctl.written_defaults (fun j hj => Ctl.ev_of_atDefault (hall j (hchanged j hj).1)) fun j hj => hnone j (hchanged j hj).1 (hchanged j hj).2]
  exact hall k hk

/-! ### The commands -/

theorem exec_relayReply (dt pos : Nat) (msg : List Byte) (s : State) :
    exec (.relayReply dt pos msg) s = runC (fun c => (c.advance dt).relayReply pos msg) s := rfl
theorem exec_relayTimeout (dt : Nat) (s : State) : exec (.relayTimeout dt) s = runC (fun c => (c.advance dt).relayTimeout) s := rfl
theorem exec_blockTransferAbandon (dt session : Nat) (s : State) :
    exec (.blockTransferAbandon dt session) s = runC (fun c => (c.advance dt).xferTimeout session) s := rfl
theorem exec_cpRestartDone (dt pair : Nat) (s : State) : exec (.cpRestartDone dt pair) s = runC (fun c => (c.advance dt).cpBack pair) s := rfl
theorem exec_bootClearSettings (dt : Nat) (s : State) : exec (.bootClearSettings dt) s = runC (fun c => (c.advance dt).clearSettings) s := rfl

end Sys2Proof.Machine

open Sys2Proof Sys2Proof.Machine

/-- Settles O27: a reply finds its relay, a transfer and a setting stand at what the rules give, and CP-A's duties after a restart touch neither
CP_STATE nor CP_RESTARTS (`Ctl.pairView`). -/
theorem relaysTransfersAndRestarts : Obligations.RelaysTransfersAndRestarts := by
  unfold Obligations.RelaysTransfersAndRestarts
  refine ⟨fun dt pos msg r s hlen hlen' hop hlogin hrep hsrc hfind => ?_, fun dt s => ?_, fun dt session x s hx hlate hstream => ?_,
    fun dt pair s hp hst hcode herrs => ?_, fun dt s hstop hnone => ?_⟩
  · exact leaves_of_exec_eq_runC (exec_relayReply ..) ((s.ctl.advance dt).relayReply_found hlen hlen' hop hlogin hrep hsrc hfind)
  · exact leaves_of_exec_eq_runC (exec_relayTimeout ..) rfl
  · refine leaves_of_exec_eq_runC (exec_blockTransferAbandon ..) ?_
    have hx' : ((s.ctl.advance dt).sess session).bind Sess.xfer = some x := hx
    unfold Ctl.xferTimeout
    rw [hx']
    dsimp only
    rw [if_pos (show (s.ctl.advance dt).up ≥ x.lastAt + tS 10 from hlate), Ctl.xferLost_of_not_isStream _ x hstream]
    refine ⟨?_, rfl, rfl⟩
    rw [Ctl.sess_updSess]
    · cases (s.ctl.advance dt).sess session <;> rfl
    · exact fun _ => rfl
  · refine leaves_of_exec_eq_runC (exec_cpRestartDone ..) ?_
    have hcode' : (s.ctl.advance dt).codeOk = true := (Ctl.codeOk_congr (s.ctl.e_advance ..) rfl rfl rfl).trans hcode
    exact (s.ctl.advance dt).cpBack_shows pair hp hst hcode' herrs
  · refine leaves_of_exec_eq_runC (exec_bootClearSettings ..) fun k hk => ?_
    have hdflt := (s.ctl.advance dt).clearSettings_atDefault hstop hnone hk
    exact ⟨Ctl.ev_of_atDefault hdflt, Ctl.sh_of_atDefault hdflt, hdflt.2.2⟩
end

section
/-! PROOFS. A supply failure, a restart and a compound fault at states that the statements allow (18 R503, R510, 19 R518, 20 R555). -/
namespace Sys2Proof.Machine

/-! ### A fifth PWR_EN pin (19 R517, R518) -/

/-- A level is kept of a fifth pin, which PWR_EN has not. -/
def fifthPin : State := { State.reset with ctl := ({} : Ctl).setPm fun p => { p with pwrEn := 16 } }

theorem exec_supplyFail (dt rail : Nat) (fell : Bool) (cut : Option MramCut) (s : State) :
    exec (.supplyFail dt rail fell cut) s = runC (fun c => (c.advance dt).supplyFail rail fell cut) s := rfl

theorem supplyFail_fifthPin {t : State} (h : exec (.supplyFail 0 0 false none) fifthPin = .next t) : t.ctl.pm.pwrEn = 16 := by
  obtain rfl := Host.Outcome.next.inj ((exec_supplyFail ..).symm.trans h)
  decide +kernel

/-! ### A restart that cuts a transaction of the boot record (18 R501, R503) -/

/-- A boot record with the Tadpole latch, newer than the one that RESTART writes. -/
def latchedRecord : BootRec := { seq := 2, tadpoleLatch := true }

/-- The transaction of that record, all of whose words were written when MRAM writing stopped. -/
def latchedCut : MramCut := { written := 6, homes := [(0x7C000, latchedRecord.word)] }

theorem exec_bootRestart (dt : Nat) (cut : Option MramCut) (s : State) :
    exec (.bootRestart dt cut) s = runC (fun c => (c.advance dt).bootRestart cut) s := rfl

theorem bootRestart_latchedCut {t : State} (h : exec (.bootRestart 0 (some latchedCut)) State.reset = .next t) : t.ctl.boot.tadpoleLatch = true := by
  obtain rfl := Host.Outcome.next.inj ((exec_bootRestart ..).symm.trans h)
  decide +kernel

/-! ### A third fault in a window that is compound (20 R555, R556) -/

/-- A report of class 2. -/
def thirdReport : FaultRep := ⟨⟨0x30C3, 0, 0⟩, 0, 0⟩

/-- Its window is open and compound already; the safe state that it caused has ended. -/
def compoundWindow : Window := { num := 1, start := 0, stop := 1, cls := 3, unit_ := 0, code := 0x30C2, compound := true }

def compoundEnded : State := { State.reset with ctl := ({} : Ctl).setFm fun f => { f with reports := [thirdReport], window := some compoundWindow } }

theorem exec_faultReport (dt : Nat) (s : State) : exec (.faultReport dt) s = runC (fun c => (c.advance dt).faultReport) s := rfl

theorem faultReport_compoundEnded {t : State} (h : exec (.faultReport 0) compoundEnded = .next t) : t.ctl.e 0x150010 = 0 := by
  obtain rfl := Host.Outcome.next.inj ((exec_faultReport ..).symm.trans h)
  decide +kernel

end Sys2Proof.Machine

open Sys2Proof Sys2Proof.Machine

/-- Refutes O14: its clause on SUPPLY_FAIL does not bound the levels of PWR_EN to the four pins. A level of a fifth pin is not deasserted. -/
theorem not_powerComesUpAndGoesDown : ¬ Obligations.PowerComesUpAndGoesDown := by
  unfold Obligations.PowerComesUpAndGoesDown
  intro h
  obtain ⟨-, -, -, -, hfail⟩ := h
  obtain ⟨t, hexec, -, -, -, -, -, hpins, -⟩ := hfail 0 false none fifthPin rfl
  rw [supplyFail_fifthPin hexec] at hpins
  exact absurd hpins (by decide)

/-- Refutes O21: its clause on BOOT_RESTART does not say that the transaction which the reset cuts is none of the boot record. Where that transaction
writes a copy with the latch and the higher sequence number, the latch stands after the restart. -/
theorem not_bootCommandsAndKeys : ¬ Obligations.BootCommandsAndKeys := by
  unfold Obligations.BootCommandsAndKeys
  intro h
  obtain ⟨hrestart, -⟩ := h
  obtain ⟨t, hexec, -, -, -, -, -, hlatch, -⟩ := hrestart 0 (some latchedCut) State.reset rfl rfl
  rw [bootRestart_latchedCut hexec] at hlatch
  exact absurd hlatch (by decide)

/-- Refutes O39: its clause on a second fault in a window does not say that the window is not compound yet. Where it is, and the safe state of the
compound fault has ended, the report neither counts in COMPOUND_COUNT nor begins that safe state again. -/
theorem not_reportsWindowsAndSafeStates : ¬ Obligations.ReportsWindowsAndSafeStates := by
  unfold Obligations.ReportsWindowsAndSafeStates
  intro h
  obtain ⟨-, -, hsecond, -⟩ := h
  obtain ⟨t, hexec, -, -, -, hcount, -⟩ :=
    hsecond 0 thirdReport [] compoundWindow 2 _ compoundEnded rfl (by decide) rfl (by decide) rfl (by decide) (by decide +kernel) (by decide)
  rw [faultReport_compoundEnded hexec] at hcount
  exact absurd hcount (by decide +kernel)

end

section
/-! PROOFS. A login over the ring whose port is none of the two (12 R376, 16 R460). -/
namespace Sys2Proof.Machine

/-! ### A side-channel queue that is full (12 R376) -/

/-- A queue that has had no time to drain keeps its messages. -/
theorem Ctl.sideLeft_now (c : Ctl) {p : Nat} {x : SideItem} (hnow : c.up ≤ (c.rgPort p).drainAt) (hrem : (c.rgPort p).sideRem = 0)
    (hside : (c.rgPort p).side = [x]) (hx : 0 < x.left) : (c.sideLeft p).1 = [x] := by
  have hsent : c.sideSent p = 0 := by
    unfold Ctl.sideSent Machine.drained
    rw [hrem, Nat.sub_eq_zero_of_le hnow, Nat.zero_mul, Nat.zero_mul, Nat.zero_mul]
  unfold Ctl.sideLeft
  rw [hsent, hside, Nat.zero_div]
  unfold sideDrain
  rw [if_pos hx]
  rfl

/-- A message of the part's own that finds the queue full counts in SC_DROPS. -/
theorem Ctl.e_sideSend_full (c : Ctl) {p : Nat} (ty dst k : Nat) (body : List Byte) {x : SideItem} (hcpa : c.cpaUp = true) (hp : p < c.rg.ports.length)
    (hup : c.portUp p = true) (hnow : c.up ≤ (c.rgPort p).drainAt) (hrem : (c.rgPort p).sideRem = 0) (hside : (c.rgPort p).side = [x]) (hx : 0 < x.left)
    (hfull : 16384 ≤ x.bytes.length) (hk : ekey 0x211C (p + 1) = k) :
    (c.sideSend p ty dst body).e k = satAdd (entWidth k) (c.e k) 1 := by
  have hheld : ((c.drainPort p).rgPort p).side = [x] := by
    have hport : (c.drainPort p).rgPort p = (c.drained p).rgPort p := by unfold Ctl.rgPort; rw [Ctl.rg_drainPort]
    rw [hport, Ctl.drained, Ctl.rgPort_setRgPort c p _ hp]
    exact c.sideLeft_now hnow hrem hside hx
  have hroom : sideOctetsHeld [x] + (sideMsg ty dst c.srcPos body).length > 16384 := by
    have hlen : 0 < (sideMsg ty dst c.srcPos body).length := by simp [sideMsg]
    have hone : sideOctetsHeld [x] = x.bytes.length := by simp [sideOctetsHeld]
    omega
  unfold Ctl.sideSend
  rw [if_pos (by simp [hcpa])]
  unfold Ctl.sideQueue
  rw [if_neg (by simp [hup])]
  dsimp only
  rw [hheld, if_pos hroom]
  have hcount := Ctl.ea_incEa (c.drainPort p) 0x211C p
  unfold Ctl.ea at hcount
  rw [hk] at hcount
  exact hcount.trans (congrArg (fun n => satAdd (entWidth k) n 1) (Ctl.e_congr (c.drainPort_ent p) k))

/-! ### A step 2 of LOGIN that comes too late, over that port -/

/-- The port whose SC_DROPS is the entry that LOGIN_FAILURES is. -/
@[irreducible] def farPort : Nat := 0x32E40B

theorem ekey_farPort : ekey 0x211C (farPort + 1) = 0x54000C := by
  unfold farPort
  decide

/-- A port that is up, with a full queue drained 10 s after power-on. -/
def fullPort : RgPort := { up := true, drainAt := tS 10, side := [⟨2, 9, 0, 1, List.replicate 16384 0⟩] }

/-- Ports up to that one. -/
@[irreducible] def farPorts : List RgPort := List.replicate (farPort + 1) fullPort

/-- A half-open session over the ring, begun at power-on. -/
def farSession : Sess := { ringSession with isOpen := false, src := ⟨1, 9, farPort⟩ }

/-- The part serves that session 10 s after power-on. -/
def farServer : State :=
  { State.reset with
    ctl := (({ up := tS 10, dy := { serving := true, sessions := [farSession] } } : Ctl).setRg fun r => { r with ports := farPorts }) }

/-- Step 2 of that session. -/
def lateProof : List Byte := ringRequest 7 ([2, 0, 0, 0] ++ List.replicate 32 0)

theorem exec_loginProof (dt : Nat) (src : VAddr) (msg : List Byte) (s : State) :
    exec (.loginProof dt src msg) s = runC (fun c => (c.advance dt).vosRun 12 true src msg) s := rfl

/-- A session without a transfer that is none of the fixed ones closes. -/
theorem Ctl.closeSess_of_found (c : Ctl) {n cause : Nat} {x : Sess} (hx : c.sess n = some x) (hxfer : x.xfer = none) (hn : 3 ≤ n) :
    c.closeSess n cause = (c.setDy fun d => { d with sessions := d.sessions.filter fun x => x.num ≠ n }).post 0x4403 [i8 n, i8 cause] := by
  unfold Ctl.closeSess
  rw [hx]
  dsimp only
  rw [hxfer, if_neg (by omega)]

/-- A failed login counts in LOGIN_FAILURES; ring transport stands, and CP-A runs on. -/
theorem Ctl.loginFails_shows (c : Ctl) (a : VAddr) : (c.loginFails a).e 0x54000C = satAdd 32 (c.e 0x54000C) 1 ∧ (c.loginFails a).rg = c.rg ∧
    (c.loginFails a).up = c.up ∧ (c.loginFails a).cpaUp = c.cpaUp := by
  have hcount : (c.incE 0x54000C).e 0x54000C = satAdd 32 (c.e 0x54000C) 1 :=
    (Ctl.e_setE ..).trans ((if_pos rfl).trans (congrArg (fun w => satAdd w (c.e 0x54000C) 1) (show entWidth 0x54000C = 32 by decide +kernel)))
  have hcpa : (c.incE 0x54000C).e 0x158001 = c.e 0x158001 := (Ctl.e_setE ..).trans (if_neg (by decide))
  have hshown : ∀ d : Ctl, d.e 0x158001 = c.e 0x158001 → d.cpaUp = c.cpaUp := fun d h => congrArg (fun n => decide (n = 0)) h
  unfold Ctl.loginFails
  extract_lets d l
  have hd : d.e 0x54000C = satAdd 32 (c.e 0x54000C) 1 ∧ d.rg = c.rg ∧ d.up = c.up ∧ d.e 0x158001 = c.e 0x158001 :=
    ⟨(Ctl.e_post _ _ _ _ (by decide) (by decide)).trans hcount, Ctl.post_rg .., Ctl.post_up .., (Ctl.e_post _ _ _ _ (by decide) (by decide)).trans hcpa⟩
  clear_value d
  obtain ⟨hd1, hd2, hd3, hd4⟩ := hd
  have hset : ∀ (x : LoginSrc) (k : Nat), (d.setLogin x).e k = d.e k := fun x k => Ctl.e_congr rfl k
  split
  · exact ⟨(hset _ _).trans hd1, hd2, hd3, hshown _ ((hset _ _).trans hd4)⟩
  · replace hd1 := (hset ⟨loginSrc a, 0, some (d.up + tS (d.e 0x540003))⟩ _).trans hd1
    replace hd4 := (hset ⟨loginSrc a, 0, some (d.up + tS (d.e 0x540003))⟩ _).trans hd4
    exact ⟨(Ctl.e_post _ _ _ _ (by decide) (by decide)).trans hd1, (Ctl.post_rg ..).trans hd2, (Ctl.post_up ..).trans hd3,
      hshown _ ((Ctl.e_post _ _ _ _ (by decide) (by decide)).trans hd4)⟩

theorem sess_farServer : (farServer.ctl.advance 0).sess 3 = some farSession := by decide +kernel

/-- The half-open session of farServer closes, and the failed login counts. -/
def farClosed : Ctl := ((farServer.ctl.advance 0).closeSess 3 3).loginFails farSession.src

/-- A message to a source over the ring. -/
theorem Ctl.vosSend_ring (c : Ctl) (m : List Byte) {a : VAddr} (h : a.tr = 1) : c.vosSend a m = c.sideSend a.p 9 a.a m := by
  unfold Ctl.vosSend
  rw [if_neg (by rw [h]; decide), if_pos h]

theorem src_farSession : farSession.src = ⟨1, 9, farPort⟩ := rfl

theorem vosRun_farServer : ∃ reply, (farServer.ctl.advance 0).vosRun 12 true farSession.src lateProof =
    (farClosed.updSess 3 fun s => { s with lastReq := vosSame lateProof, lastReply := reply }).sideSend farPort 9 9 reply := by
  unfold Ctl.vosRun
  rw [if_pos (by decide +kernel)]
  unfold Ctl.vostan
  dsimp only
  rw [if_neg (by decide +kernel), if_neg (by decide +kernel), if_neg (by decide +kernel), if_neg (by decide +kernel), if_neg (by decide +kernel),
    if_neg (by decide +kernel), if_neg (by decide +kernel), show vosSess lateProof = 3 by decide +kernel, sess_farServer]
  dsimp only
  rw [if_neg (by decide +kernel), if_neg (by decide +kernel), if_neg (by decide +kernel)]
  have hlate : (farServer.ctl.advance 0).loginTwo farSession.src farSession lateProof = (farClosed, 2) := by
    unfold Ctl.loginTwo
    rw [if_pos (by decide +kernel)]
    rfl
  rw [hlate]
  generalize vosReply lateProof 3 _ _ _ = reply
  unfold Ctl.answer
  rw [Ctl.vosSend_ring _ _ (show farSession.src.tr = 1 from rfl), src_farSession]
  refine ⟨reply, ?_⟩
  generalize farClosed = c
  rfl

/-- What a command that runs on the units leaves of them. -/
theorem ctl_of_exec_eq_runC {i : Instr} {s t : State} {f : Ctl → Ctl} (hexec : exec i s = runC f s) (h : exec i s = .next t) : t.ctl = f s.ctl := by
  obtain rfl := Host.Outcome.next.inj (hexec.symm.trans h)
  rfl

/-- The failed login has counted; the far port stands as it was. -/
theorem farClosed_shows : farClosed.e 0x54000C = 1 ∧ farClosed.rg = farServer.ctl.rg ∧ farClosed.up = tS 10 ∧ farClosed.cpaUp = true := by
  unfold farClosed
  have hclose := (farServer.ctl.advance 0).closeSess_of_found (cause := 3) sess_farServer rfl (by decide)
  obtain ⟨hcount, hrg, hup, hcpa⟩ := Ctl.loginFails_shows ((farServer.ctl.advance 0).closeSess 3 3) farSession.src
  have hwas : (farServer.ctl.advance 0).e 0x54000C = 0 := by decide +kernel
  have hran : (farServer.ctl.advance 0).e 0x158001 = 0 := by decide +kernel
  have hclosed : ((farServer.ctl.advance 0).closeSess 3 3).e 0x54000C = 0 := by
    rw [hclose]
    exact (Ctl.e_post _ _ _ _ (by decide) (by decide)).trans hwas
  have hcpa' : ((farServer.ctl.advance 0).closeSess 3 3).e 0x158001 = 0 := by
    rw [hclose]
    exact (Ctl.e_post _ _ _ _ (by decide) (by decide)).trans hran
  have hrg' : ((farServer.ctl.advance 0).closeSess 3 3).rg = farServer.ctl.rg := by rw [hclose, Ctl.post_rg]; rfl
  have hup' : ((farServer.ctl.advance 0).closeSess 3 3).up = tS 10 := by rw [hclose, Ctl.post_up]; rfl
  refine ⟨?_, hrg.trans hrg', hup.trans hup', hcpa.trans (decide_eq_true hcpa')⟩
  rw [hcount, hclosed]
  decide

/-- The far port as farServer has it. -/
theorem farPorts_far : farPort < farServer.ctl.rg.ports.length ∧ farServer.ctl.rg.ports.getD farPort {} = fullPort := by
  have hports : farServer.ctl.rg.ports = List.replicate (farPort + 1) fullPort := by
    show farPorts = _
    unfold farPorts
    rfl
  rw [hports]
  generalize farPort = p
  exact ⟨by rw [List.length_replicate]; exact Nat.lt_succ_self p, List.getD_replicate _ (Nat.lt_succ_self p)⟩

theorem Ctl.portUp_of_full {c : Ctl} {p : Nat} (h : c.rgPort p = fullPort) : c.portUp p = true := by
  unfold Ctl.portUp
  rw [h]
  rfl

/-- LOGIN_FAILURES counts the late proof and the reply that the far port's queue does not take. -/
theorem loginProof_farServer {t : State} (h : exec (.loginProof 0 farSession.src lateProof) farServer = .next t) : t.ctl.e 0x54000C = 2 := by
  rw [ctl_of_exec_eq_runC (exec_loginProof ..) h]
  obtain ⟨reply, hrun⟩ := vosRun_farServer
  obtain ⟨hcount, hrg, hup, hcpa⟩ := farClosed_shows
  obtain ⟨hlen, hport⟩ := farPorts_far
  rw [hrun]
  generalize farClosed = f at hcount hrg hup hcpa
  have hfar : (f.updSess 3 fun s => { s with lastReq := vosSame lateProof, lastReply := reply }).rgPort farPort = fullPort :=
    (congrArg (fun r : RgState => r.ports.getD farPort {}) hrg).trans hport
  generalize hg : (f.updSess 3 fun s => { s with lastReq := vosSame lateProof, lastReply := reply }) = g at hfar
  have hgrg : g.rg = farServer.ctl.rg := by rw [← hg]; exact hrg
  have hgup : g.up = tS 10 := by rw [← hg]; exact hup
  have hgcount : g.e 0x54000C = 1 := by rw [← hg]; exact (Ctl.e_congr rfl _).trans hcount
  have hgport : g.portUp farPort = true := Ctl.portUp_of_full hfar
  have hgcpa : g.cpaUp = true := by rw [← hg]; exact (congrArg (fun n => decide (n = 0)) (Ctl.e_congr rfl 0x158001)).trans hcpa
  rw [g.e_sideSend_full (p := farPort) 9 9 0x54000C reply (x := ⟨2, 9, 0, 1, List.replicate 16384 0⟩) hgcpa (by rw [hgrg]; exact hlen)
    hgport (by rw [hfar, hgup]; exact Nat.le_refl _) (by rw [hfar]; rfl) (by rw [hfar]; rfl) (by decide)
    (List.length_replicate ..).ge ekey_farPort, hgcount]
  decide +kernel

end Sys2Proof.Machine

open Sys2Proof Sys2Proof.Machine

/-- Refutes O25: its clause on a failed LOGIN_PROOF admits a session over the ring by any port. Where the SC_DROPS of that port is the entry
LOGIN_FAILURES, and the port's queue is full, the reply counts in it too. -/
theorem not_sessionsBeginAndEnd : ¬ Obligations.SessionsBeginAndEnd := by
  unfold Obligations.SessionsBeginAndEnd
  intro h
  obtain ⟨-, -, hfails, -⟩ := h
  obtain ⟨t, hexec, -, -, -, -, hcount⟩ := hfails 0 farSession.src lateProof farSession farServer (by decide +kernel) (by decide +kernel) (by decide +kernel)
    (by decide +kernel) (by decide +kernel) (by decide +kernel) (by decide +kernel) (by decide +kernel) (by decide +kernel) (by decide +kernel) (by decide +kernel)
    (by decide +kernel) (by decide +kernel) (by decide +kernel) (by decide +kernel) (by decide +kernel) (.inl (by decide +kernel))
  have hwas : farServer.ctl.e 0x54000C = 0 := by decide +kernel
  rw [loginProof_farServer hexec, hwas] at hcount
  exact absurd hcount (by decide)

end

section
/-! PROOFS. Units, lanes and the log (20 R560, R561, R569). -/
namespace Sys2Proof.Machine

/-! ### A unit that is back (20 R560) -/

theorem Ctl.unitOuts_post (c : Ctl) (code : Nat) (items : List (Nat × Nat)) : (c.post code items).fm.unitOuts = c.fm.unitOuts :=
  (congrArg FmState.unitOuts (c.fmKept_post code items).1 :)

theorem Ctl.fm_engineBack (c : Ctl) (e : Nat) : (c.engineBack e).fm = c.fm := rfl

theorem Ctl.fm_encoderBack (c : Ctl) : c.encoderBack.fm = c.fm := foldl_keeps Ctl.fm _ _ _ fun _ _ _ => rfl

theorem Ctl.fm_cxBack (c : Ctl) (pipe : Nat) : (c.cxBack pipe).fm = c.fm := by
  unfold Ctl.cxBack
  split <;> rfl

/-- The subsystems whose units the sequencer restores at once (assumption log 18). -/
def restoredAtOnce : List Nat := [0x20, 0x21, 0x41, 0x42]

/-- A unit of these that is out is back, and how often it was out stands. -/
theorem Ctl.fm_restoreUnit (c : Ctl) {sub u : Nat} (hsub : sub ∈ restoredAtOnce) (hout : c.isOut sub u = true) :
    (c.restoreUnit sub u).fm.outNow = c.fm.outNow.filter (· ≠ unitKey sub u) ∧ (c.restoreUnit sub u).fm.unitOuts = c.fm.unitOuts := by
  have hback : ∀ d : Ctl, d.fm = c.fm → (d.unitBack sub u).fm.outNow = c.fm.outNow.filter (· ≠ unitKey sub u) ∧ (d.unitBack sub u).fm.unitOuts = c.fm.unitOuts :=
    fun d hd => ⟨congrArg (fun f : FmState => f.outNow.filter (· ≠ unitKey sub u)) hd, (congrArg FmState.unitOuts hd :)⟩
  unfold Ctl.restoreUnit
  rw [if_neg (by simp [hout])]
  extract_lets d
  rw [Ctl.outNow_post, Ctl.unitOuts_post]
  have hcases : sub = 0x20 ∨ sub = 0x21 ∨ sub = 0x41 ∨ sub = 0x42 := by simpa [restoredAtOnce] using hsub
  rcases hcases with rfl | rfl | rfl | rfl
  · exact hback _ (c.fm_engineBack u)
  · exact hback _ c.fm_encoderBack
  · obtain ⟨hnow, houts⟩ := hback c rfl
    have hfm : d.fm = (c.unitBack 0x41 u).fm := Ctl.fm_cxBack ..
    exact ⟨(congrArg FmState.outNow hfm).trans hnow, (congrArg FmState.unitOuts hfm).trans houts⟩
  · exact hback (c.ckBack u) rfl

theorem Ctl.restoreUnit_restores (c : Ctl) {sub u : Nat} (hsub : sub ∈ restoredAtOnce) (hout : c.isOut sub u = true) :
    (c.restoreUnit sub u).isOut sub u = false ∧ (c.restoreUnit sub u).fm.unitOuts = c.fm.unitOuts := by
  obtain ⟨hnow, houts⟩ := c.fm_restoreUnit hsub hout
  refine ⟨?_, houts⟩
  unfold Ctl.isOut
  rw [hnow]
  simp

theorem Ctl.restoreUnit_of_not_out (c : Ctl) {sub u : Nat} (h : c.isOut sub u = false) : c.restoreUnit sub u = c := by
  unfold Ctl.restoreUnit
  exact if_pos (by simp [h])

/-- A Brush that is out is marked to return at the start of the next frame. -/
theorem Ctl.restoreUnit_brush (c : Ctl) {u : Nat} (hout : c.isOut 0x30 u = true) (hes : c.es.out.contains u = true) :
    (c.restoreUnit 0x30 u).es.restore.contains u = true ∧ (c.restoreUnit 0x30 u).es.out = c.es.out := by
  unfold Ctl.restoreUnit
  rw [if_neg (by simp [hout])]
  dsimp only
  rw [Ctl.post_es, if_pos rfl]
  unfold Ctl.brushBack
  rw [if_pos hes]
  exact ⟨List.contains_iff_mem.2 (mem_insertRising ..), rfl⟩

/-- A lane that is withheld is withheld no longer, without orders. -/
theorem Ctl.laneReadmit_of_withheld (c : Ctl) {l : Nat} (h : c.fm.withheld.contains l = true) :
    c.laneReadmit l = c.setFm fun f => { f with withheld := f.withheld.filter (· ≠ l), laneOrders := aDel f.laneOrders l } := by
  unfold Ctl.laneReadmit
  exact if_pos h

/-! ### The commands -/

theorem exec_selfTestDone (dt subsystem unit_ : Nat) (pass : Bool) (s : State) :
    exec (.selfTestDone dt subsystem unit_ pass) s = runC (fun c => (c.advance dt).selfTestDone subsystem unit_ pass) s := rfl
theorem exec_unitRestore (dt value : Nat) (s : State) : exec (.unitRestore dt value) s = runC (fun c => (c.advance dt).unitRestore value) s := rfl
theorem exec_laneReadmit (dt lane : Nat) (s : State) : exec (.laneReadmit dt lane) s = runC (fun c => (c.advance dt).laneReadmit lane) s := rfl
theorem exec_logClear (dt : Nat) (s : State) : exec (.logClear dt) s = runC (fun c => (c.advance dt).logClear) s := rfl

end Sys2Proof.Machine

open Sys2Proof Sys2Proof.Machine

/-- Settles O41: `Ctl.restoreUnit_restores` for the units that return at once, `Ctl.restoreUnit_brush` for a Brush. -/
theorem unitsLanesAndTheLogAreRestored : Obligations.UnitsLanesAndTheLogAreRestored := by
  unfold Obligations.UnitsLanesAndTheLogAreRestored
  refine ⟨fun dt sub u s hsub hout honce => ?_, fun dt sub u s hnot => ?_, fun dt sub u s hout => ?_, fun dt value s hsub hout => ?_,
    fun dt value s hsub hout hes => ?_, fun dt value s hout => ?_, fun dt lane s hheld => ?_, fun dt s => ?_⟩
  · refine leaves_of_exec_eq_runC (exec_selfTestDone ..) ?_
    have hout' : (s.ctl.advance dt).isOut sub u = true := hout
    have hrestores := (s.ctl.advance dt).restoreUnit_restores hsub hout'
    have hboth : ((s.ctl.advance dt).isOut sub u && aGet (s.ctl.advance dt).fm.unitOuts (unitKey sub u) = some 1) = true := by
      rw [hout', Bool.true_and]
      exact decide_eq_true honce
    unfold Ctl.selfTestDone
    rw [if_neg (by decide), if_pos hboth]
    exact hrestores
  · refine leaves_of_exec_eq_runC (exec_selfTestDone ..) ?_
    have hneither : ((s.ctl.advance dt).isOut sub u && aGet (s.ctl.advance dt).fm.unitOuts (unitKey sub u) = some 1) = false := by
      rw [Bool.and_eq_false_iff]
      exact hnot.imp id fun h => decide_eq_false h
    unfold Ctl.selfTestDone
    rw [if_neg (by decide), if_neg (by rw [hneither]; decide)]
  · refine leaves_of_exec_eq_runC (exec_selfTestDone ..) ?_
    have hout' : (s.ctl.advance dt).isOut sub u = true := hout
    unfold Ctl.selfTestDone
    rw [if_pos (by decide), if_pos hout']
    rfl
  · exact leaves_of_exec_eq_runC (exec_unitRestore ..) ((s.ctl.advance dt).restoreUnit_restores hsub hout)
  · refine leaves_of_exec_eq_runC (exec_unitRestore ..) ?_
    unfold Ctl.unitRestore
    rw [hsub]
    exact (s.ctl.advance dt).restoreUnit_brush hout hes
  · exact leaves_of_exec_eq_runC (exec_unitRestore ..) ((s.ctl.advance dt).restoreUnit_of_not_out hout)
  · refine leaves_of_exec_eq_runC (exec_laneReadmit ..) ?_
    rw [(s.ctl.advance dt).laneReadmit_of_withheld hheld]
    exact ⟨by simp [Ctl.setFm], aGet_aDel_same .., rfl, rfl, rfl⟩
  · refine leaves_of_exec_eq_runC (exec_logClear ..) ⟨rfl, ?_, ?_, ?_, rfl⟩
    all_goals simp [Ctl.logClear, Ctl.e_setE]

end

section
/-! PROOFS. The boot record (18 R503, R515) and firmware loads (R511). -/
namespace Sys2Proof.Machine

/-! ### The boot record in its two copies (18 R503) -/

/-- The boot part without the two copies of the boot record. -/
def BtState.offRec (b : BtState) : BtState := { b with recA := {}, recB := {}, recOk := (true, false) }

/-- The part without the boot record and the entries. -/
def Ctl.offRec (c : Ctl) : Ctl := { c with ent := [], bt := c.bt.offRec }

/-- What reads neither the boot record nor the entries is the same where the rest is. -/
theorem Ctl.of_offRec {α : Type} {c d : Ctl} (f : Ctl → α) (hf : ∀ x : Ctl, f x.offRec = f x) (h : d.offRec = c.offRec) : f d = f c := by
  rw [← hf d, h, hf c]

theorem Ctl.offRec_setBoot (c : Ctl) (f : BootRec → BootRec) : (c.setBoot f).offRec = c.offRec := by
  unfold Ctl.setBoot
  split
  · rfl
  · dsimp only
    split <;> rfl

theorem Ctl.ent_setBoot (c : Ctl) (f : BootRec → BootRec) : (c.setBoot f).ent = c.ent := by
  unfold Ctl.setBoot
  split
  · rfl
  · dsimp only
    split <;> rfl

/-- While MRAM is written, the record that an update writes is the one in use. -/
theorem Ctl.boot_setBoot (c : Ctl) (f : BootRec → BootRec) (h : c.bt.mramStopped = false) :
    (c.setBoot f).boot = { f c.boot with seq := c.boot.seq + 1 } := by
  unfold Ctl.setBoot
  rw [if_neg (by simp [h])]
  dsimp only
  by_cases hA : c.bt.useA = true
  · rw [if_pos hA]
    have hseq : c.boot = c.bt.recA := if_pos hA
    have huse : ¬ ({ c.bt with recB := { f c.bt.recA with seq := c.bt.recA.seq + 1 }, recOk := (c.bt.recOk.1, true) } : BtState).useA = true := by
      simp [BtState.useA]
    rw [hseq]
    unfold Ctl.boot Ctl.setBt
    exact (if_neg huse).trans (if_pos rfl)
  · rw [if_neg hA]
    by_cases hB : c.bt.recOk.2 = true
    · have hseq : c.boot = c.bt.recB := (if_neg hA).trans (if_pos hB)
      have huse : ({ c.bt with recA := { f c.bt.recB with seq := c.bt.recB.seq + 1 }, recOk := (true, c.bt.recOk.2) } : BtState).useA = true := by
        simp [BtState.useA]
      rw [hseq]
      unfold Ctl.boot Ctl.setBt
      exact if_pos huse
    · have huse : ({ c.bt with recA := { f c.boot with seq := c.boot.seq + 1 }, recOk := (true, c.bt.recOk.2) } : BtState).useA = true := by
        simp [BtState.useA, hB]
      unfold Ctl.setBt
      exact if_pos huse

theorem Ctl.boot_congr {c d : Ctl} (h : d.bt = c.bt) : d.boot = c.boot := by
  unfold Ctl.boot
  rw [h]

/-- The entries that show the boot record (18 R515). -/
def bootKey (k : Nat) : Bool :=
  decide (k = 0x110002) || decide (k = 0x110003) || decide (k = 0x110200) || decide (k / 256 = 0x1101) || decide (k / 256 = 0x1103) || decide (k / 256 = 0x1104)

theorem Ctl.e_setEa_of_idx (c : Ctl) {x i k : Nat} (n : Nat) (hi : i < 255) (h : k / 256 ≠ x) : (c.setEa x i n).e k = c.e k :=
  (c.e_setEa x i k n).trans (if_neg (by unfold ekey; omega))

/-- Another entry stands when the record is shown; all else does too. -/
theorem Ctl.e_showBoot (c : Ctl) {k : Nat} (hk : bootKey k = false) : c.showBoot.e k = c.e k := by
  simp only [bootKey, Bool.or_eq_false_iff, decide_eq_false_iff_not] at hk
  obtain ⟨⟨⟨⟨⟨hrun, hfails⟩, hreason⟩, hslot⟩, hhist⟩, hver⟩ := hk
  unfold Ctl.showBoot
  extract_lets r d e
  have hd : d.e k = c.e k := by
    unfold d
    rw [Ctl.e_setE, if_neg (fun h => hreason h.symm), Ctl.e_setE, if_neg (fun h => hfails h.symm), Ctl.e_setE, if_neg (fun h => hrun h.symm)]
  have he : e.e k = d.e k := foldl_keeps (fun x : Ctl => x.e k) _ _ d fun x i hi =>
    x.e_setEa_of_idx _ (by have := List.mem_range.1 hi; omega) hhist
  refine (foldl_keeps (fun x : Ctl => x.e k) _ _ e fun x i hi => ?_).trans (he.trans hd)
  have hlt : i < 255 := by have := List.mem_range.1 hi; omega
  exact (Ctl.e_setEa_of_idx _ _ hlt hver).trans (x.e_setEa_of_idx _ hlt hslot)

theorem Ctl.offRec_showBoot (c : Ctl) : c.showBoot.offRec = c.offRec := by
  unfold Ctl.showBoot
  extract_lets r d e
  have he : e.offRec = d.offRec := foldl_keeps Ctl.offRec _ _ d fun _ _ _ => rfl
  refine (foldl_keeps Ctl.offRec _ _ e fun _ _ _ => ?_).trans he
  rfl

theorem Ctl.bt_showBoot (c : Ctl) : c.showBoot.bt = c.bt := by
  unfold Ctl.showBoot
  extract_lets r d e
  have he : e.bt = d.bt := foldl_keeps Ctl.bt _ _ d fun _ _ _ => rfl
  refine (foldl_keeps Ctl.bt _ _ e fun _ _ _ => ?_).trans he
  rfl

theorem Ctl.offRec_writeBoot (c : Ctl) (f : BootRec → BootRec) : (c.writeBoot f).offRec = c.offRec :=
  (Ctl.offRec_showBoot _).trans (c.offRec_setBoot f)

theorem Ctl.e_writeBoot (c : Ctl) (f : BootRec → BootRec) {k : Nat} (hk : bootKey k = false) : (c.writeBoot f).e k = c.e k :=
  (Ctl.e_showBoot _ hk).trans (Ctl.e_congr (c.ent_setBoot f) k)

theorem Ctl.boot_writeBoot (c : Ctl) (f : BootRec → BootRec) (h : c.bt.mramStopped = false) :
    (c.writeBoot f).boot = { f c.boot with seq := c.boot.seq + 1 } :=
  (Ctl.boot_congr (Ctl.bt_showBoot _)).trans (c.boot_setBoot f h)

/-- The boot part but for its record stands in an update of the record. -/
theorem Ctl.bt_writeBoot_reads {α : Type} (c : Ctl) (f : BootRec → BootRec) (g : BtState → α) (hg : ∀ b : BtState, g b.offRec = g b) :
    g (c.writeBoot f).bt = g c.bt :=
  Ctl.of_offRec (fun x => g x.bt) (fun x => hg x.bt) (c.offRec_writeBoot f)

theorem Ctl.fwSlot_writeBoot (c : Ctl) (f : BootRec → BootRec) (k : Nat) : (c.writeBoot f).fwSlot k = c.fwSlot k :=
  c.bt_writeBoot_reads f (fun b => if k = 0 then b.slotA else b.slotB) fun _ => rfl

/-! ### The state of a firmware slot (18 R515) -/

/-- State of a firmware slot in a record. -/
def BootRec.slotSt (r : BootRec) (k : Nat) : Nat := if k = 0 then r.slotState.1 else r.slotState.2

theorem Ctl.fwSt_eq (c : Ctl) (k : Nat) : c.fwSt k = c.boot.slotSt k := rfl

@[simp] theorem BootRec.slotSt_setSlot (r : BootRec) (k st : Nat) : (r.setSlot k st).slotSt k = st := by
  unfold BootRec.slotSt BootRec.setSlot
  split <;> rfl

/-- A slot's state that is written stands. -/
theorem Ctl.fwSt_writeBoot_setSlot (c : Ctl) (k st : Nat) (h : c.bt.mramStopped = false) : (c.writeBoot fun r => r.setSlot k st).fwSt k = st := by
  rw [Ctl.fwSt_eq, c.boot_writeBoot _ h]
  exact BootRec.slotSt_setSlot c.boot k st

theorem Ctl.fwSt_post (c : Ctl) (code : Nat) (items : List (Nat × Nat)) (k : Nat) : (c.post code items).fwSt k = c.fwSt k :=
  congrArg (fun r : BootRec => r.slotSt k) (Ctl.boot_congr (Ctl.post_bt ..))

/-! ### Firmware loads (18 R511) -/

/-- A load begins in the slot that is not running. -/
theorem Ctl.fwBegin_begins (c : Ctl) (hcpa : c.cpaUp = true) (hnone : c.bt.fwLoad = none) (hsize : c.e 0x110502 ≤ 1572864) (hstop : c.bt.mramStopped = false) :
    c.fwBegin.bt.fwLoad = some ⟨1 - c.bt.running, c.e 0x110502, [], false, c.up⟩ ∧ c.fwBegin.fwSt (1 - c.bt.running) = 1 := by
  unfold Ctl.fwBegin
  rw [if_neg (by simp [hcpa]), if_neg (by simp [hnone])]
  dsimp only
  rw [if_neg (by omega)]
  exact ⟨Ctl.bt_writeBoot_reads _ _ BtState.fwLoad fun _ => rfl, Ctl.fwSt_writeBoot_setSlot _ _ _ hstop⟩

theorem Ctl.fwSlot_setFwSlot (c : Ctl) (k : Nat) (b : List Byte) : (c.setFwSlot k b).fwSlot k = b := by
  unfold Ctl.setFwSlot Ctl.fwSlot Ctl.setBt
  split <;> rfl

theorem Ctl.fwSlot_setFwSlot_other (c : Ctl) {k : Nat} (b : List Byte) (hk : k ≤ 1) : (c.setFwSlot k b).fwSlot (1 - k) = c.fwSlot (1 - k) := by
  obtain rfl | rfl : k = 0 ∨ k = 1 := by omega
  · rfl
  · rfl

theorem Ctl.fwLoad_setFwSlot (c : Ctl) (k : Nat) (b : List Byte) : (c.setFwSlot k b).bt.fwLoad = c.bt.fwLoad := by
  unfold Ctl.setFwSlot Ctl.setBt
  dsimp only
  split <;> rfl

/-- Octets of a load that runs are kept, and go into its slot while MRAM is written. -/
theorem Ctl.fwData_takes (c : Ctl) {bs : List Byte} {l : FwLoad} (hcpa : c.cpaUp = true) (hl : c.bt.fwLoad = some l) (hrun : l.ended = false) (hslot : l.slot ≤ 1)
    (hsize : (l.data ++ bs).length ≤ l.size) :
    (c.fwData bs).ent = c.ent ∧ (c.fwData bs).bt.fwLoad = some { l with data := l.data ++ bs, lastAt := c.up } ∧
      (c.fwData bs).fwSlot (1 - l.slot) = c.fwSlot (1 - l.slot) ∧
      (c.fwData bs).fwSlot l.slot = (if c.bt.mramStopped then c.fwSlot l.slot else (patch (c.fwSlot l.slot) l.data.length bs).take 1572864) := by
  unfold Ctl.fwData
  rw [if_neg (by simp [hcpa]), hl]
  dsimp only
  rw [if_neg (by simp [hrun]), if_neg (by omega)]
  have hsame : (c.setBt fun b => { b with fwLoad := some { l with data := l.data ++ bs, lastAt := c.up } }).bt.mramStopped = c.bt.mramStopped := rfl
  rw [hsame]
  by_cases hstop : c.bt.mramStopped = true
  · rw [if_pos hstop, if_pos hstop]
    exact ⟨rfl, rfl, rfl, rfl⟩
  · rw [if_neg hstop, if_neg hstop]
    exact ⟨rfl, Ctl.fwLoad_setFwSlot .., Ctl.fwSlot_setFwSlot_other _ _ hslot, Ctl.fwSlot_setFwSlot ..⟩

theorem Ctl.fwEnd_ends (c : Ctl) {l : FwLoad} (hcpa : c.cpaUp = true) (hl : c.bt.fwLoad = some l) (hrun : l.ended = false) (hsize : l.size ≤ l.data.length) :
    c.fwEnd = c.setBt fun b => { b with fwLoad := some { l with ended := true } } := by
  unfold Ctl.fwEnd
  rw [if_neg (by simp [hcpa]), hl]
  dsimp only
  rw [if_neg (by simp [hrun]), if_neg (by omega)]

theorem Ctl.fwAbort_empties (c : Ctl) {l : FwLoad} (hcpa : c.cpaUp = true) (hl : c.bt.fwLoad = some l) (hstop : c.bt.mramStopped = false) :
    c.fwAbort.bt.fwLoad = none ∧ c.fwAbort.fwSlot l.slot = [] ∧ c.fwAbort.fwSt l.slot = 0 := by
  unfold Ctl.fwAbort
  rw [if_neg (by simp [hcpa]), hl]
  dsimp only
  have hstop' : ((c.setBt fun b => { b with fwLoad := none }).setFwSlot l.slot []).bt.mramStopped = false := by
    unfold Ctl.setFwSlot Ctl.setBt
    dsimp only
    split <;> exact hstop
  exact ⟨(Ctl.bt_writeBoot_reads _ _ BtState.fwLoad fun _ => rfl).trans (Ctl.fwLoad_setFwSlot ..),
    (Ctl.fwSlot_writeBoot ..).trans (Ctl.fwSlot_setFwSlot ..), Ctl.fwSt_writeBoot_setSlot _ _ _ hstop'⟩

/-- A load ends with its result; the octets of the slots stand. -/
theorem Ctl.fwEnds_shows (c : Ctl) (l : FwLoad) (code : Nat) (hstop : c.bt.mramStopped = false) :
    (c.fwEnds l code).bt.fwLoad = none ∧ (c.fwEnds l code).bt.slotA = c.bt.slotA ∧ (c.fwEnds l code).bt.slotB = c.bt.slotB ∧
      (c.fwEnds l code).e 0x110504 = code ∧ (c.fwEnds l code).fwSt l.slot = if code = 0 then 2 else 3 := by
  unfold Ctl.fwEnds
  extract_lets d e
  have he : e.bt.fwLoad = none ∧ e.bt.slotA = c.bt.slotA ∧ e.bt.slotB = c.bt.slotB ∧ e.e 0x110504 = code ∧ e.fwSt l.slot = if code = 0 then 2 else 3 :=
    ⟨Ctl.bt_writeBoot_reads _ _ BtState.fwLoad fun _ => rfl, Ctl.bt_writeBoot_reads _ _ BtState.slotA fun _ => rfl,
      Ctl.bt_writeBoot_reads _ _ BtState.slotB fun _ => rfl,
      (Ctl.e_writeBoot _ _ (by decide)).trans ((Ctl.e_setE ..).trans (if_pos rfl)), Ctl.fwSt_writeBoot_setSlot _ _ _ hstop⟩
  clear_value e
  have hpost : ∀ (n : Nat) (items : List (Nat × Nat)), n < 65536 → (e.post n items).bt.fwLoad = none ∧ (e.post n items).bt.slotA = c.bt.slotA ∧
      (e.post n items).bt.slotB = c.bt.slotB ∧ (e.post n items).e 0x110504 = code ∧ (e.post n items).fwSt l.slot = if code = 0 then 2 else 3 :=
    fun n items hn => by
      rw [Ctl.post_bt, Ctl.e_post _ _ _ _ (by decide) hn, Ctl.fwSt_post]
      exact he
  by_cases hcode : code = 0
  · rw [if_pos hcode]
    exact hpost _ _ (by decide)
  · rw [if_neg hcode]
    exact hpost _ _ (by decide)

/-! ### The commands -/

theorem exec_fwLoadBegin (dt : Nat) (s : State) : exec (.fwLoadBegin dt) s = runC (fun c => (c.advance dt).fwBegin) s := rfl
theorem exec_fwLoadData (dt : Nat) (bytes : List Byte) (s : State) : exec (.fwLoadData dt bytes) s = runC (fun c => (c.advance dt).fwData bytes) s := rfl
theorem exec_fwLoadEnd (dt : Nat) (s : State) : exec (.fwLoadEnd dt) s = runC (fun c => (c.advance dt).fwEnd) s := rfl
theorem exec_fwLoadAbort (dt : Nat) (s : State) : exec (.fwLoadAbort dt) s = runC (fun c => (c.advance dt).fwAbort) s := rfl
theorem exec_fwCheckDone (dt : Nat) (s : State) : exec (.fwCheckDone dt) s = runC (fun c => (c.advance dt).fwChecked) s := rfl

end Sys2Proof.Machine

open Sys2Proof Sys2Proof.Machine

/-- Settles O20: an update of the boot record stands (`Ctl.boot_writeBoot`) and leaves the load and the slots. -/
theorem firmwareLoadSteps : Obligations.FirmwareLoadSteps := by
  unfold Obligations.FirmwareLoadSteps
  refine ⟨fun dt s hcpa hnone hsize hstop => ?_, fun dt bytes l s hcpa hl hrun hslot hsize => ?_, fun dt l s hcpa hl hrun hsize => ?_,
    fun dt l s hcpa hl hstop => ?_, fun dt l s hcpa hl hended hstop => ?_⟩
  · exact leaves_of_exec_eq_runC (exec_fwLoadBegin ..) ((s.ctl.advance dt).fwBegin_begins hcpa hnone hsize hstop)
  · exact leaves_of_exec_eq_runC (exec_fwLoadData ..) ((s.ctl.advance dt).fwData_takes hcpa hl hrun hslot hsize)
  · refine leaves_of_exec_eq_runC (exec_fwLoadEnd ..) ?_
    rw [(s.ctl.advance dt).fwEnd_ends hcpa hl hrun hsize]
    rfl
  · exact leaves_of_exec_eq_runC (exec_fwLoadAbort ..) ((s.ctl.advance dt).fwAbort_empties hcpa hl hstop)
  · refine leaves_of_exec_eq_runC (exec_fwCheckDone ..) ?_
    have hcpa' : (s.ctl.advance dt).cpaUp = true := hcpa
    have hl' : (s.ctl.advance dt).bt.fwLoad = some l := hl
    unfold Ctl.fwChecked
    rw [if_neg (by simp [hcpa']), hl']
    dsimp only
    rw [if_pos hended]
    exact (s.ctl.advance dt).fwEnds_shows l _ hstop

end

section
/-! PROOFS. Resets and the start (18 R504 to R508, 19 R522, 21 R578, R579). -/
namespace Sys2Proof.Machine

/-! ### What a reset leaves (00 R12; 21 R578, R579) -/

/-- A reset leaves no register, no shadow, no session and no step of a start, and the boot part but for the start. -/
theorem Ctl.fresh_shows (c : Ctl) (cause : Nat) (keep : Bool) : (c.fresh cause keep).regs = [] ∧ (c.fresh cause keep).shadow = [] ∧ (c.fresh cause keep).dy = ({} : DyState) ∧
    (c.fresh cause keep).pm.down = 0 ∧ (c.fresh cause keep).nv = c.nv ∧ (c.fresh cause keep).bt =
      { c.bt with zeroAt := 0, step := 0, startedAt := none, cause := cause, fwLoad := none, cpA := {}, cpB := {}, trialFault := false } := by
  unfold Ctl.fresh
  extract_lets pins f b p n m
  split
  · exact ⟨rfl, rfl, rfl, rfl, rfl, rfl⟩
  · exact ⟨rfl, rfl, rfl, rfl, rfl, rfl⟩

/-- What a start keeps of the boot part while it replays the journal and reads the store. -/
def Ctl.startView (c : Ctl) : Nat × Bool × Bool := (c.bt.zeroAt, c.bt.strapTadpole, c.bt.mramStopped)

/-- What both branches give. -/
theorem ite_keeps {α β : Type} {p : Prop} [Decidable p] (g : α → β) {a b : α} {x : β} (ha : g a = x) (hb : g b = x) : g (if p then a else b) = x := by
  by_cases h : p
  · rw [if_pos h, ha]
  · rw [if_neg h, hb]

theorem Ctl.startView_setBt {c : Ctl} {f : BtState → BtState}
    (h : ∀ b : BtState, ((f b).zeroAt, (f b).strapTadpole, (f b).mramStopped) = (b.zeroAt, b.strapTadpole, b.mramStopped)) : (c.setBt f).startView = c.startView :=
  h c.bt

theorem Ctl.startView_slotA (c : Ctl) (f : BtState → List Byte) : (c.setBt fun b => { b with slotA := f b }).startView = c.startView := rfl
theorem Ctl.startView_slotB (c : Ctl) (f : BtState → List Byte) : (c.setBt fun b => { b with slotB := f b }).startView = c.startView := rfl

theorem Ctl.startView_setXz (c : Ctl) (f : XzState → XzState) : (c.setXz f).startView = c.startView := rfl

theorem Ctl.startView_homeWrite (c : Ctl) (h : Nat × List Byte) : (c.homeWrite h).startView = c.startView := by
  unfold Ctl.homeWrite
  extract_lets w b d
  have hentry : ∀ o : Option (Nat × DictRow × Nat), Ctl.startView (match o with
      | none => d
      | some (k, row, i) =>
        if k / 256 = 0x7020 then { d with fm := { d.fm with history := (d.fm.history ++ [logRecOf b]).drop ((d.fm.history.length + 1) - 64) } } else
        let old := (((aGet d.nv k).getD (dfltVal k)).octets row.ty)
        let v := patch old (32 * i) b
        { d with nv := aSet d.nv k (if row.ty.isOct then .oct (trimZeros row.len.1 (v.take row.len.2)) else valOf row.ty (v.take row.ty.size)) }) = c.startView := fun o => by
    rcases o with - | ⟨k, row, i⟩
    · rfl
    · exact ite_keeps Ctl.startView rfl rfl
  have hd : d.startView = c.startView := rfl
  clear_value d w b
  refine ite_keeps Ctl.startView (ite_keeps Ctl.startView hd ((d.startView_setXz _).trans hd)) ?_
  refine ite_keeps Ctl.startView ((d.startView_slotA _).trans hd) ?_
  refine ite_keeps Ctl.startView ((d.startView_slotB _).trans hd) ?_
  refine ite_keeps Ctl.startView ((Ctl.startView_setBt fun _ => rfl).trans hd) ?_
  refine ite_keeps Ctl.startView ((Ctl.startView_setBt fun _ => rfl).trans hd) ?_
  refine ite_keeps Ctl.startView ((Ctl.startView_setBt fun _ => rfl).trans hd) ?_
  refine ite_keeps Ctl.startView ((Ctl.startView_setBt fun _ => rfl).trans hd) ?_
  refine ite_keeps Ctl.startView ((Ctl.startView_setBt fun _ => rfl).trans hd) ?_
  exact hentry _

/-- MRAM is written no more, whatever transaction it stops in. -/
theorem Ctl.mramStopped_mramStop (c : Ctl) (cut : Option MramCut) : (c.mramStop cut).bt.mramStopped = true := by
  unfold Ctl.mramStop
  split
  next h => exact h
  next =>
    split
    · rfl
    · have hwrites : ∀ (l : List (Nat × List Byte)) (x : Ctl), (l.foldl Ctl.homeWrite x).startView = x.startView := fun l x =>
        foldl_keeps Ctl.startView _ _ x fun y h _ => y.startView_homeWrite h
      exact congrArg (fun v : Nat × Bool × Bool => v.2.2) (hwrites _ (c.setBt fun b => { b with mramStopped := true }))

/-- What a warm reset leaves of a part that is not shut down. -/
theorem Ctl.warmReset_shows (c : Ctl) (cause : Nat) (cut : Option MramCut) (h : c.pm.down = 0) : (c.warmReset cause cut).regs = [] ∧ (c.warmReset cause cut).shadow = [] ∧
    (c.warmReset cause cut).dy = ({} : DyState) ∧ (c.warmReset cause cut).bt.step = 0 ∧ (c.warmReset cause cut).bt.cause = cause ∧
    (c.warmReset cause cut).bt.mramStopped = true := by
  unfold Ctl.warmReset
  rw [if_neg (by simp [h])]
  extract_lets d ready
  obtain ⟨hregs, hshadow, hdy, -, -, hbt⟩ := ((d.mramStop cut).emit { kind := .pin, a := 5, c := 1 }).fresh_shows cause true
  have hstop : ((d.mramStop cut).emit { kind := .pin, a := 5, c := 1 }).bt.mramStopped = true := d.mramStopped_mramStop cut
  generalize (d.mramStop cut).emit { kind := .pin, a := 5, c := 1 } = e at *
  generalize e.fresh cause true = f at *
  exact ⟨hregs, hshadow, hdy, (congrArg BtState.step hbt :), (congrArg BtState.cause hbt :), (congrArg BtState.mramStopped hbt).trans hstop⟩

/-- A part that was shut down starts again. -/
theorem Ctl.shutdownRestart_shows (c : Ctl) (cause : Nat) (hdown : c.pm.down = 2 ∧ cause = 5 ∨ c.pm.down = 1 ∧ cause = 4 ∧ c.pm.downAt + tS 10 ≤ c.up ∧
    ∃ t, c.pm.coolSince = some t ∧ t + tS 1 ≤ c.up) :
    c.shutdownRestart.regs = [] ∧ c.shutdownRestart.pm.down = 0 ∧ c.shutdownRestart.bt.step = 0 ∧ c.shutdownRestart.bt.cause = cause := by
  have hfresh : ∀ (d : Ctl), (d.fresh cause false).regs = [] ∧ (d.fresh cause false).pm.down = 0 ∧ (d.fresh cause false).bt.step = 0 ∧
      (d.fresh cause false).bt.cause = cause := fun d => by
    obtain ⟨hregs, -, -, hpm, -, hbt⟩ := d.fresh_shows cause false
    generalize d.fresh cause false = e at *
    exact ⟨hregs, hpm, (congrArg BtState.step hbt :), (congrArg BtState.cause hbt :)⟩
  unfold Ctl.shutdownRestart
  extract_lets heat why off d e
  have hheat : heat = decide (cause = 4) := by
    unfold heat
    obtain ⟨htwo, rfl⟩ | ⟨hone, rfl, hlate, t, hcool, hsince⟩ := hdown
    · rw [htwo]
      rfl
    · rw [decide_eq_true hone, decide_eq_true (show c.up ≥ c.pm.downAt + tS 10 from hlate), hcool, Option.any_some, decide_eq_true (show c.up ≥ t + tS 1 from hsince)]
      rfl
  have hwhy : why = cause := by
    unfold why
    rw [hheat]
    obtain ⟨-, rfl⟩ | ⟨-, rfl, -⟩ := hdown
    · rfl
    · rfl
  have hgo : ¬ (!heat && decide (c.pm.down ≠ 2)) = true := by
    rw [hheat]
    obtain ⟨htwo, rfl⟩ | ⟨-, rfl, -⟩ := hdown
    · simp [htwo]
    · simp
  clear_value e why heat
  rw [if_neg hgo, hwhy]
  exact hfresh e

/-! ### The start up to its third step (18 R504) -/

/-- The same, and what the journal ring holds. -/
def Ctl.startRing (c : Ctl) : (Nat × Bool × Bool) × List (List Byte) := (c.startView, c.bt.ring)

theorem Ctl.startRing_slotA (c : Ctl) (f : BtState → List Byte) : (c.setBt fun b => { b with slotA := f b }).startRing = c.startRing := rfl
theorem Ctl.startRing_slotB (c : Ctl) (f : BtState → List Byte) : (c.setBt fun b => { b with slotB := f b }).startRing = c.startRing := rfl
theorem Ctl.startRing_setXz (c : Ctl) (f : XzState → XzState) : (c.setXz f).startRing = c.startRing := rfl

theorem Ctl.startRing_lostWord (c : Ctl) (w : Nat) : (c.lostWord w).startRing = c.startRing := by
  unfold Ctl.lostWord
  refine ite_keeps Ctl.startRing (c.startRing_setXz _) ?_
  refine ite_keeps Ctl.startRing (c.startRing_slotA _) ?_
  refine ite_keeps Ctl.startRing (c.startRing_slotB _) ?_
  refine ite_keeps Ctl.startRing rfl ?_
  refine ite_keeps Ctl.startRing rfl ?_
  split <;> rfl

theorem Ctl.bt_showIslands (c : Ctl) : c.showIslands.bt = c.bt := foldl_keeps Ctl.bt _ _ c fun _ _ _ => rfl

theorem Ctl.e_showIslands (c : Ctl) {k : Nat} (hk : k / 256 ≠ 0x1214) : c.showIslands.e k = c.e k :=
  foldl_keeps (fun x : Ctl => x.e k) _ _ c fun x i hi => x.e_setEa_of_idx _ (by have := List.mem_range.1 hi; omega) hk

theorem Ctl.bt_mramFlip_reads {α : Type} (c : Ctl) (l : List (Nat × Nat)) (g : BtState → α) (hg : ∀ (b : BtState) (m : List (Nat × Nat)), g { b with mramErrs := m } = g b) :
    g (c.mramFlip l).bt = g c.bt :=
  foldl_keeps (fun x : Ctl => g x.bt) _ _ c fun x _ _ => hg x.bt _

/-- The journal ring is empty after the replay. -/
theorem Ctl.replay_shows (c : Ctl) : c.replay.startView = c.startView ∧ c.replay.bt.ring = [] := by
  unfold Ctl.replay
  extract_lets d
  have hwrites : ((d.getD []).foldl Ctl.homeWrite c).startView = c.startView := foldl_keeps Ctl.startView _ _ c fun x h _ => x.startView_homeWrite h
  exact ⟨hwrites, rfl⟩

/-- The store is loaded, from the MRAM words that have been read. -/
def Ctl.storeLoaded (c : Ctl) : Ctl :=
  let r := c.replay.mramWords (fun w => decide (0x58000 ≤ w))
  (r.2.foldl Ctl.lostWord r.1).loadStore.showBoot

theorem Ctl.storeLoaded_shows (c : Ctl) : c.storeLoaded.startView = c.startView ∧ c.storeLoaded.bt.ring = [] := by
  unfold Ctl.storeLoaded
  extract_lets r
  obtain ⟨hview, hring⟩ := c.replay_shows
  have hlost : (r.2.foldl Ctl.lostWord r.1).startRing = r.1.startRing := foldl_keeps Ctl.startRing _ _ r.1 fun x w _ => x.startRing_lostWord w
  have hbt : (r.2.foldl Ctl.lostWord r.1).loadStore.showBoot.bt = (r.2.foldl Ctl.lostWord r.1).bt :=
    (Ctl.bt_showBoot _).trans (foldl_keeps Ctl.bt _ _ _ fun _ _ _ => rfl)
  have hparts := Prod.mk.inj hlost
  refine ⟨(congrArg (fun b : BtState => (b.zeroAt, b.strapTadpole, b.mramStopped)) hbt).trans (hparts.1.trans hview), ?_⟩
  exact (congrArg BtState.ring hbt).trans (hparts.2.trans hring)

/-! ### Tadpole mode (18 R508) -/

theorem Ctl.pwrPin_shows (c : Ctl) (k : Nat) (v : Bool) : (c.pwrPin k v).bt = c.bt ∧ (c.pwrPin k v).ent = c.ent := by
  unfold Ctl.pwrPin
  split <;> exact ⟨rfl, rfl⟩

theorem Ctl.e_pwrPin (c : Ctl) (p : Nat) (v : Bool) (k : Nat) : (c.pwrPin p v).e k = c.e k := Ctl.e_congr (c.pwrPin_shows p v).2 k

theorem Ctl.bt_pwrPin (c : Ctl) (p : Nat) (v : Bool) : (c.pwrPin p v).bt = c.bt := (c.pwrPin_shows p v).1

/-- What shows Tadpole mode: BOOT_STATE, the reason, the latch; the boot part but for its record and the slot that runs. -/
def Ctl.tadpoleView (c : Ctl) : Nat × Nat × BootRec × BtState := (c.e 0x110001, c.e 0x110200, c.boot, { c.bt.offRec with running := 0 })

theorem Ctl.tadpoleView_of {c d : Ctl} (he : ∀ k, k = 0x110001 ∨ k = 0x110200 → d.e k = c.e k) (hbt : d.bt = c.bt) : d.tadpoleView = c.tadpoleView := by
  unfold Ctl.tadpoleView
  rw [he _ (.inl rfl), he _ (.inr rfl), hbt, Ctl.boot_congr hbt]

theorem Ctl.tadpoleView_setE (c : Ctl) {k : Nat} (n : Nat) (hk : k ≠ 0x110001 ∧ k ≠ 0x110200) : (c.setE k n).tadpoleView = c.tadpoleView :=
  Ctl.tadpoleView_of (fun j hj => (c.e_setE k j n).trans (if_neg (by omega))) rfl

theorem Ctl.tadpoleView_pwrPin (c : Ctl) (p : Nat) (v : Bool) : (c.pwrPin p v).tadpoleView = c.tadpoleView :=
  Ctl.tadpoleView_of (fun k _ => c.e_pwrPin p v k) (c.bt_pwrPin p v)

theorem Ctl.tadpoleView_setPm (c : Ctl) (f : PmState → PmState) : (c.setPm f).tadpoleView = c.tadpoleView := Ctl.tadpoleView_of (fun _ _ => rfl) rfl

theorem Ctl.tadpoleView_showIslands (c : Ctl) : c.showIslands.tadpoleView = c.tadpoleView :=
  Ctl.tadpoleView_of (fun k hk => c.e_showIslands (by omega)) c.bt_showIslands

theorem Ctl.tadpoleView_post (c : Ctl) (code : Nat) (items : List (Nat × Nat)) (hc : code < 65536) : (c.post code items).tadpoleView = c.tadpoleView :=
  Ctl.tadpoleView_of (fun _ hk => Ctl.e_post _ _ _ _ (postKey_of_below (by omega)) hc) (Ctl.post_bt ..)

theorem Ctl.tadpoleView_running (c : Ctl) (k : Nat) : (c.setBt fun b => { b with running := k }).tadpoleView = c.tadpoleView := rfl

theorem Ctl.e_showBoot_reason (c : Ctl) : c.showBoot.e 0x110200 = c.boot.tadpoleReason := by
  unfold Ctl.showBoot
  extract_lets r d e
  have hd : d.e 0x110200 = c.boot.tadpoleReason := (Ctl.e_setE ..).trans (if_pos rfl)
  have he : e.e 0x110200 = d.e 0x110200 := foldl_keeps (fun x : Ctl => x.e 0x110200) _ _ d fun x i hi =>
    x.e_setEa_of_idx _ (by have := List.mem_range.1 hi; omega) (by decide)
  refine (foldl_keeps (fun x : Ctl => x.e 0x110200) _ _ e fun x i hi => ?_).trans (he.trans hd)
  have hlt : i < 255 := by have := List.mem_range.1 hi; omega
  exact (Ctl.e_setEa_of_idx _ _ hlt (by decide)).trans (x.e_setEa_of_idx _ hlt (by decide))

/-- Tadpole mode with its reason, latched. -/
theorem Ctl.enterTadpole_shows (c : Ctl) (reason : Nat) (h : c.bt.mramStopped = false) : (c.enterTadpole reason).e 0x110001 = 2 ∧
    (c.enterTadpole reason).e 0x110200 = reason ∧ (c.enterTadpole reason).boot.tadpoleLatch = true ∧
    (c.enterTadpole reason).bt.zeroAt = c.bt.zeroAt ∧ (c.enterTadpole reason).bt.ring = c.bt.ring := by
  unfold Ctl.enterTadpole Ctl.tadpoleSupply
  extract_lets d e f g k l
  have hboot : d.boot.tadpoleLatch = true ∧ d.boot.tadpoleReason = reason := by
    unfold d
    rw [Ctl.boot_writeBoot _ _ h]
    exact ⟨rfl, rfl⟩
  have hreason : d.e 0x110200 = reason := by
    refine (Ctl.e_showBoot_reason _).trans ?_
    rw [Ctl.boot_setBoot _ _ h]
  have hrest : d.bt.offRec = c.bt.offRec := congrArg Ctl.bt (c.offRec_writeBoot _)
  have he : e.tadpoleView = (2, reason, d.boot, { c.bt.offRec with running := 0 }) := by
    unfold e
    rw [Ctl.tadpoleView_setE _ _ (by decide)]
    unfold Ctl.tadpoleView
    rw [Ctl.e_setE, if_pos rfl, Ctl.e_setE, if_neg (by decide), hreason]
    exact congrArg (fun b : BtState => (2, reason, d.boot, { b with running := 0 })) hrest
  clear_value d e
  have hf : f.tadpoleView = e.tadpoleView := (Ctl.tadpoleView_setE (e.setPm _) _ (by decide)).trans (e.tadpoleView_setPm _)
  clear_value f
  have hg : g.tadpoleView = f.tadpoleView := (Ctl.tadpoleView_showIslands _).trans (f.tadpoleView_running _)
  clear_value g
  have hk : k.tadpoleView = g.tadpoleView := by
    unfold k
    rw [Ctl.tadpoleView_pwrPin, Ctl.tadpoleView_pwrPin, Ctl.tadpoleView_setE _ _ (by decide)]
  clear_value k
  have hl : l.tadpoleView = k.tadpoleView := k.tadpoleView_setPm _
  clear_value l
  have hend : (((l.post 0x01C1 [i8 reason]).setPm fun p => { p with seqStep := 0 }).pwrPin 0 true).tadpoleView = (2, reason, d.boot, { c.bt.offRec with running := 0 }) := by
    rw [Ctl.tadpoleView_pwrPin, Ctl.tadpoleView_setPm, Ctl.tadpoleView_post _ _ _ (by decide), hl, hk, hg, hf, he]
  generalize ((l.post 0x01C1 [i8 reason]).setPm fun p => { p with seqStep := 0 }).pwrPin 0 true = x at hend
  unfold Ctl.tadpoleView at hend
  obtain ⟨hstate, hshown, hrec, hbt⟩ : x.e 0x110001 = 2 ∧ x.e 0x110200 = reason ∧ x.boot = d.boot ∧
      ({ x.bt.offRec with running := 0 } : BtState) = { c.bt.offRec with running := 0 } := by simpa only [Prod.mk.injEq] using hend
  exact ⟨hstate, hshown, hrec ▸ hboot.1, (congrArg BtState.zeroAt hbt :), (congrArg BtState.ring hbt :)⟩

/-- With the strap the third step of the start enters Tadpole mode. -/
theorem Ctl.chooseStart_strap (c : Ctl) (reach : Nat) (evs : List (Nat × List (Nat × Nat))) (status : List (Option Nat)) (hstop : c.bt.mramStopped = false)
    (hstrap : c.bt.strapTadpole = true) : (c.chooseStart reach evs status).e 0x110001 = 2 ∧ (c.chooseStart reach evs status).e 0x110200 = 0x11 ∧
    (c.chooseStart reach evs status).boot.tadpoleLatch = true ∧ (c.chooseStart reach evs status).bt.zeroAt = c.bt.zeroAt ∧
    (c.chooseStart reach evs status).bt.ring = c.bt.ring := by
  unfold Ctl.chooseStart
  extract_lets r failed reason n trial run evs' d e
  have hrest : d.bt.offRec = c.bt.offRec := congrArg Ctl.bt (c.offRec_writeBoot _)
  clear_value d
  have hstop' : e.bt.mramStopped = false := (congrArg BtState.mramStopped hrest).trans hstop
  have hstrap' : e.bt.strapTadpole = true := (congrArg BtState.strapTadpole hrest).trans hstrap
  rw [if_pos hstrap']
  obtain ⟨hstate, hreason, hlatch, hzero, hring⟩ := e.enterTadpole_shows 0x11 hstop'
  exact ⟨hstate, hreason, hlatch, hzero.trans (congrArg BtState.zeroAt hrest :), hring.trans (congrArg BtState.ring hrest :)⟩

/-! ### The commands -/

theorem exec_powerOn (dt : Nat) (low : Bool) (s : State) : exec (.powerOn dt low) s = runM (fun _ c => ({}, (c.advance dt).powerOn low)) s := rfl
theorem exec_warmReset (dt : Nat) (cut : Option MramCut) (s : State) : exec (.warmReset dt cut) s = runC (fun c => (c.advance dt).resetPin cut) s := rfl
theorem exec_resetNRise (dt : Nat) (s : State) : exec (.resetNRise dt) s = runC (fun c => (c.advance dt).resetRise) s := rfl
theorem exec_startTimeout (dt : Nat) (cut : Option MramCut) (s : State) : exec (.startTimeout dt cut) s = runC (fun c => (c.advance dt).startTimeout cut) s := rfl
theorem exec_shutdownRestart (dt : Nat) (s : State) : exec (.shutdownRestart dt) s = runC (fun c => (c.advance dt).shutdownRestart) s := rfl
theorem exec_porRelease (dt reach : Nat) (strap : Bool) (mr : List (Nat × Nat)) (status : List (Option Nat)) (s : State) :
    exec (.porRelease dt reach strap mr status) s = runC (fun c => (c.advance dt).porRelease reach strap mr status) s := rfl

/-- A start that has reached its third step with the strap. -/
theorem Ctl.porRelease_strap (c : Ctl) {reach : Nat} (mr : List (Nat × Nat)) (status : List (Option Nat)) (hstep : c.bt.step = 0) (hlow : c.bt.resetLow = false)
    (hdown : c.pm.down = 0) (hreach : 3 ≤ reach) : (c.porRelease reach true mr status).bt.ring = [] ∧ (c.porRelease reach true mr status).bt.zeroAt = c.up ∧
    (c.porRelease reach true mr status).e 0x110001 = 2 ∧ (c.porRelease reach true mr status).e 0x110200 = 0x11 ∧
    (c.porRelease reach true mr status).boot.tadpoleLatch = true := by
  unfold Ctl.porRelease
  rw [if_neg (by simp [hstep, hlow, hdown])]
  extract_lets d e r f
  have hd : d.startView = (c.up, true, false) := rfl
  have he : e.startView = (c.up, true, false) := by
    unfold e
    rw [if_pos (by omega)]
    refine (Ctl.bt_mramFlip_reads _ mr (fun b => (b.zeroAt, b.strapTadpole, b.mramStopped)) fun _ _ => rfl).trans ?_
    rw [Ctl.bt_showIslands]
    exact hd
  clear_value e
  rw [if_neg (by omega)]
  obtain ⟨hview, hring⟩ := e.storeLoaded_shows
  have hloaded : f.loadStore.showBoot = e.storeLoaded := rfl
  rw [hloaded]
  generalize e.storeLoaded = g at hview hring
  obtain ⟨hzero, hstrap, hstop⟩ : g.bt.zeroAt = c.up ∧ g.bt.strapTadpole = true ∧ g.bt.mramStopped = false := by
    simpa only [Ctl.startView, Prod.mk.injEq] using hview.trans he
  obtain ⟨hstate, hreason, hlatch, hzero', hring'⟩ := g.chooseStart_strap reach (r.2.flatMap lostEvents) status hstop hstrap
  exact ⟨hring'.trans hring, hzero'.trans hzero, hstate, hreason, hlatch⟩

/-- A start that does not reach its third step is remembered. -/
theorem Ctl.porRelease_early (c : Ctl) {reach : Nat} (strap : Bool) (mr : List (Nat × Nat)) (status : List (Option Nat)) (hstep : c.bt.step = 0)
    (hlow : c.bt.resetLow = false) (hdown : c.pm.down = 0) (hreach : reach < 3) : (c.porRelease reach strap mr status).bt.earlyStop = true ∧
    (c.porRelease reach strap mr status).bt.zeroAt = c.up ∧ (c.porRelease reach strap mr status).bt.step = max 1 reach := by
  unfold Ctl.porRelease
  rw [if_neg (by simp [hstep, hlow, hdown])]
  extract_lets d e
  have he : e.bt.zeroAt = c.up ∧ e.bt.step = max 1 (min reach 2) := by
    unfold e
    have hbt : (if reach ≥ 2 then d.setE 0x120008 4 else d).showIslands.bt = d.bt := by
      rw [Ctl.bt_showIslands]
      split <;> rfl
    exact ⟨(Ctl.bt_mramFlip_reads _ mr BtState.zeroAt fun _ _ => rfl).trans (congrArg BtState.zeroAt hbt :),
      (Ctl.bt_mramFlip_reads _ mr BtState.step fun _ _ => rfl).trans (congrArg BtState.step hbt :)⟩
  clear_value e
  rw [if_pos hreach]
  exact ⟨rfl, he.1, he.2.trans (by omega)⟩

end Sys2Proof.Machine

open Sys2Proof Sys2Proof.Machine

/-- Settles O13: `Ctl.fresh_shows` is what every reset leaves, and the start is followed to its third step (`Ctl.porRelease_strap`). -/
theorem resetsAndTheStart : Obligations.ResetsAndTheStart := by
  unfold Obligations.ResetsAndTheStart
  refine ⟨fun dt low s => ?_, fun dt cut s hdown hlow hrails => ?_, fun dt s => ?_, fun dt cut s hdown hstep hstarted htadpole hlate => ?_, fun dt s hdown => ?_,
    fun dt s t0 hdown hlate hcool hsince => ?_, fun dt reach mr status s hstep hlow hdown hreach => ?_, fun dt reach strap mr status s hstep hlow hdown hreach => ?_⟩
  · refine completes_of_exec_eq_runM (exec_powerOn ..) ?_
    obtain ⟨hregs, hshadow, hdy, -, hnv, hbt⟩ := (s.ctl.advance dt).fresh_shows 0 false
    exact ⟨rfl, rfl, hnv, hregs, hshadow, rfl, hdy, (congrArg BtState.step hbt :), rfl, (congrArg BtState.cause hbt :)⟩
  · refine leaves_of_exec_eq_runC (exec_warmReset ..) ?_
    obtain ⟨hregs, hshadow, hdy, hstep, hcause, hstop⟩ := (s.ctl.advance dt).warmReset_shows 1 cut hdown
    unfold Ctl.resetPin
    rw [if_neg (by simp [hdown, hlow, hrails])]
    generalize (s.ctl.advance dt).warmReset 1 cut = c at *
    exact ⟨hregs, hshadow, hdy, hstep, hcause, rfl, hstop⟩
  · exact leaves_of_exec_eq_runC (exec_resetNRise ..) rfl
  · refine leaves_of_exec_eq_runC (exec_startTimeout ..) ?_
    have hstep' : (s.ctl.advance dt).bt.step ≠ 0 := hstep
    have hstarted' : (s.ctl.advance dt).bt.startedAt = none := hstarted
    have htadpole' : (s.ctl.advance dt).tadpole = false := decide_eq_false htadpole
    have hlate' : ¬ (s.ctl.advance dt).up < (s.ctl.advance dt).bt.zeroAt + tS 2 := Nat.not_lt.2 hlate
    obtain ⟨hregs, hshadow, hdy, hstep, hcause, -⟩ := (s.ctl.advance dt).warmReset_shows 3 cut hdown
    unfold Ctl.startTimeout
    rw [if_neg (by simp only [hstep', hstarted', htadpole', hlate', decide_false, Option.isSome_none, Bool.or_self]; decide)]
    exact ⟨hregs, hshadow, hdy, hstep, hcause⟩
  · exact leaves_of_exec_eq_runC (exec_shutdownRestart ..) ((s.ctl.advance dt).shutdownRestart_shows 5 (.inl ⟨hdown, rfl⟩))
  · exact leaves_of_exec_eq_runC (exec_shutdownRestart ..) ((s.ctl.advance dt).shutdownRestart_shows 4 (.inr ⟨hdown, rfl, hlate, t0, hcool, hsince⟩))
  · exact leaves_of_exec_eq_runC (exec_porRelease ..) ((s.ctl.advance dt).porRelease_strap mr status hstep hlow hdown hreach)
  · exact leaves_of_exec_eq_runC (exec_porRelease ..) ((s.ctl.advance dt).porRelease_early strap mr status hstep hlow hdown hreach)

end

section
/-! PROOFS. Control pairs that stop (18 R496, R498, 20 R563). -/
namespace Sys2Proof.Machine

/-! ### What shows the thermal sites and the calibration -/

theorem Ctl.e_showSites (c : Ctl) {k : Nat} (hk : k / 256 < 0x1310 ∨ 0x1312 < k / 256) : c.showSites.e k = c.e k :=
  foldl_keeps (fun x : Ctl => x.e k) _ _ c fun x i hi => by
    have hlt : i < 255 := by have := List.mem_range.1 hi; omega
    exact (Ctl.e_setEa_of_idx _ _ hlt (by omega)).trans ((Ctl.e_setEa_of_idx _ _ hlt (by omega)).trans (x.e_setEa_of_idx _ hlt (by omega)))

theorem Ctl.bt_showSites (c : Ctl) : c.showSites.bt = c.bt := foldl_keeps Ctl.bt _ _ c fun _ _ _ => rfl

theorem Ctl.pm_showSites (c : Ctl) : c.showSites.pm = c.pm := foldl_keeps Ctl.pm _ _ c fun _ _ _ => rfl

/-- ITEM_QUALITY and its report leave the entries of the control pairs and of the references. -/
theorem Ctl.e_showQuality (c : Ctl) {item k : Nat} (hitem : item ≤ 255) (hk : k / 256 ≠ 0x1410) (hpost : postKey k = false) : (c.showQuality item).e k = c.e k := by
  unfold Ctl.showQuality
  extract_lets l q d
  have hd : d.e k = c.e k := c.e_setEa_of_idx _ (by omega) hk
  clear_value d
  split
  · refine (Ctl.e_post _ _ _ _ hpost (by decide)).trans ?_
    exact hd
  · split
    · exact hd
    · exact hd

theorem Ctl.bt_showQuality (c : Ctl) (item : Nat) : (c.showQuality item).bt = c.bt := by
  unfold Ctl.showQuality
  extract_lets l q d
  split
  · rw [Ctl.post_bt]
    rfl
  · split <;> rfl

theorem Ctl.e_showCal (c : Ctl) {k : Nat} (hk : k ≠ 0x140001) : c.showCal.e k = c.e k := by
  unfold Ctl.showCal
  split
  · rfl
  · exact (Ctl.e_setE ..).trans (if_neg (Ne.symm hk))

theorem Ctl.bt_showCal (c : Ctl) : c.showCal.bt = c.bt := by
  unfold Ctl.showCal
  split <;> rfl

theorem Ctl.bt_setPm (c : Ctl) (f : PmState → PmState) : (c.setPm f).bt = c.bt := rfl

theorem Ctl.e_calStops (c : Ctl) {k : Nat} (hk : k / 256 < 0x1310 ∨ 0x1312 < k / 256) : c.calStops.e k = c.e k :=
  (Ctl.e_showSites _ hk).trans (c.e_setPm _ k)

theorem Ctl.bt_calStops (c : Ctl) : c.calStops.bt = c.bt := (Ctl.bt_showSites _).trans (c.bt_setPm _)

/-- Calibration that holds leaves the entries above its own, but for those of the queues. -/
theorem Ctl.e_calHolds (c : Ctl) {k : Nat} (hk : 0x150000 ≤ k ∧ k < 0x530000) : c.calHolds.e k = c.e k := by
  obtain ⟨hlo, hhi⟩ := hk
  unfold Ctl.calHolds
  extract_lets d
  have hd : d.e k = c.e k := (c.calStops.e_setPm _ k).trans (c.e_calStops (.inr (by omega)))
  clear_value d
  refine (Ctl.e_showCal _ (by omega)).trans ((foldl_keeps (fun x : Ctl => x.e k) _ _ d fun x i hi => ?_).trans hd)
  exact x.e_showQuality (by have := List.mem_range.1 hi; omega) (by omega) (postKey_eq_false_of_lt hhi)

theorem Ctl.bt_calHolds (c : Ctl) : c.calHolds.bt = c.bt := by
  unfold Ctl.calHolds
  extract_lets d
  have hd : d.bt = c.bt := (c.calStops.bt_setPm _).trans c.bt_calStops
  clear_value d
  exact (Ctl.bt_showCal _).trans ((foldl_keeps Ctl.bt _ _ d fun x i _ => x.bt_showQuality _).trans hd)

/-! ### A pair stops (18 R496, R498) -/

theorem Ctl.pair_congr {c d : Ctl} (h : d.bt = c.bt) (p : Nat) : d.pair p = c.pair p := by
  unfold Ctl.pair
  rw [h]

theorem Ctl.pair_setPair (c : Ctl) (p : Nat) (x : CpPair) : (c.setPair p x).pair p = x := by
  unfold Ctl.setPair Ctl.pair Ctl.setBt
  split <;> rfl

/-- A pair that runs stops at once; it is OUT where it has stopped within 60 s. -/
theorem Ctl.cpStops_stops (c : Ctl) {p : Nat} (code : Nat) (hp : p ≤ 1) (hrun : c.ea 0x1580 p = 0) (hstep : c.bt.step ≠ 0) :
    ((c.cpStops p code).pair p).stoppedAt = some c.up ∧
      (c.cpStops p code).ea 0x1580 p = if (c.pair p).stoppedAt.any (fun t => decide (c.up < t + tS 60)) then 2 else 1 := by
  unfold Ctl.cpStops
  rw [if_neg (by simp [hrun, hstep]; omega)]
  extract_lets d again early e f g
  have hagain : again = (c.pair p).stoppedAt.any (fun t => decide (c.up < t + tS 60)) := by
    unfold again
    rw [Ctl.pair_congr (Ctl.post_bt ..) p, show d.up = c.up from Ctl.post_up ..]
  have hup : e.up = c.up := by
    unfold e Ctl.when
    exact ite_keeps Ctl.up (Ctl.post_up ..) (Ctl.post_up ..)
  have hf : (f.pair p).stoppedAt = some c.up := by
    have hpair : f.pair p = (e.setPair p { stoppedAt := some e.up }).pair p := by
      unfold Ctl.pair
      exact ite_congr rfl (fun _ => rfl) fun _ => rfl
    rw [hpair, Ctl.pair_setPair, hup]
  have hg : (g.pair p).stoppedAt = some c.up ∧ g.ea 0x1580 p = 2 := by
    refine ⟨(congrArg CpPair.stoppedAt (Ctl.pair_congr (Ctl.post_bt ..) p)).trans hf, ?_⟩
    refine (Ctl.ea_post _ _ _ _ _ (postKey_eq_false_of_lt (by unfold ekey; omega)) (by decide)).trans (f.ea_setEa_same ..)
  rw [← hagain]
  clear_value again g f
  cases again
  · exact ⟨hf, f.ea_setEa_same ..⟩
  · rw [if_pos rfl, if_pos rfl]
    obtain ⟨hstopped, hout⟩ := hg
    by_cases hone : p = 1
    · rw [if_pos hone]
      exact ⟨(congrArg CpPair.stoppedAt (Ctl.pair_congr g.bt_calHolds p)).trans hstopped, (g.e_calHolds (by unfold ekey; omega)).trans hout⟩
    · rw [if_neg hone]
      exact ⟨hstopped, hout⟩

/-! ### The commands -/

theorem exec_cpMismatch (dt pair : Nat) (s : State) : exec (.cpMismatch dt pair) s = runC (fun c => (c.advance dt).cpStops pair 0x05D1) s := rfl
theorem exec_cpWatchdog (dt pair : Nat) (s : State) : exec (.cpWatchdog dt pair) s = runC (fun c => (c.advance dt).cpStops pair 0x05D2) s := rfl
theorem exec_pairOutResetTimer (dt : Nat) (cut : Option MramCut) (s : State) :
    exec (.pairOutResetTimer dt cut) s = runC (fun c => (c.advance dt).pairOutTimer cut) s := rfl

end Sys2Proof.Machine

open Sys2Proof Sys2Proof.Machine

/-- Settles O19, by `Ctl.cpStops_stops` and what a warm reset leaves. -/
theorem controlPairsStopAndReturn : Obligations.ControlPairsStopAndReturn := by
  unfold Obligations.ControlPairsStopAndReturn
  refine ⟨fun dt p s hp hrun hstep => ?_, fun dt p s hp hrun hstep => ?_, fun dt t0 cut s hout hlate hflips hdown => ?_⟩
  · exact leaves_of_exec_eq_runC (exec_cpMismatch ..) ((s.ctl.advance dt).cpStops_stops _ hp hrun hstep)
  · exact leaves_of_exec_eq_runC (exec_cpWatchdog ..) ((s.ctl.advance dt).cpStops_stops _ hp hrun hstep)
  · refine leaves_of_exec_eq_runC (exec_pairOutResetTimer ..) ?_
    have hdue : ((s.ctl.advance dt).fm.pairOutAt.any (fun t => decide ((s.ctl.advance dt).up ≥ t + tS 1)) && !(s.ctl.advance dt).tb.issuing) = true := by
      rw [show (s.ctl.advance dt).fm.pairOutAt = some t0 from hout, Option.any_some, decide_eq_true (show (s.ctl.advance dt).up ≥ t0 + tS 1 from hlate),
        show (s.ctl.advance dt).tb.issuing = false from hflips]
      rfl
    obtain ⟨hregs, -, -, hstep, hcause, -⟩ := (s.ctl.advance dt).warmReset_shows 6 cut hdown
    unfold Ctl.pairOutTimer
    rw [if_pos hdue]
    exact ⟨hcause, hstep, hregs⟩

end

section
/-! PROOFS. Thermal levels (19 R529 to R535), service life (21 R586), AVS and telemetry (19 R525, R526). -/
namespace Sys2Proof.Machine

/-! ### The levels (19 R531, R534) -/

/-- What THERMAL_LEVEL shows of the power and thermal part. -/
def PmState.level (p : PmState) : Nat := if p.throttle then 2 else if p.warning then 1 else 0

/-- What a conversion round shows of itself: its count, T_MAX, and T_MAX as the entry has it. -/
def Ctl.roundView (c : Ctl) : Nat × Int × Nat := (c.pm.rounds, c.pm.tmax, c.e 0x130001)

theorem Ctl.roundView_of {c d : Ctl} (hr : d.pm.rounds = c.pm.rounds) (ht : d.pm.tmax = c.pm.tmax) (he : d.e 0x130001 = c.e 0x130001) : d.roundView = c.roundView := by
  unfold Ctl.roundView
  rw [hr, ht, he]

theorem Ctl.roundView_post (c : Ctl) {code : Nat} (items : List (Nat × Nat)) (hc : code < 65536) : (c.post code items).roundView = c.roundView :=
  Ctl.roundView_of (by rw [Ctl.post_pm]) (by rw [Ctl.post_pm]) (Ctl.e_post _ _ _ _ (by decide) hc)

theorem Ctl.roundView_setE (c : Ctl) {k : Nat} (n : Nat) (hk : k ≠ 0x130001) : (c.setE k n).roundView = c.roundView :=
  Ctl.roundView_of rfl rfl ((c.e_setE k _ n).trans (if_neg hk))

theorem Ctl.pm_setE (c : Ctl) (k n : Nat) : (c.setE k n).pm = c.pm := rfl

theorem Ctl.pm_setPm (c : Ctl) (f : PmState → PmState) : (c.setPm f).pm = f c.pm := rfl

theorem Ctl.showLevel_shows (c : Ctl) : c.showLevel.roundView = c.roundView ∧ c.showLevel.pm = c.pm ∧ c.showLevel.e 0x130003 = c.pm.level :=
  ⟨c.roundView_setE _ (by decide), rfl, (Ctl.e_setE ..).trans (if_pos rfl)⟩

/-- A step of the part that changes no more of the thermal part than the levels. -/
structure Ctl.LevelStep (c d : Ctl) : Prop where
  view : d.roundView = c.roundView
  cold : degC 100 ≤ c.pm.tmax → c.pm.warning = true → d.pm.warning = true
  cool : degC 108 ≤ c.pm.tmax → c.pm.throttle = true → d.pm.throttle = true

theorem Ctl.tmax_of_roundView {c d : Ctl} (h : d.roundView = c.roundView) : d.pm.tmax = c.pm.tmax := congrArg (fun v : Nat × Int × Nat => v.2.1) h

/-- The levels that are left: T_MAX is below where they are entered, and THERMAL_LEVEL shows them. -/
theorem Ctl.leaveLevels_shows (c : Ctl) : c.LevelStep c.leaveLevels ∧ c.leaveLevels.e 0x130003 = c.leaveLevels.pm.level := by
  unfold Ctl.leaveLevels
  extract_lets t held d e
  have hd : d.roundView = c.roundView ∧ (degC 108 ≤ c.pm.tmax → d.pm = c.pm) ∧ d.pm.warning = c.pm.warning := by
    unfold d
    split
    next hleave =>
      refine ⟨Ctl.roundView_post _ _ (by decide), fun hhot => ?_, by rw [Ctl.post_pm, Ctl.pm_setPm]⟩
      simp only [Bool.and_eq_true, decide_eq_true_eq] at hleave
      obtain ⟨⟨⟨-, hcool⟩, -⟩, -⟩ := hleave
      have ht : t = c.pm.tmax := rfl
      unfold degC at hcool hhot
      omega
    next => exact ⟨rfl, fun _ => rfl, rfl⟩
  obtain ⟨hview, hthrottle, hwarning⟩ := hd
  clear_value d
  have he : e.roundView = d.roundView ∧ (degC 100 ≤ c.pm.tmax → e.pm = d.pm) ∧ e.pm.throttle = d.pm.throttle := by
    unfold e
    split
    next hleave =>
      refine ⟨Ctl.roundView_post _ _ (by decide), fun hhot => ?_, by rw [Ctl.post_pm, Ctl.pm_setPm]⟩
      simp only [Bool.and_eq_true, decide_eq_true_eq] at hleave
      obtain ⟨-, hcool⟩ := hleave
      have ht : t = c.pm.tmax := rfl
      unfold degC at hcool hhot
      omega
    next => exact ⟨rfl, fun _ => rfl, rfl⟩
  obtain ⟨hview', hwarning', hthrottle'⟩ := he
  clear_value e
  obtain ⟨hshow, hpm, hlevel⟩ := e.showLevel_shows
  refine ⟨⟨hshow.trans (hview'.trans hview), fun hhot hwarn => ?_, fun hhot hthr => ?_⟩, by rw [hlevel, hpm]⟩
  · rw [hpm, hwarning' hhot, hwarning, hwarn]
  · rw [hpm, hthrottle', hthrottle hhot, hthr]

/-- The levels that are entered. -/
theorem Ctl.enterLevels_shows (c : Ctl) : c.enterLevels.roundView = c.roundView ∧ (degC 100 ≤ c.pm.tmax → c.enterLevels.pm.warning = true) ∧
    (degC 108 ≤ c.pm.tmax → c.enterLevels.pm.throttle = true) := by
  unfold Ctl.enterLevels
  extract_lets t hot d e
  have hd : d.roundView = c.roundView ∧ (degC 100 ≤ c.pm.tmax → d.pm.warning = true) := by
    unfold d
    split
    next => exact ⟨Ctl.roundView_post _ _ (by decide), fun _ => by rw [Ctl.post_pm, Ctl.pm_setPm]⟩
    next hnot =>
      refine ⟨rfl, fun hhot => ?_⟩
      have ht : decide (t ≥ degC 100) = true := decide_eq_true hhot
      rw [ht] at hnot
      simpa using hnot
  obtain ⟨hview, hwarning⟩ := hd
  clear_value d
  have he : e.roundView = d.roundView ∧ e.pm.warning = d.pm.warning ∧ (degC 108 ≤ c.pm.tmax → e.pm.throttle = true) := by
    unfold e
    split
    next => exact ⟨Ctl.roundView_post _ _ (by decide), by rw [Ctl.post_pm, Ctl.pm_setPm], fun _ => by rw [Ctl.post_pm, Ctl.pm_setPm]⟩
    next hnot =>
      refine ⟨rfl, rfl, fun hhot => ?_⟩
      have ht : decide (t ≥ degC 108) = true := decide_eq_true hhot
      rw [ht] at hnot
      simpa using hnot
  obtain ⟨hview', hwarning', hthrottle⟩ := he
  clear_value e
  obtain ⟨hshow, hpm, -⟩ := e.showLevel_shows
  rw [hpm]
  exact ⟨hshow.trans (hview'.trans hview), fun hhot => hwarning'.trans (hwarning hhot), hthrottle⟩

theorem Ctl.roundView_lockThrottle (c : Ctl) : c.lockThrottle.roundView = c.roundView := by
  unfold Ctl.lockThrottle
  split
  · rfl
  · split
    · rfl
    next a b _ =>
      extract_lets was d e f g
      have hd : d.roundView = c.roundView := rfl
      have he : e.roundView = d.roundView := d.roundView_setE _ (by decide)
      have hf : f.roundView = e.roundView := by
        unfold f
        split
        · exact Ctl.roundView_post _ _ (by decide)
        · rfl
      have hg : g.roundView = f.roundView := by
        unfold g
        split
        · rfl
        · exact Ctl.roundView_post _ _ (by decide)
      clear_value d e f g
      exact (Ctl.showLevel_shows _).1.trans ((Ctl.roundView_post _ _ (by decide)).trans (hg.trans (hf.trans (he.trans hd))))

/-! ### A conversion round (19 R528 to R535) -/

/-- What a round shows. -/
def Ctl.RoundShown (c : Ctl) : Prop :=
  c.e 0x130001 = ofSigned 32 (milliC c.pm.tmax) ∧ c.e 0x130003 = c.pm.level ∧ (degC 100 ≤ c.pm.tmax → c.pm.warning = true) ∧
    (degC 108 ≤ c.pm.tmax → c.pm.throttle = true)

theorem Ctl.rounds_lifeTick (c : Ctl) : c.lifeTick.pm.rounds = c.pm.rounds := rfl

/-- The end of a round: the levels follow T_MAX. -/
theorem Ctl.levels_shown (c : Ctl) (h : c.e 0x130001 = ofSigned 32 (milliC c.pm.tmax)) : c.lockThrottle.enterLevels.leaveLevels.RoundShown ∧
    c.lockThrottle.enterLevels.leaveLevels.pm.rounds = c.pm.rounds := by
  have hlock := c.roundView_lockThrottle
  obtain ⟨henter, hwarning, hthrottle⟩ := c.lockThrottle.enterLevels_shows
  obtain ⟨⟨hleave, hcold, hcool⟩, hlevel⟩ := c.lockThrottle.enterLevels.leaveLevels_shows
  generalize c.lockThrottle.enterLevels.leaveLevels = g at *
  generalize c.lockThrottle.enterLevels = f at *
  generalize c.lockThrottle = e at *
  have hview := hleave.trans (henter.trans hlock)
  unfold Ctl.roundView at hview
  obtain ⟨hrounds, htmax, hentry⟩ : g.pm.rounds = c.pm.rounds ∧ g.pm.tmax = c.pm.tmax ∧ g.e 0x130001 = c.e 0x130001 := by simpa only [Prod.mk.injEq] using hview
  have hf := Ctl.tmax_of_roundView henter
  have hg := Ctl.tmax_of_roundView hleave
  refine ⟨⟨by rw [hentry, htmax, h], hlevel, fun hhot => ?_, fun hhot => ?_⟩, hrounds⟩
  · exact hcold (hg ▸ hhot) (hwarning (hf ▸ hg ▸ hhot))
  · exact hcool (hg ▸ hhot) (hthrottle (hf ▸ hg ▸ hhot))

theorem Ctl.thermalRound_shows (c : Ctl) {rd : List (Int × Bool)} (h : rd.length = 24) : (c.thermalRound rd).RoundShown ∧ (c.thermalRound rd).pm.rounds = c.pm.rounds + 1 := by
  unfold Ctl.thermalRound
  rw [if_neg (by simp [h])]
  extract_lets d old wasHot idx s1 failed s2 worst s3 s3' top s4 out e hot f g x y
  have hrounds : f.pm.rounds = c.pm.rounds + 1 := rfl
  clear_value f
  have hg : g.roundView = (c.pm.rounds + 1, f.pm.tmax, ofSigned 32 (milliC f.pm.tmax)) := by
    have hshow : g.pm = f.pm := Ctl.pm_showSites _
    have hentry : g.e 0x130001 = ofSigned 32 (milliC f.pm.tmax) := by
      refine (Ctl.e_showSites _ (.inl (by decide))).trans ?_
      rw [Ctl.e_setE, if_neg (by decide), Ctl.e_setE, if_pos rfl]
    unfold Ctl.roundView
    rw [hentry, hshow, hrounds]
  clear_value g
  have hx : x.roundView = g.roundView := foldl_keeps Ctl.roundView _ _ g fun v i _ => v.roundView_post _ (by decide)
  clear_value x
  have hy : y.roundView = x.roundView := by
    unfold y
    split <;> rfl
  clear_value y
  have hview : y.roundView = (c.pm.rounds + 1, f.pm.tmax, ofSigned 32 (milliC f.pm.tmax)) := hy.trans (hx.trans hg)
  unfold Ctl.roundView at hview
  obtain ⟨hcount, htmax, hentry⟩ : y.pm.rounds = c.pm.rounds + 1 ∧ y.pm.tmax = f.pm.tmax ∧ y.e 0x130001 = ofSigned 32 (milliC f.pm.tmax) := by
    simpa only [Prod.mk.injEq] using hview
  obtain ⟨hshown, hsame⟩ := y.levels_shown (by rw [hentry, htmax])
  exact ⟨hshown, hsame.trans hcount⟩

/-- What the levels and T_MAX rest on. -/
def Ctl.levelView (c : Ctl) : (Nat × Int × Nat) × Bool × Bool × Nat := (c.roundView, c.pm.warning, c.pm.throttle, c.e 0x130003)

theorem Ctl.roundShown_of_levelView {c d : Ctl} (h : d.levelView = c.levelView) (hc : c.RoundShown) : d.RoundShown ∧ d.pm.rounds = c.pm.rounds := by
  unfold Ctl.levelView Ctl.roundView at h
  obtain ⟨⟨hrounds, htmax, hentry⟩, hwarning, hthrottle, hlevel⟩ : (d.pm.rounds = c.pm.rounds ∧ d.pm.tmax = c.pm.tmax ∧ d.e 0x130001 = c.e 0x130001) ∧
      d.pm.warning = c.pm.warning ∧ d.pm.throttle = c.pm.throttle ∧ d.e 0x130003 = c.e 0x130003 := by simpa only [Prod.mk.injEq] using h
  unfold Ctl.RoundShown PmState.level
  rw [hentry, htmax, hlevel, hwarning, hthrottle]
  exact ⟨hc, hrounds⟩

theorem Ctl.levelView_fitTempco (c : Ctl) (d : Nat) : (c.fitTempco d).levelView = c.levelView := by
  unfold Ctl.fitTempco
  split
  · rfl
  · extract_lets take recent fit p e
    have he : e.levelView = c.levelView := rfl
    clear_value e
    split
    · exact he
    · refine Eq.trans ?_ he
      unfold Ctl.levelView
      rw [e.roundView_setE _ (by decide), Ctl.e_setE, if_neg (by decide)]
      rfl

theorem Ctl.levelView_compensate (c : Ctl) : c.compensate.levelView = c.levelView := by
  unfold Ctl.compensate
  split <;> rfl

theorem Ctl.levelView_afterRound (c : Ctl) (d : Nat) : ((c.coolWatch.fitTempco d).compensate).levelView = c.levelView :=
  (Ctl.levelView_compensate _).trans ((Ctl.levelView_fitTempco _ d).trans rfl)

/-! ### Sites, the hold and service life -/

theorem siteAt_updAt_same {l : List Site} {i : Nat} (f : Site → Site) (h : i < l.length) : siteAt (updAt l i f) i = f (siteAt l i) := getD_updAt l f {} h

theorem siteAt_updAt_ne (l : List Site) {i j : Nat} (f : Site → Site) (h : j ≠ i) : siteAt (updAt l i f) j = siteAt l j := by
  simp [siteAt, updAt, List.getD, Ne.symm h]

/-- A site in a state other than its first is one of the list. -/
theorem lt_of_siteAt {l : List Site} {i : Nat} (h : (siteAt l i).state = 2) : i < l.length := by
  by_contra hge
  have hdflt : siteAt l i = {} := List.getD_eq_default _ _ (by omega)
  rw [hdflt] at h
  exact absurd h (by decide)

theorem Ctl.siteReadmit_shows (c : Ctl) {i g : Nat} (hi : i < 24) (hst : (siteAt c.pm.sites i).state = 2) (hgood : (siteAt c.pm.sites i).goodSince = some g)
    (hdue : g + tS 10 ≤ c.up) : (siteAt (c.siteReadmit i).pm.sites i).state = 0 ∧ (c.siteReadmit i).ea 0x1311 i = 0 ∧
      ∀ j, j ≠ i → siteAt (c.siteReadmit i).pm.sites j = siteAt c.pm.sites j := by
  unfold Ctl.siteReadmit
  dsimp only
  rw [hgood]
  dsimp only
  rw [if_neg (by rw [hst]; omega), Ctl.post_pm, Ctl.ea_post _ _ _ _ _ (postKey_eq_false_of_lt (by unfold ekey; omega)) (by decide)]
  refine ⟨congrArg Site.state (siteAt_updAt_same _ (lt_of_siteAt hst)), Ctl.ea_setEa_same .., fun j hj => siteAt_updAt_ne _ _ hj⟩

/-- The hold of THROTTLE is over: it is left where T_MAX allows it. -/
theorem Ctl.holdExpiry_shows (c : Ctl) {u : Nat} (hhold : c.pm.holdUntil = some u) (hdue : u ≤ c.up) (hthr : c.pm.throttle = true) (hcool : c.pm.tmax ≤ degC 103)
    (hlock : c.e 0x130004 = 0) : c.holdExpiry.pm.throttle = false ∧ c.holdExpiry.pm.holdUntil = none ∧
      c.holdExpiry.e 0x130003 = if c.holdExpiry.pm.warning then 1 else 0 := by
  have hrun : c.holdExpiry = (c.setPm fun p => { p with holdUntil := none }).leaveLevels := by
    unfold Ctl.holdExpiry
    rw [hhold]
    exact if_neg (by omega)
  rw [hrun]
  obtain ⟨-, hlevel⟩ := (c.setPm fun p => { p with holdUntil := none }).leaveLevels_shows
  have hleft : (c.setPm fun p => { p with holdUntil := none }).leaveLevels.pm.throttle = false ∧
      (c.setPm fun p => { p with holdUntil := none }).leaveLevels.pm.holdUntil = none := by
    unfold Ctl.leaveLevels
    extract_lets t held d e
    have hd : d.pm.throttle = false ∧ d.pm.holdUntil = none := by
      unfold d
      rw [if_pos ?_]
      · rw [Ctl.post_pm]
        exact ⟨rfl, rfl⟩
      · have hheld : held = false := rfl
        have ht : decide (t ≤ degC 103) = true := decide_eq_true hcool
        have hthr' : (c.setPm fun p => { p with holdUntil := none }).pm.throttle = true := hthr
        have hlock' : (c.setPm fun p => { p with holdUntil := none }).throttleLocked = false := decide_eq_false (not_not.2 hlock)
        rw [hheld, ht, hthr', hlock']
        rfl
    clear_value d
    have he : e.pm.throttle = d.pm.throttle ∧ e.pm.holdUntil = d.pm.holdUntil := by
      unfold e
      split
      · rw [Ctl.post_pm]
        exact ⟨rfl, rfl⟩
      · exact ⟨rfl, rfl⟩
    clear_value e
    obtain ⟨-, hpm, -⟩ := e.showLevel_shows
    rw [hpm, he.1, he.2]
    exact hd
  generalize (c.setPm fun p => { p with holdUntil := none }).leaveLevels = g at *
  obtain ⟨hthrottle, hnone⟩ := hleft
  refine ⟨hthrottle, hnone, ?_⟩
  rw [hlevel]
  unfold PmState.level
  rw [hthrottle]
  rfl

theorem Ctl.e_journalled (c : Ctl) (l : List (Nat × EVal)) (k : Nat) : (c.journalled l).e k = c.e k := by
  unfold Ctl.journalled
  split
  · rfl
  · exact Ctl.e_snoopPass ..

/-- A number that is kept stands in its entry; the others stand too. -/
theorem Ctl.e_keepE (c : Ctl) (k n j : Nat) : (c.keepE k n).e j = if k = j then n else c.e j := by
  unfold Ctl.keepE Ctl.saveOne Ctl.saveEv
  refine Eq.trans ?_ (c.e_setE k j n)
  split
  · exact Ctl.e_journalled ..
  · exact Ctl.e_journalled ..

/-- One powered hour counts in POWERED_HOURS. -/
theorem Ctl.lifeUpdate_counts (c : Ctl) (h : tS 3600 ≤ c.pm.lifeTime + (c.up - c.pm.lastRound)) :
    c.lifeUpdate.e 0x130009 = satAdd 32 (c.e 0x130009) 1 ∧ c.lifeUpdate.pm.lifeTime = 0 ∧ c.lifeUpdate.pm.lifeSum = 0 := by
  unfold Ctl.lifeUpdate
  extract_lets d p hours avg old e f g
  have hd : d.e 0x130009 = c.e 0x130009 := (Ctl.e_setPm ..).trans ((Ctl.e_setE ..).trans (if_neg (by decide)))
  have hp : p.lifeTime = c.pm.lifeTime + (c.up - c.pm.lastRound) := rfl
  have hours_eq : hours = c.e 0x130009 := hd
  clear_value hours p
  rw [if_neg (by omega)]
  refine ⟨?_, rfl, rfl⟩
  rw [Ctl.e_setPm]
  have he : e.e 0x130009 = satAdd 32 (c.e 0x130009) 1 := by
    refine (Ctl.e_keepE ..).trans ((if_pos rfl).trans ?_)
    rw [hours_eq]
  have hf : f.e 0x130009 = e.e 0x130009 := (Ctl.e_keepE ..).trans (if_neg (by decide))
  exact ((Ctl.e_keepE ..).trans (if_neg (by decide))).trans (hf.trans he)

/-! ### The commands -/

theorem exec_thermalRound (dt : Nat) (readings : List (Int × Int × Bool)) (cut : Option MramCut) (s : State) :
    exec (.thermalRound dt readings cut) s = runC (fun c => (c.advance dt).thermalCmd readings cut) s := rfl
theorem exec_siteReadmitted (dt site : Nat) (s : State) : exec (.siteReadmitted dt site) s = runC (fun c => (c.advance dt).siteReadmit site) s := rfl
theorem exec_throttleHoldExpiry (dt : Nat) (s : State) : exec (.throttleHoldExpiry dt) s = runC (fun c => (c.advance dt).holdExpiry) s := rfl
theorem exec_lifeUpdate (dt : Nat) (s : State) : exec (.lifeUpdate dt) s = runC (fun c => (c.advance dt).lifeUpdate) s := rfl

/-- A round that does not reach the SHUTDOWN threshold. -/
theorem Ctl.thermalCmd_shows (c : Ctl) {both : List (Int × Int × Bool)} {rd : List (Int × Bool)} (cut : Option MramCut) (hlen : both.length = 24)
    (hrd : rd = both.map (fun x => (if c.e 0x140002 = 1 then max x.1 x.2.1 else x.1, x.2.2))) (hcool : (c.thermalRound rd).tooHot = false) :
    (c.thermalCmd both cut).RoundShown ∧ (c.thermalCmd both cut).pm.rounds = c.pm.rounds + 1 := by
  have hlen' : rd.length = 24 := by rw [hrd, List.length_map, hlen]
  obtain ⟨hshown, hrounds⟩ := c.thermalRound_shows hlen'
  unfold Ctl.thermalCmd
  rw [← hrd]
  extract_lets r passed d
  have hview : d.levelView = (c.thermalRound rd).levelView := Ctl.levelView_afterRound ..
  clear_value d
  have htmax : d.pm.tmax = (c.thermalRound rd).pm.tmax := congrArg (fun v : (Nat × Int × Nat) × Bool × Bool × Nat => v.1.2.1) hview
  have hcool' : d.tooHot = false := by
    unfold Ctl.tooHot at hcool ⊢
    rw [htmax, hcool]
  rw [if_pos (by simp [hcool'])]
  obtain ⟨hd, hsame⟩ := Ctl.roundShown_of_levelView hview hshown
  exact ⟨hd, hsame.trans hrounds⟩

end Sys2Proof.Machine

open Sys2Proof Sys2Proof.Machine

/-- Settles O16: the levels follow T_MAX at the end of a round (`Ctl.levels_shown`), and what comes after it leaves them. -/
theorem thermalLevels : Obligations.ThermalLevels := by
  unfold Obligations.ThermalLevels
  refine ⟨fun dt readings rd cut s hlen hrd hcool => ?_, fun dt site g s hsite hst hgood hdue => ?_, fun dt u s hhold hdue hthr hcool hlock => ?_, fun dt s hhour => ?_⟩
  · obtain ⟨⟨hentry, hlevel, hwarning, hthrottle⟩, hrounds⟩ := (s.ctl.advance dt).thermalCmd_shows cut hlen hrd hcool
    exact leaves_of_exec_eq_runC (exec_thermalRound ..) ⟨hrounds, hentry, hlevel, hwarning, hthrottle⟩
  · exact leaves_of_exec_eq_runC (exec_siteReadmitted ..) ((s.ctl.advance dt).siteReadmit_shows hsite hst hgood hdue)
  · exact leaves_of_exec_eq_runC (exec_throttleHoldExpiry ..) ((s.ctl.advance dt).holdExpiry_shows hhold hdue hthr hcool hlock)
  · exact leaves_of_exec_eq_runC (exec_lifeUpdate ..) ((s.ctl.advance dt).lifeUpdate_counts hhour)

end

section
/-! PROOFS. AVS and telemetry (19 R525, R526). -/
namespace Sys2Proof.Machine

/-! ### The target of VDD_CORE (19 R525) -/

/-- Where the target moves: as far as AVS_FLOOR and AVS_CEILING let it. -/
def Ctl.targetAt (c : Ctl) (t : Nat) : Nat := clampN (2 * c.e 0x120003) (2 * c.e 0x120004) t

/-- The part of a step of AVS that moves the target to `t`. -/
structure Ctl.Targets (c d : Ctl) (t : Nat) : Prop where
  pm : d.pm = { c.pm with target := c.targetAt t }
  entry : d.e 0x120002 = c.targetAt t / 2
  slack : d.e 0x120005 = c.e 0x120005

theorem Ctl.targets_setTarget (c : Ctl) (t : Nat) (h : c.e 0x120001 = 0) : c.Targets (c.setTarget t) t := by
  unfold Ctl.setTarget
  rw [if_neg (by omega)]
  extract_lets u d
  have hd : d.pm = c.pm ∧ d.e 0x120005 = c.e 0x120005 := by
    unfold d
    split <;> exact ⟨rfl, rfl⟩
  clear_value d
  obtain ⟨hpm, hslack⟩ := hd
  refine ⟨?_, (Ctl.e_setE ..).trans (if_pos rfl), ((Ctl.e_setE ..).trans (if_neg (by decide))).trans ((d.e_setPm ..).trans hslack)⟩
  show { d.pm with target := u } = _
  rw [hpm]
  rfl

theorem Ctl.targets_post {c d : Ctl} {t : Nat} (h : c.Targets d t) {code : Nat} (items : List (Nat × Nat)) (hc : code < 65536) : c.Targets (d.post code items) t :=
  ⟨(Ctl.post_pm ..).trans h.pm, (Ctl.e_post _ _ _ _ (by decide) hc).trans h.entry, (Ctl.e_post _ _ _ _ (by decide) hc).trans h.slack⟩

theorem Ctl.targets_avsLimit {c d : Ctl} {t : Nat} (h : c.Targets d t) : c.Targets d.avsLimit t := by
  unfold Ctl.avsLimit
  split
  · exact Ctl.targets_post h _ (by decide)
  · exact h

theorem Ctl.avsOn_iff (c : Ctl) : c.avsOn = true ↔ c.e 0x120001 = 0 ∧ c.e 0x120007 = 2 := by simp [Ctl.avsOn]

/-- The slack that an update reads is shown before the target moves. -/
theorem Ctl.targets_avsUpdate (c : Ctl) {slack t : Nat} (f : PmState → PmState) {d : Ctl}
    (h : ((c.setE 0x120005 slack).setPm f).Targets d t) : d.pm = { f c.pm with target := c.targetAt t } ∧ d.e 0x120002 = d.pm.target / 2 ∧ d.e 0x120005 = slack := by
  have hsame : ((c.setE 0x120005 slack).setPm f).targetAt t = c.targetAt t := by
    unfold Ctl.targetAt
    rw [Ctl.e_setPm, Ctl.e_setPm, Ctl.e_setE, if_neg (by decide), Ctl.e_setE, if_neg (by decide)]
  obtain ⟨hpm, hentry, hslack⟩ := h
  rw [hsame] at hpm hentry
  refine ⟨hpm, ?_, hslack.trans ((Ctl.e_setPm ..).trans ((Ctl.e_setE ..).trans (if_pos rfl)))⟩
  rw [hentry, hpm]

theorem Ctl.e_on_after (c : Ctl) (slack : Nat) (f : PmState → PmState) (hon : c.avsOn = true) : ((c.setE 0x120005 slack).setPm f).e 0x120001 = 0 := by
  rw [Ctl.e_setPm, Ctl.e_setE, if_neg (by decide)]
  exact (c.avsOn_iff.1 hon).1

/-- No steps of slack above 12 counted. -/
def PmState.noSlack (p : PmState) : PmState := { p with slackHigh := 0 }

theorem Ctl.avsUpdate_short (c : Ctl) {slack : Nat} (hon : c.avsOn = true) (hcpb : c.cpbUp = true) (h : slack < 8) :
    (c.avsUpdate slack).pm = { c.pm.noSlack with target := c.targetAt (c.pm.target + 10) } ∧ (c.avsUpdate slack).e 0x120002 = (c.avsUpdate slack).pm.target / 2 ∧
      (c.avsUpdate slack).e 0x120005 = slack := by
  have hrun : c.avsUpdate slack = (((c.setE 0x120005 slack).setPm PmState.noSlack).setTarget (c.pm.target + 10)).avsLimit := by
    unfold Ctl.avsUpdate
    rw [if_neg (by simp [hon, hcpb])]
    exact if_pos h
  rw [hrun]
  exact c.targets_avsUpdate _ (Ctl.targets_avsLimit (Ctl.targets_setTarget _ _ (c.e_on_after slack _ hon)))

theorem Ctl.avsUpdate_twentieth (c : Ctl) {slack : Nat} (hon : c.avsOn = true) (hcpb : c.cpbUp = true) (h : 12 < slack) (hn : 19 ≤ c.pm.slackHigh) :
    (c.avsUpdate slack).pm = { c.pm.noSlack with target := c.targetAt (c.pm.target - 5) } ∧ (c.avsUpdate slack).e 0x120002 = (c.avsUpdate slack).pm.target / 2 ∧
      (c.avsUpdate slack).e 0x120005 = slack := by
  have hrun : c.avsUpdate slack = ((c.setE 0x120005 slack).setPm PmState.noSlack).setTarget (c.pm.target - 5) := by
    unfold Ctl.avsUpdate
    rw [if_neg (by simp [hon, hcpb])]
    refine (if_neg (by omega)).trans ((if_pos h).trans (if_pos ?_))
    show c.pm.slackHigh + 1 ≥ 20
    omega
  rw [hrun]
  exact c.targets_avsUpdate _ (Ctl.targets_setTarget _ _ (c.e_on_after slack _ hon))

theorem Ctl.avsUpdate_counts (c : Ctl) {slack : Nat} (hon : c.avsOn = true) (hcpb : c.cpbUp = true) (h : 12 < slack) (hn : c.pm.slackHigh < 19) :
    c.avsUpdate slack = (c.setE 0x120005 slack).setPm fun p => { p with slackHigh := c.pm.slackHigh + 1 } := by
  unfold Ctl.avsUpdate
  rw [if_neg (by simp [hon, hcpb])]
  refine (if_neg (by omega)).trans ((if_pos h).trans (if_neg ?_))
  show ¬ c.pm.slackHigh + 1 ≥ 20
  omega

theorem Ctl.avsUpdate_between (c : Ctl) {slack : Nat} (hon : c.avsOn = true) (hcpb : c.cpbUp = true) (hlo : 8 ≤ slack) (hhi : slack ≤ 12) :
    c.avsUpdate slack = (c.setE 0x120005 slack).setPm PmState.noSlack := by
  unfold Ctl.avsUpdate
  rw [if_neg (by simp [hon, hcpb])]
  exact (if_neg (by omega)).trans (if_neg (by omega))

/-- Hardware raises the target by 25 mV at once. -/
theorem Ctl.avsEmergency_raises (c : Ctl) {slack : Nat} (island : Nat) (hon : c.avsOn = true) (h : slack < 3) :
    (c.avsEmergency island slack).pm = { c.pm with target := c.targetAt (c.pm.target + 50) } ∧
      (c.avsEmergency island slack).e 0x120002 = (c.avsEmergency island slack).pm.target / 2 ∧ (c.avsEmergency island slack).e 0x120005 = slack := by
  have hrun : c.avsEmergency island slack = ((((c.setE 0x120005 slack).setPm id).setTarget (c.pm.target + 50)).post 0x0243 [i8 island]).avsLimit := by
    unfold Ctl.avsEmergency
    exact if_neg (by simp [hon]; omega)
  rw [hrun]
  exact c.targets_avsUpdate id (Ctl.targets_avsLimit (Ctl.targets_post (Ctl.targets_setTarget _ _ (c.e_on_after slack _ hon)) _ (by decide)))

/-! ### Telemetry (19 R526) -/

/-- What polling a rail makes of the entries of the rails. -/
structure Ctl.Polled (c d : Ctl) (r vout : Nat) (ans : Option (Nat × Nat)) : Prop where
  addr : ∀ j < 8, d.ea 0x1210 j = c.ea 0x1210 j
  volt : d.ea 0x1211 r = vout
  other : ∀ j < 8, j ≠ r → d.ea 0x1211 j = c.ea 0x1211 j ∧ d.ea 0x1212 j = c.ea 0x1212 j ∧ d.ea 0x1213 j = c.ea 0x1213 j
  taken : ∀ x y, ans = some (x, y) → c.ea 0x1210 r ≠ 0 → d.ea 0x1212 r = x ∧ d.ea 0x1213 r = y
  kept : ans = none → d.ea 0x1212 r = c.ea 0x1212 r ∧ d.ea 0x1213 r = c.ea 0x1213 r

theorem Ctl.ea_post_low (c : Ctl) (code : Nat) (items : List (Nat × Nat)) {x j : Nat} (hx : x < 0x5300) (hj : j < 8) (hc : code < 65536) :
    (c.post code items).ea x j = c.ea x j :=
  Ctl.ea_post _ _ _ _ _ (postKey_eq_false_of_lt (by unfold ekey; omega)) hc

theorem Ctl.Polled.post {c d : Ctl} {r vout : Nat} {ans : Option (Nat × Nat)} (hr : r < 8) (h : c.Polled d r vout ans) {code : Nat} (items : List (Nat × Nat))
    (hc : code < 65536) : c.Polled (d.post code items) r vout ans := by
  have hpost : ∀ x j, x < 0x5300 → j < 8 → (d.post code items).ea x j = d.ea x j := fun x j hx hj => d.ea_post_low code items hx hj hc
  refine ⟨fun j hj => (hpost _ _ (by decide) hj).trans (h.addr j hj), (hpost _ _ (by decide) hr).trans h.volt, fun j hj hne => ?_, fun x y hans hne => ?_, fun hans => ?_⟩
  · obtain ⟨h1, h2, h3⟩ := h.other j hj hne
    exact ⟨(hpost _ _ (by decide) hj).trans h1, (hpost _ _ (by decide) hj).trans h2, (hpost _ _ (by decide) hj).trans h3⟩
  · obtain ⟨h2, h3⟩ := h.taken x y hans hne
    exact ⟨(hpost _ _ (by decide) hr).trans h2, (hpost _ _ (by decide) hr).trans h3⟩
  · obtain ⟨h2, h3⟩ := h.kept hans
    exact ⟨(hpost _ _ (by decide) hr).trans h2, (hpost _ _ (by decide) hr).trans h3⟩

theorem Ctl.polled_railPoll (c : Ctl) {r : Nat} (vout : Nat) (ans : Option (Nat × Nat)) (hr : r < 8) : c.Polled (c.railPoll r vout ans) r vout ans := by
  have hvolt : ∀ (d : Ctl), (∀ x j, d.ea x j = (c.setEa 0x1211 r vout).ea x j) → (ans = none ∨ c.ea 0x1210 r = 0) → c.Polled d r vout ans := fun d hd hans => by
    refine ⟨fun j hj => (hd _ _).trans (c.ea_setEa_ne hr hj (.inl (by decide))), (hd _ _).trans (c.ea_setEa_same ..), fun j hj hne => ?_, fun x y hsome hne => ?_, fun _ => ?_⟩
    · exact ⟨(hd _ _).trans (c.ea_setEa_ne hr hj (.inr (Ne.symm hne))), (hd _ _).trans (c.ea_setEa_ne hr hj (.inl (by decide))),
        (hd _ _).trans (c.ea_setEa_ne hr hj (.inl (by decide)))⟩
    · rcases hans with hnone | hzero
      · rw [hnone] at hsome
        exact absurd hsome (by simp)
      · exact absurd hzero hne
    · exact ⟨(hd _ _).trans (c.ea_setEa_ne hr hr (.inl (by decide))), (hd _ _).trans (c.ea_setEa_ne hr hr (.inl (by decide)))⟩
  unfold Ctl.railPoll
  extract_lets d n e f
  have hd : ∀ x j, d.ea x j = (c.setEa 0x1211 r vout).ea x j := fun x j => rfl
  have haddr : d.ea 0x1210 r = c.ea 0x1210 r := (hd _ _).trans (c.ea_setEa_ne hr hr (.inl (by decide)))
  clear_value d
  by_cases hzero : d.ea 0x1210 r = 0
  · rw [if_pos hzero]
    exact hvolt d hd (.inr (haddr ▸ hzero))
  · rw [if_neg hzero]
    rcases ans with - | ⟨iout, st⟩
    · have he : ∀ x j, e.ea x j = (c.setEa 0x1211 r vout).ea x j := hd
      clear_value e
      dsimp only
      split
      · exact Ctl.Polled.post hr (hvolt (e.setPm _) he (.inl rfl)) _ (by decide)
      · exact hvolt e he (.inl rfl)
    · dsimp only
      have hf : ∀ x j, f.ea x j = (c.setEa 0x1211 r vout).ea x j := hd
      clear_value f
      have hset : ∀ x j, j < 8 → x ≠ 0x1212 ∧ x ≠ 0x1213 ∨ j ≠ r → ((f.setEa 0x1212 r iout).setEa 0x1213 r st).ea x j = f.ea x j := fun x j hj h =>
        (Ctl.ea_setEa_ne _ hr hj (h.imp (fun h => Ne.symm h.2) Ne.symm)).trans (f.ea_setEa_ne hr hj (h.imp (fun h => Ne.symm h.1) Ne.symm))
      have hg : c.Polled ((f.setEa 0x1212 r iout).setEa 0x1213 r st) r vout (some (iout, st)) := by
        refine ⟨fun j hj => ?_, ?_, fun j hj hne => ?_, fun x y hans _ => ?_, fun hans => absurd hans (by simp)⟩
        · rw [hset _ _ hj (.inl (by decide)), hf]
          exact c.ea_setEa_ne hr hj (.inl (by decide))
        · rw [hset _ _ hr (.inl (by decide)), hf]
          exact c.ea_setEa_same ..
        · rw [hset _ _ hj (.inr hne), hset _ _ hj (.inr hne), hset _ _ hj (.inr hne), hf, hf, hf]
          exact ⟨c.ea_setEa_ne hr hj (.inr (Ne.symm hne)), c.ea_setEa_ne hr hj (.inl (by decide)), c.ea_setEa_ne hr hj (.inl (by decide))⟩
        · obtain ⟨rfl, rfl⟩ : iout = x ∧ st = y := by simpa using hans
          exact ⟨(Ctl.ea_setEa_ne _ hr hr (.inl (by decide))).trans (f.ea_setEa_same ..), Ctl.ea_setEa_same ..⟩
      split
      · exact Ctl.Polled.post hr hg _ (by decide)
      · exact hg

/-- Rails polled in turn each show their monitor. -/
theorem Ctl.ea_railPolls (c : Ctl) (ans : Nat → Nat × Option (Nat × Nat)) {n : Nat} (hn : n ≤ 8) {r : Nat} (hr : r < n) :
    ((List.range n).foldl (fun c r => c.railPoll r (ans r).1 (ans r).2) c).ea 0x1211 r = (ans r).1 := by
  induction n with
  | zero => exact absurd hr (Nat.not_lt_zero r)
  | succ n ih =>
    rw [List.range_succ, List.foldl_append, List.foldl_cons, List.foldl_nil]
    have hpoll := Ctl.polled_railPoll ((List.range n).foldl (fun c r => c.railPoll r (ans r).1 (ans r).2) c) (ans n).1 (ans n).2 (show n < 8 by omega)
    by_cases hrn : r = n
    · rw [hrn]
      exact hpoll.volt
    · exact (hpoll.other r (by omega) hrn).1.trans (ih (by omega) (by omega))

/-- POWER_TOTAL of the rails as they stand. -/
def Ctl.railSum (c : Ctl) : Nat := (List.range 8).foldl (fun a r => if c.ea 0x1210 r = 0 then a else a + c.ea 0x1211 r * c.ea 0x1212 r / 1000) 0

theorem Ctl.powerTotal_shows (c : Ctl) : c.powerTotal.e 0x120006 = c.powerTotal.railSum ∧ ∀ r < 8, c.powerTotal.ea 0x1211 r = c.ea 0x1211 r := by
  have hrail : ∀ x j, 0x1210 ≤ x → c.powerTotal.ea x j = c.ea x j := fun x j hx => by
    unfold Ctl.powerTotal
    exact (Ctl.e_setE ..).trans (if_neg (by unfold ekey; omega))
  have hsum : c.powerTotal.railSum = c.railSum := by
    unfold Ctl.railSum
    exact List.foldl_ext _ _ _ fun a r _ => by rw [hrail _ r (by decide), hrail _ r (by decide), hrail _ r (by decide)]
  rw [hsum]
  exact ⟨(Ctl.e_setE ..).trans (if_pos rfl), fun r _ => hrail _ r (by decide)⟩

/-- One regulator of PMB_ALERT. -/
def Ctl.alertStep (status : List (Option Nat)) (c : Ctl) (r : Nat) : Ctl :=
  if c.ea 0x1210 r = 0 then c else
  match status.getD r none with
  | none => c.railPoll r (c.ea 0x1211 r) none
  | some st => c.railPoll r (c.ea 0x1211 r) (some (c.ea 0x1212 r, st))

/-- A regulator that is read again keeps its addresses, voltages and currents; its STATUS_WORD is taken. -/
theorem Ctl.alertStep_shows (c : Ctl) (status : List (Option Nat)) {r : Nat} (hr : r < 8) :
    (∀ j < 8, (c.alertStep status r).ea 0x1210 j = c.ea 0x1210 j ∧ (c.alertStep status r).ea 0x1211 j = c.ea 0x1211 j ∧
      (c.alertStep status r).ea 0x1212 j = c.ea 0x1212 j) ∧ (∀ j < 8, j ≠ r → (c.alertStep status r).ea 0x1213 j = c.ea 0x1213 j) ∧
    ∀ st, status.getD r none = some st → c.ea 0x1210 r ≠ 0 → (c.alertStep status r).ea 0x1213 r = st := by
  have hsame : ∀ (d : Ctl) (ans : Option (Nat × Nat)), c.Polled d r (c.ea 0x1211 r) ans → d.ea 0x1212 r = c.ea 0x1212 r →
      (∀ j < 8, d.ea 0x1210 j = c.ea 0x1210 j ∧ d.ea 0x1211 j = c.ea 0x1211 j ∧ d.ea 0x1212 j = c.ea 0x1212 j) ∧
      (∀ j < 8, j ≠ r → d.ea 0x1213 j = c.ea 0x1213 j) := fun d ans h hcur => by
    refine ⟨fun j hj => ?_, fun j hj hne => (h.other j hj hne).2.2⟩
    by_cases hjr : j = r
    · rw [hjr]
      exact ⟨h.addr r hr, h.volt, hcur⟩
    · obtain ⟨h1, h2, -⟩ := h.other j hj hjr
      exact ⟨h.addr j hj, h1, h2⟩
  unfold Ctl.alertStep
  by_cases hzero : c.ea 0x1210 r = 0
  · rw [if_pos hzero]
    exact ⟨fun _ _ => ⟨rfl, rfl, rfl⟩, fun _ _ _ => rfl, fun _ _ hne => absurd hzero hne⟩
  · rw [if_neg hzero]
    rcases hst : status.getD r none with - | st
    · have hpoll := c.polled_railPoll (c.ea 0x1211 r) none hr
      obtain ⟨h1, h2⟩ := hsame _ _ hpoll (hpoll.kept rfl).1
      exact ⟨h1, h2, fun _ h => absurd h (by simp)⟩
    · have hpoll := c.polled_railPoll (c.ea 0x1211 r) (some (c.ea 0x1212 r, st)) hr
      obtain ⟨hcur, hword⟩ := hpoll.taken _ _ rfl hzero
      obtain ⟨h1, h2⟩ := hsame _ _ hpoll hcur
      exact ⟨h1, h2, fun x h _ => hword.trans (by simpa using h)⟩

theorem Ctl.alertSteps_show (c : Ctl) (status : List (Option Nat)) {n : Nat} (hn : n ≤ 8) :
    (∀ j < 8, ((List.range n).foldl (Ctl.alertStep status) c).ea 0x1210 j = c.ea 0x1210 j ∧ ((List.range n).foldl (Ctl.alertStep status) c).ea 0x1211 j = c.ea 0x1211 j ∧
      ((List.range n).foldl (Ctl.alertStep status) c).ea 0x1212 j = c.ea 0x1212 j) ∧
    ∀ r < n, ∀ st, status.getD r none = some st → c.ea 0x1210 r ≠ 0 → ((List.range n).foldl (Ctl.alertStep status) c).ea 0x1213 r = st := by
  induction n with
  | zero => exact ⟨fun _ _ => ⟨rfl, rfl, rfl⟩, fun r hr => absurd hr (Nat.not_lt_zero r)⟩
  | succ n ih =>
    obtain ⟨hsame, htaken⟩ := ih (by omega)
    rw [List.range_succ, List.foldl_append, List.foldl_cons, List.foldl_nil]
    generalize (List.range n).foldl (Ctl.alertStep status) c = d at *
    obtain ⟨h1, h2, h3⟩ := d.alertStep_shows status (show n < 8 by omega)
    refine ⟨fun j hj => ?_, fun r hr st hst hne => ?_⟩
    · obtain ⟨ha, hv, hi⟩ := h1 j hj
      obtain ⟨ha', hv', hi'⟩ := hsame j hj
      exact ⟨ha.trans ha', hv.trans hv', hi.trans hi'⟩
    · by_cases hrn : r = n
      · rw [hrn] at hst hne ⊢
        exact h3 st hst ((hsame n (by omega)).1 ▸ hne)
      · exact (h2 r (by omega) hrn).trans (htaken r (by omega) st hst hne)

theorem Ctl.pmbAlert_eq (c : Ctl) {status : List (Option Nat)} (h : status.length = 8) : c.pmbAlert status = (List.range 8).foldl (Ctl.alertStep status) c := by
  unfold Ctl.pmbAlert
  exact if_neg (by simp [h])

/-! ### The commands -/

theorem exec_avsUpdate (dt slack : Nat) (s : State) : exec (.avsUpdate dt slack) s = runC (fun c => (c.advance dt).avsUpdate slack) s := rfl
theorem exec_avsEmergency (dt island slack : Nat) (s : State) : exec (.avsEmergency dt island slack) s = runC (fun c => (c.advance dt).avsEmergency island slack) s := rfl
theorem exec_pmbusPoll (dt : Nat) (answers : List (Nat × Option (Nat × Nat))) (s : State) :
    exec (.pmbusPoll dt answers) s = runC (fun c => (c.advance dt).pmbusPoll answers) s := rfl
theorem exec_pmbAlert (dt : Nat) (status : List (Option Nat)) (s : State) : exec (.pmbAlert dt status) s = runC (fun c => (c.advance dt).pmbAlert status) s := rfl

end Sys2Proof.Machine

open Sys2Proof Sys2Proof.Machine

/-- Settles O17: a step of AVS moves the target alone (`Ctl.Targets`), and a rail that is polled its own entries alone (`Ctl.Polled`). -/
theorem avsAndTelemetry : Obligations.AvsAndTelemetry := by
  unfold Obligations.AvsAndTelemetry
  refine ⟨fun dt slack s hon hcpb hshort => ?_, fun dt slack s hon hcpb hlong hn => ?_, fun dt slack s hon hcpb hlong hn => ?_, fun dt slack s hon hcpb hlo hhi => ?_,
    fun dt island slack s hon hshort => ?_, fun dt answers s hlen => ?_, fun dt status r x s hlen hr hx haddr => ?_⟩
  · refine leaves_of_exec_eq_runC (exec_avsUpdate ..) ?_
    obtain ⟨hpm, hentry, hslack⟩ := (s.ctl.advance dt).avsUpdate_short hon hcpb hshort
    exact ⟨congrArg PmState.target hpm, hentry, hslack, congrArg PmState.slackHigh hpm⟩
  · refine leaves_of_exec_eq_runC (exec_avsUpdate ..) ?_
    obtain ⟨hpm, hentry, hslack⟩ := (s.ctl.advance dt).avsUpdate_twentieth hon hcpb hlong hn
    exact ⟨congrArg PmState.target hpm, hentry, hslack, congrArg PmState.slackHigh hpm⟩
  · refine leaves_of_exec_eq_runC (exec_avsUpdate ..) ?_
    rw [(s.ctl.advance dt).avsUpdate_counts hon hcpb hlong hn]
    exact ⟨rfl, (Ctl.e_setPm ..).trans ((Ctl.e_setE ..).trans (if_pos rfl)), rfl⟩
  · refine leaves_of_exec_eq_runC (exec_avsUpdate ..) ?_
    rw [(s.ctl.advance dt).avsUpdate_between hon hcpb hlo hhi]
    exact ⟨rfl, (Ctl.e_setPm ..).trans ((Ctl.e_setE ..).trans (if_pos rfl)), rfl⟩
  · refine leaves_of_exec_eq_runC (exec_avsEmergency ..) ?_
    obtain ⟨hpm, hentry, hslack⟩ := (s.ctl.advance dt).avsEmergency_raises island hon hshort
    exact ⟨congrArg PmState.target hpm, hentry, hslack⟩
  · refine leaves_of_exec_eq_runC (exec_pmbusPoll ..) ?_
    unfold Ctl.pmbusPoll
    rw [if_neg (by simp [hlen])]
    obtain ⟨hsum, hvolt⟩ := Ctl.powerTotal_shows
      ((List.range 8).foldl (fun c r => c.railPoll r (answers.getD r (0, none)).1 (answers.getD r (0, none)).2) (s.ctl.advance dt))
    exact ⟨hsum, fun r hr => (hvolt r hr).trans ((s.ctl.advance dt).ea_railPolls (fun r => answers.getD r (0, none)) (Nat.le_refl 8) hr)⟩
  · refine leaves_of_exec_eq_runC (exec_pmbAlert ..) ?_
    rw [(s.ctl.advance dt).pmbAlert_eq hlen]
    obtain ⟨hsame, htaken⟩ := (s.ctl.advance dt).alertSteps_show status (Nat.le_refl 8)
    obtain ⟨-, hvolt, hcur⟩ := hsame r hr
    exact ⟨htaken r hr x hx haddr, hvolt, hcur⟩

end

section
/-! PROOFS. Clocks, references and calibration (19 R523, R527, R537 to R541). -/
namespace Sys2Proof.Machine

/-! ### The instances of an item -/

/-- Found among instances that are changed, each in its place. -/
theorem find?_map_of_keeps {α : Type} (p : α → Bool) (f : α → α) (l : List α) (h : ∀ x, p (f x) = p x) : (l.map f).find? p = (l.find? p).map f := by
  rw [List.find?_map]
  congr 1
  exact congrArg (fun q => l.find? q) (funext h)

theorem Ctl.calInst_updCal (c : Ctl) (item idx : Nat) (f : CalInst → CalInst) (hf : ∀ x, (f x).item = x.item ∧ (f x).idx = x.idx) :
    (c.updCal item idx f).calInst item idx = (c.calInst item idx).map f := by
  have hkeeps : ∀ x : CalInst, (fun y : CalInst => decide (y.item = item) && decide (y.idx = idx)) (if x.item = item && x.idx = idx then f x else x) =
      (fun y : CalInst => decide (y.item = item) && decide (y.idx = idx)) x := fun x => by
    by_cases h : (decide (x.item = item) && decide (x.idx = idx)) = true
    · rw [if_pos h]
      simp only [hf]
    · rw [if_neg h]
  show (c.pm.cal.map _).find? _ = _
  refine (find?_map_of_keeps _ _ _ hkeeps).trans ?_
  show (c.calInst item idx).map _ = _
  rcases hfound : c.calInst item idx with - | x
  · rfl
  · have hx : (decide (x.item = item) && decide (x.idx = idx)) = true := by
      unfold Ctl.calInst at hfound
      exact (List.find?_some hfound :)
    exact congrArg some (if_pos hx)

theorem Ctl.calInst_congr {c d : Ctl} (h : d.pm.cal = c.pm.cal) (item idx : Nat) : d.calInst item idx = c.calInst item idx := by
  unfold Ctl.calInst
  rw [h]

/-- The instances, and the items that CAL_NOW asks for. -/
def Ctl.calView (c : Ctl) : List CalInst × List Nat := (c.pm.cal, c.pm.calNow)

theorem Ctl.calView_post (c : Ctl) (code : Nat) (items : List (Nat × Nat)) : (c.post code items).calView = c.calView := congrArg (fun p : PmState => (p.cal, p.calNow)) (Ctl.post_pm ..)

theorem Ctl.calView_showSites (c : Ctl) : c.showSites.calView = c.calView := congrArg (fun p : PmState => (p.cal, p.calNow)) c.pm_showSites

theorem Ctl.calView_showQuality (c : Ctl) (item : Nat) : (c.showQuality item).calView = c.calView := by
  unfold Ctl.showQuality
  extract_lets l q d
  have hd : d.calView = c.calView := rfl
  clear_value d
  split
  · exact (Ctl.calView_post ..).trans hd
  · split
    · exact hd
    · exact hd

theorem Ctl.pm_showCal (c : Ctl) : c.showCal.pm = c.pm := by
  unfold Ctl.showCal
  split <;> rfl

theorem Ctl.calView_showCal (c : Ctl) : c.showCal.calView = c.calView := congrArg (fun p : PmState => (p.cal, p.calNow)) c.pm_showCal

/-! ### A block that starts (19 R539) -/

/-- What a block becomes that starts. -/
def CalInst.begun (x : CalInst) : CalInst := if x.running then x else { x with running := true, waiting := false }

theorem CalInst.begun_running (x : CalInst) : x.begun.running = true := by
  unfold CalInst.begun
  split
  next h => exact h
  next => rfl

theorem CalInst.begun_item (x : CalInst) : x.begun.item = x.item ∧ x.begun.idx = x.idx := by
  unfold CalInst.begun
  split <;> exact ⟨rfl, rfl⟩

/-- What calibration leaves: the entries of the references and of the control pairs. -/
theorem Ctl.e_calBegin (c : Ctl) (item idx : Nat) (free : Bool) {k : Nat} (hk : k < 0x200000) (hsite : k / 256 < 0x1310 ∨ 0x1312 < k / 256) (hcal : k ≠ 0x140001) :
    (c.calBegin item idx free).e k = c.e k := by
  unfold Ctl.calBegin
  split
  · rfl
  · extract_lets go d e f
    have hd : d.e k = c.e k := rfl
    clear_value d
    have he : e.e k = d.e k := by
      unfold e
      split
      · exact (Ctl.e_showSites _ hsite).trans (d.e_setPm ..)
      · rfl
    clear_value e
    have hf : f.e k = e.e k := by
      unfold f
      split
      · exact (Ctl.e_setE ..).trans (if_neg (by unfold ekey; omega))
      · rfl
    clear_value f
    exact (f.e_showCal hcal).trans (hf.trans (he.trans hd))

/-- A block that may start does. -/
theorem Ctl.calView_calBegin (c : Ctl) {item idx : Nat} (hmay : c.calMayStart item idx true = true) (hcpb : c.cpbUp = true) (href : c.e 0x140002 ≠ 1 ∨ calFallback item = true) :
    (c.calBegin item idx true).calView = (c.updCal item idx CalInst.begun).calView := by
  unfold Ctl.calBegin
  rw [if_neg (by
    rintro (⟨hone, hnot⟩ | hdown)
    · rcases href with href | href
      · exact href hone
      · rw [href] at hnot
        exact absurd hnot (by decide)
    · rw [hcpb] at hdown
      exact absurd hdown (by decide))]
  extract_lets go d e f
  have hgo : go = true := hmay
  have hd : d = c.updCal item idx CalInst.begun := by
    unfold d
    rw [hgo]
    rfl
  have he : e.calView = d.calView := by
    unfold e
    split
    · exact (Ctl.calView_showSites _).trans rfl
    · rfl
  clear_value e
  have hf : f.calView = e.calView := by
    unfold f
    split <;> rfl
  clear_value f
  rw [Ctl.calView_showCal, hf, he, hd]

theorem Ctl.calMayStart_iff (c : Ctl) (item idx : Nat) : c.calMayStart item idx true = true ↔
    c.calLaneFree item idx = true ∧ c.pm.cal.any (fun x => x.item = item && x.running) = false ∧ (c.e 0x140002 ≠ 1 ∨ calFallback item = true) := by
  simp [Ctl.calMayStart, and_assoc]

/-- RECAL_TRIGGER starts a block that is due and may start. -/
theorem Ctl.recalTrigger_starts (c : Ctl) {item idx : Nat} {x : CalInst} (hx : c.calInst item idx = some x) (hdue : c.calDue x = true) (hcpb : c.cpbUp = true)
    (hmay : c.calMayStart item idx true = true) (href : c.e 0x140002 ≠ 1 ∨ calFallback item = true) :
    ((c.recalTrigger item idx true).calInst item idx).map CalInst.running = some true := by
  unfold Ctl.recalTrigger
  rw [hx]
  dsimp only
  rw [if_pos (by simp [hdue, hcpb])]
  have hview := c.calView_calBegin hmay hcpb href
  rw [Ctl.calInst_congr (congrArg Prod.fst hview), Ctl.calInst_updCal _ _ _ _ CalInst.begun_item, hx]
  exact congrArg some x.begun_running

/-! ### CAL_NOW (19 R539) -/

/-- A block of an item that CAL_NOW asks for is to run. -/
def CalInst.asked (item : Nat) (x : CalInst) : CalInst := if x.item = item && !x.running then { x with waiting := true } else x

/-- The part with an item that CAL_NOW asks for. -/
def Ctl.calAsked (c : Ctl) (item : Nat) : Ctl := c.setPm fun p => { p with calNow := insertRising p.calNow item, cal := p.cal.map (CalInst.asked item) }

theorem Ctl.calNowItem_asked (c : Ctl) {item : Nat} (hcpb : c.cpbUp = true) (href : c.e 0x140002 ≠ 1 ∨ calFallback item = true) :
    c.calNowItem item = (c.calAsked item).calNext item := by
  unfold Ctl.calNowItem
  refine if_neg ?_
  rintro (⟨hone, hnot⟩ | hdown)
  · rcases href with href | href
    · exact href hone
    · rw [href] at hnot
      exact absurd hnot (by decide)
  · rw [hcpb] at hdown
    exact absurd hdown (by decide)

theorem CalInst.asked_keeps (item : Nat) (x : CalInst) : (x.asked item).item = x.item ∧ (x.asked item).idx = x.idx ∧ (x.asked item).running = x.running := by
  unfold CalInst.asked
  split <;> exact ⟨rfl, rfl, rfl⟩

theorem CalInst.asked_waiting {item : Nat} {x : CalInst} (hitem : x.item = item) (hrun : x.running = false) : (x.asked item).waiting = true := by
  unfold CalInst.asked
  rw [if_pos (by simp [hitem, hrun])]

/-- The first block of an item that waits and may start does; the items that are asked for stand. -/
theorem Ctl.calNow_calNext (c : Ctl) (item : Nat) : (c.calNext item).pm.calNow = c.pm.calNow := by
  have hbegin : ∀ idx free, (c.calBegin item idx free).pm.calNow = c.pm.calNow := fun idx free => by
    unfold Ctl.calBegin
    split
    · rfl
    · extract_lets go d e f
      have he : e.pm.calNow = c.pm.calNow := by
        unfold e
        split
        · rw [Ctl.pm_showSites]
          rfl
        · rfl
      have hf : f.pm.calNow = e.pm.calNow := by
        unfold f
        split <;> rfl
      clear_value f e
      rw [Ctl.pm_showCal, hf, he]
  unfold Ctl.calNext
  split
  · exact hbegin _ _
  · rfl

theorem Ctl.e_calNext (c : Ctl) (item : Nat) {k : Nat} (hk : k < 0x200000) (hsite : k / 256 < 0x1310 ∨ 0x1312 < k / 256) (hcal : k ≠ 0x140001) : (c.calNext item).e k = c.e k := by
  unfold Ctl.calNext
  split
  · exact c.e_calBegin _ _ _ hk hsite hcal
  · rfl

/-- Of an item none of whose instances runs, one that has a free lane starts. -/
theorem Ctl.calNowItem_starts (c : Ctl) {item : Nat} (hcpb : c.cpbUp = true) (href : c.e 0x140002 ≠ 1 ∨ calFallback item = true)
    (hnone : c.pm.cal.any (fun y => y.item = item && y.running) = false) (hfree : c.pm.cal.any (fun y => y.item = item && c.calLaneFree item y.idx) = true) :
    (c.calNowItem item).pm.cal.any (fun y => y.item = item && y.running) = true := by
  rw [c.calNowItem_asked hcpb href]
  have hlane : ∀ idx, (c.calAsked item).calLaneFree item idx = c.calLaneFree item idx := fun _ => rfl
  have hcal : (c.calAsked item).pm.cal = c.pm.cal.map (CalInst.asked item) := rfl
  have hquiet : (c.calAsked item).pm.cal.any (fun y => y.item = item && y.running) = false := by
    rw [hcal, List.any_map]
    refine (congrArg (fun q => c.pm.cal.any q) (funext fun y => ?_)).trans hnone
    obtain ⟨hitem, -, hrun⟩ := y.asked_keeps item
    simp only [Function.comp_apply, hitem, hrun]
  have hcpb' : (c.calAsked item).cpbUp = true := hcpb
  have href' : (c.calAsked item).e 0x140002 ≠ 1 ∨ calFallback item = true := href
  have hsome : ∃ y ∈ (c.calAsked item).pm.cal, (y.item = item && y.waiting && (c.calAsked item).calLaneFree item y.idx) = true := by
    obtain ⟨y, hy, hfit⟩ := List.any_eq_true.1 hfree
    obtain ⟨hitem, hidx⟩ := (Bool.and_eq_true _ _).mp hfit
    have hitem' : y.item = item := of_decide_eq_true hitem
    have hrun : y.running = false := by
      have := List.any_eq_false.1 hnone y hy
      simpa [hitem'] using this
    obtain ⟨hkitem, hkidx, -⟩ := y.asked_keeps item
    refine ⟨y.asked item, by rw [hcal]; exact List.mem_map_of_mem hy, ?_⟩
    rw [hkitem, hkidx, CalInst.asked_waiting hitem' hrun, hlane, hidx, decide_eq_true hitem']
    rfl
  generalize c.calAsked item = d at *
  rcases hfound : d.pm.cal.find? (fun x => x.item = item && x.waiting && d.calLaneFree item x.idx) with - | x
  · obtain ⟨y, hy, hfit⟩ := hsome
    exact absurd hfit (by simpa using List.find?_eq_none.1 hfound y hy)
  · have hx := List.find?_some hfound
    have hmem := List.mem_of_find?_eq_some hfound
    simp only [Bool.and_eq_true, decide_eq_true_eq] at hx
    obtain ⟨⟨hitem, -⟩, hlane'⟩ := hx
    have hview := d.calView_calBegin ((d.calMayStart_iff item x.idx).2 ⟨hlane', hquiet, href'⟩) hcpb' href'
    have hcal' : (d.calBegin item x.idx true).pm.cal = d.pm.cal.map (fun y => if y.item = item && y.idx = x.idx then y.begun else y) := congrArg Prod.fst hview
    have hnext : d.calNext item = d.calBegin item x.idx true := by
      unfold Ctl.calNext
      rw [hfound]
    rw [hnext, hcal', List.any_map, List.any_eq_true]
    refine ⟨x, hmem, ?_⟩
    simp only [Function.comp_apply]
    rw [if_pos (by simp [hitem]), x.begun_running, x.begun_item.1, decide_eq_true hitem]
    rfl

theorem Ctl.calNow_calNowItem (c : Ctl) {item : Nat} (hcpb : c.cpbUp = true) (href : c.e 0x140002 ≠ 1 ∨ calFallback item = true) :
    (c.calNowItem item).pm.calNow = insertRising c.pm.calNow item := by
  rw [c.calNowItem_asked hcpb href, Ctl.calNow_calNext]
  rfl

theorem Ctl.cpbUp_iff (c : Ctl) : c.cpbUp = true ↔ c.e 0x158002 = 0 := by
  unfold Ctl.cpbUp
  exact decide_eq_true_iff

/-- CAL_NOW of every item asks for each. -/
theorem Ctl.calNow_all (c : Ctl) (hcpb : c.cpbUp = true) (href : c.e 0x140002 ≠ 1) (n : Nat) :
    (∀ item, 1 ≤ item → item ≤ n → item ∈ ((List.range n).foldl (fun c k => c.calNowItem (k + 1)) c).pm.calNow) ∧
      ((List.range n).foldl (fun c k => c.calNowItem (k + 1)) c).cpbUp = true ∧ ((List.range n).foldl (fun c k => c.calNowItem (k + 1)) c).e 0x140002 ≠ 1 := by
  induction n with
  | zero => exact ⟨fun item h1 h2 => absurd h1 (by omega), hcpb, href⟩
  | succ n ih =>
    rw [List.range_succ, List.foldl_append, List.foldl_cons, List.foldl_nil]
    generalize (List.range n).foldl (fun c k => c.calNowItem (k + 1)) c = d at ih ⊢
    obtain ⟨hmem, hcpb', href'⟩ := ih
    refine ⟨fun item h1 h2 => ?_, ?_, ?_⟩
    · rw [d.calNow_calNowItem hcpb' (.inl href'), mem_insertRising_iff]
      by_cases heq : item = n + 1
      · exact .inl heq
      · exact .inr (hmem item h1 (by omega))
    · rw [Ctl.cpbUp_iff, d.calNowItem_asked hcpb' (.inl href'), Ctl.e_calNext _ _ (by decide) (.inr (by decide)) (by decide)]
      exact d.cpbUp_iff.1 hcpb'
    · rw [d.calNowItem_asked hcpb' (.inl href'), Ctl.e_calNext _ _ (by decide) (.inr (by decide)) (by decide)]
      exact href'

/-! ### CAL_INSTANCE_DONE (19 R541) -/

/-- What a result makes of a block. -/
def CalInst.result (up : Nat) (tmax : Int) (ok : Bool) (q residual : Nat) (codes : List Int) (x : CalInst) : CalInst :=
  { x with running := false, quality := q, residual := if ok then residual else x.residual, codes := if ok then codes else x.codes, at_ := up, tmax := tmax }

/-- What CAL_INSTANCE_DONE does with a block that runs. -/
def Ctl.calResult (c : Ctl) (item idx residual : Nat) (codes : List Int) : Ctl :=
  let ok := calFits item codes
  let q := if !ok then 0 else if c.e 0x140002 = 1 then 1 else 3
  let c := c.updCal item idx (CalInst.result c.up c.pm.tmax ok q residual codes)
  let c := if item = 1 then (c.setPm (fun p => { p with sites := updAt p.sites idx Site.unhold })).showSites else c
  let c := if ok then c else ((c.incEa 0x1412 (item - 1)).setReg .clItem (item - 1) 4 1).post 0x0481 [i8 item, i8 idx]
  let c := c.showQuality item
  let c := c.calNext item
  let allDone := c.pm.calNow.contains item && !(c.pm.cal.any (fun x => x.item = item && (x.running || x.waiting)))
  let c := if allDone then (c.setPm (fun p => { p with calNow := p.calNow.filter (· ≠ item) })).post 0x0401 [i8 item] else c
  c.showCal

theorem Ctl.calDone_of_running (c : Ctl) {item idx : Nat} (residual : Nat) (codes : List Int) {x : CalInst} (hcpb : c.cpbUp = true)
    (hx : c.calInst item idx = some x) (hrun : x.running = true) : c.calDone item idx residual codes = c.calResult item idx residual codes := by
  unfold Ctl.calDone
  rw [hx]
  exact if_neg (by simp [hrun, hcpb])

/-- A result is taken; no other block starts where none waits. A result that does not fit counts. -/
theorem Ctl.calDone_shows (c : Ctl) {item idx residual : Nat} {codes : List Int} {x : CalInst} (hcpb : c.cpbUp = true) (hlo : 1 ≤ item) (hhi : item ≤ 8)
    (hx : c.calInst item idx = some x) (hrun : x.running = true) (hwait : c.pm.cal.any (fun y => y.item = item && y.waiting) = false) :
    (c.calDone item idx residual codes).calInst item idx = some (x.result c.up c.pm.tmax (calFits item codes)
      (if !calFits item codes then 0 else if c.e 0x140002 = 1 then 1 else 3) residual codes) ∧
    (calFits item codes = false → (c.calDone item idx residual codes).ea 0x1412 (item - 1) = satAdd (entWidth (ekey 0x1412 item)) (c.ea 0x1412 (item - 1)) 1) := by
  rw [c.calDone_of_running residual codes hcpb hx hrun]
  unfold Ctl.calResult
  extract_lets ok q d e f g k allDone l
  have hkey : postKey (ekey 0x1412 (item - 1 + 1)) = false := postKey_eq_false_of_lt (by unfold ekey; omega)
  have hd : d.calView = (c.updCal item idx (CalInst.result c.up c.pm.tmax ok q residual codes)).calView := rfl
  have hdinst : d.calInst item idx = some (x.result c.up c.pm.tmax ok q residual codes) := by
    rw [Ctl.calInst_congr (congrArg Prod.fst hd), Ctl.calInst_updCal _ _ _ (CalInst.result _ _ _ _ _ _) fun _ => ⟨rfl, rfl⟩, hx]
    rfl
  have hdwait : d.pm.cal.any (fun y => y.item = item && y.waiting) = false := by
    have hcal : d.pm.cal = c.pm.cal.map (fun y => if y.item = item && y.idx = idx then y.result c.up c.pm.tmax ok q residual codes else y) := congrArg Prod.fst hd
    rw [hcal, List.any_map]
    refine (congrArg (fun q => c.pm.cal.any q) (funext fun y => ?_)).trans hwait
    simp only [Function.comp_apply]
    split <;> rfl
  have hdcount : d.ea 0x1412 (item - 1) = c.ea 0x1412 (item - 1) := rfl
  clear_value d
  have he : e.calView = d.calView ∧ e.ea 0x1412 (item - 1) = d.ea 0x1412 (item - 1) := by
    unfold e
    split
    · exact ⟨(Ctl.calView_showSites _).trans rfl, (Ctl.e_showSites _ (.inr (by unfold ekey; omega))).trans rfl⟩
    · exact ⟨rfl, rfl⟩
  obtain ⟨heview, hecount⟩ := he
  clear_value e
  have hf : f.calView = e.calView ∧ (calFits item codes = false → f.ea 0x1412 (item - 1) = satAdd (entWidth (ekey 0x1412 item)) (e.ea 0x1412 (item - 1)) 1) := by
    unfold f
    by_cases hfit : calFits item codes = true
    · rw [if_pos hfit]
      exact ⟨rfl, fun h => absurd (hfit.symm.trans h) (by decide)⟩
    · rw [if_neg hfit]
      refine ⟨(Ctl.calView_post ..).trans rfl, fun _ => ?_⟩
      have hcount := e.ea_incEa 0x1412 (item - 1)
      rw [show item - 1 + 1 = item by omega] at hcount
      exact (Ctl.ea_post _ _ _ _ _ hkey (by decide)).trans hcount
  obtain ⟨hfview, hfcount⟩ := hf
  clear_value f
  have hg : g.calView = f.calView ∧ g.ea 0x1412 (item - 1) = f.ea 0x1412 (item - 1) :=
    ⟨f.calView_showQuality item, f.e_showQuality (by omega) (by unfold ekey; omega) hkey⟩
  obtain ⟨hgview, hgcount⟩ := hg
  clear_value g
  have hview : g.calView = d.calView := hgview.trans (hfview.trans heview)
  have hk : k = g := by
    unfold k Ctl.calNext
    have hnone : g.pm.cal.find? (fun x => x.item = item && x.waiting && g.calLaneFree item x.idx) = none := by
      rw [show g.pm.cal = d.pm.cal from congrArg Prod.fst hview, List.find?_eq_none]
      intro y hy
      have := List.any_eq_false.1 hdwait y hy
      simp only [Bool.and_eq_true, not_and, Bool.not_eq_true] at this ⊢
      intro hboth
      exact absurd hboth.2 (by simp [this hboth.1])
    rw [hnone]
  have hl : l.pm.cal = k.pm.cal ∧ l.ea 0x1412 (item - 1) = k.ea 0x1412 (item - 1) := by
    unfold l
    split
    · exact ⟨by rw [Ctl.post_pm]; rfl, (Ctl.ea_post _ _ _ _ _ hkey (by decide)).trans rfl⟩
    · exact ⟨rfl, rfl⟩
  obtain ⟨hlcal, hlcount⟩ := hl
  clear_value l
  refine ⟨?_, fun hfit => ?_⟩
  · rw [Ctl.calInst_congr (congrArg PmState.cal l.pm_showCal), Ctl.calInst_congr hlcal, hk, Ctl.calInst_congr (congrArg Prod.fst hview)]
    exact hdinst
  · refine (l.e_showCal (by unfold ekey; omega)).trans (hlcount.trans ?_)
    rw [hk, hgcount, hfcount hfit, hecount, hdcount]

/-! ### Clocks and references (19 R527, R537) -/

theorem Ctl.refOkSince_post (c : Ctl) (code : Nat) (items : List (Nat × Nat)) : (c.post code items).fm.refOkSince = c.fm.refOkSince :=
  (congrArg FmState.refOkSince (c.fmKept_post code items).1 :)

/-- What REFERENCE_DISAGREE makes of a block: one without a fallback neither runs nor waits, and is not traced. -/
def CalInst.held (x : CalInst) : CalInst :=
  if !calFallback x.item then { x with running := false, waiting := false, quality := if x.quality = 3 then 2 else x.quality } else x

theorem CalInst.held_shows (x : CalInst) (h : calFallback x.held.item = false) : x.held.running = false ∧ x.held.quality ≠ 3 := by
  unfold CalInst.held at h ⊢
  by_cases hitem : calFallback x.item = true
  · rw [if_neg (by simp [hitem])] at h
    exact absurd (hitem.symm.trans h) (by decide)
  · rw [if_pos (by simpa using hitem)]
    refine ⟨rfl, ?_⟩
    dsimp only
    split <;> omega

/-- Two references that differ by no more than 5,000 ppm. -/
theorem Ctl.referenceCompare_agree (c : Ctl) {diff : Int} (h : diff.natAbs ≤ 5000) : c.referenceCompare diff = c.setE 0x140006 (ofSigned 32 diff) := by
  unfold Ctl.referenceCompare
  exact if_pos (.inl h)

/-- Two that differ by more: the disagreement stands, and no block without a fallback is traced. -/
theorem Ctl.referenceCompare_disagree (c : Ctl) {diff : Int} (h : 5000 < diff.natAbs) (hagreed : c.e 0x140002 ≠ 1) :
    (c.referenceCompare diff).e 0x140006 = ofSigned 32 diff ∧ (c.referenceCompare diff).e 0x140002 = 1 ∧
      (c.referenceCompare diff).pm.cal = c.pm.cal.map CalInst.held := by
  unfold Ctl.referenceCompare
  extract_lets d e held f g k
  have hd : d.e 0x140002 = c.e 0x140002 := (Ctl.e_setE ..).trans (if_neg (by decide))
  have he : e.e 0x140006 = ofSigned 32 diff ∧ e.e 0x140002 = 1 :=
    ⟨((Ctl.e_setE ..).trans (if_neg (by decide))).trans ((Ctl.e_setE ..).trans (if_pos rfl)), (Ctl.e_setE ..).trans (if_pos rfl)⟩
  have hf : f.pm.cal = c.pm.cal.map CalInst.held := rfl
  have hfe : ∀ n, f.e n = e.e n := fun n => e.e_setPm _ n
  rw [if_neg (by rw [hd]; omega)]
  clear_value f e
  have hg : ∀ n, n / 256 = 0x1400 → g.e n = f.e n := fun n hn => f.e_showSites (.inr (by omega))
  have hgcal : g.pm.cal = f.pm.cal := congrArg PmState.cal f.pm_showSites
  clear_value g
  have hk : ∀ n, n / 256 = 0x1400 → k.e n = g.e n := fun n hn => foldl_keeps (fun x : Ctl => x.e n) _ _ g fun x i hi =>
    x.e_showQuality (by have := List.mem_range.1 hi; omega) (by omega) (postKey_eq_false_of_lt (by omega))
  have hkcal : k.calView = g.calView := foldl_keeps Ctl.calView _ _ g fun x i _ => x.calView_showQuality _
  clear_value k
  have hlast : ∀ n, n / 256 = 0x1400 → n ≠ 0x140001 → (k.post 0x04C1 [i32 (ofSigned 32 diff)]).showCal.e n = e.e n := fun n hn hne => by
    rw [Ctl.e_showCal _ hne, Ctl.e_post _ _ _ _ (postKey_eq_false_of_lt (by omega)) (by decide), hk n hn, hg n hn, hfe]
  refine ⟨(hlast _ (by decide) (by decide)).trans he.1, (hlast _ (by decide) (by decide)).trans he.2, ?_⟩
  rw [Ctl.pm_showCal, Ctl.post_pm]
  exact (congrArg Prod.fst hkcal).trans (hgcal.trans hf)

/-! ### Islands (19 R523) -/

/-- ISLAND_STATE of an island does not rest on ISLAND_STATE. -/
theorem Ctl.islandState_setEa (c : Ctl) (i n j : Nat) (hi : i < 7) : (c.setEa 0x1214 i n).islandState j = c.islandState j := by
  have he : ∀ k, k = 0x500003 ∨ k = 0x300106 → (c.setEa 0x1214 i n).e k = c.e k := fun k hk => c.e_setEa_of_idx _ (by omega) (by omega)
  have hready : (c.setEa 0x1214 i n).memReady = c.memReady := by
    unfold Ctl.memReady
    rw [he _ (.inl rfl)]
  unfold Ctl.islandState
  rw [hready, he _ (.inr rfl)]
  rfl

theorem Ctl.pm_showIslands (c : Ctl) : c.showIslands.pm = c.pm := foldl_keeps Ctl.pm _ _ c fun _ _ _ => rfl

/-- Each island is shown as it stands. -/
theorem Ctl.ea_showIslands (c : Ctl) {n : Nat} (hn : n ≤ 7) :
    (∀ i < n, ((List.range n).foldl (fun c i => c.setEa 0x1214 i (c.islandState (i + 1))) c).ea 0x1214 i = c.islandState (i + 1)) ∧
      ∀ j, ((List.range n).foldl (fun c i => c.setEa 0x1214 i (c.islandState (i + 1))) c).islandState j = c.islandState j := by
  induction n with
  | zero => exact ⟨fun i hi => absurd hi (Nat.not_lt_zero i), fun _ => rfl⟩
  | succ n ih =>
    rw [List.range_succ, List.foldl_append, List.foldl_cons, List.foldl_nil]
    generalize (List.range n).foldl (fun c i => c.setEa 0x1214 i (c.islandState (i + 1))) c = d at ih ⊢
    obtain ⟨hshown, hstate⟩ := ih (by omega)
    refine ⟨fun i hi => ?_, fun j => (d.islandState_setEa _ _ _ (by omega)).trans (hstate j)⟩
    by_cases hin : i = n
    · rw [hin]
      exact (d.ea_setEa_same ..).trans (hstate _)
    · exact (d.ea_setEa_ne (by omega) (by omega) (.inr (Ne.symm hin))).trans (hshown i (by omega))

/-! ### The commands -/

theorem exec_refclkLost (dt : Nat) (s : State) : exec (.refclkLost dt) s = runC (fun c => (c.advance dt).refclkLost) s := rfl
theorem exec_refclkRestored (dt : Nat) (s : State) : exec (.refclkRestored dt) s = runC (fun c => (c.advance dt).refclkRestored) s := rfl
theorem exec_pllUnlock (dt pll : Nat) (s : State) : exec (.pllUnlock dt pll) s = runC (fun c => (c.advance dt).pllUnlock pll) s := rfl
theorem exec_referenceCompare (dt : Nat) (diff : Int) (s : State) : exec (.referenceCompare dt diff) s = runC (fun c => (c.advance dt).referenceCompare diff) s := rfl
theorem exec_recalTrigger (dt item idx : Nat) (free : Bool) (s : State) :
    exec (.recalTrigger dt item idx free) s = runC (fun c => (c.advance dt).recalTrigger item idx free) s := rfl
theorem exec_calNow (dt item : Nat) (s : State) : exec (.calNow dt item) s = runC (fun c => (c.advance dt).calNowCmd item) s := rfl
theorem exec_calInstanceDone (dt item idx residual : Nat) (codes : List Int) (s : State) :
    exec (.calInstanceDone dt item idx residual codes) s = runC (fun c => (c.advance dt).calDone item idx residual codes) s := rfl
theorem exec_islandGateChange (dt : Nat) (s : State) : exec (.islandGateChange dt) s = runC (fun c => (c.advance dt).showIslands) s := rfl

end Sys2Proof.Machine

open Sys2Proof Sys2Proof.Machine

/-- Settles O18: the instances change by what starts them and by their results alone (`Ctl.calView_calBegin`, `Ctl.calDone_shows`). -/
theorem clocksReferencesAndCalibration : Obligations.ClocksReferencesAndCalibration := by
  unfold Obligations.ClocksReferencesAndCalibration
  refine ⟨fun dt s hlost => ?_, fun dt s hlost => ?_, fun dt pll s hlo hhi => ?_, fun dt diff s hdiff => ?_, fun dt diff s hdiff hagreed => ?_,
    fun dt item idx x s hx _ hdue hcpb hquiet href hlane => ?_, fun dt item s hcpb hlo hhi href hquiet hfree => ?_, fun dt s href hcpb => ?_,
    fun dt item idx residual codes x s hcpb hlo hhi hfit hx hrun href hwait => ?_, fun dt item idx residual codes x s hcpb hlo hhi hfit hx hrun hwait => ?_,
    fun dt s i hi => ?_⟩
  · refine leaves_of_exec_eq_runC (exec_refclkLost ..) ?_
    have hlost' : ¬ (s.ctl.advance dt).pm.refLost = true := by
      rw [show (s.ctl.advance dt).pm.refLost = false from hlost]
      decide
    unfold Ctl.refclkLost
    rw [if_neg hlost']
    exact ⟨Ctl.post_pm .., Ctl.refOkSince_post ..⟩
  · refine leaves_of_exec_eq_runC (exec_refclkRestored ..) ?_
    have hlost' : ¬ (!(s.ctl.advance dt).pm.refLost) = true := by
      rw [show (s.ctl.advance dt).pm.refLost = true from hlost]
      decide
    unfold Ctl.refclkRestored
    rw [if_neg hlost']
    exact ⟨rfl, rfl⟩
  · refine leaves_of_exec_eq_runC (exec_pllUnlock ..) ?_
    unfold Ctl.pllUnlock
    rw [if_neg (by omega), Ctl.e_post _ _ _ _ (by decide) (by decide), Ctl.post_pm, Ctl.e_setE, if_pos rfl]
    exact ⟨rfl, rfl⟩
  · refine leaves_of_exec_eq_runC (exec_referenceCompare ..) ?_
    rw [(s.ctl.advance dt).referenceCompare_agree hdiff, Ctl.e_setE, if_pos rfl, Ctl.e_setE, if_neg (by decide)]
    exact ⟨rfl, rfl, rfl⟩
  · refine leaves_of_exec_eq_runC (exec_referenceCompare ..) ?_
    obtain ⟨hshown, hstands, hcal⟩ := (s.ctl.advance dt).referenceCompare_disagree hdiff hagreed
    refine ⟨hshown, hstands, fun x hx hitem => ?_⟩
    rw [hcal] at hx
    obtain ⟨y, -, rfl⟩ := List.mem_map.1 hx
    exact y.held_shows hitem
  · refine leaves_of_exec_eq_runC (exec_recalTrigger ..) ?_
    exact (s.ctl.advance dt).recalTrigger_starts hx hdue hcpb (((s.ctl.advance dt).calMayStart_iff item idx).2 ⟨hlane, hquiet, href⟩) href
  · refine leaves_of_exec_eq_runC (exec_calNow ..) ?_
    have hrun : (s.ctl.advance dt).calNowCmd item = (s.ctl.advance dt).calNowItem item := by
      unfold Ctl.calNowCmd
      rw [if_neg (by omega), if_pos ⟨hlo, hhi⟩]
    have hstarts := (s.ctl.advance dt).calNowItem_starts hcpb href hquiet hfree
    have hasked := (s.ctl.advance dt).calNow_calNowItem hcpb href
    rw [hrun]
    refine ⟨hstarts, ?_⟩
    rw [hasked]
    exact List.contains_iff_mem.2 (mem_insertRising ..)
  · refine leaves_of_exec_eq_runC (exec_calNow ..) fun item hlo hhi => ?_
    obtain ⟨hmem, -, -⟩ := (s.ctl.advance dt).calNow_all hcpb href 8
    have hrun : (s.ctl.advance dt).calNowCmd 255 = (List.range 8).foldl (fun c k => c.calNowItem (k + 1)) (s.ctl.advance dt) := if_pos rfl
    rw [hrun]
    exact List.contains_iff_mem.2 (hmem item hlo hhi)
  · refine leaves_of_exec_eq_runC (exec_calInstanceDone ..) ?_
    obtain ⟨hinst, -⟩ := (s.ctl.advance dt).calDone_shows (residual := residual) (codes := codes) hcpb hlo hhi hx hrun hwait
    have href' : (s.ctl.advance dt).e 0x140002 ≠ 1 := href
    rw [hinst, hfit, if_neg (by decide), if_neg href']
    rfl
  · refine leaves_of_exec_eq_runC (exec_calInstanceDone ..) ?_
    obtain ⟨hinst, hcount⟩ := (s.ctl.advance dt).calDone_shows (residual := residual) (codes := codes) hcpb hlo hhi hx hrun hwait
    refine ⟨?_, hcount hfit⟩
    rw [hinst, hfit, if_pos (by decide)]
    rfl
  · refine leaves_of_exec_eq_runC (exec_islandGateChange ..) ⟨?_, Ctl.pm_showIslands _⟩
    exact ((s.ctl.advance dt).ea_showIslands (Nat.le_refl 7)).1 i hi

end

section
/-! PROOFS. Vostan notifications and the mailbox (16 R464, R465, 17 R489): what reading an entry leaves of the dictionary server. -/
namespace Sys2Proof.Machine

/-! ### Posting an event and the sessions (16 R464) -/

theorem Ctl.dy_enqueue (c : Ctl) (q : Nat) (r : EvRec) : (c.enqueue q r).dy = c.dy := by
  unfold Ctl.enqueue
  exact ite_keeps Ctl.dy rfl (ite_keeps Ctl.dy rfl rfl)

theorem Ctl.dy_raiseIrq (c : Ctl) (b : Nat) : (c.raiseIrq b).dy = c.dy := by
  unfold Ctl.raiseIrq
  extract_lets p d e
  refine ite_keeps Ctl.dy rfl ?_
  exact (ite_keeps Ctl.dy rfl rfl : d.dy = c.dy)

theorem Ctl.dy_eventBit (c : Ctl) (code : Nat) : (c.eventBit code).dy = c.dy := by
  unfold Ctl.eventBit
  split <;> rfl

/-- A record reaches the sessions by the offer to their subscriptions. -/
theorem Ctl.dy_tell (c : Ctl) (code : Nat) (r : EvRec) : (c.tell code r).dy = (c.offer (blockOf code) r).dy := by
  unfold Ctl.tell
  rw [Ctl.dy_eventBit, Ctl.dy_raiseIrq, Ctl.dy_enqueue, Ctl.dy_enqueue]

theorem Ctl.dy_logAdd (c : Ctl) (r : EvRec) (cls outcome window : Nat) (hist : Bool) : (c.logAdd r cls outcome window hist).dy = c.dy := by
  unfold Ctl.logAdd Ctl.logCount Ctl.addE
  rw [Ctl.setE_dy, Ctl.setE_dy, Ctl.setE_dy]
  unfold Ctl.logPut
  rfl

theorem Ctl.dy_sequence (c : Ctl) (code : Nat) (r : EvRec) : (c.sequence code r).dy = c.dy := by
  unfold Ctl.sequence
  extract_lets low
  exact ite_keeps Ctl.dy rfl (ite_keeps Ctl.dy (c.dy_logAdd ..) rfl)

/-- What a record offered to the subscriptions leaves of the dictionary server, an event leaves. -/
theorem Ctl.dy_post_reads {β : Type} (g : DyState → β) (hoffer : ∀ (c : Ctl) (b : Nat) (r : EvRec), g (c.offer b r).dy = g c.dy)
    (c : Ctl) (code : Nat) (items : List (Nat × Nat)) : g (c.post code items).dy = g c.dy := by
  have hone : ∀ (d : Ctl) code items, g (d.postOne code items).dy = g d.dy := fun d code items => by
    unfold Ctl.postOne
    rw [Ctl.dy_sequence, Ctl.dy_tell, hoffer]
  have hdrops : ∀ (d : Ctl) q, g (d.postDrops q).dy = g d.dy := fun d q => by
    unfold Ctl.postDrops
    extract_lets n due
    exact ite_keeps (fun x : Ctl => g x.dy) rfl (hone _ _ _)
  unfold Ctl.post
  rw [hdrops, hdrops, hone]

/-- A subscription of a session. -/
def DyState.sub (d : DyState) (n id : Nat) : Option Sub := (d.sessions.find? fun x => x.num = n).bind fun x => x.subs.find? fun u => u.id = id

/-- A subscription without the records that it has gathered. -/
def Sub.head (u : Sub) : Sub := { u with recs := [] }

/-- A record offered to a subscription joins those that it has gathered. -/
theorem DyState.sub_offer (c : Ctl) (b : Nat) (r : EvRec) (n id : Nat) : ((c.offer b r).dy.sub n id).map Sub.head = (c.dy.sub n id).map Sub.head := by
  unfold Ctl.offer DyState.sub
  extract_lets one
  have hid : ∀ u, (one u).id = u.id ∧ (one u).head = u.head := fun u => by
    unfold one
    split <;> exact ⟨rfl, rfl⟩
  have hsub : ∀ l : List Sub, ((l.map one).find? fun u => u.id = id) = (l.find? fun u => u.id = id).map one := fun l => by
    rw [List.find?_map]
    simp only [Function.comp_def, (hid _).1]
  dsimp only
  rw [List.find?_map]
  simp only [Function.comp_def]
  cases hx : c.dy.sessions.find? fun x => x.num = n with
  | none => rfl
  | some x =>
    simp only [Option.map_some, Option.bind_some, hsub, Option.map_map]
    cases x.subs.find? fun u => u.id = id with
    | none => rfl
    | some u => exact congrArg some (hid u).2

theorem DyState.sub_post (c : Ctl) (code : Nat) (items : List (Nat × Nat)) (n id : Nat) :
    ((c.post code items).dy.sub n id).map Sub.head = (c.dy.sub n id).map Sub.head :=
  Ctl.dy_post_reads (fun d => (d.sub n id).map Sub.head) (fun c b r => DyState.sub_offer c b r n id) c code items

/-- The server accepts messages, and its port, as before. -/
theorem Ctl.serving_post (c : Ctl) (code : Nat) (items : List (Nat × Nat)) :
    (c.post code items).dy.serving = c.dy.serving ∧ (c.post code items).dy.udpPort = c.dy.udpPort :=
  ⟨Ctl.dy_post_reads DyState.serving (fun _ _ _ => rfl) c code items, Ctl.dy_post_reads DyState.udpPort (fun _ _ _ => rfl) c code items⟩

/-! ### Reading an entry (16 R456, 14 R422, 18 R499) -/

/-- What the notifications and the mailbox rest on beside what an event changes. -/
def Ctl.front (c : Ctl) : Nat × DyState × HiState × Nat := (c.up, c.dy, c.hi, c.e 0x54000D)

theorem Ctl.front_setE (c : Ctl) {k : Nat} (n : Nat) (hk : k ≠ 0x54000D) : (c.setE k n).front = c.front :=
  congrArg (fun e => (c.up, c.dy, c.hi, e)) ((c.e_setE k _ n).trans (if_neg hk))

theorem Ctl.front_setEa (c : Ctl) {x i : Nat} (n : Nat) (hi : i < 255) (hx : x ≠ 0x5400) : (c.setEa x i n).front = c.front :=
  c.front_setE n (by unfold ekey; omega)

theorem Ctl.front_mcRun (c : Ctl) : c.mcRun.front = c.front := by
  unfold Ctl.mcRun
  split
  · rfl
  · extract_lets now woken d rs miss rank e
    split
    · rfl
    · refine (foldl_keeps Ctl.front _ _ e fun d p hp => ?_).trans rfl
      exact ite_keeps Ctl.front rfl (d.front_setE _ (by have := List.mem_range.1 hp; unfold ekey; omega))

theorem Ctl.front_lostWord (c : Ctl) (w : Nat) : (c.lostWord w).front = c.front := by
  have hbt : ∀ f : BtState → BtState, (c.setBt f).front = c.front := fun _ => rfl
  have hxz : ∀ f : XzState → XzState, (c.setXz f).front = c.front := fun _ => rfl
  unfold Ctl.lostWord
  refine ite_keeps Ctl.front (hxz _) ?_
  refine ite_keeps Ctl.front (hbt _) ?_
  refine ite_keeps Ctl.front (hbt _) ?_
  refine ite_keeps Ctl.front (hbt _) ?_
  refine ite_keeps Ctl.front (hbt _) ?_
  split <;> rfl

section
variable {β : Type} (g : Ctl → β) (hfront : ∀ c d : Ctl, d.front = c.front → g d = g c)
  (hpost : ∀ (c : Ctl) (code : Nat) (items : List (Nat × Nat)), code < 65536 → g (c.post code items) = g c)
include hfront hpost

theorem Ctl.mramUse_keeps (c : Ctl) (f : Nat → Bool) : g (c.mramUse f) = g c := by
  unfold Ctl.mramUse
  extract_lets r
  have hr : r.1.front = c.front := c.front_setE _ (by decide)
  refine (foldl_keeps g _ _ r.1 fun d w _ => ?_).trans (hfront _ _ hr)
  refine (foldl_keeps g _ _ _ fun x ev hev => hpost x _ _ ?_).trans (hfront _ _ (d.front_lostWord w))
  unfold lostEvents at hev
  rcases List.mem_cons.1 hev with rfl | hev
  · exact (by decide : (0x01C2 : Nat) < 65536)
  · split at hev
    · rw [List.mem_singleton.1 hev]
      exact (by decide : (0x0182 : Nat) < 65536)
    · exact absurd hev List.not_mem_nil

theorem Ctl.safeEnds_keeps (c : Ctl) : g c.safeEnds = g c := by
  have hset : ∀ (d : Ctl) (k n : Nat), k ≠ 0x54000D → g (d.setE k n) = g d := fun d k n hk => hfront _ _ (d.front_setE n hk)
  have hfm : ∀ (d : Ctl) f, g (d.setFm f) = g d := fun d f => hfront d (d.setFm f) rfl
  have hend : ∀ f, g (c.endSafe f) = g c := fun f => by
    unfold Ctl.endSafe
    refine ite_keeps g rfl ?_
    exact (Ctl.settleSafe_keeps g (fun d n => hset d _ n (by decide)) (fun d n => hset d _ n (by decide)) hpost _ _ _).trans (hfront _ _ rfl)
  unfold Ctl.safeEnds
  extract_lets may d
  have hd : g d = g c := hend _
  exact ite_keeps g ((hfm d _).trans hd) hd

end

/-! ### An entry that returns to its default (18 R499) -/

/-- Entries whose write runs no operation of its own but those that an entry of the dictionary store may start. -/
def lightKey (k : Nat) : Bool :=
  [0x210005, 0x21000A, 0x410203, 0x410204, 0x410304, 0x410403, 0x400012, 0x450001, 0x44000F, 0x442005, 0x310009, 0x200006, 0x23000C, 0x23000E, 0x500008,
    0x510008, 0x520001, 0x54000D, 0x54000E, 0x530004, 0x110005, 0x110501, 0x110503, 0x160001, 0x160003, 0x140005, 0x15000A, 0x15000C, 0x15000D, 0x700006].all (fun x => decide (k ≠ x)) &&
  [0x3122, 0x201D, 0x5217, 0x5218].all (fun x => decide (k / 256 ≠ x)) && decide (¬ (0x6000 ≤ k / 256 ∧ k / 256 < 0x6400)) &&
  decide (¬ (0x5210 ≤ k / 256 ∧ k / 256 ≤ 0x5215)) && decide (k / 256 = 0x2001 ∨ k / 256 = 0x2301 → (dfltVal k).toNum = 1)

theorem lightKey_of_storeRows : (storeRows.all fun d => (List.range d.n).all fun i => lightKey (d.lo + i)) = true := by decide +kernel

theorem storeSeek_some {k : Nat} : ∀ {l : List DictRow} {base : Nat} {p : DictRow × Nat}, storeSeek k l base = some p → ∃ d ∈ l, d.lo ≤ k ∧ k < d.lo + d.n
  | [], _, _, h => nomatch h
  | d :: l, base, p, h => by
    unfold storeSeek at h
    split at h
    next hd => exact ⟨d, List.mem_cons_self .., hd⟩
    next hd =>
      obtain ⟨x, hx, hk⟩ := storeSeek_some h
      exact ⟨x, List.mem_cons_of_mem _ hx, hk⟩

theorem lightKey_of_homeWords {k : Nat} (h : homeWords k ≠ []) : lightKey k = true := by
  unfold homeWords at h
  split at h
  next hidx =>
    simp only [lightKey, List.all_cons, List.all_nil, Bool.and_true, Bool.and_eq_true, decide_eq_true_eq]
    omega
  next =>
    split at h
    next d w hseek =>
      obtain ⟨x, hx, hlo, hhi⟩ := storeSeek_some hseek
      have hall := List.all_eq_true.1 (List.all_eq_true.1 lightKey_of_storeRows x hx) (k - x.lo) (List.mem_range.2 (by omega))
      rwa [Nat.add_sub_cancel' hlo] at hall
    next => exact absurd rfl h

/-- An entry at its default. -/
theorem Ctl.ev_toDefault (c : Ctl) (k j : Nat) : (c.toDefault k).ev j = if j = k then dfltVal j else c.ev j := by
  have hent : (c.toDefault k).ent = aDel c.ent k := by
    unfold Ctl.toDefault
    exact ite_keeps Ctl.ent rfl rfl
  unfold Ctl.ev
  rw [hent]
  split
  next hj => rw [hj, aGet_aDel_same]; rfl
  next hj =>
    have hget := aGet_filter (fun x => decide (x ≠ k)) c.ent j
    rw [if_pos (decide_eq_true hj)] at hget
    exact congrArg (fun o => Option.getD o (dfltVal j)) hget

theorem Ctl.front_toDefault (c : Ctl) {k : Nat} (hk : k ≠ 0x54000D) : (c.toDefault k).front = c.front := by
  have hdrops : (c.toDefault k).e 0x54000D = c.e 0x54000D := congrArg EVal.toNum ((c.ev_toDefault k _).trans (if_neg (Ne.symm hk)))
  have hrest : ((c.toDefault k).up, (c.toDefault k).dy, (c.toDefault k).hi) = (c.up, c.dy, c.hi) := by
    unfold Ctl.toDefault
    exact ite_keeps (fun x : Ctl => (x.up, x.dy, x.hi)) rfl rfl
  exact congrArg₂ (fun (p : Nat × DyState × HiState) e => (p.1, p.2.1, p.2.2, e)) hrest hdrops

/-- An entry without home words is none that MRAM may lose. -/
theorem Ctl.nv_mramUse_none (c : Ctl) {f : Nat → Bool} (h : ∀ w, f w = false) : (c.mramUse f).nv = c.nv := by
  unfold Ctl.mramUse Ctl.mramWords
  simp only [h, List.filter_false]
  rfl

theorem Ctl.front_railAddr (c : Ctl) {r : Nat} (hr : r < 255) : (c.railAddr r).powerTotal.front = c.front := by
  have hrail : (c.railAddr r).front = c.front := by
    unfold Ctl.railAddr
    refine ite_keeps Ctl.front rfl ?_
    exact ((c.setEa 0x1212 r 0).front_setEa 0 hr (by decide : 0x1213 ≠ 0x5400)).trans (c.front_setEa 0 hr (by decide))
  exact ((c.railAddr r).front_setE _ (by decide)).trans hrail

theorem Ctl.front_domainEnable (c : Ctl) {d : Nat} (hd : d < 255) : (c.domainEnable d 1).front = c.front := by
  have hon : (c.setEa 0x2301 d 1).front = c.front := c.front_setEa 1 hd (by decide)
  have hdom : ((c.setEa 0x2301 d 1).setEa 0x2303 d 1).front = c.front := ((c.setEa 0x2301 d 1).front_setEa 1 hd (by decide : 0x2303 ≠ 0x5400)).trans hon
  unfold Ctl.domainEnable Ctl.setDom
  extract_lets x
  rw [if_pos rfl]
  split
  · exact hdom
  · exact hon

theorem Ctl.front_setTb (c : Ctl) (f : TbState → TbState) : (c.setTb f).front = c.front := rfl

theorem Ctl.front_seriesWritten (c : Ctl) : c.seriesWritten.front = c.front := by
  unfold Ctl.seriesWritten
  exact ite_keeps Ctl.front (c.front_setTb _) rfl

theorem Ctl.front_setTarget (c : Ctl) (t : Nat) : (c.setTarget t).front = c.front := by
  unfold Ctl.setTarget
  refine ite_keeps Ctl.front rfl ?_
  extract_lets u d
  exact (Ctl.front_setE _ _ (by decide)).trans (ite_keeps Ctl.front rfl rfl : d.front = c.front)

/-- No slot is below an FW_FLOOR of 0. -/
theorem Ctl.floorWritten_zero (c : Ctl) (h : c.e 0x110505 = 0) : c.floorWritten = c := by
  unfold Ctl.floorWritten
  extract_lets low
  have hlow : ∀ k, low k = false := fun k => by
    unfold low
    rw [h, decide_eq_false (Nat.not_lt_zero _), Bool.and_false]
  rw [if_neg (by rw [hlow, hlow]; decide)]

section
variable {β : Type} (g : Ctl → β) (hfront : ∀ c d : Ctl, d.front = c.front → g d = g c)
  (hpost : ∀ (c : Ctl) (code : Nat) (items : List (Nat × Nat)), code < 65536 → g (c.post code items) = g c)
include hfront hpost

theorem Ctl.showRole_keeps (c : Ctl) : g c.showRole = g c := by
  unfold Ctl.showRole
  extract_lets bad d
  have hd : g d = g c := ite_keeps g (hpost _ _ _ (by decide)) rfl
  refine (hfront _ _ (Ctl.front_setE _ _ (by decide))).trans ((hfront _ _ ?_).trans hd)
  rfl

/-- A Xezor key that is written. -/
theorem Ctl.keyWrite_keeps (c : Ctl) (i : Nat) (b : List Byte) : g (c.keyWrite (i + 2) b) = g c := by
  unfold Ctl.keyWrite
  split
  · rfl
  next hn =>
    have hi : i ≤ 3 := by
      simp only [Bool.or_eq_true, decide_eq_true_eq] at hn
      omega
    rw [if_neg (by omega), if_neg (by omega)]
    refine (hpost _ _ _ (by decide)).trans (hfront _ _ ?_)
    have hset : (c.setEv (ekey 0x1601 (i + 2 - 1)) (.oct b)).front = c.front :=
      congrArg (fun e => (c.up, c.dy, c.hi, e)) ((c.e_setEv _ _ _).trans (if_neg (by unfold ekey; omega)))
    refine Eq.trans ?_ hset
    unfold Ctl.saveEv
    exact ite_keeps Ctl.front rfl rfl

/-- What a default value of an entry of the dictionary store does. -/
theorem Ctl.written_default_keeps (c : Ctl) {k : Nat} (hlight : lightKey k = true) (hfloor : k = 0x110505 → c.e k = 0) : g (c.written k (dfltVal k)) = g c := by
  simp only [lightKey, List.all_cons, List.all_nil, Bool.and_true, Bool.and_eq_true, decide_eq_true_eq] at hlight
  obtain ⟨⟨⟨⟨hkeys, hidx⟩, hdc⟩, hck⟩, hon⟩ := hlight
  have hi : k % 256 - 1 < 255 := by omega
  unfold Ctl.written
  simp only [hkeys, hidx, hdc, hck, Bool.and_eq_true, decide_eq_true_eq, if_false]
  split
  · exact c.showRole_keeps g hfront hpost
  split
  · exact hfront _ _ (c.front_railAddr hi)
  split
  next hport =>
    rw [hon (.inl hport)]
    rfl
  split
  next hdom =>
    rw [hon (.inr hdom)]
    exact hfront _ _ (c.front_domainEnable hi)
  split
  · exact hfront _ _ c.front_seriesWritten
  split
  · exact hfront _ _ (c.front_setTarget _)
  split
  next hk =>
    rw [c.floorWritten_zero (hk ▸ hfloor hk)]
  split
  · exact c.keyWrite_keeps g hfront hpost _ _
  split
  · exact c.safeEnds_keeps g hfront hpost
  · rfl

theorem Ctl.fetchEntry_keeps (c : Ctl) (k : Nat) : g (c.fetchEntry k) = g c := by
  unfold Ctl.fetchEntry
  extract_lets d had e
  have hd : g d = g c := hfront _ _ (ite_keeps Ctl.front c.front_mcRun rfl)
  have he : g e = g d := d.mramUse_keeps g hfront hpost _
  refine ite_keeps g hd ?_
  split
  next hlost =>
    simp only [Bool.and_eq_true] at hlost
    have hhome : homeWords k ≠ [] := fun hnone => by
      have hnv : e.nv = d.nv := d.nv_mramUse_none fun w => by rw [hnone]; rfl
      rw [hnv, Option.isNone_iff_eq_none] at hlost
      exact absurd hlost.1 (by unfold had; rw [hlost.2]; decide)
    have hlight := lightKey_of_homeWords hhome
    have hk : k ≠ 0x54000D := by
      rintro rfl
      exact absurd hlight (by decide)
    refine (Ctl.written_default_keeps g hfront hpost _ hlight fun hfloor => ?_).trans ((hfront _ _ (e.front_toDefault hk)).trans (he.trans hd))
    rw [hfloor]
    exact congrArg EVal.toNum ((e.ev_toDefault _ _).trans (if_pos rfl))
  next => exact he.trans hd

end

end Sys2Proof.Machine
end

section
/-! PROOFS. Notifications go out (16 R464, R465): what an EVENT message leaves of its subscription. -/
namespace Sys2Proof.Machine

/-! ### A subscription of a session -/

theorem Ctl.map_sub {β : Type} (c : Ctl) (n id : Nat) (f : Sub → β) : (c.sub n id).map (fun p => f p.2) = (c.dy.sub n id).map f := by
  unfold Ctl.sub Ctl.sess DyState.sub
  cases c.dy.sessions.find? fun x => x.num = n with
  | none => rfl
  | some x => simp only [Option.bind_some, Option.map_map, Function.comp_def]

/-- A subscription is found in its session, by its ID. -/
theorem Ctl.sub_found {c : Ctl} {n id : Nat} {x : Sess} {u : Sub} (h : c.sub n id = some (x, u)) : x.num = n ∧ u.id = id ∧ c.dy.sub n id = some u := by
  have hsub := c.map_sub n id fun u => u
  rw [h] at hsub
  unfold Ctl.sub Ctl.sess at h
  obtain ⟨y, hy, hu⟩ := Option.bind_eq_some_iff.1 h
  obtain ⟨v, hv, hxu⟩ := Option.map_eq_some_iff.1 hu
  obtain ⟨rfl, rfl⟩ := Prod.mk.inj hxu
  exact ⟨by simpa using List.find?_some hy, by simpa using List.find?_some hv, by simpa using hsub.symm⟩

/-- A session that is changed, its number apart. -/
theorem Ctl.dysub_updSess (c : Ctl) (n id : Nat) (f : Sess → Sess) (hf : ∀ x, (f x).num = x.num) :
    (c.updSess n f).dy.sub n id = (c.sess n).bind fun x => (f x).subs.find? fun u => u.id = id := by
  have hnum : ∀ x : Sess, (if x.num = n then f x else x).num = x.num := fun x => by
    split
    · exact hf x
    · rfl
  unfold Ctl.updSess DyState.sub Ctl.sess
  dsimp only [Ctl.setDy]
  rw [List.find?_map]
  simp only [Function.comp_def, hnum]
  cases hx : c.dy.sessions.find? fun x => x.num = n with
  | none => rfl
  | some x =>
    simp only [Option.map_some, Option.bind_some]
    rw [if_pos (of_decide_eq_true (List.find?_some hx :))]

theorem Ctl.dysub_updSess_same (c : Ctl) (n id : Nat) (f : Sess → Sess) (hf : ∀ x, (f x).num = x.num ∧ (f x).subs = x.subs) :
    (c.updSess n f).dy.sub n id = c.dy.sub n id := by
  rw [c.dysub_updSess n id f fun x => (hf x).1]
  simp only [(hf _).2]
  rfl

theorem Ctl.dysub_updSub (c : Ctl) (n id : Nat) (f : Sub → Sub) (hf : ∀ u, (f u).id = u.id) : (c.updSub n id f).dy.sub n id = (c.dy.sub n id).map f := by
  have hid : ∀ u : Sub, (if u.id = id then f u else u).id = u.id := fun u => by
    split
    · exact hf u
    · rfl
  unfold Ctl.updSub
  refine (c.dysub_updSess n id _ ?_).trans ?_
  · exact fun _ => rfl
  unfold DyState.sub Ctl.sess
  cases c.dy.sessions.find? fun x => x.num = n with
  | none => rfl
  | some x =>
    simp only [Option.bind_some]
    rw [List.find?_map]
    simp only [Function.comp_def, hid]
    cases hu : x.subs.find? fun u => u.id = id with
    | none => rfl
    | some u =>
      simp only [Option.map_some]
      rw [if_pos (of_decide_eq_true (List.find?_some hu :))]

/-! ### What reading an entry leaves of a subscription -/

/-- What an EVENT message rests on. -/
def Ctl.noteView (c : Ctl) (n id : Nat) : Nat × Nat × Option Sub × Nat := (c.up, c.dy.udpPort, (c.dy.sub n id).map Sub.head, c.e 0x54000D)

theorem Ctl.noteView_post (c : Ctl) (n id code : Nat) (items : List (Nat × Nat)) (hcode : code < 65536) :
    (c.post code items).noteView n id = c.noteView n id := by
  unfold Ctl.noteView
  rw [Ctl.post_up, (c.serving_post code items).2, DyState.sub_post, Ctl.e_post _ _ _ _ (by decide) hcode]

theorem Ctl.noteView_fetchEntry (c : Ctl) (n id k : Nat) : (c.fetchEntry k).noteView n id = c.noteView n id :=
  Ctl.fetchEntry_keeps (Ctl.noteView · n id) (fun _ _ h => congrArg (fun p : Nat × DyState × HiState × Nat => (p.1, p.2.1.udpPort, (p.2.1.sub n id).map Sub.head, p.2.2.2)) h)
    (fun d code items hcode => d.noteView_post n id code items hcode) c k

/-- The subscription of an entry is the one that was, when the entry is read. -/
theorem Ctl.sub_fetchEntry {c : Ctl} {n id : Nat} {x : Sess} {u : Sub} (h : c.sub n id = some (x, u)) (k : Nat) :
    ∃ v, (c.fetchEntry k).dy.sub n id = some v := by
  obtain ⟨-, -, hsub⟩ := Ctl.sub_found h
  have hkept := congrArg (fun p => p.2.2.1) (c.noteView_fetchEntry n id k)
  simp only [Ctl.noteView, hsub, Option.map_some] at hkept
  obtain ⟨v, hv, -⟩ := Option.map_eq_some_iff.1 hkept
  exact ⟨v, hv⟩

/-! ### An EVENT message (16 R465) -/

/-- A subscription whose message has this NSEQ. -/
def Sub.numbered (seq : Nat) (u : Sub) : Sub := { u with nseq := seq }

/-- A message to a datagram client that the queue takes. -/
theorem Ctl.notify_sent (c : Ctl) (x : Sess) {u : Sub} (records count : Nat) (content : List Byte) (hdest : u.dest.tr = 0) :
    c.notify false x u records count content = (c.updSub x.num u.id (Sub.numbered ((u.nseq + count) % 2 ^ 32))).emit (c.datagram u.dest (vosMsg 8 0 0 x.num 0 0xFE
      ([byteOf u.id, byteOf u.kind, byteOf records, 0] ++ toLE 4 ((u.nseq + count) % 2 ^ 32) ++ content) x.ks)) := by
  unfold Ctl.notify
  extract_lets seq d body m full
  have hfull : full = false := by
    unfold full
    rw [hdest]
    rfl
  rw [hfull, if_neg (by decide), if_neg (by rw [hdest]; decide)]
  unfold Ctl.vosSend
  rw [if_pos hdest]
  rfl

/-- A message that is dropped counts in NOTIFY_DROPS, and NSEQ counts it. -/
theorem Ctl.notify_dropped (c : Ctl) {n id : Nat} {x : Sess} {u v : Sub} (records count : Nat) (content : List Byte) (hx : x.num = n) (hu : u.id = id)
    (hv : c.dy.sub n id = some v) :
    ((c.notify true x u records count content).dy.sub n id).map Sub.head = some (v.numbered ((u.nseq + count) % 2 ^ 32)).head ∧
      (c.notify true x u records count content).e 0x54000D = satAdd 32 (c.e 0x54000D) 1 := by
  subst hx hu
  unfold Ctl.notify
  extract_lets seq d body m full e
  have hsub : d.dy.sub x.num u.id = some (v.numbered seq) := by
    have hupd := c.dysub_updSub x.num u.id (Sub.numbered seq) fun _ => rfl
    rw [hv] at hupd
    exact hupd
  have hcount : e.e 0x54000D = satAdd 32 (c.e 0x54000D) 1 :=
    (Ctl.e_setE ..).trans ((if_pos rfl).trans (congrArg (fun w => satAdd w (c.e 0x54000D) 1) (show entWidth 0x54000D = 32 by decide +kernel)))
  have hkept : e.dy.sub x.num u.id = some (v.numbered seq) := hsub
  clear_value e
  rw [if_pos (by unfold full; rfl)]
  split
  · exact ⟨by rw [hkept]; rfl, hcount⟩
  · have hnote := Ctl.noteView_post (e.updSess x.num fun s => { s with dropPosted := some e.up }) x.num u.id 0x4442 [i8 x.num, i8 u.id] (by decide)
    have hsess : (e.updSess x.num fun s => { s with dropPosted := some e.up }).dy.sub x.num u.id = e.dy.sub x.num u.id :=
      e.dysub_updSess_same _ _ _ fun _ => ⟨rfl, rfl⟩
    simp only [Ctl.noteView, Prod.mk.injEq] at hnote
    obtain ⟨-, -, hhead, hdrops⟩ := hnote
    refine ⟨hhead.trans ?_, hdrops.trans ((Ctl.e_congr rfl _).trans hcount)⟩
    rw [hsess, hkept]
    rfl

/-- A subscription that changes first, and whose message goes out. -/
theorem Ctl.updSub_notify_sent (c : Ctl) {n id : Nat} {x : Sess} {u v : Sub} (f : Sub → Sub) (hf : ∀ w, (f w).id = w.id) (records count : Nat) (content : List Byte)
    (hx : x.num = n) (hu : u.id = id) (hdest : u.dest.tr = 0) (hv : c.dy.sub n id = some v) :
    ((c.updSub n id f).notify false x u records count content).dy.sub n id = some ((f v).numbered ((u.nseq + count) % 2 ^ 32)) ∧
      ((c.updSub n id f).notify false x u records count content).ent = c.ent ∧
      ((c.updSub n id f).notify false x u records count content).out = c.out ++ [c.datagram u.dest (vosMsg 8 0 0 x.num 0 0xFE
        ([byteOf u.id, byteOf u.kind, byteOf records, 0] ++ toLE 4 ((u.nseq + count) % 2 ^ 32) ++ content) x.ks)] := by
  subst hx hu
  rw [Ctl.notify_sent _ _ _ _ _ hdest]
  refine ⟨?_, rfl, rfl⟩
  have hfirst := c.dysub_updSub x.num u.id f hf
  have hsecond := (c.updSub x.num u.id f).dysub_updSub x.num u.id (Sub.numbered ((u.nseq + count) % 2 ^ 32)) fun _ => rfl
  rw [hfirst, hv] at hsecond
  exact hsecond

/-- The same of one whose message is dropped. -/
theorem Ctl.updSub_notify_dropped (c : Ctl) {n id : Nat} {x : Sess} {u v : Sub} (f : Sub → Sub) (hf : ∀ w, (f w).id = w.id) (records count : Nat)
    (content : List Byte) (hx : x.num = n) (hu : u.id = id) (hv : c.dy.sub n id = some v) :
    (((c.updSub n id f).notify true x u records count content).dy.sub n id).map Sub.head = some ((f v).numbered ((u.nseq + count) % 2 ^ 32)).head ∧
      ((c.updSub n id f).notify true x u records count content).e 0x54000D = satAdd 32 (c.e 0x54000D) 1 := by
  have hfirst := c.dysub_updSub n id f hf
  rw [hv] at hfirst
  exact (c.updSub n id f).notify_dropped records count content hx hu hfirst

/-- What is read of a subscription beside its records. -/
theorem Ctl.map_sub_head {β : Type} {c : Ctl} {n id : Nat} {v : Sub} (f : Sub → β) (hf : ∀ u, f (Sub.head u) = f u) (h : (c.dy.sub n id).map Sub.head = some v.head) :
    (c.sub n id).map (fun p => f p.2) = some (f v) := by
  obtain ⟨w, hw, hwv⟩ := Option.map_eq_some_iff.1 h
  rw [Ctl.map_sub, hw, Option.map_some, ← hf w, hwv, hf v]

theorem exec_cyclicNotify (dt session sub : Nat) (full : Bool) (s : State) :
    exec (.cyclicNotify dt session sub full) s = runC (fun c => (c.advance dt).cyclic session sub full) s := rfl
theorem exec_onChangeNotify (dt session sub : Nat) (full : Bool) (s : State) :
    exec (.onChangeNotify dt session sub full) s = runC (fun c => (c.advance dt).onChange session sub full) s := rfl
theorem exec_eventBatchSend (dt session sub : Nat) (full : Bool) (s : State) :
    exec (.eventBatchSend dt session sub full) s = runC (fun c => (c.advance dt).eventBatch session sub full) s := rfl

/-- A subscription whose value went out. -/
def Sub.sent (up : Nat) (u : Sub) : Sub := { u with sentAt := up }

theorem Ctl.cyclic_due (c : Ctl) {n id : Nat} {x : Sess} {u : Sub} (full : Bool) (h : c.sub n id = some (x, u)) (hkind : u.kind = 1)
    (hdue : u.sentAt + tMs u.period ≤ c.up) :
    c.cyclic n id full = (((c.fetchEntry u.key).updSub n id (Sub.sent c.up)).notify full x u 1 1 ((c.fetchEntry u.key).sample u.key)) := by
  have hup : (c.fetchEntry u.key).up = c.up := congrArg Prod.fst (c.noteView_fetchEntry n id u.key)
  unfold Ctl.cyclic
  rw [h]
  dsimp only
  rw [if_neg (by simp only [hkind, Bool.or_eq_true, decide_eq_true_eq]; omega), hup]
  rfl

/-- A subscription whose value went out. -/
def Sub.told (up : Nat) (v : EVal) (u : Sub) : Sub := { u with sentAt := up, last := some v }

theorem Ctl.onChange_due (c : Ctl) {n id : Nat} {x : Sess} {u : Sub} (full : Bool) (h : c.sub n id = some (x, u)) (hkind : u.kind = 2)
    (hnew : u.last ≠ some ((c.fetchEntry u.key).entRead u.key true)) (hdue : u.last = none ∨ u.sentAt + tMs u.period ≤ c.up) :
    c.onChange n id full = (((c.fetchEntry u.key).updSub n id (Sub.told c.up ((c.fetchEntry u.key).entRead u.key true))).notify full x u 1 1
      ((c.fetchEntry u.key).sample u.key)) := by
  have hup : (c.fetchEntry u.key).up = c.up := congrArg Prod.fst (c.noteView_fetchEntry n id u.key)
  have hwait : ¬ (u.last.isSome = true ∧ c.up < u.sentAt + tMs u.period) := by
    rcases hdue with hnone | hdue
    · simp [hnone]
    · omega
  unfold Ctl.onChange
  rw [h]
  dsimp only
  rw [if_pos hkind, hup, if_neg (by simp only [hkind, hnew, Bool.or_eq_true, Bool.and_eq_true, decide_eq_true_eq]; tauto)]
  rfl

/-- A subscription whose records went out. -/
def Sub.emptied (k : Nat) (u : Sub) : Sub := { u with recs := u.recs.drop k }

theorem Ctl.eventBatch_due (c : Ctl) {n id : Nat} {x : Sess} {u : Sub} {r : EvRec} (full : Bool) (h : c.sub n id = some (x, u)) (hkind : u.kind = 3)
    (hfirst : u.recs.head? = some r) (hdue : tickD c.now r.tick ≥ (tMs 1 : Nat)) (hroom : u.recs.length ≤ min 255 (eventRoom x / 16)) :
    c.eventBatch n id full =
      (c.updSub n id (Sub.emptied (min 255 (eventRoom x / 16)))).notify full x u u.recs.length u.recs.length (u.recs.flatMap EvRec.octets) := by
  have hsome : u.recs.isEmpty = false := by
    cases hr : u.recs with
    | nil => rw [hr] at hfirst; cases hfirst
    | cons _ _ => rfl
  have hwaited : (some r).any (fun r => decide (tickD c.now r.tick ≥ (tMs 1 : Nat))) = true := by
    rw [Option.any_some]
    exact decide_eq_true hdue
  unfold Ctl.eventBatch
  rw [h]
  dsimp only
  rw [List.take_of_length_le hroom, hfirst, hwaited, hsome, hkind, Bool.or_true, if_neg (by decide)]
  rfl

end Sys2Proof.Machine

open Sys2Proof Sys2Proof.Machine

/-- Settles O26: each notification is due as it says (`Ctl.cyclic_due` and its kin) and goes out (`Ctl.notify_sent`) or is dropped (`Ctl.notify_dropped`). -/
theorem notificationsGoOut : Obligations.NotificationsGoOut := by
  unfold Obligations.NotificationsGoOut
  refine ⟨fun dt n id x u c0 s h hkind hdue hdest hc0 => ?_, fun dt n id x u s h hkind hdue => ?_, fun dt n id x u c0 s h hkind hc0 hnew hdue hdest => ?_,
    fun dt n id x u c0 s h hkind hc0 hnew hdue => ?_, fun dt n id r x u s h hkind hfirst hdue hroom hdest => ?_,
    fun dt n id r x u s h hkind hfirst hdue hroom => ?_⟩
  · refine leaves_of_exec_eq_runC (exec_cyclicNotify ..) ?_
    have hsub : (s.ctl.advance dt).sub n id = some (x, u) := h
    obtain ⟨hx, hu, -⟩ := Ctl.sub_found hsub
    obtain ⟨v, hv⟩ := Ctl.sub_fetchEntry hsub u.key
    have hport : c0.dy.udpPort = s.ctl.dy.udpPort := hc0 ▸ (congrArg (fun p => p.2.1) ((s.ctl.advance dt).noteView_fetchEntry n id u.key) :)
    rw [Ctl.cyclic_due _ _ hsub hkind hdue, ← hc0]
    rw [← hc0] at hv
    obtain ⟨hnote, hent, hout⟩ := c0.updSub_notify_sent (Sub.sent (s.ctl.up + dt)) (fun _ => rfl) 1 1 (c0.sample u.key) hx hu hdest hv
    refine ⟨?_, hent, hout.trans ?_⟩
    · refine (Ctl.map_sub _ _ _ fun v => (v.nseq, v.sentAt)).trans ?_
      exact congrArg (Option.map fun v : Machine.Sub => (v.nseq, v.sentAt)) hnote
    · unfold Ctl.datagram
      rw [hport, hkind]
      rfl
  · refine leaves_of_exec_eq_runC (exec_cyclicNotify ..) ?_
    have hsub : (s.ctl.advance dt).sub n id = some (x, u) := h
    obtain ⟨hx, hu, -⟩ := Ctl.sub_found hsub
    obtain ⟨v, hv⟩ := Ctl.sub_fetchEntry hsub u.key
    have hdrops : ((s.ctl.advance dt).fetchEntry u.key).e 0x54000D = s.ctl.e 0x54000D :=
      (congrArg (fun p => p.2.2.2) ((s.ctl.advance dt).noteView_fetchEntry n id u.key) :)
    rw [Ctl.cyclic_due _ _ hsub hkind hdue]
    obtain ⟨hnote, hcount⟩ := Ctl.updSub_notify_dropped _ (Sub.sent (s.ctl.up + dt)) (fun _ => rfl) 1 1
      (((s.ctl.advance dt).fetchEntry u.key).sample u.key) hx hu hv
    rw [hdrops] at hcount
    exact ⟨Ctl.map_sub_head Sub.nseq (fun _ => rfl) hnote, hcount⟩
  · refine leaves_of_exec_eq_runC (exec_onChangeNotify ..) ?_
    have hsub : (s.ctl.advance dt).sub n id = some (x, u) := h
    obtain ⟨hx, hu, -⟩ := Ctl.sub_found hsub
    obtain ⟨v, hv⟩ := Ctl.sub_fetchEntry hsub u.key
    have hport : c0.dy.udpPort = s.ctl.dy.udpPort := hc0 ▸ (congrArg (fun p => p.2.1) ((s.ctl.advance dt).noteView_fetchEntry n id u.key) :)
    rw [Ctl.onChange_due _ _ hsub hkind (hc0 ▸ hnew) hdue, ← hc0]
    rw [← hc0] at hv
    obtain ⟨hnote, -, hout⟩ := c0.updSub_notify_sent (Sub.told (s.ctl.up + dt) (c0.entRead u.key true)) (fun _ => rfl) 1 1 (c0.sample u.key) hx hu hdest hv
    refine ⟨?_, hout.trans ?_⟩
    · refine (Ctl.map_sub _ _ _ fun v => (v.nseq, v.sentAt, v.last)).trans ?_
      exact congrArg (Option.map fun v : Machine.Sub => (v.nseq, v.sentAt, v.last)) hnote
    · unfold Ctl.datagram
      rw [hport, hkind]
      rfl
  · refine leaves_of_exec_eq_runC (exec_onChangeNotify ..) ?_
    have hsub : (s.ctl.advance dt).sub n id = some (x, u) := h
    obtain ⟨hx, hu, -⟩ := Ctl.sub_found hsub
    obtain ⟨v, hv⟩ := Ctl.sub_fetchEntry hsub u.key
    rw [Ctl.onChange_due _ _ hsub hkind (hc0 ▸ hnew) hdue, ← hc0]
    rw [← hc0] at hv
    obtain ⟨hnote, hcount⟩ := c0.updSub_notify_dropped (Sub.told (s.ctl.up + dt) (c0.entRead u.key true)) (fun _ => rfl) 1 1 (c0.sample u.key) hx hu hv
    exact ⟨Ctl.map_sub_head (fun v => (v.nseq, v.last)) (fun _ => rfl) hnote, hcount⟩
  · refine leaves_of_exec_eq_runC (exec_eventBatchSend ..) ?_
    have hsub : (s.ctl.advance dt).sub n id = some (x, u) := h
    obtain ⟨hx, hu, hv⟩ := Ctl.sub_found hsub
    rw [Ctl.eventBatch_due _ _ hsub hkind hfirst hdue hroom]
    obtain ⟨hnote, -, hout⟩ := (s.ctl.advance dt).updSub_notify_sent (Sub.emptied (min 255 (eventRoom x / 16))) (fun _ => rfl) u.recs.length u.recs.length
      (u.recs.flatMap EvRec.octets) hx hu hdest hv
    refine ⟨?_, hout.trans ?_⟩
    · refine (Ctl.map_sub _ _ _ fun v => (v.nseq, v.recs)).trans ?_
      refine (congrArg (Option.map fun v : Machine.Sub => (v.nseq, v.recs)) hnote).trans ?_
      exact congrArg (fun l => some ((u.nseq + u.recs.length) % 2 ^ 32, l)) (List.drop_eq_nil_of_le hroom)
    · rw [hkind]
      rfl
  · refine leaves_of_exec_eq_runC (exec_eventBatchSend ..) ?_
    have hsub : (s.ctl.advance dt).sub n id = some (x, u) := h
    obtain ⟨hx, hu, hv⟩ := Ctl.sub_found hsub
    rw [Ctl.eventBatch_due _ _ hsub hkind hfirst hdue hroom]
    obtain ⟨hnote, hcount⟩ := (s.ctl.advance dt).updSub_notify_dropped (Sub.emptied (min 255 (eventRoom x / 16))) (fun _ => rfl) u.recs.length u.recs.length
      (u.recs.flatMap EvRec.octets) hx hu hv
    exact ⟨Ctl.map_sub_head Sub.nseq (fun _ => rfl) hnote, hcount⟩

end

section
/-! PROOFS. The mailbox answers in its buffer (17 R489): a READ that a function's mailbox brings. -/
namespace Sys2Proof.Machine

/-! ### What the image manager is to put into DRAM plays no part in a read (17 R489) -/

/-- Two branches on one test, each without what the image manager is to put there. -/
theorem ite_noFills {p : Prop} [Decidable p] {a b a' b' : Ctl} (ha : a = a'.noFills) (hb : b = b'.noFills) :
    (if p then a else b) = Ctl.noFills (if p then a' else b') := by
  split
  · exact ha
  · exact hb

theorem Ctl.noFills_enqueue (c : Ctl) (q : Nat) (r : EvRec) : c.noFills.enqueue q r = (c.enqueue q r).noFills := by
  unfold Ctl.enqueue
  exact ite_noFills rfl (ite_noFills rfl rfl)

theorem Ctl.noFills_raiseIrq (c : Ctl) (b : Nat) : c.noFills.raiseIrq b = (c.raiseIrq b).noFills := by
  unfold Ctl.raiseIrq
  refine ite_noFills rfl ?_
  extract_lets d e f g
  have hd : d = f.noFills := ite_noFills rfl rfl
  unfold e g
  rw [hd]
  rfl

theorem Ctl.noFills_eventBit (c : Ctl) (code : Nat) : c.noFills.eventBit code = (c.eventBit code).noFills := by
  unfold Ctl.eventBit
  split <;> rfl

theorem Ctl.noFills_tell (c : Ctl) (code : Nat) (r : EvRec) : c.noFills.tell code r = (c.tell code r).noFills := by
  unfold Ctl.tell
  rw [← Ctl.noFills_eventBit, ← Ctl.noFills_raiseIrq, ← Ctl.noFills_enqueue, ← Ctl.noFills_enqueue]
  rfl

theorem Ctl.noFills_logAdd (c : Ctl) (r : EvRec) (cls outcome window : Nat) (hist : Bool) :
    c.noFills.logAdd r cls outcome window hist = (c.logAdd r cls outcome window hist).noFills := by
  have hcount : ∀ (d : Ctl) i j k m n, ((d.noFills.addE i 1).setE j m).setE k n = (((d.addE i 1).setE j m).setE k n).noFills := fun _ _ _ _ _ _ => rfl
  have hput : c.noFills.logPut r cls outcome window hist = (c.logPut r cls outcome window hist).noFills := by
    have he : ∀ k, c.noFills.e k = c.e k := fun _ => rfl
    have hcpb : c.noFills.cpbUp = c.cpbUp := rfl
    unfold Ctl.logPut
    simp only [he, hcpb, show c.noFills.fm = c.fm from rfl, show c.noFills.bt = c.bt from rfl]
    rfl
  unfold Ctl.logAdd
  rw [hput]
  generalize c.logPut r cls outcome window hist = d
  unfold Ctl.logCount
  exact hcount _ _ _ _ _ _

theorem Ctl.noFills_sequence (c : Ctl) (code : Nat) (r : EvRec) : c.noFills.sequence code r = (c.sequence code r).noFills := by
  unfold Ctl.sequence
  extract_lets low
  exact ite_noFills rfl (ite_noFills (c.noFills_logAdd ..) rfl)

theorem Ctl.noFills_post (c : Ctl) (code : Nat) (items : List (Nat × Nat)) : c.noFills.post code items = (c.post code items).noFills := by
  have hone : ∀ (d : Ctl) code items, d.noFills.postOne code items = (d.postOne code items).noFills := fun d code items => by
    unfold Ctl.postOne
    rw [← Ctl.noFills_sequence, ← Ctl.noFills_tell]
    rfl
  have hdrops : ∀ (d : Ctl) q, d.noFills.postDrops q = (d.postDrops q).noFills := fun d q => by
    unfold Ctl.postDrops
    extract_lets n due m late
    exact ite_noFills rfl (hone { d with hi := { d.hi with dropCount := aDel d.hi.dropCount q, dropPosted := aSet d.hi.dropPosted q d.up } } _ _)
  unfold Ctl.post
  rw [← hdrops, ← hdrops, ← hone]

theorem foldl_noFills {α : Type} (f : Ctl → α → Ctl) (hf : ∀ (c : Ctl) (a : α), f c.noFills a = (f c a).noFills) (l : List α) (c : Ctl) :
    l.foldl f c.noFills = (l.foldl f c).noFills := by
  induction l generalizing c with
  | nil => rfl
  | cons a l ih => rw [List.foldl_cons, List.foldl_cons, hf, ih]

theorem Ctl.noFills_mcRun (c : Ctl) : c.noFills.mcRun = c.mcRun.noFills := by
  unfold Ctl.mcRun
  refine ite_noFills rfl (ite_noFills rfl ?_)
  extract_lets woken d rs miss rank e woken' d' rs' miss' rank' e'
  have hmiss : miss = miss' := rfl
  have he : e = e'.noFills := rfl
  rw [he, hmiss]
  refine foldl_noFills _ ?_ _ _
  intro x p
  exact ite_noFills rfl rfl

theorem Ctl.noFills_lostWord (c : Ctl) (w : Nat) : c.noFills.lostWord w = (c.lostWord w).noFills := by
  have hbt : ∀ f : BtState → BtState, c.noFills.setBt f = (c.setBt f).noFills := fun _ => rfl
  unfold Ctl.lostWord
  refine ite_noFills rfl (ite_noFills (hbt _) (ite_noFills (hbt _) (ite_noFills (hbt _) (ite_noFills (hbt _) ?_))))
  split <;> rfl

theorem Ctl.noFills_mramUse (c : Ctl) (f : Nat → Bool) : c.noFills.mramUse f = (c.mramUse f).noFills := by
  have hwords : c.noFills.mramWords f = ((c.mramWords f).1.noFills, (c.mramWords f).2) := rfl
  unfold Ctl.mramUse
  rw [hwords]
  refine foldl_noFills _ (fun d w => ?_) _ _
  rw [d.noFills_lostWord]
  exact foldl_noFills _ (fun d ev => d.noFills_post _ _) _ _

theorem Ctl.noFills_toDefault (c : Ctl) (k : Nat) : c.noFills.toDefault k = (c.toDefault k).noFills := by
  unfold Ctl.toDefault
  exact ite_noFills rfl rfl

theorem Ctl.noFills_showRole (c : Ctl) : c.noFills.showRole = c.showRole.noFills := by
  unfold Ctl.showRole
  extract_lets bad d bad' d'
  have hd : d = d'.noFills := ite_noFills (c.noFills_post _ _) rfl
  have hrole : ∀ x : Ctl, x.noFills.roleNow = x.roleNow := fun _ => rfl
  rw [hd, hrole]
  rfl

theorem Ctl.noFills_setTarget (c : Ctl) (t : Nat) : c.noFills.setTarget t = (c.setTarget t).noFills := by
  unfold Ctl.setTarget
  refine ite_noFills rfl ?_
  extract_lets u d u' d'
  have hd : d = d'.noFills := ite_noFills rfl rfl
  rw [hd]
  rfl

theorem Ctl.noFills_keyWrite (c : Ctl) (i : Nat) (b : List Byte) : c.noFills.keyWrite (i + 2) b = (c.keyWrite (i + 2) b).noFills := by
  have hsave : ∀ (d : Ctl) k v, d.noFills.saveEv k v = (d.saveEv k v).noFills := fun d k v => by
    unfold Ctl.saveEv
    exact ite_noFills rfl rfl
  unfold Ctl.keyWrite
  refine ite_noFills rfl ?_
  rw [if_neg (by omega), if_neg (by omega), if_neg (by omega), if_neg (by omega), ← Ctl.noFills_post, ← hsave]
  rfl

theorem Ctl.noFills_setTb (c : Ctl) (f : TbState → TbState) : c.noFills.setTb f = (c.setTb f).noFills := rfl
theorem Ctl.noFills_setE (c : Ctl) (k n : Nat) : c.noFills.setE k n = (c.setE k n).noFills := rfl
theorem Ctl.noFills_setEa (c : Ctl) (x i n : Nat) : c.noFills.setEa x i n = (c.setEa x i n).noFills := rfl
theorem Ctl.e_noFills (c : Ctl) (k : Nat) : c.noFills.e k = c.e k := rfl
theorem Ctl.ea_noFills (c : Ctl) (x i : Nat) : c.noFills.ea x i = c.ea x i := rfl

theorem Ctl.noFills_safeEnds (c : Ctl) : c.noFills.safeEnds = c.safeEnds.noFills := by
  have htwo : ∀ (x : Ctl) (p q : Prop) [Decidable p] [Decidable q] (m n : Nat) (i j : List (Nat × Nat)),
      (if q then (if p then x.noFills.post m i else x.noFills).post n j else if p then x.noFills.post m i else x.noFills) =
        Ctl.noFills (if q then (if p then x.post m i else x).post n j else if p then x.post m i else x) := fun x p q _ _ m n i j => by
    split <;> split <;> simp only [Ctl.noFills_post]
  have hsettle : ∀ (d : Ctl) was code, d.noFills.settleSafe was code = (d.settleSafe was code).noFills := fun d was code => by
    unfold Ctl.settleSafe
    simp only [show d.noFills.fm = d.fm from rfl, Ctl.noFills_setE]
    exact htwo _ _ _ _ _ _ _
  have hend : ∀ f, c.noFills.endSafe f = (c.endSafe f).noFills := fun f => by
    unfold Ctl.endSafe
    exact ite_noFills rfl (hsettle { c with fm := { c.fm with causes := c.fm.causes.filter (fun x => !f x) } } _ _)
  unfold Ctl.safeEnds
  extract_lets may d may' d'
  have hd : d = d'.noFills := hend _
  clear_value d d'
  subst hd
  exact ite_noFills rfl rfl

theorem Ctl.noFills_seriesWritten (c : Ctl) : c.noFills.seriesWritten = c.seriesWritten.noFills := by
  unfold Ctl.seriesWritten
  simp only [Ctl.e_noFills]
  exact ite_noFills (c.noFills_setTb _) rfl

theorem Ctl.noFills_railAddr (c : Ctl) (r : Nat) : (c.noFills.railAddr r).powerTotal = (c.railAddr r).powerTotal.noFills := by
  have hrail : c.noFills.railAddr r = (c.railAddr r).noFills := by
    unfold Ctl.railAddr
    exact ite_noFills rfl rfl
  rw [hrail]
  unfold Ctl.powerTotal
  simp only [Ctl.ea_noFills, Ctl.noFills_setE]
  rfl

theorem Ctl.noFills_domainEnable (c : Ctl) (d : Nat) : c.noFills.domainEnable d 1 = (c.domainEnable d 1).noFills := by
  unfold Ctl.domainEnable Ctl.setDom Ctl.domState
  dsimp only
  rw [if_pos rfl, if_pos rfl]
  exact ite_noFills ((c.setEa 0x2301 d 1).noFills_setEa _ _ _) (c.noFills_setEa _ _ _)

/-- Two branches on one test, which each knows. -/
theorem dite_noFills {p : Prop} [Decidable p] {a b a' b' : Ctl} (ha : p → a = a'.noFills) (hb : ¬ p → b = b'.noFills) :
    (if p then a else b) = Ctl.noFills (if p then a' else b') := by
  split
  next h => exact ha h
  next h => exact hb h

theorem Ctl.noFills_written_default (c : Ctl) {k : Nat} (hlight : lightKey k = true) (hfloor : k = 0x110505 → c.e k = 0) :
    c.noFills.written k (dfltVal k) = (c.written k (dfltVal k)).noFills := by
  simp only [lightKey, List.all_cons, List.all_nil, Bool.and_true, Bool.and_eq_true, decide_eq_true_eq] at hlight
  obtain ⟨⟨⟨⟨hkeys, hidx⟩, hdc⟩, hck⟩, hon⟩ := hlight
  unfold Ctl.written
  simp only [hkeys, hidx, hdc, hck, Bool.and_eq_true, decide_eq_true_eq, if_false]
  refine dite_noFills (fun _ => c.noFills_showRole) fun _ => dite_noFills (fun _ => ?_) fun _ => dite_noFills (fun hport => ?_) fun _ => dite_noFills (fun hdom => ?_) fun _ =>
    dite_noFills (fun _ => c.noFills_seriesWritten) fun _ => dite_noFills (fun _ => c.noFills_setTarget _) fun _ => dite_noFills (fun hk => ?_) fun _ =>
    dite_noFills (fun _ => c.noFills_keyWrite _ _) fun _ => dite_noFills (fun _ => c.noFills_safeEnds) fun _ => rfl
  · exact c.noFills_railAddr _
  · rw [hon (.inl hport)]
    rfl
  · rw [hon (.inr hdom)]
    exact c.noFills_domainEnable _
  · rw [c.floorWritten_zero (hk ▸ hfloor hk), c.noFills.floorWritten_zero (hk ▸ hfloor hk)]

/-- An entry of the store that MRAM lost is none but those. -/
theorem Ctl.lightKey_of_lost (c : Ctl) (k : Nat) (hhad : (aGet c.nv k).isSome = true)
    (hlost : (aGet (c.mramUse fun w => (homeWords k).contains w).nv k).isNone = true) : lightKey k = true := by
  refine lightKey_of_homeWords fun hnone => ?_
  rw [c.nv_mramUse_none fun w => by rw [hnone]; rfl, Option.isNone_iff_eq_none] at hlost
  rw [hlost] at hhad
  exact Bool.noConfusion hhad

theorem Ctl.noFills_fetchEntry (c : Ctl) (k : Nat) : c.noFills.fetchEntry k = (c.fetchEntry k).noFills := by
  unfold Ctl.fetchEntry
  extract_lets d had e d' had' e'
  have hd : d = d'.noFills := ite_noFills c.noFills_mcRun rfl
  have hhad : had = had' := by unfold had had'; rw [hd]; rfl
  have he : e = e'.noFills := by unfold e; rw [hd]; exact d'.noFills_mramUse _
  rw [hd, hhad, he]
  refine ite_noFills rfl (dite_noFills (fun hlost => ?_) fun _ => rfl)
  obtain ⟨hsome, hnone⟩ := Bool.and_eq_true_iff.1 hlost
  rw [e'.noFills_toDefault]
  refine (e'.toDefault k).noFills_written_default (d'.lightKey_of_lost k hsome hnone) fun hfloor => ?_
  rw [hfloor]
  exact congrArg EVal.toNum ((e'.ev_toDefault _ _).trans (if_pos rfl))

/-! ### What a READ answers (16 R456) -/

/-- The entries that a READ asks for are read. -/
def Ctl.fetched (c : Ctl) (b : List Byte) : Ctl :=
  (List.range (u8At b 0)).foldl (fun c i => c.fetchEntry (leAt b (4 + 4 * i) 2 * 256 + u8At b (6 + 4 * i))) c

theorem Ctl.noFills_fetched (c : Ctl) (b : List Byte) : c.noFills.fetched b = (c.fetched b).noFills :=
  foldl_noFills (fun c i => c.fetchEntry (leAt b (4 + 4 * i) 2 * 256 + u8At b (6 + 4 * i))) (fun d _ => d.noFills_fetchEntry _) _ c

/-- What an answer through the mailbox rests on. -/
def Ctl.mailView (c : Ctl) : Bool × Nat := (c.dy.serving, c.hi.mbxReply.length)

theorem Ctl.mailView_post (c : Ctl) (code : Nat) (items : List (Nat × Nat)) : (c.post code items).mailView = c.mailView :=
  congrArg₂ Prod.mk (c.serving_post code items).1 (congrArg (fun h : HiState => h.mbxReply.length) (c.hiKept_post code items) :)

theorem Ctl.mailView_fetched (c : Ctl) (b : List Byte) : (c.fetched b).mailView = c.mailView :=
  foldl_keeps Ctl.mailView _ _ c fun d _ _ =>
    Ctl.fetchEntry_keeps Ctl.mailView (fun _ _ h => congrArg (fun p : Nat × DyState × HiState × Nat => (p.2.1.serving, p.2.2.1.mbxReply.length)) h)
      (fun x code items _ => x.mailView_post code items) d _

theorem Ctl.entOctets_noFills (c : Ctl) (k : Nat) (active : Bool) : c.noFills.entOctets k active = c.entOctets k active := by
  have htest : ∀ l, c.noFills.settleTest l = (c.settleTest l).noFills := fun l => by
    unfold Ctl.settleTest
    rw [show c.noFills.lane l = c.lane l from rfl]
    split <;> rfl
  have hcalc : c.noFills.calcEnt k = c.calcEnt k := by
    unfold Ctl.calcEnt
    simp only [htest, Ctl.ea_noFills]
    rfl
  have hval : c.noFills.entVal k = c.entVal k := by
    unfold Ctl.entVal
    rw [hcalc]
    rfl
  unfold Ctl.entOctets Ctl.entRead
  rw [hval]
  rfl

theorem Ctl.readReply_noFills (c : Ctl) (room : Nat) (b : List Byte) : c.noFills.readReply room b = c.readReply room b := by
  have haccess : ∀ k, c.noFills.itemAccess true k false = c.itemAccess true k false := fun _ => rfl
  have hone : ∀ x, c.noFills.readOne x = c.readOne x := fun x => by
    unfold Ctl.readOne
    simp only [Ctl.entOctets_noFills, haccess]
  unfold Ctl.readReply
  simp only [hone]

theorem Ctl.serve_read (c : Ctl) (store : Bool) (src : VAddr) (x : Option Sess) (room : Nat) {m : List Byte} (h : u8At m 1 = 1) :
    c.serve store src x room m = (c.fetched (vosBody m), 0, (c.fetched (vosBody m)).readReply room (vosBody m)) := by
  unfold Ctl.serve
  dsimp only
  rw [if_pos h]
  rfl

/-- A request whose SEQ is above the last is no replay (16 R461). -/
theorem replayed_eq_false {x : Sess} {f : Nat → Int} (h : (!x.installer || x.lastSeq.all fun q => decide (0 < f q)) = true) :
    (some x).any (fun s : Sess => s.installer && s.lastSeq.any fun q => decide (f q ≤ 0)) = false := by
  cases hinst : x.installer with
  | false => simp [hinst]
  | true =>
    rw [hinst] at h
    cases hlast : x.lastSeq with
    | none => simp [hlast]
    | some q =>
      rw [hlast] at h
      simpa [hinst, hlast] using h

/-- An admitted READ without a MAC is answered from the entries as their reading finds them. -/
theorem Ctl.vostan_read (c : Ctl) (store : Bool) {src : VAddr} {x : Sess} {m : List Byte} (hadmits : c.admits src (some x) m = true) (hread : u8At m 1 = 1)
    (hks : x.ks = []) :
    c.vostan store src m = ((c.heard (some x) m).fetched (vosBody m)).answer src m x.num
      (vosReply m x.num 0 (((c.heard (some x) m).fetched (vosBody m)).readReply (vosMax src.tr - 16) (vosBody m)) []) := by
  unfold Ctl.admits at hadmits
  simp only [Bool.and_eq_true, decide_eq_true_eq] at hadmits
  obtain ⟨⟨⟨⟨⟨⟨⟨⟨⟨⟨⟨⟨⟨hserving, hcpa⟩, htadpole⟩, hmin⟩, hmax⟩, hreply⟩, hversion⟩, hlo⟩, hhi⟩, hformat⟩, hown⟩, hok⟩, hsess⟩, ⟨⟨hopen, hagain⟩, hmac⟩, hseq⟩ := hadmits
  rw [if_pos (by rw [hks]; rfl), Bool.not_eq_true'] at hmac
  have hserved : ((c.heard (some x) m).fetched (vosBody m)).dy.serving = true :=
    (congrArg Prod.fst ((c.heard (some x) m).mailView_fetched (vosBody m)) :).trans hserving
  have hrepeat : (some x).any (fun s : Sess => !s.lastReply.isEmpty && decide (s.lastReq = vosSame m)) = false := by
    rcases Bool.or_eq_true_iff.1 hagain with hempty | hother
    · simp [hempty]
    · simp [of_decide_eq_true hother]
  have horder : (some x).any (fun s : Sess => s.installer && s.lastSeq.any fun q => decide (toSigned 32 (leAt m 8 4 + 2 ^ 32 - q) ≤ 0)) = false :=
    replayed_eq_false hseq
  have hin : c.vosIn store src (some x) true m = ((c.heard (some x) m).fetched (vosBody m)).answer src m x.num
      (vosReply m x.num 0 (((c.heard (some x) m).fetched (vosBody m)).readReply (vosMax src.tr - 16) (vosBody m)) []) := by
    unfold Ctl.vosIn
    dsimp only
    simp only [Option.elim_some, hks]
    rw [hrepeat, horder]
    rw [if_neg (by rw [Bool.false_and]; decide), if_neg (by rw [List.isEmpty_nil, Bool.not_true, Bool.false_and]; decide),
      if_neg (by rw [hmac]; decide), if_neg (by decide), if_neg (by decide), if_neg (by decide), if_neg (by rw [hread]; decide), Ctl.serve_read _ _ _ _ _ hread,
      List.isEmpty_nil, if_pos rfl, Nat.sub_zero]
    exact if_pos hserved
  unfold Ctl.vostan
  dsimp only
  have hbits : bit (u8At m 2) 0 = false := by simpa using hreply
  have htransport : ¬ (c.tadpole = true ∧ src.tr ≠ 0) := by
    rintro ⟨hmode, htr⟩
    simp [hmode, htr] at htadpole
  rw [hown, if_neg (by simp only [hserving, hcpa, Bool.not_true, Bool.false_or, Bool.or_eq_true, Bool.and_eq_true, decide_eq_true_eq]; tauto),
    if_neg (by simp only [hbits, hread, Bool.or_eq_true, decide_eq_true_eq, Bool.false_eq_true, or_false]; omega), if_neg (by omega),
    if_neg (by simp only [Bool.or_eq_true, decide_eq_true_eq]; omega), if_neg (by rw [hformat]; decide), if_neg (by simp), if_neg (by rw [hok]; decide), hsess]
  dsimp only
  rw [if_pos hopen]
  exact hin

/-! ### GO (17 R489) -/

/-- A pending or a sent vector is no part of what the mailbox shows. -/
theorem Ctl.msixSend_shows (c : Ctl) (fn v : Nat) : (c.msixSend fn v).regs = c.regs ∧ (c.msixSend fn v).ent = c.ent ∧ (c.msixSend fn v).shadow = c.shadow ∧
    (c.msixSend fn v).hi.mbxReply = c.hi.mbxReply ∧ (c.msixSend fn v).xz = c.xz := by
  unfold Ctl.msixSend
  split <;> exact ⟨rfl, rfl, rfl, rfl, rfl⟩

/-- GO with a READ: its reply stands in the buffer. -/
theorem Ctl.mailboxGo_read (c : Ctl) (store : Bool) {k : Nat} {x : Sess} {c0 d : Ctl} {m reply : List Byte} (hfree : c.reg .hiMbxCtrl k 2 = 0)
    (hk : k < c.hi.mbxReply.length) (hc0 : c0 = c.setHi fun h => { h with mbxReply := setAt h.mbxReply k [] }) (hm : m = c0.mbxMsg k)
    (hadmits : c0.admits ⟨2, k, 0⟩ (some x) m = true) (hread : u8At m 1 = 1) (hks : x.ks = []) (hd : d = (c0.heard (some x) m).fetched (vosBody m))
    (hreply : reply = vosReply m x.num 0 (d.readReply 4080 (vosBody m)) []) :
    (c.mailboxGo k store).reg .hiMbxCtrl k 2 = 1 ∧ (c.mailboxGo k store).ent = d.ent ∧ (c.mailboxGo k store).shadow = d.shadow ∧
      (c.mailboxGo k store).hi.mbxReply.getD k [] = reply ∧ (c.mailboxGo k store).xz = d.xz := by
  have hsent : c0.vostan store ⟨2, k, 0⟩ m = d.answer ⟨2, k, 0⟩ m x.num reply := by
    rw [c0.vostan_read store hadmits hread hks, hreply, hd]
    rfl
  have hlen : k < d.hi.mbxReply.length := by
    have hkept := (congrArg Prod.snd ((c0.heard (some x) m).mailView_fetched (vosBody m)) :)
    rw [hd]
    refine lt_of_lt_of_eq hk (Eq.symm (hkept.trans ?_))
    rw [hc0]
    exact List.length_set ..
  have hbuf : (d.answer ⟨2, k, 0⟩ m x.num reply).hi.mbxReply.getD k [] = reply := by
    change (setAt d.hi.mbxReply k reply).getD k [] = reply
    unfold setAt
    rw [List.getD_eq_getElem?_getD, List.getElem?_set_self hlen]
    rfl
  have hsome : (((d.answer ⟨2, k, 0⟩ m x.num reply).hi.mbxReply.getD k []).isEmpty = true) = False := by
    rw [hbuf, hreply]
    exact eq_false Bool.false_ne_true
  have hgo : c.mailboxGo k store = ((d.answer ⟨2, k, 0⟩ m x.num reply).setReg .hiMbxCtrl k 2 1).msixSend k 64 := by
    unfold Ctl.mailboxGo
    rw [if_neg (by rw [hfree]; decide)]
    dsimp only
    rw [← hc0, ← hm, hsent, if_neg (by rw [hsome]; exact id)]
  obtain ⟨hregs, hent, hshadow, hmail, hxz⟩ := ((d.answer ⟨2, k, 0⟩ m x.num reply).setReg .hiMbxCtrl k 2 1).msixSend_shows k 64
  rw [hgo, hent, hshadow, hmail, hxz]
  refine ⟨?_, rfl, rfl, hbuf, rfl⟩
  unfold Ctl.reg at hfree ⊢
  rw [hregs]
  exact (Ctl.reg_setReg ..).trans (if_pos rfl)

theorem exec_mailboxGo (dt : Nat) (fn : Fn) (store : Bool) (s : State) :
    exec (.mailboxGo dt fn store) s = runF (fun c => (c.advance dt).mailboxGo (fnNum fn) store) s := rfl

/-- A command that may fill an image slot and fills none. -/
theorem leaves_of_exec_eq_runF {i : Instr} {f : Ctl → Ctl} {s : State} {d : Ctl} {P : Ctl → Prop} (h : exec i s = runF f s) (hd : f s.ctl.noFills = d)
    (hfills : d.xz.fills = []) (hP : P { d.noFills with mc := { d.mc with fixes := [] } }) : leaves i s P :=
  leaves_of_exec_eq_runM h (by rw [hd]; exact flushFills_of_fills_eq_nil _ _ hfills) hP

end Sys2Proof.Machine

open Sys2Proof Sys2Proof.Machine

/-- Settles O28: a READ is answered from what reading its entries finds (`Ctl.vostan_read`), and its reply stands in the buffer (`Ctl.mailboxGo_read`). -/
theorem mailboxAnswersInItsBuffer : Obligations.MailboxAnswersInItsBuffer := by
  unfold Obligations.MailboxAnswersInItsBuffer
  refine ⟨fun dt fn k m x c0 c1 s hfn hfree hk hc0 hm hadmits hread hks hc1 => ?_, fun dt fn k s hfn hheld => ?_⟩
  · have hnum : k = fnNum fn := by cases fn <;> exact hfn
    have hread1 : c1 = (c0.heard (some x) m).fetched (vosBody m) := hc1
    obtain ⟨hreg, hent, hshadow, hbuf, hxz⟩ := ((s.ctl.noFills.advance dt).mailboxGo_read true (c0 := c0.noFills) (d := c1.noFills) (m := m)
      (reply := vosReply m x.num 0 (c1.readReply 4080 (vosBody m)) []) hfree hk (by rw [hc0]; rfl) hm hadmits hread hks
      (by rw [hread1, ← Ctl.noFills_fetched]; rfl) (by rw [Ctl.readReply_noFills]))
    refine leaves_of_exec_eq_runF (exec_mailboxGo ..) (by rw [← hnum]) (by rw [hxz]; rfl) ?_
    exact ⟨hreg, hent, hshadow, hbuf⟩
  · have hnum : k = fnNum fn := by cases fn <;> exact hfn
    have hgo : (s.ctl.noFills.advance dt).mailboxGo k true = (s.ctl.noFills.advance dt).setReg .hiMbxCtrl k 4 1 := if_pos hheld
    refine leaves_of_exec_eq_runF (exec_mailboxGo ..) (by rw [← hnum, hgo]) rfl ?_
    refine ⟨(Ctl.reg_setReg ..).trans (if_pos rfl), ((Ctl.reg_setReg ..).trans (if_neg ?_)).trans hheld, rfl, rfl, rfl⟩
    simp

end

section
/-! PROOFS. The end of the start (14 R404, R405, 18 R504): what the last steps leave of memory, of the boot part and of the image manager. -/
namespace Sys2Proof.Machine

/-! ### What the steps of the start leave -/

/-- The uptime, the boot part but for its record, the memory controller and the image manager. -/
def Ctl.coreView (c : Ctl) : Nat × BtState × McState × XzState := (c.up, c.bt.offRec, c.mc, c.xz)

theorem Ctl.coreView_setE (c : Ctl) (k n : Nat) : (c.setE k n).coreView = c.coreView := rfl
theorem Ctl.coreView_setEa (c : Ctl) (x i n : Nat) : (c.setEa x i n).coreView = c.coreView := rfl
theorem Ctl.coreView_setRg (c : Ctl) (f : RgState → RgState) : (c.setRg f).coreView = c.coreView := rfl
theorem Ctl.coreView_setRgPort (c : Ctl) (p : Nat) (f : RgPort → RgPort) : (c.setRgPort p f).coreView = c.coreView := rfl
theorem Ctl.coreView_setPort (c : Ctl) (p : Nat) (f : Port → Port) : (c.setPort p f).coreView = c.coreView := rfl
theorem Ctl.coreView_setLane (c : Ctl) (l : Nat) (f : Lane → Lane) : (c.setLane l f).coreView = c.coreView := rfl

theorem Ctl.coreView_post (c : Ctl) (code : Nat) (items : List (Nat × Nat)) : (c.post code items).coreView = c.coreView :=
  Ctl.of_kept Ctl.coreView (fun _ => rfl) (c.kept_post code items)

theorem Ctl.coreView_writeBoot (c : Ctl) (f : BootRec → BootRec) : (c.writeBoot f).coreView = c.coreView :=
  Ctl.of_offRec Ctl.coreView (fun _ => rfl) (c.offRec_writeBoot f)

theorem Ctl.coreView_sideSend (c : Ctl) (p ty dst : Nat) (body : List Byte) : (c.sideSend p ty dst body).coreView = c.coreView :=
  (congrArg Ctl.coreView (c.offSide_sideSend p ty dst body) :)

theorem Ctl.coreView_showIslands (c : Ctl) : c.showIslands.coreView = c.coreView := foldl_keeps Ctl.coreView _ _ c fun _ _ _ => rfl

theorem Ctl.coreView_showRole (c : Ctl) : c.showRole.coreView = c.coreView := by
  unfold Ctl.showRole
  extract_lets bad d
  exact (ite_keeps Ctl.coreView (c.coreView_post _ _) rfl : d.coreView = c.coreView)

theorem Ctl.coreView_eventBit (c : Ctl) (code : Nat) : (c.eventBit code).coreView = c.coreView := by
  unfold Ctl.eventBit
  split <;> rfl

theorem Ctl.coreView_ringWarn (c : Ctl) (code p : Nat) (items : List (Nat × Nat)) : (c.ringWarn code p items).coreView = c.coreView := by
  unfold Ctl.ringWarn
  extract_lets k
  exact ite_keeps Ctl.coreView (c.coreView_eventBit code) (Ctl.coreView_post ..)

theorem Ctl.coreView_refreshKeep (c : Ctl) : c.refreshKeep.coreView = c.coreView := by
  unfold Ctl.refreshKeep
  extract_lets d was k e f
  have hd : d.coreView = c.coreView := foldl_keeps Ctl.coreView _ _ c fun _ _ _ => rfl
  have he : e.coreView = c.coreView := hd
  have hf : f.coreView = c.coreView := ite_keeps Ctl.coreView ((Ctl.coreView_ringWarn ..).trans he) he
  exact ite_keeps Ctl.coreView ((Ctl.coreView_post ..).trans hf) hf

theorem Ctl.coreView_ringDown (c : Ctl) (p : Nat) : (c.ringDown p).coreView = c.coreView := by
  unfold Ctl.ringDown
  refine ite_keeps Ctl.coreView rfl ?_
  exact (Ctl.coreView_refreshKeep _).trans rfl

theorem Ctl.coreView_enumDone (c : Ctl) (tiles : List Nat) (closed : Nat) : (c.enumDone tiles closed).coreView = c.coreView := by
  cases hcpa : c.cpaUp with
  | false =>
    unfold Ctl.enumDone
    rw [if_pos (by rw [hcpa]; decide)]
  | true =>
    have hshown : (c.enumShown tiles closed).coreView = c.coreView := rfl
    rw [c.enumDone_eq tiles closed hcpa]
    refine ite_keeps Ctl.coreView hshown ?_
    exact (Ctl.enumEvents_keeps Ctl.coreView (fun d code items _ => d.coreView_post code items) _ _ _).trans hshown

theorem Ctl.coreView_enumPass (c : Ctl) (tiles : List Nat) : (c.enumPass tiles).coreView = c.coreView := by
  unfold Ctl.enumPass
  refine ite_keeps Ctl.coreView rfl ?_
  refine ite_keeps Ctl.coreView (Ctl.coreView_sideSend ..) ?_
  exact (Ctl.coreView_enumDone ..).trans (Ctl.coreView_sideSend ..)

theorem Ctl.coreView_enumerate (c : Ctl) : c.enumerate.coreView = c.coreView := by
  unfold Ctl.enumerate
  exact ite_keeps Ctl.coreView rfl (ite_keeps Ctl.coreView rfl (ite_keeps Ctl.coreView rfl (Ctl.coreView_enumPass ..)))

theorem Ctl.coreView_enumFollow (c : Ctl) : c.enumFollow.coreView = c.coreView := by
  unfold Ctl.enumFollow
  exact ite_keeps Ctl.coreView c.coreView_enumerate rfl

theorem Ctl.coreView_enumSettled (c : Ctl) : c.enumSettled.coreView = c.coreView := by
  unfold Ctl.enumSettled
  exact ite_keeps Ctl.coreView ((Ctl.coreView_enumFollow _).trans c.coreView_enumerate) rfl

theorem Ctl.coreView_setLaneSt (c : Ctl) (l st : Nat) : (c.setLaneSt l st).coreView = c.coreView := by
  unfold Ctl.setLaneSt
  exact ite_keeps Ctl.coreView rfl rfl

theorem Ctl.coreView_laneSleep (c : Ctl) (l : Nat) : (c.laneSleep l).coreView = c.coreView := by
  unfold Ctl.laneSleep
  exact (Ctl.coreView_setLaneSt ..).trans rfl

theorem Ctl.coreView_laneBegin (c : Ctl) (l st : Nat) (solo : Bool) : (c.laneBegin l st solo).coreView = c.coreView := by
  unfold Ctl.laneBegin Ctl.latchEye Ctl.incEa Ctl.incE Ctl.addE
  dsimp only
  rw [Ctl.coreView_setEa, Ctl.coreView_setEa, Ctl.coreView_setEa, Ctl.coreView_setEa, Ctl.coreView_setE, Ctl.coreView_setLaneSt, Ctl.coreView_setLane,
    Ctl.coreView_setLane]

theorem Ctl.coreView_portSleep (c : Ctl) (p stage : Nat) (ask : Bool) : (c.portSleep p stage ask).coreView = c.coreView := by
  unfold Ctl.portSleep
  extract_lets d e
  have hd : d.coreView = c.coreView := c.coreView_ringDown p
  have he : e.coreView = d.coreView := foldl_keeps Ctl.coreView _ _ d fun x n _ => ite_keeps Ctl.coreView rfl (x.coreView_laneSleep _)
  clear_value d e
  rw [Ctl.coreView_enumSettled, Ctl.coreView_showRole, Ctl.coreView_setEa, Ctl.coreView_setEa, Ctl.coreView_setPort, he, hd]

theorem Ctl.coreView_portStart (c : Ctl) (p : Nat) : (c.portStart p).coreView = c.coreView := by
  unfold Ctl.portStart
  extract_lets d e f g
  have hd : d.coreView = c.coreView := c.coreView_ringDown p
  have hf : f.coreView = d.coreView := by
    unfold f e Ctl.latchPort
    rw [Ctl.coreView_setEa, Ctl.coreView_setEa, Ctl.coreView_setPort, Ctl.coreView_setPort]
  have hg : g.coreView = f.coreView := foldl_keeps Ctl.coreView _ _ f fun x n _ => ite_keeps Ctl.coreView rfl (x.coreView_laneBegin ..)
  clear_value d f g
  exact g.coreView_showRole.trans (hg.trans (hf.trans hd))

theorem Ctl.coreView_portEnable (c : Ctl) (p v : Nat) : (c.portEnable p v).coreView = c.coreView := by
  have hrest : (c.refuseRest p).coreView = c.coreView := foldl_keeps Ctl.coreView _ _ c fun d n _ => ite_keeps Ctl.coreView (Ctl.coreView_post ..) rfl
  have hclosed : ∀ d : Ctl, (d.closed p).coreView = d.coreView := fun d => by
    unfold Ctl.closed
    exact ite_keeps Ctl.coreView (Ctl.coreView_portSleep ..) rfl
  unfold Ctl.portEnable
  extract_lets d e f
  have he : e.coreView = c.coreView := (d.coreView_ringDown p).trans hrest
  have hf : f.coreView = e.coreView := e.coreView_setPort _ _
  refine ite_keeps Ctl.coreView rfl (ite_keeps Ctl.coreView ?_ ((d.coreView_portSleep ..).trans hrest))
  clear_value f e
  exact (Ctl.coreView_enumSettled _).trans ((hclosed _).trans
    ((foldl_keeps Ctl.coreView _ _ f fun x n _ => ite_keeps Ctl.coreView ((Ctl.coreView_setLane ..).trans (Ctl.coreView_setEa ..)) rfl).trans (hf.trans he)))

theorem Ctl.coreView_fieldUp (c : Ctl) (l : Nat) : (c.fieldUp l).coreView = c.coreView := by
  unfold Ctl.fieldUp
  refine ite_keeps Ctl.coreView ?_ ?_
  · exact (Ctl.coreView_setLaneSt ..).trans rfl
  · exact (Ctl.coreView_setLaneSt c l 0 :)

theorem Ctl.coreView_panelRest (c : Ctl) : c.panelRest.coreView = c.coreView :=
  foldl_keeps Ctl.coreView _ _ c fun _ _ _ => ite_keeps Ctl.coreView rfl rfl

theorem Ctl.coreView_timeStart (c : Ctl) : c.timeStart.coreView = c.coreView :=
  foldl_keeps Ctl.coreView _ _ c fun _ _ _ => ite_keeps Ctl.coreView rfl rfl

/-! ### The end of the start (18 R504 step 8) -/

/-- The boot part when the start is complete. -/
def BtState.started (b : BtState) (up : Nat) : BtState := { b with step := 8, startedAt := some up }

theorem Ctl.coreView_started (c : Ctl) : (c.setBt fun b => { b with step := 8, startedAt := some c.up }).coreView =
    (c.up, (c.bt.started c.up).offRec, c.mc, c.xz) := rfl

/-- Up to the load of the stored image. -/
theorem Ctl.startComplete_eq (c : Ctl) : ∃ d : Ctl, c.startComplete = d.storedLoad ∧ d.coreView = (c.up, (c.bt.started c.up).offRec, c.mc, c.xz) := by
  unfold Ctl.startComplete
  extract_lets us trial y d e f g h
  have he : e.coreView = c.coreView := by
    unfold e
    rw [Ctl.coreView_timeStart, Ctl.coreView_panelRest, Ctl.coreView_fieldUp, Ctl.coreView_fieldUp]
    rfl
  have hf : f.coreView = c.coreView := (foldl_keeps Ctl.coreView _ _ e fun x p _ =>
    ite_keeps Ctl.coreView rfl (ite_keeps Ctl.coreView (x.coreView_portStart p) (x.coreView_portEnable p 0))).trans he
  have hg : g.coreView = (f.up, (f.bt.started f.up).offRec, f.mc, f.xz) := (Ctl.coreView_writeBoot ..).trans f.coreView_started
  have hh : h.coreView = g.coreView := by
    unfold h
    rw [Ctl.coreView_showRole, Ctl.coreView_setE, Ctl.coreView_setE]
  clear_value f g h
  refine ⟨_, rfl, (Ctl.coreView_post ..).trans (hh.trans (hg.trans ?_))⟩
  simp only [Ctl.coreView, Prod.mk.injEq] at hf
  obtain ⟨hup, hbt, hmc, hxz⟩ := hf
  have hstart : (f.bt.started f.up).offRec = f.bt.offRec.started f.up := rfl
  rw [hstart, hbt, hup, hmc, hxz]
  rfl

/-- Without a stored image, what the load leaves. -/
theorem Ctl.storedLoad_none (c : Ctl) (h : c.xz.stored = []) : c.storedLoad.xz = c.xz ∧ c.storedLoad.mc = c.mc ∧ c.storedLoad.bt.step = c.bt.step ∧
    c.storedLoad.bt.startedAt = c.bt.startedAt := by
  have hf : ∀ w, (decide (32 * w < c.xz.stored.length) && decide (w < 0x58000)) = false := fun w => by
    rw [h, List.length_nil, decide_eq_false (Nat.not_lt_zero _), Bool.false_and]
  unfold Ctl.storedLoad
  extract_lets d g e
  have hd : d.xz = c.xz ∧ d.mc = c.mc ∧ d.bt.step = c.bt.step ∧ d.bt.startedAt = c.bt.startedAt := by
    unfold d Ctl.mramUse Ctl.mramWords
    simp only [hf, List.filter_false]
    exact ⟨rfl, rfl, rfl, rfl⟩
  clear_value d
  rw [if_pos (by rw [hd.1, h]; rfl), Ctl.post_xz, Ctl.post_mc, Ctl.post_bt]
  exact hd

/-- Octets that enter a slot wait for DRAM. -/
theorem Ctl.fillSlot_leaves (c : Ctl) (i k : Nat) (g : List Byte) : (c.fillSlot i k g).xz.slots = c.xz.slots ∧ (c.fillSlot i k g).xz.boot = c.xz.boot ∧
    (c.fillSlot i k g).bt = c.bt := by
  unfold Ctl.fillSlot
  split <;> exact ⟨rfl, rfl, rfl⟩

/-- A stored image enters slot 0. -/
theorem Ctl.storedLoad_some (c : Ctl) (h : c.xz.stored ≠ []) (hclean : c.bt.mramErrs = []) :
    c.storedLoad.xz.slots = updAt c.xz.slots 0 (fun _ => { st := 2, img := c.xz.stored }) ∧ c.storedLoad.xz.boot = true ∧ c.storedLoad.bt.step = c.bt.step := by
  unfold Ctl.storedLoad
  extract_lets d g e
  have hd : d.xz = c.xz ∧ d.bt.step = c.bt.step := by
    unfold d
    rw [c.mramUse_clean _ hclean]
    exact ⟨rfl, rfl⟩
  have hg : g = c.xz.stored := congrArg XzState.stored hd.1
  have he : e.xz = d.xz ∧ e.bt = d.bt := ⟨rfl, rfl⟩
  clear_value d g e
  obtain ⟨hslots, hboot, hbt⟩ := ((e.setSlot 0 fun _ => { st := 2, img := g }).setXz fun x => { x with boot := true }).fillSlot_leaves 0 0 g
  rw [if_neg (by rw [hd.1, List.isEmpty_iff]; exact h), hslots, hboot, hbt]
  refine ⟨?_, rfl, ?_⟩
  · change updAt e.xz.slots 0 _ = _
    rw [he.1, hd.1, hg]
  · change e.bt.step = _
    rw [he.2, hd.2]

/-! ### Memory as training leaves it (14 R404, R405) -/

theorem Ctl.coreView_showQuality (c : Ctl) (item : Nat) : (c.showQuality item).coreView = c.coreView := by
  unfold Ctl.showQuality
  extract_lets l q d
  have hd : d.coreView = c.coreView := rfl
  refine ite_keeps Ctl.coreView ((Ctl.coreView_post ..).trans hd) (ite_keeps Ctl.coreView hd hd)

theorem Ctl.coreView_calTrained (c : Ctl) (np : Nat) (devs : List (List Nat)) : (c.calTrained np devs).coreView = c.coreView := by
  unfold Ctl.calTrained
  exact (Ctl.coreView_showQuality _ 8).trans rfl

theorem exec_dramTrainingComplete (dt : Nat) (devs : List (List Nat)) (fail : Option (Nat × Nat × Nat)) (s : State) :
    exec (.dramTrainingComplete dt devs fail) s = runM (fun m c => trainingDone devs fail m (c.advance dt)) s := rfl

/-- The density of the devices of each port is shown. -/
def Ctl.portsShown (c : Ctl) (devs : List (List Nat)) : Ctl := (List.range 6).foldl (fun c p => c.setEa 0x5001 p ((devs.getD p []).getD 0 0)) c

theorem Ctl.e_portsShown (c : Ctl) (devs : List (List Nat)) {k : Nat} (hk : k / 256 ≠ 0x5001) : (c.portsShown devs).e k = c.e k :=
  foldl_keeps (fun x : Ctl => x.e k) _ _ c fun x p hp => x.e_setEa_of_idx _ (by have := List.mem_range.1 hp; omega) hk

theorem Ctl.coreView_portsShown (c : Ctl) (devs : List (List Nat)) : (c.portsShown devs).coreView = c.coreView := foldl_keeps Ctl.coreView _ _ c fun _ _ _ => rfl

/-- What training leaves beside the trims. -/
def Ctl.trainView (c : Ctl) : Nat × List (Nat × Nat) × McState × XzState := (c.up, c.bt.mramErrs, c.mc, c.xz)

theorem Ctl.trainView_of_coreView {c d : Ctl} (h : d.coreView = c.coreView) : d.trainView = c.trainView :=
  (congrArg (fun p : Nat × BtState × McState × XzState => (p.1, p.2.1.mramErrs, p.2.2.1, p.2.2.2)) h :)

theorem Ctl.trainView_setE (c : Ctl) (k n : Nat) : (c.setE k n).trainView = c.trainView := rfl
theorem Ctl.trainView_setStep (c : Ctl) (n : Nat) : (c.setBt fun b => { b with step := n }).trainView = c.trainView := rfl
theorem Ctl.trainView_mcShow (c : Ctl) (p : Nat) : (c.mcShow p).trainView = c.trainView := rfl

theorem Ctl.trainView_storeTrims (c : Ctl) (devs : List (List Nat)) : (c.storeTrims devs).trainView = c.trainView := by
  unfold Ctl.storeTrims
  exact ite_keeps Ctl.trainView rfl rfl

/-- Training that fails, by itself or for the devices that it finds. -/
theorem trainingDone_failed (devs : List (List Nat)) (fail : Option (Nat × Nat × Nat)) (m : Mem) (c : Ctl) (h : c.e 0x500003 = 1)
    (hbad : fail ≠ none ∨ ∃ p < 6, portDevicesOk (c.e 0x500001) devs p = false) : ∃ code items, code < 65536 ∧
    trainingDone devs fail m c = (m, ((c.portsShown devs).setE 0x500003 3).post code items) := by
  have hnp : (c.portsShown devs).e 0x500001 = c.e 0x500001 := c.e_portsShown devs (by decide)
  unfold trainingDone
  rw [if_neg (by omega)]
  cases fail with
  | some f => exact ⟨_, _, by decide, rfl⟩
  | none =>
    obtain ⟨p, hp, hdevs⟩ := hbad.resolve_left (fun h => h rfl)
    have hfound : ((List.range 6).find? fun p => !portDevicesOk ((c.portsShown devs).e 0x500001) devs p).isSome = true := by
      rw [List.find?_isSome]
      exact ⟨p, List.mem_range.2 hp, by rw [hnp, hdevs]; rfl⟩
    obtain ⟨q, hq⟩ := Option.isSome_iff_exists.1 hfound
    dsimp only
    unfold Ctl.portsShown at hq
    rw [hq]
    exact ⟨_, _, by decide, rfl⟩

/-- Training that finds the same devices on every fitted port goes on to the end of the start. -/
theorem trainingDone_complete (devs : List (List Nat)) (m : Mem) (c : Ctl) (h : c.e 0x500003 = 1) (hdevs : ∀ p < 6, portDevicesOk (c.e 0x500001) devs p = true) :
    ∃ d : Ctl, trainingDone devs none m c = flushFills {} d.noFills.startComplete.showIslands ∧ d.up = c.up ∧ d.xz = c.xz ∧ d.bt.mramErrs = c.bt.mramErrs ∧
      ∃ idle, d.mc = c.mc.trained (c.e 0x500001) ((devs.getD 0 []).length / 4) c.up idle := by
  have hnp : (c.portsShown devs).e 0x500001 = c.e 0x500001 := c.e_portsShown devs (by decide)
  have hview := c.coreView_portsShown devs
  have hnone : ((List.range 6).find? fun p => !portDevicesOk ((c.portsShown devs).e 0x500001) devs p) = none := by
    rw [List.find?_eq_none]
    intro p hp
    rw [hnp, hdevs p (List.mem_range.1 hp)]
    decide
  unfold trainingDone
  rw [if_neg (by omega)]
  extract_lets x np g ranks cap d e f j k
  have hfound : ((List.range 6).find? fun p => !portDevicesOk np devs p) = none := hnone
  simp only [hfound]
  have hx : x.trainView = c.trainView := Ctl.trainView_of_coreView hview
  have hxnp : np = c.e 0x500001 := hnp
  have hd : d.trainView = (x.up, x.bt.mramErrs, x.mc.trained np ranks x.up (x.e 0x500004), x.xz) := Ctl.trainView_of_coreView (Ctl.coreView_calTrained ..)
  have he : e.trainView = d.trainView := (Ctl.trainView_setE ..).trans (d.trainView_storeTrims devs)
  have hf : f.trainView = e.trainView := (foldl_keeps Ctl.trainView _ _ _ fun y p _ => y.trainView_mcShow p).trans (e.trainView_setE _ _)
  have hk : k.trainView = f.trainView := (Ctl.trainView_of_coreView (Ctl.coreView_writeBoot ..)).trans
    ((j.trainView_setStep 7).trans (Ctl.trainView_of_coreView (f.coreView_post _ _)))
  have hall := hk.trans (hf.trans (he.trans hd))
  clear_value d e f j k x
  simp only [Ctl.trainView, Prod.mk.injEq] at hall hx
  obtain ⟨hup, herrs, hmc, hxz⟩ := hall
  obtain ⟨hup', herrs', hmc', hxz'⟩ := hx
  exact ⟨k, rfl, hup.trans hup', hxz.trans hxz', herrs.trans herrs', x.e 0x500004, by rw [hmc, hmc', hup', hxnp]⟩

/-- The part when the start is complete, but for what the image manager puts into DRAM. -/
theorem Ctl.startedUp_view (d : Ctl) : ∃ f : Ctl, d.noFills.startComplete.showIslands.coreView = f.storedLoad.coreView ∧
    f.xz = { d.xz with fills := [] } ∧ f.mc = d.mc ∧ f.bt.step = 8 ∧ f.bt.startedAt = some d.up ∧ f.bt.mramErrs = d.bt.mramErrs := by
  obtain ⟨f, hf, hview⟩ := d.noFills.startComplete_eq
  simp only [Ctl.coreView, Prod.mk.injEq] at hview
  obtain ⟨-, hbt, hmc, hxz⟩ := hview
  refine ⟨f, (Ctl.coreView_showIslands _).trans (congrArg Ctl.coreView hf), hxz, hmc, ?_, ?_, ?_⟩
  · exact (congrArg BtState.step hbt :)
  · exact (congrArg BtState.startedAt hbt :)
  · exact (congrArg BtState.mramErrs hbt :)

/-- What the image manager puts into DRAM leaves the slots and the boot part. -/
theorem flushFills_leaves (m : Mem) (c : Ctl) : (flushFills m c).2.xz.slots = c.xz.slots ∧ (flushFills m c).2.xz.boot = c.xz.boot ∧ (flushFills m c).2.bt = c.bt := by
  have hfold : ((c.xz.fills.foldl (fun r w => dramStore 7 w.1 w.2 r.1 r.2) (m, c)).2).offMc = c.offMc :=
    foldl_keeps (fun r : Mem × Ctl => r.2.offMc) _ _ (m, c) fun r w _ => Ctl.offMc_writeDram ..
  unfold flushFills
  generalize c.xz.fills.foldl (fun r w => dramStore 7 w.1 w.2 r.1 r.2) (m, c) = r at hfold
  have hxz : r.2.xz = c.xz := (congrArg Ctl.xz hfold :)
  have hbt : r.2.bt = c.bt := (congrArg Ctl.bt hfold :)
  exact ⟨(congrArg XzState.slots hxz :), (congrArg XzState.boot hxz :), hbt⟩

end Sys2Proof.Machine

open Sys2Proof Sys2Proof.Machine

/-- Settles O15: training is followed to the end of the start (`trainingDone_complete`, `Ctl.startedUp_view`), or fails (`trainingDone_failed`). -/
theorem trainingCompletesTheStart : Obligations.TrainingCompletesTheStart := by
  unfold Obligations.TrainingCompletesTheStart
  have hfails : ∀ (dt : Nat) (devs : List (List Nat)) (fail : Option (Nat × Nat × Nat)) (s : State), s.ctl.e 0x500003 = 1 →
      (fail ≠ none ∨ ∃ p < 6, portDevicesOk (s.ctl.e 0x500001) devs p = false) → leaves (.dramTrainingComplete dt devs fail) s fun c =>
        c.e 0x500003 = 3 ∧ c.bt = s.ctl.bt ∧ c.mc = { s.ctl.mc with fixes := [] } := fun dt devs fail s hwait hbad => by
    obtain ⟨code, items, hcode, hdone⟩ := trainingDone_failed devs fail s.mem (s.ctl.advance dt) hwait hbad
    have hshown : ((s.ctl.advance dt).portsShown devs).bt = s.ctl.bt ∧ ((s.ctl.advance dt).portsShown devs).mc = s.ctl.mc :=
      ⟨foldl_keeps Ctl.bt _ _ _ fun _ _ _ => rfl, foldl_keeps Ctl.mc _ _ _ fun _ _ _ => rfl⟩
    generalize (s.ctl.advance dt).portsShown devs = x at hshown hdone
    have hstate : ((x.setE 0x500003 3).post code items).e 0x500003 = 3 := (Ctl.e_post _ _ _ _ (by decide) hcode).trans ((Ctl.e_setE ..).trans (if_pos rfl))
    have hbt : ((x.setE 0x500003 3).post code items).bt = s.ctl.bt := (Ctl.post_bt ..).trans hshown.1
    have hmc : ((x.setE 0x500003 3).post code items).mc = s.ctl.mc := (Ctl.post_mc ..).trans hshown.2
    generalize (x.setE 0x500003 3).post code items = y at hstate hbt hmc hdone
    exact leaves_of_exec_eq_runM (exec_dramTrainingComplete ..) hdone ⟨hstate, hbt, congrArg (fun z : McState => { z with fixes := [] }) hmc⟩
  refine ⟨fun dt devs s hwait hdevs hstored => ?_, fun dt devs g s hwait hdevs hclean hg hsome hslots => ?_,
    fun dt devs p s hwait hp hdevs => hfails dt devs none s hwait (.inr ⟨p, hp, hdevs⟩), fun dt devs f s hwait => hfails dt devs (some f) s hwait (.inl (by simp))⟩
  · obtain ⟨d, hdone, hup, hxz, -, idle, hmc⟩ := trainingDone_complete devs s.mem (s.ctl.advance dt) hwait hdevs
    obtain ⟨f, hview, hfxz, hfmc, hstep, hstart, -⟩ := d.startedUp_view
    obtain ⟨hlxz, hlmc, hlstep, hlstart⟩ := f.storedLoad_none (by rw [hfxz, hxz]; exact hstored)
    generalize d.noFills.startComplete.showIslands = g at hview hdone
    simp only [Ctl.coreView, Prod.mk.injEq] at hview
    obtain ⟨-, hgbt, hgmc, hgxz⟩ := hview
    have hfills : g.xz.fills = [] := by rw [hgxz, hlxz, hfxz]
    rw [flushFills_of_fills_eq_nil _ _ hfills] at hdone
    refine ⟨_, (exec_dramTrainingComplete ..).trans (runM_eq_next hdone), rfl, rfl, ?_, ?_, ?_⟩
    · exact ((congrArg BtState.step hgbt :).trans hlstep).trans hstep
    · exact ((congrArg BtState.startedAt hgbt :).trans hlstart).trans (hstart.trans (congrArg some hup))
    · have hgall : g.mc = s.ctl.mc.trained (s.ctl.e 0x500001) ((devs.getD 0 []).length / 4) (s.ctl.up + dt) idle := hgmc.trans (hlmc.trans (hfmc.trans hmc))
      exact ⟨(congrArg McState.np hgall :), (congrArg McState.ranks hgall :), (congrArg McState.selfRefresh hgall :)⟩
  · obtain ⟨d, hdone, -, hxz, herrs, -⟩ := trainingDone_complete devs s.mem (s.ctl.advance dt) hwait hdevs
    obtain ⟨f, hview, hfxz, -, hstep, -, hferrs⟩ := d.startedUp_view
    have hfstored : f.xz.stored = g := by
      rw [hfxz, hg]
      exact (congrArg XzState.stored hxz :)
    have hfslots : f.xz.slots = s.ctl.xz.slots := by
      rw [hfxz]
      exact (congrArg XzState.slots hxz :)
    obtain ⟨hlslots, hlboot, hlstep⟩ := f.storedLoad_some (by rw [hfstored]; exact hsome) (by rw [hferrs, herrs]; exact hclean)
    generalize d.noFills.startComplete.showIslands = k at hview hdone
    simp only [Ctl.coreView, Prod.mk.injEq] at hview
    obtain ⟨-, hkbt, -, hkxz⟩ := hview
    obtain ⟨hslots', hboot', hbt'⟩ := flushFills_leaves {} k
    have hslotsAll : (flushFills {} k).2.xz.slots = updAt s.ctl.xz.slots 0 fun _ => { st := 2, img := g } := by
      rw [hslots', hkxz, hlslots, hfslots, hfstored]
    refine ⟨_, (exec_dramTrainingComplete ..).trans (runM_eq_next hdone), ?_, ?_, rfl, ?_, ?_⟩
    · refine (congrArg (fun l : List XzSlot => l.getD 0 {}) hslotsAll).trans ?_
      obtain ⟨a, b, hab⟩ := List.length_eq_two.1 hslots
      rw [hab]
      rfl
    · refine (congrArg (fun l : List XzSlot => l.getD 1 {}) hslotsAll).trans ?_
      unfold Ctl.slot
      obtain ⟨a, b, hab⟩ := List.length_eq_two.1 hslots
      rw [hab]
      rfl
    · exact (congrArg BtState.step hbt').trans (((congrArg BtState.step hkbt :).trans hlstep).trans hstep)
    · exact hboot'.trans ((congrArg XzState.boot hkxz).trans hlboot)

end

section
/-! PROOFS. Frames: what it means that a step leaves the parts of the machine that are not in a list, and what the state's own operations leave. -/
namespace Sys2Proof.Machine

/-- Every part but those of the list reads in one state of the part as in the other, whatever stands in memory and in the queue. -/
def Ctl.Keeps (ps : List Part) (c d : Ctl) : Prop := ∀ m l p, p ∉ ps → p.same ⟨c, m, l⟩ ⟨d, m, l⟩

theorem Part.same_trans {p : Part} {r s t : State} (h : p.same r s) (h' : p.same s t) : p.same r t := by
  cases p <;> simp_all [Part.same]

theorem Part.same_symm {p : Part} {s t : State} (h : p.same s t) : p.same t s := by
  cases p <;> simp_all [Part.same]

section
variable {ps : List Part} {c d e : Ctl}

@[simp] theorem Ctl.keeps_rfl (ps : List Part) (c : Ctl) : Ctl.Keeps ps c c := fun _ _ p _ => by cases p <;> simp [Part.same]

/-- A change that keeps the parts keeps them whatever was before. -/
theorem Ctl.keeps_iff_of_keeps (h : Ctl.Keeps ps d e) : Ctl.Keeps ps c e ↔ Ctl.Keeps ps c d :=
  ⟨fun hc m l p hp => Part.same_trans (hc m l p hp) (Part.same_symm (h m l p hp)), fun hc m l p hp => Part.same_trans (hc m l p hp) (h m l p hp)⟩

theorem Ctl.keeps_trans (h : Ctl.Keeps ps c d) (h' : Ctl.Keeps ps d e) : Ctl.Keeps ps c e := (Ctl.keeps_iff_of_keeps h').2 h

@[simp] theorem Ctl.keeps_ite {b : Prop} [Decidable b] : Ctl.Keeps ps c (if b then d else e) ↔ (b → Ctl.Keeps ps c d) ∧ (¬ b → Ctl.Keeps ps c e) := by
  split <;> simp_all

@[simp] theorem Ctl.keeps_when {b : Bool} {f : Ctl → Ctl} :
    Ctl.Keeps ps c (d.when b f) ↔ (b = true → Ctl.Keeps ps c (f d)) ∧ (b = false → Ctl.Keeps ps c d) := by
  cases b <;> simp [Ctl.when]

/-! ### Folds: over states of the part, and over memory or more beside one -/

theorem Ctl.keeps_foldl_of {σ α : Type} (g : σ → Ctl) {f : σ → α → σ} {l : List α} {x : σ} (h : ∀ y a, Ctl.Keeps ps (g y) (g (f y a))) :
    Ctl.Keeps ps c (g (l.foldl f x)) ↔ Ctl.Keeps ps c (g x) := by
  refine Ctl.keeps_iff_of_keeps ?_
  induction l generalizing x with
  | nil => exact Ctl.keeps_rfl ps (g x)
  | cons a l ih => exact Ctl.keeps_trans (h x a) ih

@[simp] theorem Ctl.keeps_foldl {α : Type} {f : Ctl → α → Ctl} {l : List α} (h : ∀ x a, Ctl.Keeps ps x (f x a)) :
    Ctl.Keeps ps c (l.foldl f d) ↔ Ctl.Keeps ps c d := Ctl.keeps_foldl_of id h

@[simp] theorem Ctl.keeps_foldl_snd {α β : Type} {f : β × Ctl → α → β × Ctl} {l : List α} {x : β × Ctl} (h : ∀ y a, Ctl.Keeps ps y.2 (f y a).2) :
    Ctl.Keeps ps c (l.foldl f x).2 ↔ Ctl.Keeps ps c x.2 := Ctl.keeps_foldl_of Prod.snd h

@[simp] theorem Ctl.keeps_foldl_fst {α β : Type} {f : Ctl × β → α → Ctl × β} {l : List α} {x : Ctl × β} (h : ∀ y a, Ctl.Keeps ps y.1 (f y a).1) :
    Ctl.Keeps ps c (l.foldl f x).1 ↔ Ctl.Keeps ps c x.1 := Ctl.keeps_foldl_of Prod.fst h

/-! ### Writes of one piece of the part -/

@[simp] theorem Ctl.keeps_draws (h : .draws ∈ ps) (x : Nat) : Ctl.Keeps ps c { d with draws := x } ↔ Ctl.Keeps ps c d :=
  Ctl.keeps_iff_of_keeps fun _ _ p hp => by cases p <;> simp_all [Part.same]

@[simp] theorem Ctl.keeps_ent (h : .entries ∈ ps) (x : EMap) : Ctl.Keeps ps c { d with ent := x } ↔ Ctl.Keeps ps c d :=
  Ctl.keeps_iff_of_keeps fun _ _ p hp => by cases p <;> simp_all [Part.same]

@[simp] theorem Ctl.keeps_shadow (h : .shadow ∈ ps) (x : EMap) : Ctl.Keeps ps c { d with shadow := x } ↔ Ctl.Keeps ps c d :=
  Ctl.keeps_iff_of_keeps fun _ _ p hp => by cases p <;> simp_all [Part.same]

@[simp] theorem Ctl.keeps_nv (h : .nonVolatile ∈ ps) (x : EMap) : Ctl.Keeps ps c { d with nv := x } ↔ Ctl.Keeps ps c d :=
  Ctl.keeps_iff_of_keeps fun _ _ p hp => by cases p <;> simp_all [Part.same]

@[simp] theorem Ctl.keeps_regs (h : .registers ∈ ps) (x : List ((RegName × Nat × Nat) × Nat)) : Ctl.Keeps ps c { d with regs := x } ↔ Ctl.Keeps ps c d :=
  Ctl.keeps_iff_of_keeps fun _ _ p hp => by cases p <;> simp_all [Part.same]

@[simp] theorem Ctl.keeps_loHeld (h : .heldHalves ∈ ps) (x : List ((RegName × Nat) × Nat)) : Ctl.Keeps ps c { d with loHeld := x } ↔ Ctl.Keeps ps c d :=
  Ctl.keeps_iff_of_keeps fun _ _ p hp => by cases p <;> simp_all [Part.same]

@[simp] theorem Ctl.keeps_hiLatch (h : .heldHalves ∈ ps) (x : List ((RegName × Nat) × Nat)) : Ctl.Keeps ps c { d with hiLatch := x } ↔ Ctl.Keeps ps c d :=
  Ctl.keeps_iff_of_keeps fun _ _ p hp => by cases p <;> simp_all [Part.same]

@[simp] theorem Ctl.keeps_irq (h : .irq ∈ ps) (x : Nat) : Ctl.Keeps ps c { d with irq := x } ↔ Ctl.Keeps ps c d :=
  Ctl.keeps_iff_of_keeps fun _ _ p hp => by cases p <;> simp_all [Part.same]

@[simp] theorem Ctl.keeps_readData (h : .readData ∈ ps) (x : Nat) : Ctl.Keeps ps c { d with readData := x } ↔ Ctl.Keeps ps c d :=
  Ctl.keeps_iff_of_keeps fun _ _ p hp => by cases p <;> simp_all [Part.same]

@[simp] theorem Ctl.keeps_dy (h : .messages ∈ ps) (x : DyState) : Ctl.Keeps ps c { d with dy := x } ↔ Ctl.Keeps ps c d :=
  Ctl.keeps_iff_of_keeps fun _ _ p hp => by cases p <;> simp_all [Part.same]

@[simp] theorem Ctl.keeps_hi (h : .host ∈ ps) (x : HiState) : Ctl.Keeps ps c { d with hi := x } ↔ Ctl.Keeps ps c d :=
  Ctl.keeps_iff_of_keeps fun _ _ p hp => by cases p <;> simp_all [Part.same]

@[simp] theorem Ctl.keeps_tb (h : .time ∈ ps) (x : TbState) : Ctl.Keeps ps c { d with tb := x } ↔ Ctl.Keeps ps c d :=
  Ctl.keeps_iff_of_keeps fun _ _ p hp => by cases p <;> simp_all [Part.same]

@[simp] theorem Ctl.keeps_clk (h : .clock ∈ ps) (x : Clock) : Ctl.Keeps ps c { d with clk := x } ↔ Ctl.Keeps ps c d :=
  Ctl.keeps_iff_of_keeps fun _ _ p hp => by cases p <;> simp_all [Part.same]

@[simp] theorem Ctl.keeps_fm (h : .faults ∈ ps) (x : FmState) : Ctl.Keeps ps c { d with fm := x } ↔ Ctl.Keeps ps c d :=
  Ctl.keeps_iff_of_keeps fun _ _ p hp => by cases p <;> simp_all [Part.same]

@[simp] theorem Ctl.keeps_bt (h : .boot ∈ ps) (x : BtState) : Ctl.Keeps ps c { d with bt := x } ↔ Ctl.Keeps ps c d :=
  Ctl.keeps_iff_of_keeps fun _ _ p hp => by cases p <;> simp_all [Part.same]

@[simp] theorem Ctl.keeps_mc (h : .memory ∈ ps) (x : McState) : Ctl.Keeps ps c { d with mc := x } ↔ Ctl.Keeps ps c d :=
  Ctl.keeps_iff_of_keeps fun _ _ p hp => by cases p <;> simp_all [Part.same]

@[simp] theorem Ctl.keeps_cx (h : .engines ∈ ps) (x : CxState) : Ctl.Keeps ps c { d with cx := x } ↔ Ctl.Keeps ps c d :=
  Ctl.keeps_iff_of_keeps fun _ _ p hp => by cases p <;> simp_all [Part.same]

@[simp] theorem Ctl.keeps_pm (h : .power ∈ ps) (x : PmState) : Ctl.Keeps ps c { d with pm := x } ↔ Ctl.Keeps ps c d :=
  Ctl.keeps_iff_of_keeps fun _ _ p hp => by cases p <;> simp_all [Part.same]

@[simp] theorem Ctl.keeps_ln (h : .lanes ∈ ps) (x : LnState) : Ctl.Keeps ps c { d with ln := x } ↔ Ctl.Keeps ps c d :=
  Ctl.keeps_iff_of_keeps fun _ _ p hp => by cases p <;> simp_all [Part.same]

@[simp] theorem Ctl.keeps_rg (h : .ring ∈ ps) (x : RgState) : Ctl.Keeps ps c { d with rg := x } ↔ Ctl.Keeps ps c d :=
  Ctl.keeps_iff_of_keeps fun _ _ p hp => by cases p <;> simp_all [Part.same]

@[simp] theorem Ctl.keeps_xz (h : .images ∈ ps) (x : XzState) : Ctl.Keeps ps c { d with xz := x } ↔ Ctl.Keeps ps c d :=
  Ctl.keeps_iff_of_keeps fun _ _ p hp => by cases p <;> simp_all [Part.same]

@[simp] theorem Ctl.keeps_dc (h : .decoder ∈ ps) (x : DcState) : Ctl.Keeps ps c { d with dc := x } ↔ Ctl.Keeps ps c d :=
  Ctl.keeps_iff_of_keeps fun _ _ p hp => by cases p <;> simp_all [Part.same]

@[simp] theorem Ctl.keeps_pl (h : .palette ∈ ps) (x : PlState) : Ctl.Keeps ps c { d with pl := x } ↔ Ctl.Keeps ps c d :=
  Ctl.keeps_iff_of_keeps fun _ _ p hp => by cases p <;> simp_all [Part.same]

@[simp] theorem Ctl.keeps_es (h : .easel ∈ ps) (x : EsState) : Ctl.Keeps ps c { d with es := x } ↔ Ctl.Keeps ps c d :=
  Ctl.keeps_iff_of_keeps fun _ _ p hp => by cases p <;> simp_all [Part.same]

@[simp] theorem Ctl.keeps_pd (h : .panel ∈ ps) (x : PdState) : Ctl.Keeps ps c { d with pd := x } ↔ Ctl.Keeps ps c d :=
  Ctl.keeps_iff_of_keeps fun _ _ p hp => by cases p <;> simp_all [Part.same]

@[simp] theorem Ctl.keeps_st (h : .stencil ∈ ps) (x : StState) : Ctl.Keeps ps c { d with st := x } ↔ Ctl.Keeps ps c d :=
  Ctl.keeps_iff_of_keeps fun _ _ p hp => by cases p <;> simp_all [Part.same]

@[simp] theorem Ctl.keeps_en (h : .encoder ∈ ps) (x : EnState) : Ctl.Keeps ps c { d with en := x } ↔ Ctl.Keeps ps c d :=
  Ctl.keeps_iff_of_keeps fun _ _ p hp => by cases p <;> simp_all [Part.same]

@[simp] theorem Ctl.keeps_out (h : .outputs ∈ ps) (x : List Emit) : Ctl.Keeps ps c { d with out := x } ↔ Ctl.Keeps ps c d :=
  Ctl.keeps_iff_of_keeps fun _ _ p hp => by cases p <;> simp_all [Part.same]

@[simp] theorem Ctl.keeps_now (x : Nat) : Ctl.Keeps ps c { d with now := x } ↔ Ctl.Keeps ps c d :=
  Ctl.keeps_iff_of_keeps fun _ _ p _ => by cases p <;> simp [Part.same]

@[simp] theorem Ctl.keeps_up (x : Nat) : Ctl.Keeps ps c { d with up := x } ↔ Ctl.Keeps ps c d :=
  Ctl.keeps_iff_of_keeps fun _ _ p _ => by cases p <;> simp [Part.same]

/-- Time that passes leaves every part: what is left of a Tick and of a slew is no part of the machine, and both domains' offsets come
down alike. -/
@[simp] theorem Ctl.keeps_advance (dt : Nat) : Ctl.Keeps ps c (Ctl.advance dt d) ↔ Ctl.Keeps ps c d :=
  Ctl.keeps_iff_of_keeps fun _ _ p _ => by
    cases p
    case clock => simp [Part.same, Ctl.advance, Function.comp_def]
    all_goals simp [Part.same, Ctl.advance]

end

end Sys2Proof.Machine
end

section
/-! PROOFS. Frames: the parts that the operations that the units share, the CRC units, the memory controllers and MRAM may change; each lemma asks for the parts that its operation may change among those of the list. -/
namespace Sys2Proof.Machine

variable {ps : List Part} {c d : Ctl}

/-! ### Lists of parts -/

@[simp] theorem Part.entries_mem (hr : Part.reported ⊆ ps) : .entries ∈ ps := hr (by decide)
@[simp] theorem Part.faults_mem (hr : Part.reported ⊆ ps) : .faults ∈ ps := hr (by decide)
@[simp] theorem Part.host_mem (hr : Part.reported ⊆ ps) : .host ∈ ps := hr (by decide)
@[simp] theorem Part.irq_mem (hr : Part.reported ⊆ ps) : .irq ∈ ps := hr (by decide)
@[simp] theorem Part.messages_mem (hr : Part.reported ⊆ ps) : .messages ∈ ps := hr (by decide)
@[simp] theorem Part.outputs_mem (hr : Part.reported ⊆ ps) : .outputs ∈ ps := hr (by decide)
@[simp] theorem Part.registers_mem (hr : Part.reported ⊆ ps) : .registers ∈ ps := hr (by decide)

/-- What a reset of the part clears: everything but the draws, the non-volatile store and DRAM. -/
def Part.cleared : List Part := Part.all.filter (fun p => !List.contains [.draws, .nonVolatile, .dram] p)

@[simp] theorem Part.mem_cleared (p : Part) : p ∈ Part.cleared ↔ p ≠ .draws ∧ p ≠ .nonVolatile ∧ p ≠ .dram := by
  cases p <;> decide

theorem Part.mem_of_cleared {p : Part} (hc : Part.cleared ⊆ ps) (hp : p ∈ Part.cleared) : p ∈ ps := hc hp

theorem Part.reported_of_cleared (hc : Part.cleared ⊆ ps) : Part.reported ⊆ ps := fun p hp => hc (by revert hp; cases p <;> decide)

/-- A state with the same draws and the same non-volatile store differs at most in what a reset clears. -/
theorem Ctl.keeps_of_cleared (hc : Part.cleared ⊆ ps) (hd : d.draws = c.draws) (hn : d.nv = c.nv) : Ctl.Keeps ps c d := by
  intro m l p hp
  have hp' : p ∉ Part.cleared := fun h => hp (hc h)
  cases p <;> simp_all [Part.same]

/-! ### Of Machine/Ops.lean -/

@[simp] theorem Ctl.keeps_mended (hmemory : .memory ∈ ps) (q : Mem × Ctl) :
    Ctl.Keeps ps c (mended q).2 ↔ Ctl.Keeps ps c q.2 := by simp [mended, hmemory]

@[simp] theorem Ctl.keeps_moveTick (delta : Int) :
    Ctl.Keeps ps c (d.moveTick delta) ↔ Ctl.Keeps ps c d := Ctl.keeps_iff_of_keeps (by simp [Ctl.moveTick])

@[simp] theorem Ctl.keeps_draw (hdraws : .draws ∈ ps) :
    Ctl.Keeps ps c d.draw ↔ Ctl.Keeps ps c d := Ctl.keeps_iff_of_keeps (by simp [Ctl.draw, hdraws])

@[simp] theorem Ctl.keeps_emit (houtputs : .outputs ∈ ps) (e : Emit) :
    Ctl.Keeps ps c (d.emit e) ↔ Ctl.Keeps ps c d := Ctl.keeps_iff_of_keeps (by simp [Ctl.emit, houtputs])

@[simp] theorem Ctl.keeps_setEv (hentries : .entries ∈ ps) (k : Nat) (v : EVal) :
    Ctl.Keeps ps c (d.setEv k v) ↔ Ctl.Keeps ps c d := Ctl.keeps_iff_of_keeps (by simp [Ctl.setEv, hentries])

@[simp] theorem Ctl.keeps_setE (hentries : .entries ∈ ps) (k n : Nat) :
    Ctl.Keeps ps c (d.setE k n) ↔ Ctl.Keeps ps c d := Ctl.keeps_iff_of_keeps (by simp [Ctl.setE, hentries])

@[simp] theorem Ctl.keeps_setEa (hentries : .entries ∈ ps) (idx i n : Nat) :
    Ctl.Keeps ps c (d.setEa idx i n) ↔ Ctl.Keeps ps c d := Ctl.keeps_iff_of_keeps (by simp [Ctl.setEa, hentries])

@[simp] theorem Ctl.keeps_addE (hentries : .entries ∈ ps) (k n : Nat) :
    Ctl.Keeps ps c (d.addE k n) ↔ Ctl.Keeps ps c d := Ctl.keeps_iff_of_keeps (by simp [Ctl.addE, hentries])

@[simp] theorem Ctl.keeps_incE (hentries : .entries ∈ ps) (k : Nat) :
    Ctl.Keeps ps c (d.incE k) ↔ Ctl.Keeps ps c d := Ctl.keeps_iff_of_keeps (by simp [Ctl.incE, hentries])

@[simp] theorem Ctl.keeps_incEa (hentries : .entries ∈ ps) (idx i : Nat) :
    Ctl.Keeps ps c (d.incEa idx i) ↔ Ctl.Keeps ps c d := Ctl.keeps_iff_of_keeps (by simp [Ctl.incEa, hentries])

@[simp] theorem Ctl.keeps_setReg (hregisters : .registers ∈ ps) (r : RegName) (inst lo v : Nat) :
    Ctl.Keeps ps c (d.setReg r inst lo v) ↔ Ctl.Keeps ps c d := Ctl.keeps_iff_of_keeps (by simp [Ctl.setReg, hregisters])

@[simp] theorem Ctl.keeps_orReg (hregisters : .registers ∈ ps) (r : RegName) (inst lo b : Nat) :
    Ctl.Keeps ps c (d.orReg r inst lo b) ↔ Ctl.Keeps ps c d := Ctl.keeps_iff_of_keeps (by simp [Ctl.orReg, hregisters])

@[simp] theorem Ctl.keeps_addReg (hregisters : .registers ∈ ps) (r : RegName) (inst lo w n : Nat) :
    Ctl.Keeps ps c (d.addReg r inst lo w n) ↔ Ctl.Keeps ps c d := Ctl.keeps_iff_of_keeps (by simp [Ctl.addReg, hregisters])

@[simp] theorem Ctl.keeps_enqueue (hentries : .entries ∈ ps) (hregisters : .registers ∈ ps) (hhost : .host ∈ ps) (q : Nat) (r : EvRec) :
    Ctl.Keeps ps c (d.enqueue q r) ↔ Ctl.Keeps ps c d := by
  refine Ctl.keeps_iff_of_keeps ?_
  unfold Ctl.enqueue
  split
  · simp
  split
  · simp [hhost]
  · exact (Ctl.keeps_hi hhost _).2 (by simp [hentries, hregisters])

@[simp] theorem Ctl.keeps_offer (hmessages : .messages ∈ ps) (b : Nat) (r : EvRec) :
    Ctl.Keeps ps c (d.offer b r) ↔ Ctl.Keeps ps c d := Ctl.keeps_iff_of_keeps (by simp [Ctl.offer, hmessages])

@[simp] theorem Ctl.keeps_raiseIrq (hentries : .entries ∈ ps) (hirq : .irq ∈ ps) (houtputs : .outputs ∈ ps) (b : Nat) :
    Ctl.Keeps ps c (d.raiseIrq b) ↔ Ctl.Keeps ps c d := Ctl.keeps_iff_of_keeps (by simp [Ctl.raiseIrq, hentries, hirq, houtputs])

@[simp] theorem Ctl.keeps_logPut (hfaults : .faults ∈ ps) (r : EvRec) (cls outcome window : Nat) (hist : Bool) :
    Ctl.Keeps ps c (d.logPut r cls outcome window hist) ↔ Ctl.Keeps ps c d := Ctl.keeps_iff_of_keeps (by simp [Ctl.logPut, hfaults])

@[simp] theorem Ctl.keeps_histCopy (hfaults : .faults ∈ ps) :
    Ctl.Keeps ps c d.histCopy ↔ Ctl.Keeps ps c d := Ctl.keeps_iff_of_keeps (by simp [Ctl.histCopy, hfaults])

@[simp] theorem Ctl.keeps_logCount (hentries : .entries ∈ ps) (seq : Nat) :
    Ctl.Keeps ps c (d.logCount seq) ↔ Ctl.Keeps ps c d := Ctl.keeps_iff_of_keeps (by simp [Ctl.logCount, hentries])

@[simp] theorem Ctl.keeps_logAdd (hentries : .entries ∈ ps) (hfaults : .faults ∈ ps) (r : EvRec) (cls outcome window : Nat) (hist : Bool) :
    Ctl.Keeps ps c (d.logAdd r cls outcome window hist) ↔ Ctl.Keeps ps c d := Ctl.keeps_iff_of_keeps (by simp [Ctl.logAdd, hentries, hfaults])

@[simp] theorem Ctl.keeps_eventBit (hregisters : .registers ∈ ps) (code : Nat) : Ctl.Keeps ps c (d.eventBit code) ↔ Ctl.Keeps ps c d := by
  refine Ctl.keeps_iff_of_keeps ?_
  unfold Ctl.eventBit
  split <;> simp [hregisters]

@[simp] theorem Ctl.keeps_tell (hentries : .entries ∈ ps) (hregisters : .registers ∈ ps) (hirq : .irq ∈ ps) (hmessages : .messages ∈ ps)
      (hhost : .host ∈ ps) (houtputs : .outputs ∈ ps) (code : Nat) (r : EvRec) :
    Ctl.Keeps ps c (d.tell code r) ↔ Ctl.Keeps ps c d :=
      Ctl.keeps_iff_of_keeps (by simp [Ctl.tell, hentries, hregisters, hirq, hmessages, hhost, houtputs])

@[simp] theorem Ctl.keeps_sequence (hentries : .entries ∈ ps) (hfaults : .faults ∈ ps) (code : Nat) (r : EvRec) :
    Ctl.Keeps ps c (d.sequence code r) ↔ Ctl.Keeps ps c d := Ctl.keeps_iff_of_keeps (by simp [Ctl.sequence, hentries, hfaults])

@[simp] theorem Ctl.keeps_postOne (hr : Part.reported ⊆ ps) (code : Nat) (items : List (Nat × Nat)) :
    Ctl.Keeps ps c (d.postOne code items) ↔ Ctl.Keeps ps c d := Ctl.keeps_iff_of_keeps (by simp [Ctl.postOne, hr])

@[simp] theorem Ctl.keeps_postDrops (hr : Part.reported ⊆ ps) (q : Nat) :
    Ctl.Keeps ps c (d.postDrops q) ↔ Ctl.Keeps ps c d := Ctl.keeps_iff_of_keeps (by simp [Ctl.postDrops, hr])

@[simp] theorem Ctl.keeps_post (hr : Part.reported ⊆ ps) (code : Nat) (items : List (Nat × Nat)) :
    Ctl.Keeps ps c (d.post code items) ↔ Ctl.Keeps ps c d := Ctl.keeps_iff_of_keeps (by simp [Ctl.post, hr])

@[simp] theorem Ctl.keeps_postBlock (hr : Part.reported ⊆ ps) (code : Nat) (items : List (Nat × Nat)) (block : Nat) :
    Ctl.Keeps ps c (d.postBlock code items block) ↔ Ctl.Keeps ps c d :=
      Ctl.keeps_iff_of_keeps ((Ctl.keeps_fm (Part.faults_mem hr) _).2 (by simp [hr]))

/-! ### Of Machine/FaultOps.lean -/

@[simp] theorem Ctl.keeps_setXz (himages : .images ∈ ps) (f : XzState → XzState) :
    Ctl.Keeps ps c (d.setXz f) ↔ Ctl.Keeps ps c d := Ctl.keeps_iff_of_keeps (by simp [Ctl.setXz, himages])

@[simp] theorem Ctl.keeps_settleSafe (hr : Part.reported ⊆ ps) (was wasCode : Nat) :
    Ctl.Keeps ps c (d.settleSafe was wasCode) ↔ Ctl.Keeps ps c d := Ctl.keeps_iff_of_keeps (by simp [Ctl.settleSafe, hr])

@[simp] theorem Ctl.keeps_enterSafe (hr : Part.reported ⊆ ps) (kind : SafeKind) (code state arg : Nat) :
    Ctl.Keeps ps c (d.enterSafe kind code state arg) ↔ Ctl.Keeps ps c d := Ctl.keeps_iff_of_keeps (by simp [Ctl.enterSafe, hr])

@[simp] theorem Ctl.keeps_endSafe (hr : Part.reported ⊆ ps) (f : SafeCause → Bool) :
    Ctl.Keeps ps c (d.endSafe f) ↔ Ctl.Keeps ps c d := Ctl.keeps_iff_of_keeps (by simp [Ctl.endSafe, hr])

@[simp] theorem Ctl.keeps_settleAgain (hfaults : .faults ∈ ps) (cls at_ : Nat) :
    Ctl.Keeps ps c (d.settleAgain cls at_) ↔ Ctl.Keeps ps c d := Ctl.keeps_iff_of_keeps (by simp [Ctl.settleAgain, hfaults])

@[simp] theorem Ctl.keeps_newWindow (hentries : .entries ∈ ps) (hfaults : .faults ∈ ps) (cls unit_ code at_ : Nat) :
    Ctl.Keeps ps c (d.newWindow cls unit_ code at_).1 ↔ Ctl.Keeps ps c d := Ctl.keeps_iff_of_keeps (by simp [Ctl.newWindow, hentries, hfaults])

@[simp] theorem Ctl.keeps_openWindow (hentries : .entries ∈ ps) (hfaults : .faults ∈ ps) (cls unit_ code at_ : Nat) (link : Bool) :
    Ctl.Keeps ps c (d.openWindow cls unit_ code at_ link).1 ↔ Ctl.Keeps ps c d := by
  refine Ctl.keeps_iff_of_keeps ?_
  unfold Ctl.openWindow
  dsimp only
  (repeat' split) <;> simp [hentries, hfaults]

@[simp] theorem Ctl.keeps_unitOut (hfaults : .faults ∈ ps) (subsys unit_ : Nat) :
    Ctl.Keeps ps c (d.unitOut subsys unit_) ↔ Ctl.Keeps ps c d := Ctl.keeps_iff_of_keeps (by simp [Ctl.unitOut, hfaults])

@[simp] theorem Ctl.keeps_unitBack (hfaults : .faults ∈ ps) (subsys unit_ : Nat) :
    Ctl.Keeps ps c (d.unitBack subsys unit_) ↔ Ctl.Keeps ps c d := Ctl.keeps_iff_of_keeps (by simp [Ctl.unitBack, hfaults])

/-! ### Of Machine/CrcUnits.lean -/

@[simp] theorem Ctl.keeps_setCkBit (hentries : .entries ∈ ps) (u b : Nat) (v : Bool) :
    Ctl.Keeps ps c (d.setCkBit u b v) ↔ Ctl.Keeps ps c d := Ctl.keeps_iff_of_keeps (by simp [Ctl.setCkBit, hentries])

@[simp] theorem Ctl.keeps_ckFollow (hentries : .entries ∈ ps) (u : Nat) :
    Ctl.Keeps ps c (d.ckFollow u) ↔ Ctl.Keeps ps c d := Ctl.keeps_iff_of_keeps (by simp [Ctl.ckFollow, hentries])

@[simp] theorem Ctl.keeps_ckFold (hentries : .entries ∈ ps) (u : Nat) (bs : List Byte) :
    Ctl.Keeps ps c (d.ckFold u bs) ↔ Ctl.Keeps ps c d := Ctl.keeps_iff_of_keeps (by simp [Ctl.ckFold, hentries])

@[simp] theorem Ctl.keeps_ckCompare (hr : Part.reported ⊆ ps) (u : Nat) :
    Ctl.Keeps ps c (d.ckCompare u) ↔ Ctl.Keeps ps c d := Ctl.keeps_iff_of_keeps (by simp [Ctl.ckCompare, hr])

@[simp] theorem Ctl.keeps_ckStopRun (hr : Part.reported ⊆ ps) (hengines : .engines ∈ ps) (u : Nat) :
    Ctl.Keeps ps c (d.ckStopRun u) ↔ Ctl.Keeps ps c d := Ctl.keeps_iff_of_keeps (by simp [Ctl.ckStopRun, hr, hengines])

@[simp] theorem Ctl.keeps_ckRefuse (hentries : .entries ∈ ps) (u : Nat) :
    Ctl.Keeps ps c (d.ckRefuse u) ↔ Ctl.Keeps ps c d := Ctl.keeps_iff_of_keeps (by simp [Ctl.ckRefuse, hentries])

@[simp] theorem Ctl.keeps_snoopPass (hengines : .engines ∈ ps) (point tag : Nat) (bs : List Byte) :
    Ctl.Keeps ps c (d.snoopPass point tag bs) ↔ Ctl.Keeps ps c d := Ctl.keeps_iff_of_keeps (by simp [Ctl.snoopPass, hengines])

@[simp] theorem Ctl.keeps_ckStart (hentries : .entries ∈ ps) (hengines : .engines ∈ ps) (u : Nat) :
    Ctl.Keeps ps c (d.ckStart u) ↔ Ctl.Keeps ps c d := Ctl.keeps_iff_of_keeps (by simp [Ctl.ckStart, hentries, hengines])

@[simp] theorem Ctl.keeps_ckStop (hr : Part.reported ⊆ ps) (hengines : .engines ∈ ps) (u : Nat) :
    Ctl.Keeps ps c (d.ckStop u) ↔ Ctl.Keeps ps c d := Ctl.keeps_iff_of_keeps (by simp [Ctl.ckStop, hr, hengines])

@[simp] theorem Ctl.keeps_ckCompareCmd (hr : Part.reported ⊆ ps) (u : Nat) :
    Ctl.Keeps ps c (d.ckCompareCmd u) ↔ Ctl.Keeps ps c d := Ctl.keeps_iff_of_keeps (by simp [Ctl.ckCompareCmd, hr])

@[simp] theorem Ctl.keeps_ckCtrlWrite (hr : Part.reported ⊆ ps) (hengines : .engines ∈ ps) (u v : Nat) :
    Ctl.Keeps ps c (d.ckCtrlWrite u v) ↔ Ctl.Keeps ps c d :=
      Ctl.keeps_iff_of_keeps (by simp [Ctl.ckCtrlWrite, hr, hengines, Ctl.keeps_ckStart (Part.entries_mem hr) hengines])

@[simp] theorem Ctl.keeps_ckFeed (hentries : .entries ∈ ps) (u : Nat) (bs : List Byte) :
    Ctl.Keeps ps c (d.ckFeed u bs) ↔ Ctl.Keeps ps c d := Ctl.keeps_iff_of_keeps (by simp [Ctl.ckFeed, hentries])

@[simp] theorem Ctl.keeps_ckWrite (hentries : .entries ∈ ps) (idx u v : Nat) :
    Ctl.Keeps ps c (d.ckWrite idx u v) ↔ Ctl.Keeps ps c d := Ctl.keeps_iff_of_keeps (by simp [Ctl.ckWrite, hentries])

@[simp] theorem Ctl.keeps_ckValueWrite (hentries : .entries ∈ ps) (u v : Nat) :
    Ctl.Keeps ps c (d.ckValueWrite u v) ↔ Ctl.Keeps ps c d := Ctl.keeps_iff_of_keeps (by simp [Ctl.ckValueWrite, hentries])

@[simp] theorem Ctl.keeps_ckItem (hr : Part.reported ⊆ ps) (hengines : .engines ∈ ps) (point tag : Nat) (bs : List Byte) (overflow : Bool) (u : Nat) :
    Ctl.Keeps ps c (d.ckItem point tag bs overflow u) ↔ Ctl.Keeps ps c d := Ctl.keeps_iff_of_keeps (by simp [Ctl.ckItem, hr, hengines])

@[simp] theorem Ctl.keeps_snoopFold (hr : Part.reported ⊆ ps) (hengines : .engines ∈ ps) (r : SnoopRec) (overflow : Bool) :
    Ctl.Keeps ps c (d.snoopFold r overflow) ↔ Ctl.Keeps ps c d := Ctl.keeps_iff_of_keeps (by simp [Ctl.snoopFold, hr, hengines])

@[simp] theorem Ctl.keeps_snoopItem (hr : Part.reported ⊆ ps) (hengines : .engines ∈ ps) (point : Nat) (overflow : Bool) :
    Ctl.Keeps ps c (d.snoopItem point overflow) ↔ Ctl.Keeps ps c d := by
  refine Ctl.keeps_iff_of_keeps ?_
  unfold Ctl.snoopItem
  split <;> simp [hr, hengines]

@[simp] theorem Ctl.keeps_ckFault (hr : Part.reported ⊆ ps) (u : Nat) :
    Ctl.Keeps ps c (d.ckFault u) ↔ Ctl.Keeps ps c d := Ctl.keeps_iff_of_keeps (by simp [Ctl.ckFault, hr])

@[simp] theorem Ctl.keeps_ckBack (hentries : .entries ∈ ps) (u : Nat) :
    Ctl.Keeps ps c (d.ckBack u) ↔ Ctl.Keeps ps c d := Ctl.keeps_iff_of_keeps (by simp [Ctl.ckBack, hentries])

@[simp] theorem Ctl.keeps_ckOwner (hentries : .entries ∈ ps) (hengines : .engines ∈ ps) (held : Bool) :
    Ctl.Keeps ps c (d.ckOwner held) ↔ Ctl.Keeps ps c d := Ctl.keeps_iff_of_keeps (by simp [Ctl.ckOwner, hentries, hengines])

/-! ### Of Machine/McSched.lean -/

@[simp] theorem Ctl.keeps_setMc (hmemory : .memory ∈ ps) (f : McState → McState) :
    Ctl.Keeps ps c (d.setMc f) ↔ Ctl.Keeps ps c d := Ctl.keeps_iff_of_keeps (by simp [Ctl.setMc, hmemory])

@[simp] theorem Ctl.keeps_mcRun (hentries : .entries ∈ ps) (hmemory : .memory ∈ ps) :
    Ctl.Keeps ps c d.mcRun ↔ Ctl.Keeps ps c d := Ctl.keeps_iff_of_keeps (by simp [Ctl.mcRun, hentries, hmemory])

@[simp] theorem Ctl.keeps_ask (hentries : .entries ∈ ps) (hmemory : .memory ∈ ps) (client : Nat) (write : Bool) (part : Nat → Bool)
      (bursts : List Nat) :
    Ctl.Keeps ps c (d.ask client write part bursts) ↔ Ctl.Keeps ps c d := Ctl.keeps_iff_of_keeps (by simp [Ctl.ask, hentries, hmemory])

@[simp] theorem Ctl.keeps_requests (hentries : .entries ∈ ps) (hmemory : .memory ∈ ps) (client : Nat) (write : Bool) (bursts : List Nat) :
    Ctl.Keeps ps c (d.requests client write bursts) ↔ Ctl.Keeps ps c d := Ctl.keeps_iff_of_keeps (by simp [Ctl.requests, hentries, hmemory])

/-! ### Of Machine/Memory.lean -/

@[simp] theorem Ctl.keeps_eccUnc (hr : Part.reported ⊆ ps) (client scrub burst : Nat) :
    Ctl.Keeps ps c (d.eccUnc client scrub burst) ↔ Ctl.Keeps ps c d := Ctl.keeps_iff_of_keeps (by simp [Ctl.eccUnc, hr])

@[simp] theorem Ctl.keeps_eccCorrected (hr : Part.reported ⊆ ps) (hmemory : .memory ∈ ps) (p : Nat) :
    Ctl.Keeps ps c (d.eccCorrected p) ↔ Ctl.Keeps ps c d := Ctl.keeps_iff_of_keeps (by simp [Ctl.eccCorrected, hr, hmemory])

@[simp] theorem Ctl.keeps_readBurst (hr : Part.reported ⊆ ps) (hmemory : .memory ∈ ps) (m : Mem) (client scrub b : Nat) :
    Ctl.Keeps ps c (d.readBurst m client scrub b) ↔ Ctl.Keeps ps c d := by
  refine Ctl.keeps_iff_of_keeps ?_
  unfold Ctl.readBurst
  split <;> simp [hr, hmemory]

@[simp] theorem Ctl.keeps_readBursts (hr : Part.reported ⊆ ps) (hmemory : .memory ∈ ps) (m : Mem) (client : Nat) (l : List Nat) :
    Ctl.Keeps ps c (d.readBursts m client l) ↔ Ctl.Keeps ps c d := Ctl.keeps_iff_of_keeps (by simp [Ctl.readBursts, hr, hmemory])

@[simp] theorem Ctl.keeps_readDram (hr : Part.reported ⊆ ps) (hmemory : .memory ∈ ps) (m : Mem) (client a n : Nat) :
    Ctl.Keeps ps c (d.readDram m client a n) ↔ Ctl.Keeps ps c d := Ctl.keeps_iff_of_keeps (by simp [Ctl.readDram, hr, hmemory])

@[simp] theorem Ctl.keeps_writeBursts (hr : Part.reported ⊆ ps) (hmemory : .memory ∈ ps) (m : Mem) (client : Nat) (part : Nat → Bool) (l : List Nat) :
    Ctl.Keeps ps c (d.writeBursts m client part l) ↔ Ctl.Keeps ps c d := Ctl.keeps_iff_of_keeps (by simp [Ctl.writeBursts, hr, hmemory])

@[simp] theorem Ctl.keeps_writeDram (hr : Part.reported ⊆ ps) (hmemory : .memory ∈ ps) (m : Mem) (client a n : Nat) :
    Ctl.Keeps ps c (d.writeDram m client a n) ↔ Ctl.Keeps ps c d := Ctl.keeps_iff_of_keeps (by simp [Ctl.writeDram, hr, hmemory])

@[simp] theorem Ctl.keeps_dramStore (hr : Part.reported ⊆ ps) (hmemory : .memory ∈ ps) (client a : Nat) (bs : List Byte) (m : Mem) :
    Ctl.Keeps ps c (dramStore client a bs m d).2 ↔ Ctl.Keeps ps c d := Ctl.keeps_iff_of_keeps (by simp [dramStore, hr, hmemory])

@[simp] theorem Ctl.keeps_mcShow (hentries : .entries ∈ ps) (p : Nat) :
    Ctl.Keeps ps c (d.mcShow p) ↔ Ctl.Keeps ps c d := Ctl.keeps_iff_of_keeps (by simp [Ctl.mcShow, hentries])

@[simp] theorem Ctl.keeps_mr4Read (hr : Part.reported ⊆ ps) (hmemory : .memory ∈ ps) (p ch rk rate : Nat) :
    Ctl.Keeps ps c (d.mr4Read p ch rk rate) ↔ Ctl.Keeps ps c d := by
  refine Ctl.keeps_iff_of_keeps ?_
  unfold Ctl.mr4Read
  dsimp only
  (repeat' split) <;> simp [hr, hmemory]

@[simp] theorem Ctl.keeps_refreshDue (hentries : .entries ∈ ps) (hmemory : .memory ∈ ps) (p ch rk : Nat) :
    Ctl.Keeps ps c (d.refreshDue p ch rk) ↔ Ctl.Keeps ps c d := by
  refine Ctl.keeps_iff_of_keeps ?_
  unfold Ctl.refreshDue
  dsimp only
  (repeat' split) <;> simp [hentries, hmemory]

@[simp] theorem Ctl.keeps_mcAction (hentries : .entries ∈ ps) (hmemory : .memory ∈ ps) (p ch : Nat) (f : McChan → McChan) :
    Ctl.Keeps ps c (d.mcAction p ch f) ↔ Ctl.Keeps ps c d := Ctl.keeps_iff_of_keeps (by simp [Ctl.mcAction, hentries, hmemory])

@[simp] theorem Ctl.keeps_zqLatch (hentries : .entries ∈ ps) (hmemory : .memory ∈ ps) (p ch : Nat) :
    Ctl.Keeps ps c (d.zqLatch p ch) ↔ Ctl.Keeps ps c d := Ctl.keeps_iff_of_keeps (by simp [Ctl.zqLatch, hentries, hmemory])

@[simp] theorem Ctl.keeps_wckTrack (hentries : .entries ∈ ps) (hmemory : .memory ∈ ps) (p ch : Nat) :
    Ctl.Keeps ps c (d.wckTrack p ch) ↔ Ctl.Keeps ps c d := Ctl.keeps_iff_of_keeps (by simp [Ctl.wckTrack, hentries, hmemory])

@[simp] theorem Ctl.keeps_powerDownEntry (hentries : .entries ∈ ps) (hmemory : .memory ∈ ps) (p ch rk : Nat) :
    Ctl.Keeps ps c (d.powerDownEntry p ch rk) ↔ Ctl.Keeps ps c d := Ctl.keeps_iff_of_keeps (by simp [Ctl.powerDownEntry, hentries, hmemory])

@[simp] theorem Ctl.keeps_scrubStep (hr : Part.reported ⊆ ps) (hmemory : .memory ∈ ps) (m : Mem) :
    Ctl.Keeps ps c (scrubStep m d).2 ↔ Ctl.Keeps ps c d := by
  refine Ctl.keeps_iff_of_keeps ?_
  unfold scrubStep
  split <;> simp [hr, hmemory]

@[simp] theorem Ctl.keeps_sramScrub (hr : Part.reported ⊆ ps) (fixed : Nat) (words : List (Nat × Nat × Nat)) :
    Ctl.Keeps ps c (d.sramScrub fixed words) ↔ Ctl.Keeps ps c d := Ctl.keeps_iff_of_keeps (by simp [Ctl.sramScrub, hr])

/-! ### Of Machine/BootRec.lean -/

@[simp] theorem Ctl.keeps_setBt (hboot : .boot ∈ ps) (f : BtState → BtState) :
    Ctl.Keeps ps c (d.setBt f) ↔ Ctl.Keeps ps c d := Ctl.keeps_iff_of_keeps (by simp [Ctl.setBt, hboot])

@[simp] theorem Ctl.keeps_setBoot (hboot : .boot ∈ ps) (f : BootRec → BootRec) :
    Ctl.Keeps ps c (d.setBoot f) ↔ Ctl.Keeps ps c d := Ctl.keeps_iff_of_keeps (by simp [Ctl.setBoot, hboot])

/-! ### Of Machine/Mram.lean -/

@[simp] theorem Ctl.keeps_homeWrite (hnonVolatile : .nonVolatile ∈ ps) (hfaults : .faults ∈ ps) (hboot : .boot ∈ ps) (himages : .images ∈ ps)
      (h : Nat × List Byte) :
    Ctl.Keeps ps c (d.homeWrite h) ↔ Ctl.Keeps ps c d := by
  refine Ctl.keeps_iff_of_keeps ?_
  unfold Ctl.homeWrite
  extract_lets w b x
  have hx : Ctl.Keeps ps d x := (Ctl.keeps_setBt hboot _).2 (Ctl.keeps_rfl ps d)
  clear_value x
  refine Ctl.keeps_ite.2 ⟨fun _ => Ctl.keeps_ite.2 ⟨fun _ => hx, fun _ => (Ctl.keeps_setXz himages _).2 hx⟩, fun _ => ?_⟩
  iterate 4 refine Ctl.keeps_ite.2 ⟨fun _ => (Ctl.keeps_setBt hboot _).2 hx, fun _ => ?_⟩
  iterate 2 refine Ctl.keeps_ite.2 ⟨fun _ => (Ctl.keeps_nv hnonVolatile _).2 ((Ctl.keeps_setBt hboot _).2 hx), fun _ => ?_⟩
  refine Ctl.keeps_ite.2 ⟨fun _ => (Ctl.keeps_setBt hboot _).2 hx, fun _ => ?_⟩
  split
  · exact hx
  · exact Ctl.keeps_ite.2 ⟨fun _ => (Ctl.keeps_fm hfaults _).2 hx, fun _ => (Ctl.keeps_nv hnonVolatile _).2 hx⟩

@[simp] theorem Ctl.keeps_mramFlip (hboot : .boot ∈ ps) (l : List (Nat × Nat)) :
    Ctl.Keeps ps c (d.mramFlip l) ↔ Ctl.Keeps ps c d := Ctl.keeps_iff_of_keeps (by simp [Ctl.mramFlip, hboot])

@[simp] theorem Ctl.keeps_mramWords (hentries : .entries ∈ ps) (hboot : .boot ∈ ps) (f : Nat → Bool) :
    Ctl.Keeps ps c (d.mramWords f).1 ↔ Ctl.Keeps ps c d := Ctl.keeps_iff_of_keeps (by simp [Ctl.mramWords, hentries, hboot])

@[simp] theorem Ctl.keeps_lostWord (hnonVolatile : .nonVolatile ∈ ps) (hfaults : .faults ∈ ps) (hboot : .boot ∈ ps) (himages : .images ∈ ps) (w : Nat)
      :
    Ctl.Keeps ps c (d.lostWord w) ↔ Ctl.Keeps ps c d := by
  refine Ctl.keeps_iff_of_keeps ?_
  unfold Ctl.lostWord
  split_ifs
  iterate 5 simp [hboot, himages]
  split
  · exact (Ctl.keeps_fm (d := { d with nv := aDel d.nv _ }) hfaults _).2 (by simp [hnonVolatile])
  · simp

@[simp] theorem Ctl.keeps_mramUse (hr : Part.reported ⊆ ps) (hnonVolatile : .nonVolatile ∈ ps) (hboot : .boot ∈ ps) (himages : .images ∈ ps)
      (f : Nat → Bool) :
    Ctl.Keeps ps c (d.mramUse f) ↔ Ctl.Keeps ps c d :=
      Ctl.keeps_iff_of_keeps (by simp [Ctl.mramUse, hr, hboot, Ctl.keeps_post hr, Ctl.keeps_lostWord hnonVolatile (Part.faults_mem hr) hboot himages])

@[simp] theorem Ctl.keeps_replay (hnonVolatile : .nonVolatile ∈ ps) (hfaults : .faults ∈ ps) (hboot : .boot ∈ ps) (himages : .images ∈ ps) :
    Ctl.Keeps ps c d.replay ↔ Ctl.Keeps ps c d := Ctl.keeps_iff_of_keeps (by simp [Ctl.replay, hnonVolatile, hfaults, hboot, himages])

@[simp] theorem Ctl.keeps_mramStop (hnonVolatile : .nonVolatile ∈ ps) (hfaults : .faults ∈ ps) (hboot : .boot ∈ ps) (himages : .images ∈ ps)
      (cut : Option MramCut) :
    Ctl.Keeps ps c (d.mramStop cut) ↔ Ctl.Keeps ps c d := by
  refine Ctl.keeps_iff_of_keeps ?_
  unfold Ctl.mramStop
  dsimp only
  (repeat' split) <;> simp [hnonVolatile, hfaults, hboot, himages]

@[simp] theorem Ctl.keeps_journalled (hboot : .boot ∈ ps) (hengines : .engines ∈ ps) (l : List (Nat × EVal)) :
    Ctl.Keeps ps c (d.journalled l) ↔ Ctl.Keeps ps c d := Ctl.keeps_iff_of_keeps (by simp [Ctl.journalled, hboot, hengines])

@[simp] theorem Ctl.keeps_saveEv (hnonVolatile : .nonVolatile ∈ ps) (hboot : .boot ∈ ps) (k : Nat) (v : EVal) :
    Ctl.Keeps ps c (d.saveEv k v) ↔ Ctl.Keeps ps c d := by
  refine Ctl.keeps_iff_of_keeps ?_
  unfold Ctl.saveEv
  split
  · simp
  · exact (Ctl.keeps_nv hnonVolatile _).2 (by simp [hboot])

@[simp] theorem Ctl.keeps_saveOne (hnonVolatile : .nonVolatile ∈ ps) (hboot : .boot ∈ ps) (hengines : .engines ∈ ps) (k : Nat) (v : EVal) :
    Ctl.Keeps ps c (d.saveOne k v) ↔ Ctl.Keeps ps c d := Ctl.keeps_iff_of_keeps (by simp [Ctl.saveOne, hnonVolatile, hboot, hengines])

@[simp] theorem Ctl.keeps_keepE (hentries : .entries ∈ ps) (hnonVolatile : .nonVolatile ∈ ps) (hboot : .boot ∈ ps) (hengines : .engines ∈ ps)
      (k n : Nat) :
    Ctl.Keeps ps c (d.keepE k n) ↔ Ctl.Keeps ps c d := Ctl.keeps_iff_of_keeps (by simp [Ctl.keepE, hentries, hnonVolatile, hboot, hengines])

/-! ### Of Machine/SideOps.lean -/

@[simp] theorem Ctl.keeps_setRg (hring : .ring ∈ ps) (f : RgState → RgState) :
    Ctl.Keeps ps c (d.setRg f) ↔ Ctl.Keeps ps c d := Ctl.keeps_iff_of_keeps (by simp [Ctl.setRg, hring])

@[simp] theorem Ctl.keeps_setRgPort (hring : .ring ∈ ps) (p : Nat) (f : RgPort → RgPort) :
    Ctl.Keeps ps c (d.setRgPort p f) ↔ Ctl.Keeps ps c d := Ctl.keeps_iff_of_keeps (by simp [Ctl.setRgPort, hring])

@[simp] theorem Ctl.keeps_sideBegin (houtputs : .outputs ∈ ps) (p : Nat) (x : SideItem) :
    Ctl.Keeps ps c (d.sideBegin p x) ↔ Ctl.Keeps ps c d := Ctl.keeps_iff_of_keeps (by simp [Ctl.sideBegin, houtputs])

@[simp] theorem Ctl.keeps_drainPort (hring : .ring ∈ ps) (houtputs : .outputs ∈ ps) (p : Nat) :
    Ctl.Keeps ps c (d.drainPort p) ↔ Ctl.Keeps ps c d := Ctl.keeps_iff_of_keeps (by simp [Ctl.drainPort, hring, houtputs])

@[simp] theorem Ctl.keeps_sideQueue (hentries : .entries ∈ ps) (hring : .ring ∈ ps) (houtputs : .outputs ∈ ps) (p count ty dst : Nat) (m : List Byte)
      :
    Ctl.Keeps ps c (d.sideQueue p count ty dst m) ↔ Ctl.Keeps ps c d := Ctl.keeps_iff_of_keeps (by simp [Ctl.sideQueue, hentries, hring, houtputs])

@[simp] theorem Ctl.keeps_sideSend (hentries : .entries ∈ ps) (hring : .ring ∈ ps) (houtputs : .outputs ∈ ps) (p ty dst : Nat) (body : List Byte) :
    Ctl.Keeps ps c (d.sideSend p ty dst body) ↔ Ctl.Keeps ps c d := Ctl.keeps_iff_of_keeps (by simp [Ctl.sideSend, hentries, hring, houtputs])

end Sys2Proof.Machine
end

section
/-! PROOFS. Frames: the parts that wall time, images, compression, thermal and power may change; each lemma asks for the parts that its operation may change among those of the list. -/
namespace Sys2Proof.Machine

variable {ps : List Part} {c d : Ctl}

/-! ### Of Machine/Walltime.lean -/

@[simp] theorem Ctl.keeps_setServo (htime : .time ∈ ps) (d' : Nat) (f : Servo → Servo) :
    Ctl.Keeps ps c (d.setServo d' f) ↔ Ctl.Keeps ps c d := Ctl.keeps_iff_of_keeps (by simp [Ctl.setServo, htime])

@[simp] theorem Ctl.keeps_setTb (htime : .time ∈ ps) (f : TbState → TbState) :
    Ctl.Keeps ps c (d.setTb f) ↔ Ctl.Keeps ps c d := Ctl.keeps_iff_of_keeps (by simp [Ctl.setTb, htime])

@[simp] theorem Ctl.keeps_setClk (hclock : .clock ∈ ps) (f : Clock → Clock) :
    Ctl.Keeps ps c (d.setClk f) ↔ Ctl.Keeps ps c d := Ctl.keeps_iff_of_keeps (by simp [Ctl.setClk, hclock])

@[simp] theorem Ctl.keeps_setOffset (hclock : .clock ∈ ps) (d' : Nat) (v : Int) :
    Ctl.Keeps ps c (d.setOffset d' v) ↔ Ctl.Keeps ps c d := Ctl.keeps_iff_of_keeps (by simp [Ctl.setOffset, hclock])

@[simp] theorem Ctl.keeps_slewOff (hclock : .clock ∈ ps) :
    Ctl.Keeps ps c d.slewOff ↔ Ctl.Keeps ps c d := Ctl.keeps_iff_of_keeps (by simp [Ctl.slewOff, hclock])

@[simp] theorem Ctl.keeps_steer (hclock : .clock ∈ ps) (d' : Nat) :
    Ctl.Keeps ps c (d.steer d') ↔ Ctl.Keeps ps c d := Ctl.keeps_iff_of_keeps (by simp [Ctl.steer, hclock])

@[simp] theorem Ctl.keeps_setDom (hentries : .entries ∈ ps) (d' st : Nat) :
    Ctl.Keeps ps c (d.setDom d' st) ↔ Ctl.Keeps ps c d := Ctl.keeps_iff_of_keeps (by simp [Ctl.setDom, hentries])

@[simp] theorem Ctl.keeps_compensate (hclock : .clock ∈ ps) :
    Ctl.Keeps ps c d.compensate ↔ Ctl.Keeps ps c d := Ctl.keeps_iff_of_keeps (by simp [Ctl.compensate, hclock])

@[simp] theorem Ctl.keeps_fitTempco (hentries : .entries ∈ ps) (hpower : .power ∈ ps) (d' : Nat) :
    Ctl.Keeps ps c (d.fitTempco d') ↔ Ctl.Keeps ps c d := Ctl.keeps_iff_of_keeps (by simp [Ctl.fitTempco, hentries, hpower])

@[simp] theorem Ctl.keeps_stepTick (htime : .time ∈ ps) (hclock : .clock ∈ ps) (delta : Int) :
    Ctl.Keeps ps c (d.stepTick delta) ↔ Ctl.Keeps ps c d := by
  refine Ctl.keeps_iff_of_keeps ?_
  unfold Ctl.stepTick
  dsimp only
  (repeat' split) <;> simp [htime, hclock]

@[simp] theorem Ctl.keeps_slew (hclock : .clock ∈ ps) :
    Ctl.Keeps ps c d.slew ↔ Ctl.Keeps ps c d := Ctl.keeps_iff_of_keeps (by simp [Ctl.slew, hclock])

@[simp] theorem Ctl.keeps_enterLocked (hr : Part.reported ⊆ ps) (htime : .time ∈ ps) :
    Ctl.Keeps ps c d.enterLocked ↔ Ctl.Keeps ps c d := Ctl.keeps_iff_of_keeps (by simp [Ctl.enterLocked, hr, htime])

@[simp] theorem Ctl.keeps_checkLock (hr : Part.reported ⊆ ps) (htime : .time ∈ ps) :
    Ctl.Keeps ps c d.checkLock ↔ Ctl.Keeps ps c d := Ctl.keeps_iff_of_keeps (by simp [Ctl.checkLock, hr, htime])

@[simp] theorem Ctl.keeps_followLocked (hr : Part.reported ⊆ ps) (htime : .time ∈ ps) (hclock : .clock ∈ ps) (d' : Nat) :
    Ctl.Keeps ps c (d.followLocked d') ↔ Ctl.Keeps ps c d := Ctl.keeps_iff_of_keeps (by simp [Ctl.followLocked, hr, htime, hclock])

@[simp] theorem Ctl.keeps_enterHoldover (hr : Part.reported ⊆ ps) (htime : .time ∈ ps) (hclock : .clock ∈ ps) :
    Ctl.Keeps ps c d.enterHoldover ↔ Ctl.Keeps ps c d := Ctl.keeps_iff_of_keeps (by simp [Ctl.enterHoldover, hr, htime, hclock])

@[simp] theorem Ctl.keeps_ptpOut (hentries : .entries ∈ ps) (hring : .ring ∈ ps) (houtputs : .outputs ∈ ps) (port dst : Nat) (m : List Byte) :
    Ctl.Keeps ps c (d.ptpOut port dst m) ↔ Ctl.Keeps ps c d := Ctl.keeps_iff_of_keeps (by simp [Ctl.ptpOut, hentries, hring, houtputs])

@[simp] theorem Ctl.keeps_decideSwitch (hentries : .entries ∈ ps) (htime : .time ∈ ps) (hring : .ring ∈ ps) (houtputs : .outputs ∈ ps) (d' : Nat)
      (tell : Bool) :
    Ctl.Keeps ps c (d.decideSwitch d' tell) ↔ Ctl.Keeps ps c d :=
      Ctl.keeps_iff_of_keeps (by simp [Ctl.decideSwitch, hentries, htime, hring, houtputs])

@[simp] theorem Ctl.keeps_domLost (hr : Part.reported ⊆ ps) (htime : .time ∈ ps) (hclock : .clock ∈ ps) (hring : .ring ∈ ps) (d' cause : Nat) :
    Ctl.Keeps ps c (d.domLost d' cause) ↔ Ctl.Keeps ps c d := Ctl.keeps_iff_of_keeps (by simp [Ctl.domLost, hr, htime, hclock, hring])

@[simp] theorem Ctl.keeps_domLocked (hr : Part.reported ⊆ ps) (htime : .time ∈ ps) (hclock : .clock ∈ ps) (d' : Nat) :
    Ctl.Keeps ps c (d.domLocked d') ↔ Ctl.Keeps ps c d := Ctl.keeps_iff_of_keeps (by simp [Ctl.domLocked, hr, htime, hclock])

@[simp] theorem Ctl.keeps_disagree (hr : Part.reported ⊆ ps) (htime : .time ∈ ps) :
    Ctl.Keeps ps c d.disagree ↔ Ctl.Keeps ps c d := Ctl.keeps_iff_of_keeps (by simp [Ctl.disagree, hr, htime])

@[simp] theorem Ctl.keeps_bmca (hr : Part.reported ⊆ ps) (htime : .time ∈ ps) (hclock : .clock ∈ ps) (hring : .ring ∈ ps) (d' : Nat) :
    Ctl.Keeps ps c (d.bmca d') ↔ Ctl.Keeps ps c d := by
  refine Ctl.keeps_iff_of_keeps ?_
  unfold Ctl.bmca
  dsimp only
  (repeat' split) <;> simp [hr, htime, hclock, hring, Ctl.keeps_setEa (Part.entries_mem hr)]

@[simp] theorem Ctl.keeps_announce (hr : Part.reported ⊆ ps) (htime : .time ∈ ps) (hclock : .clock ∈ ps) (hring : .ring ∈ ps) (port d' : Nat)
      (x : List Int) :
    Ctl.Keeps ps c (d.announce port d' x) ↔ Ctl.Keeps ps c d := Ctl.keeps_iff_of_keeps (by simp [Ctl.announce, hr, htime, hclock, hring])

@[simp] theorem Ctl.keeps_sync (hr : Part.reported ⊆ ps) (htime : .time ∈ ps) (hclock : .clock ∈ ps) (hring : .ring ∈ ps) (port d' : Nat)
      (x : List Int) :
    Ctl.Keeps ps c (d.sync port d' x) ↔ Ctl.Keeps ps c d := Ctl.keeps_iff_of_keeps (by simp [Ctl.sync, hr, htime, hclock, hring])

@[simp] theorem Ctl.keeps_delayExchange (hentries : .entries ∈ ps) (port : Nat) (x : List Int) :
    Ctl.Keeps ps c (d.delayExchange port x) ↔ Ctl.Keeps ps c d := Ctl.keeps_iff_of_keeps (by simp [Ctl.delayExchange, hentries])

@[simp] theorem Ctl.keeps_delayAnswer (hentries : .entries ∈ ps) (hring : .ring ∈ ps) (houtputs : .outputs ∈ ps) (port d' : Nat) (x : List Int) :
    Ctl.Keeps ps c (d.delayAnswer port d' x) ↔ Ctl.Keeps ps c d := Ctl.keeps_iff_of_keeps (by simp [Ctl.delayAnswer, hentries, hring, houtputs])

@[simp] theorem Ctl.keeps_ptpMessage (hr : Part.reported ⊆ ps) (htime : .time ∈ ps) (hclock : .clock ∈ ps) (hring : .ring ∈ ps)
      (port number kind : Nat) (x : List Int) :
    Ctl.Keeps ps c (d.ptpMessage port number kind x) ↔ Ctl.Keeps ps c d := by
  refine Ctl.keeps_iff_of_keeps ?_
  unfold Ctl.ptpMessage
  (repeat' split) <;> simp [hr, htime, hclock, hring]

@[simp] theorem Ctl.keeps_syncOut (hentries : .entries ∈ ps) (hring : .ring ∈ ps) (houtputs : .outputs ∈ ps) (port d' : Nat) :
    Ctl.Keeps ps c (d.syncOut port d') ↔ Ctl.Keeps ps c d := Ctl.keeps_iff_of_keeps (by simp [Ctl.syncOut, hentries, hring, houtputs])

@[simp] theorem Ctl.keeps_announceOut (hentries : .entries ∈ ps) (hring : .ring ∈ ps) (houtputs : .outputs ∈ ps) (port d' : Nat) :
    Ctl.Keeps ps c (d.announceOut port d') ↔ Ctl.Keeps ps c d := by
  refine Ctl.keeps_iff_of_keeps ?_
  unfold Ctl.announceOut
  split <;> simp [hentries, hring, houtputs]

@[simp] theorem Ctl.keeps_delayAsk (hentries : .entries ∈ ps) (hring : .ring ∈ ps) (houtputs : .outputs ∈ ps) (port d' st : Nat) :
    Ctl.Keeps ps c (d.delayAsk port d' st) ↔ Ctl.Keeps ps c d := Ctl.keeps_iff_of_keeps (by simp [Ctl.delayAsk, hentries, hring, houtputs])

@[simp] theorem Ctl.keeps_ptpSend (hentries : .entries ∈ ps) (htime : .time ∈ ps) (hring : .ring ∈ ps) (houtputs : .outputs ∈ ps) (port d' kind : Nat)
      :
    Ctl.Keeps ps c (d.ptpSend port d' kind) ↔ Ctl.Keeps ps c d := Ctl.keeps_iff_of_keeps (by simp [Ctl.ptpSend, hentries, htime, hring, houtputs])

@[simp] theorem Ctl.keeps_syncTimeout (hr : Part.reported ⊆ ps) (htime : .time ∈ ps) (hclock : .clock ∈ ps) (hring : .ring ∈ ps) (d' : Nat) :
    Ctl.Keeps ps c (d.syncTimeout d') ↔ Ctl.Keeps ps c d := Ctl.keeps_iff_of_keeps (by simp [Ctl.syncTimeout, hr, htime, hclock, hring])

@[simp] theorem Ctl.keeps_announceTimeout (hr : Part.reported ⊆ ps) (htime : .time ∈ ps) (hclock : .clock ∈ ps) (hring : .ring ∈ ps) (d' : Nat) :
    Ctl.Keeps ps c (d.announceTimeout d') ↔ Ctl.Keeps ps c d := Ctl.keeps_iff_of_keeps (by simp [Ctl.announceTimeout, hr, htime, hclock, hring])

@[simp] theorem Ctl.keeps_switchMessage (htime : .time ∈ ps) (hclock : .clock ∈ ps) (number tick : Nat) :
    Ctl.Keeps ps c (d.switchMessage number tick) ↔ Ctl.Keeps ps c d := by
  refine Ctl.keeps_iff_of_keeps ?_
  unfold Ctl.switchMessage
  split <;> simp [htime, hclock]

@[simp] theorem Ctl.keeps_switchAt (hr : Part.reported ⊆ ps) (htime : .time ∈ ps) (hclock : .clock ∈ ps) :
    Ctl.Keeps ps c d.switchAt ↔ Ctl.Keeps ps c d := by
  refine Ctl.keeps_iff_of_keeps ?_
  unfold Ctl.switchAt
  split <;> simp [hr, htime, hclock]

@[simp] theorem Ctl.keeps_switchAlone (hr : Part.reported ⊆ ps) (htime : .time ∈ ps) (hclock : .clock ∈ ps) (hring : .ring ∈ ps) :
    Ctl.Keeps ps c d.switchAlone ↔ Ctl.Keeps ps c d := Ctl.keeps_iff_of_keeps (by simp [Ctl.switchAlone, hr, htime, hclock, hring])

@[simp] theorem Ctl.keeps_revert (hr : Part.reported ⊆ ps) (htime : .time ∈ ps) (hring : .ring ∈ ps) :
    Ctl.Keeps ps c d.revert ↔ Ctl.Keeps ps c d := Ctl.keeps_iff_of_keeps (by simp [Ctl.revert, hr, htime, hring])

@[simp] theorem Ctl.keeps_holdoverExpire (hr : Part.reported ⊆ ps) (htime : .time ∈ ps) :
    Ctl.Keeps ps c d.holdoverExpire ↔ Ctl.Keeps ps c d := Ctl.keeps_iff_of_keeps (by simp [Ctl.holdoverExpire, hr, htime])

@[simp] theorem Ctl.keeps_timeStep (hr : Part.reported ⊆ ps) (htime : .time ∈ ps) (hclock : .clock ∈ ps) :
    Ctl.Keeps ps c d.timeStep ↔ Ctl.Keeps ps c d := Ctl.keeps_iff_of_keeps (by simp [Ctl.timeStep, hr, htime, hclock])

@[simp] theorem Ctl.keeps_slewDone (hr : Part.reported ⊆ ps) (htime : .time ∈ ps) (hclock : .clock ∈ ps) :
    Ctl.Keeps ps c d.slewDone ↔ Ctl.Keeps ps c d := by
  refine Ctl.keeps_iff_of_keeps ?_
  unfold Ctl.slewDone
  split <;> simp [hr, htime, hclock]

@[simp] theorem Ctl.keeps_timeStart (hentries : .entries ∈ ps) :
    Ctl.Keeps ps c d.timeStart ↔ Ctl.Keeps ps c d := Ctl.keeps_iff_of_keeps (by simp [Ctl.timeStart, hentries])

@[simp] theorem Ctl.keeps_domainEnable (hr : Part.reported ⊆ ps) (htime : .time ∈ ps) (hclock : .clock ∈ ps) (d' v : Nat) :
    Ctl.Keeps ps c (d.domainEnable d' v) ↔ Ctl.Keeps ps c d := Ctl.keeps_iff_of_keeps (by simp [Ctl.domainEnable, hr, htime, hclock])

@[simp] theorem Ctl.keeps_rateSchedule (hentries : .entries ∈ ps) (htime : .time ∈ ps) :
    Ctl.Keeps ps c d.rateSchedule ↔ Ctl.Keeps ps c d := Ctl.keeps_iff_of_keeps (by simp [Ctl.rateSchedule, hentries, htime])

@[simp] theorem Ctl.keeps_clearRate (hentries : .entries ∈ ps) (htime : .time ∈ ps) :
    Ctl.Keeps ps c d.clearRate ↔ Ctl.Keeps ps c d := Ctl.keeps_iff_of_keeps (by simp [Ctl.clearRate, hentries, htime])

@[simp] theorem Ctl.keeps_rateCancel (hentries : .entries ∈ ps) (htime : .time ∈ ps) :
    Ctl.Keeps ps c d.rateCancel ↔ Ctl.Keeps ps c d := Ctl.keeps_iff_of_keeps (by simp [Ctl.rateCancel, hentries, htime])

@[simp] theorem Ctl.keeps_seriesWritten (htime : .time ∈ ps) :
    Ctl.Keeps ps c d.seriesWritten ↔ Ctl.Keeps ps c d := Ctl.keeps_iff_of_keeps (by simp [Ctl.seriesWritten, htime])

@[simp] theorem Ctl.keeps_flipNotice (htime : .time ∈ ps) :
    Ctl.Keeps ps c d.flipNotice ↔ Ctl.Keeps ps c d := Ctl.keeps_iff_of_keeps (by simp [Ctl.flipNotice, htime])

@[simp] theorem Ctl.keeps_compareFire (htime : .time ∈ ps) : Ctl.Keeps ps c d.compareFire ↔ Ctl.Keeps ps c d := by
  refine Ctl.keeps_iff_of_keeps ?_
  unfold Ctl.compareFire
  split <;> simp [htime]

/-! ### Of Machine/Images.lean -/

@[simp] theorem Ctl.keeps_setSlot (hentries : .entries ∈ ps) (himages : .images ∈ ps) (i : Nat) (f : XzSlot → XzSlot) :
    Ctl.Keeps ps c (d.setSlot i f) ↔ Ctl.Keeps ps c d := Ctl.keeps_iff_of_keeps (by simp [Ctl.setSlot, hentries, himages])

@[simp] theorem Ctl.keeps_xzResult (hentries : .entries ∈ ps) (code detail : Nat) :
    Ctl.Keeps ps c (d.xzResult code detail) ↔ Ctl.Keeps ps c d := Ctl.keeps_iff_of_keeps (by simp [Ctl.xzResult, hentries])

@[simp] theorem Ctl.keeps_xzRefuse (hr : Part.reported ⊆ ps) (code detail : Nat) :
    Ctl.Keeps ps c (d.xzRefuse code detail) ↔ Ctl.Keeps ps c d := Ctl.keeps_iff_of_keeps (by simp [Ctl.xzRefuse, hr])

@[simp] theorem Ctl.keeps_fillSlot (himages : .images ∈ ps) (i from_ : Nat) (img : List Byte) :
    Ctl.Keeps ps c (d.fillSlot i from_ img) ↔ Ctl.Keeps ps c d := Ctl.keeps_iff_of_keeps (by simp [Ctl.fillSlot, himages])

@[simp] theorem Ctl.keeps_flushFills (hr : Part.reported ⊆ ps) (hmemory : .memory ∈ ps) (himages : .images ∈ ps) (m : Mem) :
    Ctl.Keeps ps c (flushFills m d).2 ↔ Ctl.Keeps ps c d := Ctl.keeps_iff_of_keeps (by simp [flushFills, hr, hmemory, himages])

@[simp] theorem Ctl.keeps_noFills (himages : .images ∈ ps) :
    Ctl.Keeps ps c d.noFills ↔ Ctl.Keeps ps c d := Ctl.keeps_iff_of_keeps (by simp [Ctl.noFills, himages])

@[simp] theorem Ctl.keeps_slotReadAt (hr : Part.reported ⊆ ps) (hmemory : .memory ∈ ps) (himages : .images ∈ ps) (i off n : Nat) (m : Mem) :
    Ctl.Keeps ps c (slotReadAt i off n m d).2 ↔ Ctl.Keeps ps c d := Ctl.keeps_iff_of_keeps (by simp [slotReadAt, hr, hmemory, himages])

@[simp] theorem Ctl.keeps_slotRead (hr : Part.reported ⊆ ps) (hmemory : .memory ∈ ps) (himages : .images ∈ ps) (i : Nat) (m : Mem) :
    Ctl.Keeps ps c (slotRead i m d).2 ↔ Ctl.Keeps ps c d := Ctl.keeps_iff_of_keeps (by simp [slotRead, hr, hmemory, himages])

@[simp] theorem Ctl.keeps_setCxJob (hengines : .engines ∈ ps) (pipe : Nat) (j : Option CxJob) :
    Ctl.Keeps ps c (d.setCxJob pipe j) ↔ Ctl.Keeps ps c d := Ctl.keeps_iff_of_keeps (by simp [Ctl.setCxJob, hengines])

@[simp] theorem Ctl.keeps_cxCount (hentries : .entries ∈ ps) (hengines : .engines ∈ ps) (pipe taken made result : Nat) :
    Ctl.Keeps ps c (d.cxCount pipe taken made result) ↔ Ctl.Keeps ps c d := Ctl.keeps_iff_of_keeps (by simp [Ctl.cxCount, hentries, hengines])

@[simp] theorem Ctl.keeps_loadJobEnds (hentries : .entries ∈ ps) (hengines : .engines ∈ ps) (res : Option (Nat × Nat × Nat)) :
    Ctl.Keeps ps c (d.loadJobEnds res) ↔ Ctl.Keeps ps c d := by
  refine Ctl.keeps_iff_of_keeps ?_
  unfold Ctl.loadJobEnds
  split <;> simp [hentries, hengines]

@[simp] theorem Ctl.keeps_loadEnds (hregisters : .registers ∈ ps) (himages : .images ∈ ps) (failed : Bool) :
    Ctl.Keeps ps c (d.loadEnds failed) ↔ Ctl.Keeps ps c d := by
  refine Ctl.keeps_iff_of_keeps ?_
  unfold Ctl.loadEnds
  split <;> simp [hregisters, himages]

@[simp] theorem Ctl.keeps_loadFail (hr : Part.reported ⊆ ps) (hengines : .engines ∈ ps) (himages : .images ∈ ps) (code detail : Nat) :
    Ctl.Keeps ps c (d.loadFail code detail) ↔ Ctl.Keeps ps c d := by
  refine Ctl.keeps_iff_of_keeps ?_
  unfold Ctl.loadFail
  split <;> simp [hr, hengines, himages]

@[simp] theorem Ctl.keeps_loadBegin (hr : Part.reported ⊆ ps) (hengines : .engines ∈ ps) (himages : .images ∈ ps) (enc size : Nat) (dma : Bool) :
    Ctl.Keeps ps c (d.loadBegin enc size dma) ↔ Ctl.Keeps ps c d := Ctl.keeps_iff_of_keeps (by simp [Ctl.loadBegin, hr, hengines, himages])

@[simp] theorem Ctl.keeps_loadFill (hr : Part.reported ⊆ ps) (hengines : .engines ∈ ps) (himages : .images ∈ ps) (l : XzLoad) (had : Nat) :
    Ctl.Keeps ps c (d.loadFill l had) ↔ Ctl.Keeps ps c d := Ctl.keeps_iff_of_keeps (by simp [Ctl.loadFill, hr, hengines, himages])

@[simp] theorem Ctl.keeps_loadData (hr : Part.reported ⊆ ps) (hengines : .engines ∈ ps) (himages : .images ∈ ps) (bs : List Byte) :
    Ctl.Keeps ps c (d.loadData bs) ↔ Ctl.Keeps ps c d := by
  refine Ctl.keeps_iff_of_keeps ?_
  unfold Ctl.loadData
  dsimp only
  (repeat' split) <;> simp [hr, hengines, himages]

@[simp] theorem Ctl.keeps_loadWhole (hentries : .entries ∈ ps) (hregisters : .registers ∈ ps) (hengines : .engines ∈ ps) (himages : .images ∈ ps)
      (l : XzLoad) :
    Ctl.Keeps ps c (d.loadWhole l) ↔ Ctl.Keeps ps c d := Ctl.keeps_iff_of_keeps (by simp [Ctl.loadWhole, hentries, hregisters, hengines, himages])

@[simp] theorem Ctl.keeps_loadClose (hr : Part.reported ⊆ ps) (hengines : .engines ∈ ps) (himages : .images ∈ ps) :
    Ctl.Keeps ps c d.loadClose ↔ Ctl.Keeps ps c d := by
  refine Ctl.keeps_iff_of_keeps ?_
  unfold Ctl.loadClose
  (repeat' split) <;> simp [hr, hengines, himages]

@[simp] theorem Ctl.keeps_loadJobStart (hr : Part.reported ⊆ ps) (hengines : .engines ∈ ps) (himages : .images ∈ ps) (g : Nat × Nat) :
    Ctl.Keeps ps c (d.loadJobStart g) ↔ Ctl.Keeps ps c d := by
  refine Ctl.keeps_iff_of_keeps ?_
  unfold Ctl.loadJobStart
  dsimp only
  (repeat' split) <;> simp [hr, hengines, himages]

@[simp] theorem Ctl.keeps_loadJobDone (hentries : .entries ∈ ps) (hregisters : .registers ∈ ps) (hengines : .engines ∈ ps) (himages : .images ∈ ps) :
    Ctl.Keeps ps c d.loadJobDone ↔ Ctl.Keeps ps c d := by
  refine Ctl.keeps_iff_of_keeps ?_
  unfold Ctl.loadJobDone
  split <;> simp [hentries, hregisters, hengines, himages]

@[simp] theorem Ctl.keeps_loadAbort (hentries : .entries ∈ ps) (hregisters : .registers ∈ ps) (hengines : .engines ∈ ps) (himages : .images ∈ ps) :
    Ctl.Keeps ps c d.loadAbort ↔ Ctl.Keeps ps c d := by
  refine Ctl.keeps_iff_of_keeps ?_
  unfold Ctl.loadAbort
  dsimp only
  (repeat' split) <;> simp [hentries, hregisters, hengines, himages]

@[simp] theorem Ctl.keeps_imageLoadBegin (hr : Part.reported ⊆ ps) (hengines : .engines ∈ ps) (himages : .images ∈ ps) :
    Ctl.Keeps ps c d.imageLoadBegin ↔ Ctl.Keeps ps c d := Ctl.keeps_iff_of_keeps (by simp [Ctl.imageLoadBegin, hr, hengines, himages])

@[simp] theorem Ctl.keeps_loadTimeout (hr : Part.reported ⊆ ps) (hengines : .engines ∈ ps) (himages : .images ∈ ps) :
    Ctl.Keeps ps c d.loadTimeout ↔ Ctl.Keeps ps c d := by
  refine Ctl.keeps_iff_of_keeps ?_
  unfold Ctl.loadTimeout
  (repeat' split) <;> simp [hr, hengines, himages]

@[simp] theorem Ctl.keeps_dmaLoadGo (himages : .images ∈ ps) (houtputs : .outputs ∈ ps) : Ctl.Keeps ps c d.dmaLoadGo ↔ Ctl.Keeps ps c d := by
  refine Ctl.keeps_iff_of_keeps ?_
  unfold Ctl.dmaLoadGo
  split <;> simp [himages, houtputs]

@[simp] theorem Ctl.keeps_dmaLoadStart (hr : Part.reported ⊆ ps) (hengines : .engines ∈ ps) (himages : .images ∈ ps) :
    Ctl.Keeps ps c d.dmaLoadStart ↔ Ctl.Keeps ps c d := Ctl.keeps_iff_of_keeps (by simp [Ctl.dmaLoadStart, hr, hengines, himages])

@[simp] theorem Ctl.keeps_dmaLoadEnd (hr : Part.reported ⊆ ps) (hengines : .engines ∈ ps) (himages : .images ∈ ps) (bs : List Byte) (err : Bool) :
    Ctl.Keeps ps c (d.dmaLoadEnd bs err) ↔ Ctl.Keeps ps c d := Ctl.keeps_iff_of_keeps (by simp [Ctl.dmaLoadEnd, hr, hengines, himages])

@[simp] theorem Ctl.keeps_verificationDone (hr : Part.reported ⊆ ps) (hengines : .engines ∈ ps) (himages : .images ∈ ps) (i : Nat) :
    Ctl.Keeps ps c (d.verificationDone i) ↔ Ctl.Keeps ps c d := Ctl.keeps_iff_of_keeps (by simp [Ctl.verificationDone, hr, hengines, himages])

@[simp] theorem Ctl.keeps_actRequest (hr : Part.reported ⊆ ps) (himages : .images ∈ ps) :
    Ctl.Keeps ps c d.actRequest ↔ Ctl.Keeps ps c d := Ctl.keeps_iff_of_keeps (by simp [Ctl.actRequest, hr, himages])

@[simp] theorem Ctl.keeps_actCancel (hr : Part.reported ⊆ ps) (himages : .images ∈ ps) : Ctl.Keeps ps c d.actCancel ↔ Ctl.Keeps ps c d := by
  refine Ctl.keeps_iff_of_keeps ?_
  unfold Ctl.actCancel
  dsimp only
  (repeat' split) <;> simp [hr, himages]

@[simp] theorem Ctl.keeps_sramCopyDone (hr : Part.reported ⊆ ps) (hmemory : .memory ∈ ps) (himages : .images ∈ ps) (m : Mem) :
    Ctl.Keeps ps c (sramCopyDone m d).2 ↔ Ctl.Keeps ps c d := by
  refine Ctl.keeps_iff_of_keeps ?_
  unfold sramCopyDone
  dsimp only
  (repeat' split) <;> simp [hr, hmemory, himages]

@[simp] theorem Ctl.keeps_storeCmd (hr : Part.reported ⊆ ps) (hengines : .engines ∈ ps) (himages : .images ∈ ps) :
    Ctl.Keeps ps c d.storeCmd ↔ Ctl.Keeps ps c d := by
  refine Ctl.keeps_iff_of_keeps ?_
  unfold Ctl.storeCmd
  dsimp only
  (repeat' split) <;> simp [hr, hengines, himages]

@[simp] theorem Ctl.keeps_storeFails (hentries : .entries ∈ ps) (hengines : .engines ∈ ps) (himages : .images ∈ ps) :
    Ctl.Keeps ps c d.storeFails ↔ Ctl.Keeps ps c d := Ctl.keeps_iff_of_keeps (by simp [Ctl.storeFails, hentries, hengines, himages])

@[simp] theorem Ctl.keeps_storeDone (hr : Part.reported ⊆ ps) (hmemory : .memory ∈ ps) (hengines : .engines ∈ ps) (himages : .images ∈ ps) (m : Mem) :
    Ctl.Keeps ps c (storeDone m d).2 ↔ Ctl.Keeps ps c d := by
  refine Ctl.keeps_iff_of_keeps ?_
  unfold storeDone
  dsimp only
  (repeat' split) <;> simp [hr, hmemory, hengines, himages]

@[simp] theorem Ctl.keeps_storedLoad (hr : Part.reported ⊆ ps) (hnonVolatile : .nonVolatile ∈ ps) (hboot : .boot ∈ ps) (himages : .images ∈ ps) :
    Ctl.Keeps ps c d.storedLoad ↔ Ctl.Keeps ps c d := Ctl.keeps_iff_of_keeps (by simp [Ctl.storedLoad, hr, hnonVolatile, hboot, himages])

@[simp] theorem Ctl.keeps_queryClear (hregisters : .registers ∈ ps) :
    Ctl.Keeps ps c d.queryClear ↔ Ctl.Keeps ps c d := Ctl.keeps_iff_of_keeps (by simp [Ctl.queryClear, hregisters])

@[simp] theorem Ctl.keeps_rayQuery (hregisters : .registers ∈ ps) (himages : .images ∈ ps) (n : Nat) :
    Ctl.Keeps ps c (d.rayQuery n) ↔ Ctl.Keeps ps c d := Ctl.keeps_iff_of_keeps (by simp [Ctl.rayQuery, hregisters, himages])

@[simp] theorem Ctl.keeps_rayQueryDone (hregisters : .registers ∈ ps) (himages : .images ∈ ps) :
    Ctl.Keeps ps c d.rayQueryDone ↔ Ctl.Keeps ps c d := by
  refine Ctl.keeps_iff_of_keeps ?_
  unfold Ctl.rayQueryDone
  split <;> simp [hregisters, himages]

/-! ### Of Machine/Compression.lean -/

@[simp] theorem Ctl.keeps_cxStart (hr : Part.reported ⊆ ps) (hmemory : .memory ∈ ps) (hengines : .engines ∈ ps) (himages : .images ∈ ps) (pipe : Nat)
      (m : Mem) :
    Ctl.Keeps ps c (cxStart pipe m d).2 ↔ Ctl.Keeps ps c d := by
  refine Ctl.keeps_iff_of_keeps ?_
  unfold cxStart
  split
  · simp
  split
  · simp [hr, hmemory, hengines, himages]
  split
  · simp
  extract_lets running
  split
  · simp
  extract_lets a c₁ x e first e' c₂ job id t c₃ q
  have h : Ctl.Keeps ps d c₂ := by simp [c₂, c₁, hr, hmemory]
  have h' : Ctl.Keeps ps d c₃ := Ctl.keeps_ite.2 ⟨fun _ => (Ctl.keeps_cx hengines _).2 h, fun _ => h⟩
  clear_value c₂ c₃
  split
  · simpa [hengines] using h
  · simpa [q, hr, hmemory, hengines, himages] using h'

@[simp] theorem Ctl.keeps_cxReport (hr : Part.reported ⊆ ps) (hengines : .engines ∈ ps) (pipe : Nat) (job : CxJob) (taken made result : Nat) :
    Ctl.Keeps ps c (d.cxReport pipe job taken made result) ↔ Ctl.Keeps ps c d := by
  refine Ctl.keeps_iff_of_keeps ?_
  unfold Ctl.cxReport
  exact (Ctl.keeps_cx hengines _).2 (by (repeat' split) <;> simp [hr, hengines])

@[simp] theorem Ctl.keeps_cxFinish (hr : Part.reported ⊆ ps) (hmemory : .memory ∈ ps) (hengines : .engines ∈ ps) (pipe : Nat) (job : CxJob)
      (taken made result check total : Nat) (m : Mem) :
    Ctl.Keeps ps c (cxFinish pipe job taken made result check total m d).2 ↔ Ctl.Keeps ps c d :=
      Ctl.keeps_iff_of_keeps (by simp [cxFinish, hr, hmemory, hengines])

@[simp] theorem Ctl.keeps_cxFail (hr : Part.reported ⊆ ps) (hmemory : .memory ∈ ps) (hengines : .engines ∈ ps) (pipe : Nat) (job : CxJob) (code : Nat)
      (m : Mem) :
    Ctl.Keeps ps c (cxFail pipe job code m d).2 ↔ Ctl.Keeps ps c d := by
  refine Ctl.keeps_iff_of_keeps ?_
  unfold cxFail
  dsimp only
  (repeat' split) <;> simp [hr, hmemory, hengines]

@[simp] theorem Ctl.keeps_cxWrite (hr : Part.reported ⊆ ps) (hmemory : .memory ∈ ps) (hengines : .engines ∈ ps) (pipe : Nat) (job : CxJob)
      (id result : Nat) (r : CxOut) (m : Mem) :
    Ctl.Keeps ps c (cxWrite pipe job id result r m d).2 ↔ Ctl.Keeps ps c d := Ctl.keeps_iff_of_keeps (by simp [cxWrite, hr, hmemory, hengines])

@[simp] theorem Ctl.keeps_cxEndAt (hr : Part.reported ⊆ ps) (hmemory : .memory ∈ ps) (hengines : .engines ∈ ps) (pipe : Nat)
      (cut : Option (Nat × Nat)) (m : Mem) :
    Ctl.Keeps ps c (cxEndAt pipe cut m d).2 ↔ Ctl.Keeps ps c d := by
  refine Ctl.keeps_iff_of_keeps ?_
  unfold cxEndAt
  split
  · simp
  extract_lets d' s₀ fr first inA inL clean last inp lim ctx before s p df r stuck result c₁ keep t c₂ c₃
  split
  · simp
  split
  · simp [hr, hmemory, hengines]
  split
  · simp [hr, hmemory, hengines]
  have h : Ctl.Keeps ps d c₂ := by
    refine Ctl.keeps_ite.2 ⟨fun _ => ?_, fun _ => (Ctl.keeps_cx hengines _).2 ?_⟩ <;> simp [c₁, hr, hmemory]
  clear_value c₂ r
  simpa [c₃, hr, hmemory, hengines] using h

@[simp] theorem Ctl.keeps_cxEnd (hr : Part.reported ⊆ ps) (hmemory : .memory ∈ ps) (hengines : .engines ∈ ps) (himages : .images ∈ ps) (pipe : Nat)
      (verify : Option Nat) (m : Mem) :
    Ctl.Keeps ps c (cxEnd pipe verify m d).2 ↔ Ctl.Keeps ps c d := by
  refine Ctl.keeps_iff_of_keeps ?_
  unfold cxEnd
  split <;> simp [hr, hmemory, hengines, himages]

@[simp] theorem Ctl.keeps_cxFault (hr : Part.reported ⊆ ps) (hmemory : .memory ∈ ps) (hengines : .engines ∈ ps) (himages : .images ∈ ps) (pipe : Nat)
      (made : List Nat) (m : Mem) :
    Ctl.Keeps ps c (cxFault pipe made m d).2 ↔ Ctl.Keeps ps c d := by
  refine Ctl.keeps_iff_of_keeps ?_
  unfold cxFault
  dsimp only
  (repeat' split) <;> simp [hr, hmemory, hengines, himages]

@[simp] theorem Ctl.keeps_cxBack (hentries : .entries ∈ ps) (pipe : Nat) :
    Ctl.Keeps ps c (d.cxBack pipe) ↔ Ctl.Keeps ps c d := Ctl.keeps_iff_of_keeps (by simp [Ctl.cxBack, hentries])

/-! ### Of Machine/Thermal.lean -/

@[simp] theorem Ctl.keeps_setPm (hpower : .power ∈ ps) (f : PmState → PmState) :
    Ctl.Keeps ps c (d.setPm f) ↔ Ctl.Keeps ps c d := Ctl.keeps_iff_of_keeps (by simp [Ctl.setPm, hpower])

@[simp] theorem Ctl.keeps_showLevel (hentries : .entries ∈ ps) :
    Ctl.Keeps ps c d.showLevel ↔ Ctl.Keeps ps c d := Ctl.keeps_iff_of_keeps (by simp [Ctl.showLevel, hentries])

@[simp] theorem Ctl.keeps_leaveLevels (hr : Part.reported ⊆ ps) (hpower : .power ∈ ps) :
    Ctl.Keeps ps c d.leaveLevels ↔ Ctl.Keeps ps c d := Ctl.keeps_iff_of_keeps (by simp [Ctl.leaveLevels, hr, hpower])

@[simp] theorem Ctl.keeps_enterLevels (hr : Part.reported ⊆ ps) (hpower : .power ∈ ps) :
    Ctl.Keeps ps c d.enterLevels ↔ Ctl.Keeps ps c d := Ctl.keeps_iff_of_keeps (by simp [Ctl.enterLevels, hr, hpower])

@[simp] theorem Ctl.keeps_lockThrottle (hr : Part.reported ⊆ ps) (hpower : .power ∈ ps) : Ctl.Keeps ps c d.lockThrottle ↔ Ctl.Keeps ps c d := by
  refine Ctl.keeps_iff_of_keeps ?_
  unfold Ctl.lockThrottle
  dsimp only
  (repeat' split) <;> simp [hr, hpower]

@[simp] theorem Ctl.keeps_showSites (hentries : .entries ∈ ps) :
    Ctl.Keeps ps c d.showSites ↔ Ctl.Keeps ps c d := Ctl.keeps_iff_of_keeps (by simp [Ctl.showSites, hentries])

@[simp] theorem Ctl.keeps_lifeTick (hentries : .entries ∈ ps) (hpower : .power ∈ ps) :
    Ctl.Keeps ps c d.lifeTick ↔ Ctl.Keeps ps c d := Ctl.keeps_iff_of_keeps (by simp [Ctl.lifeTick, hentries, hpower])

@[simp] theorem Ctl.keeps_thermalRound (hr : Part.reported ⊆ ps) (hpower : .power ∈ ps) (rd : List (Int × Bool)) :
    Ctl.Keeps ps c (d.thermalRound rd) ↔ Ctl.Keeps ps c d := by
  refine Ctl.keeps_iff_of_keeps ?_
  unfold Ctl.thermalRound
  split
  · simp
  extract_lets c₁ old wasHot idx s₁ failed s₂ worst s₃ s₃' top s₄ out c₂ hot c₃ c₄ c₅ c₆ c₇
  clear_value out hot s₄ wasHot
  simp [c₂, c₁, c₃, c₄, c₅, c₆, c₇, hr, hpower]

@[simp] theorem Ctl.keeps_coolWatch (hpower : .power ∈ ps) :
    Ctl.Keeps ps c d.coolWatch ↔ Ctl.Keeps ps c d := Ctl.keeps_iff_of_keeps (by simp [Ctl.coolWatch, hpower])

@[simp] theorem Ctl.keeps_siteReadmit (hr : Part.reported ⊆ ps) (hpower : .power ∈ ps) (i : Nat) :
    Ctl.Keeps ps c (d.siteReadmit i) ↔ Ctl.Keeps ps c d := by
  refine Ctl.keeps_iff_of_keeps ?_
  unfold Ctl.siteReadmit
  dsimp only
  (repeat' split) <;> simp [hr, hpower]

@[simp] theorem Ctl.keeps_holdExpiry (hr : Part.reported ⊆ ps) (hpower : .power ∈ ps) : Ctl.Keeps ps c d.holdExpiry ↔ Ctl.Keeps ps c d := by
  refine Ctl.keeps_iff_of_keeps ?_
  unfold Ctl.holdExpiry
  split <;> simp [hr, hpower]

/-! ### Of Machine/Power.lean -/

@[simp] theorem Ctl.keeps_setTarget (hentries : .entries ∈ ps) (hpower : .power ∈ ps) (houtputs : .outputs ∈ ps) (t : Nat) :
    Ctl.Keeps ps c (d.setTarget t) ↔ Ctl.Keeps ps c d := Ctl.keeps_iff_of_keeps (by simp [Ctl.setTarget, hentries, hpower, houtputs])

@[simp] theorem Ctl.keeps_avsLimit (hr : Part.reported ⊆ ps) :
    Ctl.Keeps ps c d.avsLimit ↔ Ctl.Keeps ps c d := Ctl.keeps_iff_of_keeps (by simp [Ctl.avsLimit, hr])

@[simp] theorem Ctl.keeps_avsUpdate (hr : Part.reported ⊆ ps) (hpower : .power ∈ ps) (slack : Nat) :
    Ctl.Keeps ps c (d.avsUpdate slack) ↔ Ctl.Keeps ps c d := Ctl.keeps_iff_of_keeps (by simp [Ctl.avsUpdate, hr, hpower])

@[simp] theorem Ctl.keeps_avsEmergency (hr : Part.reported ⊆ ps) (hpower : .power ∈ ps) (island slack : Nat) :
    Ctl.Keeps ps c (d.avsEmergency island slack) ↔ Ctl.Keeps ps c d := Ctl.keeps_iff_of_keeps (by simp [Ctl.avsEmergency, hr, hpower])

@[simp] theorem Ctl.keeps_railAddr (hentries : .entries ∈ ps) (hpower : .power ∈ ps) (r : Nat) :
    Ctl.Keeps ps c (d.railAddr r) ↔ Ctl.Keeps ps c d := Ctl.keeps_iff_of_keeps (by simp [Ctl.railAddr, hentries, hpower])

@[simp] theorem Ctl.keeps_railPoll (hr : Part.reported ⊆ ps) (hpower : .power ∈ ps) (r vout : Nat) (ans : Option (Nat × Nat)) :
    Ctl.Keeps ps c (d.railPoll r vout ans) ↔ Ctl.Keeps ps c d := by
  refine Ctl.keeps_iff_of_keeps ?_
  unfold Ctl.railPoll
  split <;> simp [hr, hpower]

@[simp] theorem Ctl.keeps_powerTotal (hentries : .entries ∈ ps) :
    Ctl.Keeps ps c d.powerTotal ↔ Ctl.Keeps ps c d := Ctl.keeps_iff_of_keeps (by simp [Ctl.powerTotal, hentries])

@[simp] theorem Ctl.keeps_pmbusPoll (hr : Part.reported ⊆ ps) (hpower : .power ∈ ps) (ans : List (Nat × Option (Nat × Nat))) :
    Ctl.Keeps ps c (d.pmbusPoll ans) ↔ Ctl.Keeps ps c d := Ctl.keeps_iff_of_keeps (by simp [Ctl.pmbusPoll, hr, hpower])

@[simp] theorem Ctl.keeps_pmbAlert (hr : Part.reported ⊆ ps) (hpower : .power ∈ ps) (ans : List (Option Nat)) :
    Ctl.Keeps ps c (d.pmbAlert ans) ↔ Ctl.Keeps ps c d := by
  refine Ctl.keeps_iff_of_keeps ?_
  unfold Ctl.pmbAlert
  split
  · simp
  · refine (Ctl.keeps_foldl fun x r => ?_).2 (Ctl.keeps_rfl ps d)
    (repeat' split) <;> simp [hr, hpower]

@[simp] theorem Ctl.keeps_refclkLost (hr : Part.reported ⊆ ps) (hpower : .power ∈ ps) : Ctl.Keeps ps c d.refclkLost ↔ Ctl.Keeps ps c d := by
  refine Ctl.keeps_iff_of_keeps ?_
  unfold Ctl.refclkLost
  split
  · simp
  · exact (Ctl.keeps_post hr ..).2 ((Ctl.keeps_fm (Part.faults_mem hr) _).2 (by simp [hpower]))

@[simp] theorem Ctl.keeps_pllUnlock (hr : Part.reported ⊆ ps) (pll : Nat) :
    Ctl.Keeps ps c (d.pllUnlock pll) ↔ Ctl.Keeps ps c d := Ctl.keeps_iff_of_keeps (by simp [Ctl.pllUnlock, hr])

@[simp] theorem Ctl.keeps_updCal (hpower : .power ∈ ps) (item idx : Nat) (f : CalInst → CalInst) :
    Ctl.Keeps ps c (d.updCal item idx f) ↔ Ctl.Keeps ps c d := Ctl.keeps_iff_of_keeps (by simp [Ctl.updCal, hpower])

@[simp] theorem Ctl.keeps_showQuality (hr : Part.reported ⊆ ps) (hpower : .power ∈ ps) (item : Nat) :
    Ctl.Keeps ps c (d.showQuality item) ↔ Ctl.Keeps ps c d := Ctl.keeps_iff_of_keeps (by simp [Ctl.showQuality, hr, hpower])

@[simp] theorem Ctl.keeps_showCal (hentries : .entries ∈ ps) :
    Ctl.Keeps ps c d.showCal ↔ Ctl.Keeps ps c d := Ctl.keeps_iff_of_keeps (by simp [Ctl.showCal, hentries])

@[simp] theorem Ctl.keeps_calBegin (hentries : .entries ∈ ps) (hpower : .power ∈ ps) (item idx : Nat) (free : Bool) :
    Ctl.Keeps ps c (d.calBegin item idx free) ↔ Ctl.Keeps ps c d := by
  refine Ctl.keeps_iff_of_keeps ?_
  unfold Ctl.calBegin
  dsimp only
  (repeat' split) <;> simp [hentries, hpower]

@[simp] theorem Ctl.keeps_calNext (hentries : .entries ∈ ps) (hpower : .power ∈ ps) (item : Nat) :
    Ctl.Keeps ps c (d.calNext item) ↔ Ctl.Keeps ps c d := by
  refine Ctl.keeps_iff_of_keeps ?_
  unfold Ctl.calNext
  split <;> simp [hentries, hpower]

@[simp] theorem Ctl.keeps_recalTrigger (hentries : .entries ∈ ps) (hpower : .power ∈ ps) (item idx : Nat) (free : Bool) :
    Ctl.Keeps ps c (d.recalTrigger item idx free) ↔ Ctl.Keeps ps c d := by
  refine Ctl.keeps_iff_of_keeps ?_
  unfold Ctl.recalTrigger
  split <;> simp [hentries, hpower]

@[simp] theorem Ctl.keeps_calNowItem (hentries : .entries ∈ ps) (hpower : .power ∈ ps) (item : Nat) :
    Ctl.Keeps ps c (d.calNowItem item) ↔ Ctl.Keeps ps c d := Ctl.keeps_iff_of_keeps (by simp [Ctl.calNowItem, hentries, hpower])

@[simp] theorem Ctl.keeps_calNowCmd (hentries : .entries ∈ ps) (hpower : .power ∈ ps) (item : Nat) :
    Ctl.Keeps ps c (d.calNowCmd item) ↔ Ctl.Keeps ps c d := Ctl.keeps_iff_of_keeps (by simp [Ctl.calNowCmd, hentries, hpower])

@[simp] theorem Ctl.keeps_calDone (hr : Part.reported ⊆ ps) (hpower : .power ∈ ps) (item idx residual : Nat) (codes : List Int) :
    Ctl.Keeps ps c (d.calDone item idx residual codes) ↔ Ctl.Keeps ps c d := by
  refine Ctl.keeps_iff_of_keeps ?_
  unfold Ctl.calDone
  split <;> simp [hr, hpower]

@[simp] theorem Ctl.keeps_calInitial (hr : Part.reported ⊆ ps) (hdraws : .draws ∈ ps) (hpower : .power ∈ ps) (fails : List (Nat × Nat)) :
    Ctl.Keeps ps c (d.calInitial fails) ↔ Ctl.Keeps ps c d :=
      Ctl.keeps_iff_of_keeps (by simp [Ctl.calInitial, hr, hdraws, hpower, Ctl.keeps_incEa (Part.entries_mem hr),
        Ctl.keeps_setReg (Part.registers_mem hr)])

@[simp] theorem Ctl.keeps_referenceCompare (hr : Part.reported ⊆ ps) (hpower : .power ∈ ps) (diff : Int) :
    Ctl.Keeps ps c (d.referenceCompare diff) ↔ Ctl.Keeps ps c d := Ctl.keeps_iff_of_keeps (by simp [Ctl.referenceCompare, hr, hpower])

end Sys2Proof.Machine
end

section
/-! PROOFS. Frames: the parts that decoding, the palette, ring operations and lanes may change; each lemma asks for the parts that its operation may change among those of the list. -/
namespace Sys2Proof.Machine

variable {ps : List Part} {c d : Ctl}

/-! ### Of Machine/PalOps.lean -/

@[simp] theorem Ctl.keeps_setPl (hpalette : .palette ∈ ps) (f : PlState → PlState) :
    Ctl.Keeps ps c (d.setPl f) ↔ Ctl.Keeps ps c d := Ctl.keeps_iff_of_keeps (by simp [Ctl.setPl, hpalette])

@[simp] theorem Ctl.keeps_updPl (hpalette : .palette ∈ ps) (s : Nat) (f : PlSlot → PlSlot) :
    Ctl.Keeps ps c (d.updPl s f) ↔ Ctl.Keeps ps c d := Ctl.keeps_iff_of_keeps (by simp [Ctl.updPl, hpalette])

@[simp] theorem Ctl.keeps_plPost (hr : Part.reported ⊆ ps) (hpalette : .palette ∈ ps) (code s : Nat) (more : List (Nat × Nat)) :
    Ctl.Keeps ps c (d.plPost code s more) ↔ Ctl.Keeps ps c d := Ctl.keeps_iff_of_keeps (by simp [Ctl.plPost, hr, hpalette])

@[simp] theorem Ctl.keeps_plSized (hr : Part.reported ⊆ ps) (hpalette : .palette ∈ ps) (s frame w h : Nat) :
    Ctl.Keeps ps c (d.plSized s frame w h) ↔ Ctl.Keeps ps c d := by
  refine Ctl.keeps_iff_of_keeps ?_
  unfold Ctl.plSized
  dsimp only
  (repeat' split) <;> simp [hr, hpalette]

@[simp] theorem Ctl.keeps_cellsWrite (hr : Part.reported ⊆ ps) (hmemory : .memory ∈ ps) (f : Nat → Nat) (cells : List Nat) (m : Mem) :
    Ctl.Keeps ps c (cellsWrite f cells m d).2 ↔ Ctl.Keeps ps c d := Ctl.keeps_iff_of_keeps (by simp [cellsWrite, hr, hmemory])

@[simp] theorem Ctl.keeps_boundsMerge (hr : Part.reported ⊆ ps) (hmemory : .memory ∈ ps) (hpalette : .palette ∈ ps)
      (frame s key w h x0 y0 x1 y1 dlo dhi : Nat) (op : Bool) (m : Mem) :
    Ctl.Keeps ps c (boundsMerge frame s key w h x0 y0 x1 y1 dlo dhi op m d).2 ↔ Ctl.Keeps ps c d := by
  refine Ctl.keeps_iff_of_keeps ?_
  unfold boundsMerge
  dsimp only
  (repeat' split) <;> simp [hr, hmemory, hpalette]

@[simp] theorem Ctl.keeps_boundsUnknown (hr : Part.reported ⊆ ps) (hmemory : .memory ∈ ps) (frame s key w h x0 y0 x1 y1 : Nat) (m : Mem) :
    Ctl.Keeps ps c (boundsUnknown frame s key w h x0 y0 x1 y1 m d).2 ↔ Ctl.Keeps ps c d := by
  refine Ctl.keeps_iff_of_keeps ?_
  unfold boundsUnknown
  split <;> simp [hr, hmemory]

@[simp] theorem Ctl.keeps_planCull (hr : Part.reported ⊆ ps) (hmemory : .memory ∈ ps) (hpalette : .palette ∈ ps) (frame limit : Nat) (m : Mem) :
    Ctl.Keeps ps c (planCull frame limit m d).2 ↔ Ctl.Keeps ps c d := by
  refine Ctl.keeps_iff_of_keeps ?_
  unfold planCull
  split <;> simp [hr, hmemory, hpalette]

/-! ### Of Machine/Decoding.lean -/

@[simp] theorem Ctl.keeps_setDc (hdecoder : .decoder ∈ ps) (f : DcState → DcState) :
    Ctl.Keeps ps c (d.setDc f) ↔ Ctl.Keeps ps c d := Ctl.keeps_iff_of_keeps (by simp [Ctl.setDc, hdecoder])

@[simp] theorem Ctl.keeps_updCtx (hdecoder : .decoder ∈ ps) (n : Nat) (f : DcCtx → DcCtx) :
    Ctl.Keeps ps c (d.updCtx n f) ↔ Ctl.Keeps ps c d := Ctl.keeps_iff_of_keeps (by simp [Ctl.updCtx, hdecoder])

@[simp] theorem Ctl.keeps_updPic (hdecoder : .decoder ∈ ps) (n id : Nat) (f : DcPic → DcPic) :
    Ctl.Keeps ps c (d.updPic n id f) ↔ Ctl.Keeps ps c d := Ctl.keeps_iff_of_keeps (by simp [Ctl.updPic, hdecoder])

@[simp] theorem Ctl.keeps_dcPost (hr : Part.reported ⊆ ps) (hdecoder : .decoder ∈ ps) (code n : Nat) :
    Ctl.Keeps ps c (d.dcPost code n) ↔ Ctl.Keeps ps c d := Ctl.keeps_iff_of_keeps (by simp [Ctl.dcPost, hr, hdecoder])

@[simp] theorem Ctl.keeps_dcErr (hr : Part.reported ⊆ ps) (hdecoder : .decoder ∈ ps) (n code : Nat) :
    Ctl.Keeps ps c (d.dcErr n code) ↔ Ctl.Keeps ps c d := Ctl.keeps_iff_of_keeps (by simp [Ctl.dcErr, hr, hdecoder])

@[simp] theorem Ctl.keeps_dcFree (hdecoder : .decoder ∈ ps) (n : Nat) :
    Ctl.Keeps ps c (d.dcFree n) ↔ Ctl.Keeps ps c d := Ctl.keeps_iff_of_keeps (by simp [Ctl.dcFree, hdecoder])

@[simp] theorem Ctl.keeps_showRunning (hentries : .entries ∈ ps) :
    Ctl.Keeps ps c d.showRunning ↔ Ctl.Keeps ps c d := Ctl.keeps_iff_of_keeps (by simp [Ctl.showRunning, hentries])

@[simp] theorem Ctl.keeps_setCtxState (hentries : .entries ∈ ps) (hdecoder : .decoder ∈ ps) (n st : Nat) :
    Ctl.Keeps ps c (d.setCtxState n st) ↔ Ctl.Keeps ps c d := Ctl.keeps_iff_of_keeps (by simp [Ctl.setCtxState, hentries, hdecoder])

@[simp] theorem Ctl.keeps_showFill (hentries : .entries ∈ ps) :
    Ctl.Keeps ps c d.showFill ↔ Ctl.Keeps ps c d := Ctl.keeps_iff_of_keeps (by simp [Ctl.showFill, hentries])

@[simp] theorem Ctl.keeps_dropUnits (hentries : .entries ∈ ps) (hdecoder : .decoder ∈ ps) (f : DcUnit → Bool) :
    Ctl.Keeps ps c (d.dropUnits f) ↔ Ctl.Keeps ps c d := Ctl.keeps_iff_of_keeps (by simp [Ctl.dropUnits, hentries, hdecoder])

@[simp] theorem Ctl.keeps_dcFlush (hentries : .entries ∈ ps) (hdecoder : .decoder ∈ ps) (n : Nat) :
    Ctl.Keeps ps c (d.dcFlush n) ↔ Ctl.Keeps ps c d := Ctl.keeps_iff_of_keeps (by simp [Ctl.dcFlush, hentries, hdecoder])

@[simp] theorem Ctl.keeps_dcEnable (hentries : .entries ∈ ps) (hdecoder : .decoder ∈ ps) (n : Nat) :
    Ctl.Keeps ps c (d.dcEnable n) ↔ Ctl.Keeps ps c d := Ctl.keeps_iff_of_keeps (by simp [Ctl.dcEnable, hentries, hdecoder])

@[simp] theorem Ctl.keeps_markConcealed (hr : Part.reported ⊆ ps) (hdecoder : .decoder ∈ ps) (n id : Nat) :
    Ctl.Keeps ps c (d.markConcealed n id) ↔ Ctl.Keeps ps c d := by
  refine Ctl.keeps_iff_of_keeps ?_
  unfold Ctl.markConcealed
  split <;> simp [hr, hdecoder]

@[simp] theorem Ctl.keeps_spread (hr : Part.reported ⊆ ps) (hdecoder : .decoder ∈ ps) (n : Nat) :
    Ctl.Keeps ps c (d.spread n) ↔ Ctl.Keeps ps c d := Ctl.keeps_iff_of_keeps (by simp [Ctl.spread, hr, hdecoder])

@[simp] theorem Ctl.keeps_colocatedRead (hr : Part.reported ⊆ ps) (hmemory : .memory ∈ ps) (h : DcHdr) (q : DcPic) (kk bx by_ : Nat)
      (fill : List Byte) (m : Mem) :
    Ctl.Keeps ps c (colocatedRead h q kk bx by_ fill m d).2 ↔ Ctl.Keeps ps c d := Ctl.keeps_iff_of_keeps (by simp [colocatedRead, hr, hmemory])

@[simp] theorem Ctl.keeps_concealBlock (hr : Part.reported ⊆ ps) (hmemory : .memory ∈ ps) (hdecoder : .decoder ∈ ps) (n id kk b : Nat) (m : Mem) :
    Ctl.Keeps ps c (concealBlock n id kk b m d).2 ↔ Ctl.Keeps ps c d := by
  refine Ctl.keeps_iff_of_keeps ?_
  unfold concealBlock
  dsimp only
  (repeat' split) <;> simp [hr, hmemory, hdecoder]

@[simp] theorem Ctl.keeps_concealAll (hr : Part.reported ⊆ ps) (hmemory : .memory ∈ ps) (hdecoder : .decoder ∈ ps) (l : List (Nat × Nat × Nat × Nat))
      (m : Mem) :
    Ctl.Keeps ps c (concealAll l m d).2 ↔ Ctl.Keeps ps c d := Ctl.keeps_iff_of_keeps (by simp [concealAll, hr, hmemory, hdecoder])

@[simp] theorem Ctl.keeps_concealTime (hdecoder : .decoder ∈ ps) (e k : Nat) :
    Ctl.Keeps ps c (d.concealTime e k) ↔ Ctl.Keeps ps c d := Ctl.keeps_iff_of_keeps (by simp [Ctl.concealTime, hdecoder])

@[simp] theorem Ctl.keeps_concealShared (hdecoder : .decoder ∈ ps) (k : Nat) :
    Ctl.Keeps ps c (d.concealShared k) ↔ Ctl.Keeps ps c d := Ctl.keeps_iff_of_keeps (by simp [Ctl.concealShared, hdecoder])

@[simp] theorem Ctl.keeps_dcHeaders (hr : Part.reported ⊆ ps) (hdecoder : .decoder ∈ ps) (n : Nat) (s : StreamHdr) (l : LayerHdr) :
    Ctl.Keeps ps c (d.dcHeaders n s l) ↔ Ctl.Keeps ps c d := by
  refine Ctl.keeps_iff_of_keeps ?_
  unfold Ctl.dcHeaders
  split <;> simp [hr, hdecoder]

@[simp] theorem Ctl.keeps_dcOrder (hr : Part.reported ⊆ ps) (hdecoder : .decoder ∈ ps) (n : Nat) :
    Ctl.Keeps ps c (d.dcOrder n) ↔ Ctl.Keeps ps c d := Ctl.keeps_iff_of_keeps (by simp [Ctl.dcOrder, hr, hdecoder])

@[simp] theorem Ctl.keeps_dcTakePic (hr : Part.reported ⊆ ps) (hdecoder : .decoder ∈ ps) (hpalette : .palette ∈ ps) (n : Nat) (h : DcHdr)
      (p : PictureHdr) (f : Nat) :
    Ctl.Keeps ps c (d.dcTakePic n h p f) ↔ Ctl.Keeps ps c d := Ctl.keeps_iff_of_keeps (by simp [Ctl.dcTakePic, hr, hdecoder, hpalette])

@[simp] theorem Ctl.keeps_dcPicture (hr : Part.reported ⊆ ps) (hdecoder : .decoder ∈ ps) (hpalette : .palette ∈ ps) (n : Nat) (p : PictureHdr) :
    Ctl.Keeps ps c (d.dcPicture n p) ↔ Ctl.Keeps ps c d := by
  refine Ctl.keeps_iff_of_keeps ?_
  unfold Ctl.dcPicture
  dsimp only
  (repeat' split) <;> simp [hr, hdecoder, hpalette]

@[simp] theorem Ctl.keeps_takeSlice (hr : Part.reported ⊆ ps) (hmemory : .memory ∈ ps) (hdecoder : .decoder ∈ ps) (hpalette : .palette ∈ ps)
      (u : DcUnit) (m : Mem) :
    Ctl.Keeps ps c (takeSlice u m d).2 ↔ Ctl.Keeps ps c d := by
  refine Ctl.keeps_iff_of_keeps ?_
  unfold takeSlice
  dsimp only
  (repeat' split) <;> simp [hr, hmemory, hdecoder, hpalette]

@[simp] theorem Ctl.keeps_resolveCtx (hr : Part.reported ⊆ ps) (hmemory : .memory ∈ ps) (hdecoder : .decoder ∈ ps) (hpalette : .palette ∈ ps)
      (n : Nat) (m : Mem) :
    Ctl.Keeps ps c (resolveCtx n m d).2 ↔ Ctl.Keeps ps c d := Ctl.keeps_iff_of_keeps (by simp [resolveCtx, hr, hmemory, hdecoder, hpalette])

@[simp] theorem Ctl.keeps_storeExt (hr : Part.reported ⊆ ps) (hmemory : .memory ∈ ps) (l : List (Nat × Nat)) (bs : List Byte) (q : Mem × Ctl) :
    Ctl.Keeps ps c (storeExt l bs q).2 ↔ Ctl.Keeps ps c q.2 := by
  induction l generalizing bs q with
  | nil => simp [storeExt]
  | cons e l ih => simp [storeExt, ih, hr, hmemory]

@[simp] theorem Ctl.keeps_unitArrival (hr : Part.reported ⊆ ps) (hmemory : .memory ∈ ps) (hengines : .engines ∈ ps) (hdecoder : .decoder ∈ ps)
      (hpalette : .palette ∈ ps) (m : Mem) :
    Ctl.Keeps ps c (unitArrival m d).2 ↔ Ctl.Keeps ps c d := by
  refine Ctl.keeps_iff_of_keeps ?_
  unfold unitArrival
  split
  · simp
  · dsimp only
    (repeat' split) <;> simp [hr, hmemory, hengines, hdecoder, hpalette]

@[simp] theorem Ctl.keeps_updEng (hdecoder : .decoder ∈ ps) (e : Nat) (f : DcEng → DcEng) :
    Ctl.Keeps ps c (d.updEng e f) ↔ Ctl.Keeps ps c d := Ctl.keeps_iff_of_keeps (by simp [Ctl.updEng, hdecoder])

@[simp] theorem Ctl.keeps_dcControl (hr : Part.reported ⊆ ps) (hdecoder : .decoder ∈ ps) (hpalette : .palette ∈ ps) (n ty : Nat) (raw : List Byte) :
    Ctl.Keeps ps c (d.dcControl n ty raw) ↔ Ctl.Keeps ps c d := by
  refine Ctl.keeps_iff_of_keeps ?_
  unfold Ctl.dcControl
  dsimp only
  (repeat' split) <;> simp [hr, hdecoder, hpalette]

@[simp] theorem Ctl.keeps_engineDispatch (hr : Part.reported ⊆ ps) (hmemory : .memory ∈ ps) (hdecoder : .decoder ∈ ps) (hpalette : .palette ∈ ps)
      (e : Nat) (m : Mem) :
    Ctl.Keeps ps c (engineDispatch e m d).2 ↔ Ctl.Keeps ps c d := by
  refine Ctl.keeps_iff_of_keeps ?_
  unfold engineDispatch
  dsimp only
  (repeat' split) <;> simp [hr, hmemory, hdecoder, hpalette]

@[simp] theorem Ctl.keeps_writeCb (hr : Part.reported ⊆ ps) (hmemory : .memory ∈ ps) (hdecoder : .decoder ∈ ps) (n : Nat) (p : DcPic) (e : SliceEnv)
      (s : DecSt) (kk cx cy : Nat) (m : Mem) :
    Ctl.Keeps ps c (writeCb n p e s kk cx cy m d).2 ↔ Ctl.Keeps ps c d := by
  refine Ctl.keeps_iff_of_keeps ?_
  unfold writeCb
  dsimp only
  (repeat' split) <;> simp [hr, hmemory, hdecoder]

@[simp] theorem Ctl.keeps_sliceEnd (hr : Part.reported ⊆ ps) (hmemory : .memory ∈ ps) (hdecoder : .decoder ∈ ps) (e limit : Nat) (u : DcUnit)
      (p : DcPic) (m : Mem) :
    Ctl.Keeps ps c (sliceEnd e limit u p m d).2.1 ↔ Ctl.Keeps ps c d := Ctl.keeps_iff_of_keeps (by simp [sliceEnd, hr, hmemory, hdecoder])

@[simp] theorem Ctl.keeps_sliceDone (hr : Part.reported ⊆ ps) (hmemory : .memory ∈ ps) (hdecoder : .decoder ∈ ps) (e : Nat) (m : Mem) :
    Ctl.Keeps ps c (sliceDone e m d).2 ↔ Ctl.Keeps ps c d := by
  refine Ctl.keeps_iff_of_keeps ?_
  unfold sliceDone
  dsimp only
  (repeat' split) <;> simp [hr, hmemory, hdecoder]

@[simp] theorem Ctl.keeps_dcCutoff (hr : Part.reported ⊆ ps) (hmemory : .memory ∈ ps) (hdecoder : .decoder ∈ ps) (f : Nat) (done : List Nat) (m : Mem)
      :
    Ctl.Keeps ps c (dcCutoff f done m d).2 ↔ Ctl.Keeps ps c d := by
  refine Ctl.keeps_iff_of_keeps ?_
  unfold dcCutoff
  extract_lets q c₁ c₂ all
  have h : Ctl.Keeps ps d q.2 := (Ctl.keeps_foldl_snd fun q x => by simp [hr, hmemory, hdecoder]).2 (Ctl.keeps_rfl ps d)
  clear_value q all
  refine (Ctl.keeps_foldl_snd fun q x => ?_).2 (by simpa [c₂, c₁, hr, hmemory, hdecoder] using h)
  extract_lets n p h owed c₃
  have h₃ : Ctl.Keeps ps q.2 c₃ := by simp [c₃, hr, hdecoder]
  clear_value c₃ owed
  split
  · exact h₃
  · refine (Ctl.keeps_foldl_snd fun q k => (Ctl.keeps_foldl_snd fun q b => ?_).2 (Ctl.keeps_rfl ps q.2)).2 h₃
    simp [hr, hmemory]

@[simp] theorem Ctl.keeps_cutoff (hr : Part.reported ⊆ ps) (hmemory : .memory ∈ ps) (hdecoder : .decoder ∈ ps) (done : List Nat) (m : Mem) :
    Ctl.Keeps ps c (cutoff done m d).2 ↔ Ctl.Keeps ps c d := by
  refine Ctl.keeps_iff_of_keeps ?_
  unfold cutoff
  split <;> simp [hr, hmemory, hdecoder]

@[simp] theorem Ctl.keeps_concealDone (hr : Part.reported ⊆ ps) (hmemory : .memory ∈ ps) (hdecoder : .decoder ∈ ps) (k : Nat) (m : Mem) :
    Ctl.Keeps ps c (concealDone k m d).2 ↔ Ctl.Keeps ps c d := by
  refine Ctl.keeps_iff_of_keeps ?_
  unfold concealDone
  split <;> simp [hr, hmemory, hdecoder]

@[simp] theorem Ctl.keeps_contextEcc (hr : Part.reported ⊆ ps) (hdecoder : .decoder ∈ ps) (n : Nat) :
    Ctl.Keeps ps c (d.contextEcc n) ↔ Ctl.Keeps ps c d := Ctl.keeps_iff_of_keeps (by simp [Ctl.contextEcc, hr, hdecoder])

@[simp] theorem Ctl.keeps_engineFault (hr : Part.reported ⊆ ps) (hmemory : .memory ∈ ps) (hdecoder : .decoder ∈ ps) (e done : Nat) (m : Mem) :
    Ctl.Keeps ps c (engineFault e done m d).2 ↔ Ctl.Keeps ps c d := by
  refine Ctl.keeps_iff_of_keeps ?_
  unfold engineFault
  dsimp only
  (repeat' split) <;> simp [hr, hmemory, hdecoder]

@[simp] theorem Ctl.keeps_engineBack (hentries : .entries ∈ ps) (hdecoder : .decoder ∈ ps) (e : Nat) :
    Ctl.Keeps ps c (d.engineBack e) ↔ Ctl.Keeps ps c d := Ctl.keeps_iff_of_keeps (by simp [Ctl.engineBack, hentries, hdecoder])

@[simp] theorem Ctl.keeps_dcAbort (hentries : .entries ∈ ps) (hdecoder : .decoder ∈ ps) :
    Ctl.Keeps ps c d.dcAbort ↔ Ctl.Keeps ps c d := Ctl.keeps_iff_of_keeps (by simp [Ctl.dcAbort, hentries, hdecoder])

@[simp] theorem Ctl.keeps_ctxClear (hentries : .entries ∈ ps) (n : Nat) :
    Ctl.Keeps ps c (d.ctxClear n) ↔ Ctl.Keeps ps c d := Ctl.keeps_iff_of_keeps (by simp [Ctl.ctxClear, hentries])

/-! ### Of Machine/RingOps.lean -/

@[simp] theorem Ctl.keeps_setLaneSt (hentries : .entries ∈ ps) (l st : Nat) :
    Ctl.Keeps ps c (d.setLaneSt l st) ↔ Ctl.Keeps ps c d := Ctl.keeps_iff_of_keeps (by simp [Ctl.setLaneSt, hentries])

@[simp] theorem Ctl.keeps_setMap (hentries : .entries ∈ ps) (hring : .ring ∈ ps) (houtputs : .outputs ∈ ps) (p : Nat) (tx : Bool) (failed base : Nat)
      :
    Ctl.Keeps ps c (d.setMap p tx failed base) ↔ Ctl.Keeps ps c d := Ctl.keeps_iff_of_keeps (by simp [Ctl.setMap, hentries, hring, houtputs])

@[simp] theorem Ctl.keeps_ringWarn (hr : Part.reported ⊆ ps) (hring : .ring ∈ ps) (code p : Nat) (items : List (Nat × Nat)) :
    Ctl.Keeps ps c (d.ringWarn code p items) ↔ Ctl.Keeps ps c d := Ctl.keeps_iff_of_keeps (by simp [Ctl.ringWarn, hr, hring])

@[simp] theorem Ctl.keeps_refreshKeep (hr : Part.reported ⊆ ps) (hring : .ring ∈ ps) :
    Ctl.Keeps ps c d.refreshKeep ↔ Ctl.Keeps ps c d :=
      Ctl.keeps_iff_of_keeps (by simp [Ctl.refreshKeep, hr, hring, Ctl.keeps_setEa (Part.entries_mem hr)])

@[simp] theorem Ctl.keeps_sidePass (hentries : .entries ∈ ps) (hring : .ring ∈ ps) (houtputs : .outputs ∈ ps) (port ty dst src : Nat)
      (body : List Byte) :
    Ctl.Keeps ps c (d.sidePass port ty dst src body) ↔ Ctl.Keeps ps c d := Ctl.keeps_iff_of_keeps (by simp [Ctl.sidePass, hentries, hring, houtputs])

@[simp] theorem Ctl.keeps_sendMaps (hentries : .entries ∈ ps) (hring : .ring ∈ ps) (houtputs : .outputs ∈ ps) (p : Nat) :
    Ctl.Keeps ps c (d.sendMaps p) ↔ Ctl.Keeps ps c d := Ctl.keeps_iff_of_keeps (by simp [Ctl.sendMaps, hentries, hring, houtputs])

@[simp] theorem Ctl.keeps_askChange (hring : .ring ∈ ps) (p add : Nat) :
    Ctl.Keeps ps c (d.askChange p add) ↔ Ctl.Keeps ps c d := Ctl.keeps_iff_of_keeps (by simp [Ctl.askChange, hring])

@[simp] theorem Ctl.keeps_switchMap (hr : Part.reported ⊆ ps) (hring : .ring ∈ ps) (p : Nat) (tx : Bool) (failed base : Nat) :
    Ctl.Keeps ps c (d.switchMap p tx failed base) ↔ Ctl.Keeps ps c d := Ctl.keeps_iff_of_keeps (by simp [Ctl.switchMap, hr, hring])

@[simp] theorem Ctl.keeps_linkReduced (hr : Part.reported ⊆ ps) (p was : Nat) :
    Ctl.Keeps ps c (d.linkReduced p was) ↔ Ctl.Keeps ps c d := Ctl.keeps_iff_of_keeps (by simp [Ctl.linkReduced, hr])

@[simp] theorem Ctl.keeps_wakeSpare (hentries : .entries ∈ ps) (p : Nat) (taken : List Nat) :
    Ctl.Keeps ps c (d.wakeSpare p taken) ↔ Ctl.Keeps ps c d := Ctl.keeps_iff_of_keeps (by simp [Ctl.wakeSpare, hentries])

@[simp] theorem Ctl.keeps_switchTx (hr : Part.reported ⊆ ps) (hring : .ring ∈ ps) (p failed : Nat) :
    Ctl.Keeps ps c (d.switchTx p failed) ↔ Ctl.Keeps ps c d := Ctl.keeps_iff_of_keeps (by simp [Ctl.switchTx, hr, hring])

@[simp] theorem Ctl.keeps_sendMapReq (hentries : .entries ∈ ps) (hring : .ring ∈ ps) (houtputs : .outputs ∈ ps) (p failed : Nat) (readmit : Bool) :
    Ctl.Keeps ps c (d.sendMapReq p failed readmit) ↔ Ctl.Keeps ps c d := Ctl.keeps_iff_of_keeps (by simp [Ctl.sendMapReq, hentries, hring, houtputs])

@[simp] theorem Ctl.keeps_showRole (hr : Part.reported ⊆ ps) (hring : .ring ∈ ps) :
    Ctl.Keeps ps c d.showRole ↔ Ctl.Keeps ps c d := Ctl.keeps_iff_of_keeps (by simp [Ctl.showRole, hr, hring])

@[simp] theorem Ctl.keeps_showMasks (hentries : .entries ∈ ps) :
    Ctl.Keeps ps c d.showMasks ↔ Ctl.Keeps ps c d := Ctl.keeps_iff_of_keeps (by simp [Ctl.showMasks, hentries])

@[simp] theorem Ctl.keeps_enumDone (hr : Part.reported ⊆ ps) (hring : .ring ∈ ps) (tiles : List Nat) (closed : Nat) :
    Ctl.Keeps ps c (d.enumDone tiles closed) ↔ Ctl.Keeps ps c d := Ctl.keeps_iff_of_keeps (by simp [Ctl.enumDone, hr, hring])

@[simp] theorem Ctl.keeps_enumPass (hr : Part.reported ⊆ ps) (hring : .ring ∈ ps) (tiles : List Nat) :
    Ctl.Keeps ps c (d.enumPass tiles) ↔ Ctl.Keeps ps c d := Ctl.keeps_iff_of_keeps (by simp [Ctl.enumPass, hr, hring])

@[simp] theorem Ctl.keeps_enumerate (hr : Part.reported ⊆ ps) (hring : .ring ∈ ps) :
    Ctl.Keeps ps c d.enumerate ↔ Ctl.Keeps ps c d := Ctl.keeps_iff_of_keeps (by simp [Ctl.enumerate, hr, hring])

@[simp] theorem Ctl.keeps_enumFollow (hr : Part.reported ⊆ ps) (hring : .ring ∈ ps) :
    Ctl.Keeps ps c d.enumFollow ↔ Ctl.Keeps ps c d := Ctl.keeps_iff_of_keeps (by simp [Ctl.enumFollow, hr, hring])

@[simp] theorem Ctl.keeps_tileChanged (hr : Part.reported ⊆ ps) (hring : .ring ∈ ps) (was : Nat) :
    Ctl.Keeps ps c (d.tileChanged was) ↔ Ctl.Keeps ps c d := Ctl.keeps_iff_of_keeps (by simp [Ctl.tileChanged, hr, hring])

@[simp] theorem Ctl.keeps_enumCatchUp (hr : Part.reported ⊆ ps) (hring : .ring ∈ ps) : Ctl.Keeps ps c d.enumCatchUp ↔ Ctl.Keeps ps c d := by
  refine Ctl.keeps_iff_of_keeps ?_
  unfold Ctl.enumCatchUp
  dsimp only
  (repeat' split) <;> simp [hr, hring]

@[simp] theorem Ctl.keeps_enumSettled (hr : Part.reported ⊆ ps) (hring : .ring ∈ ps) :
    Ctl.Keeps ps c d.enumSettled ↔ Ctl.Keeps ps c d := Ctl.keeps_iff_of_keeps (by simp [Ctl.enumSettled, hr, hring])

@[simp] theorem Ctl.keeps_ringUp (hr : Part.reported ⊆ ps) (hring : .ring ∈ ps) (p code mask : Nat) :
    Ctl.Keeps ps c (d.ringUp p code mask) ↔ Ctl.Keeps ps c d := Ctl.keeps_iff_of_keeps (by simp [Ctl.ringUp, hr, hring])

@[simp] theorem Ctl.keeps_ringDown (hr : Part.reported ⊆ ps) (hring : .ring ∈ ps) (p : Nat) :
    Ctl.Keeps ps c (d.ringDown p) ↔ Ctl.Keeps ps c d := Ctl.keeps_iff_of_keeps (by simp [Ctl.ringDown, hr, hring])

/-! ### Of Machine/Palette.lean -/

@[simp] theorem Ctl.keeps_rowFails (hr : Part.reported ⊆ ps) (hmemory : .memory ∈ ps) (hpalette : .palette ∈ ps) (ranges : List (Nat × Nat)) (s : Nat)
      (m : Mem) :
    Ctl.Keeps ps c (rowFails ranges s m d) ↔ Ctl.Keeps ps c d := Ctl.keeps_iff_of_keeps (by simp [rowFails, hr, hmemory, hpalette])

@[simp] theorem Ctl.keeps_ingestRow (hr : Part.reported ⊆ ps) (hmemory : .memory ∈ ps) (hpalette : .palette ∈ ps) (s : Nat) (m : Mem) :
    Ctl.Keeps ps c (ingestRow s m d).2 ↔ Ctl.Keeps ps c d := by
  refine Ctl.keeps_iff_of_keeps ?_
  unfold ingestRow
  dsimp only
  (repeat' split) <;> simp [hr, hmemory, hpalette]

@[simp] theorem Ctl.keeps_ingestDone (hr : Part.reported ⊆ ps) (hpalette : .palette ∈ ps) (s : Nat) (ecc : Bool) :
    Ctl.Keeps ps c (d.ingestDone s ecc) ↔ Ctl.Keeps ps c d := by
  refine Ctl.keeps_iff_of_keeps ?_
  unfold Ctl.ingestDone
  split <;> simp [hr, hpalette]

@[simp] theorem Ctl.keeps_cullPlanDone (hr : Part.reported ⊆ ps) (hmemory : .memory ∈ ps) (hpalette : .palette ∈ ps) (m : Mem) :
    Ctl.Keeps ps c (cullPlanDone m d).2 ↔ Ctl.Keeps ps c d := by
  refine Ctl.keeps_iff_of_keeps ?_
  unfold cullPlanDone
  split <;> simp [hr, hmemory, hpalette]

@[simp] theorem Ctl.keeps_glazeSynced (hentries : .entries ∈ ps) (hshadow : .shadow ∈ ps) (hmessages : .messages ∈ ps) (hpalette : .palette ∈ ps) :
    Ctl.Keeps ps c d.glazeSynced ↔ Ctl.Keeps ps c d := by
  refine Ctl.keeps_iff_of_keeps ?_
  unfold Ctl.glazeSynced
  split
  · simp
  · refine (Ctl.keeps_foldl fun x r => ?_).2 (by simp [hentries, hshadow, hpalette])
    exact (Ctl.keeps_dy (d := { x with shadow := aSet x.shadow r.1 _ }) hmessages _).2 (by simp [hshadow])

@[simp] theorem Ctl.keeps_glazeError (hr : Part.reported ⊆ ps) (hpalette : .palette ∈ ps) (i : Nat) :
    Ctl.Keeps ps c (d.glazeError i) ↔ Ctl.Keeps ps c d := Ctl.keeps_iff_of_keeps (by simp [Ctl.glazeError, hr, hpalette])

@[simp] theorem Ctl.keeps_glazeCorrected (hentries : .entries ∈ ps) (hregisters : .registers ∈ ps) :
    Ctl.Keeps ps c d.glazeCorrected ↔ Ctl.Keeps ps c d := Ctl.keeps_iff_of_keeps (by simp [Ctl.glazeCorrected, hentries, hregisters])

@[simp] theorem Ctl.keeps_glazeRestored (hpalette : .palette ∈ ps) (t : Nat) :
    Ctl.Keeps ps c (d.glazeRestored t) ↔ Ctl.Keeps ps c d := Ctl.keeps_iff_of_keeps (by simp [Ctl.glazeRestored, hpalette])

/-! ### Of Machine/Lanes.lean -/

@[simp] theorem Ctl.keeps_setLane (hlanes : .lanes ∈ ps) (l : Nat) (f : Lane → Lane) :
    Ctl.Keeps ps c (d.setLane l f) ↔ Ctl.Keeps ps c d := Ctl.keeps_iff_of_keeps (by simp [Ctl.setLane, hlanes])

@[simp] theorem Ctl.keeps_setPort (hlanes : .lanes ∈ ps) (p : Nat) (f : Port → Port) :
    Ctl.Keeps ps c (d.setPort p f) ↔ Ctl.Keeps ps c d := Ctl.keeps_iff_of_keeps (by simp [Ctl.setPort, hlanes])

@[simp] theorem Ctl.keeps_latchPort (hlanes : .lanes ∈ ps) (p : Nat) :
    Ctl.Keeps ps c (d.latchPort p) ↔ Ctl.Keeps ps c d := Ctl.keeps_iff_of_keeps (by simp [Ctl.latchPort, hlanes])

@[simp] theorem Ctl.keeps_latchEye (hlanes : .lanes ∈ ps) (l : Nat) :
    Ctl.Keeps ps c (d.latchEye l) ↔ Ctl.Keeps ps c d := Ctl.keeps_iff_of_keeps (by simp [Ctl.latchEye, hlanes])

@[simp] theorem Ctl.keeps_laneBegin (hentries : .entries ∈ ps) (hlanes : .lanes ∈ ps) (l st : Nat) (solo : Bool) :
    Ctl.Keeps ps c (d.laneBegin l st solo) ↔ Ctl.Keeps ps c d := Ctl.keeps_iff_of_keeps (by simp [Ctl.laneBegin, hentries, hlanes])

@[simp] theorem Ctl.keeps_laneSleep (hentries : .entries ∈ ps) (hlanes : .lanes ∈ ps) (l : Nat) :
    Ctl.Keeps ps c (d.laneSleep l) ↔ Ctl.Keeps ps c d := Ctl.keeps_iff_of_keeps (by simp [Ctl.laneSleep, hentries, hlanes])

@[simp] theorem Ctl.keeps_laneAct (hentries : .entries ∈ ps) (hlanes : .lanes ∈ ps) (l code : Nat) :
    Ctl.Keeps ps c (d.laneAct l code) ↔ Ctl.Keeps ps c d := Ctl.keeps_iff_of_keeps (by simp [Ctl.laneAct, hentries, hlanes])

@[simp] theorem Ctl.keeps_laneResume (hentries : .entries ∈ ps) (hlanes : .lanes ∈ ps) (l code : Nat) :
    Ctl.Keeps ps c (d.laneResume l code) ↔ Ctl.Keeps ps c d := Ctl.keeps_iff_of_keeps (by simp [Ctl.laneResume, hentries, hlanes])

@[simp] theorem Ctl.keeps_markFailed (hr : Part.reported ⊆ ps) (hlanes : .lanes ∈ ps) (l cause : Nat) :
    Ctl.Keeps ps c (d.markFailed l cause) ↔ Ctl.Keeps ps c d := Ctl.keeps_iff_of_keeps (by simp [Ctl.markFailed, hr, hlanes])

@[simp] theorem Ctl.keeps_laneUp (hentries : .entries ∈ ps) (hlanes : .lanes ∈ ps) (l : Nat) :
    Ctl.Keeps ps c (d.laneUp l) ↔ Ctl.Keeps ps c d := Ctl.keeps_iff_of_keeps (by simp [Ctl.laneUp, hentries, hlanes])

@[simp] theorem Ctl.keeps_lanePassed (hentries : .entries ∈ ps) (hlanes : .lanes ∈ ps) (l : Nat) :
    Ctl.Keeps ps c (d.lanePassed l) ↔ Ctl.Keeps ps c d := Ctl.keeps_iff_of_keeps (by simp [Ctl.lanePassed, hentries, hlanes])

@[simp] theorem Ctl.keeps_soloFail (hlanes : .lanes ∈ ps) (l : Nat) :
    Ctl.Keeps ps c (d.soloFail l) ↔ Ctl.Keeps ps c d := Ctl.keeps_iff_of_keeps (by simp [Ctl.soloFail, hlanes])

@[simp] theorem Ctl.keeps_portStart (hr : Part.reported ⊆ ps) (hlanes : .lanes ∈ ps) (hring : .ring ∈ ps) (p : Nat) :
    Ctl.Keeps ps c (d.portStart p) ↔ Ctl.Keeps ps c d :=
      Ctl.keeps_iff_of_keeps (by simp [Ctl.portStart, hr, hlanes, hring, Ctl.keeps_laneBegin (Part.entries_mem hr) hlanes])

@[simp] theorem Ctl.keeps_portUpAt (hr : Part.reported ⊆ ps) (hlanes : .lanes ∈ ps) (hring : .ring ∈ ps) (p code mask : Nat) :
    Ctl.Keeps ps c (d.portUpAt p code mask) ↔ Ctl.Keeps ps c d :=
      Ctl.keeps_iff_of_keeps (by simp [Ctl.portUpAt, hr, hlanes, hring, Ctl.keeps_laneUp (Part.entries_mem hr) hlanes])

@[simp] theorem Ctl.keeps_startStep (hlanes : .lanes ∈ ps) (p code mask : Nat) :
    Ctl.Keeps ps c (d.startStep p code mask) ↔ Ctl.Keeps ps c d := Ctl.keeps_iff_of_keeps (by simp [Ctl.startStep, hlanes])

@[simp] theorem Ctl.keeps_portContinue (hr : Part.reported ⊆ ps) (hlanes : .lanes ∈ ps) (hring : .ring ∈ ps) (p code mask : Nat) :
    Ctl.Keeps ps c (d.portContinue p code mask) ↔ Ctl.Keeps ps c d := Ctl.keeps_iff_of_keeps (by simp [Ctl.portContinue, hr, hlanes, hring])

@[simp] theorem Ctl.keeps_portFails (hr : Part.reported ⊆ ps) (hlanes : .lanes ∈ ps) (hring : .ring ∈ ps) (p n : Nat) :
    Ctl.Keeps ps c (d.portFails p n) ↔ Ctl.Keeps ps c d := Ctl.keeps_iff_of_keeps (by simp [Ctl.portFails, hr, hlanes, hring])

@[simp] theorem Ctl.keeps_pairedAll (hr : Part.reported ⊆ ps) (hlanes : .lanes ∈ ps) (hring : .ring ∈ ps) (p : Nat) :
    Ctl.Keeps ps c (d.pairedAll p) ↔ Ctl.Keeps ps c d := Ctl.keeps_iff_of_keeps (by simp [Ctl.pairedAll, hr, hlanes, hring])

@[simp] theorem Ctl.keeps_leaderTimer (hr : Part.reported ⊆ ps) (hlanes : .lanes ∈ ps) (hring : .ring ∈ ps) (p : Nat) :
    Ctl.Keeps ps c (d.leaderTimer p) ↔ Ctl.Keeps ps c d := by
  refine Ctl.keeps_iff_of_keeps ?_
  unfold Ctl.leaderTimer
  dsimp only
  (repeat' split) <;> simp [hr, hlanes, hring]

@[simp] theorem Ctl.keeps_soloNext (hr : Part.reported ⊆ ps) (hlanes : .lanes ∈ ps) (l code : Nat) :
    Ctl.Keeps ps c (d.soloNext l code) ↔ Ctl.Keeps ps c d := Ctl.keeps_iff_of_keeps (by simp [Ctl.soloNext, hr, hlanes])

@[simp] theorem Ctl.keeps_capability (hr : Part.reported ⊆ ps) (hlanes : .lanes ∈ ps) (hring : .ring ∈ ps) (l : Nat) (b : List Byte) :
    Ctl.Keeps ps c (d.capability l b) ↔ Ctl.Keeps ps c d := Ctl.keeps_iff_of_keeps (by simp [Ctl.capability, hr, hlanes, hring])

@[simp] theorem Ctl.keeps_tapRequests (hentries : .entries ∈ ps) (hlanes : .lanes ∈ ps) (l w : Nat) :
    Ctl.Keeps ps c (d.tapRequests l w) ↔ Ctl.Keeps ps c d := by
  refine Ctl.keeps_iff_of_keeps ?_
  unfold Ctl.tapRequests
  dsimp only
  (repeat' split) <;> simp [hentries, hlanes]

@[simp] theorem Ctl.keeps_changeFrame (hentries : .entries ∈ ps) (hlanes : .lanes ∈ ps) (l target count : Nat) :
    Ctl.Keeps ps c (d.changeFrame l target count) ↔ Ctl.Keeps ps c d := Ctl.keeps_iff_of_keeps (by simp [Ctl.changeFrame, hentries, hlanes])

@[simp] theorem Ctl.keeps_refuseRest (hr : Part.reported ⊆ ps) (p : Nat) :
    Ctl.Keeps ps c (d.refuseRest p) ↔ Ctl.Keeps ps c d := Ctl.keeps_iff_of_keeps (by simp [Ctl.refuseRest, hr])

@[simp] theorem Ctl.keeps_portSleep (hr : Part.reported ⊆ ps) (hlanes : .lanes ∈ ps) (hring : .ring ∈ ps) (p stage : Nat) (ask : Bool) :
    Ctl.Keeps ps c (d.portSleep p stage ask) ↔ Ctl.Keeps ps c d :=
      Ctl.keeps_iff_of_keeps (by simp [Ctl.portSleep, hr, hlanes, hring, Ctl.keeps_laneSleep (Part.entries_mem hr) hlanes])

@[simp] theorem Ctl.keeps_loopFrame (hlanes : .lanes ∈ ps) (l arg : Nat) :
    Ctl.Keeps ps c (d.loopFrame l arg) ↔ Ctl.Keeps ps c d := Ctl.keeps_iff_of_keeps (by simp [Ctl.loopFrame, hlanes])

@[simp] theorem Ctl.keeps_sendFrame (hlanes : .lanes ∈ ps) (houtputs : .outputs ∈ ps) (l ftype target arg : Nat) :
    Ctl.Keeps ps c (d.sendFrame l ftype target arg) ↔ Ctl.Keeps ps c d := Ctl.keeps_iff_of_keeps (by simp [Ctl.sendFrame, hlanes, houtputs])

@[simp] theorem Ctl.keeps_ctrlMsg (hentries : .entries ∈ ps) (hlanes : .lanes ∈ ps) (hring : .ring ∈ ps) (houtputs : .outputs ∈ ps)
      (l ftype target arg : Nat) :
    Ctl.Keeps ps c (d.ctrlMsg l ftype target arg) ↔ Ctl.Keeps ps c d :=
      Ctl.keeps_iff_of_keeps (by simp [Ctl.ctrlMsg, hentries, hlanes, hring, houtputs])

@[simp] theorem Ctl.keeps_powerFrame (hr : Part.reported ⊆ ps) (hlanes : .lanes ∈ ps) (hring : .ring ∈ ps) (l arg : Nat) :
    Ctl.Keeps ps c (d.powerFrame l arg) ↔ Ctl.Keeps ps c d := Ctl.keeps_iff_of_keeps (by simp [Ctl.powerFrame, hr, hlanes, hring])

@[simp] theorem Ctl.keeps_checkBegins (hlanes : .lanes ∈ ps) (l : Nat) :
    Ctl.Keeps ps c (d.checkBegins l) ↔ Ctl.Keeps ps c d := Ctl.keeps_iff_of_keeps (by simp [Ctl.checkBegins, hlanes])

@[simp] theorem Ctl.keeps_tapsSettle (hlanes : .lanes ∈ ps) (l : Nat) : Ctl.Keeps ps c (d.tapsSettle l) ↔ Ctl.Keeps ps c d := by
  refine Ctl.keeps_iff_of_keeps ?_
  unfold Ctl.tapsSettle
  dsimp only
  (repeat' split) <;> simp [hlanes]

@[simp] theorem Ctl.keeps_tapAnswers (hlanes : .lanes ∈ ps) (l w : Nat) :
    Ctl.Keeps ps c (d.tapAnswers l w) ↔ Ctl.Keeps ps c d := Ctl.keeps_iff_of_keeps (by simp [Ctl.tapAnswers, hlanes])

@[simp] theorem Ctl.keeps_tapTrial (hdraws : .draws ∈ ps) (hentries : .entries ∈ ps) (hlanes : .lanes ∈ ps) (l h w : Nat) :
    Ctl.Keeps ps c (d.tapTrial l h w) ↔ Ctl.Keeps ps c d := Ctl.keeps_iff_of_keeps (by simp [Ctl.tapTrial, hdraws, hentries, hlanes])

@[simp] theorem Ctl.keeps_laneFrame (hr : Part.reported ⊆ ps) (hlanes : .lanes ∈ ps) (hring : .ring ∈ ps) (l : Nat) (b : List Byte) :
    Ctl.Keeps ps c (d.laneFrame l b) ↔ Ctl.Keeps ps c d := by
  refine Ctl.keeps_iff_of_keeps ?_
  unfold Ctl.laneFrame
  dsimp only
  (repeat' split) <;> simp [hr, hlanes, hring]

@[simp] theorem Ctl.keeps_closed (hr : Part.reported ⊆ ps) (hlanes : .lanes ∈ ps) (hring : .ring ∈ ps) (p : Nat) :
    Ctl.Keeps ps c (d.closed p) ↔ Ctl.Keeps ps c d := Ctl.keeps_iff_of_keeps (by simp [Ctl.closed, hr, hlanes, hring])

@[simp] theorem Ctl.keeps_genStart (houtputs : .outputs ∈ ps) (l : Nat) :
    Ctl.Keeps ps c (d.genStart l) ↔ Ctl.Keeps ps c d := Ctl.keeps_iff_of_keeps (by simp [Ctl.genStart, houtputs])

@[simp] theorem Ctl.keeps_controlPeriod (hr : Part.reported ⊆ ps) (hlanes : .lanes ∈ ps) (hring : .ring ∈ ps) (l : Nat) (res : List CheckRes) :
    Ctl.Keeps ps c (d.controlPeriod l res) ↔ Ctl.Keeps ps c d := by
  refine Ctl.keeps_iff_of_keeps ?_
  unfold Ctl.controlPeriod
  dsimp only
  (repeat' split) <;> simp [hr, hlanes, hring]

@[simp] theorem Ctl.keeps_stepFailed (hr : Part.reported ⊆ ps) (hlanes : .lanes ∈ ps) (l cause : Nat) :
    Ctl.Keeps ps c (d.stepFailed l cause) ↔ Ctl.Keeps ps c d := Ctl.keeps_iff_of_keeps (by simp [Ctl.stepFailed, hr, hlanes])

@[simp] theorem Ctl.keeps_relockDone (hr : Part.reported ⊆ ps) (hlanes : .lanes ∈ ps) (p : Nat) (ok : List Nat) (bad : List (Nat × Nat)) :
    Ctl.Keeps ps c (d.relockDone p ok bad) ↔ Ctl.Keeps ps c d := Ctl.keeps_iff_of_keeps (by simp [Ctl.relockDone, hr, hlanes])

@[simp] theorem Ctl.keeps_adaptationDone (hentries : .entries ∈ ps) (hlanes : .lanes ∈ ps) (l h w : Nat) :
    Ctl.Keeps ps c (d.adaptationDone l h w) ↔ Ctl.Keeps ps c d := Ctl.keeps_iff_of_keeps (by simp [Ctl.adaptationDone, hentries, hlanes])

@[simp] theorem Ctl.keeps_takeCheck (hentries : .entries ∈ ps) (p : Nat) (res : List CheckRes) :
    Ctl.Keeps ps c (d.takeCheck p res) ↔ Ctl.Keeps ps c d := Ctl.keeps_iff_of_keeps (by simp [Ctl.takeCheck, hentries])

@[simp] theorem Ctl.keeps_soloCheck (hr : Part.reported ⊆ ps) (hlanes : .lanes ∈ ps) (l : Nat) (res : List CheckRes) :
    Ctl.Keeps ps c (d.soloCheck l res) ↔ Ctl.Keeps ps c d := Ctl.keeps_iff_of_keeps (by simp [Ctl.soloCheck, hr, hlanes])

@[simp] theorem Ctl.keeps_portCheck (hr : Part.reported ⊆ ps) (hlanes : .lanes ∈ ps) (hring : .ring ∈ ps) (p : Nat) (res : List CheckRes) :
    Ctl.Keeps ps c (d.portCheck p res) ↔ Ctl.Keeps ps c d :=
      Ctl.keeps_iff_of_keeps (by simp [Ctl.portCheck, hr, hlanes, hring, Ctl.keeps_lanePassed (Part.entries_mem hr) hlanes])

@[simp] theorem Ctl.keeps_laneSees (hlanes : .lanes ∈ ps) (l : Nat) (seen : List Nat) :
    Ctl.Keeps ps c (d.laneSees l seen) ↔ Ctl.Keeps ps c d := Ctl.keeps_iff_of_keeps (by simp [Ctl.laneSees, hlanes])

@[simp] theorem Ctl.keeps_ringLaneFails (hr : Part.reported ⊆ ps) (hlanes : .lanes ∈ ps) (l cause : Nat) :
    Ctl.Keeps ps c (d.ringLaneFails l cause) ↔ Ctl.Keeps ps c d := Ctl.keeps_iff_of_keeps (by simp [Ctl.ringLaneFails, hr, hlanes])

@[simp] theorem Ctl.keeps_laneRetrain (hentries : .entries ∈ ps) (hlanes : .lanes ∈ ps) (l : Nat) :
    Ctl.Keeps ps c (d.laneRetrain l) ↔ Ctl.Keeps ps c d := Ctl.keeps_iff_of_keeps (by simp [Ctl.laneRetrain, hentries, hlanes])

@[simp] theorem Ctl.keeps_retrainRetry (hentries : .entries ∈ ps) (hlanes : .lanes ∈ ps) (l : Nat) :
    Ctl.Keeps ps c (d.retrainRetry l) ↔ Ctl.Keeps ps c d := by
  refine Ctl.keeps_iff_of_keeps ?_
  unfold Ctl.retrainRetry
  split <;> simp [hentries, hlanes]

@[simp] theorem Ctl.keeps_eyeFigures (hr : Part.reported ⊆ ps) (l h w : Nat) :
    Ctl.Keeps ps c (d.eyeFigures l h w) ↔ Ctl.Keeps ps c d := Ctl.keeps_iff_of_keeps (by simp [Ctl.eyeFigures, hr])

@[simp] theorem Ctl.keeps_testCount (hentries : .entries ∈ ps) (hregisters : .registers ∈ ps) (l errors nbits : Nat) :
    Ctl.Keeps ps c (d.testCount l errors nbits) ↔ Ctl.Keeps ps c d := Ctl.keeps_iff_of_keeps (by simp [Ctl.testCount, hentries, hregisters])

@[simp] theorem Ctl.keeps_eyeUpdate (hr : Part.reported ⊆ ps) (hdraws : .draws ∈ ps) (hlanes : .lanes ∈ ps) (l h w errors nbits : Nat) :
    Ctl.Keeps ps c (d.eyeUpdate l h w errors nbits) ↔ Ctl.Keeps ps c d := Ctl.keeps_iff_of_keeps (by simp [Ctl.eyeUpdate, hr, hdraws, hlanes])

@[simp] theorem Ctl.keeps_quietCheck (hr : Part.reported ⊆ ps) (l h w : Nat) :
    Ctl.Keeps ps c (d.quietCheck l h w) ↔ Ctl.Keeps ps c d := Ctl.keeps_iff_of_keeps (by simp [Ctl.quietCheck, hr])

@[simp] theorem Ctl.keeps_noPartner (hr : Part.reported ⊆ ps) (hlanes : .lanes ∈ ps) (hring : .ring ∈ ps) (p : Nat) :
    Ctl.Keeps ps c (d.noPartner p) ↔ Ctl.Keeps ps c d := Ctl.keeps_iff_of_keeps (by simp [Ctl.noPartner, hr, hlanes, hring])

@[simp] theorem Ctl.keeps_brumationExit (hr : Part.reported ⊆ ps) (hlanes : .lanes ∈ ps) (hring : .ring ∈ ps) (p : Nat) :
    Ctl.Keeps ps c (d.brumationExit p) ↔ Ctl.Keeps ps c d :=
      Ctl.keeps_iff_of_keeps (by simp [Ctl.brumationExit, hr, hlanes, hring, Ctl.keeps_laneBegin (Part.entries_mem hr) hlanes,
        Ctl.keeps_laneAct (Part.entries_mem hr) hlanes])

@[simp] theorem Ctl.keeps_portEnable (hr : Part.reported ⊆ ps) (hlanes : .lanes ∈ ps) (hring : .ring ∈ ps) (p v : Nat) :
    Ctl.Keeps ps c (d.portEnable p v) ↔ Ctl.Keeps ps c d :=
      Ctl.keeps_iff_of_keeps (by simp [Ctl.portEnable, hr, hlanes, hring, Ctl.keeps_setEa (Part.entries_mem hr)])

@[simp] theorem Ctl.keeps_fieldUp (hentries : .entries ∈ ps) (hmessages : .messages ∈ ps) (hlanes : .lanes ∈ ps) (l : Nat) :
    Ctl.Keeps ps c (d.fieldUp l) ↔ Ctl.Keeps ps c d := Ctl.keeps_iff_of_keeps (by simp [Ctl.fieldUp, hentries, hmessages, hlanes])

@[simp] theorem Ctl.keeps_panelRest (hentries : .entries ∈ ps) :
    Ctl.Keeps ps c d.panelRest ↔ Ctl.Keeps ps c d := Ctl.keeps_iff_of_keeps (by simp [Ctl.panelRest, hentries])

@[simp] theorem Ctl.keeps_laneTest (hr : Part.reported ⊆ ps) (hlanes : .lanes ∈ ps) (l : Nat) :
    Ctl.Keeps ps c (d.laneTest l) ↔ Ctl.Keeps ps c d := Ctl.keeps_iff_of_keeps (by simp [Ctl.laneTest, hr, hlanes])

@[simp] theorem Ctl.keeps_settleTest (hentries : .entries ∈ ps) (l : Nat) : Ctl.Keeps ps c (d.settleTest l) ↔ Ctl.Keeps ps c d := by
  refine Ctl.keeps_iff_of_keeps ?_
  unfold Ctl.settleTest
  split <;> simp [hentries]

@[simp] theorem Ctl.keeps_testInject (hentries : .entries ∈ ps) (hregisters : .registers ∈ ps) (hlanes : .lanes ∈ ps) (houtputs : .outputs ∈ ps)
      (l : Nat) :
    Ctl.Keeps ps c (d.testInject l) ↔ Ctl.Keeps ps c d := by
  refine Ctl.keeps_iff_of_keeps ?_
  unfold Ctl.testInject
  dsimp only
  (repeat' split) <;> simp [hentries, hregisters, hlanes, houtputs]

@[simp] theorem Ctl.keeps_testEnds (hentries : .entries ∈ ps) (hmessages : .messages ∈ ps) (hlanes : .lanes ∈ ps) (l : Nat) :
    Ctl.Keeps ps c (d.testEnds l) ↔ Ctl.Keeps ps c d := Ctl.keeps_iff_of_keeps (by simp [Ctl.testEnds, hentries, hmessages, hlanes])

@[simp] theorem Ctl.keeps_returnLost (hr : Part.reported ⊆ ps) (hlanes : .lanes ∈ ps) (r : Nat) (seen : List Nat) :
    Ctl.Keeps ps c (d.returnLost r seen) ↔ Ctl.Keeps ps c d := Ctl.keeps_iff_of_keeps (by simp [Ctl.returnLost, hr, hlanes])

@[simp] theorem Ctl.keeps_returnBack (hentries : .entries ∈ ps) (hlanes : .lanes ∈ ps) (r : Nat) (seen : List Nat) :
    Ctl.Keeps ps c (d.returnBack r seen) ↔ Ctl.Keeps ps c d := Ctl.keeps_iff_of_keeps (by simp [Ctl.returnBack, hentries, hlanes])

@[simp] theorem Ctl.keeps_fieldBack (hentries : .entries ∈ ps) (hmessages : .messages ∈ ps) (hlanes : .lanes ∈ ps) (f : Nat) :
    Ctl.Keeps ps c (d.fieldBack f) ↔ Ctl.Keeps ps c d := Ctl.keeps_iff_of_keeps (by simp [Ctl.fieldBack, hentries, hmessages, hlanes])

@[simp] theorem Ctl.keeps_portRetrain (hr : Part.reported ⊆ ps) (hlanes : .lanes ∈ ps) (hring : .ring ∈ ps) (p : Nat) :
    Ctl.Keeps ps c (d.portRetrain p) ↔ Ctl.Keeps ps c d := Ctl.keeps_iff_of_keeps (by simp [Ctl.portRetrain, hr, hlanes, hring])

end Sys2Proof.Machine
end

section
/-! PROOFS. Frames: the parts that the panels, the easel, the return encoder, the ring and the stencil engine may change; each lemma asks for the parts that its operation may change among those of the list. -/
namespace Sys2Proof.Machine

variable {ps : List Part} {c d : Ctl}

/-! ### Of Machine/PanelOps.lean -/

@[simp] theorem Ctl.keeps_setPd (hpanel : .panel ∈ ps) (f : PdState → PdState) :
    Ctl.Keeps ps c (d.setPd f) ↔ Ctl.Keeps ps c d := Ctl.keeps_iff_of_keeps (by simp [Ctl.setPd, hpanel])

@[simp] theorem Ctl.keeps_updPd (hpanel : .panel ∈ ps) (k : Nat) (f : PdLane → PdLane) :
    Ctl.Keeps ps c (d.updPd k f) ↔ Ctl.Keeps ps c d := Ctl.keeps_iff_of_keeps (by simp [Ctl.updPd, hpanel])

@[simp] theorem Ctl.keeps_setPdSt (hentries : .entries ∈ ps) (k st : Nat) :
    Ctl.Keeps ps c (d.setPdSt k st) ↔ Ctl.Keeps ps c d := Ctl.keeps_iff_of_keeps (by simp [Ctl.setPdSt, hentries])

@[simp] theorem Ctl.keeps_pdPost (hr : Part.reported ⊆ ps) (hpanel : .panel ∈ ps) (code lane ic : Nat) (items : List (Nat × Nat)) :
    Ctl.Keeps ps c (d.pdPost code lane ic items) ↔ Ctl.Keeps ps c d := Ctl.keeps_iff_of_keeps (by simp [Ctl.pdPost, hr, hpanel])

@[simp] theorem Ctl.keeps_setEs (heasel : .easel ∈ ps) (f : EsState → EsState) :
    Ctl.Keeps ps c (d.setEs f) ↔ Ctl.Keeps ps c d := Ctl.keeps_iff_of_keeps (by simp [Ctl.setEs, heasel])

@[simp] theorem Ctl.keeps_setFr (heasel : .easel ∈ ps) (f : EsFrame → EsFrame) :
    Ctl.Keeps ps c (d.setFr f) ↔ Ctl.Keeps ps c d := Ctl.keeps_iff_of_keeps (by simp [Ctl.setFr, heasel])

@[simp] theorem Ctl.keeps_settleStall (heasel : .easel ∈ ps) : Ctl.Keeps ps c d.settleStall ↔ Ctl.Keeps ps c d := by
  refine Ctl.keeps_iff_of_keeps ?_
  unfold Ctl.settleStall
  split <;> simp [heasel]

@[simp] theorem Ctl.keeps_esReload (heasel : .easel ∈ ps) (kind i : Nat) :
    Ctl.Keeps ps c (d.esReload kind i) ↔ Ctl.Keeps ps c d := Ctl.keeps_iff_of_keeps (by simp [Ctl.esReload, heasel])

@[simp] theorem Ctl.keeps_pdSend (houtputs : .outputs ∈ ps) (k ptype ic spec : Nat) (data : List Byte) (bx : Bool) :
    Ctl.Keeps ps c (d.pdSend k ptype ic spec data bx) ↔ Ctl.Keeps ps c d := Ctl.keeps_iff_of_keeps (by simp [Ctl.pdSend, houtputs])

@[simp] theorem Ctl.keeps_showRow (hentries : .entries ∈ ps) :
    Ctl.Keeps ps c d.showRow ↔ Ctl.Keeps ps c d := Ctl.keeps_iff_of_keeps (by simp [Ctl.showRow, hentries])

@[simp] theorem Ctl.keeps_rowsSent (hpanel : .panel ∈ ps) (rows : List Nat) :
    Ctl.Keeps ps c (d.rowsSent rows) ↔ Ctl.Keeps ps c d := Ctl.keeps_iff_of_keeps (by simp [Ctl.rowsSent, hpanel])

@[simp] theorem Ctl.keeps_enTake (hencoder : .encoder ∈ ps) (n v : Nat) :
    Ctl.Keeps ps c (d.enTake n v) ↔ Ctl.Keeps ps c d := Ctl.keeps_iff_of_keeps (by simp [Ctl.enTake, hencoder])

@[simp] theorem Ctl.keeps_loadSend (houtputs : .outputs ∈ ps) (k ptype ic spec : Nat) (data : List Byte) (bx : Bool) :
    Ctl.Keeps ps c (d.loadSend k ptype ic spec data bx) ↔ Ctl.Keeps ps c d := Ctl.keeps_iff_of_keeps (by simp [Ctl.loadSend, houtputs])

@[simp] theorem Ctl.keeps_pdClose (hengines : .engines ∈ ps) (hpanel : .panel ∈ ps) (houtputs : .outputs ∈ ps) (k : Nat) :
    Ctl.Keeps ps c (d.pdClose k) ↔ Ctl.Keeps ps c d := by
  refine Ctl.keeps_iff_of_keeps ?_
  unfold Ctl.pdClose
  dsimp only
  (repeat' split) <;> simp [hengines, hpanel, houtputs]

@[simp] theorem Ctl.keeps_pdSettle (hengines : .engines ∈ ps) (hpanel : .panel ∈ ps) (houtputs : .outputs ∈ ps) (ents : List (Nat × Nat)) (k n : Nat)
      :
    Ctl.Keeps ps c (Ctl.pdSettle ents k n d) ↔ Ctl.Keeps ps c d := by
  refine Ctl.keeps_iff_of_keeps ?_
  induction n generalizing d with
  | zero => simp [Ctl.pdSettle]
  | succ n ih =>
    unfold Ctl.pdSettle
    dsimp only
    (repeat' split) <;> simp [hengines, hpanel, houtputs, Ctl.keeps_iff_of_keeps ih]

@[simp] theorem Ctl.keeps_walkLane (hengines : .engines ∈ ps) (hpanel : .panel ∈ ps) (houtputs : .outputs ∈ ps) (k : Nat) :
    Ctl.Keeps ps c (d.walkLane k) ↔ Ctl.Keeps ps c d := Ctl.keeps_iff_of_keeps (by simp [Ctl.walkLane, hengines, hpanel, houtputs])

@[simp] theorem Ctl.keeps_walkOn (hentries : .entries ∈ ps) (hengines : .engines ∈ ps) (hpanel : .panel ∈ ps) (houtputs : .outputs ∈ ps) :
    Ctl.Keeps ps c d.walkOn ↔ Ctl.Keeps ps c d := Ctl.keeps_iff_of_keeps (by simp [Ctl.walkOn, hentries, hengines, hpanel, houtputs])

@[simp] theorem Ctl.keeps_scanCheck (hr : Part.reported ⊆ ps) (heasel : .easel ∈ ps) (bad : List Nat) :
    Ctl.Keeps ps c (d.scanCheck bad) ↔ Ctl.Keeps ps c d := Ctl.keeps_iff_of_keeps (by simp [Ctl.scanCheck, hr, heasel])

@[simp] theorem Ctl.keeps_pdPush (hengines : .engines ∈ ps) (hpanel : .panel ∈ ps) (houtputs : .outputs ∈ ps) (k : Nat) (r : PdRay) :
    Ctl.Keeps ps c (d.pdPush k r) ↔ Ctl.Keeps ps c d := Ctl.keeps_iff_of_keeps (by simp [Ctl.pdPush, hengines, hpanel, houtputs])

@[simp] theorem Ctl.keeps_loadStops (heasel : .easel ∈ ps) (hpanel : .panel ∈ ps) :
    Ctl.Keeps ps c d.loadStops ↔ Ctl.Keeps ps c d := Ctl.keeps_iff_of_keeps (by simp [Ctl.loadStops, heasel, hpanel])

@[simp] theorem Ctl.keeps_dropRequests (hentries : .entries ∈ ps) (hpanel : .panel ∈ ps) (k : Nat) (cut : PdKind → Bool) :
    Ctl.Keeps ps c (d.dropRequests k cut) ↔ Ctl.Keeps ps c d := Ctl.keeps_iff_of_keeps (by simp [Ctl.dropRequests, hentries, hpanel])

@[simp] theorem Ctl.keeps_linkStart (hr : Part.reported ⊆ ps) (hlanes : .lanes ∈ ps) (hpanel : .panel ∈ ps) (k : Nat) (again : Bool) :
    Ctl.Keeps ps c (d.linkStart k again) ↔ Ctl.Keeps ps c d := Ctl.keeps_iff_of_keeps (by simp [Ctl.linkStart, hr, hlanes, hpanel])

@[simp] theorem Ctl.keeps_pdLost (hr : Part.reported ⊆ ps) (hlanes : .lanes ∈ ps) (heasel : .easel ∈ ps) (hpanel : .panel ∈ ps) (k : Nat) :
    Ctl.Keeps ps c (d.pdLost k) ↔ Ctl.Keeps ps c d := Ctl.keeps_iff_of_keeps (by simp [Ctl.pdLost, hr, hlanes, heasel, hpanel])

@[simp] theorem Ctl.keeps_pdOrderOut (hr : Part.reported ⊆ ps) (hlanes : .lanes ∈ ps) (heasel : .easel ∈ ps) (hpanel : .panel ∈ ps) (k : Nat) :
    Ctl.Keeps ps c (d.pdOrderOut k) ↔ Ctl.Keeps ps c d := Ctl.keeps_iff_of_keeps (by simp [Ctl.pdOrderOut, hr, hlanes, heasel, hpanel])

/-! ### Of Machine/Easel.lean -/

@[simp] theorem Ctl.keeps_esPost (hr : Part.reported ⊆ ps) (heasel : .easel ∈ ps) (code : Nat) (items : List (Nat × Nat)) :
    Ctl.Keeps ps c (d.esPost code items) ↔ Ctl.Keeps ps c d := Ctl.keeps_iff_of_keeps (by simp [Ctl.esPost, hr, heasel])

@[simp] theorem Ctl.keeps_rayStart (heasel : .easel ∈ ps) : Ctl.Keeps ps c d.rayStart ↔ Ctl.Keeps ps c d := by
  refine Ctl.keeps_iff_of_keeps ?_
  unfold Ctl.rayStart
  split <;> simp [heasel]

@[simp] theorem Ctl.keeps_probeCycle (heasel : .easel ∈ ps) : Ctl.Keeps ps c d.probeCycle ↔ Ctl.Keeps ps c d := by
  refine Ctl.keeps_iff_of_keeps ?_
  unfold Ctl.probeCycle
  split <;> simp [heasel]

@[simp] theorem Ctl.keeps_esError (hr : Part.reported ⊆ ps) (hpalette : .palette ∈ ps) (heasel : .easel ∈ ps) (q : Nat × Nat) :
    Ctl.Keeps ps c (d.esError q) ↔ Ctl.Keeps ps c d := by
  refine Ctl.keeps_iff_of_keeps ?_
  unfold Ctl.esError
  split <;> simp [hr, hpalette, heasel]

@[simp] theorem Ctl.keeps_fillsLate (hr : Part.reported ⊆ ps) (heasel : .easel ∈ ps) (f : EsFrame) :
    Ctl.Keeps ps c (d.fillsLate f) ↔ Ctl.Keeps ps c d := Ctl.keeps_iff_of_keeps (by simp [Ctl.fillsLate, hr, heasel])

@[simp] theorem Ctl.keeps_rayLeaves (hengines : .engines ∈ ps) (heasel : .easel ∈ ps) (hpanel : .panel ∈ ps) (hencoder : .encoder ∈ ps)
      (houtputs : .outputs ∈ ps) (r : ScanRay) (v : Nat × List Nat) :
    Ctl.Keeps ps c (d.rayLeaves r v) ↔ Ctl.Keeps ps c d :=
      Ctl.keeps_iff_of_keeps (by simp [Ctl.rayLeaves, hengines, heasel, hpanel, hencoder, houtputs])

@[simp] theorem Ctl.keeps_boundsPost (hr : Part.reported ⊆ ps) (heasel : .easel ∈ ps) : Ctl.Keeps ps c d.boundsPost ↔ Ctl.Keeps ps c d := by
  refine Ctl.keeps_iff_of_keeps ?_
  unfold Ctl.boundsPost
  split <;> simp [hr, heasel]

@[simp] theorem Ctl.keeps_rayGroup (hr : Part.reported ⊆ ps) (hengines : .engines ∈ ps) (hpalette : .palette ∈ ps) (heasel : .easel ∈ ps)
      (hpanel : .panel ∈ ps) (hencoder : .encoder ∈ ps) (faults : List (Nat × Nat)) :
    Ctl.Keeps ps c (Ctl.rayGroup faults d) ↔ Ctl.Keeps ps c d := by
  refine Ctl.keeps_iff_of_keeps ?_
  unfold Ctl.rayGroup
  split <;> simp [hr, hpalette, heasel, Ctl.keeps_rayLeaves hengines heasel hpanel hencoder (Part.outputs_mem hr)]

@[simp] theorem Ctl.keeps_lastRay (heasel : .easel ∈ ps) : Ctl.Keeps ps c d.lastRay ↔ Ctl.Keeps ps c d := by
  refine Ctl.keeps_iff_of_keeps ?_
  unfold Ctl.lastRay
  split <;> simp [heasel]

@[simp] theorem Ctl.keeps_fillIssue (hr : Part.reported ⊆ ps) (heasel : .easel ∈ ps) (bad : Bool) :
    Ctl.Keeps ps c (Ctl.fillIssue bad d) ↔ Ctl.Keeps ps c d := by
  refine Ctl.keeps_iff_of_keeps ?_
  unfold Ctl.fillIssue
  dsimp only
  (repeat' split) <;> simp [hr, heasel]

@[simp] theorem Ctl.keeps_fillComplete (hr : Part.reported ⊆ ps) (hmemory : .memory ∈ ps) (heasel : .easel ∈ ps) (entry : Nat) (m : Mem) :
    Ctl.Keeps ps c (fillComplete entry m d).2 ↔ Ctl.Keeps ps c d := by
  refine Ctl.keeps_iff_of_keeps ?_
  unfold fillComplete
  dsimp only
  (repeat' split) <;> simp [hr, hmemory, heasel]

@[simp] theorem Ctl.keeps_scrubReload (hr : Part.reported ⊆ ps) (hmemory : .memory ∈ ps) (himages : .images ∈ ps) (q : Mem × Ctl) (p : Nat × Nat) :
    Ctl.Keeps ps c (scrubReload q p).2 ↔ Ctl.Keeps ps c q.2 := Ctl.keeps_iff_of_keeps (by
  unfold scrubReload
  (repeat' split) <;> simp [hr, himages, hmemory])

@[simp] theorem Ctl.keeps_reloadDone (hr : Part.reported ⊆ ps) (hmemory : .memory ∈ ps) (hengines : .engines ∈ ps) (himages : .images ∈ ps)
      (heasel : .easel ∈ ps) (hpanel : .panel ∈ ps) (kind i : Nat) (m : Mem) :
    Ctl.Keeps ps c (reloadDone kind i m d).2 ↔ Ctl.Keeps ps c d := by
  refine Ctl.keeps_iff_of_keeps ?_
  unfold reloadDone
  dsimp only
  (repeat' split) <;> simp [hr, hmemory, hengines, himages, heasel, hpanel]

@[simp] theorem Ctl.keeps_setShed (hr : Part.reported ⊆ ps) (heasel : .easel ∈ ps) (new : Nat) :
    Ctl.Keeps ps c (d.setShed new) ↔ Ctl.Keeps ps c d := Ctl.keeps_iff_of_keeps (by simp [Ctl.setShed, hr, heasel])

@[simp] theorem Ctl.keeps_predict (hentries : .entries ∈ ps) :
    Ctl.Keeps ps c d.predict ↔ Ctl.Keeps ps c d := Ctl.keeps_iff_of_keeps (by simp [Ctl.predict, hentries])

@[simp] theorem Ctl.keeps_brushFault (hr : Part.reported ⊆ ps) (heasel : .easel ∈ ps) (brush lost : Nat) :
    Ctl.Keeps ps c (Ctl.brushFault brush lost d) ↔ Ctl.Keeps ps c d := by
  refine Ctl.keeps_iff_of_keeps ?_
  unfold Ctl.brushFault
  dsimp only
  (repeat' split) <;> simp [hr, heasel]

@[simp] theorem Ctl.keeps_brushBack (heasel : .easel ∈ ps) (brush : Nat) :
    Ctl.Keeps ps c (d.brushBack brush) ↔ Ctl.Keeps ps c d := Ctl.keeps_iff_of_keeps (by simp [Ctl.brushBack, heasel])

@[simp] theorem Ctl.keeps_esAbort (heasel : .easel ∈ ps) :
    Ctl.Keeps ps c d.esAbort ↔ Ctl.Keeps ps c d := Ctl.keeps_iff_of_keeps (by simp [Ctl.esAbort, heasel])

/-! ### Of Machine/Panel.lean -/

@[simp] theorem Ctl.keeps_updRet (hpanel : .panel ∈ ps) (r : Nat) (f : PdRet → PdRet) :
    Ctl.Keeps ps c (d.updRet r f) ↔ Ctl.Keeps ps c d := Ctl.keeps_iff_of_keeps (by simp [Ctl.updRet, hpanel])

@[simp] theorem Ctl.keeps_pdAsk (hpanel : .panel ∈ ps) (q : PdReq) :
    Ctl.Keeps ps c (d.pdAsk q) ↔ Ctl.Keeps ps c d := Ctl.keeps_iff_of_keeps (by simp [Ctl.pdAsk, hpanel])

@[simp] theorem Ctl.keeps_config (houtputs : .outputs ∈ ps) (k ic reg v : Nat) :
    Ctl.Keeps ps c (d.config k ic reg v) ↔ Ctl.Keeps ps c d := Ctl.keeps_iff_of_keeps (by simp [Ctl.config, houtputs])

@[simp] theorem Ctl.keeps_pdRequest (hpanel : .panel ∈ ps) (houtputs : .outputs ∈ ps) (q : PdReq) :
    Ctl.Keeps ps c (d.pdRequest q) ↔ Ctl.Keeps ps c d := by
  refine Ctl.keeps_iff_of_keeps ?_
  unfold Ctl.pdRequest
  split <;> simp [hpanel, houtputs]

@[simp] theorem Ctl.keeps_panelInit (houtputs : .outputs ∈ ps) (k : Nat) :
    Ctl.Keeps ps c (d.panelInit k) ↔ Ctl.Keeps ps c d := Ctl.keeps_iff_of_keeps (by simp [Ctl.panelInit, houtputs])

@[simp] theorem Ctl.keeps_linkPassed (hentries : .entries ∈ ps) (hpanel : .panel ∈ ps) (k : Nat) :
    Ctl.Keeps ps c (d.linkPassed k) ↔ Ctl.Keeps ps c d := Ctl.keeps_iff_of_keeps (by simp [Ctl.linkPassed, hentries, hpanel])

@[simp] theorem Ctl.keeps_pdPump (hentries : .entries ∈ ps) (hpanel : .panel ∈ ps) (houtputs : .outputs ∈ ps) (r n : Nat) :
    Ctl.Keeps ps c (Ctl.pdPump r n d) ↔ Ctl.Keeps ps c d := by
  refine Ctl.keeps_iff_of_keeps ?_
  induction n generalizing d with
  | zero => simp [Ctl.pdPump]
  | succ n ih =>
    unfold Ctl.pdPump
    dsimp only
    (repeat' split) <;> simp [hentries, hpanel, houtputs, Ctl.keeps_iff_of_keeps ih]

@[simp] theorem Ctl.keeps_pdPumpAll (hentries : .entries ∈ ps) (hpanel : .panel ∈ ps) (houtputs : .outputs ∈ ps) :
    Ctl.Keeps ps c d.pdPumpAll ↔ Ctl.Keeps ps c d := Ctl.keeps_iff_of_keeps (by simp [Ctl.pdPumpAll, hentries, hpanel, houtputs])

@[simp] theorem Ctl.keeps_pdGo (hentries : .entries ∈ ps) (hpanel : .panel ∈ ps) (houtputs : .outputs ∈ ps) (r : Nat) :
    Ctl.Keeps ps c (d.pdGo r) ↔ Ctl.Keeps ps c d := Ctl.keeps_iff_of_keeps (by simp [Ctl.pdGo, hentries, hpanel, houtputs])

@[simp] theorem Ctl.keeps_linkFails (hr : Part.reported ⊆ ps) (hlanes : .lanes ∈ ps) (heasel : .easel ∈ ps) (hpanel : .panel ∈ ps) (k step : Nat) :
    Ctl.Keeps ps c (d.linkFails k step) ↔ Ctl.Keeps ps c d := Ctl.keeps_iff_of_keeps (by simp [Ctl.linkFails, hr, hlanes, heasel, hpanel])

@[simp] theorem Ctl.keeps_lockTimer (hr : Part.reported ⊆ ps) (hlanes : .lanes ∈ ps) (heasel : .easel ∈ ps) (hpanel : .panel ∈ ps) (k : Nat) :
    Ctl.Keeps ps c (d.lockTimer k) ↔ Ctl.Keeps ps c d := by
  refine Ctl.keeps_iff_of_keeps ?_
  unfold Ctl.lockTimer
  split <;> simp [hr, hlanes, heasel, hpanel]

@[simp] theorem Ctl.keeps_linkNextReg (hpanel : .panel ∈ ps) (k ic reg : Nat) :
    Ctl.Keeps ps c (d.linkNextReg k ic reg) ↔ Ctl.Keeps ps c d := Ctl.keeps_iff_of_keeps (by simp [Ctl.linkNextReg, hpanel])

@[simp] theorem Ctl.keeps_pdMiss (hr : Part.reported ⊆ ps) (hpanel : .panel ∈ ps) (q : PdReq) :
    Ctl.Keeps ps c (d.pdMiss q) ↔ Ctl.Keeps ps c d := Ctl.keeps_iff_of_keeps (by simp [Ctl.pdMiss, hr, hpanel])

@[simp] theorem Ctl.keeps_pdAnswers (hentries : .entries ∈ ps) (hpanel : .panel ∈ ps) (q : PdReq) :
    Ctl.Keeps ps c (d.pdAnswers q) ↔ Ctl.Keeps ps c d := Ctl.keeps_iff_of_keeps (by simp [Ctl.pdAnswers, hentries, hpanel])

@[simp] theorem Ctl.keeps_pdStatus (hr : Part.reported ⊆ ps) (hpanel : .panel ∈ ps) (hencoder : .encoder ∈ ps) (q : PdReq) (v : Nat) :
    Ctl.Keeps ps c (d.pdStatus q v) ↔ Ctl.Keeps ps c d := Ctl.keeps_iff_of_keeps (by simp [Ctl.pdStatus, hr, hpanel, hencoder])

@[simp] theorem Ctl.keeps_pdResult (hr : Part.reported ⊆ ps) (hlanes : .lanes ∈ ps) (heasel : .easel ∈ ps) (hpanel : .panel ∈ ps)
      (hencoder : .encoder ∈ ps) (q : PdReq) (unknown : Bool) (v : Nat) :
    Ctl.Keeps ps c (d.pdResult q unknown v) ↔ Ctl.Keeps ps c d := by
  refine Ctl.keeps_iff_of_keeps ?_
  unfold Ctl.pdResult
  dsimp only
  (repeat' split) <;> simp [hr, hlanes, heasel, hpanel, hencoder]

@[simp] theorem Ctl.keeps_pdNoAnswer (hr : Part.reported ⊆ ps) (hlanes : .lanes ∈ ps) (heasel : .easel ∈ ps) (hpanel : .panel ∈ ps) (q : PdReq) :
    Ctl.Keeps ps c (d.pdNoAnswer q) ↔ Ctl.Keeps ps c d := by
  refine Ctl.keeps_iff_of_keeps ?_
  unfold Ctl.pdNoAnswer
  split <;> simp [hr, hlanes, heasel, hpanel]

@[simp] theorem Ctl.keeps_statusResponse (hr : Part.reported ⊆ ps) (hlanes : .lanes ∈ ps) (heasel : .easel ∈ ps) (hpanel : .panel ∈ ps)
      (hencoder : .encoder ∈ ps) (r : Nat) (b : List Byte) :
    Ctl.Keeps ps c (d.statusResponse r b) ↔ Ctl.Keeps ps c d := by
  refine Ctl.keeps_iff_of_keeps ?_
  unfold Ctl.statusResponse
  dsimp only
  (repeat' split) <;> simp [hr, hlanes, heasel, hpanel, hencoder]

@[simp] theorem Ctl.keeps_statusTimeout (hr : Part.reported ⊆ ps) (hlanes : .lanes ∈ ps) (heasel : .easel ∈ ps) (hpanel : .panel ∈ ps) (r : Nat) :
    Ctl.Keeps ps c (d.statusTimeout r) ↔ Ctl.Keeps ps c d := by
  refine Ctl.keeps_iff_of_keeps ?_
  unfold Ctl.statusTimeout
  dsimp only
  (repeat' split) <;> simp [hr, hlanes, heasel, hpanel]

@[simp] theorem Ctl.keeps_statusPoll (hentries : .entries ∈ ps) (hpanel : .panel ∈ ps) (houtputs : .outputs ∈ ps) (r : Nat) :
    Ctl.Keeps ps c (d.statusPoll r) ↔ Ctl.Keeps ps c d := by
  refine Ctl.keeps_iff_of_keeps ?_
  unfold Ctl.statusPoll
  dsimp only
  (repeat' split) <;> simp [hentries, hpanel, houtputs]

@[simp] theorem Ctl.keeps_icAccess (hentries : .entries ∈ ps) (hpanel : .panel ∈ ps) (write : Bool) :
    Ctl.Keeps ps c (d.icAccess write) ↔ Ctl.Keeps ps c d := Ctl.keeps_iff_of_keeps (by simp [Ctl.icAccess, hentries, hpanel])

@[simp] theorem Ctl.keeps_linkupDone (hr : Part.reported ⊆ ps) (hboot : .boot ∈ ps) (hpanel : .panel ∈ ps) :
    Ctl.Keeps ps c d.linkupDone ↔ Ctl.Keeps ps c d := by
  refine Ctl.keeps_iff_of_keeps ?_
  unfold Ctl.linkupDone
  dsimp only
  (repeat' split) <;> simp [hr, hboot, hpanel]

@[simp] theorem Ctl.keeps_probationEnds (hpanel : .panel ∈ ps) (k : Nat) : Ctl.Keeps ps c (d.probationEnds k) ↔ Ctl.Keeps ps c d := by
  refine Ctl.keeps_iff_of_keeps ?_
  unfold Ctl.probationEnds
  split <;> simp [hpanel]

@[simp] theorem Ctl.keeps_laneComplete (hpanel : .panel ∈ ps) (k : Nat) :
    Ctl.Keeps ps c (d.laneComplete k) ↔ Ctl.Keeps ps c d := Ctl.keeps_iff_of_keeps (by simp [Ctl.laneComplete, hpanel])

@[simp] theorem Ctl.keeps_laneFull (heasel : .easel ∈ ps) (hpanel : .panel ∈ ps) (k : Nat) (full : Bool) :
    Ctl.Keeps ps c (d.laneFull k full) ↔ Ctl.Keeps ps c d := Ctl.keeps_iff_of_keeps (by simp [Ctl.laneFull, heasel, hpanel])

@[simp] theorem Ctl.keeps_sendFlip (houtputs : .outputs ∈ ps) (ptype : Nat) :
    Ctl.Keeps ps c (d.sendFlip ptype) ↔ Ctl.Keeps ps c d := Ctl.keeps_iff_of_keeps (by simp [Ctl.sendFlip, houtputs])

@[simp] theorem Ctl.keeps_chainChecks (hpanel : .panel ∈ ps) :
    Ctl.Keeps ps c d.chainChecks ↔ Ctl.Keeps ps c d := Ctl.keeps_iff_of_keeps (by simp [Ctl.chainChecks, hpanel])

@[simp] theorem Ctl.keeps_withhold (hr : Part.reported ⊆ ps) : Ctl.Keeps ps c d.withhold ↔ Ctl.Keeps ps c d := by
  refine Ctl.keeps_iff_of_keeps ?_
  unfold Ctl.withhold
  split <;> simp [hr]

@[simp] theorem Ctl.keeps_decisionPoint (hr : Part.reported ⊆ ps) (heasel : .easel ∈ ps) (hpanel : .panel ∈ ps) :
    Ctl.Keeps ps c d.decisionPoint ↔ Ctl.Keeps ps c d := by
  refine Ctl.keeps_iff_of_keeps ?_
  unfold Ctl.decisionPoint
  dsimp only
  (repeat' split) <;> simp [hr, heasel, hpanel]

@[simp] theorem Ctl.keeps_ctError (hr : Part.reported ⊆ ps) (hpanel : .panel ∈ ps) (s : Nat) (lane : Option Nat) :
    Ctl.Keeps ps c (d.ctError s lane) ↔ Ctl.Keeps ps c d := by
  refine Ctl.keeps_iff_of_keeps ?_
  unfold Ctl.ctError
  split <;> simp [hr, hpanel]

@[simp] theorem Ctl.keeps_ctSlice (hr : Part.reported ⊆ ps) (hengines : .engines ∈ ps) (heasel : .easel ∈ ps) (hpanel : .panel ∈ ps)
      (hencoder : .encoder ∈ ps) (bad : List Nat) (s : Nat) (bx : Bool) (payload : List Byte) :
    Ctl.Keeps ps c (Ctl.ctSlice bad d s bx payload) ↔ Ctl.Keeps ps c d := by
  refine Ctl.keeps_iff_of_keeps ?_
  unfold Ctl.ctSlice
  dsimp only
  (repeat' split) <;> simp [hr, hengines, heasel, hpanel, hencoder, Ctl.keeps_pdPush hengines hpanel (Part.outputs_mem hr)]

@[simp] theorem Ctl.keeps_panelLaneFails (hr : Part.reported ⊆ ps) (hlanes : .lanes ∈ ps) (heasel : .easel ∈ ps) (hpanel : .panel ∈ ps)
      (k cause : Nat) :
    Ctl.Keeps ps c (d.panelLaneFails k cause) ↔ Ctl.Keeps ps c d := Ctl.keeps_iff_of_keeps (by simp [Ctl.panelLaneFails, hr, hlanes, heasel, hpanel])

@[simp] theorem Ctl.keeps_laneFails (hr : Part.reported ⊆ ps) (hlanes : .lanes ∈ ps) (heasel : .easel ∈ ps) (hpanel : .panel ∈ ps) (l cause : Nat)
      (seen : List Nat) :
    Ctl.Keeps ps c (d.laneFails l cause seen) ↔ Ctl.Keeps ps c d := Ctl.keeps_iff_of_keeps (by simp [Ctl.laneFails, hr, hlanes, heasel, hpanel])

@[simp] theorem Ctl.keeps_laneReturn (hr : Part.reported ⊆ ps) (hlanes : .lanes ∈ ps) (hpanel : .panel ∈ ps) (l : Nat) :
    Ctl.Keeps ps c (d.laneReturn l) ↔ Ctl.Keeps ps c d := Ctl.keeps_iff_of_keeps (by simp [Ctl.laneReturn, hr, hlanes, hpanel])

/-! ### Of Machine/Encoder.lean -/

@[simp] theorem Ctl.keeps_setEn (hencoder : .encoder ∈ ps) (f : EnState → EnState) :
    Ctl.Keeps ps c (d.setEn f) ↔ Ctl.Keeps ps c d := Ctl.keeps_iff_of_keeps (by simp [Ctl.setEn, hencoder])

@[simp] theorem Ctl.keeps_updEn (hencoder : .encoder ∈ ps) (s : Nat) (f : EnStream → EnStream) :
    Ctl.Keeps ps c (d.updEn s f) ↔ Ctl.Keeps ps c d := Ctl.keeps_iff_of_keeps (by simp [Ctl.updEn, hencoder])

@[simp] theorem Ctl.keeps_enPost (hr : Part.reported ⊆ ps) (hencoder : .encoder ∈ ps) (code s : Nat) (items : List (Nat × Nat)) :
    Ctl.Keeps ps c (d.enPost code s items) ↔ Ctl.Keeps ps c d := Ctl.keeps_iff_of_keeps (by simp [Ctl.enPost, hr, hencoder])

@[simp] theorem Ctl.keeps_showBacklog (hr : Part.reported ⊆ ps) (hencoder : .encoder ∈ ps) (s : Nat) :
    Ctl.Keeps ps c (d.showBacklog s) ↔ Ctl.Keeps ps c d := Ctl.keeps_iff_of_keeps (by simp [Ctl.showBacklog, hr, hencoder])

@[simp] theorem Ctl.keeps_showBacklogs (hr : Part.reported ⊆ ps) (hencoder : .encoder ∈ ps) :
    Ctl.Keeps ps c d.showBacklogs ↔ Ctl.Keeps ps c d := Ctl.keeps_iff_of_keeps (by simp [Ctl.showBacklogs, hr, hencoder])

@[simp] theorem Ctl.keeps_enRap (hencoder : .encoder ∈ ps) (s : Nat) :
    Ctl.Keeps ps c (d.enRap s) ↔ Ctl.Keeps ps c d := Ctl.keeps_iff_of_keeps (by simp [Ctl.enRap, hencoder])

@[simp] theorem Ctl.keeps_enGap (hencoder : .encoder ∈ ps) (s : Nat) :
    Ctl.Keeps ps c (d.enGap s) ↔ Ctl.Keeps ps c d := Ctl.keeps_iff_of_keeps (by simp [Ctl.enGap, hencoder])

@[simp] theorem Ctl.keeps_stageWrite (hr : Part.reported ⊆ ps) (hmemory : .memory ∈ ps) (s kind i : Nat) (b : List Byte) (m : Mem) :
    Ctl.Keeps ps c (stageWrite s kind i b m d).2 ↔ Ctl.Keeps ps c d := by
  refine Ctl.keeps_iff_of_keeps ?_
  unfold stageWrite
  split <;> simp [hr, hmemory]

@[simp] theorem Ctl.keeps_stageRead (hr : Part.reported ⊆ ps) (hmemory : .memory ∈ ps) (m : Mem) (s kind i len : Nat) :
    Ctl.Keeps ps c (Ctl.stageRead m s kind i len d).1 ↔ Ctl.Keeps ps c d := by
  refine Ctl.keeps_iff_of_keeps ?_
  unfold Ctl.stageRead
  split <;> simp [hr, hmemory]

@[simp] theorem Ctl.keeps_stageFree (hr : Part.reported ⊆ ps) (hdraws : .draws ∈ ps) (hmemory : .memory ∈ ps) (s kind i len : Nat) (m : Mem) :
    Ctl.Keeps ps c (stageFree s kind i len m d).2 ↔ Ctl.Keeps ps c d := Ctl.keeps_iff_of_keeps (by simp [stageFree, hr, hdraws, hmemory])

@[simp] theorem Ctl.keeps_showCharge (hentries : .entries ∈ ps) (s : Nat) (x : EnSet) :
    Ctl.Keeps ps c (d.showCharge s x) ↔ Ctl.Keeps ps c d := Ctl.keeps_iff_of_keeps (by simp [Ctl.showCharge, hentries])

@[simp] theorem Ctl.keeps_egressSent (hencoder : .encoder ∈ ps) (d' sent : Nat) :
    Ctl.Keeps ps c (d.egressSent d' sent) ↔ Ctl.Keeps ps c d := Ctl.keeps_iff_of_keeps (by simp [Ctl.egressSent, hencoder])

@[simp] theorem Ctl.keeps_sendReturn (hencoder : .encoder ∈ ps) (houtputs : .outputs ∈ ps) (d' addr : Nat) (pkt : List Byte) :
    Ctl.Keeps ps c (d.sendReturn d' addr pkt) ↔ Ctl.Keeps ps c d := Ctl.keeps_iff_of_keeps (by simp [Ctl.sendReturn, hencoder, houtputs])

@[simp] theorem Ctl.keeps_enFragment (hr : Part.reported ⊆ ps) (hencoder : .encoder ∈ ps) (s : Nat) :
    Ctl.Keeps ps c (d.enFragment s) ↔ Ctl.Keeps ps c d := by
  refine Ctl.keeps_iff_of_keeps ?_
  unfold Ctl.enFragment
  split <;> simp [hr, hencoder]

@[simp] theorem Ctl.keeps_enFlushN (hr : Part.reported ⊆ ps) (hencoder : .encoder ∈ ps) (s n : Nat) :
    Ctl.Keeps ps c (Ctl.enFlushN s n d) ↔ Ctl.Keeps ps c d := by
  refine Ctl.keeps_iff_of_keeps ?_
  induction n generalizing d with
  | zero => simp [Ctl.enFlushN]
  | succ n ih =>
    unfold Ctl.enFlushN
    (repeat' split) <;> simp [hr, hencoder, Ctl.keeps_iff_of_keeps ih]

@[simp] theorem Ctl.keeps_enFlush (hr : Part.reported ⊆ ps) (hencoder : .encoder ∈ ps) (s : Nat) :
    Ctl.Keeps ps c (d.enFlush s) ↔ Ctl.Keeps ps c d := Ctl.keeps_iff_of_keeps (by simp [Ctl.enFlush, hr, hencoder])

@[simp] theorem Ctl.keeps_enDrain (hr : Part.reported ⊆ ps) (hencoder : .encoder ∈ ps) (s n : Nat) :
    Ctl.Keeps ps c (Ctl.enDrain s n d) ↔ Ctl.Keeps ps c d := by
  refine Ctl.keeps_iff_of_keeps ?_
  induction n generalizing d with
  | zero => simp [Ctl.enDrain]
  | succ n ih =>
    unfold Ctl.enDrain
    (repeat' split) <;> simp [hr, hencoder, Ctl.keeps_iff_of_keeps ih]

@[simp] theorem Ctl.keeps_enHeadWrite (hr : Part.reported ⊆ ps) (hencoder : .encoder ∈ ps) (s head : Nat) :
    Ctl.Keeps ps c (d.enHeadWrite s head) ↔ Ctl.Keeps ps c d := Ctl.keeps_iff_of_keeps (by simp [Ctl.enHeadWrite, hr, hencoder])

@[simp] theorem Ctl.keeps_popWrite (hr : Part.reported ⊆ ps) (hmemory : .memory ∈ ps) (hencoder : .encoder ∈ ps) (m : Mem) (index : Nat) (room : Bool)
      :
    Ctl.Keeps ps c (Ctl.popWrite m index room d) ↔ Ctl.Keeps ps c d := by
  refine Ctl.keeps_iff_of_keeps ?_
  unfold Ctl.popWrite
  split <;> simp [hr, hmemory, hencoder]

@[simp] theorem Ctl.keeps_pictureStart (hr : Part.reported ⊆ ps) (hencoder : .encoder ∈ ps) : Ctl.Keeps ps c d.pictureStart ↔ Ctl.Keeps ps c d := by
  refine Ctl.keeps_iff_of_keeps ?_
  unfold Ctl.pictureStart
  dsimp only
  (repeat' split) <;> simp [hr, hencoder]

@[simp] theorem Ctl.keeps_picRead (hr : Part.reported ⊆ ps) (hmemory : .memory ∈ ps) (m : Mem) (p : EnPic) :
    Ctl.Keeps ps c (Ctl.picRead m p d).1 ↔ Ctl.Keeps ps c d := by
  refine Ctl.keeps_iff_of_keeps ?_
  unfold Ctl.picRead
  split <;> simp [hr, hmemory]

@[simp] theorem Ctl.keeps_pictureCoded (hr : Part.reported ⊆ ps) (hdraws : .draws ∈ ps) (hmemory : .memory ∈ ps) (hencoder : .encoder ∈ ps) (m : Mem)
      :
    Ctl.Keeps ps c (pictureCoded m d).2 ↔ Ctl.Keeps ps c d := by
  refine Ctl.keeps_iff_of_keeps ?_
  unfold pictureCoded
  dsimp only
  (repeat' split) <;> simp [hr, hdraws, hmemory, hencoder]

@[simp] theorem Ctl.keeps_rapRequest (hencoder : .encoder ∈ ps) (s : Nat) :
    Ctl.Keeps ps c (d.rapRequest s) ↔ Ctl.Keeps ps c d := Ctl.keeps_iff_of_keeps (by simp [Ctl.rapRequest, hencoder])

@[simp] theorem Ctl.keeps_enAbort (hr : Part.reported ⊆ ps) (hencoder : .encoder ∈ ps) :
    Ctl.Keeps ps c d.enAbort ↔ Ctl.Keeps ps c d := Ctl.keeps_iff_of_keeps (by simp [Ctl.enAbort, hr, hencoder])

@[simp] theorem Ctl.keeps_encoderFault (hr : Part.reported ⊆ ps) (hencoder : .encoder ∈ ps) :
    Ctl.Keeps ps c d.encoderFault ↔ Ctl.Keeps ps c d := Ctl.keeps_iff_of_keeps (by simp [Ctl.encoderFault, hr, hencoder])

@[simp] theorem Ctl.keeps_encoderBack (hentries : .entries ∈ ps) (hencoder : .encoder ∈ ps) :
    Ctl.Keeps ps c d.encoderBack ↔ Ctl.Keeps ps c d := Ctl.keeps_iff_of_keeps (by simp [Ctl.encoderBack, hentries, hencoder])

@[simp] theorem Ctl.keeps_enCountersClear (hentries : .entries ∈ ps) :
    Ctl.Keeps ps c d.enCountersClear ↔ Ctl.Keeps ps c d := Ctl.keeps_iff_of_keeps (by simp [Ctl.enCountersClear, hentries])

/-! ### Of Machine/Ring.lean -/

@[simp] theorem Ctl.keeps_linkDown (hr : Part.reported ⊆ ps) (hlanes : .lanes ∈ ps) (hring : .ring ∈ ps) (p : Nat) :
    Ctl.Keeps ps c (d.linkDown p) ↔ Ctl.Keeps ps c d := Ctl.keeps_iff_of_keeps (by simp [Ctl.linkDown, hr, hlanes, hring])

@[simp] theorem Ctl.keeps_checkStripes (hr : Part.reported ⊆ ps) (hlanes : .lanes ∈ ps) (hring : .ring ∈ ps) (p : Nat) :
    Ctl.Keeps ps c (d.checkStripes p) ↔ Ctl.Keeps ps c d := Ctl.keeps_iff_of_keeps (by simp [Ctl.checkStripes, hr, hlanes, hring])

@[simp] theorem Ctl.keeps_transport (hr : Part.reported ⊆ ps) (hlanes : .lanes ∈ ps) (p stripe : Nat) :
    Ctl.Keeps ps c (d.transport p stripe) ↔ Ctl.Keeps ps c d := Ctl.keeps_iff_of_keeps (by simp [Ctl.transport, hr, hlanes])

@[simp] theorem Ctl.keeps_applyRx (hr : Part.reported ⊆ ps) (hlanes : .lanes ∈ ps) (hring : .ring ∈ ps) (p failed base : Nat) :
    Ctl.Keeps ps c (d.applyRx p failed base) ↔ Ctl.Keeps ps c d := Ctl.keeps_iff_of_keeps (by simp [Ctl.applyRx, hr, hlanes, hring])

@[simp] theorem Ctl.keeps_frameLock (hr : Part.reported ⊆ ps) (hring : .ring ∈ ps) (p good : Nat) :
    Ctl.Keeps ps c (d.frameLock p good) ↔ Ctl.Keeps ps c d := Ctl.keeps_iff_of_keeps (by simp [Ctl.frameLock, hr, hring])

@[simp] theorem Ctl.keeps_skewed (hr : Part.reported ⊆ ps) (hlanes : .lanes ∈ ps) (p : Nat) (ids skew : List Nat) :
    Ctl.Keeps ps c (d.skewed p ids skew) ↔ Ctl.Keeps ps c d := Ctl.keeps_iff_of_keeps (by simp [Ctl.skewed, hr, hlanes])

@[simp] theorem Ctl.keeps_stripeFails (hr : Part.reported ⊆ ps) (hlanes : .lanes ∈ ps) (hring : .ring ∈ ps) (p : Nat) (ids : List Nat)
      (ok : List Bool) :
    Ctl.Keeps ps c (d.stripeFails p ids ok) ↔ Ctl.Keeps ps c d := Ctl.keeps_iff_of_keeps (by simp [Ctl.stripeFails, hr, hlanes, hring])

@[simp] theorem Ctl.keeps_fecResults (hr : Part.reported ⊆ ps) (hlanes : .lanes ∈ ps) (hring : .ring ∈ ps) (p : Nat) (stripes unc : List Nat) :
    Ctl.Keeps ps c (d.fecResults p stripes unc) ↔ Ctl.Keeps ps c d := Ctl.keeps_iff_of_keeps (by simp [Ctl.fecResults, hr, hlanes, hring])

@[simp] theorem Ctl.keeps_frameHead (hr : Part.reported ⊆ ps) (hlanes : .lanes ∈ ps) (hring : .ring ∈ ps) (p : Nat) (ids words : List Nat) :
    Ctl.Keeps ps c (d.frameHead p ids words).1 ↔ Ctl.Keeps ps c d := by
  refine Ctl.keeps_iff_of_keeps ?_
  unfold Ctl.frameHead
  split <;> simp [hr, hlanes, hring]

@[simp] theorem Ctl.keeps_frameMap (hr : Part.reported ⊆ ps) (hlanes : .lanes ∈ ps) (hring : .ring ∈ ps) (p fseq w1 w2 : Nat) :
    Ctl.Keeps ps c (d.frameMap p fseq w1 w2) ↔ Ctl.Keeps ps c d := Ctl.keeps_iff_of_keeps (by simp [Ctl.frameMap, hr, hlanes, hring])

@[simp] theorem Ctl.keeps_frameDue (hr : Part.reported ⊆ ps) (hlanes : .lanes ∈ ps) (hring : .ring ∈ ps) (p : Nat) :
    Ctl.Keeps ps c (d.frameDue p) ↔ Ctl.Keeps ps c d := by
  refine Ctl.keeps_iff_of_keeps ?_
  unfold Ctl.frameDue
  split <;> simp [hr, hlanes, hring]

@[simp] theorem Ctl.keeps_enumMsg (hr : Part.reported ⊆ ps) (hring : .ring ∈ ps) (port dst : Nat) (tiles : List Nat) :
    Ctl.Keeps ps c (d.enumMsg port dst tiles) ↔ Ctl.Keeps ps c d := Ctl.keeps_iff_of_keeps (by simp [Ctl.enumMsg, hr, hring])

@[simp] theorem Ctl.keeps_enumDoneMsg (hr : Part.reported ⊆ ps) (hring : .ring ∈ ps) (port dst src : Nat) (tiles : List Nat) (closed : Nat) :
    Ctl.Keeps ps c (d.enumDoneMsg port dst src tiles closed) ↔ Ctl.Keeps ps c d := Ctl.keeps_iff_of_keeps (by simp [Ctl.enumDoneMsg, hr, hring])

@[simp] theorem Ctl.keeps_indexMsg (hr : Part.reported ⊆ ps) (hring : .ring ∈ ps) (port dst src old new : Nat) :
    Ctl.Keeps ps c (d.indexMsg port dst src old new) ↔ Ctl.Keeps ps c d := Ctl.keeps_iff_of_keeps (by simp [Ctl.indexMsg, hr, hring])

@[simp] theorem Ctl.keeps_mapsMsg (hring : .ring ∈ ps) (p tx rx : Nat) :
    Ctl.Keeps ps c (d.mapsMsg p tx rx) ↔ Ctl.Keeps ps c d := Ctl.keeps_iff_of_keeps (by simp [Ctl.mapsMsg, hring])

@[simp] theorem Ctl.keeps_mapReqMsg (hentries : .entries ∈ ps) (hring : .ring ∈ ps) (houtputs : .outputs ∈ ps) (p failed : Nat) (readmit : Bool)
      (id : Nat) :
    Ctl.Keeps ps c (d.mapReqMsg p failed readmit id) ↔ Ctl.Keeps ps c d := Ctl.keeps_iff_of_keeps (by simp [Ctl.mapReqMsg, hentries, hring, houtputs])

@[simp] theorem Ctl.keeps_mapAckMsg (hring : .ring ∈ ps) (p id : Nat) :
    Ctl.Keeps ps c (d.mapAckMsg p id) ↔ Ctl.Keeps ps c d := Ctl.keeps_iff_of_keeps (by simp [Ctl.mapAckMsg, hring])

@[simp] theorem Ctl.keeps_mapReqRepeat (hentries : .entries ∈ ps) (hring : .ring ∈ ps) (houtputs : .outputs ∈ ps) (p : Nat) :
    Ctl.Keeps ps c (d.mapReqRepeat p) ↔ Ctl.Keeps ps c d := Ctl.keeps_iff_of_keeps (by simp [Ctl.mapReqRepeat, hentries, hring, houtputs])

@[simp] theorem Ctl.keeps_statusMsg (hentries : .entries ∈ ps) (hring : .ring ∈ ps) (houtputs : .outputs ∈ ps) :
    Ctl.Keeps ps c d.statusMsg ↔ Ctl.Keeps ps c d := Ctl.keeps_iff_of_keeps (by simp [Ctl.statusMsg, hentries, hring, houtputs])

@[simp] theorem Ctl.keeps_sideForward (hentries : .entries ∈ ps) (hring : .ring ∈ ps) (houtputs : .outputs ∈ ps) (port : Nat) (m : List Byte) :
    Ctl.Keeps ps c (d.sideForward port m) ↔ Ctl.Keeps ps c d := Ctl.keeps_iff_of_keeps (by simp [Ctl.sideForward, hentries, hring, houtputs])

@[simp] theorem Ctl.keeps_sideTake (hr : Part.reported ⊆ ps) (hlanes : .lanes ∈ ps) (hring : .ring ∈ ps) (p : Nat) (m : List Byte) :
    Ctl.Keeps ps c (d.sideTake p m) ↔ Ctl.Keeps ps c d := by
  refine Ctl.keeps_iff_of_keeps ?_
  unfold Ctl.sideTake
  dsimp only
  (repeat' split) <;> simp [hr, hlanes, hring]

@[simp] theorem Ctl.keeps_sideOctets (hr : Part.reported ⊆ ps) (hlanes : .lanes ∈ ps) (hring : .ring ∈ ps) (p w : Nat) :
    Ctl.Keeps ps c (d.sideOctets p w) ↔ Ctl.Keeps ps c d := Ctl.keeps_iff_of_keeps (by simp [Ctl.sideOctets, hr, hlanes, hring])

@[simp] theorem Ctl.keeps_frameFieldsTake (hr : Part.reported ⊆ ps) (hlanes : .lanes ∈ ps) (hring : .ring ∈ ps) (p fseq : Nat) (hdr : List Nat)
      (ok : List Bool) :
    Ctl.Keeps ps c (d.frameFieldsTake p fseq hdr ok) ↔ Ctl.Keeps ps c d := Ctl.keeps_iff_of_keeps (by simp [Ctl.frameFieldsTake, hr, hlanes, hring])

@[simp] theorem Ctl.keeps_ringFrame (hr : Part.reported ⊆ ps) (hlanes : .lanes ∈ ps) (hring : .ring ∈ ps) (p : Nat) (words skew : List Nat) :
    Ctl.Keeps ps c (d.ringFrame p words skew) ↔ Ctl.Keeps ps c d := Ctl.keeps_iff_of_keeps (by simp [Ctl.ringFrame, hr, hlanes, hring])

@[simp] theorem Ctl.keeps_laneOutOrder (hentries : .entries ∈ ps) (hfaults : .faults ∈ ps) (hlanes : .lanes ∈ ps) (hring : .ring ∈ ps)
      (houtputs : .outputs ∈ ps) (l : Nat) :
    Ctl.Keeps ps c (d.laneOutOrder l) ↔ Ctl.Keeps ps c d :=
      Ctl.keeps_iff_of_keeps (by simp [Ctl.laneOutOrder, hentries, hfaults, hlanes, hring, houtputs])

@[simp] theorem Ctl.keeps_mapChangeSend (hr : Part.reported ⊆ ps) (hlanes : .lanes ∈ ps) (hring : .ring ∈ ps) (p left : Nat) :
    Ctl.Keeps ps c (d.mapChangeSend p left) ↔ Ctl.Keeps ps c d := by
  refine Ctl.keeps_iff_of_keeps ?_
  unfold Ctl.mapChangeSend
  split <;> simp [hr, hlanes, hring]

@[simp] theorem Ctl.keeps_laneClean (hentries : .entries ∈ ps) (hlanes : .lanes ∈ ps) (hring : .ring ∈ ps) (houtputs : .outputs ∈ ps) (l errors : Nat)
      :
    Ctl.Keeps ps c (d.laneClean l errors) ↔ Ctl.Keeps ps c d := by
  refine Ctl.keeps_iff_of_keeps ?_
  unfold Ctl.laneClean
  split <;> simp [hentries, hlanes, hring, houtputs]

/-! ### Of Machine/Slices.lean -/

@[simp] theorem Ctl.keeps_sliceForward (hr : Part.reported ⊆ ps) (hengines : .engines ∈ ps) (hring : .ring ∈ ps) (port : Nat) (x : RingSlice) :
    Ctl.Keeps ps c (d.sliceForward port x) ↔ Ctl.Keeps ps c d := Ctl.keeps_iff_of_keeps (by simp [Ctl.sliceForward, hr, hengines, hring])

@[simp] theorem Ctl.keeps_sliceUnits (hr : Part.reported ⊆ ps) (hring : .ring ∈ ps) (hdecoder : .decoder ∈ ps) (port : Nat) (x : RingSlice) :
    Ctl.Keeps ps c (d.sliceUnits port x) ↔ Ctl.Keeps ps c d :=
      Ctl.keeps_iff_of_keeps (by simp [Ctl.sliceUnits, hr, hring, hdecoder, Ctl.keeps_incEa (Part.entries_mem hr)])

@[simp] theorem Ctl.keeps_ringSlice (hr : Part.reported ⊆ ps) (hengines : .engines ∈ ps) (hring : .ring ∈ ps) (hdecoder : .decoder ∈ ps)
      (heasel : .easel ∈ ps) (hpanel : .panel ∈ ps) (hencoder : .encoder ∈ ps) (port : Nat) (x : RingSlice) (back : Nat) (bad : List Nat) :
    Ctl.Keeps ps c (d.ringSlice port x back bad) ↔ Ctl.Keeps ps c d :=
      Ctl.keeps_iff_of_keeps (by simp [Ctl.ringSlice, hr, hengines, hring, hdecoder, heasel, hpanel, hencoder])

/-! ### Of Machine/Stencil.lean -/

@[simp] theorem Ctl.keeps_StCmd.writes (hr : Part.reported ⊆ ps) (hmemory : .memory ∈ ps) (q : StCmd) (j : Nat) (m : Mem) :
    Ctl.Keeps ps c (StCmd.writes q j m d) ↔ Ctl.Keeps ps c d := Ctl.keeps_iff_of_keeps (by simp [StCmd.writes, hr, hmemory])

@[simp] theorem Ctl.keeps_StCmd.rowsRun (hr : Part.reported ⊆ ps) (hmemory : .memory ∈ ps) (q : StCmd) (limit : Nat) (m : Mem) :
    Ctl.Keeps ps c (StCmd.rowsRun q limit m d).2.1 ↔ Ctl.Keeps ps c d := by
  refine Ctl.keeps_iff_of_keeps ?_
  unfold StCmd.rowsRun
  refine (Ctl.keeps_foldl_of (fun x : Mem × Ctl × Bool × List Byte => x.2.1) fun x j => ?_).2 (Ctl.keeps_rfl ps d)
  (repeat' split) <;> simp [hr, hmemory]

@[simp] theorem Ctl.keeps_StCmd.run (hr : Part.reported ⊆ ps) (hmemory : .memory ∈ ps) (hengines : .engines ∈ ps) (q : StCmd) (limit : Nat) (m : Mem)
      :
    Ctl.Keeps ps c (StCmd.run q limit m d).2.1 ↔ Ctl.Keeps ps c d := Ctl.keeps_iff_of_keeps (by simp [StCmd.run, hr, hmemory, hengines])

@[simp] theorem Ctl.keeps_setSt (hstencil : .stencil ∈ ps) (f : StState → StState) :
    Ctl.Keeps ps c (d.setSt f) ↔ Ctl.Keeps ps c d := Ctl.keeps_iff_of_keeps (by simp [Ctl.setSt, hstencil])

@[simp] theorem Ctl.keeps_stFails (hr : Part.reported ⊆ ps) (hstencil : .stencil ∈ ps) (q : StCmd) (code : Nat) :
    Ctl.Keeps ps c (d.stFails q code) ↔ Ctl.Keeps ps c d := Ctl.keeps_iff_of_keeps (by simp [Ctl.stFails, hr, hstencil])

@[simp] theorem Ctl.keeps_stStart (hr : Part.reported ⊆ ps) (hstencil : .stencil ∈ ps) (q : StCmd) :
    Ctl.Keeps ps c (d.stStart q) ↔ Ctl.Keeps ps c d := by
  refine Ctl.keeps_iff_of_keeps ?_
  unfold Ctl.stStart
  split <;> simp [hr, hstencil]

@[simp] theorem Ctl.keeps_stNext (hr : Part.reported ⊆ ps) (hdraws : .draws ∈ ps) (hmemory : .memory ∈ ps) (hstencil : .stencil ∈ ps) (m : Mem) :
    Ctl.Keeps ps c (Ctl.stNext m d) ↔ Ctl.Keeps ps c d := Ctl.keeps_iff_of_keeps (by simp [Ctl.stNext, hr, hdraws, hmemory, hstencil])

@[simp] theorem Ctl.keeps_stAdvance (hr : Part.reported ⊆ ps) (hstencil : .stencil ∈ ps) :
    Ctl.Keeps ps c d.stAdvance ↔ Ctl.Keeps ps c d := Ctl.keeps_iff_of_keeps (by simp [Ctl.stAdvance, hr, hstencil])

@[simp] theorem Ctl.keeps_stDone (hr : Part.reported ⊆ ps) (hdraws : .draws ∈ ps) (hmemory : .memory ∈ ps) (hstencil : .stencil ∈ ps) (m : Mem)
      (q : StCmd) :
    Ctl.Keeps ps c (Ctl.stDone m q d) ↔ Ctl.Keeps ps c d := Ctl.keeps_iff_of_keeps (by simp [Ctl.stDone, hr, hdraws, hmemory, hstencil])

@[simp] theorem Ctl.keeps_stGo (hr : Part.reported ⊆ ps) (hstencil : .stencil ∈ ps) :
    Ctl.Keeps ps c d.stGo ↔ Ctl.Keeps ps c d := Ctl.keeps_iff_of_keeps (by simp [Ctl.stGo, hr, hstencil])

@[simp] theorem Ctl.keeps_stMode (hentries : .entries ∈ ps) (hregisters : .registers ∈ ps) (v : Nat) :
    Ctl.Keeps ps c (d.stMode v) ↔ Ctl.Keeps ps c d := Ctl.keeps_iff_of_keeps (by simp [Ctl.stMode, hentries, hregisters])

@[simp] theorem Ctl.keeps_stTailWrite (hr : Part.reported ⊆ ps) (hdraws : .draws ∈ ps) (hmemory : .memory ∈ ps) (hstencil : .stencil ∈ ps) (m : Mem)
      (v : Nat) :
    Ctl.Keeps ps c (Ctl.stTailWrite m v d) ↔ Ctl.Keeps ps c d := Ctl.keeps_iff_of_keeps (by simp [Ctl.stTailWrite, hr, hdraws, hmemory, hstencil])

@[simp] theorem Ctl.keeps_stResume (hr : Part.reported ⊆ ps) (hdraws : .draws ∈ ps) (hmemory : .memory ∈ ps) (hstencil : .stencil ∈ ps) (m : Mem)
      (skip : Bool) :
    Ctl.Keeps ps c (Ctl.stResume m skip d) ↔ Ctl.Keeps ps c d := Ctl.keeps_iff_of_keeps (by simp [Ctl.stResume, hr, hdraws, hmemory, hstencil])

@[simp] theorem Ctl.keeps_stCommandDone (hr : Part.reported ⊆ ps) (hdraws : .draws ∈ ps) (hmemory : .memory ∈ ps) (hengines : .engines ∈ ps)
      (hstencil : .stencil ∈ ps) (m : Mem) :
    Ctl.Keeps ps c (stCommandDone m d).2 ↔ Ctl.Keeps ps c d := by
  refine Ctl.keeps_iff_of_keeps ?_
  unfold stCommandDone
  dsimp only
  (repeat' split) <;> simp [hr, hdraws, hmemory, hengines, hstencil]

@[simp] theorem Ctl.keeps_stSramError (hr : Part.reported ⊆ ps) (hmemory : .memory ∈ ps) (hengines : .engines ∈ ps) (hstencil : .stencil ∈ ps)
      (word rows : Nat) (m : Mem) :
    Ctl.Keeps ps c (stSramError word rows m d).2 ↔ Ctl.Keeps ps c d := by
  refine Ctl.keeps_iff_of_keeps ?_
  unfold stSramError
  dsimp only
  (repeat' split) <;> simp [hr, hmemory, hengines, hstencil]

@[simp] theorem Ctl.keeps_stWatermark (hr : Part.reported ⊆ ps) (hstencil : .stencil ∈ ps) : Ctl.Keeps ps c d.stWatermark ↔ Ctl.Keeps ps c d := by
  refine Ctl.keeps_iff_of_keeps ?_
  unfold Ctl.stWatermark
  dsimp only
  (repeat' split) <;> simp [hr, hstencil]

@[simp] theorem Ctl.keeps_stTimeout (hr : Part.reported ⊆ ps) (hstencil : .stencil ∈ ps) : Ctl.Keeps ps c d.stTimeout ↔ Ctl.Keeps ps c d := by
  refine Ctl.keeps_iff_of_keeps ?_
  unfold Ctl.stTimeout
  split <;> simp [hr, hstencil]

end Sys2Proof.Machine
end

section
/-! PROOFS. Frames: the parts that faults, boot, the host interface and Vostan may change; each lemma asks for the parts that its operation may change among those of the list. -/
namespace Sys2Proof.Machine

variable {ps : List Part} {c d : Ctl}

/-! ### Of Machine/Faults.lean -/

@[simp] theorem Ctl.keeps_setFm (hfaults : .faults ∈ ps) (f : FmState → FmState) :
    Ctl.Keeps ps c (d.setFm f) ↔ Ctl.Keeps ps c d := Ctl.keeps_iff_of_keeps (by simp [Ctl.setFm, hfaults])

@[simp] theorem Ctl.keeps_laneFailed (hfaults : .faults ∈ ps) (unit_ at_ : Nat) :
    Ctl.Keeps ps c (d.laneFailed unit_ at_) ↔ Ctl.Keeps ps c d := Ctl.keeps_iff_of_keeps (by simp [Ctl.laneFailed, hfaults])

@[simp] theorem Ctl.keeps_withholdOrder (hfaults : .faults ∈ ps) (code : Nat) :
    Ctl.Keeps ps c (d.withholdOrder code) ↔ Ctl.Keeps ps c d := Ctl.keeps_iff_of_keeps (by simp [Ctl.withholdOrder, hfaults])

@[simp] theorem Ctl.keeps_laneOrder (hr : Part.reported ⊆ ps) (l : Nat) :
    Ctl.Keeps ps c (d.laneOrder l) ↔ Ctl.Keeps ps c d := Ctl.keeps_iff_of_keeps (by simp [Ctl.laneOrder, hr])

@[simp] theorem Ctl.keeps_islandReset (hr : Part.reported ⊆ ps) (hmemory : .memory ∈ ps) (hdecoder : .decoder ∈ ps) (heasel : .easel ∈ ps)
      (hpanel : .panel ∈ ps) (hencoder : .encoder ∈ ps) (island code : Nat) :
    Ctl.Keeps ps c (d.islandReset island code) ↔ Ctl.Keeps ps c d :=
      Ctl.keeps_iff_of_keeps (by simp [Ctl.islandReset, hr, hmemory, hdecoder, heasel, hpanel, hencoder])

@[simp] theorem Ctl.keeps_faultOrders (hr : Part.reported ⊆ ps) (hmemory : .memory ∈ ps) (hlanes : .lanes ∈ ps) (hdecoder : .decoder ∈ ps)
      (heasel : .easel ∈ ps) (hpanel : .panel ∈ ps) (hencoder : .encoder ∈ ps) (cls : Nat) (r : FaultRep) :
    Ctl.Keeps ps c (d.faultOrders cls r) ↔ Ctl.Keeps ps c d :=
      Ctl.keeps_iff_of_keeps (by simp [Ctl.faultOrders, hr, hmemory, hlanes, hdecoder, heasel, hpanel, hencoder])

@[simp] theorem Ctl.keeps_handleReport (hr : Part.reported ⊆ ps) (hmemory : .memory ∈ ps) (hlanes : .lanes ∈ ps) (hdecoder : .decoder ∈ ps)
      (heasel : .easel ∈ ps) (hpanel : .panel ∈ ps) (hencoder : .encoder ∈ ps) (r : FaultRep) :
    Ctl.Keeps ps c (d.handleReport r) ↔ Ctl.Keeps ps c d := by
  refine Ctl.keeps_iff_of_keeps ?_
  unfold Ctl.handleReport
  dsimp only
  (repeat' split) <;> simp [hr, hmemory, hlanes, hdecoder, heasel, hpanel, hencoder]

@[simp] theorem Ctl.keeps_faultReport (hr : Part.reported ⊆ ps) (hmemory : .memory ∈ ps) (hlanes : .lanes ∈ ps) (hdecoder : .decoder ∈ ps)
      (heasel : .easel ∈ ps) (hpanel : .panel ∈ ps) (hencoder : .encoder ∈ ps) :
    Ctl.Keeps ps c d.faultReport ↔ Ctl.Keeps ps c d := by
  refine Ctl.keeps_iff_of_keeps ?_
  unfold Ctl.faultReport
  split <;> simp [hr, hmemory, hlanes, hdecoder, heasel, hpanel, hencoder]

@[simp] theorem Ctl.keeps_frameHoldEnds (hr : Part.reported ⊆ ps) :
    Ctl.Keeps ps c d.frameHoldEnds ↔ Ctl.Keeps ps c d := Ctl.keeps_iff_of_keeps (by simp [Ctl.frameHoldEnds, hr])

@[simp] theorem Ctl.keeps_windowCloses (hentries : .entries ∈ ps) (hfaults : .faults ∈ ps) : Ctl.Keeps ps c d.windowCloses ↔ Ctl.Keeps ps c d := by
  refine Ctl.keeps_iff_of_keeps ?_
  unfold Ctl.windowCloses
  split <;> simp [hentries, hfaults]

@[simp] theorem Ctl.keeps_safeEnds (hr : Part.reported ⊆ ps) :
    Ctl.Keeps ps c d.safeEnds ↔ Ctl.Keeps ps c d := Ctl.keeps_iff_of_keeps (by simp [Ctl.safeEnds, hr])

@[simp] theorem Ctl.keeps_faultClear (hr : Part.reported ⊆ ps) :
    Ctl.Keeps ps c d.faultClear ↔ Ctl.Keeps ps c d := Ctl.keeps_iff_of_keeps (by simp [Ctl.faultClear, hr])

@[simp] theorem Ctl.keeps_flipWatchdog (hr : Part.reported ⊆ ps) :
    Ctl.Keeps ps c d.flipWatchdog ↔ Ctl.Keeps ps c d := Ctl.keeps_iff_of_keeps (by simp [Ctl.flipWatchdog, hr])

@[simp] theorem Ctl.keeps_heartbeatMissing (hr : Part.reported ⊆ ps) (island : Nat) :
    Ctl.Keeps ps c (d.heartbeatMissing island) ↔ Ctl.Keeps ps c d := Ctl.keeps_iff_of_keeps (by simp [Ctl.heartbeatMissing, hr])

@[simp] theorem Ctl.keeps_replicaCompare (hr : Part.reported ⊆ ps) (htime : .time ∈ ps) (hclock : .clock ∈ ps) (d' : Int) :
    Ctl.Keeps ps c (d.replicaCompare d') ↔ Ctl.Keeps ps c d := Ctl.keeps_iff_of_keeps (by simp [Ctl.replicaCompare, hr, htime, hclock])

@[simp] theorem Ctl.keeps_islandRuns (hr : Part.reported ⊆ ps) (hmemory : .memory ∈ ps) (island : Nat) :
    Ctl.Keeps ps c (d.islandRuns island) ↔ Ctl.Keeps ps c d := Ctl.keeps_iff_of_keeps (by simp [Ctl.islandRuns, hr, hmemory])

@[simp] theorem Ctl.keeps_sequencerVote (hr : Part.reported ⊆ ps) (copy : Nat) :
    Ctl.Keeps ps c (d.sequencerVote copy) ↔ Ctl.Keeps ps c d := Ctl.keeps_iff_of_keeps (by simp [Ctl.sequencerVote, hr])

@[simp] theorem Ctl.keeps_restoreUnit (hr : Part.reported ⊆ ps) (hdecoder : .decoder ∈ ps) (heasel : .easel ∈ ps) (hencoder : .encoder ∈ ps)
      (sub unit_ : Nat) :
    Ctl.Keeps ps c (d.restoreUnit sub unit_) ↔ Ctl.Keeps ps c d := Ctl.keeps_iff_of_keeps (by simp [Ctl.restoreUnit, hr, hdecoder, heasel, hencoder])

@[simp] theorem Ctl.keeps_selfTestDone (hr : Part.reported ⊆ ps) (hdecoder : .decoder ∈ ps) (heasel : .easel ∈ ps) (hencoder : .encoder ∈ ps)
      (sub unit_ : Nat) (pass : Bool) :
    Ctl.Keeps ps c (d.selfTestDone sub unit_ pass) ↔ Ctl.Keeps ps c d :=
      Ctl.keeps_iff_of_keeps (by simp [Ctl.selfTestDone, hr, hdecoder, heasel, hencoder])

@[simp] theorem Ctl.keeps_unitRestore (hr : Part.reported ⊆ ps) (hdecoder : .decoder ∈ ps) (heasel : .easel ∈ ps) (hencoder : .encoder ∈ ps)
      (value : Nat) :
    Ctl.Keeps ps c (d.unitRestore value) ↔ Ctl.Keeps ps c d := Ctl.keeps_iff_of_keeps (by simp [Ctl.unitRestore, hr, hdecoder, heasel, hencoder])

@[simp] theorem Ctl.keeps_laneReadmit (hfaults : .faults ∈ ps) (l : Nat) :
    Ctl.Keeps ps c (d.laneReadmit l) ↔ Ctl.Keeps ps c d := Ctl.keeps_iff_of_keeps (by simp [Ctl.laneReadmit, hfaults])

@[simp] theorem Ctl.keeps_refclkRestored (hfaults : .faults ∈ ps) (hpower : .power ∈ ps) :
    Ctl.Keeps ps c d.refclkRestored ↔ Ctl.Keeps ps c d := Ctl.keeps_iff_of_keeps (by simp [Ctl.refclkRestored, hfaults, hpower])

@[simp] theorem Ctl.keeps_logClear (hentries : .entries ∈ ps) (hfaults : .faults ∈ ps) :
    Ctl.Keeps ps c d.logClear ↔ Ctl.Keeps ps c d := Ctl.keeps_iff_of_keeps (by simp [Ctl.logClear, hentries, hfaults])

/-! ### Of Machine/Boot.lean -/

@[simp] theorem Ctl.keeps_fresh (hc : Part.cleared ⊆ ps) (cause : Nat) (keepLog : Bool) :
    Ctl.Keeps ps c (d.fresh cause keepLog) ↔ Ctl.Keeps ps c d := by
  refine Ctl.keeps_iff_of_keeps ?_
  unfold Ctl.fresh
  extract_lets pins f src b p n n'
  have h : Ctl.Keeps ps d n' := (Ctl.keeps_setE (d := n) (Part.mem_of_cleared hc (by simp)) ..).2 (Ctl.keeps_of_cleared hc rfl rfl)
  clear_value n'
  split
  · exact h
  · simpa [hc, Part.mem_of_cleared hc, Part.reported_of_cleared hc] using h

@[simp] theorem Ctl.keeps_warmReset (hc : Part.cleared ⊆ ps) (hnonVolatile : .nonVolatile ∈ ps) (cause : Nat) (cut : Option MramCut) :
    Ctl.Keeps ps c (d.warmReset cause cut) ↔ Ctl.Keeps ps c d :=
      Ctl.keeps_iff_of_keeps (by simp [Ctl.warmReset, hc, Part.mem_of_cleared hc, Part.reported_of_cleared hc, hnonVolatile])

@[simp] theorem Ctl.keeps_resetPin (hc : Part.cleared ⊆ ps) (hnonVolatile : .nonVolatile ∈ ps) (cut : Option MramCut) :
    Ctl.Keeps ps c (d.resetPin cut) ↔ Ctl.Keeps ps c d := Ctl.keeps_iff_of_keeps (by simp [Ctl.resetPin, hc, Part.mem_of_cleared hc, hnonVolatile])

@[simp] theorem Ctl.keeps_resetRise (hboot : .boot ∈ ps) :
    Ctl.Keeps ps c d.resetRise ↔ Ctl.Keeps ps c d := Ctl.keeps_iff_of_keeps (by simp [Ctl.resetRise, hboot])

@[simp] theorem Ctl.keeps_powerOn (hc : Part.cleared ⊆ ps) (low : Bool) : Ctl.Keeps ps c (d.powerOn low) ↔ Ctl.Keeps ps c d := by
  refine Ctl.keeps_iff_of_keeps ?_
  unfold Ctl.powerOn
  refine (Ctl.keeps_bt (d := { d.fresh 0 false with pm := {} }) ?_ _).2 ?_ <;> simp [hc, Part.mem_of_cleared hc]

@[simp] theorem Ctl.keeps_setFwSlot (hboot : .boot ∈ ps) (k : Nat) (b : List Byte) :
    Ctl.Keeps ps c (d.setFwSlot k b) ↔ Ctl.Keeps ps c d := Ctl.keeps_iff_of_keeps (by simp [Ctl.setFwSlot, hboot])

@[simp] theorem Ctl.keeps_showBoot (hentries : .entries ∈ ps) :
    Ctl.Keeps ps c d.showBoot ↔ Ctl.Keeps ps c d := Ctl.keeps_iff_of_keeps (by simp [Ctl.showBoot, hentries])

@[simp] theorem Ctl.keeps_writeBoot (hentries : .entries ∈ ps) (hboot : .boot ∈ ps) (f : BootRec → BootRec) :
    Ctl.Keeps ps c (d.writeBoot f) ↔ Ctl.Keeps ps c d := Ctl.keeps_iff_of_keeps (by simp [Ctl.writeBoot, hentries, hboot])

@[simp] theorem Ctl.keeps_fwEnds (hr : Part.reported ⊆ ps) (hboot : .boot ∈ ps) (l : FwLoad) (code : Nat) :
    Ctl.Keeps ps c (d.fwEnds l code) ↔ Ctl.Keeps ps c d := Ctl.keeps_iff_of_keeps (by simp [Ctl.fwEnds, hr, hboot])

@[simp] theorem Ctl.keeps_fwBegin (hr : Part.reported ⊆ ps) (hboot : .boot ∈ ps) :
    Ctl.Keeps ps c d.fwBegin ↔ Ctl.Keeps ps c d := Ctl.keeps_iff_of_keeps (by simp [Ctl.fwBegin, hr, hboot])

@[simp] theorem Ctl.keeps_fwData (hr : Part.reported ⊆ ps) (hboot : .boot ∈ ps) (bs : List Byte) :
    Ctl.Keeps ps c (d.fwData bs) ↔ Ctl.Keeps ps c d := by
  refine Ctl.keeps_iff_of_keeps ?_
  unfold Ctl.fwData
  dsimp only
  (repeat' split) <;> simp [hr, hboot]

@[simp] theorem Ctl.keeps_fwTimeout (hr : Part.reported ⊆ ps) (hboot : .boot ∈ ps) : Ctl.Keeps ps c d.fwTimeout ↔ Ctl.Keeps ps c d := by
  refine Ctl.keeps_iff_of_keeps ?_
  unfold Ctl.fwTimeout
  (repeat' split) <;> simp [hr, hboot]

@[simp] theorem Ctl.keeps_fwEnd (hr : Part.reported ⊆ ps) (hboot : .boot ∈ ps) : Ctl.Keeps ps c d.fwEnd ↔ Ctl.Keeps ps c d := by
  refine Ctl.keeps_iff_of_keeps ?_
  unfold Ctl.fwEnd
  (repeat' split) <;> simp [hr, hboot]

@[simp] theorem Ctl.keeps_fwAbort (hentries : .entries ∈ ps) (hboot : .boot ∈ ps) : Ctl.Keeps ps c d.fwAbort ↔ Ctl.Keeps ps c d := by
  refine Ctl.keeps_iff_of_keeps ?_
  unfold Ctl.fwAbort
  (repeat' split) <;> simp [hentries, hboot]

@[simp] theorem Ctl.keeps_fwChecked (hr : Part.reported ⊆ ps) (hboot : .boot ∈ ps) : Ctl.Keeps ps c d.fwChecked ↔ Ctl.Keeps ps c d := by
  refine Ctl.keeps_iff_of_keeps ?_
  unfold Ctl.fwChecked
  (repeat' split) <;> simp [hr, hboot]

@[simp] theorem Ctl.keeps_floorWritten (hentries : .entries ∈ ps) (hboot : .boot ∈ ps) :
    Ctl.Keeps ps c d.floorWritten ↔ Ctl.Keeps ps c d := Ctl.keeps_iff_of_keeps (by simp [Ctl.floorWritten, hentries, hboot])

@[simp] theorem Ctl.keeps_bootRestart (hc : Part.cleared ⊆ ps) (hnonVolatile : .nonVolatile ∈ ps) (cut : Option MramCut) :
    Ctl.Keeps ps c (d.bootRestart cut) ↔ Ctl.Keeps ps c d :=
      Ctl.keeps_iff_of_keeps (by simp [Ctl.bootRestart, hc, Part.mem_of_cleared hc, hnonVolatile])

@[simp] theorem Ctl.keeps_tryOther (hentries : .entries ∈ ps) (hboot : .boot ∈ ps) :
    Ctl.Keeps ps c d.tryOther ↔ Ctl.Keeps ps c d := Ctl.keeps_iff_of_keeps (by simp [Ctl.tryOther, hentries, hboot])

@[simp] theorem Ctl.keeps_confirm (hr : Part.reported ⊆ ps) (hboot : .boot ∈ ps) :
    Ctl.Keeps ps c d.confirm ↔ Ctl.Keeps ps c d := Ctl.keeps_iff_of_keeps (by simp [Ctl.confirm, hr, hboot])

@[simp] theorem Ctl.keeps_trialTimer (hr : Part.reported ⊆ ps) (hboot : .boot ∈ ps) : Ctl.Keeps ps c d.trialTimer ↔ Ctl.Keeps ps c d := by
  refine Ctl.keeps_iff_of_keeps ?_
  unfold Ctl.trialTimer
  split <;> simp [hr, hboot]

@[simp] theorem Ctl.keeps_keyWrite (hr : Part.reported ⊆ ps) (hnonVolatile : .nonVolatile ∈ ps) (hboot : .boot ∈ ps) (hengines : .engines ∈ ps)
      (n : Nat) (b : List Byte) :
    Ctl.Keeps ps c (d.keyWrite n b) ↔ Ctl.Keeps ps c d := Ctl.keeps_iff_of_keeps (by simp [Ctl.keyWrite, hr, hnonVolatile, hboot, hengines])

@[simp] theorem Ctl.keeps_showIslands (hentries : .entries ∈ ps) :
    Ctl.Keeps ps c d.showIslands ↔ Ctl.Keeps ps c d := Ctl.keeps_iff_of_keeps (by simp [Ctl.showIslands, hentries])

@[simp] theorem Ctl.keeps_pwrPin (hpower : .power ∈ ps) (houtputs : .outputs ∈ ps) (k : Nat) (v : Bool) :
    Ctl.Keeps ps c (d.pwrPin k v) ↔ Ctl.Keeps ps c d := Ctl.keeps_iff_of_keeps (by simp [Ctl.pwrPin, hpower, houtputs])

@[simp] theorem Ctl.keeps_pwrOff (hpower : .power ∈ ps) (houtputs : .outputs ∈ ps) :
    Ctl.Keeps ps c d.pwrOff ↔ Ctl.Keeps ps c d := Ctl.keeps_iff_of_keeps (by simp [Ctl.pwrOff, hpower, houtputs])

@[simp] theorem Ctl.keeps_seqFail (hr : Part.reported ⊆ ps) (hpower : .power ∈ ps) (step what : Nat) :
    Ctl.Keeps ps c (d.seqFail step what) ↔ Ctl.Keeps ps c d := Ctl.keeps_iff_of_keeps (by simp [Ctl.seqFail, hr, hpower])

@[simp] theorem Ctl.keeps_seqStart (hr : Part.reported ⊆ ps) (hpower : .power ∈ ps) (status : List (Option Nat)) :
    Ctl.Keeps ps c (d.seqStart status) ↔ Ctl.Keeps ps c d := by
  refine Ctl.keeps_iff_of_keeps ?_
  unfold Ctl.seqStart
  dsimp only
  (repeat' split) <;> simp [hr, hpower]

@[simp] theorem Ctl.keeps_tadpoleSupply (hpower : .power ∈ ps) (houtputs : .outputs ∈ ps) :
    Ctl.Keeps ps c d.tadpoleSupply ↔ Ctl.Keeps ps c d := Ctl.keeps_iff_of_keeps (by simp [Ctl.tadpoleSupply, hpower, houtputs])

@[simp] theorem Ctl.keeps_supplyRetry (hpower : .power ∈ ps) (houtputs : .outputs ∈ ps) :
    Ctl.Keeps ps c d.supplyRetry ↔ Ctl.Keeps ps c d := Ctl.keeps_iff_of_keeps (by simp [Ctl.supplyRetry, hpower, houtputs])

@[simp] theorem Ctl.keeps_tadpolePanel (hentries : .entries ∈ ps) (houtputs : .outputs ∈ ps) :
    Ctl.Keeps ps c d.tadpolePanel ↔ Ctl.Keeps ps c d := Ctl.keeps_iff_of_keeps (by simp [Ctl.tadpolePanel, hentries, houtputs])

@[simp] theorem Ctl.keeps_seqDone (hr : Part.reported ⊆ ps) (hdraws : .draws ∈ ps) (hboot : .boot ∈ ps) (hpower : .power ∈ ps)
      (fails : List (Nat × Nat)) (target : Nat) :
    Ctl.Keeps ps c (d.seqDone fails target) ↔ Ctl.Keeps ps c d := Ctl.keeps_iff_of_keeps (by simp [Ctl.seqDone, hr, hdraws, hboot, hpower])

@[simp] theorem Ctl.keeps_pwrGoodRise (hr : Part.reported ⊆ ps) (hdraws : .draws ∈ ps) (hboot : .boot ∈ ps) (hpower : .power ∈ ps)
      (hlanes : .lanes ∈ ps) (k : Nat) (fails : List (Nat × Nat)) (target : Nat) :
    Ctl.Keeps ps c (d.pwrGoodRise k fails target) ↔ Ctl.Keeps ps c d :=
      Ctl.keeps_iff_of_keeps (by simp [Ctl.pwrGoodRise, hr, hdraws, hboot, hpower, hlanes])

@[simp] theorem Ctl.keeps_sequenceFailed (hr : Part.reported ⊆ ps) (hpower : .power ∈ ps) (island : Option Nat) :
    Ctl.Keeps ps c (d.sequenceFailed island) ↔ Ctl.Keeps ps c d := by
  refine Ctl.keeps_iff_of_keeps ?_
  unfold Ctl.sequenceFailed
  split <;> simp [hr, hpower]

@[simp] theorem Ctl.keeps_loadStore (hentries : .entries ∈ ps) :
    Ctl.Keeps ps c d.loadStore ↔ Ctl.Keeps ps c d := Ctl.keeps_iff_of_keeps (by simp [Ctl.loadStore, hentries])

@[simp] theorem Ctl.keeps_enterTadpole (hr : Part.reported ⊆ ps) (hboot : .boot ∈ ps) (hpower : .power ∈ ps) (reason : Nat) :
    Ctl.Keeps ps c (d.enterTadpole reason) ↔ Ctl.Keeps ps c d := Ctl.keeps_iff_of_keeps (by simp [Ctl.enterTadpole, hr, hboot, hpower])

@[simp] theorem Ctl.keeps_firmwareRuns (hr : Part.reported ⊆ ps) (hnonVolatile : .nonVolatile ∈ ps) (hboot : .boot ∈ ps) (hengines : .engines ∈ ps)
      (hpower : .power ∈ ps) (evs : List (Nat × List (Nat × Nat))) (status : List (Option Nat)) :
    Ctl.Keeps ps c (d.firmwareRuns evs status) ↔ Ctl.Keeps ps c d :=
      Ctl.keeps_iff_of_keeps (by simp [Ctl.firmwareRuns, hr, hnonVolatile, hboot, hengines, hpower])

@[simp] theorem Ctl.keeps_runSlot (hr : Part.reported ⊆ ps) (hnonVolatile : .nonVolatile ∈ ps) (hboot : .boot ∈ ps) (hengines : .engines ∈ ps)
      (hpower : .power ∈ ps) (k reach : Nat) (evs : List (Nat × List (Nat × Nat))) (status : List (Option Nat)) :
    Ctl.Keeps ps c (d.runSlot k reach evs status) ↔ Ctl.Keeps ps c d :=
      Ctl.keeps_iff_of_keeps (by simp [Ctl.runSlot, hr, hnonVolatile, hboot, hengines, hpower])

@[simp] theorem Ctl.keeps_chooseStart (hr : Part.reported ⊆ ps) (hnonVolatile : .nonVolatile ∈ ps) (hboot : .boot ∈ ps) (hengines : .engines ∈ ps)
      (hpower : .power ∈ ps) (reach : Nat) (evs : List (Nat × List (Nat × Nat))) (status : List (Option Nat)) :
    Ctl.Keeps ps c (d.chooseStart reach evs status) ↔ Ctl.Keeps ps c d :=
      Ctl.keeps_iff_of_keeps (by simp [Ctl.chooseStart, hr, hnonVolatile, hboot, hengines, hpower])

@[simp] theorem Ctl.keeps_porRelease (hr : Part.reported ⊆ ps) (hnonVolatile : .nonVolatile ∈ ps) (hboot : .boot ∈ ps) (hengines : .engines ∈ ps)
      (hpower : .power ∈ ps) (himages : .images ∈ ps) (reach : Nat) (strap : Bool) (mr : List (Nat × Nat)) (status : List (Option Nat)) :
    Ctl.Keeps ps c (d.porRelease reach strap mr status) ↔ Ctl.Keeps ps c d :=
      Ctl.keeps_iff_of_keeps (by simp [Ctl.porRelease, hr, hnonVolatile, hboot, hengines, hpower, himages,
        Ctl.keeps_lostWord hnonVolatile (Part.faults_mem hr) hboot himages])

@[simp] theorem Ctl.keeps_startTimeout (hc : Part.cleared ⊆ ps) (hnonVolatile : .nonVolatile ∈ ps) (cut : Option MramCut) :
    Ctl.Keeps ps c (d.startTimeout cut) ↔ Ctl.Keeps ps c d := Ctl.keeps_iff_of_keeps (by simp [Ctl.startTimeout, hc, hnonVolatile])

@[simp] theorem Ctl.keeps_startComplete (hr : Part.reported ⊆ ps) (hnonVolatile : .nonVolatile ∈ ps) (hboot : .boot ∈ ps) (hlanes : .lanes ∈ ps)
      (hring : .ring ∈ ps) (himages : .images ∈ ps) :
    Ctl.Keeps ps c d.startComplete ↔ Ctl.Keeps ps c d :=
      Ctl.keeps_iff_of_keeps (by simp [Ctl.startComplete, hr, hnonVolatile, hboot, hlanes, hring, himages])

@[simp] theorem Ctl.keeps_calTrained (hr : Part.reported ⊆ ps) (hdraws : .draws ∈ ps) (hpower : .power ∈ ps) (np : Nat) (devs : List (List Nat)) :
    Ctl.Keeps ps c (d.calTrained np devs) ↔ Ctl.Keeps ps c d := Ctl.keeps_iff_of_keeps (by simp [Ctl.calTrained, hr, hdraws, hpower])

@[simp] theorem Ctl.keeps_storeTrims (hboot : .boot ∈ ps) (devs : List (List Nat)) :
    Ctl.Keeps ps c (d.storeTrims devs) ↔ Ctl.Keeps ps c d := Ctl.keeps_iff_of_keeps (by simp [Ctl.storeTrims, hboot])

@[simp] theorem Ctl.keeps_trainingDone (hr : Part.reported ⊆ ps) (hdraws : .draws ∈ ps) (hnonVolatile : .nonVolatile ∈ ps) (hboot : .boot ∈ ps)
      (hmemory : .memory ∈ ps) (hpower : .power ∈ ps) (hlanes : .lanes ∈ ps) (hring : .ring ∈ ps) (himages : .images ∈ ps) (devs : List (List Nat))
      (fail : Option (Nat × Nat × Nat)) (m : Mem) :
    Ctl.Keeps ps c (trainingDone devs fail m d).2 ↔ Ctl.Keeps ps c d := by
  refine Ctl.keeps_iff_of_keeps ?_
  unfold trainingDone
  dsimp only
  (repeat' split) <;> simp [hr, hdraws, hnonVolatile, hboot, hmemory, hpower, hlanes, hring, himages, Ctl.keeps_mcShow (Part.entries_mem hr), Ctl.keeps_setEa (Part.entries_mem hr)]

@[simp] theorem Ctl.keeps_calStops (hentries : .entries ∈ ps) (hpower : .power ∈ ps) :
    Ctl.Keeps ps c d.calStops ↔ Ctl.Keeps ps c d := Ctl.keeps_iff_of_keeps (by simp [Ctl.calStops, hentries, hpower])

@[simp] theorem Ctl.keeps_shutdown (hc : Part.cleared ⊆ ps) (kind code : Nat) : Ctl.Keeps ps c (d.shutdown kind code) ↔ Ctl.Keeps ps c d := by
  refine Ctl.keeps_iff_of_keeps ?_
  have he : .entries ∈ ps := Part.mem_of_cleared hc (by simp)
  have ho : .outputs ∈ ps := Part.mem_of_cleared hc (by simp)
  unfold Ctl.shutdown
  extract_lets c₁ c₂ off c₃ n p n₁ n₂ n₃
  have h : Ctl.Keeps ps d n := by
    clear_value off
    simp [n, c₃, c₂, c₁, hc, Part.mem_of_cleared hc, Part.reported_of_cleared hc, Ctl.keeps_emit ho]
  clear_value n c₃ p off
  have h₁ : Ctl.Keeps ps d n₁ := (Ctl.keeps_pm (d := { n with up := c₃.up }) (Part.mem_of_cleared hc (by simp)) _).2 ((Ctl.keeps_up _).2 h)
  clear_value n₁
  simpa [n₃, n₂, hc, Part.mem_of_cleared hc, Part.reported_of_cleared hc, Ctl.keeps_setE he] using h₁

@[simp] theorem Ctl.keeps_shutdownFault (hr : Part.reported ⊆ ps) (hmemory : .memory ∈ ps) (hlanes : .lanes ∈ ps) (hdecoder : .decoder ∈ ps)
      (heasel : .easel ∈ ps) (hpanel : .panel ∈ ps) (hencoder : .encoder ∈ ps) (code : Nat) (items : List (Nat × Nat)) :
    Ctl.Keeps ps c (d.shutdownFault code items) ↔ Ctl.Keeps ps c d := by
  refine Ctl.keeps_iff_of_keeps ?_
  unfold Ctl.shutdownFault
  dsimp only
  (repeat' split) <;> simp [hr, hmemory, hlanes, hdecoder, heasel, hpanel, hencoder]

@[simp] theorem Ctl.keeps_supplyFail (hc : Part.cleared ⊆ ps) (hnonVolatile : .nonVolatile ∈ ps) (rail : Nat) (fell : Bool) (cut : Option MramCut) :
    Ctl.Keeps ps c (d.supplyFail rail fell cut) ↔ Ctl.Keeps ps c d :=
      Ctl.keeps_iff_of_keeps (by simp [Ctl.supplyFail, hc, Part.mem_of_cleared hc, Part.reported_of_cleared hc, hnonVolatile])

@[simp] theorem Ctl.keeps_thermalCmd (hc : Part.cleared ⊆ ps) (hnonVolatile : .nonVolatile ∈ ps) (both : List (Int × Int × Bool))
      (cut : Option MramCut) :
    Ctl.Keeps ps c (d.thermalCmd both cut) ↔ Ctl.Keeps ps c d :=
      Ctl.keeps_iff_of_keeps (by simp [Ctl.thermalCmd, hc, Part.mem_of_cleared hc, Part.reported_of_cleared hc, hnonVolatile])

@[simp] theorem Ctl.keeps_shutdownRestart (hc : Part.cleared ⊆ ps) :
    Ctl.Keeps ps c d.shutdownRestart ↔ Ctl.Keeps ps c d :=
      Ctl.keeps_iff_of_keeps (by simp [Ctl.shutdownRestart, hc, Part.mem_of_cleared hc, Ctl.keeps_emit (Part.mem_of_cleared hc (by simp))])

@[simp] theorem Ctl.keeps_lifeUpdate (hentries : .entries ∈ ps) (hnonVolatile : .nonVolatile ∈ ps) (hboot : .boot ∈ ps) (hengines : .engines ∈ ps)
      (hpower : .power ∈ ps) :
    Ctl.Keeps ps c d.lifeUpdate ↔ Ctl.Keeps ps c d :=
      Ctl.keeps_iff_of_keeps (by simp [Ctl.lifeUpdate, hentries, hnonVolatile, hboot, hengines, hpower])

@[simp] theorem Ctl.keeps_setPair (hboot : .boot ∈ ps) (p : Nat) (x : CpPair) :
    Ctl.Keeps ps c (d.setPair p x) ↔ Ctl.Keeps ps c d := Ctl.keeps_iff_of_keeps (by simp [Ctl.setPair, hboot])

@[simp] theorem Ctl.keeps_calHolds (hr : Part.reported ⊆ ps) (hpower : .power ∈ ps) :
    Ctl.Keeps ps c d.calHolds ↔ Ctl.Keeps ps c d := Ctl.keeps_iff_of_keeps (by simp [Ctl.calHolds, hr, hpower])

@[simp] theorem Ctl.keeps_cpStops (hr : Part.reported ⊆ ps) (hclock : .clock ∈ ps) (hboot : .boot ∈ ps) (hpower : .power ∈ ps) (p code : Nat) :
    Ctl.Keeps ps c (d.cpStops p code) ↔ Ctl.Keeps ps c d := Ctl.keeps_iff_of_keeps (by simp [Ctl.cpStops, hr, hclock, hboot, hpower])

@[simp] theorem Ctl.keeps_pairOutTimer (hc : Part.cleared ⊆ ps) (hnonVolatile : .nonVolatile ∈ ps) (cut : Option MramCut) :
    Ctl.Keeps ps c (d.pairOutTimer cut) ↔ Ctl.Keeps ps c d := Ctl.keeps_iff_of_keeps (by simp [Ctl.pairOutTimer, hc, hnonVolatile])

/-! ### Of Machine/HostRings.lean -/

@[simp] theorem Ctl.keeps_setHi (hhost : .host ∈ ps) (f : HiState → HiState) :
    Ctl.Keeps ps c (d.setHi f) ↔ Ctl.Keeps ps c d := Ctl.keeps_iff_of_keeps (by simp [Ctl.setHi, hhost])

@[simp] theorem Ctl.keeps_msixSend (hhost : .host ∈ ps) (houtputs : .outputs ∈ ps) (fn v : Nat) :
    Ctl.Keeps ps c (d.msixSend fn v) ↔ Ctl.Keeps ps c d := Ctl.keeps_iff_of_keeps (by simp [Ctl.msixSend, hhost, houtputs])

@[simp] theorem Ctl.keeps_eqWrite (hregisters : .registers ∈ ps) (hhost : .host ∈ ps) (houtputs : .outputs ∈ ps) (q : Nat) :
    Ctl.Keeps ps c (d.eqWrite q) ↔ Ctl.Keeps ps c d := by
  refine Ctl.keeps_iff_of_keeps ?_
  unfold Ctl.eqWrite
  split <;> simp [hregisters, hhost, houtputs]

@[simp] theorem Ctl.keeps_eqNotify (hhost : .host ∈ ps) (houtputs : .outputs ∈ ps) (q : Nat) :
    Ctl.Keeps ps c (d.eqNotify q) ↔ Ctl.Keeps ps c d := Ctl.keeps_iff_of_keeps (by simp [Ctl.eqNotify, hhost, houtputs])

@[simp] theorem Ctl.keeps_eqRecord (hregisters : .registers ∈ ps) (hhost : .host ∈ ps) (houtputs : .outputs ∈ ps) (q : Nat) :
    Ctl.Keeps ps c (d.eqRecord q) ↔ Ctl.Keeps ps c d := Ctl.keeps_iff_of_keeps (by simp [Ctl.eqRecord, hregisters, hhost, houtputs])

@[simp] theorem Ctl.keeps_eqDrain (hregisters : .registers ∈ ps) (hhost : .host ∈ ps) (houtputs : .outputs ∈ ps) (q : Nat) :
    Ctl.Keeps ps c (d.eqDrain q) ↔ Ctl.Keeps ps c d := Ctl.keeps_iff_of_keeps (by simp [Ctl.eqDrain, hregisters, hhost, houtputs])

@[simp] theorem Ctl.keeps_eqEnable (hregisters : .registers ∈ ps) (hhost : .host ∈ ps) (houtputs : .outputs ∈ ps) (q : Nat) :
    Ctl.Keeps ps c (d.eqEnable q) ↔ Ctl.Keeps ps c d := Ctl.keeps_iff_of_keeps (by simp [Ctl.eqEnable, hregisters, hhost, houtputs])

@[simp] theorem Ctl.keeps_eqHeadWrite (hregisters : .registers ∈ ps) (q v : Nat) :
    Ctl.Keeps ps c (d.eqHeadWrite q v) ↔ Ctl.Keeps ps c d := Ctl.keeps_iff_of_keeps (by simp [Ctl.eqHeadWrite, hregisters])

@[simp] theorem Ctl.keeps_eqCoalesce (hhost : .host ∈ ps) (houtputs : .outputs ∈ ps) (q : Nat) :
    Ctl.Keeps ps c (d.eqCoalesce q) ↔ Ctl.Keeps ps c d := Ctl.keeps_iff_of_keeps (by simp [Ctl.eqCoalesce, hhost, houtputs])

/-! ### Of Machine/VosOps.lean -/

@[simp] theorem Ctl.keeps_setDy (hmessages : .messages ∈ ps) (f : DyState → DyState) :
    Ctl.Keeps ps c (d.setDy f) ↔ Ctl.Keeps ps c d := Ctl.keeps_iff_of_keeps (by simp [Ctl.setDy, hmessages])

@[simp] theorem Ctl.keeps_clearArr (hentries : .entries ∈ ps) (idx : Nat) : Ctl.Keeps ps c (d.clearArr idx) ↔ Ctl.Keeps ps c d := by
  refine Ctl.keeps_iff_of_keeps ?_
  unfold Ctl.clearArr
  split <;> simp [hentries]

@[simp] theorem Ctl.keeps_irqAck (hentries : .entries ∈ ps) (hirq : .irq ∈ ps) (houtputs : .outputs ∈ ps) (mask : Nat) :
    Ctl.Keeps ps c (d.irqAck mask) ↔ Ctl.Keeps ps c d := Ctl.keeps_iff_of_keeps (by simp [Ctl.irqAck, hentries, hirq, houtputs])

@[simp] theorem Ctl.keeps_toDefault (hentries : .entries ∈ ps) (hshadow : .shadow ∈ ps) (hnonVolatile : .nonVolatile ∈ ps) (k : Nat) :
    Ctl.Keeps ps c (d.toDefault k) ↔ Ctl.Keeps ps c d := by
  refine Ctl.keeps_iff_of_keeps ?_
  have h : Ctl.Keeps ps d { d with ent := aDel d.ent k, shadow := aDel d.shadow k } :=
    (Ctl.keeps_shadow (d := { d with ent := aDel d.ent k }) hshadow _).2 (by simp [hentries])
  unfold Ctl.toDefault
  dsimp only
  split
  · exact h
  · exact (Ctl.keeps_nv hnonVolatile _).2 h

@[simp] theorem Ctl.keeps_written (hc : Part.cleared ⊆ ps) (hnonVolatile : .nonVolatile ∈ ps) (k : Nat) (v : EVal) :
    Ctl.Keeps ps c (d.written k v) ↔ Ctl.Keeps ps c d :=
      Ctl.keeps_iff_of_keeps (by simp [Ctl.written, hc, Part.mem_of_cleared hc, Part.reported_of_cleared hc, hnonVolatile])

@[simp] theorem Ctl.keeps_clearSettings (hc : Part.cleared ⊆ ps) (hnonVolatile : .nonVolatile ∈ ps) :
    Ctl.Keeps ps c d.clearSettings ↔ Ctl.Keeps ps c d :=
      Ctl.keeps_iff_of_keeps (by simp [Ctl.clearSettings, hc, Part.mem_of_cleared hc, hnonVolatile,
        Ctl.keeps_toDefault (Part.mem_of_cleared hc (by simp)) (Part.mem_of_cleared hc (by simp)) hnonVolatile])

@[simp] theorem Ctl.keeps_commit (hregisters : .registers ∈ ps) (hmessages : .messages ∈ ps) : Ctl.Keeps ps c (d.commit).1 ↔ Ctl.Keeps ps c d := by
  refine Ctl.keeps_iff_of_keeps ?_
  unfold Ctl.commit
  split <;> simp [hregisters, hmessages]

@[simp] theorem Ctl.keeps_discard (hshadow : .shadow ∈ ps) (hmessages : .messages ∈ ps) :
    Ctl.Keeps ps c d.discard ↔ Ctl.Keeps ps c d := Ctl.keeps_iff_of_keeps (by simp [Ctl.discard, hshadow, hmessages])

/-! ### Of Machine/Vostan.lean -/

@[simp] theorem Ctl.keeps_vosSend (hentries : .entries ∈ ps) (hhost : .host ∈ ps) (hring : .ring ∈ ps) (houtputs : .outputs ∈ ps) (dest : VAddr)
      (m : List Byte) :
    Ctl.Keeps ps c (d.vosSend dest m) ↔ Ctl.Keeps ps c d := Ctl.keeps_iff_of_keeps (by simp [Ctl.vosSend, hentries, hhost, hring, houtputs])

@[simp] theorem Ctl.keeps_updSess (hmessages : .messages ∈ ps) (n : Nat) (f : Sess → Sess) :
    Ctl.Keeps ps c (d.updSess n f) ↔ Ctl.Keeps ps c d := Ctl.keeps_iff_of_keeps (by simp [Ctl.updSess, hmessages])

@[simp] theorem Ctl.keeps_xferLost (hr : Part.reported ⊆ ps) (hboot : .boot ∈ ps) (hengines : .engines ∈ ps) (himages : .images ∈ ps) (x : Xfer) :
    Ctl.Keeps ps c (d.xferLost x) ↔ Ctl.Keeps ps c d := by
  refine Ctl.keeps_iff_of_keeps ?_
  unfold Ctl.xferLost
  (repeat' split) <;> simp [hr, hboot, hengines, himages]

@[simp] theorem Ctl.keeps_closeSess (hr : Part.reported ⊆ ps) (hboot : .boot ∈ ps) (hengines : .engines ∈ ps) (himages : .images ∈ ps) (n cause : Nat)
      :
    Ctl.Keeps ps c (d.closeSess n cause) ↔ Ctl.Keeps ps c d := by
  refine Ctl.keeps_iff_of_keeps ?_
  unfold Ctl.closeSess
  dsimp only
  (repeat' split) <;> simp [hr, hboot, hengines, himages]

@[simp] theorem Ctl.keeps_setLogin (hmessages : .messages ∈ ps) (l : LoginSrc) :
    Ctl.Keeps ps c (d.setLogin l) ↔ Ctl.Keeps ps c d := Ctl.keeps_iff_of_keeps (by simp [Ctl.setLogin, hmessages])

@[simp] theorem Ctl.keeps_fetchEntry (hc : Part.cleared ⊆ ps) (hnonVolatile : .nonVolatile ∈ ps) (k : Nat) :
    Ctl.Keeps ps c (d.fetchEntry k) ↔ Ctl.Keeps ps c d :=
      Ctl.keeps_iff_of_keeps (by simp [Ctl.fetchEntry, hc, Part.mem_of_cleared hc, Part.reported_of_cleared hc, hnonVolatile])

@[simp] theorem Ctl.keeps_xferTimeout (hr : Part.reported ⊆ ps) (hboot : .boot ∈ ps) (hengines : .engines ∈ ps) (himages : .images ∈ ps) (n : Nat) :
    Ctl.Keeps ps c (d.xferTimeout n) ↔ Ctl.Keeps ps c d := by
  refine Ctl.keeps_iff_of_keeps ?_
  unfold Ctl.xferTimeout
  split <;> simp [hr, hboot, hengines, himages]

@[simp] theorem Ctl.keeps_relayReply (hentries : .entries ∈ ps) (hmessages : .messages ∈ ps) (hhost : .host ∈ ps) (hring : .ring ∈ ps)
      (houtputs : .outputs ∈ ps) (pos : Nat) (m : List Byte) :
    Ctl.Keeps ps c (d.relayReply pos m) ↔ Ctl.Keeps ps c d := by
  refine Ctl.keeps_iff_of_keeps ?_
  unfold Ctl.relayReply
  dsimp only
  (repeat' split) <;> simp [hentries, hmessages, hhost, hring, houtputs]

@[simp] theorem Ctl.keeps_relayTimeout (hmessages : .messages ∈ ps) :
    Ctl.Keeps ps c d.relayTimeout ↔ Ctl.Keeps ps c d := Ctl.keeps_iff_of_keeps (by simp [Ctl.relayTimeout, hmessages])

@[simp] theorem Ctl.keeps_challengeTimeout (hr : Part.reported ⊆ ps) (hboot : .boot ∈ ps) (hengines : .engines ∈ ps) (himages : .images ∈ ps)
      (n : Nat) :
    Ctl.Keeps ps c (d.challengeTimeout n) ↔ Ctl.Keeps ps c d := by
  refine Ctl.keeps_iff_of_keeps ?_
  unfold Ctl.challengeTimeout
  split <;> simp [hr, hboot, hengines, himages]

@[simp] theorem Ctl.keeps_sessionTimeout (hr : Part.reported ⊆ ps) (hboot : .boot ∈ ps) (hengines : .engines ∈ ps) (himages : .images ∈ ps) (n : Nat)
      :
    Ctl.Keeps ps c (d.sessionTimeout n) ↔ Ctl.Keeps ps c d := by
  refine Ctl.keeps_iff_of_keeps ?_
  unfold Ctl.sessionTimeout
  split <;> simp [hr, hboot, hengines, himages]

@[simp] theorem Ctl.keeps_lockoutEnds (hmessages : .messages ∈ ps) (a : VAddr) :
    Ctl.Keeps ps c (d.lockoutEnds a) ↔ Ctl.Keeps ps c d := Ctl.keeps_iff_of_keeps (by simp [Ctl.lockoutEnds, hmessages])

@[simp] theorem Ctl.keeps_updSub (hmessages : .messages ∈ ps) (n id : Nat) (f : Machine.Sub → Machine.Sub) :
    Ctl.Keeps ps c (d.updSub n id f) ↔ Ctl.Keeps ps c d := Ctl.keeps_iff_of_keeps (by simp [Ctl.updSub, hmessages])

@[simp] theorem Ctl.keeps_mbxNote (hregisters : .registers ∈ ps) (hhost : .host ∈ ps) (houtputs : .outputs ∈ ps) (fn : Nat) (m : List Byte) :
    Ctl.Keeps ps c (d.mbxNote fn m) ↔ Ctl.Keeps ps c d := Ctl.keeps_iff_of_keeps (by simp [Ctl.mbxNote, hregisters, hhost, houtputs])

@[simp] theorem Ctl.keeps_notify (hr : Part.reported ⊆ ps) (hring : .ring ∈ ps) (full : Bool) (s : Sess) (u : Machine.Sub) (records count : Nat)
      (content : List Byte) :
    Ctl.Keeps ps c (d.notify full s u records count content) ↔ Ctl.Keeps ps c d := by
  refine Ctl.keeps_iff_of_keeps ?_
  unfold Ctl.notify
  dsimp only
  (repeat' split) <;> simp [hr, hring]

@[simp] theorem Ctl.keeps_cyclic (hc : Part.cleared ⊆ ps) (hnonVolatile : .nonVolatile ∈ ps) (n id : Nat) (full : Bool) :
    Ctl.Keeps ps c (d.cyclic n id full) ↔ Ctl.Keeps ps c d := by
  refine Ctl.keeps_iff_of_keeps ?_
  unfold Ctl.cyclic
  split <;> simp [hc, Part.mem_of_cleared hc, Part.reported_of_cleared hc, hnonVolatile]

@[simp] theorem Ctl.keeps_onChange (hc : Part.cleared ⊆ ps) (hnonVolatile : .nonVolatile ∈ ps) (n id : Nat) (full : Bool) :
    Ctl.Keeps ps c (d.onChange n id full) ↔ Ctl.Keeps ps c d := by
  refine Ctl.keeps_iff_of_keeps ?_
  unfold Ctl.onChange
  split <;> simp [hc, Part.mem_of_cleared hc, Part.reported_of_cleared hc, hnonVolatile]

@[simp] theorem Ctl.keeps_eventBatch (hr : Part.reported ⊆ ps) (hring : .ring ∈ ps) (n id : Nat) (full : Bool) :
    Ctl.Keeps ps c (d.eventBatch n id full) ↔ Ctl.Keeps ps c d := by
  refine Ctl.keeps_iff_of_keeps ?_
  unfold Ctl.eventBatch
  split <;> simp [hr, hring]

@[simp] theorem Ctl.keeps_cpaBack (hr : Part.reported ⊆ ps) (hboot : .boot ∈ ps) (hengines : .engines ∈ ps) (hring : .ring ∈ ps)
      (himages : .images ∈ ps) :
    Ctl.Keeps ps c d.cpaBack ↔ Ctl.Keeps ps c d := by
  refine Ctl.keeps_iff_of_keeps ?_
  unfold Ctl.cpaBack
  dsimp only
  (repeat' split) <;> simp [hr, hboot, hengines, hring, himages, Ctl.keeps_setSlot (Part.entries_mem hr) himages]

@[simp] theorem Ctl.keeps_cpBack (hr : Part.reported ⊆ ps) (hnonVolatile : .nonVolatile ∈ ps) (hboot : .boot ∈ ps) (hengines : .engines ∈ ps)
      (hring : .ring ∈ ps) (himages : .images ∈ ps) (p : Nat) :
    Ctl.Keeps ps c (d.cpBack p) ↔ Ctl.Keeps ps c d := Ctl.keeps_iff_of_keeps (by simp [Ctl.cpBack, hr, hnonVolatile, hboot, hengines, hring, himages])

/-! ### Of Machine/Host.lean -/

@[simp] theorem Ctl.keeps_fnReset (hr : Part.reported ⊆ ps) (hboot : .boot ∈ ps) (hengines : .engines ∈ ps) (himages : .images ∈ ps) (fn : Nat) :
    Ctl.Keeps ps c (d.fnReset fn) ↔ Ctl.Keeps ps c d :=
      Ctl.keeps_iff_of_keeps (by simp [Ctl.fnReset, hr, hboot, hengines, himages, Ctl.keeps_setReg (Part.registers_mem hr)])

@[simp] theorem Ctl.keeps_linkReset (hr : Part.reported ⊆ ps) (hboot : .boot ∈ ps) (hengines : .engines ∈ ps) (himages : .images ∈ ps) :
    Ctl.Keeps ps c d.linkReset ↔ Ctl.Keeps ps c d := Ctl.keeps_iff_of_keeps (by simp [Ctl.linkReset, hr, hboot, hengines, himages])

@[simp] theorem Ctl.keeps_hostLinkUp (hr : Part.reported ⊆ ps) (width speed : Nat) :
    Ctl.Keeps ps c (d.hostLinkUp width speed) ↔ Ctl.Keeps ps c d := Ctl.keeps_iff_of_keeps (by simp [Ctl.hostLinkUp, hr])

@[simp] theorem Ctl.keeps_pf0Commit (hregisters : .registers ∈ ps) (hmessages : .messages ∈ ps) : Ctl.Keeps ps c d.pf0Commit ↔ Ctl.Keeps ps c d := by
  refine Ctl.keeps_iff_of_keeps ?_
  unfold Ctl.pf0Commit
  have h : Ctl.Keeps ps d d.commit.1 := (Ctl.keeps_commit hregisters hmessages).2 (Ctl.keeps_rfl ps d)
  split
  · simp
  split
  next e => simpa [hregisters, e] using h
  next e => simpa [hregisters, e] using h

@[simp] theorem Ctl.keeps_pf0Discard (hshadow : .shadow ∈ ps) (hregisters : .registers ∈ ps) (hmessages : .messages ∈ ps) :
    Ctl.Keeps ps c d.pf0Discard ↔ Ctl.Keeps ps c d := Ctl.keeps_iff_of_keeps (by simp [Ctl.pf0Discard, hshadow, hregisters, hmessages])

@[simp] theorem Ctl.keeps_dmaStart (hhost : .host ∈ ps) :
    Ctl.Keeps ps c d.dmaStart ↔ Ctl.Keeps ps c d := Ctl.keeps_iff_of_keeps (by simp [Ctl.dmaStart, hhost])

@[simp] theorem Ctl.keeps_jqTailWrite (hregisters : .registers ∈ ps) (hhost : .host ∈ ps) (q v : Nat) :
    Ctl.Keeps ps c (d.jqTailWrite q v) ↔ Ctl.Keeps ps c d := Ctl.keeps_iff_of_keeps (by simp [Ctl.jqTailWrite, hregisters, hhost])

@[simp] theorem Ctl.keeps_jqDisable (hregisters : .registers ∈ ps) (hhost : .host ∈ ps) (q : Nat) :
    Ctl.Keeps ps c (d.jqDisable q) ↔ Ctl.Keeps ps c d := Ctl.keeps_iff_of_keeps (by simp [Ctl.jqDisable, hregisters, hhost])

@[simp] theorem Ctl.keeps_dmaEnd (hr : Part.reported ⊆ ps) (hmemory : .memory ∈ ps) (himages : .images ∈ ps) (d' : List Byte) (moved result : Nat)
      (m : Mem) :
    Ctl.Keeps ps c (dmaEnd d' moved result m d).2 ↔ Ctl.Keeps ps c d := Ctl.keeps_iff_of_keeps (by simp [dmaEnd, hr, hmemory, himages])

@[simp] theorem Ctl.keeps_dmaJobDone (hr : Part.reported ⊆ ps) (hmemory : .memory ∈ ps) (hengines : .engines ∈ ps) (himages : .images ∈ ps)
      (moved : Nat) (bytes : List Byte) (err : Bool) (m : Mem) :
    Ctl.Keeps ps c (dmaJobDone moved bytes err m d).2 ↔ Ctl.Keeps ps c d := by
  refine Ctl.keeps_iff_of_keeps ?_
  unfold dmaJobDone
  dsimp only
  (repeat' split) <;> simp [hr, hmemory, hengines, himages]

@[simp] theorem Ctl.keeps_complete (hreadData : .readData ∈ ps) (houtputs : .outputs ∈ ps) (a : Nat) (poisoned : Bool) (bs : List Byte) :
    Ctl.Keeps ps c (d.complete a poisoned bs) ↔ Ctl.Keeps ps c d := Ctl.keeps_iff_of_keeps (by simp [Ctl.complete, hreadData, houtputs])

@[simp] theorem Ctl.keeps_winRead (hr : Part.reported ⊆ ps) (hreadData : .readData ∈ ps) (hmemory : .memory ∈ ps) (off len : Nat) (m : Mem) :
    Ctl.Keeps ps c (winRead off len m d) ↔ Ctl.Keeps ps c d := Ctl.keeps_iff_of_keeps (by simp [winRead, hr, hreadData, hmemory])

@[simp] theorem Ctl.keeps_winWrite (hr : Part.reported ⊆ ps) (hmemory : .memory ∈ ps) (off : Nat) (bs : List Byte) (m : Mem) :
    Ctl.Keeps ps c (winWrite off bs m d).2 ↔ Ctl.Keeps ps c d := by
  refine Ctl.keeps_iff_of_keeps ?_
  have e : (winWrite off bs m d).2 = if d.dramOk (d.winAddr off) bs.length then (dramStore 10 (d.winAddr off) bs m d).2 else d.incE 0x530003 :=
    apply_ite Prod.snd _ _ _
  rw [e]
  split
  · simp [hr, hmemory]
  · simp [hr]

/-! ### Of Machine/Registers.lean -/

@[simp] theorem Ctl.keeps_regRead (hregisters : .registers ∈ ps) (hheldHalves : .heldHalves ∈ ps) (hreadData : .readData ∈ ps) (fn : Nat)
      (r : RegName) (i : Nat) (active : Bool) :
    Ctl.Keeps ps c (d.regRead fn r i active) ↔ Ctl.Keeps ps c d := by
  refine Ctl.keeps_iff_of_keeps ?_
  unfold Ctl.regRead
  dsimp only
  (repeat' split) <;> simp [hregisters, hheldHalves, hreadData]

@[simp] theorem Ctl.keeps_readAt (hentries : .entries ∈ ps) (hregisters : .registers ∈ ps) (hheldHalves : .heldHalves ∈ ps)
      (hreadData : .readData ∈ ps) (hmemory : .memory ∈ ps) (fn : Nat) (at_ : RegAt) :
    Ctl.Keeps ps c (d.readAt fn at_) ↔ Ctl.Keeps ps c d := by
  refine Ctl.keeps_iff_of_keeps ?_
  unfold Ctl.readAt
  split <;> simp [hentries, hregisters, hheldHalves, hreadData, hmemory]

end Sys2Proof.Machine
end

section
/-! PROOFS. Frames: every command leaves the parts of the machine that its row does not name. -/
namespace Sys2Proof.Machine

variable {ps : List Part} {c d : Ctl}

/-! ### From the part to the machine -/

theorem Part.same_of_keeps {p : Part} (hp : p ∉ ps) (s : State) (h : Ctl.Keeps ps s.ctl d) : p.same s { s with ctl := d } := h s.mem s.pending p hp

theorem Part.same_of_keeps_mem {p : Part} (hp : p ∉ ps) (hd : .dram ∈ ps) (s : State) (m : Mem) (h : Ctl.Keeps ps s.ctl d) :
    p.same s { s with ctl := d, mem := m } := by
  have h' := h s.mem s.pending p hp
  cases p
  case dram => exact absurd hd hp
  all_goals exact h'

/-- A row that names every part but DRAM leaves nothing of the part to keep. -/
theorem Ctl.keeps_of_all (h : Part.all.filter (fun p => !List.contains [.dram] p) ⊆ ps) : Ctl.Keeps ps c d := by
  intro m l p hp
  cases p
  case dram => rfl
  all_goals exact absurd (h (by decide)) hp

/-! ### The commands -/

/-- What a reset of the part clears, and the non-volatile store. -/
def Part.settings : List Part := Part.all.filter (fun p => !List.contains [.draws, .dram] p)

theorem Part.cleared_settings : Part.cleared ⊆ Part.settings := by decide

theorem Part.nonVolatile_settings : .nonVolatile ∈ Part.settings := by decide

/-- What a cold start clears. -/
def Part.unpowered : List Part := Part.all.filter (fun p => !List.contains [.draws, .nonVolatile] p)

theorem Part.cleared_unpowered : Part.cleared ⊆ Part.unpowered := by decide

/-- A command leaves every part that its row does not name. -/
theorem exec_keeps (i : Instr) (s t : State) (p : Part) (hp : p ∉ mayChange i) (ht : exec i s = .next t) : p.same s t := by
  cases i <;> (injection ht with ht; subst ht)
  case vostanWrite | blockWrite | mailboxGo | registerWrite | frameFlip =>
    exact Part.same_of_keeps_mem (ps := Part.all) hp (by decide) s _ (Ctl.keeps_of_all (by decide))
  case vostanRead | blockRead | subscribe | commit | commitDiscard | loginChallenge | loginProof | loginLogout =>
    exact Part.same_of_keeps (ps := Part.all.filter fun p => !List.contains [.dram] p) hp s (Ctl.keeps_of_all (by decide))
  case warmReset | startTimeout | supplyFail | thermalRound | bootRestart | bootClearSettings | cyclicNotify | onChangeNotify | pairOutResetTimer =>
    exact Part.same_of_keeps (ps := Part.settings) hp s (by simp [Part.cleared_settings, Part.nonVolatile_settings])
  case shutdownRestart => exact Part.same_of_keeps (ps := Part.cleared) hp s (by simp)
  case powerOn =>
    exact Part.same_of_keeps_mem (ps := Part.unpowered) hp (by decide) s _ (by simp [Part.cleared_unpowered, Part.mem_of_cleared Part.cleared_unpowered])
  case stepCheckDone => exact Part.same_of_keeps hp s (by split <;> simp [mayChange])
  case windowAccess => exact Part.same_of_keeps_mem hp (by simp [mayChange]) s _ (by split <;> simp [mayChange])
  case sramScrub =>
    have h (q : Mem × Ctl) (x : Nat × Nat) : Ctl.Keeps (Part.reported ++ [.memory, .images, .dram]) q.2 (scrubReload q x).2 := by simp
    exact Part.same_of_keeps_mem hp (by simp [mayChange]) s _ (by simp [mayChange, h])
  case dramTrainingComplete | patrolScrub | sramCopyDone | storeDone | cxJobStart | cxJobEnd | cxFault | unitArrival | engineDispatch |
      sliceDecodeDone | cutoff | concealDone | engineFault | cullPlanDone | ingestRowStart | scheduleBlockReloaded | tableReloadDone |
      fillComplete | pictureCoded | popRecordWrite | listTailWrite | listResumeSkip | listResumeRetry | stencilCommandDone | stencilEcc |
      dmaJobDone | imageLoadData | dmaLoadEnd =>
    exact Part.same_of_keeps_mem hp (by simp [mayChange]) s _ (by simp [mayChange])
  all_goals exact Part.same_of_keeps hp s (by simp [mayChange])

end Sys2Proof.Machine

open Sys2Proof Sys2Proof.Machine

/-- Settles O5: a command leaves the parts that its row does not name, whether or not it may post an event. -/
theorem quietCommandsKeepTheOtherParts : Obligations.QuietCommandsKeepTheOtherParts := by
  unfold Obligations.QuietCommandsKeepTheOtherParts
  intro i s t p _ hp ht
  exact exec_keeps i s t p (by simpa using hp) ht

/-- Settles O6: a command leaves the parts that its row does not name, those that show an event among its row. -/
theorem reportingCommandsKeepTheOtherParts : Obligations.ReportingCommandsKeepTheOtherParts := by
  unfold Obligations.ReportingCommandsKeepTheOtherParts
  intro i s t p _ hp ht
  exact exec_keeps i s t p (by simpa using hp) ht

end
